-- ==== Sys2Proof/Word.lean ====
section
/-! DEFINITION. The word types of the Z9C-1 and their plainest arithmetic. -/

namespace Sys2Proof

/-- A register (R5): 32 bits. -/
abbrev Word := BitVec 32

/-- A 64-bit quantity: a register pair, a key unit, a wire word. -/
abbrev W64 := BitVec 64

/-- One byte. -/
abbrev Byte := BitVec 8

/-- A binary32 value in its encoded form (IEEE 754-2019). -/
abbrev F32 := BitVec 32

/-- A PT64 instant (R3): unsigned 64-bit nanoseconds since the PTP epoch, TAI. -/
abbrev Instant := BitVec 64

/-- The difference of two instants is a signed 64-bit count of nanoseconds (R4). -/
def Instant.diff (a b : Instant) : Int := (a - b).toInt

/-- `a` lies strictly before `b`, judged by the signed difference (R4). -/
def Instant.before (a b : Instant) : Bool := decide (Instant.diff a b < 0)

/-- `a` lies at or before `b` (R4). -/
def Instant.atOrBefore (a b : Instant) : Bool := !Instant.before b a

/-- The later of two instants (R4). -/
def Instant.later (a b : Instant) : Instant := if Instant.before a b then b else a

/-- `a` moved on by `n` nanoseconds. -/
def Instant.plus (a : Instant) (n : Nat) : Instant := a + BitVec.ofNat 64 n

end Sys2Proof
end

