-- ==== Sys2Proof/Syntax.lean ====
section
/-! DEFINITION. The commands of the block (spec/opcode_table.json, one constructor per row), the register names and the
plain-data types their operands are made of, the decoded plant image among them. -/

namespace Sys2Proof

/-! ## Registers -/

/-- Every register name of the manual's register tables, in the order of the slots of R367 and, within a slot, of the
chapters (R368). -/
inductive RegName where
  -- slot 0, SUP (02 R56, 15 R364)
  | SUP_START | SUP_ISLAND
  -- slot 1, RST and the event controller (20 R442)
  | RST_CAUSE | RST_CTL | RST_WDOG | RST_POWER | RST_EV_PEND | RST_EV_ROUTE | RST_EV_SUM
  -- slot 2, AC (16)
  | AC_CTL | AC_SLOT | AC_FAULT | AC_FAULT_ADDR_LO | AC_FAULT_ADDR_HI | AC_ECC | AC_SCRUB
  -- slot 3, PK, and slot 4, UP (19)
  | PK_STATUS | PK_SEQ | PK_SERIAL_LO | PK_SERIAL_HI
  | UP_STATUS | UP_PROGRESS | UP_TRIAL
  -- slot 5, SN (18)
  | SN_STATUS | SN_NEWEST_LO | SN_NEWEST_HI | SN_OLDEST_LO | SN_OLDEST_HI | SN_LOST | SN_SUPPRESSED
  | SN_CURSOR_LO | SN_CURSOR_HI | SN_WSTAT
  -- slot 6, MB (17)
  | MB_STAT | MB_DOOR | MB_ACK
  -- slot 7, LK (14)
  | LK_PAIR | LK_FAULT | LK_COUNT | LK_MISS_LO | LK_MISS_HI | LK_CMD | LK_CMD_RESULT
  -- slot 8, MT (03 R90)
  | MT_FRC_LO | MT_FRC_HI | MT_PT_LO | MT_PT_HI | MT_BT_LO | MT_BT_HI | MT_TB_LO | MT_TB_HI
  | MT_LATCH_FRC_LO | MT_LATCH_FRC_HI | MT_LATCH_PT_LO | MT_LATCH_PT_HI | MT_LATCH_BT_LO | MT_LATCH_BT_HI
  | MT_LATCH_TB_LO | MT_LATCH_TB_HI
  | MT_STATE | MT_CTL | MT_OFFSET | MT_ERR_EST | MT_OUTLIERS | MT_PT_SRC | MT_TB_CFG
  -- slot 9, LN (04)
  | LN_STATUS | LN_OVERRUN | LN_DISCARD | LN_SUB
  -- slot 10, LE (05 R147)
  | LE_CTL | LE_CMD | LE_CMD_VAL | LE_CMD_RESULT | LE_OVERRUN | LE_FAULT | LE_LOAD | LE_FDELAY
  -- slot 11, LA (06)
  | LA_STATUS | LA_SEL | LA_LOOP | LA_SLOT | LA_SURGE | LA_COUNT
  -- slot 12, GY (09)
  | GY_STATUS | GY_CH | GY_COND_LO | GY_COND_HI | GY_SET | GY_CAP | GY_CMD | GY_LOST
  -- slot 13, BN (13)
  | BN_STATUS | BN_LOOP | BN_EPOCH | BN_HEALTH | BN_EQ | BN_VERIFY | BN_TAKEOVER | BN_CMD | BN_HO_AT_LO | BN_HO_AT_HI
  | BN_CMD_RESULT
  -- slot 14, PN (11)
  | PN_PORT | PN_DROP | PN_PTP | PN_SEL | PN_SSTAT | PN_SVC
  -- slots 15 to 19, CN (12 R293)
  | CN_CFG | CN_CTL | CN_STAT | CN_ERR | CN_PROT | CN_TIMING | CN_OBJCMD | CN_OBJRES
  -- slots 20 to 28, SX (10)
  | SX_PORT | SX_LAP | SX_ERR | SX_CAR | SX_EPOCH
  -- slots 29 to 32, UC (07 R197)
  | UC_CFG | UC_STAT | UC_DIAG | UC_SLICE | UC_HART
  -- slots 33 to 38, DC (08 R219)
  | DC_CFG | DC_STAT | DC_DIAG | DC_GROUP
  deriving DecidableEq, Repr, Inhabited

/-- One register: its name and its instance number (0 where the register has one instance; PN_PORT, PN_DROP and PN_PTP
count from 1). -/
structure Reg where
  name : RegName
  idx  : Nat := 0
  deriving DecidableEq, Repr, Inhabited

/-- The two writers of the blocks' command registers: instance 0 application, 1 supervisor (R144, R283). -/
inductive Writer where
  | app | sup
  deriving DecidableEq, Repr, Inhabited

/-- The requester classes of R366. -/
inductive Cls where
  | sup | rt | usr | split | debug
  deriving DecidableEq, Repr, Inhabited

/-- The two logic feeds (R32). -/
inductive Feed where
  | a | b
  deriving DecidableEq, Repr, Inhabited

/-- A channel of the own carrier: universal 0 to 31 or digital 0 to 47 (R168, R198). -/
inductive Chan where
  | uni (n : Fin 32)
  | dig (m : Fin 48)
  deriving DecidableEq, Repr, Inhabited

/-! ## The plant image, as decoded (R25, R47)

The manual gives what the image declares, not how its payload is laid out: PLANT_IMAGE_DECODED brings the decoded
content. Records whose bits the manual gives (launch groups, entries, loop blocks, message objects) are kept as those
bits. -/

/-- A point's declaration: KIND (R13), stale limit (R12) and substitute (R12). -/
structure PointCfg where
  kind  : Nat := 0
  stale : Option Nat := none
  subst : Option Word := none
  cls   : Nat := 1
  states : List Word := []                    -- the states of an Enumeration (R13)
  deriving DecidableEq, Repr, Inhabited

/-- A publication stream (R105 to R108, R267). -/
structure PubCfg where
  cls    : Nat := 1
  ta     : Nat := 10000
  points : List Nat := []
  repl   : Bool := false
  port   : Nat := 1
  vlan   : Nat := 0
  deriving DecidableEq, Repr, Inhabited

/-- A subscription stream (R110, R114, R268). `points` are subscription indices. -/
structure SubCfg where
  binary : Nat := 0
  stream : Nat := 0
  cls    : Nat := 1
  points : List Nat := []
  coord  : Bool := false
  vlan   : Nat := 0
  len    : Nat := 1520
  repl   : Bool := false
  deriving DecidableEq, Repr, Inhabited

/-- A transit stream (R262, R268): the egress ports where its declared paths merge, and whether its member paths enter by both
plant ports. -/
structure TransitCfg where
  binary : Nat := 0
  stream : Nat := 0
  vlan   : Nat := 0
  cls    : Nat := 1
  len    : Nat := 1520
  merges : List Nat := []
  both   : Bool := false
  deriving DecidableEq, Repr, Inhabited

/-- An entry of the peer table (R269): a binary, both its modules together, or a service client by its address; the plant ports
through which it is reached. -/
structure Peer where
  binary : Option Nat := none
  client : Nat := 0
  ports  : List Nat := []
  deriving DecidableEq, Repr, Inhabited

/-- A declared VLAN (R262, R264). -/
structure VlanCfg where
  vid     : Nat := 0
  pcp     : Nat := 0
  service : Bool := false
  forward : Bool := false
  deriving DecidableEq, Repr, Inhabited

/-- One entry of a port's gate control list (R265): offset in ns within 1 ms and the traffic classes open, one bit per
class. -/
structure GateEntry where
  offset : Nat := 0
  gates  : BitVec 8 := 0
  deriving DecidableEq, Repr, Inhabited

/-- A universal channel (R168 to R185, R188 to R190, R197). `cfg` is the word UC_CFG[n] takes, with the
chapter's default in every field that the image leaves absent (4-wire, V_CMAX 17.0 V). -/
structure UcCfg where
  ch      : Fin 32
  cfg     : Word := 0x001000AA#32
  point   : Nat := 0
  cmd     : Nat := 0
  safeVal : F32 := 0
  elLo    : Option F32 := none
  elHi    : Option F32 := none
  engLo   : Option F32 := none
  engHi   : Option F32 := none
  trimG   : F32 := 0x3F800000#32
  trimO   : F32 := 0
  tauCs   : Nat := 0
  scan    : Nat := 10
  hartId  : Nat := 0
  hartPts : List Nat := []
  hartVars : List Byte := []
  cvd     : Option (F32 × F32 × F32) := none
  kelvin  : Bool := false
  cjSubst : Bool := false
  deriving DecidableEq, Repr, Inhabited

/-- A digital channel (R198 to R206, R219). `cfg` is the word DC_CFG[m] takes, with the chapter's default in every field that
the image leaves absent (Type 3, filter 1 ms). -/
structure DcCfg where
  ch    : Fin 48
  cfg   : Word := 0x09800000#32
  point : Nat := 0
  cmd   : Nat := 0
  load  : Nat := 0
  deriving DecidableEq, Repr, Inhabited

/-- A Geyser capture channel (R220, R221, R227, R232). `param` is D for RAW and the interval in ns otherwise;
absent, D is 1 and the interval 10 ms, the default that R161 gives the channels of a surge group. -/
structure GyChCfg where
  ch        : Fin 64
  source    : Nat := 1
  index     : Nat := 0
  triggered : Bool := false
  lossless  : Bool := false
  prio      : Nat := 0
  mode      : Nat := 0
  param     : Option Nat := none
  deriving DecidableEq, Repr, Inhabited

/-- The kinds of a Geyser condition (R229). -/
inductive CondKind where
  | above | below | rise | fall | bitSet (b : Fin 8) | bitClear (b : Fin 8) | notGood
  deriving DecidableEq, Repr, Inhabited

/-- A Geyser condition (R229). -/
structure CondCfg where
  n    : Fin 64
  ch   : Fin 64
  kind : CondKind := .above
  thr  : F32 := 0
  hyst : F32 := 0
  deriving DecidableEq, Repr, Inhabited

/-- A pattern unit (R230): it belongs to the module's trigger set instance `setK`. -/
structure PatternCfg where
  u    : Fin 8
  mask : W64 := 0
  val  : W64 := 0
  qual : Nat := 0
  setK : Fin 16
  deriving DecidableEq, Repr, Inhabited

/-- A trigger set the module takes part in (R233, R234). Times in ns. -/
structure GySetCfg where
  k       : Fin 16
  num     : Nat := 0
  master  : Nat := 0
  pre     : Nat := 0
  post    : Nat := 0
  fa      : Nat := 0
  lead    : Nat := 10000000
  holdoff : Nat := 1000000000
  rearm   : Bool := false
  chans   : List (Fin 64) := []
  deriving DecidableEq, Repr, Inhabited

/-- A Scapex carrier (R245, R254, R259). `slices` in its slots; `watchdog` in ns. -/
structure CarCfg where
  i        : Fin 256
  identity : Nat := 0
  ready    : Nat := 0
  watchdog : Nat := 20000000
  slices   : Nat := 1
  -- input point of (slice, channel), command point of (slice, channel): 8 per slice, in order; 0x3FFFFF is none
  inPts    : List Nat := []
  outPts   : List Nat := []
  -- channels of output kind immediate (R103), as 8 × slice + channel
  immediate : List Nat := []
  -- channels that are digital outputs by their channel configuration (R244)
  digital : List Nat := []
  deriving DecidableEq, Repr, Inhabited

/-- A Scapex port (R245 to R249, R255). -/
structure SxPortCfg where
  p     : Fin 8
  lap   : Nat := 0
  dOut  : Nat := 1
  tolerant : Bool := false                    -- break-tolerant: T_IN takes 2 × L
  deriving DecidableEq, Repr, Inhabited

/-- A CAN port (R276, R277, R289, R293). -/
structure CnPortCfg where
  p      : Fin 4
  cfg    : Word := 0
  timing : Word := 0
  deriving DecidableEq, Repr, Inhabited

/-- A CAN message object (R279, R280): its 16-byte header as the image gives it. -/
structure CnObjCfg where
  p   : Fin 4
  o   : Fin 128
  hdr : BitVec 128 := 0x1000000000000000#128  -- RETRY_LIMIT 16
  deriving DecidableEq, Repr, Inhabited

/-- The adaptation declarations of one loop (R149 to R151, R154). Parameters in binary32; times in ns. A default that
depends on another field is none. -/
structure AdaptCfg where
  loop     : Nat
  ident    : Bool := false
  install  : Bool := false
  surge    : Bool := false
  pulse    : Bool := true
  relay    : Bool := false
  trigger  : Bool := false
  hMax     : Option F32 := none
  dMax     : F32 := 0
  dStart   : Option F32 := none
  tp       : Option Nat := none
  tMax     : Nat := 600000000000
  interval : Nat := 86400000000000
  tuneSets : List Nat := [1]
  rLo      : F32 := 0x3F000000#32
  rHi      : F32 := 0x40000000#32
  stepMax  : F32 := 0x3FC00000#32
  lambda   : F32 := 0x3F800000#32
  fitMax   : F32 := 0x3E19999A#32
  gmMin    : F32 := 0x40000000#32
  pmMin    : F32 := 0x42340000#32
  probation : Nat := 600000000000
  revertRatio : F32 := 0x3FC00000#32
  interact : Nat := 0
  kp0      : F32 := 0
  ti0      : F32 := 0
  td0      : F32 := 0
  nDiv     : F32 := 0x41200000#32
  k0       : Option F32 := none
  deriving DecidableEq, Repr, Inhabited

/-- A surge group (R161): margins in binary32, the surge line as (dP, Q) points, members as (loop, defence set). -/
structure SurgeCfg where
  g       : Fin 32
  qCh     : Fin 64
  dpCh    : Fin 64
  line    : List (F32 × F32) := []
  mArm    : F32 := 0x3DF5C28F#32
  mTrip   : F32 := 0x3D4CCCCD#32
  mRel    : F32 := 0x3E19999A#32
  fThr    : F32 := 0x3D23D70A#32
  n       : Nat := 3
  hRel    : Nat := 10000000000
  members : List (Nat × Nat) := []
  blindSwitch : Bool := false
  deriving DecidableEq, Repr, Inhabited

/-- A Sinter rate override (R399). -/
structure RateCfg where
  code  : BitVec 16
  rate  : Nat
  burst : Nat
  deriving DecidableEq, Repr, Inhabited

/-- A roll's state map from one running selection (R422): its two tags and its 8-byte entries. -/
structure StateMap where
  cfgTag  : W64
  fwTag   : W64
  entries : List W64
  deriving DecidableEq, Repr, Inhabited

/-- The plant image as decoded. Every field the manual lets the image declare; a field left absent has its chapter's
default. (DESIGN CHOICE, log entry 44) -/
structure PlantImage where
  format      : Nat := 1
  baseKind    : Nat := 1                      -- 1 Z9B-S, 2 Z9B-P (R450)
  -- 02 and 03
  holdTime    : Nat := 0                      -- ns (R61)
  acqLimit    : Nat := 10                     -- s (R53)
  hops        : Nat := 16                     -- R475
  ptSrc       : Nat := 0                      -- R83
  tbCfg       : List Word := []               -- MT_TB_CFG[n] (R83)
  delayAsym   : List Int := []                -- per port, ns (R80)
  extPorts    : List (Nat × Nat) := []        -- external port configuration: domain, its slave port, 0 none (R80)
  twoStep     : List Nat := []                -- ports with one-step transmit disabled (R80)
  -- 00 and 04
  points      : List (Nat × PointCfg) := []
  subPoints   : List (Nat × PointCfg) := []
  groups      : List (BitVec 128) := []       -- R93
  entries     : List W64 := []                -- R94
  tasks       : List Nat := []                -- tasks defined (R95)
  taskPts     : List (Nat × Nat) := []        -- (task, point) it produces
  pubs        : List PubCfg := []
  subs        : List SubCfg := []
  -- 05
  loopDir     : List (Nat × Nat) := []        -- descriptor index, first block (R118)
  loopBlocks  : List (Nat × BitVec 256) := [] -- the loop region as compiled (R118 to R124)
  -- 06
  adapt       : List AdaptCfg := []
  surge       : List SurgeCfg := []
  -- 07, 08
  uc          : List UcCfg := []
  dc          : List DcCfg := []
  cjSubst     : List (Nat × F32) := []        -- slice, substitute temperature (R185)
  -- 09
  gyCh        : List GyChCfg := []
  sliceTb     : List Nat := []                -- time-base selectors of slices 0 to 9 (R84)
  gyCond      : List CondCfg := []
  gyPat       : List PatternCfg := []
  gySet       : List GySetCfg := []
  gyArchive   : Nat := 1073741824             -- bytes (R226)
  -- 10
  sxPort      : List SxPortCfg := []
  sxCar       : List CarCfg := []
  -- 11
  transit     : List TransitCfg := []
  vlans       : List VlanCfg := []
  gcl         : List (Nat × GateEntry) := []  -- port, entry (R265)
  portTb      : List Nat := []
  address     : List Nat := []                -- the module's own IP addresses (R272)
  peers       : List Peer := []               -- R269
  ctlVlan     : Nat := 0                      -- the VLAN of the module's control frames (R263)
  -- 12
  cnPort      : List CnPortCfg := []
  cnObj       : List CnObjCfg := []
  -- 13
  arbiter     : Bool := false
  healthPts   : Option (Nat × Nat) := none
  yieldOff    : BitVec 3 := 0
  readMap     : List Nat := []                -- tracked blocks read by somebody (R317)
  fastBlocks  : List Nat := []                -- fast and input blocks (R312)
  -- 14, 16
  splittable  : List Nat := []
  splitSize   : Nat := 0                      -- bytes (R366)
  splitEntry  : List (Nat × Nat × Nat) := []  -- pair, entry addresses of split cores 0 and 1 (R348)
  checkpoints : List (Nat × Nat × Nat) := []  -- pair, address and bytes of its checkpoint area (R348)
  slots       : List (Nat × Word) := []       -- AC_SLOT[n] (R369)
  declSeal    : Bool := false
  -- 18, 19, 20
  anchorPeriod : Nat := 100000000             -- ns (R406)
  rates       : List RateCfg := []
  transition  : Option (Nat × List Word) := none -- point reference and transition values (R411)
  interrupt   : Bool := false
  rollWait    : Nat := 600000000000
  maps        : List StateMap := []
  routes      : List Word := []               -- RST_EV_ROUTE[g]
  retained    : List (Nat × Nat) := []        -- retained word, the tracked word of the application memory it keeps
  deriving DecidableEq, Repr, Inhabited

/-! ## Operand types -/

/-- A base as the module reads it (R450): identification memory (readable, CRC right, serial, kind, binary number, owner
fingerprint of each position) and straps (position B, kind code, parity right). -/
structure BaseMem where
  readable : Bool := true
  crcOk    : Bool := true
  serial   : W64 := 0
  kind     : Nat := 1
  binary   : Nat := 0
  fpA      : BitVec 384 := 0
  fpB      : BitVec 384 := 0
  posB     : Bool := false
  strapKind : Nat := 1
  parOk    : Bool := true
  deriving DecidableEq, Repr, Inhabited

/-- The results of the start-up self-test (R52, R338, R339): memory, one bit per loop-engine lane, one bit per pair for
comparators X and Y and for the delay stages. -/
structure SelfTest where
  memOk   : Bool := true
  lanes   : BitVec 8 := 0xFF
  cmpX    : BitVec 5 := 0x1F
  cmpY    : BitVec 5 := 0x1F
  stages  : BitVec 5 := 0x1F
  deriving DecidableEq, Repr, Inhabited

/-- Where the step of start-up comes from (R72). -/
inductive TimeStep where
  | partner (pt bt : Instant) (state : Nat)
  | gptp
  deriving DecidableEq, Repr, Inhabited

/-- A view of FRC (R67). -/
inductive ViewId where
  | pt | bt | tb (n : Fin 8)
  deriving DecidableEq, Repr, Inhabited

/-- A handshake channel (R356). Islands are numbered as in R354. -/
inductive Channel where
  | meridian (island : Fin 18)      -- Meridian to an island: launch entries
  | sample (slice : Fin 10)         -- shell to the memory port: sample sets
  | commit (slice : Fin 10)         -- memory port to a shell: commit values
  | immediate (island : Fin 18)     -- loop engine to a shell or Scapex: immediate outputs
  deriving DecidableEq, Repr, Inhabited

/-- A frame arriving at a plant port, as the bridge sees it (R262 to R271). -/
inductive NetFrame where
  | stream (binary stream vlan : Nat) (len : Nat) (rseq : BitVec 16) (hdr : BitVec 256) (recs : List W64)
  | control (vid len : Nat)
  | gptp (domain : Nat)
  | ptpManagement
  | tagged (vid : Nat) (len : Nat)
  | badFcs
  deriving DecidableEq, Repr, Inhabited

/-- A peer-delay message (R80), with its port timestamps in ns. -/
inductive PdelayMsg where
  | request (seq : Nat) (rx tx : Nat)          -- received at rx, answered at tx
  | response (seq : Nat) (t1 t2 t3 t4 : Nat)   -- the exchange the port began
  | lost
  deriving DecidableEq, Repr, Inhabited

/-- A Scapex frame (R242): header, payload words, and whether its FCS is right. -/
structure SxFrame where
  hdr     : BitVec 192 := 0
  payload : List W64 := []
  fcsOk   : Bool := true
  deriving DecidableEq, Repr, Inhabited

/-- A received CAN frame (R281). -/
structure CanFrame where
  id   : BitVec 29 := 0
  ide  : Bool := false
  fdf  : Bool := false
  brs  : Bool := false
  esi  : Bool := false
  dlc  : Nat := 0
  data : List Byte := []
  deriving DecidableEq, Repr, Inhabited

/-- What every service message carries (R274): its session, MSG_ID and body length. -/
structure SvcMsg where
  sess  : Fin 4
  msgId : Word := 0
  len   : Nat := 0
  deriving DecidableEq, Repr, Inhabited

/-- What a TLS handshake at the service port shows (R272, R273, R425): suite and group as required, the chain to the
trust anchor or to the Vuzal recovery anchor, the role (0 Reader, 1 Operator, 2 Engineer, 3 Owner), and whether it comes
on the base's service Ethernet contact. -/
structure Handshake where
  suiteOk  : Bool := true
  anchorOk : Bool := true
  recovery : Bool := false
  role     : Nat := 0
  basePort : Bool := false
  port     : Fin 2 := 0                       -- the plant port it comes through, where it is not the base's contact
  deriving DecidableEq, Repr, Inhabited

/-- Which Geyser block a read names (R237). -/
inductive BlockSel where
  | seq (c : Fin 64) (n : Nat)
  | capture (cap : Nat) (i : Nat)
  deriving DecidableEq, Repr, Inhabited

/-- The result of a rerun (R341): it ended clean, or it mismatched at a write with a stage record, as the comparators in
service saw it. -/
inductive Rerun where
  | clean
  | mismatch (write : Nat) (stage : Nat) (x y : Bool)
  deriving DecidableEq, Repr, Inhabited

/-- The authority-loop indications of R295. -/
inductive Indication where
  | unclaimed | a | b
  deriving DecidableEq, Repr, Inhabited

/-- Causes of a stall (R360, Sinter 0xD001). -/
inductive StallCause where
  | tokens | clock | timing
  deriving DecidableEq, Repr, Inhabited

/-- What a read of a memory word finds (R380). -/
inductive Ecc where
  | clean | corrected | uncorrectable
  deriving DecidableEq, Repr, Inhabited

/-- A core's or debug master's access (R371): class, pair, split core, address, size and, for a write, its bytes. -/
structure Access where
  cls   : Cls
  pair  : Fin 5 := 0
  core  : Bool := false
  addr  : Nat
  size  : Nat
  data  : Option (List Byte) := none
  task  : Nat := 0
  ecc   : List Ecc := []
  deriving DecidableEq, Repr, Inhabited

/-- What a side record carries (R311): values committed to own-slice outputs, or boundary samples and counts. -/
inductive SideRecord where
  | commits (vals : List (Chan × Word))
  | samples (uni : List (Fin 32 × List (Instant × F32))) (dig : List (Fin 48 × List (Instant × Word × Bool)))
  deriving DecidableEq, Repr, Inhabited

/-- What equalization carries of a loop's adaptation (R165): forbids, phase, return set, probation and lockout, with the sums and
parameters that they go on with, and the set that the layer has in force. (DESIGN CHOICE, log entry 111) -/
structure AdaptItem where
  fIdent   : Bool := false
  fInstall : Bool := false
  fSurge   : Bool := false
  phase    : Nat := 0
  ret      : Nat := 0
  probEnd  : Instant := 0
  lockEnd  : Instant := 0
  probIae  : F32 := 0
  refIae   : F32 := 0
  lastEnd  : Option Instant := none
  cand     : Option (F32 × F32 × F32) := none
  prevPar  : Option (F32 × F32 × F32) := none
  model    : Option (F32 × F32 × F32) := none
  setPrev  : Nat := 0
  set      : Option Nat := none
  deriving DecidableEq, Repr, Inhabited

/-- What a snapshot holds beside tracked words (R165, R320, R321): SEQUENCE of each stream's last frame, the manual value
of loops, the adaptation layer's equalized state by loop, and the surge groups' registers. Where it lies in the equalized area
the manual does not give. -/
structure SnapItems where
  seqs    : List (Nat × Nat) := []
  manuals : List (Nat × F32) := []
  adapt   : List (Nat × AdaptItem) := []
  surge   : List (Nat × Word) := []
  deriving DecidableEq, Repr, Inhabited

/-- What the maintenance or update order asks the former active to do after a hand-over (R301). -/
inductive After where
  | join | restart | maintenance
  deriving DecidableEq, Repr, Inhabited

/-- Owner-lock contacts as debounced (R451). -/
inductive LockState where
  | opened | closed | invalid
  deriving DecidableEq, Repr, Inhabited

/-- A HART reply (R190, R191): command, response code, device status byte, more-status, and the device variables as
(value, bad). -/
structure HartReply where
  cmd    : Nat := 9
  code   : Byte := 0
  device : Byte := 0
  more   : Bool := false
  burst  : Bool := false
  malf   : Bool := false
  vars   : List (F32 × Bool) := []
  deriving DecidableEq, Repr, Inhabited

/-- What ends an identification test, in binary32 (R154): the τ and θ at which PULSE's least squares ends, or the end of RELAY, whose
point its log gives. -/
inductive TestModel where
  | pulse (tau theta : F32)
  | relay
  deriving DecidableEq, Repr, Inhabited

/-- The standby's self-test results (R324). -/
structure StandbyTest where
  lockstepBad : Bool := false
  memoryBad   : Bool := false
  readbackBad : Bool := false
  engineBad   : Bool := false
  deriving DecidableEq, Repr, Inhabited

/-- What the retained variables keep of a loop's adaptation (R160, R167): forbids, the parameters and model that passed
probation, and the declarations they were found under. (DESIGN CHOICE, log entry 74) -/
structure KeptAdapt where
  fIdent   : Bool := false
  fInstall : Bool := false
  fSurge   : Bool := false
  par      : Option (F32 × F32 × F32) := none
  model    : Option (F32 × F32 × F32) := none
  cfg      : Option AdaptCfg := none
  deriving DecidableEq, Repr, Inhabited

/-- A cartridge as it is inserted (R50): its 64-bit units by address ÷ 8, and what its retained variables hold whose place the
manual does not give: the CFG_TAG of their header (R422) and the adaptation records (R160, R167). -/
structure KeyImage where
  units  : List (Nat × W64) := []
  retTag : W64 := 0
  adapt  : List (Nat × KeptAdapt) := []
  deriving DecidableEq, Repr, Inhabited

/-- The party that touches a mailbox (R386). -/
inductive Party where
  | sender | receiver
  deriving DecidableEq, Repr, Inhabited

/-- What a shell finds with a diagnostic: nothing more, the channel whose stage drives the terminal (R212), or an input whose
terminals are wired to a supply (R184). -/
inductive DiagCause where
  | plain
  | foreign (j : Fin 48)
  | clamped
  deriving DecidableEq, Repr, Inhabited

/-- A sample of a capture source (R220, R221), or a missing or late one. -/
inductive GySample where
  | word (w : BitVec 24)      -- source 0x1: the converter word (R172)
  | bits (b : Byte)           -- source 0x2: terminal states
  | record                    -- sources 0x3 and 0x4: taken from the process image or the loop
  | missing
  deriving DecidableEq, Repr, Inhabited

/-! ## The commands -/

/-- The commands of spec/opcode_table.json, one constructor per row and in its order.
(DESIGN CHOICE, log entries 7, 90) -/
inductive Instr where
  -- registers (00 R5 to R7)
  | registerWrite (w : Writer) (r : Reg) (v : Word)
  | pairLoRead (r : Reg)
  | pairLoWrite (r : Reg) (v : Word)
  | pairHiWrite (w : Writer) (r : Reg) (v : Word)
  | w1cWrite (r : Reg) (v setNow : Word)
  | rcRead (r : Reg) (setNow : Word)
  -- start-up (02)
  | powerGood (f : Feed) (volts : Nat)
  | resetRelease (xOk yOk : Bool)
  | keyHeaderRead
  | firmwareVerified
  | baseIdentRead (base : Option BaseMem)
  | configBankLoaded
  | selfTestDone (t : SelfTest)
  | plantImageDecoded (img : PlantImage)
  | shellsLoaded
  | timeAcquired (t : TimeStep)
  | acquisitionTimeout
  | roleDecision (partnerHash : BitVec 384) (partnerFw : W64) (updateNames : Option (BitVec 384))
  | firstCommit
  | carrierConfigure (i : Fin 256) (identity : Option Nat)
  -- launched work (04, 05, 07, 08, 15)
  | launchEntryHandoff (entry : Nat) (instant : Instant)
  | handshakeReceive (ch : Channel)
  | sampleOwnSlices (slice : Fin 10) (group : Nat) (s : Instant) (words : List (Fin 32 × List (BitVec 24)))
  | fastSampleComplete (group : Nat) (s : Instant)
  | computeLoops (entry : Nat) (c : Instant)
  | lanePreempt (lane : Fin 8) (loop : Nat)
  | loopComplete (loop : Nat)
  | loopOverrun (loop : Nat)
  | fastLoopComplete (loop : Nat)
  | fastLoopAbandon (loop : Nat)
  | laneTest (lane : Fin 8) (pass : Bool)
  | runApplicationTask (entry : Nat) (c : Instant)
  | taskComplete (task : Nat) (points : List (Nat × Word)) (words : List (Nat × W64))
  | taskOverrun (task : Nat)
  | commitOwnSlices (entry : Nat) (k : Instant)
  | commitScapexCarriers (entry : Nat) (k : Instant)
  -- publishing and subscribing (04, 11)
  | publishStreams (entry : Nat) (k : Instant)
  | gateEvent (port : Fin 2) (i : Nat)
  | frameIngress (port : Fin 2) (f : NetFrame)
  | subFrameAccept (n : Fin 4096) (port : Fin 2) (rseq : BitVec 16) (hdr : BitVec 256) (recs : List W64)
  | validAtApply (n : Fin 4096)
  | expectedInstantMissed (n : Fin 4096)
  -- plant time (03, 22)
  | viewRebase (v : ViewId)
  | mtLatch
  | mtReepoch (w : Writer)
  | gptpSyncReceived (domain : Fin 128) (port : Fin 2) (secs ns : Nat) (corr cum : Int) (residence : Nat)
  | gptpPdelayMessage (port : Fin 2) (m : PdelayMsg)
  | gptpSignaling (port : Fin 2) (logSync logPdelay : Int)
  | sourceLost
  | holdoverErrCross
  | ppsEdge (frc : W64)
  | f10mMeasurement (hz : Nat)
  | ppsOutPulse
  -- loop commands (05)
  | loopAuto (w : Writer) (loop : Nat)
  | loopManual (w : Writer) (loop : Nat)
  | loopManualValue (w : Writer) (loop : Nat)
  | loopRestart (w : Writer) (loop : Nat)
  | loopSwitch (w : Writer) (loop : Nat) (set : Fin 4)
  -- adaptation and surge defence (06)
  | setStage (loop : Nat)
  | testStart (loop : Nat) (relay : Bool) (ordered : Bool)
  | testAbort (slot : Fin 16)
  | testComplete (slot : Fin 16) (m : TestModel)
  | probationRevert (loop : Nat)
  | probationEnd (loop : Nat)
  | lockoutEnd (loop : Nat)
  | surgeIntervalClose (g : Fin 32)
  | surgeRelease (g : Fin 32)
  | adaptForbid (h : SvcMsg) (loop : Nat) (ident install surge : Bool)
  | adaptLift (h : SvcMsg) (loop : Nat) (ident install surge : Bool)
  -- channel diagnostics (07, 08, 21)
  | diagRaised (c : Chan) (bit : Fin 16) (cause : DiagCause)
  | diagCleared (c : Chan) (bit : Fin 16)
  | crosscheckRound (slice : Fin 4) (own check : F32)
  | tcOpenTest (n : Fin 32) (ohms : Nat)
  | voutRetry (n : Fin 32) (stillLimited : Bool)
  | shellTempOff (slice : Fin 10) (temp : Int)
  | shellTempMeasure (slice : Fin 10) (temp : Int)
  | elementCheck (n : Fin 32) (code : Nat)
  -- HART (07)
  | hartConnect (n : Fin 32) (reply : Option (Nat × HartReply))
  | hartPoll (n : Fin 32)
  | hartResponse (n : Fin 32) (r : HartReply)
  | hartTimeout (n : Fin 32)
  | hartPassthrough (h : SvcMsg) (n : Fin 32) (frame : List Byte)
  | hartPassthroughSend (n : Fin 32) (answer : Option (HartReply × List Byte))
  -- digital channels (08)
  | inputChangeAccepted (m : Fin 48) (on : Bool)
  | outputOverloadOff (m : Fin 48)
  | outputOverloadRetry (m : Fin 48)
  | outputOvertempOff (m : Fin 48)
  | supplyStateChange (g : Fin 6) (millivolts : Nat)
  | reapplyTurn (g : Fin 6)
  | groupOver (g : Fin 6) (milliamps : Nat)
  | sinkShareChange (g : Fin 6) (seen : Bool)
  -- Geyser (09)
  | gyIntervalClose (c : Fin 64)
  | gyLevelRise (stage : Nat)
  | gyLevelFall (stage : Nat)
  | patternFire (u : Fin 8)
  | armOrder (k : Fin 16) (armAt : Instant)
  | armReceived (k : Fin 16) (arms : BitVec 16) (armAt : Instant)
  | armAt (k : Fin 16)
  | fireReceived (k : Fin 16) (t : Instant) (binary : Nat) (posB : Bool) (arms : BitVec 16)
  | gyWindowComplete (slot : Fin 16)
  | gyHoldoffExpire (k : Fin 16)
  | gyRelease (slot : Fin 16)
  | gyFireOrder (k : Fin 16)
  | gyRdRead (b : BlockSel)
  | svcGyBlockRead (h : SvcMsg) (b : BlockSel)
  | svcGyBlockAck (h : SvcMsg) (c : Fin 64) (seq : Nat)
  | svcGyRelease (h : SvcMsg) (slot : Fin 16)
  | svcGyFire (h : SvcMsg) (k : Fin 16)
  -- Scapex (10)
  | collectLaunch (entry : Nat) (s : Instant)
  | collectReturn (port : Fin 8) (f : SxFrame)
  | collectComplete (entry : Nat)
  | timeFrameSend
  | timeFrameReturn (port : Fin 8) (f : SxFrame) (lap : Nat)
  | scapexForward (port : Fin 8) (f : SxFrame) (delay : Nat)
  | scapexSegmentDown (port : Fin 8) (east : Bool)
  | serviceFrameLaunch (port : Fin 8)
  | serviceFrameReturn (port : Fin 8) (f : SxFrame)
  | serviceFrameTimeout (port : Fin 8)
  | carrierLost (i : Fin 256)
  | carrierAppeared (i : Fin 256) (identity : Option Nat)
  -- plant network and service protocol (11, 17, 20)
  | portLinkChange (port : Fin 2) (up : Bool)
  | svcConnect (t : Handshake)
  | svcIdleClose (sess : Fin 4)
  | arpRequest (via : Option (Fin 2)) (addr : Nat)
  | neighbourSolicitation (via : Option (Fin 2)) (addr : Nat)
  | icmpEcho (via : Option (Fin 2)) (addr : Nat) (id : Nat)
  | svcUnknownType (h : SvcMsg) (type : BitVec 16)
  | svcFullSummary (h : SvcMsg)
  | fullSummaryRequest
  | svcMbPost (h : SvcMsg) (n : Nat) (msg : List Byte)
  | svcMbStatus (h : SvcMsg) (n : Nat)
  | svcMbCancel (h : SvcMsg) (n : Nat)
  | forcePoint (h : SvcMsg) (point : Nat) (v : Word)
  | forceRelease (h : SvcMsg) (point : Nat)
  | reepochOrder (h : SvcMsg)
  | ownerEnrolment (h : SvcMsg) (ownerKey : BitVec 768) (fingerprint : BitVec 384) (binary : Nat)
  | svcMaintEnter (h : SvcMsg)
  | svcMaintLeave (h : SvcMsg)
  | svcDormant (h : SvcMsg)
  -- CAN (12)
  | canFrameReceived (p : Fin 4) (f : CanFrame)
  | canRemoteFrame (p : Fin 4)
  | canProtocolException (p : Fin 4)
  | canTxSuccess (p : Fin 4) (o : Fin 128) (renewed : Nat)
  | canTxAckError (p : Fin 4) (o : Fin 128) (dominantSeen : Bool)
  | canBusError (p : Fin 4) (kind : Fin 16) (transmitting severe : Bool)
  | canArbitrationLost (p : Fin 4) (o : Fin 128)
  | canRecover (p : Fin 4)
  | canRecoveryDone (p : Fin 4)
  | canSnap (w : Writer) (p : Fin 4) (o : Fin 128)
  | canSend (w : Writer) (p : Fin 4) (o : Fin 128)
  | canCancel (w : Writer) (p : Fin 4) (o : Fin 128)
  | canLeaveListenOnly (p : Fin 4)
  -- binary redundancy (13)
  | loopIndicationChange (island : Fin 18) (ind : Indication)
  | partnerClaimChange (present : Bool)
  | partnerReadyChange (present : Bool)
  | claimReturnTimeout
  | heartbeatSend
  | netHeartbeatSend
  | heartbeatReceived (link : Option (Fin 2)) (msg : BitVec 256) (btOffset : Int) (ptOffset : Option Int)
  | heartbeatTimeout
  | releaseReceived
  | epochStored
  | takeoverResume
  | netHbTimeout
  | binaryLinkChange (link : Fin 2) (up : Bool)
  | grantRecognised
  | grantWithdrawn
  | arbiterFail
  | arbiterReturn
  | healthWordForm
  | standbySelftest (t : StandbyTest)
  | yield
  | snapshotFreeze
  | blockRecordReceived (hdr : BitVec 128) (words : List W64)
  | snapshotCommit (snap : Nat) (b : Instant) (bytes : Nat) (crc : Word) (items : SnapItems)
  | standbyBoundary
  | verifyCrcSend
  | verifyCrcReceived (first : Nat) (crcs : List Word)
  | sideRecordReceived (r : SideRecord)
  | fastRecordReceived (loop : Nat) (state : BitVec 256) (secs : List (F32 × F32)) (rec : W64) (crc : Word)
  | joinComplete
  | handoverOrder (w : Writer) (after : After)
  | handoverCancel (w : Writer)
  | handoverCheck
  | handoverInstant
  | enterMaintenance (w : Writer)
  | leaveMaintenance (w : Writer)
  | partnerReset (w : Writer)
  -- hot swap and Caldera (02, 13, 21)
  | removeOpen
  | removeClose
  | insertedOpen
  | calderaHoldExpire
  -- lockstep (14)
  | signatureWindowClose (pair : Fin 5) (sigL sigT : W64) (xDiff yDiff : Bool) (parity : Nat)
  | lockstepMismatch (pair : Fin 5) (x y : Bool) (stage : Fin 5) (write : Nat)
  | rerunComplete (pair : Fin 5) (r : Rerun)
  | compareCountDone (pair : Fin 5)
  | comparatorInjection (pair : Fin 5) (xOk yOk : Bool)
  | lkSplit (w : Writer) (pair : Fin 8)
  | splitDrainDone (pair : Fin 5)
  | splitDrainTimeout (pair : Fin 5)
  | lkRejoin (w : Writer) (pair : Fin 8)
  | rejoinStop (pair : Fin 5) (forced : Bool)
  | lkInject (w : Writer) (pair : Fin 8) (xOk yOk : Bool)
  | debugHaltRequest (pair : Fin 5)
  | debugResume (pair : Fin 5)
  -- islands (15)
  | islandClockCheck (i : Fin 18) (millipercent : Int)
  | islandStall (i : Fin 18) (cause : StallCause)
  | islandRestartDone (i : Fin 18)
  | registerAccessTimeout (i : Fin 18) (addr : Nat)
  | shellWatchdogRestart (slice : Fin 10)
  | shellStageHoldExpire (slice : Fin 10)
  | shellReloadDone (slice : Fin 10)
  -- memory and access control (16)
  | coreAccess (a : Access)
  | debugAccess (a : Access)
  | acLock
  | scrubRead (addr : Nat) (e : Ecc)
  -- mailboxes (17)
  | mbRing (n : Fin 32) (by_ : Party)
  | mbCancel (n : Fin 32) (by_ : Party)
  | mbAckWrite (n : Fin 32) (by_ : Party) (code : BitVec 16)
  | mbAckRead (n : Fin 32) (by_ : Party)
  | mbMessageWrite (n : Fin 32) (by_ : Party) (off : Nat) (bytes : List Byte)
  | mbLinkDeliver (k : Fin 4) (msg : List Byte)
  | mbLinkAck (k : Fin 4) (code : BitVec 16) (collided : Bool)
  -- Sinter (18)
  | sinterAdmit
  | sinterCommit
  | suppressionSummary (code : BitVec 16)
  | lossRecord
  | sinterSearch
  | snCursorSet (w : Writer) (hi : Word)
  | snWindowAdvance (w : Writer)
  | sinterCursorRead (h : SvcMsg) (start : BitVec 48) (count : Nat)
  | sinterClear (h : SvcMsg)
  -- update (19)
  | imageDownloadBlock (h : SvcMsg) (hdr : BitVec 512) (units : List W64) (readBackOk : Bool)
  | updateVerify (h : SvcMsg) (kinds : BitVec 8) (link : Bool)
  | verifyComplete (img : Option PlantImage) (formats : Bool)
  | updateActivate (h : SvcMsg) (kinds : BitVec 8) (at_ : Instant)
  | activateCheck
  | activateAt
  | updateRoll (h : SvcMsg) (kinds : BitVec 8) (at_ : Instant)
  | rollPartnerActivate (kinds : BitVec 8)
  | rollPartnerReady
  | rollFormerActivate
  | rollComplete
  | rollWaitExpire
  | revertRollStart
  | updateConfirm (h : SvcMsg) (partnerOk link : Bool)
  | updateRevert (h : SvcMsg)
  | updateCancel (h : SvcMsg) (kinds : BitVec 8) (link : Bool)
  | updateStatus (h : SvcMsg) (kinds : BitVec 8)
  | trialRunWrite
  | trialExpire
  | trialRevertRestart
  | iazebinActivate (h : SvcMsg) (kinds : BitVec 8)
  -- resets, power and retention (20, 22)
  | powerOnReset (f : Feed)
  | brownOutReset
  | resetContact
  | resetContactRelease
  | watchdogReset
  | watchdogWarning
  | wdogKick (v : BitVec 16)
  | lockstepFatalReset
  | supervisorReset
  | enterDormant
  | partnerResetReceived
  | insertionResetEnd
  | resetDurationEnd
  | feedLost (f : Feed)
  | feedReturn (f : Feed) (volts : Nat)
  | feedOvervoltage (f : Feed)
  | holdupEnter
  | holdupKeyWritesEnd
  | holdupEnd
  | holdupChargeCross (percent : Nat)
  | holdupCapMeasure (fallPermille : Nat)
  | tempCheck (temp : Int)
  | eventLatch (n : Fin 128)
  | appInterruptTake (n : Fin 128) (pair : Fin 4)
  | ownerLockChange (l : LockState)
  | keyRemoved
  | keyInserted (content : Option KeyImage)
  | keyHeaderReread
  | captureSample (c : Fin 64) (v : GySample)
  | retainedCommit
  | scapexSegmentUp (port : Fin 8) (east : Bool)
  | insertedClose
  | svcDisconnect (sess : Fin 4)
  | brownOutLatchExpire
  | pdelayRequestSend (port : Fin 2)
  | gptpAnnounce (domain : Fin 128) (port : Fin 2) (better : Bool) (steps : Nat)
  deriving DecidableEq, Repr

end Sys2Proof
end

