-- ==== Sys2Proof/Decode.lean ====
section
/-! DEFINITION. The reading of table words. The commands of this block are events and orders, and spec/opcode_table.json
gives none of its 289 rows any bits, so no word spells a command. -/

namespace Sys2Proof

/-- The command that a word of the table spells: none, since no row of the table has bits. (DEDUCED, log entry 6) -/
def decodeTableWord (_nbits _w : Nat) : Option Instr := none

end Sys2Proof
end

