-- ==== Sys2Proof/Config.lean ====
section
/-! DEFINITION. What the manual fixes as numbers, and the free values: constants with no body, which no proof can see
into. -/

namespace Sys2Proof

/-! ## Free values -/

/-- The payload of a NaN the arithmetic produces (IEEE 754-2019 leaves it open). -/
opaque Config.nanPayload : BitVec 22

/-- Where the items of a Sinter record lie in its 44 payload bytes, for a code whose layout no chapter gives. -/
opaque Config.payloadLayout : BitVec 16 → List Nat → BitVec 352

/-- The PT servo's rate in LOCKED (R75: the gains are the module's own), from the accepted offset and the counter of free
values, as a deviation from the source's rate. The step bounds it to ±200 ppm. -/
opaque Config.servoRate : Int → Nat → Int

/-- The resistance of the lead from T1 to T2 of a 3-wire RTD (R177), in Ω, as the shell measures it. Arguments: channel and the
counter of free values. -/
opaque Config.leadOhms : Nat → Nat → F32

/-- The linearised temperature of a thermocouple (R177): IEC 60584-1 inverse reference function of the measured voltage
with the cold-junction voltage added. Arguments: type code, cold-junction temperature, measured voltage. -/
opaque Config.tcTemperature : Nat → F32 → F32 → F32

/-- The tabulated range of a thermocouple type (R170, IEC 60584-1), in °C, and its reference voltages at the ends, in V. -/
opaque Config.tcRange : Nat → F32 × F32
opaque Config.tcVolts : Nat → F32 × F32

/-- The resistances of an RTD range at −200 °C and +850 °C (R170, IEC 60751), in Ω. -/
opaque Config.rtdSpan : Nat → F32 × F32

/-- The temperature of a slice's cold-junction sensor. Arguments: slice and the counter of free values. -/
opaque Config.coldJunction : Nat → Nat → F32

/-- The factory calibration record of a channel and range (R175): offset, gain and their temperature coefficients, which
belong to the module's hardware. Arguments: channel, range. -/
opaque Config.calibration : Nat → Nat → F32 × F32 × F32 × F32

/-- The factory calibration record of a channel and range is present and its CRC is right (R178): a property of the
module's hardware. -/
opaque Config.calGood : Nat → Nat → Bool

/-- The measured electrical value of an output's readback (what the converter sees at the terminal). Arguments: channel
and the counter of free values. -/
opaque Config.readback : Nat → Nat → F32

/-- The receive error counter after a reception that finds it above 127: ISO 11898-1:2015 allows 119 to 127. The step
takes it modulo 9 above 119. -/
opaque Config.canRecReturn : Nat → Nat

/-- The event code of the record that GROUP_OVER writes (R214 names the record and gives no code). -/
opaque Config.groupOverCode : BitVec 16

/-- The block CRC of a block record that the sender has mapped into another image's layout (R422 suspends its check, and
the words no entry covers are the receiver's own). Arguments: tracked block and the counter of free values.
(DESIGN CHOICE, log entry 83) -/
opaque Config.mappedCrc : Nat → Nat → Word

/-- The SERVICE frame that loads a Scapex carrier's configuration (R242: its payload is given in the carriers' manuals).
Arguments: carrier, the counter of free values. The step takes at most 124 words. (DESIGN CHOICE, log entry 86) -/
opaque Config.carrierService : Nat → Nat → List (BitVec 64)

/-- What the manual does not give of a memory's content: the boot ROM, the calibration memory and, before anything writes
them, the credential store and the application programs. Argument: byte address. -/
opaque Config.romByte : Nat → Byte

/-- A byte of a memory that the hardware fills in a layout of its own: capture, network and Scapex buffers, the
equalization journal, the Geyser archive, the key window without a key, the GY_RD window. Arguments: byte address, FRC or the
counter of free values. -/
opaque Config.bufByte : Nat → Nat → Byte

/-- The event code of the record that a loop's ACTIVE_SET after a rollback takeover gets (R165 names the record and gives no
code). -/
opaque Config.setDiffersCode : BitVec 16

/-- What an analogue output drives for a command of KIND Analogue whose VALUE is a NaN (R183 is silent), in mA or V, within its drive
span. Argument: the VALUE. (DESIGN CHOICE, log entry 126) -/
opaque Config.nanDrive : F32 → F32

/-- The magnitude of a test's excitation (R154: at most H_MAX, no more is said). Argument: the counter of free values. The
step takes H_MAX in place of what does not lie above 0 and at most H_MAX. (DESIGN CHOICE, log entry 73) -/
opaque Config.excitation : Nat → F32

/-- The module's Ethernet address, from its label (R263). -/
opaque Config.moduleAddress : BitVec 48

/-- The Vuzal public key of an index in the boot ROM (R41). -/
opaque Config.vuzalKey : Nat → BitVec 768

/-- Content that a register's rule computes from a quantity outside the state (fill percentages, feed voltages read
between commands). -/
opaque Config.measured : Nat → Nat → Nat

/-! ## Numbers of the manual -/

/-- Cycle class periods in ns (R91): Fast, Standard, Slow. -/
def Config.period : Nat → Nat
  | 0 => 50000
  | 1 => 1000000
  | _ => 100000000

/-- The rate limit of a view: ±250 ppm in units of 2^-40 (R65). -/
def Config.rateMax : Int := 274877907

/-- 200 ppm in units of 2^-40: 200 × 10^-6 × 2^40, rounded to nearest. -/
def Config.ppm200 : Int := 219902326

/-- The module's issue letter (R1): issue A. -/
def Config.issue : Nat := 0x41

/-- Magic numbers of the key's records (R38, R40, R43, R413) and of the Full Summary (R393). -/
def Config.magicKey : Word := 0x5A394B48#32
def Config.magicFw : Word := 0x5A394657#32
def Config.magicCfg : Word := 0x5A394346#32
def Config.magicSelect : Word := 0x5A394253#32
def Config.magicProgress : Word := 0x5A395550#32
def Config.magicSummary : Word := 0x5A394653#32
def Config.magicGeyser : Word := 0x5A394742#32

/-- Byte addresses within the plant key (R35, R36, R413). -/
def Config.keyHeader : Nat := 0x00000000
def Config.keySelect : Nat → Nat
  | 0 => 0x00001000
  | _ => 0x00002000
def Config.keyProgress : Nat → Nat
  | 0 => 0x00003000
  | _ => 0x00003800
def Config.keyEpoch : Nat := 0x00004000
def Config.keyCfgBank : Nat → Nat
  | 0 => 0x00100000
  | _ => 0x03100000
def Config.keyFwBank : Nat → Nat
  | 0 => 0x06100000
  | _ => 0x08100000
def Config.keySinter : Nat := 0x0A100000
def Config.keyRetained : Nat := 0x0E100000
def Config.keyReserve : Nat := 0x0F100000

/-- Slots of the Sinter region (R396). -/
def Config.sinterSlots : Nat := 1048576

end Sys2Proof
end

