-- ==== Sys2Proof/Machine/Bits.lean ====
section
/-! DEFINITION. Bit fields, byte order and saturation: the plain arithmetic on words that the layouts of the manual
use. Records and register fields are numbered [high:low], bit 0 lowest; multi-byte values are little-endian (R473). -/

namespace Sys2Proof

/-- The field [hi:lo] of a word, as a number. -/
def bits {n : Nat} (w : BitVec n) (hi lo : Nat) : Nat := w.toNat / 2 ^ lo % 2 ^ (hi + 1 - lo)

/-- Bit `i` of a word. -/
def bitAt {n : Nat} (w : BitVec n) (i : Nat) : Bool := w.getLsbD i

/-- The word whose field [hi:lo] holds ones. -/
def fieldMask (n hi lo : Nat) : BitVec n := BitVec.ofNat n (2 ^ (hi + 1 - lo) - 1) <<< lo

/-- The word `w` with `v` in its field [hi:lo], cut to the field's width. -/
def putBits {n : Nat} (w : BitVec n) (hi lo v : Nat) : BitVec n :=
  (w &&& ~~~ fieldMask n hi lo) ||| ((BitVec.ofNat n v <<< lo) &&& fieldMask n hi lo)

/-- The word `w` with bit `i` set to `b`. -/
def putBit {n : Nat} (w : BitVec n) (i : Nat) (b : Bool) : BitVec n := putBits w i i (if b then 1 else 0)

/-- 1 for true. -/
def b2n (b : Bool) : Nat := if b then 1 else 0

/-- Addition saturating at `top`. -/
def satAdd (top a b : Nat) : Nat := min top (a + b)

/-- `v` limited to `top`. -/
def sat (top v : Nat) : Nat := min top v

/-- A number as a two's-complement field of `n` bits. -/
def ofSigned (n : Nat) (i : Int) : Nat := (BitVec.ofInt n i).toNat

/-- A signed number limited to the magnitude `m`. -/
def clampInt (m : Nat) (i : Int) : Int := max (-(m : Int)) (min (m : Int) i)

/-- The bytes of a word, lowest first. -/
def bytesOf {n : Nat} (w : BitVec n) (count : Nat) : List Byte :=
  (List.range count).map fun i => BitVec.ofNat 8 (bits w (8 * i + 7) (8 * i))

/-- The word of `n` bits whose bytes are given, lowest first. -/
def wordOf (n : Nat) (bs : List Byte) : BitVec n :=
  BitVec.ofNat n (bs.foldr (fun b acc => b.toNat + 256 * acc) 0)

/-- The word of `n` bits whose 64-bit units are given, lowest first. -/
def wordOfUnits (n : Nat) (us : List W64) : BitVec n :=
  BitVec.ofNat n (us.foldr (fun u acc => u.toNat + 18446744073709551616 * acc) 0)

/-- The `count` 64-bit units of a word, lowest first. -/
def unitsOf {n : Nat} (w : BitVec n) (count : Nat) : List W64 :=
  (List.range count).map fun i => BitVec.ofNat 64 (bits w (64 * i + 63) (64 * i))

/-- The list with its entry `i` replaced. -/
def listSet {α : Type} : List α → Nat → α → List α
  | [], _, _ => []
  | _ :: t, 0, v => v :: t
  | x :: t, i + 1, v => x :: listSet t i v

/-- The entry `i` of a list, `d` beyond its end. -/
def listGet {α : Type} (d : α) : List α → Nat → α
  | [], _ => d
  | x :: _, 0 => x
  | _ :: t, i + 1 => listGet d t i

end Sys2Proof
end

