-- ==== Sys2Proof/Machine/Float.lean ====
section
/-! DEFINITION. binary32 arithmetic (IEEE 754-2019, round to nearest even, subnormals kept), unpacked: the loop engine
(R126), the adaptation layer and the shells compute with it. -/

namespace Sys2Proof

/-- A binary32 value, unpacked: `fin neg m e` is (−1)^neg × m × 2^e. -/
inductive Fl where
  | nan
  | inf (neg : Bool)
  | fin (neg : Bool) (m : Nat) (e : Int)
  deriving DecidableEq, Repr, Inhabited

/-- The value an encoding holds. -/
def Fl.ofBits (w : F32) : Fl :=
  let neg := bitAt w 31
  let ex := bits w 30 23
  let fr := bits w 22 0
  if ex = 255 then (if fr = 0 then .inf neg else .nan)
  else if ex = 0 then .fin neg fr (-149)
  else .fin neg (fr + 8388608) ((ex : Int) - 150)

/-- The number of bits of `m`. -/
def bitLen (m : Nat) : Nat := if m = 0 then 0 else Nat.log2 m + 1

/-- `m` × 2^e rounded to a multiple of 2^q, ties to even: the multiple's count. -/
def roundTo (m : Nat) (e q : Int) : Nat :=
  if q ≤ e then m * 2 ^ (e - q).toNat
  else
    let k := (q - e).toNat
    let d := m / 2 ^ k
    let r := m % 2 ^ k
    if 2 * r < 2 ^ k then d else if 2 * r > 2 ^ k then d + 1 else d + d % 2

/-- The binary32 value nearest to (−1)^neg × m × 2^e, ties to even. (PRESUMED, log entry 30) -/
def Fl.round (neg : Bool) (m : Nat) (e : Int) : Fl :=
  if m = 0 then .fin neg 0 (-149)
  else
    let q := max (-149) (e + (bitLen m : Int) - 24)
    let d := roundTo m e q
    if (bitLen d : Int) + q > 128 then .inf neg else .fin neg d q

/-- The encoding of a value whose significand fits 24 bits; a NaN takes the open payload. -/
def Fl.toBits : Fl → F32
  | .nan => BitVec.ofNat 32 (0x7FC00000 + Config.nanPayload.toNat)
  | .inf neg => BitVec.ofNat 32 (0x7F800000 + (if neg then 0x80000000 else 0))
  | .fin neg m e =>
    let s := if neg then 0x80000000 else 0
    if m = 0 then BitVec.ofNat 32 s
    else
      -- normalise to 24 bits where the exponent allows it
      let up := min (24 - bitLen m) (e + 149).toNat
      let m' := m * 2 ^ up
      let e' := e - (up : Int)
      if m' < 8388608 then BitVec.ofNat 32 (s + m')
      else BitVec.ofNat 32 (s + (e' + 150).toNat * 8388608 + (m' - 8388608))

/-- Neither NaN nor infinite. -/
def Fl.finite : Fl → Bool
  | .fin _ _ _ => true
  | _ => false

/-- A value is exact zero. -/
def Fl.isZero : Fl → Bool
  | .fin _ m _ => m == 0
  | _ => false

/-- The value with the other sign. -/
def Fl.neg : Fl → Fl
  | .nan => .nan
  | .inf s => .inf (!s)
  | .fin s m e => .fin (!s) m e

/-- The magnitude. -/
def Fl.abs : Fl → Fl
  | .nan => .nan
  | .inf _ => .inf false
  | .fin _ m e => .fin false m e

/-- The signed multiple of 2^q that a finite value is, for q at or below its exponent. -/
def Fl.units (neg : Bool) (m : Nat) (e q : Int) : Int :=
  let n : Int := ((m * 2 ^ (e - q).toNat : Nat) : Int)
  if neg then -n else n

/-- The sum of two exact values, rounded once. An exact zero sum is +0 unless both are −0. -/
def Fl.addFin (s1 : Bool) (m1 : Nat) (e1 : Int) (s2 : Bool) (m2 : Nat) (e2 : Int) : Fl :=
  let q := min e1 e2
  let t := Fl.units s1 m1 e1 q + Fl.units s2 m2 e2 q
  if t = 0 then .fin (s1 && s2 && m1 == 0 && m2 == 0) 0 (-149)
  else Fl.round (decide (t < 0)) t.natAbs q

/-- Addition. -/
def Fl.add : Fl → Fl → Fl
  | .nan, _ => .nan
  | _, .nan => .nan
  | .inf a, .inf b => if a == b then .inf a else .nan
  | .inf a, _ => .inf a
  | _, .inf b => .inf b
  | .fin s1 m1 e1, .fin s2 m2 e2 => Fl.addFin s1 m1 e1 s2 m2 e2

/-- Subtraction. -/
def Fl.sub (a b : Fl) : Fl := Fl.add a b.neg

/-- Multiplication. -/
def Fl.mul : Fl → Fl → Fl
  | .nan, _ => .nan
  | _, .nan => .nan
  | .inf a, .inf b => .inf (a != b)
  | .inf a, .fin s m _ => if m = 0 then .nan else .inf (a != s)
  | .fin s m _, .inf b => if m = 0 then .nan else .inf (s != b)
  | .fin s1 m1 e1, .fin s2 m2 e2 => Fl.round (s1 != s2) (m1 * m2) (e1 + e2)

/-- Fused multiply and add: a × b + c, rounded once. -/
def Fl.fma : Fl → Fl → Fl → Fl
  | .fin s1 m1 e1, .fin s2 m2 e2, .fin s3 m3 e3 => Fl.addFin (s1 != s2) (m1 * m2) (e1 + e2) s3 m3 e3
  | .fin s1 m1 e1, .fin s2 m2 e2, c => Fl.add (Fl.mul (.fin s1 m1 e1) (.fin s2 m2 e2)) c
  | a, b, c => Fl.add (Fl.mul a b) c

/-- Division. -/
def Fl.div : Fl → Fl → Fl
  | .nan, _ => .nan
  | _, .nan => .nan
  | .inf _, .inf _ => .nan
  | .inf a, .fin s _ _ => .inf (a != s)
  | .fin s _ _, .inf b => .fin (s != b) 0 (-149)
  | .fin s1 m1 e1, .fin s2 m2 e2 =>
    if m2 = 0 then (if m1 = 0 then .nan else .inf (s1 != s2))
    else if m1 = 0 then .fin (s1 != s2) 0 (-149)
    else
      -- 64 further bits and a sticky bit leave the rounding exact
      let k := 64 + bitLen m2
      let d := m1 * 2 ^ k / m2
      let st := if m1 * 2 ^ k % m2 = 0 then 0 else 1
      Fl.round (s1 != s2) (2 * d + st) (e1 - e2 - (k : Int) - 1)

/-- The integer square root of `n` below (r + 1) × 2^k, from its bits above k. -/
def isqrt (n : Nat) : Nat → Nat → Nat
  | 0, r => r
  | k + 1, r => if (r + 2 ^ k) * (r + 2 ^ k) ≤ n then isqrt n k (r + 2 ^ k) else isqrt n k r

/-- The square root, rounded once. -/
def Fl.sqrt : Fl → Fl
  | .nan => .nan
  | .inf neg => if neg then .nan else .inf false
  | .fin neg m e =>
    if m = 0 then .fin neg 0 (-149)
    else if neg then .nan
    else
      -- an even exponent and 64 further bits; a sticky bit leaves the rounding exact
      let sh := 64 + (e % 2).toNat
      let n := m * 2 ^ sh
      let r := isqrt n 64 0
      Fl.round false (2 * r + (if r * r = n then 0 else 1)) ((e - (sh : Int)) / 2 - 1)

/-- `a < b`; false where either is a NaN. -/
def Fl.lt : Fl → Fl → Bool
  | .nan, _ => false
  | _, .nan => false
  | .inf a, .inf b => a && !b
  | .inf a, .fin _ _ _ => a
  | .fin _ _ _, .inf b => !b
  | .fin s1 m1 e1, .fin s2 m2 e2 =>
    let q := min e1 e2
    decide (Fl.units s1 m1 e1 q < Fl.units s2 m2 e2 q)

/-- `a ≤ b`; false where either is a NaN. -/
def Fl.le (a b : Fl) : Bool :=
  match a, b with
  | .nan, _ => false
  | _, .nan => false
  | a, b => !Fl.lt b a

/-- `a = b` as values; false where either is a NaN. -/
def Fl.feq (a b : Fl) : Bool := Fl.le a b && Fl.le b a

/-- A natural number as a value, rounded. -/
def Fl.ofNat (n : Nat) : Fl := Fl.round false n 0

/-- An integer as a value, rounded. -/
def Fl.ofInt (i : Int) : Fl := Fl.round (decide (i < 0)) i.natAbs 0

/-- The quotient of two naturals as a value, rounded once. -/
def Fl.ofRatio (n d : Nat) : Fl := Fl.div (.fin false n 0) (.fin false d 0)

/-- A decimal fraction n ÷ d as the nearest value. -/
def Fl.dec (i : Int) (d : Nat) : Fl := Fl.div (.fin (decide (i < 0)) i.natAbs 0) (.fin false d 0)

/-- The nearest integer to a finite value, ties to even. -/
def Fl.toInt : Fl → Int
  | .fin s m e => let n : Int := (roundTo m e 0 : Int); if s then -n else n
  | _ => 0

/-- The lesser of two, `b` where they do not compare. -/
def Fl.min (a b : Fl) : Fl := if Fl.lt a b then a else b

/-- The greater of two, `b` where they do not compare. -/
def Fl.max (a b : Fl) : Fl := if Fl.lt b a then a else b

def Fl.zero : Fl := .fin false 0 (-149)
def Fl.one : Fl := .fin false 1 0

end Sys2Proof
end

