-- ==== Sys2Proof/Machine/Crc.lean ====
section
/-! DEFINITION. CRC-32C, the check of every record the plant key and the links carry (R38, R43, R313, R316, R396,
R450), and the FCS of IEEE 802.3 (R242). -/

namespace Sys2Proof

/-- One bit of the reflected CRC-32C division. -/
def crcBit (c : Nat) : Nat := if c % 2 = 1 then (c / 2) ^^^ 0x82F63B78 else c / 2

/-- One byte taken into the register. -/
def crcByte (c : Nat) (b : Byte) : Nat :=
  crcBit (crcBit (crcBit (crcBit (crcBit (crcBit (crcBit (crcBit (c ^^^ b.toNat))))))))

/-- CRC-32C over bytes (initial value all ones, result inverted). -/
def crc32c (bs : List Byte) : Word := BitVec.ofNat 32 ((bs.foldl crcByte 0xFFFFFFFF) ^^^ 0xFFFFFFFF)

/-- One bit of the reflected CRC-32 division of IEEE 802.3. -/
def fcsBit (c : Nat) : Nat := if c % 2 = 1 then (c / 2) ^^^ 0xEDB88320 else c / 2

def fcsByte (c : Nat) (b : Byte) : Nat :=
  fcsBit (fcsBit (fcsBit (fcsBit (fcsBit (fcsBit (fcsBit (fcsBit (c ^^^ b.toNat))))))))

/-- The 32-bit FCS of IEEE 802.3 over bytes (R242). -/
def crc32 (bs : List Byte) : Word := BitVec.ofNat 32 ((bs.foldl fcsByte 0xFFFFFFFF) ^^^ 0xFFFFFFFF)

/-- CRC-32C over the lowest `count` bytes of a word. -/
def crcOf {n : Nat} (w : BitVec n) (count : Nat) : Word := crc32c (bytesOf w count)

end Sys2Proof
end

