-- ==== Sys2Proof/Machine/Ecdsa.lean ====
section
/-! DEFINITION. ECDSA on P-384 (FIPS 186-5), the signature of bank headers (R41). The spec names the algorithm and not its
arithmetic. -/

namespace Sys2Proof

/-- The prime of the field, the curve's constant b, the order of its base point. -/
def ecP : Nat := 2 ^ 384 - 2 ^ 128 - 2 ^ 96 + 2 ^ 32 - 1
def ecB : Nat := 0xB3312FA7E23EE7E4988E056BE3F82D19181D9C6EFE8141120314088F5013875AC656398D8A2ED19D2A85C8EDD3EC2AEF
def ecN : Nat := 0xFFFFFFFFFFFFFFFFFFFFFFFFFFFFFFFFFFFFFFFFFFFFFFFFC7634D81F4372DDF581A0DB248B0A77AECEC196ACCC52973

/-- A point: none at infinity. -/
abbrev EcPoint := Option (Nat × Nat)

/-- The base point. -/
def ecG : EcPoint := some
  (0xAA87CA22BE8B05378EB1C71EF320AD746E1D3B628BA79B9859F741E082542A385502F25DBF55296C3A545E3872760AB7,
   0x3617DE4A96262C6F5D9E98BF9292DC29F8F41DBD289A147CE9DA3113B5F0B8C00A60B1CE1D7E819D7A431D7C90EA0E5F)

/-- `acc * b ^ e` modulo `m`, over the low bits of `e`. -/
def powMod (m : Nat) : Nat → Nat → Nat → Nat → Nat
  | 0, _, _, acc => acc
  | k + 1, b, e, acc => powMod m k (b * b % m) (e / 2) (if e % 2 = 1 then acc * b % m else acc)

/-- The inverse of `x` modulo a prime of 384 bits. -/
def invMod (m x : Nat) : Nat := powMod m 384 (x % m) (m - 2) 1

/-- The point that a line of slope `l` through (x1, y1) and (x2, …) gives. -/
def ecChord (l x1 y1 x2 : Nat) : Nat × Nat :=
  let x := (l * l + 2 * ecP - x1 - x2) % ecP
  (x, (l * (x1 + ecP - x) + ecP - y1) % ecP)

/-- The sum of two points. -/
def ecAdd : EcPoint → EcPoint → EcPoint
  | none, q => q
  | p, none => p
  | some (x1, y1), some (x2, y2) =>
    if x1 = x2 then
      if (y1 + y2) % ecP = 0 then none
      else some (ecChord ((3 * x1 * x1 + ecP - 3) * invMod ecP (2 * y1) % ecP) x1 y1 x2)
    else some (ecChord ((y2 + ecP - y1) * invMod ecP (x2 + ecP - x1) % ecP) x1 y1 x2)

/-- `acc + k · p`, over the low bits of `k`. -/
def ecMul : Nat → Nat → EcPoint → EcPoint → EcPoint
  | 0, _, _, acc => acc
  | n + 1, k, p, acc => ecMul n (k / 2) (ecAdd p p) (if k % 2 = 1 then ecAdd acc p else acc)

/-- A byte string of 48 bytes as the number of its big-endian octets (R473). -/
def octets (v : BitVec 384) : Nat := (bytesOf v 48).foldl (fun n b => 256 * n + b.toNat) 0

/-- A point lies on the curve. -/
def ecOn (x y : Nat) : Bool :=
  decide (x < ecP) && decide (y < ecP) && y * y % ecP == (x * x * x + ecP * x - 3 * x + ecB) % ecP

/-- The signature (r, s) of a digest verifies under a public key, X in its lower 48 bytes and Y above them.
(PRESUMED, log entry 99) -/
def ecdsaVerifies (key : BitVec 768) (digest r s : BitVec 384) : Bool :=
  let x := octets (key.setWidth 384)
  let y := octets ((key >>> 384).setWidth 384)
  let r := octets r
  let s := octets s
  if 0 < r ∧ r < ecN ∧ 0 < s ∧ s < ecN ∧ ecOn x y then
    let w := invMod ecN s
    let u := ecMul 384 (octets digest * w % ecN) ecG none
    match ecAdd u (ecMul 384 (r * w % ecN) (some (x, y)) none) with
    | some p => p.1 % ecN == r
    | none => false
  else false

end Sys2Proof
end

