-- ==== Sys2Proof/Machine/Fields.lean ====
section
/-! DEFINITION. The fields of the registers, from the register tables of the chapters, and the masks of the writable
(RW), write-one-to-clear (W1C), read-to-clear (RC) and write-only (WO) bits of each register (R6, R7). -/

namespace Sys2Proof

/-- A field [hi:lo] of a register; `idx` counts the register's instances. -/
structure Field where
  reg : RegName
  hi  : Nat
  lo  : Nat
  deriving DecidableEq, Repr, Inhabited

/-- The largest value a field holds. -/
def Field.top (f : Field) : Nat := 2 ^ (f.hi + 1 - f.lo) - 1


/-! SUP_START -/
def Fld.SUP_START_REFUSAL : Field := ⟨.SUP_START, 31, 24⟩
def Fld.SUP_START_PHASE : Field := ⟨.SUP_START, 11, 8⟩
def Fld.SUP_START_KEY_CHANGED : Field := ⟨.SUP_START, 3, 3⟩
def Fld.SUP_START_FW_FALLBACK : Field := ⟨.SUP_START, 2, 2⟩
def Fld.SUP_START_FW_BANK : Field := ⟨.SUP_START, 1, 1⟩
def Fld.SUP_START_CFG_BANK : Field := ⟨.SUP_START, 0, 0⟩

/-! SUP_ISLAND -/
def Fld.SUP_ISLAND_ALIVE : Field := ⟨.SUP_ISLAND, 31, 31⟩
def Fld.SUP_ISLAND_STALL : Field := ⟨.SUP_ISLAND, 30, 30⟩
def Fld.SUP_ISLAND_CLOCK_BAD : Field := ⟨.SUP_ISLAND, 29, 29⟩
def Fld.SUP_ISLAND_RESTARTS : Field := ⟨.SUP_ISLAND, 23, 16⟩
def Fld.SUP_ISLAND_ACC_TIMEOUT : Field := ⟨.SUP_ISLAND, 15, 8⟩
def Fld.SUP_ISLAND_OVERFLOW : Field := ⟨.SUP_ISLAND, 7, 0⟩

/-! RST_CAUSE -/
def Fld.RST_CAUSE_CAUSE : Field := ⟨.RST_CAUSE, 31, 28⟩
def Fld.RST_CAUSE_MULTI : Field := ⟨.RST_CAUSE, 27, 27⟩
def Fld.RST_CAUSE_CALDERA : Field := ⟨.RST_CAUSE, 26, 26⟩
def Fld.RST_CAUSE_BO_LATCH : Field := ⟨.RST_CAUSE, 25, 25⟩
def Fld.RST_CAUSE_LKF_1H : Field := ⟨.RST_CAUSE, 15, 8⟩
def Fld.RST_CAUSE_POWERED : Field := ⟨.RST_CAUSE, 7, 0⟩

/-! RST_CTL -/
def Fld.RST_CTL_ORDER : Field := ⟨.RST_CTL, 31, 28⟩

/-! RST_WDOG -/
def Fld.RST_WDOG_KICK : Field := ⟨.RST_WDOG, 31, 16⟩
def Fld.RST_WDOG_REMAIN : Field := ⟨.RST_WDOG, 15, 0⟩

/-! RST_POWER -/
def Fld.RST_POWER_FEED_A : Field := ⟨.RST_POWER, 31, 31⟩
def Fld.RST_POWER_FEED_B : Field := ⟨.RST_POWER, 30, 30⟩
def Fld.RST_POWER_HOLDUP : Field := ⟨.RST_POWER, 29, 29⟩
def Fld.RST_POWER_DORMANT : Field := ⟨.RST_POWER, 28, 28⟩
def Fld.RST_POWER_HOLDUP_OK : Field := ⟨.RST_POWER, 27, 27⟩
def Fld.RST_POWER_CHARGE : Field := ⟨.RST_POWER, 23, 16⟩
def Fld.RST_POWER_VOLTS_A : Field := ⟨.RST_POWER, 15, 8⟩
def Fld.RST_POWER_VOLTS_B : Field := ⟨.RST_POWER, 7, 0⟩

/-! RST_EV_PEND -/
def Fld.RST_EV_PEND_PEND : Field := ⟨.RST_EV_PEND, 15, 0⟩

/-! RST_EV_ROUTE -/
def Fld.RST_EV_ROUTE_APP : Field := ⟨.RST_EV_ROUTE, 31, 16⟩
def Fld.RST_EV_ROUTE_SUP : Field := ⟨.RST_EV_ROUTE, 15, 0⟩

/-! RST_EV_SUM -/
def Fld.RST_EV_SUM_GROUP : Field := ⟨.RST_EV_SUM, 7, 0⟩

/-! AC_CTL -/
def Fld.AC_CTL_LIFE : Field := ⟨.AC_CTL, 31, 30⟩
def Fld.AC_CTL_DEBUG_EN : Field := ⟨.AC_CTL, 2, 2⟩
def Fld.AC_CTL_DEBUG_ON : Field := ⟨.AC_CTL, 1, 1⟩
def Fld.AC_CTL_LOCK : Field := ⟨.AC_CTL, 0, 0⟩

/-! AC_SLOT -/
def Fld.AC_SLOT_EN : Field := ⟨.AC_SLOT, 31, 31⟩
def Fld.AC_SLOT_LOCKED : Field := ⟨.AC_SLOT, 30, 30⟩
def Fld.AC_SLOT_RT_R : Field := ⟨.AC_SLOT, 8, 8⟩
def Fld.AC_SLOT_RT_W : Field := ⟨.AC_SLOT, 7, 7⟩
def Fld.AC_SLOT_USR_R : Field := ⟨.AC_SLOT, 6, 6⟩
def Fld.AC_SLOT_USR_W : Field := ⟨.AC_SLOT, 5, 5⟩
def Fld.AC_SLOT_SPL_R : Field := ⟨.AC_SLOT, 4, 4⟩
def Fld.AC_SLOT_DBG_R : Field := ⟨.AC_SLOT, 3, 3⟩
def Fld.AC_SLOT_DBG_W : Field := ⟨.AC_SLOT, 2, 2⟩

/-! AC_FAULT -/
def Fld.AC_FAULT_VALID : Field := ⟨.AC_FAULT, 31, 31⟩
def Fld.AC_FAULT_OVERRUN : Field := ⟨.AC_FAULT, 30, 30⟩
def Fld.AC_FAULT_CLASS : Field := ⟨.AC_FAULT, 29, 27⟩
def Fld.AC_FAULT_CORE : Field := ⟨.AC_FAULT, 26, 26⟩
def Fld.AC_FAULT_WRITE : Field := ⟨.AC_FAULT, 25, 25⟩
def Fld.AC_FAULT_PARTS : Field := ⟨.AC_FAULT, 24, 24⟩
def Fld.AC_FAULT_REASON0 : Field := ⟨.AC_FAULT, 23, 21⟩
def Fld.AC_FAULT_REASON1 : Field := ⟨.AC_FAULT, 20, 18⟩
def Fld.AC_FAULT_SIZE : Field := ⟨.AC_FAULT, 15, 8⟩
def Fld.AC_FAULT_COUNT : Field := ⟨.AC_FAULT, 7, 0⟩

/-! AC_FAULT_ADDR_LO -/
def Fld.AC_FAULT_ADDR_LO_ADDR : Field := ⟨.AC_FAULT_ADDR_LO, 31, 0⟩

/-! AC_FAULT_ADDR_HI -/
def Fld.AC_FAULT_ADDR_HI_ADDR : Field := ⟨.AC_FAULT_ADDR_HI, 31, 0⟩

/-! AC_ECC -/
def Fld.AC_ECC_UNCORR_SRAM : Field := ⟨.AC_ECC, 31, 24⟩
def Fld.AC_ECC_UNCORR_DRAM : Field := ⟨.AC_ECC, 23, 16⟩
def Fld.AC_ECC_CORRECTED : Field := ⟨.AC_ECC, 15, 0⟩

/-! AC_SCRUB -/
def Fld.AC_SCRUB_SRAM_SWEEPS : Field := ⟨.AC_SCRUB, 31, 16⟩
def Fld.AC_SCRUB_DRAM_PROGRESS : Field := ⟨.AC_SCRUB, 15, 8⟩
def Fld.AC_SCRUB_DRAM_SWEEPS : Field := ⟨.AC_SCRUB, 7, 0⟩

/-! PK_STATUS -/
def Fld.PK_STATUS_PRESENT : Field := ⟨.PK_STATUS, 31, 31⟩
def Fld.PK_STATUS_SERIAL_OK : Field := ⟨.PK_STATUS, 30, 30⟩
def Fld.PK_STATUS_WRITABLE : Field := ⟨.PK_STATUS, 29, 29⟩
def Fld.PK_STATUS_HEADER_OK : Field := ⟨.PK_STATUS, 28, 28⟩
def Fld.PK_STATUS_SEL_COPY : Field := ⟨.PK_STATUS, 27, 27⟩
def Fld.PK_STATUS_COPIES_DIFFER : Field := ⟨.PK_STATUS, 26, 26⟩
def Fld.PK_STATUS_VALID_COPIES : Field := ⟨.PK_STATUS, 25, 24⟩

/-! PK_SEQ -/
def Fld.PK_SEQ_SEQUENCE : Field := ⟨.PK_SEQ, 31, 0⟩

/-! PK_SERIAL_LO -/
def Fld.PK_SERIAL_LO_SERIAL : Field := ⟨.PK_SERIAL_LO, 31, 0⟩

/-! PK_SERIAL_HI -/
def Fld.PK_SERIAL_HI_SERIAL : Field := ⟨.PK_SERIAL_HI, 31, 0⟩

/-! UP_STATUS -/
def Fld.UP_STATUS_PHASE : Field := ⟨.UP_STATUS, 31, 28⟩
def Fld.UP_STATUS_STEP : Field := ⟨.UP_STATUS, 27, 24⟩
def Fld.UP_STATUS_LOCKED : Field := ⟨.UP_STATUS, 23, 23⟩
def Fld.UP_STATUS_HOLDUP_OK : Field := ⟨.UP_STATUS, 22, 22⟩
def Fld.UP_STATUS_TRANSITION : Field := ⟨.UP_STATUS, 21, 21⟩
def Fld.UP_STATUS_INTERRUPT : Field := ⟨.UP_STATUS, 20, 20⟩
def Fld.UP_STATUS_FW_TRIAL : Field := ⟨.UP_STATUS, 19, 19⟩
def Fld.UP_STATUS_CFG_TRIAL : Field := ⟨.UP_STATUS, 18, 18⟩
def Fld.UP_STATUS_LAST_CODE : Field := ⟨.UP_STATUS, 15, 0⟩

/-! UP_PROGRESS -/
def Fld.UP_PROGRESS_STATE : Field := ⟨.UP_PROGRESS, 31, 24⟩
def Fld.UP_PROGRESS_BANK : Field := ⟨.UP_PROGRESS, 23, 23⟩
def Fld.UP_PROGRESS_CONFIRMED : Field := ⟨.UP_PROGRESS, 19, 10⟩
def Fld.UP_PROGRESS_TOTAL : Field := ⟨.UP_PROGRESS, 9, 0⟩

/-! UP_TRIAL -/
def Fld.UP_TRIAL_BOOTS : Field := ⟨.UP_TRIAL, 25, 24⟩
def Fld.UP_TRIAL_RUN : Field := ⟨.UP_TRIAL, 11, 0⟩

/-! SN_STATUS -/
def Fld.SN_STATUS_KEY_OK : Field := ⟨.SN_STATUS, 31, 31⟩
def Fld.SN_STATUS_FLUSH : Field := ⟨.SN_STATUS, 30, 30⟩
def Fld.SN_STATUS_RESERVE : Field := ⟨.SN_STATUS, 29, 29⟩
def Fld.SN_STATUS_OCCUPANCY : Field := ⟨.SN_STATUS, 11, 0⟩

/-! SN_NEWEST_LO -/
def Fld.SN_NEWEST_LO_SEQ : Field := ⟨.SN_NEWEST_LO, 31, 0⟩

/-! SN_NEWEST_HI -/
def Fld.SN_NEWEST_HI_SEQ : Field := ⟨.SN_NEWEST_HI, 31, 0⟩

/-! SN_OLDEST_LO -/
def Fld.SN_OLDEST_LO_SEQ : Field := ⟨.SN_OLDEST_LO, 31, 0⟩

/-! SN_OLDEST_HI -/
def Fld.SN_OLDEST_HI_SEQ : Field := ⟨.SN_OLDEST_HI, 31, 0⟩

/-! SN_LOST -/
def Fld.SN_LOST_OTHER : Field := ⟨.SN_LOST, 31, 16⟩
def Fld.SN_LOST_FAULT : Field := ⟨.SN_LOST, 15, 0⟩

/-! SN_SUPPRESSED -/
def Fld.SN_SUPPRESSED_COUNT : Field := ⟨.SN_SUPPRESSED, 31, 0⟩

/-! SN_CURSOR_LO -/
def Fld.SN_CURSOR_LO_SEQ : Field := ⟨.SN_CURSOR_LO, 31, 0⟩

/-! SN_CURSOR_HI -/
def Fld.SN_CURSOR_HI_SEQ : Field := ⟨.SN_CURSOR_HI, 31, 0⟩

/-! SN_WSTAT -/
def Fld.SN_WSTAT_BUSY : Field := ⟨.SN_WSTAT, 31, 31⟩
def Fld.SN_WSTAT_LOADED : Field := ⟨.SN_WSTAT, 27, 24⟩
def Fld.SN_WSTAT_BAD : Field := ⟨.SN_WSTAT, 23, 16⟩
def Fld.SN_WSTAT_CODE : Field := ⟨.SN_WSTAT, 7, 0⟩

/-! MB_STAT -/
def Fld.MB_STAT_STATE : Field := ⟨.MB_STAT, 31, 30⟩
def Fld.MB_STAT_COLLISION : Field := ⟨.MB_STAT, 29, 29⟩
def Fld.MB_STAT_ACK_LOST : Field := ⟨.MB_STAT, 28, 28⟩
def Fld.MB_STAT_STRAY : Field := ⟨.MB_STAT, 27, 27⟩
def Fld.MB_STAT_DELIVERED : Field := ⟨.MB_STAT, 26, 26⟩
def Fld.MB_STAT_KIND : Field := ⟨.MB_STAT, 25, 24⟩
def Fld.MB_STAT_RINGS : Field := ⟨.MB_STAT, 23, 16⟩
def Fld.MB_STAT_WAIT : Field := ⟨.MB_STAT, 15, 0⟩

/-! MB_DOOR -/
def Fld.MB_DOOR_RING : Field := ⟨.MB_DOOR, 31, 31⟩
def Fld.MB_DOOR_CANCEL : Field := ⟨.MB_DOOR, 30, 30⟩

/-! MB_ACK -/
def Fld.MB_ACK_DONE : Field := ⟨.MB_ACK, 31, 31⟩
def Fld.MB_ACK_COLLIDED : Field := ⟨.MB_ACK, 30, 30⟩
def Fld.MB_ACK_CODE : Field := ⟨.MB_ACK, 15, 0⟩

/-! LK_PAIR -/
def Fld.LK_PAIR_MODE : Field := ⟨.LK_PAIR, 31, 28⟩
def Fld.LK_PAIR_SPLITTABLE : Field := ⟨.LK_PAIR, 27, 27⟩
def Fld.LK_PAIR_SINGLE : Field := ⟨.LK_PAIR, 26, 26⟩
def Fld.LK_PAIR_CMP_X_OK : Field := ⟨.LK_PAIR, 25, 25⟩
def Fld.LK_PAIR_CMP_Y_OK : Field := ⟨.LK_PAIR, 24, 24⟩
def Fld.LK_PAIR_WRITES_LEFT : Field := ⟨.LK_PAIR, 12, 0⟩

/-! LK_FAULT -/
def Fld.LK_FAULT_CLASS : Field := ⟨.LK_FAULT, 31, 28⟩
def Fld.LK_FAULT_STAGE : Field := ⟨.LK_FAULT, 27, 24⟩
def Fld.LK_FAULT_WRITE : Field := ⟨.LK_FAULT, 8, 0⟩

/-! LK_COUNT -/
def Fld.LK_COUNT_TRANSIENT : Field := ⟨.LK_COUNT, 31, 24⟩
def Fld.LK_COUNT_DISAGREE : Field := ⟨.LK_COUNT, 23, 16⟩
def Fld.LK_COUNT_PARITY : Field := ⟨.LK_COUNT, 15, 8⟩
def Fld.LK_COUNT_SPLITS : Field := ⟨.LK_COUNT, 7, 0⟩

/-! LK_MISS_LO -/
def Fld.LK_MISS_LO_DIFF : Field := ⟨.LK_MISS_LO, 31, 0⟩

/-! LK_MISS_HI -/
def Fld.LK_MISS_HI_DIFF : Field := ⟨.LK_MISS_HI, 31, 0⟩

/-! LK_CMD -/
def Fld.LK_CMD_CMD : Field := ⟨.LK_CMD, 31, 28⟩
def Fld.LK_CMD_PAIR : Field := ⟨.LK_CMD, 2, 0⟩

/-! LK_CMD_RESULT -/
def Fld.LK_CMD_RESULT_BUSY : Field := ⟨.LK_CMD_RESULT, 31, 31⟩
def Fld.LK_CMD_RESULT_CODE : Field := ⟨.LK_CMD_RESULT, 7, 0⟩

/-! MT_STATE -/
def Fld.MT_STATE_REEPOCH_RESULT : Field := ⟨.MT_STATE, 19, 16⟩
def Fld.MT_STATE_PPS_VALID : Field := ⟨.MT_STATE, 11, 11⟩
def Fld.MT_STATE_F10M_VALID : Field := ⟨.MT_STATE, 10, 10⟩
def Fld.MT_STATE_COORD_DEGRADED : Field := ⟨.MT_STATE, 9, 9⟩
def Fld.MT_STATE_REEPOCHED : Field := ⟨.MT_STATE, 8, 8⟩
def Fld.MT_STATE_SOURCE : Field := ⟨.MT_STATE, 7, 4⟩
def Fld.MT_STATE_STATE : Field := ⟨.MT_STATE, 3, 0⟩

/-! MT_CTL -/
def Fld.MT_CTL_REEPOCH : Field := ⟨.MT_CTL, 1, 1⟩
def Fld.MT_CTL_LATCH : Field := ⟨.MT_CTL, 0, 0⟩

/-! MT_OFFSET -/
def Fld.MT_OFFSET_OFFSET : Field := ⟨.MT_OFFSET, 31, 0⟩

/-! MT_ERR_EST -/
def Fld.MT_ERR_EST_ERR_EST : Field := ⟨.MT_ERR_EST, 31, 0⟩

/-! MT_OUTLIERS -/
def Fld.MT_OUTLIERS_COUNT : Field := ⟨.MT_OUTLIERS, 31, 0⟩

/-! MT_PT_SRC -/
def Fld.MT_PT_SRC_BASE : Field := ⟨.MT_PT_SRC, 2, 0⟩

/-! MT_TB_CFG -/
def Fld.MT_TB_CFG_EN : Field := ⟨.MT_TB_CFG, 31, 31⟩
def Fld.MT_TB_CFG_DOMAIN : Field := ⟨.MT_TB_CFG, 30, 24⟩
def Fld.MT_TB_CFG_SOURCE : Field := ⟨.MT_TB_CFG, 23, 22⟩
def Fld.MT_TB_CFG_STEPPED : Field := ⟨.MT_TB_CFG, 3, 3⟩
def Fld.MT_TB_CFG_SYNCED : Field := ⟨.MT_TB_CFG, 2, 2⟩
def Fld.MT_TB_CFG_PORT : Field := ⟨.MT_TB_CFG, 1, 0⟩

/-! LN_STATUS -/
def Fld.LN_STATUS_GROUPS : Field := ⟨.LN_STATUS, 23, 16⟩
def Fld.LN_STATUS_INPUT_LATE : Field := ⟨.LN_STATUS, 3, 3⟩
def Fld.LN_STATUS_SLOW_RUN : Field := ⟨.LN_STATUS, 2, 2⟩
def Fld.LN_STATUS_STD_RUN : Field := ⟨.LN_STATUS, 1, 1⟩
def Fld.LN_STATUS_FAST_RUN : Field := ⟨.LN_STATUS, 0, 0⟩

/-! LN_OVERRUN -/
def Fld.LN_OVERRUN_TASK : Field := ⟨.LN_OVERRUN, 31, 16⟩
def Fld.LN_OVERRUN_SAMPLE : Field := ⟨.LN_OVERRUN, 15, 0⟩

/-! LN_DISCARD -/
def Fld.LN_DISCARD_LATE_ARRIVAL : Field := ⟨.LN_DISCARD, 31, 16⟩
def Fld.LN_DISCARD_OLD_EPOCH : Field := ⟨.LN_DISCARD, 15, 0⟩

/-! LN_SUB -/
def Fld.LN_SUB_SEEN : Field := ⟨.LN_SUB, 31, 31⟩
def Fld.LN_SUB_DEGRADED_SEEN : Field := ⟨.LN_SUB, 30, 30⟩
def Fld.LN_SUB_COORD_REQUIRED : Field := ⟨.LN_SUB, 29, 29⟩
def Fld.LN_SUB_CLASH : Field := ⟨.LN_SUB, 28, 28⟩
def Fld.LN_SUB_MALFORMED : Field := ⟨.LN_SUB, 27, 27⟩
def Fld.LN_SUB_MISSED : Field := ⟨.LN_SUB, 15, 0⟩

/-! LE_CTL -/
def Fld.LE_CTL_LANE_EN : Field := ⟨.LE_CTL, 15, 8⟩
def Fld.LE_CTL_FAILED : Field := ⟨.LE_CTL, 2, 2⟩
def Fld.LE_CTL_DEGRADED : Field := ⟨.LE_CTL, 1, 1⟩
def Fld.LE_CTL_RUN : Field := ⟨.LE_CTL, 0, 0⟩

/-! LE_CMD -/
def Fld.LE_CMD_CMD : Field := ⟨.LE_CMD, 31, 28⟩
def Fld.LE_CMD_SET : Field := ⟨.LE_CMD, 17, 16⟩
def Fld.LE_CMD_LOOP : Field := ⟨.LE_CMD, 13, 0⟩

/-! LE_CMD_VAL -/
def Fld.LE_CMD_VAL_VALUE : Field := ⟨.LE_CMD_VAL, 31, 0⟩

/-! LE_CMD_RESULT -/
def Fld.LE_CMD_RESULT_BUSY : Field := ⟨.LE_CMD_RESULT, 31, 31⟩
def Fld.LE_CMD_RESULT_CODE : Field := ⟨.LE_CMD_RESULT, 7, 0⟩

/-! LE_OVERRUN -/
def Fld.LE_OVERRUN_LOOPS : Field := ⟨.LE_OVERRUN, 15, 0⟩

/-! LE_FAULT -/
def Fld.LE_FAULT_CAUSE : Field := ⟨.LE_FAULT, 31, 28⟩
def Fld.LE_FAULT_COUNT : Field := ⟨.LE_FAULT, 27, 16⟩
def Fld.LE_FAULT_LOOP : Field := ⟨.LE_FAULT, 13, 0⟩

/-! LE_LOAD -/
def Fld.LE_LOAD_PEAK : Field := ⟨.LE_LOAD, 15, 0⟩

/-! LE_FDELAY -/
def Fld.LE_FDELAY_MAX : Field := ⟨.LE_FDELAY, 31, 16⟩
def Fld.LE_FDELAY_LAST : Field := ⟨.LE_FDELAY, 15, 0⟩

/-! LA_STATUS -/
def Fld.LA_STATUS_SURGE_ON : Field := ⟨.LA_STATUS, 23, 16⟩
def Fld.LA_STATUS_TESTS : Field := ⟨.LA_STATUS, 12, 8⟩
def Fld.LA_STATUS_EN : Field := ⟨.LA_STATUS, 0, 0⟩

/-! LA_SEL -/
def Fld.LA_SEL_LOOP : Field := ⟨.LA_SEL, 13, 0⟩

/-! LA_LOOP -/
def Fld.LA_LOOP_P_IDENT : Field := ⟨.LA_LOOP, 31, 31⟩
def Fld.LA_LOOP_P_INSTALL : Field := ⟨.LA_LOOP, 30, 30⟩
def Fld.LA_LOOP_P_SURGE : Field := ⟨.LA_LOOP, 29, 29⟩
def Fld.LA_LOOP_F_IDENT : Field := ⟨.LA_LOOP, 28, 28⟩
def Fld.LA_LOOP_F_INSTALL : Field := ⟨.LA_LOOP, 27, 27⟩
def Fld.LA_LOOP_F_SURGE : Field := ⟨.LA_LOOP, 26, 26⟩
def Fld.LA_LOOP_PHASE : Field := ⟨.LA_LOOP, 23, 20⟩
def Fld.LA_LOOP_RETURN_SET : Field := ⟨.LA_LOOP, 19, 18⟩
def Fld.LA_LOOP_LAST_REASON : Field := ⟨.LA_LOOP, 7, 0⟩

/-! LA_SLOT -/
def Fld.LA_SLOT_BUSY : Field := ⟨.LA_SLOT, 31, 31⟩
def Fld.LA_SLOT_METHOD : Field := ⟨.LA_SLOT, 30, 29⟩
def Fld.LA_SLOT_ELAPSED : Field := ⟨.LA_SLOT, 27, 14⟩
def Fld.LA_SLOT_LOOP : Field := ⟨.LA_SLOT, 13, 0⟩

/-! LA_SURGE -/
def Fld.LA_SURGE_STATE : Field := ⟨.LA_SURGE, 31, 30⟩
def Fld.LA_SURGE_COUNT : Field := ⟨.LA_SURGE, 29, 26⟩
def Fld.LA_SURGE_MARGIN : Field := ⟨.LA_SURGE, 15, 0⟩

/-! LA_COUNT -/
def Fld.LA_COUNT_SURGE : Field := ⟨.LA_COUNT, 31, 24⟩
def Fld.LA_COUNT_REVERT : Field := ⟨.LA_COUNT, 23, 16⟩
def Fld.LA_COUNT_INSTALL : Field := ⟨.LA_COUNT, 15, 8⟩
def Fld.LA_COUNT_ABORT : Field := ⟨.LA_COUNT, 7, 0⟩

/-! GY_STATUS -/
def Fld.GY_STATUS_LEVEL : Field := ⟨.GY_STATUS, 31, 28⟩
def Fld.GY_STATUS_STAGE_FILL : Field := ⟨.GY_STATUS, 23, 16⟩
def Fld.GY_STATUS_ARCH_FILL : Field := ⟨.GY_STATUS, 15, 8⟩
def Fld.GY_STATUS_FROZEN : Field := ⟨.GY_STATUS, 4, 0⟩

/-! GY_CH -/
def Fld.GY_CH_EN : Field := ⟨.GY_CH, 31, 31⟩
def Fld.GY_CH_TRIGGERED : Field := ⟨.GY_CH, 30, 30⟩
def Fld.GY_CH_LOSSLESS : Field := ⟨.GY_CH, 29, 29⟩
def Fld.GY_CH_PRIO : Field := ⟨.GY_CH, 28, 27⟩
def Fld.GY_CH_MODE : Field := ⟨.GY_CH, 26, 25⟩
def Fld.GY_CH_SOURCE : Field := ⟨.GY_CH, 24, 21⟩
def Fld.GY_CH_FACTOR : Field := ⟨.GY_CH, 20, 18⟩

/-! GY_COND_LO -/
def Fld.GY_COND_LO_STATE : Field := ⟨.GY_COND_LO, 31, 0⟩

/-! GY_COND_HI -/
def Fld.GY_COND_HI_STATE : Field := ⟨.GY_COND_HI, 31, 0⟩

/-! GY_SET -/
def Fld.GY_SET_STATE : Field := ⟨.GY_SET, 31, 30⟩
def Fld.GY_SET_MASTER : Field := ⟨.GY_SET, 29, 29⟩
def Fld.GY_SET_SET : Field := ⟨.GY_SET, 23, 16⟩
def Fld.GY_SET_ARMS : Field := ⟨.GY_SET, 15, 0⟩

/-! GY_CAP -/
def Fld.GY_CAP_VALID : Field := ⟨.GY_CAP, 31, 31⟩
def Fld.GY_CAP_COMPLETE : Field := ⟨.GY_CAP, 30, 30⟩
def Fld.GY_CAP_LATER : Field := ⟨.GY_CAP, 29, 26⟩
def Fld.GY_CAP_SET : Field := ⟨.GY_CAP, 23, 16⟩
def Fld.GY_CAP_CAPTURE : Field := ⟨.GY_CAP, 15, 0⟩

/-! GY_CMD -/
def Fld.GY_CMD_CMD : Field := ⟨.GY_CMD, 31, 28⟩
def Fld.GY_CMD_SLOT : Field := ⟨.GY_CMD, 7, 4⟩
def Fld.GY_CMD_SETK : Field := ⟨.GY_CMD, 3, 0⟩

/-! GY_LOST -/
def Fld.GY_LOST_OVERWRITTEN : Field := ⟨.GY_LOST, 31, 16⟩
def Fld.GY_LOST_FIRE_REFUSED : Field := ⟨.GY_LOST, 15, 8⟩
def Fld.GY_LOST_DROPS : Field := ⟨.GY_LOST, 7, 0⟩

/-! BN_STATUS -/
def Fld.BN_STATUS_ROLE : Field := ⟨.BN_STATUS, 31, 28⟩
def Fld.BN_STATUS_PARTNER_ROLE : Field := ⟨.BN_STATUS, 27, 24⟩
def Fld.BN_STATUS_LAG : Field := ⟨.BN_STATUS, 23, 20⟩
def Fld.BN_STATUS_POS : Field := ⟨.BN_STATUS, 19, 19⟩
def Fld.BN_STATUS_PAIR : Field := ⟨.BN_STATUS, 18, 18⟩
def Fld.BN_STATUS_MODE : Field := ⟨.BN_STATUS, 17, 17⟩
def Fld.BN_STATUS_AUTH : Field := ⟨.BN_STATUS, 16, 16⟩
def Fld.BN_STATUS_READY : Field := ⟨.BN_STATUS, 15, 15⟩
def Fld.BN_STATUS_PARTNER_READY : Field := ⟨.BN_STATUS, 14, 14⟩
def Fld.BN_STATUS_LINK0_UP : Field := ⟨.BN_STATUS, 13, 13⟩
def Fld.BN_STATUS_LINK1_UP : Field := ⟨.BN_STATUS, 12, 12⟩
def Fld.BN_STATUS_NET_HB : Field := ⟨.BN_STATUS, 11, 11⟩
def Fld.BN_STATUS_ARB_FAIL : Field := ⟨.BN_STATUS, 10, 10⟩
def Fld.BN_STATUS_GRANT : Field := ⟨.BN_STATUS, 9, 9⟩
def Fld.BN_STATUS_GRANT_CONFLICT : Field := ⟨.BN_STATUS, 8, 8⟩
def Fld.BN_STATUS_LOOP_FAULT : Field := ⟨.BN_STATUS, 7, 7⟩
def Fld.BN_STATUS_REMOVE_REFUSED : Field := ⟨.BN_STATUS, 6, 6⟩
def Fld.BN_STATUS_HO_PENDING : Field := ⟨.BN_STATUS, 5, 5⟩
def Fld.BN_STATUS_EPOCH_UNSTORED : Field := ⟨.BN_STATUS, 4, 4⟩

/-! BN_LOOP -/
def Fld.BN_LOOP_HEALTHY_OUT : Field := ⟨.BN_LOOP, 6, 6⟩
def Fld.BN_LOOP_CLAIM_RET : Field := ⟨.BN_LOOP, 5, 5⟩
def Fld.BN_LOOP_READY_P : Field := ⟨.BN_LOOP, 4, 4⟩
def Fld.BN_LOOP_CLAIM_B : Field := ⟨.BN_LOOP, 3, 3⟩
def Fld.BN_LOOP_CLAIM_A : Field := ⟨.BN_LOOP, 2, 2⟩
def Fld.BN_LOOP_AUTH_B : Field := ⟨.BN_LOOP, 1, 1⟩
def Fld.BN_LOOP_AUTH_A : Field := ⟨.BN_LOOP, 0, 0⟩

/-! BN_EPOCH -/
def Fld.BN_EPOCH_EPOCH : Field := ⟨.BN_EPOCH, 31, 0⟩

/-! BN_HEALTH -/
def Fld.BN_HEALTH_WORD : Field := ⟨.BN_HEALTH, 31, 0⟩

/-! BN_EQ -/
def Fld.BN_EQ_LAST_SIZE : Field := ⟨.BN_EQ, 31, 16⟩
def Fld.BN_EQ_STRETCHED : Field := ⟨.BN_EQ, 15, 8⟩
def Fld.BN_EQ_FAST_LATE : Field := ⟨.BN_EQ, 7, 0⟩

/-! BN_VERIFY -/
def Fld.BN_VERIFY_LATENT : Field := ⟨.BN_VERIFY, 31, 24⟩
def Fld.BN_VERIFY_DIVERGE : Field := ⟨.BN_VERIFY, 23, 16⟩
def Fld.BN_VERIFY_BLOCK : Field := ⟨.BN_VERIFY, 14, 0⟩

/-! BN_TAKEOVER -/
def Fld.BN_TAKEOVER_KIND : Field := ⟨.BN_TAKEOVER, 31, 28⟩
def Fld.BN_TAKEOVER_LAG : Field := ⟨.BN_TAKEOVER, 27, 22⟩
def Fld.BN_TAKEOVER_DETECT : Field := ⟨.BN_TAKEOVER, 11, 0⟩

/-! BN_CMD -/
def Fld.BN_CMD_CMD : Field := ⟨.BN_CMD, 31, 28⟩

/-! BN_HO_AT_LO -/
def Fld.BN_HO_AT_LO_AT : Field := ⟨.BN_HO_AT_LO, 31, 0⟩

/-! BN_HO_AT_HI -/
def Fld.BN_HO_AT_HI_AT : Field := ⟨.BN_HO_AT_HI, 31, 0⟩

/-! BN_CMD_RESULT -/
def Fld.BN_CMD_RESULT_BUSY : Field := ⟨.BN_CMD_RESULT, 31, 31⟩
def Fld.BN_CMD_RESULT_CODE : Field := ⟨.BN_CMD_RESULT, 7, 0⟩

/-! PN_PORT -/
def Fld.PN_PORT_LINK : Field := ⟨.PN_PORT, 31, 31⟩
def Fld.PN_PORT_GATES : Field := ⟨.PN_PORT, 30, 30⟩
def Fld.PN_PORT_FWD : Field := ⟨.PN_PORT, 29, 29⟩
def Fld.PN_PORT_PATH_SILENT : Field := ⟨.PN_PORT, 28, 28⟩
def Fld.PN_PORT_TB : Field := ⟨.PN_PORT, 27, 24⟩
def Fld.PN_PORT_PEERS : Field := ⟨.PN_PORT, 23, 16⟩
def Fld.PN_PORT_PDELAY_OK : Field := ⟨.PN_PORT, 0, 0⟩

/-! PN_DROP -/
def Fld.PN_DROP_UNDECLARED : Field := ⟨.PN_DROP, 31, 24⟩
def Fld.PN_DROP_POLICED : Field := ⟨.PN_DROP, 23, 16⟩
def Fld.PN_DROP_WINDOW : Field := ⟨.PN_DROP, 15, 8⟩
def Fld.PN_DROP_FCS : Field := ⟨.PN_DROP, 7, 0⟩

/-! PN_PTP -/
def Fld.PN_PTP_UNKNOWN_DOMAIN : Field := ⟨.PN_PTP, 31, 16⟩
def Fld.PN_PTP_MANAGEMENT : Field := ⟨.PN_PTP, 15, 0⟩

/-! PN_SEL -/
def Fld.PN_SEL_TABLE : Field := ⟨.PN_SEL, 31, 30⟩
def Fld.PN_SEL_INDEX : Field := ⟨.PN_SEL, 13, 0⟩

/-! PN_SSTAT -/
def Fld.PN_SSTAT_POLICED : Field := ⟨.PN_SSTAT, 31, 16⟩
def Fld.PN_SSTAT_ELIMINATED : Field := ⟨.PN_SSTAT, 15, 0⟩

/-! PN_SVC -/
def Fld.PN_SVC_SESSIONS : Field := ⟨.PN_SVC, 31, 28⟩
def Fld.PN_SVC_AUTH_FAIL : Field := ⟨.PN_SVC, 15, 8⟩
def Fld.PN_SVC_REFUSED : Field := ⟨.PN_SVC, 7, 0⟩

/-! CN_CFG -/
def Fld.CN_CFG_EN : Field := ⟨.CN_CFG, 31, 31⟩
def Fld.CN_CFG_LISTEN : Field := ⟨.CN_CFG, 30, 30⟩
def Fld.CN_CFG_FD : Field := ⟨.CN_CFG, 29, 29⟩
def Fld.CN_CFG_TDC : Field := ⟨.CN_CFG, 28, 28⟩
def Fld.CN_CFG_NBR : Field := ⟨.CN_CFG, 27, 24⟩
def Fld.CN_CFG_DBR : Field := ⟨.CN_CFG, 23, 20⟩
def Fld.CN_CFG_TB : Field := ⟨.CN_CFG, 19, 16⟩

/-! CN_CTL -/
def Fld.CN_CTL_RECOVER : Field := ⟨.CN_CTL, 0, 0⟩

/-! CN_STAT -/
def Fld.CN_STAT_FC : Field := ⟨.CN_STAT, 31, 30⟩
def Fld.CN_STAT_ALONE : Field := ⟨.CN_STAT, 29, 29⟩
def Fld.CN_STAT_LISTEN : Field := ⟨.CN_STAT, 28, 28⟩
def Fld.CN_STAT_TX_EN : Field := ⟨.CN_STAT, 27, 27⟩
def Fld.CN_STAT_TEC : Field := ⟨.CN_STAT, 24, 16⟩
def Fld.CN_STAT_REC : Field := ⟨.CN_STAT, 15, 8⟩
def Fld.CN_STAT_ACK_RUN : Field := ⟨.CN_STAT, 7, 0⟩

/-! CN_ERR -/
def Fld.CN_ERR_BUS_OFF : Field := ⟨.CN_ERR, 31, 24⟩
def Fld.CN_ERR_UNACK : Field := ⟨.CN_ERR, 23, 16⟩
def Fld.CN_ERR_UNMATCHED : Field := ⟨.CN_ERR, 15, 8⟩
def Fld.CN_ERR_LOST : Field := ⟨.CN_ERR, 7, 0⟩

/-! CN_PROT -/
def Fld.CN_PROT_LAST : Field := ⟨.CN_PROT, 31, 28⟩
def Fld.CN_PROT_ERRORS : Field := ⟨.CN_PROT, 15, 0⟩

/-! CN_TIMING -/
def Fld.CN_TIMING_NSP : Field := ⟨.CN_TIMING, 25, 16⟩
def Fld.CN_TIMING_DSP : Field := ⟨.CN_TIMING, 9, 0⟩

/-! CN_OBJCMD -/
def Fld.CN_OBJCMD_CMD : Field := ⟨.CN_OBJCMD, 31, 28⟩
def Fld.CN_OBJCMD_PORT : Field := ⟨.CN_OBJCMD, 9, 8⟩
def Fld.CN_OBJCMD_OBJ : Field := ⟨.CN_OBJCMD, 6, 0⟩

/-! CN_OBJRES -/
def Fld.CN_OBJRES_BUSY : Field := ⟨.CN_OBJRES, 31, 31⟩
def Fld.CN_OBJRES_CODE : Field := ⟨.CN_OBJRES, 7, 0⟩

/-! SX_PORT -/
def Fld.SX_PORT_EN : Field := ⟨.SX_PORT, 31, 31⟩
def Fld.SX_PORT_ORIGIN : Field := ⟨.SX_PORT, 30, 30⟩
def Fld.SX_PORT_INTACT : Field := ⟨.SX_PORT, 29, 29⟩
def Fld.SX_PORT_WRAPPED : Field := ⟨.SX_PORT, 28, 28⟩
def Fld.SX_PORT_WRAP_E : Field := ⟨.SX_PORT, 27, 22⟩
def Fld.SX_PORT_WRAP_W : Field := ⟨.SX_PORT, 21, 16⟩
def Fld.SX_PORT_DECLARED : Field := ⟨.SX_PORT, 13, 8⟩
def Fld.SX_PORT_RUNNING : Field := ⟨.SX_PORT, 5, 0⟩

/-! SX_LAP -/
def Fld.SX_LAP_D_OUT : Field := ⟨.SX_LAP, 31, 24⟩
def Fld.SX_LAP_LAP : Field := ⟨.SX_LAP, 15, 0⟩

/-! SX_ERR -/
def Fld.SX_ERR_FCS_BAD : Field := ⟨.SX_ERR, 31, 24⟩
def Fld.SX_ERR_LOST : Field := ⟨.SX_ERR, 23, 16⟩
def Fld.SX_ERR_LATE_SLOTS : Field := ⟨.SX_ERR, 15, 8⟩
def Fld.SX_ERR_REFUSED : Field := ⟨.SX_ERR, 7, 0⟩

/-! SX_CAR -/
def Fld.SX_CAR_CSTATE : Field := ⟨.SX_CAR, 31, 28⟩
def Fld.SX_CAR_DECLARED : Field := ⟨.SX_CAR, 27, 27⟩
def Fld.SX_CAR_SEEN : Field := ⟨.SX_CAR, 26, 26⟩
def Fld.SX_CAR_FAULT : Field := ⟨.SX_CAR, 25, 25⟩
def Fld.SX_CAR_MISMATCH : Field := ⟨.SX_CAR, 24, 24⟩
def Fld.SX_CAR_MISSED : Field := ⟨.SX_CAR, 23, 16⟩
def Fld.SX_CAR_EPOCH_OK : Field := ⟨.SX_CAR, 15, 15⟩

/-! SX_EPOCH -/
def Fld.SX_EPOCH_EPOCH : Field := ⟨.SX_EPOCH, 31, 0⟩

/-! UC_CFG -/
def Fld.UC_CFG_MODE : Field := ⟨.UC_CFG, 31, 28⟩
def Fld.UC_CFG_RANGE : Field := ⟨.UC_CFG, 27, 24⟩
def Fld.UC_CFG_FILT : Field := ⟨.UC_CFG, 23, 21⟩
def Fld.UC_CFG_WIRES : Field := ⟨.UC_CFG, 20, 19⟩
def Fld.UC_CFG_TC : Field := ⟨.UC_CFG, 18, 15⟩
def Fld.UC_CFG_HART : Field := ⟨.UC_CFG, 14, 13⟩
def Fld.UC_CFG_NE43 : Field := ⟨.UC_CFG, 12, 12⟩
def Fld.UC_CFG_OUTKIND : Field := ⟨.UC_CFG, 11, 11⟩
def Fld.UC_CFG_SAFE : Field := ⟨.UC_CFG, 10, 9⟩
def Fld.UC_CFG_VCMAX : Field := ⟨.UC_CFG, 8, 0⟩

/-! UC_STAT -/
def Fld.UC_STAT_LIVE : Field := ⟨.UC_STAT, 31, 16⟩
def Fld.UC_STAT_HEADROOM : Field := ⟨.UC_STAT, 15, 8⟩
def Fld.UC_STAT_CAL_OK : Field := ⟨.UC_STAT, 3, 3⟩
def Fld.UC_STAT_UNASSIGNED : Field := ⟨.UC_STAT, 2, 2⟩
def Fld.UC_STAT_STAGE_ON : Field := ⟨.UC_STAT, 1, 1⟩
def Fld.UC_STAT_IN_SERVICE : Field := ⟨.UC_STAT, 0, 0⟩

/-! UC_DIAG -/
def Fld.UC_DIAG_LATCH : Field := ⟨.UC_DIAG, 15, 0⟩

/-! UC_SLICE -/
def Fld.UC_SLICE_ALIVE : Field := ⟨.UC_SLICE, 31, 31⟩
def Fld.UC_SLICE_TEMP_WARN : Field := ⟨.UC_SLICE, 30, 30⟩
def Fld.UC_SLICE_TEMP_OFF : Field := ⟨.UC_SLICE, 29, 29⟩
def Fld.UC_SLICE_ISO_LOW : Field := ⟨.UC_SLICE, 28, 28⟩
def Fld.UC_SLICE_TEMP : Field := ⟨.UC_SLICE, 23, 16⟩
def Fld.UC_SLICE_POWER : Field := ⟨.UC_SLICE, 7, 0⟩

/-! UC_HART -/
def Fld.UC_HART_RESPONSE : Field := ⟨.UC_HART, 31, 24⟩
def Fld.UC_HART_DEVICE : Field := ⟨.UC_HART, 23, 16⟩
def Fld.UC_HART_FAILS : Field := ⟨.UC_HART, 15, 8⟩
def Fld.UC_HART_PASS_BUSY : Field := ⟨.UC_HART, 3, 3⟩
def Fld.UC_HART_BURST_SEEN : Field := ⟨.UC_HART, 2, 2⟩
def Fld.UC_HART_MORE_STATUS : Field := ⟨.UC_HART, 1, 1⟩
def Fld.UC_HART_CONNECTED : Field := ⟨.UC_HART, 0, 0⟩

/-! DC_CFG -/
def Fld.DC_CFG_MODE : Field := ⟨.DC_CFG, 31, 28⟩
def Fld.DC_CFG_TYPE : Field := ⟨.DC_CFG, 27, 26⟩
def Fld.DC_CFG_FILT : Field := ⟨.DC_CFG, 25, 23⟩
def Fld.DC_CFG_EDGE : Field := ⟨.DC_CFG, 22, 21⟩
def Fld.DC_CFG_OUTKIND : Field := ⟨.DC_CFG, 20, 20⟩
def Fld.DC_CFG_SAFE : Field := ⟨.DC_CFG, 19, 18⟩
def Fld.DC_CFG_SAFE_ON : Field := ⟨.DC_CFG, 17, 17⟩
def Fld.DC_CFG_OPEN_DET : Field := ⟨.DC_CFG, 16, 16⟩
def Fld.DC_CFG_OFF_TEST : Field := ⟨.DC_CFG, 15, 15⟩
def Fld.DC_CFG_BREAK_DET : Field := ⟨.DC_CFG, 14, 14⟩

/-! DC_STAT -/
def Fld.DC_STAT_LIVE : Field := ⟨.DC_STAT, 31, 16⟩
def Fld.DC_STAT_SRC : Field := ⟨.DC_STAT, 13, 8⟩
def Fld.DC_STAT_TERM : Field := ⟨.DC_STAT, 7, 7⟩
def Fld.DC_STAT_SINK_HALF : Field := ⟨.DC_STAT, 6, 6⟩
def Fld.DC_STAT_QUEUED : Field := ⟨.DC_STAT, 5, 5⟩
def Fld.DC_STAT_RETRY : Field := ⟨.DC_STAT, 4, 4⟩
def Fld.DC_STAT_UNASSIGNED : Field := ⟨.DC_STAT, 2, 2⟩
def Fld.DC_STAT_STAGE_ON : Field := ⟨.DC_STAT, 1, 1⟩
def Fld.DC_STAT_IN_SERVICE : Field := ⟨.DC_STAT, 0, 0⟩

/-! DC_DIAG -/
def Fld.DC_DIAG_LATCH : Field := ⟨.DC_DIAG, 15, 0⟩

/-! DC_GROUP -/
def Fld.DC_GROUP_STATE : Field := ⟨.DC_GROUP, 31, 30⟩
def Fld.DC_GROUP_ALIVE : Field := ⟨.DC_GROUP, 29, 29⟩
def Fld.DC_GROUP_TEMP_WARN : Field := ⟨.DC_GROUP, 28, 28⟩
def Fld.DC_GROUP_GROUP_OVER : Field := ⟨.DC_GROUP, 27, 27⟩
def Fld.DC_GROUP_REAPPLY : Field := ⟨.DC_GROUP, 26, 26⟩
def Fld.DC_GROUP_PARTNER_SINK : Field := ⟨.DC_GROUP, 25, 25⟩
def Fld.DC_GROUP_TEMP : Field := ⟨.DC_GROUP, 23, 16⟩
def Fld.DC_GROUP_VOLTS : Field := ⟨.DC_GROUP, 15, 8⟩
def Fld.DC_GROUP_CURRENT : Field := ⟨.DC_GROUP, 7, 0⟩

/-- The bits a write sets (R6). -/
def RegName.rwMask : RegName → Word
  | .RST_EV_ROUTE => 0xFFFFFFFF#32
  | .AC_CTL => 0x00000001#32
  | .AC_SLOT => 0xC00001FC#32
  | .SN_CURSOR_LO => 0xFFFFFFFF#32
  | .SN_CURSOR_HI => 0x0000FFFF#32
  | .MB_ACK => 0x0000FFFF#32
  | .MT_TB_CFG => 0xFFC00000#32
  | .LE_CMD_VAL => 0xFFFFFFFF#32
  | .LA_SEL => 0x00003FFF#32
  | .BN_HO_AT_LO => 0xFFFFFFFF#32
  | .BN_HO_AT_HI => 0xFFFFFFFF#32
  | .PN_SEL => 0xC0003FFF#32
  | _ => 0

/-- The bits a written one clears (R7). -/
def RegName.w1cMask : RegName → Word
  | .SUP_ISLAND => 0x40000000#32
  | .RST_EV_PEND => 0x0000FFFF#32
  | .AC_FAULT => 0xC0000000#32
  | .MB_STAT => 0x18000000#32
  | .MT_TB_CFG => 0x00000008#32
  | .LN_SUB => 0x58000000#32
  | .PN_PORT => 0x10000000#32
  | .UC_DIAG => 0x0000FFFF#32
  | .DC_DIAG => 0x0000FFFF#32
  | _ => 0

/-- The bits a read clears (R7). -/
def RegName.rcMask : RegName → Word
  | .SUP_ISLAND => 0x00FFFFFF#32
  | .AC_FAULT => 0x000000FF#32
  | .AC_ECC => 0xFFFFFFFF#32
  | .SN_LOST => 0xFFFFFFFF#32
  | .SN_SUPPRESSED => 0xFFFFFFFF#32
  | .MB_ACK => 0xC0000000#32
  | .LK_COUNT => 0xFFFFFFFF#32
  | .MT_OUTLIERS => 0xFFFFFFFF#32
  | .LN_OVERRUN => 0xFFFFFFFF#32
  | .LN_DISCARD => 0xFFFFFFFF#32
  | .LE_OVERRUN => 0x0000FFFF#32
  | .LE_FAULT => 0x0FFF0000#32
  | .LE_LOAD => 0x0000FFFF#32
  | .LE_FDELAY => 0xFFFF0000#32
  | .LA_COUNT => 0xFFFFFFFF#32
  | .GY_LOST => 0xFFFFFFFF#32
  | .BN_EQ => 0x0000FFFF#32
  | .BN_VERIFY => 0xFFFF0000#32
  | .PN_DROP => 0xFFFFFFFF#32
  | .PN_PTP => 0xFFFFFFFF#32
  | .PN_SSTAT => 0xFFFFFFFF#32
  | .PN_SVC => 0x0000FFFF#32
  | .CN_ERR => 0xFFFFFFFF#32
  | .CN_PROT => 0x0000FFFF#32
  | .SX_ERR => 0xFFFFFFFF#32
  | _ => 0

/-- The bits that take a command and read as 0 (R6). -/
def RegName.woMask : RegName → Word
  | .RST_CTL => 0xFFFFFFFF#32
  | .RST_WDOG => 0xFFFF0000#32
  | .MB_DOOR => 0xFFFFFFFF#32
  | .LK_CMD => 0xFFFFFFFF#32
  | .MT_CTL => 0xFFFFFFFF#32
  | .LE_CMD => 0xFFFFFFFF#32
  | .GY_CMD => 0xFFFFFFFF#32
  | .BN_CMD => 0xFFFFFFFF#32
  | .CN_CTL => 0xFFFFFFFF#32
  | .CN_OBJCMD => 0xFFFFFFFF#32
  | _ => 0

end Sys2Proof
end

