-- ==== Sys2Proof/Machine/Parts.lean ====
section
/-! DEFINITION. The typed parts of the state that are not registers, block by block. Every default is the value at
power-on reset. -/

namespace Sys2Proof.Machine

/-! ## Sinter (18) -/

/-- The payload of a raised record: laid out as its chapter gives; items whose placement no chapter gives; or a time
anchor, whose content is taken at admission (R405). (DESIGN CHOICE, log entry 59) -/
inductive Payload where
  | laid (p : BitVec 352)
  | items (xs : List Nat)
  | anchor (reason : Nat)
  deriving DecidableEq, Repr, Inhabited

/-- A raised record on its way to the supervisor, with the FRC of its raising. -/
structure RawRec where
  island  : Nat
  code    : BitVec 16
  payload : Payload
  frc     : W64 := 0
  deriving DecidableEq, Repr, Inhabited

/-- An entry of the suppression table (R400). `count` since the last summary, `mark` the FRC its next summary falls due
after, `quiet` that a summary has been admitted with no suppression since. -/
structure Supp where
  code  : BitVec 16
  first : Instant := 0
  last  : Instant := 0
  count : Nat := 0
  mark  : W64 := 0
  deriving DecidableEq, Repr, Inhabited

structure Sn where
  raised    : List RawRec := []
  queue     : List (BitVec 512) := []
  buckets   : Tab (Nat × Nat) := []          -- by code: tokens short of BURST in 10^-9 tokens, and FRC of that figure
  recent    : List Nat := []                 -- FRC of the admissions of the last second
  supp      : List Supp := []
  spill     : Option Supp := none
  lastSeq   : Tab Nat := []                  -- by code: SEQUENCE last admitted
  lossFault : Nat := 0
  lossOther : Nat := 0
  lossPt    : Instant := 0
  refused   : Bool := false                  -- a refusal in the present standard cycle
  next      : Nat := 1
  located   : Bool := false
  prevAnchor : Nat := 0
  anchorFrc : Option Nat := none
  win0      : List (BitVec 512) := []
  win1      : List (BitVec 512) := []
  deriving DecidableEq, Repr, Inhabited

/-! ## Plant key, start-up and base (02, 21) -/

/-- The cartridge in the socket: whether it is in, whether it takes writes, its 64-bit units by address ÷ 8, and the
adaptation records and the header among its retained variables (where they lie the manual does not give). -/
structure Key where
  inSocket : Bool := false
  writable : Bool := true
  units    : Tab W64 := []
  adapt    : Tab KeptAdapt := []
  retTag   : W64 := 0                        -- CFG_TAG that the header of the retained variables names (R422)
  deriving DecidableEq, Repr, Inhabited

/-- What start-up has found so far (R52). -/
structure Boot where
  imgLoaded : Bool := false
  payHash   : BitVec 384 := 0                -- PAYLOAD_HASH of the configuration in use
  committed : Bool := false                  -- first commit made
  roleTaken : Bool := false
  roleAt    : Instant := 0
  fwRunning : Bool := false
  fwTag     : W64 := 0                       -- tag of the firmware bank started
  selfTested : Bool := false                 -- the self-test passed
  baseRead  : Bool := false
  okBanks   : BitVec 4 := 0                  -- banks found valid by R41: configuration 0 and 1, firmware 0 and 1
  deriving DecidableEq, Repr, Inhabited

/-! ## Plant time (03) -/

/-- A view of FRC (R65). -/
structure View where
  base    : W64 := 0
  frcBase : W64 := 0
  rate    : Int := 0
  deriving DecidableEq, Repr, Inhabited

/-- A Sync offset with its reception FRC and how far PT led FRC then (R74). -/
structure SyncOff where
  off  : Int := 0
  frc  : W64 := 0
  lead : Int := 0
  deriving DecidableEq, Repr, Inhabited

/-- Entry to HOLDOVER (R85, R476). -/
structure Hold where
  frc  : W64 := 0
  e0   : Nat := 0
  long : Bool := false
  deriving DecidableEq, Repr, Inhabited

/-- A peer delay measurement of a plant port, common to all domains (R80): the mean link delay, the exchange under way, the
neighbour's rate against the own as an offset from 1 in units of 2^-41, and t3 and t4 of the last exchange. -/
structure Pdelay where
  delay : Nat := 0
  seq   : Nat := 0
  open_ : Bool := false
  rate  : Int := 0
  last  : Option (Nat × Nat) := none
  deriving DecidableEq, Repr, Inhabited

/-- A gPTP domain's state at the relay (R80, R82): slave port, steps removed, grandmaster seen. -/
structure Bmca where
  slave : Nat := 0
  steps : Nat := 0
  deriving DecidableEq, Repr, Inhabited

structure Mt where
  frc      : W64 := 0
  pt       : View := {}
  bt       : View := {}
  tb       : Tab View := []
  ptSet    : Bool := false
  btSet    : Bool := false
  hist     : List SyncOff := []              -- Sync offsets of PT's sources, newest first (R74)
  srcRate  : Int := 0                        -- learned rate of the source against FRC, 2^-40
  lockedAt : Option W64 := none              -- FRC at entry to LOCKED
  hold     : Hold := {}
  partner  : Option SyncOff := none          -- offset of PT to the partner's, where that is LOCKED and measured (R71, R78)
  ppsEdge  : Option W64 := none              -- FRC of the last PPS in edge
  ppsIval  : Option Nat := none             -- FRC between the last two edges
  ppsRun   : Nat := 0
  ppsOff   : Option Int := none              -- offset between PPS in and PT as learned while LOCKED (R86)
  f10mRun  : Nat := 0
  f10mRate : Option Int := none              -- rate of 10 MHz in against FRC, learned while LOCKED
  pdelay   : Tab Pdelay := []
  logSync  : Tab Int := []
  logPd    : Tab Int := []
  bmca     : Tab Bmca := []
  tbRate   : Tab Int := []                   -- by base: rate of its source against FRC
  tbAt     : Tab W64 := []                   -- and FRC at which it last heard it
  pBase    : Option SyncOff := none          -- the partner's offset from which its rate is learned
  pRate    : Option Int := none              -- that rate against FRC (R75)
  ppsSec   : Option Nat := none              -- the second of PT at which PPS out last pulsed (R87)
  deriving DecidableEq, Repr, Inhabited

/-! ## Power, resets and contacts (20, 21, 22) -/

/-- A reset in progress (R426): its code, whether its duration has begun to run out, and Caldera's part (R60, R62). -/
structure Pw where
  inReset  : Option Nat := none              -- code of the reset in progress
  resetIn  : Bool := false                   -- RESET_IN asserted
  resetOut : Bool := false                   -- RESET_OUT asserted
  boLatch  : Bool := false
  healthy  : Bool := false                   -- healthy relay energized
  kickFrc  : W64 := 0                        -- FRC of the last kick
  wdogRun  : Bool := false
  h0       : Option W64 := none              -- FRC of H0
  keyEnd   : Bool := false                   -- H0 + 18 ms has passed, or INSERTED is open
  rstFrc   : W64 := 0                        -- FRC of the latest reset entry, or of RESET_IN released
  feedFrc  : W64 := 0                        -- FRC at which a feed came back in Hold-up
  hotFrc   : Option W64 := none              -- FRC since which every check measured above 115 °C (R467)
  released : Bool := false                   -- the role was released in hold-up
  capBad   : Bool := false
  pgFrc    : W64 := 0                         -- FRC from which the instants of start-up count: PG, or as R54 gives
  holdEnd  : W64 := 0                         -- FRC at which the hold time that runs is over (R60)
  calderaHold : Bool := false                -- outputs held at their last committed values (R60)
  calderaClaim : Bool := false               -- claim held by Caldera (R62)
  inserted : Bool := true
  removeClosed : Bool := true
  removedRelease : Bool := false             -- released because REMOVE opened
  retained : List (Nat × W64) := []          -- retained-variable buffer (R436): unit number, value
  insFrc   : W64 := 0
  lkfPending : Bool := false                 -- lockstep record to be written at the next start-up (R344)
  fuseSealed : Bool := false                 -- lifecycle fuse (R377)
  contactOpen : Bool := false                -- owner lock open as debounced
  deriving DecidableEq, Repr, Inhabited

/-! ## Launch, publishing and subscribing (04, 15) -/

/-- A message in a handshake channel (R356). -/
inductive ChanMsg where
  | entry (e : Nat) (t : Instant)                       -- a launch entry with its instant (R96)
  | samples (group : Nat) (c : Instant) (recs : List (Nat × W64))  -- a slice's sample set, due at C (R98)
  | commit (e : Nat) (k : Instant)                      -- the commit values of a slice, due at K (R104)
  | immediate (point : Nat) (r : W64) (cc : Instant)    -- an immediate output (R139)
  deriving DecidableEq, Repr, Inhabited

/-- A publication stream: SEQUENCE of its last frame, whether it has sent one, and its first instant since start-up or
takeover. -/
structure Pub where
  seq     : Nat := 0
  started : Bool := false
  base    : Instant := 0                                -- snapshot instant its SEQUENCE stands for (R320)
  resumed : Bool := false
  deriving DecidableEq, Repr, Inhabited

/-- A pending frame of a subscription stream (R110). -/
structure PendFrame where
  validAt : Instant := 0
  epoch   : Word := 0
  recs    : List W64 := []
  deriving DecidableEq, Repr, Inhabited

/-- A subscription stream (R110 to R114). -/
structure Sub where
  pend    : Option PendFrame := none
  applied : Option Instant := none                      -- VALID_AT of the applied record
  grid    : Option Instant := none                      -- the next expected instant, not judged yet (R112)
  deriving DecidableEq, Repr, Inhabited

/-- An application task (R94, R104). -/
structure Task where
  running : Bool := false
  k       : Instant := 0
  late    : Bool := false                               -- missed its K (R104)
  skipped : Bool := false                               -- still running at its last C: not launched for that cycle
  counted : Option Instant := none                      -- the K it was last counted late at
  stopped : Bool := false
  faults  : Nat := 0                                    -- consecutive user faults (R376)
  pi      : Tab W64 := []                               -- the records as its C found them (R99): process image,
  subc    : Tab W64 := []                               -- and subscription cache
  deriving DecidableEq, Repr, Inhabited

/-- A sample set that a slice owes by the C of its group, with the points that carry LATE without it (R28, R98). -/
structure Expect where
  slice  : Nat
  group  : Nat
  cls    : Nat
  c      : Instant
  points : List Nat
  deriving DecidableEq, Repr, Inhabited

structure Launch where
  chans    : Tab (List ChanMsg) := []                   -- by channel code
  vis      : List (Instant × Nat × W64) := []           -- records that become visible at an instant (R98)
  due      : List (Nat × Nat × Instant) := []           -- (channel code, entry, instant) that reached their island in time
  handed   : Tab (Option Instant) := []                 -- by entry: the instant it was last handed over for
  ran      : Tab (Option Instant) := []                 -- by entry: the instant it last ran at, or was counted missed at
  expect   : List Expect := []                          -- sample sets on their way to the memory port
  sets     : List (Nat × Instant × List (Nat × W64)) := [] -- (group, C) sets of fast groups that have arrived (R92, R98)
  subs     : Tab Sub := []
  epochs   : Tab Nat := []                              -- highest EPOCH pending, plus 1, by binary (R113)
  pubs     : Tab Pub := []
  tasks    : Tab Task := []
  resume   : Option Instant := none                     -- resume instant after a takeover (R319)
  rolled   : List Nat := []                             -- points that keep a snapshot's VALUE, until their producer writes (R320)
  stopAt   : Option Instant := none                     -- hand-over instant: no entry at or after it (R322)
  starts   : Tab (Option Instant) := []                 -- by class: no entry before this boundary (R52, R79)
  deriving DecidableEq, Repr, Inhabited

/-! ## Loop engine (05) -/

/-- A pending loop command (R144). -/
structure LoopCmd where
  cmd : Nat := 0
  set : Nat := 0
  val : F32 := 0
  deriving DecidableEq, Repr, Inhabited

/-- What a launch of a loop staged (R126, R140): the loop's blocks after the descriptor, the manual value, which record
it writes (0 fresh, 1 late, 2 fault), whether its first launch found set 0 invalid, the FAULT it entered after that (0
none), a SWITCH set discarded, and K or next S. -/
structure Job where
  t      : Instant := 0
  due    : Instant := 0
  sAt    : Instant := 0
  fast   : Bool := false
  blocks : List (BitVec 256) := []
  manual : F32 := 0
  kind   : Nat := 0
  badSet0 : Bool := false
  enter  : Nat := 0
  badSet : Option Nat := none
  e      : F32 := 0
  uRaw   : F32 := 0
  logs   : Bool := false
  abort  : Nat := 0                                     -- the condition of R156 that its test met
  deriving DecidableEq, Repr, Inhabited

/-- The engine's memory of one loop outside its blocks. -/
structure LoopRun where
  manual : F32 := 0
  pend   : Option LoopCmd := none
  pendNew : Bool := false                               -- written since the last launch
  job    : Option Job := none
  seenTk : Nat := 0                                     -- takeovers it has re-entered after (R321)
  deriving DecidableEq, Repr, Inhabited

/-- A compute window (R147): the class that it counts for, its group, its bounds in PT, and the lane time in ns used in it. -/
structure Window where
  cls   : Nat := 0
  group : Nat := 0
  from_ : Instant := 0
  to_   : Instant := 0
  used  : Nat := 0
  deriving DecidableEq, Repr, Inhabited

structure Le where
  dir      : Tab Nat := []                              -- first block plus 1, by descriptor (R118)
  runs     : Tab LoopRun := []
  lanes    : Tab (List Nat) := []                       -- loops on a lane, the running one first (R116)
  ready    : List Nat := []
  takeovers : Nat := 0
  lag      : Nat := 0                                   -- LAG of the last takeover
  changed  : List Nat := []                             -- loops that re-enter as after LAG 1 (R422)
  wins     : List Window := []                          -- compute windows not closed yet (R147)
  mark     : Instant := 0                               -- PT up to which their lane time is counted
  deriving DecidableEq, Repr, Inhabited

/-! ## Adaptation and surge defence (06) -/

/-- The adaptation layer's record of a loop (R149 to R160, R165, R167). -/
structure AdaptRec where
  fIdent   : Bool := false
  fInstall : Bool := false
  fSurge   : Bool := false
  phase    : Nat := 0
  ret      : Nat := 0                                   -- return set
  reason   : Nat := 0
  lastEnd  : Option Instant := none                     -- end of the last test
  cand     : Option (F32 × F32 × F32) := none           -- (Kp, Ti, Td) of the tuned set in use
  prevPar  : Option (F32 × F32 × F32) := none           -- and of the set before the last installation
  staged   : Option (Nat × F32 × F32 × F32) := none     -- candidate waiting for SET_STAGE: set, Kp, Ti, Td
  passed   : Option ((F32 × F32 × F32) × (F32 × F32 × F32)) := none  -- parameters and model that passed probation (R160)
  model    : Option (F32 × F32 × F32) := none           -- (K, tau, theta)
  probEnd  : Instant := 0
  lockEnd  : Instant := 0
  refIae   : F32 := 0
  probIae  : F32 := 0
  iae100   : F32 := 0                                   -- IAE over the 100 cycles before the last start (R153)
  hist     : List (F32 × Bool × Bool) := []             -- |e| per cycle, newest first; limits clear; RAMPING clear
  sign     : Option Bool := none                        -- e was last negative, in probation (R159)
  peak     : Bool := false                              -- |e| above D_START since the last crossing
  cross    : List Instant := []                         -- the last 8 crossings with such a peak between, newest first
  osc      : Bool := false                              -- 8 of them lay within 10 × Ti at some time
  fit      : F32 := 0                                   -- fit error of the last model
  set      : Option Nat := none                         -- the set that the layer last switched to
  setPrev  : Nat := 0                                   -- the set active before the last installation
  noRestore : Bool := false
  tuneIdx  : Nat := 0
  deriving DecidableEq, Repr, Inhabited

/-- A test slot (R153 to R156). -/
structure TestSlot where
  busy   : Bool := false
  loop   : Nat := 0
  relay  : Bool := false
  start  : Instant := 0
  h      : F32 := 0                                     -- magnitude of the excitation
  cycle  : Nat := 0
  pos    : Bool := true                                 -- the relay's present sign
  flips  : Nat := 0                                     -- its changes of sign
  marks  : List Nat := []                               -- cycles of its last 9 changes, newest first
  e0     : F32 := 0                                     -- e at the start
  u0     : F32 := 0                                     -- and the output
  div    : Nat := 1                                     -- D of R155
  accE   : F32 := 0
  accU   : F32 := 0
  accN   : Nat := 0
  log    : List (F32 × F32) := []
  deriving DecidableEq, Repr, Inhabited

/-- A closed Geyser interval as the layer reads it (R228): minimum, maximum, and whether it was rate-reduced or
incomplete. -/
structure GyFeed where
  mn  : F32 := 0
  mx  : F32 := 0
  bad : Bool := true
  deriving DecidableEq, Repr, Inhabited

/-- A surge group's running state (R162 to R164). -/
structure SurgeRun where
  invalid : Nat := 0
  relAt   : Option Instant := none                      -- since when M has been at least M_REL
  m       : F32 := 0
  f       : F32 := 0
  deriving DecidableEq, Repr, Inhabited

structure La where
  recs  : Tab AdaptRec := []
  slots : Tab TestSlot := []
  surge : Tab SurgeRun := []
  feed  : Tab GyFeed := []
  unsaved : List Nat := []                              -- loops whose kept record waits for the retained buffer (R160)
  deriving DecidableEq, Repr, Inhabited

/-! ## Binary redundancy (13) -/

/-- One block record (R313). -/
structure BlockRec where
  hdr   : BitVec 128
  words : List W64
  deriving DecidableEq, Repr, Inhabited

/-- A snapshot being sent (R313, R315). -/
structure Xfer where
  num   : Nat := 0
  b     : Instant := 0
  left  : List BlockRec := []
  bytes : Nat := 0
  crc   : Nat := 0xFFFFFFFF
  spans : Bool := false
  items : SnapItems := {}
  deriving DecidableEq, Repr, Inhabited

/-- A hand-over ordered for H (R322). -/
structure Handover where
  h     : Instant := 0
  moves : Nat := 0
  after : After := .join
  deriving DecidableEq, Repr, Inhabited

structure Bn where
  claimOut   : Bool := false
  healthyOut : Bool := false
  releasing  : Bool := false                            -- the next heartbeat carries RELEASE and is the last
  hbRun      : Bool := false                            -- the heartbeat generator runs
  seq0       : Nat := 0
  seq1       : Nat := 0
  seqNet     : Nat := 0
  inds       : Tab Indication := []                     -- indication of each unit, by island (R295)
  -- the partner's last heartbeat
  hbSeen     : Bool := false
  hbBt       : Instant := 0                             -- own BT at its arrival
  hbEpoch    : Nat := 0
  hbRelease  : Bool := false
  hbGrant    : Bool := false
  hbTag      : W64 := 0
  partnerFw  : Option W64 := none                       -- tag of the partner's firmware, where it may differ (R422)
  hbRole     : Nat := 0
  hbLost     : Bool := true                             -- no heartbeat for 35 µs
  netLost    : Nat := 0                                 -- standard cycles without a partner word (R325)
  heldMax    : Nat := 0                                 -- highest HELD_EPOCH seen (R298)
  stored     : Nat := 0                                 -- the epoch last stored in the own key
  storePend  : Bool := false                            -- E_new not yet in the key (R298)
  joining    : Bool := false
  claiming   : Nat := 0                                 -- BN_TAKEOVER.KIND of the claim that waits for the loop
  -- equalization, active side
  dirty      : Tab Word := []                           -- by tracked block: mask of dirty words
  allDirty   : Bool := false
  old        : Tab (Option W64) := []                   -- by tracked word: value at the last freeze, where since written
  old2       : Tab (Option W64) := []                   -- and at the freeze before it
  xfer       : Option Xfer := none
  snapNum    : Nat := 0
  frozen     : Option Instant := none                   -- the boundary last frozen
  rota       : Nat := 0                                 -- next tracked block of the verification rotation
  -- equalization, standby side
  journal    : List BlockRec := []
  committed  : Option Instant := none                   -- instant b of the committed snapshot
  sweep      : Nat := 0                                 -- clean blocks verified in a row since joining
  lag        : Nat := 0
  btOff      : Option Int := none                       -- BT against the partner's at the last heartbeat
  divAt      : List Instant := []                       -- divergences of the last 10 s
  latAt      : Option Instant := none
  stLockstep : Bool := false
  stMemory   : Bool := false
  stReadback : Bool := false
  stEngine   : Bool := false
  -- hand-over and yield
  ho         : Option Handover := none
  hoClaim    : Bool := false                            -- the partner's H has come: this standby claims (R322)
  hoAt       : Instant := 0                             -- that H
  taking     : Bool := false                            -- a takeover is in progress
  lastYield  : Option Instant := none
  failed     : Bool := false                            -- declared failed
  failAt     : W64 := 0                                 -- FRC of that declaration
  -- what has been done in the present slot of BT: heartbeats, network heartbeats, health word, equalization, verification
  slots      : Tab (Option Nat) := []
  netAt      : W64 := 0                                 -- FRC of the partner's last heartbeat over the plant network
  yieldAt    : Tab (Option Instant) := []               -- by yield condition: BT since which it holds (R326)
  fastBad    : List Nat := []                           -- fast cycles counted in FAST_LATE since the last judgement (R311)
  fastGot    : List (Nat × Nat) := []                   -- (fast cycle, loop) whose records came in time since then
  fastNext   : Option Nat := none                       -- the first fast cycle not judged yet
  deriving DecidableEq, Repr, Inhabited

/-! ## Own carrier (07, 08) -/

/-- A HART transaction in progress (R190, R192). -/
inductive HartOpen where
  | none | connect | poll | pass (sess : Nat) (msgId : Word)
  deriving DecidableEq, Repr, Inhabited

/-- A universal channel outside its registers: smoothing state, command and shadow command in engineering units, marks
for the next readback, the voltage output's turn-off, the element code found, HART, the standby's comparison. -/
structure UcChan where
  v        : F32 := 0
  cmd      : Option F32 := none
  shadow   : Option F32 := none
  elec     : F32 := 0                                   -- what the stage drives, in V or mA
  code     : F32 := 0                                   -- the converter code that drives it (R176)
  supply   : Nat := 0                                   -- compliance supply, in µV, when last seen, and FRC then (R179)
  supplyAt : W64 := 0
  late     : Bool := false
  clamped  : Bool := false
  safed    : Bool := false                              -- de-energized by its safe state (R60)
  safe     : Nat := 0                                   -- safe state that Caldera holds ready (R60)
  safeTo   : F32 := 0
  vOff     : Bool := false                              -- voltage output off at its limit (R184)
  limAt    : Option W64 := none                         -- FRC since which it stands at its limit against a supply (R184)
  noExc    : Bool := false                              -- RTD excitation stopped by a wiring fault (R184)
  elem     : Option Nat := none                         -- element code last read (R448)
  oos      : Bool := false                              -- out of service (R178)
  hart     : HartOpen := .none
  pass     : Option (Nat × Word × List Byte) := none    -- pass-through frame waiting: session, MSG_ID, frame
  burst    : Bool := false                              -- a burst message since the last poll
  fresh    : Bool := false                              -- a response in this scan period
  scan     : Nat := 0
  hist     : List (Instant × F32) := []                 -- own samples with their S, newest first (R194)
  cross    : Nat := 0                                   -- consecutive cycles that differ (R194)
  deriving DecidableEq, Repr, Inhabited

/-- A digital channel outside its registers: accepted terminal state, count, command and shadow, turn-offs. -/
structure DcChan where
  state    : Bool := false
  count    : Word := 0
  cmd      : Option Bool := none
  shadow   : Option Bool := none
  late     : Bool := false
  safe     : Nat := 0
  safeTo   : Bool := false
  ovl     : Bool := false                              -- off by overload (R206)
  hot      : Bool := false                              -- off by its junction (R206)
  hist     : List (Instant × Word × Bool) := []         -- own counts and states with their S, newest first (R203, R213)
  cross    : Nat := 0
  onAt     : Option W64 := none                         -- FRC at which the stage last switched on, and off (R212)
  offAt    : Option W64 := none
  upAt     : Option W64 := none                         -- FRC at which the terminal last rose, and fell (R212)
  downAt   : Option W64 := none
  deriving DecidableEq, Repr, Inhabited

/-- The shell of a slice: configured, de-energized hot, a sample window that a reload or a gap spoils, stages turned off
by its watchdog, the next channel of the cross-check. -/
structure Slice where
  loaded   : Bool := false
  tempOff  : Bool := false
  spoiled  : Option W64 := none                         -- FRC at which a reload ended: windows begun before carry LATE (R362)
  gap      : Option W64 := none                         -- FRC of the last change of authority: RTD windows over it carry LATE (R195)
  held     : Bool := false                              -- stages hold their last values (R362)
  heldAt   : W64 := 0                                   -- FRC at which they began to hold
  stagesOff : Bool := false
  next     : Nat := 0
  sinks    : Bool := false                              -- the shell drives its sink-share line (R215)
  deriving DecidableEq, Repr, Inhabited

/-- The channels and shells of the own carrier. -/
structure Io where
  uc     : Tab UcChan := []
  dc     : Tab DcChan := []
  slices : Tab Slice := []
  deriving DecidableEq, Repr, Inhabited

/-! ## Geyser (09) -/

/-- A block (R224): its header fields and its samples' bytes. What it says of its channel stays with it. -/
structure GyBlk where
  mode    : Nat := 0
  source  : Nat := 0
  index   : Nat := 0
  tb      : Nat := 0
  first   : Instant := 0
  firstTs : Instant := 0
  seq     : Nat := 0
  lost    : Nat := 0
  step    : Nat := 1
  count   : Nat := 0
  factor  : Nat := 0
  bad     : Bool := false                               -- a sample of a digital interval was missing
  trigger : Bool := false
  frozen  : Bool := false
  capture : Nat := 0
  data    : List Byte := []
  deriving DecidableEq, Repr, Inhabited

/-- A sample in a pre-trigger ring: its instant in PT and in the channel's time base, its bytes, the step it lies on. -/
structure GyRingS where
  t      : Instant
  ts     : Instant
  data   : List Byte
  step   : Nat
  factor : Nat
  bad    : Bool
  lost   : Nat                                          -- samples dropped before it
  top    : Bool := false                                -- one of them at level 12
  deriving DecidableEq, Repr, Inhabited

/-- An interval in progress (R221): its start, the samples that entered it, whether one did not, the sum in units of
2^-149 with what is not finite apart, minimum and maximum, AND and OR of bits. -/
structure GyIv where
  start : Instant := 0
  ts    : Instant := 0                                  -- its start in the channel's time base
  n     : Nat := 0
  bad   : Bool := false
  sum   : Int := 0
  odd   : F32 := 0
  mn    : F32 := 0
  mx    : F32 := 0
  and_  : Byte := 0xFF
  or_   : Byte := 0
  deriving DecidableEq, Repr, Inhabited

/-- A capture channel: next block SEQUENCE, samples dropped since the last block, reduction factor in use (log2), the last
sample's and the next stored RAW sample's place on the base-period grid of PT, the open block, the interval in progress,
the previous sample, the pre-trigger ring oldest first. -/
structure GyChan where
  seq    : Nat := 0
  lost   : Nat := 0
  drop   : Bool := false                                -- a drop at level 12 since the last block
  factor : Nat := 0
  last   : Option Nat := none
  next   : Option Nat := none
  cur    : Option GyBlk := none
  iv     : Option GyIv := none
  prev   : Option Fl := none
  cut    : Bool := false                                -- the open block ends here: PT has stepped since its last sample (R79)
  ring   : List GyRingS := []
  deriving DecidableEq, Repr, Inhabited

/-- A frozen window (R234, R235): set instance, capture number, T with its binary and position, later fires, its samples by channel
while it freezes, blocks by channel once complete. -/
structure GyWin where
  k        : Nat := 0
  capture  : Nat := 0
  t        : Instant := 0
  binary   : Nat := 0
  posB     : Bool := false
  later    : List (Instant × Nat × Bool) := []
  complete : Bool := false
  part     : Tab (List GyRingS) := []
  blocks   : List (Nat × GyBlk) := []
  deriving DecidableEq, Repr, Inhabited

/-- A trigger set: the arm instant ordered, the window slot it freezes into, the instant its window completed (HOLDOFF). -/
structure GyRun where
  armAt  : Option Instant := none
  slot   : Option Nat := none
  doneAt : Option Instant := none
  deriving DecidableEq, Repr, Inhabited

/-- A pattern unit (R230): the first tick of its match, the tick that will see the match ended, and whether it has fired. -/
structure GyPat where
  since : Option Instant := none
  off   : Option Instant := none
  fired : Bool := false
  deriving DecidableEq, Repr, Inhabited

/-- Geyser: channels, blocks in the staging area that the archive has no room for, continuous blocks in the archive oldest first as
(channel, block, read), windows by slot, sets, pattern units, when the rate level last changed, since when the archive's unread
share is above 75 %, when a fill last stood at 25 % or more, the next capture number. -/
structure Gy where
  chans   : Tab GyChan := []
  stage   : List (Nat × GyBlk) := []
  arch    : List (Nat × GyBlk × Bool) := []
  wins    : Tab GyWin := []
  sets    : Tab GyRun := []
  pats    : Tab GyPat := []
  moved   : Option Instant := none
  high    : Option Instant := none
  notLow  : Option Instant := none
  nextCap : Nat := 0
  deriving DecidableEq, Repr, Inhabited

/-- What survives a powered reset: the completely written windows (R236, R432). -/
def Gy.atReset (g : Gy) : Gy :=
  { wins := g.wins.filter fun (w : Nat × GyWin) => w.2.complete, nextCap := g.nextCap }

/-! ## Scapex (10) -/

/-- A COLLECT in progress on an entry (R246): its S and the slices still to come fresh, as carrier × 64 + slice. -/
structure Collect where
  active : Bool := false
  s      : Instant := 0
  left   : List Nat := []
  go     : Bool := false                                 -- its frames may leave: the entry was here in time
  sent   : List Nat := []                                -- ports whose frames have left
  deriving DecidableEq, Repr, Inhabited

/-- A SERVICE frame in a transmit buffer (R258): its words, launches made, SEQUENCE of the last, copies still on the ring, a
valid copy back. -/
structure SxService where
  payload : List W64 := []
  tries   : Nat := 0
  seq     : Nat := 0
  onRing  : Nat := 0
  got     : Bool := false
  ident   : Option Nat := none                          -- reads the identity of this carrier (R259)
  load    : Option Nat := none                          -- loads the configuration of this carrier (R259)
  sentAt  : W64 := 0                                    -- FRC of its launch
  deriving DecidableEq, Repr, Inhabited

/-- A port (R242, R255, R256, R258). `retE` and `retW` are the copies of the last TIME frame: 0 returned, 1 returned turned, 2
with a bad FCS. `flight` holds the COLLECT copies on the ring: SEQUENCE, launched from W, FRC. -/
structure SxP where
  seq     : Nat := 0
  prop    : Nat := 0                                    -- P in ns, of the last lap intact both ways
  tx      : List SxService := []
  rx      : List SxFrame := []
  sent    : Bool := false                               -- a TIME frame is out
  timed   : Option (Nat × Nat) := none                  -- epoch and standard cycle of the last TIME frame
  retE    : Option Nat := none
  retW    : Option Nat := none
  flight  : List (Nat × Bool × W64) := []
  wrapNow : Bool := false
  downE   : Bool := false                               -- own downstream segment down
  downW   : Bool := false
  deriving DecidableEq, Repr, Inhabited

/-- A carrier: HELD_EPOCH, identity found, configured, its channels' commands as last sent. -/
structure SxC where
  held     : Nat := 0
  identity : Option Nat := none
  configured : Bool := false
  slotAt   : Option W64 := none                         -- FRC of the last slot report
  lost     : Bool := false
  answered : Bool := false                              -- a SERVICE frame that reads its identity has come back
  cmds     : Tab (Option (Nat × F32)) := []             -- by channel: previous command, quality and VALUE
  deriving DecidableEq, Repr, Inhabited

structure Sx where
  ports    : Tab SxP := []
  cars     : Tab SxC := []
  collects : Tab Collect := []                          -- by launch entry
  deriving DecidableEq, Repr, Inhabited

/-! ## CAN (12) -/

/-- A message object (R280): header, data, and the DLC and data of requests replaced or withdrawn since an attempt of the object
last ended, newest first (R283, R284, R291); `at_` numbers the request that set PENDING among the port's events. -/
structure CanObj where
  hdr     : BitVec 128 := 0
  data    : BitVec 512 := 0
  old     : List (Nat × BitVec 512) := []
  at_     : Nat := 0
  deriving DecidableEq, Repr, Inhabited

structure Cn where
  objs : Tab CanObj := []                               -- port × 128 + object
  win0 : CanObj := {}
  win1 : CanObj := {}
  count : Tab Nat := []                                 -- by port: requests and ends of frames so far
  ended : Tab Nat := []                                 -- by port: the count at the last end of a frame on the bus
  finish : Tab Bool := []                               -- by port: a frame on the bus when authority left may complete
  deriving DecidableEq, Repr, Inhabited

/-! ## Mailboxes (17) -/

structure Mb where
  msgs    : Tab (BitVec 2048) := []                     -- the 256 bytes of each mailbox
  since   : Tab W64 := []                               -- FRC at which the message became PENDING
  window  : List Word := []                             -- the summary window (1,024 words once written)
  made    : Nat := 0                                    -- summaries produced since start-up
  deriving DecidableEq, Repr, Inhabited

/-! ## Lockstep (14) -/

/-- A store held for an open window (R334): its address, bytes and class, and what its words will show when it is made (R380). -/
structure Held where
  addr : Nat
  data : List Byte
  cls  : Cls
  ecc  : List Ecc := []
  deriving DecidableEq, Repr, Inhabited

/-- A core pair outside its registers: stores held for the open window in order, a rerun's located position
and count, the comparator check of R342, transients and disagreements by FRC, orders under way. -/
structure LkPair where
  held     : List Held := []
  loc      : Option (Nat × Nat) := none                 -- write position and stage record first located
  reruns   : Nat := 0                                   -- mismatching reruns of the window
  disag    : Bool := false                              -- exactly one comparator flagged
  inj      : Option (Bool × Bool) := none               -- injection result of that check
  clean    : Bool := false                              -- its rerun ended clean
  trans    : List W64 := []
  disags   : List W64 := []
  draining : Bool := false                              -- a split drains, before or after a rerun
  rejoin   : Bool := false
  ordAt    : W64 := 0                                   -- FRC of the order under way
  writer   : Nat := 0                                   -- LK_CMD instance of the order under way
  haltReq  : Bool := false
  replay   : Option (Nat × List Byte) := none           -- the window's side-effect read, for a rerun (R334)
  close    : Bool := false                              -- a change of mode closes the window that was open (R333)
  untested : Bool := false                              -- the test after a rejoin has not passed (R338)
  pc0      : Nat := 0                                   -- where the split cores start (R348)
  pc1      : Nat := 0
  stop0    : Bool := false                              -- split core 0 stopped at a faulting access (R376)
  stop1    : Bool := false
  deriving DecidableEq, Repr, Inhabited

/-! ## Memory (16) -/

/-- Memory protection: FRC of the corrected errors of the last hour (R383). -/
structure Ac where
  corrected : List W64 := []
  deriving DecidableEq, Repr, Inhabited

/-! ## Update (19) -/

/-- A roll in progress (R421, R423): kinds (bit 0 configuration, bit 1 firmware), the earliest hand-over instant in BT, FRC
of the order, whether it reverts, and why. -/
structure Roll where
  kinds  : Nat := 0
  at_    : Instant := 0
  since  : W64 := 0
  revert : Bool := false
  reason : Nat := 0
  deriving DecidableEq, Repr, Inhabited

/-- Update orders under way: a roll; an interrupting update and its instant; kinds being verified, and kinds to verify again
after the first commit (R415); a state map in the image verified; a revert restart that waits, with its reason (R418); the check
of AT − 1 ms passed (R424); FRC since which a role that counts TRIAL_RUN is held, and ns counted before it since the last count
was written (R418). -/
structure Up where
  roll      : Option Roll := none
  act       : Option (Nat × Instant) := none
  actOk     : Bool := false
  runAt     : Option W64 := none
  runNs     : Nat := 0
  verifying : Nat := 0
  again     : Nat := 0
  hasMap    : Bool := false
  revert    : Option Nat := none
  deriving DecidableEq, Repr, Inhabited

/-! ## Islands (15) -/

/-- An island: stalled now, its last restart in place, and whether a second stall has stopped it (R360, R363). -/
structure Isl where
  down    : Bool := false
  last    : Option W64 := none
  stopped : Bool := false
  deriving DecidableEq, Repr, Inhabited

/-! ## What the module sends and answers -/

/-- Frames, messages, answers and drives, as far as the manual lays them out. (DESIGN CHOICE, log entry 92) -/
inductive Output where
  -- binary links (13, 14, 17)
  | heartbeat (link : Nat) (msg : BitVec 256)
  | netHeartbeat (port : Nat) (bytes : List Byte)
  | fastRecord (link loop : Nat) (state : BitVec 256) (secs : List (F32 × F32)) (rec : W64) (crc : Word)
  | sideRecord (r : SideRecord)
  | blockRecord (link : Nat) (hdr : BitVec 128) (words : List W64)
  | snapEnd (link num : Nat) (b : Instant) (bytes : Nat) (crc : Word) (items : SnapItems)
  | verifyCrcs (first : Nat) (crcs : List Word)
  | partnerReset
  | linkMailbox (k : Nat) (msg : List Byte)
  | linkAck (k code : Nat) (collided : Bool)
  | linkUpdate (op kinds : Nat)                 -- an update order that the active carries out for both (R409)
  | linkUpdateDone (op code : Nat)
  -- plant network and service protocol (04, 11)
  | stream (port : Nat) (bytes : List Byte)
  | forwarded (port : Nat) (f : NetFrame)
  | svc (sess : Nat) (bytes : List Byte)
  | arpReply (addr : Nat)
  | neighbourAdvert (addr : Nat)
  | echoReply (addr id : Nat)
  | sync (domain port : Nat) (secs ns : Nat) (corr cum : Int) (twoStep : Bool) (logSync : Int)
  | pdelayReq (port seq : Nat) (logPd : Int)
  | pdelayResp (port seq rx tx : Nat)
  | announce (domain port steps : Nat)
  | arm (set arms : Nat) (at_ : Instant)
  | fire (set : Nat) (t : Instant) (binary : Nat) (posB : Bool) (arms : Nat)
  -- Scapex, CAN, HART, contacts
  | scapex (port : Nat) (east : Bool) (bytes : List Byte)
  | can (p o : Nat) (id : Nat) (data : List Byte)
  | hart (n cmd : Nat) (primary : Bool) (bytes : List Byte)
  | sinkLine (group : Nat) (drives : Bool)
  | pps (t : Instant)
  | immediate (point : Nat) (v : Word) (cc : Instant)
  | baseWrite (binary : Nat) (fingerprint : BitVec 384)
  deriving DecidableEq, Repr, Inhabited

/-! ## Plant network (11) -/

/-- A frame for a port (R264 to R266): its traffic class, and what leaves: a publication of some K, a frame that the bridge
forwards, or another frame of the module's own. -/
structure NetWait where
  cls : Nat := 6
  vlan : Nat := 0
  hdr : BitVec 256 := 0
  recs : List W64 := []
  k   : Option Instant := none
  fwd : Option NetFrame := none
  own : Option Output := none
  deriving DecidableEq, Repr, Inhabited

/-- The recovery state of one replicated stream (R268): the highest sequence number taken, the history of the 32 below
it, the instant of the last acceptance, and numbers gone by since each port delivered a copy. -/
structure Elim where
  seq   : Nat := 0
  hist  : BitVec 32 := 0
  at_   : Option Instant := none
  quiet1 : Nat := 0
  quiet2 : Nat := 0
  deriving DecidableEq, Repr, Inhabited

/-- A service session (R272, R273). -/
structure Session where
  open_    : Bool := false
  role     : Nat := 0
  basePort : Bool := false
  port     : Fin 2 := 0
  recovery : Bool := false
  deriving DecidableEq, Repr, Inhabited

structure Pn where
  gates   : Tab (BitVec 8) := []                        -- open classes, by port; shut classes read 0
  wait    : Tab (List NetWait) := []                    -- by port
  busy    : Tab Instant := []                           -- by port: until when stream frames occupy the wire
  peers   : List Peer := []                             -- the peer table (R269)
  arr     : Tab (List Instant) := []                    -- arrivals that passed policing, by stream and port
  elim    : Tab Elim := []                              -- by stream
  inbox   : List (Nat × Nat × Nat) := []                -- subscribed frames policed at their port: n, port, sequence
  polc    : Tab Nat := []                               -- POLICED by stream (table × 65,536 + index)
  elimc   : Tab Nat := []                               -- ELIMINATED by stream
  ctlSec  : Tab Nat := []                               -- the second, and control frames passed in it, by port
  ctlCnt  : Tab Nat := []
  icmpSec : Nat := 0
  icmpCnt : Nat := 0
  sess    : Tab Session := []
  heard   : Tab W64 := []                               -- FRC of each session's last message
  deriving DecidableEq, Repr, Inhabited

end Sys2Proof.Machine
end

