-- ==== Sys2Proof/Machine/State.lean ====
section
/-! DEFINITION. The state of the module, the reasons a step can stop, what the module sends out, and the state at
power-on reset. -/

namespace Sys2Proof.Machine

/-- Why a step may fault. -/
inductive Fault where
  /-- An access to a register that no register table of the manual names. Raised by no command on a well-formed
  register; safe: the machine stops where the manual names nothing. -/
  | noSuchRegister (name : RegName) (idx : Nat)
  deriving DecidableEq, Repr

/-- Why a step may refuse. -/
inductive Refusal where
  /-- A command whose meaning is not written; raised by its arm in Dispatch. Safe: nothing can be proved of it. -/
  | notModelled (mnemonic : String)
  /-- A reserved order code written to a command register that gives no result code (GY_CMD, RST_CTL): the manual gives
  the write no effect. Raised by register writes. Safe. -/
  | reservedOrder (name : RegName) (code : Nat)
  deriving DecidableEq, Repr

/-- The default point record (R8): AGE 0xFFFF, quality STALE, VALUE 0. KIND comes from the plant image when it is
loaded. -/
def Rec.default : W64 := 0xFFFF000400000000#64

/-- Reset values of the registers (the Reset columns of the register tables). -/
def RegName.reset (n : RegName) (i : Nat) : Word :=
  match n with
  | .RST_CAUSE => 0x10000000#32
  | .RST_WDOG => 0x00000032#32
  | .AC_CTL => 0x40000000#32
  | .AC_SLOT => if 1 ≤ i ∧ i ≤ 4 then 0x40000000#32 else 0
  | .UP_STATUS => 0x00200000#32
  | .MB_STAT => BitVec.ofNat 32 (16777216 * (if i < 8 then 0 else if i < 16 then 1 else if i < 24 then 2 else 3))
  | .LK_PAIR => 0x10001000#32
  | .MT_STATE => 0x00000200#32
  | .MT_OFFSET => 0x80000000#32
  | .MT_ERR_EST => 0xFFFFFFFF#32
  | .BN_HEALTH => 0x00400000#32
  | .CN_STAT => 0x10000000#32
  | .SX_PORT => 0x0FFF0000#32
  | .UC_CFG => 0x001000AA#32
  | .DC_GROUP => 0xC0000000#32
  | _ => 0

/-- The state of the block. Registers are words of `regs`, by name and instance; an unlisted register reads as its reset
value. -/
structure State where
  /-- Commands that wait, first in first out. -/
  pending : List Instr := []
  /-- What the module has sent and answered, oldest first. -/
  out : List Output := []
  /-- The word the last register read returned, and the bytes the last memory read returned. -/
  lastRead : Word := 0
  lastBytes : List Byte := []
  /-- The number of free values drawn so far. -/
  free : Nat := 0
  regs : Tab (Tab Word) := []
  /-- The _HI halves latched by reads of _LO registers, and the _LO halves held by writes (R5), by register. -/
  latchHi : Tab (Tab (Option Word)) := []
  holdLo : Tab (Tab Word) := []
  /-- Event sources raised and not yet latched (R357). -/
  levels : List Nat := []
  img : PlantImage := {}
  boot : Boot := {}
  base : BaseMem := {}
  key : Key := {}
  sn : Sn := {}
  mt : Mt := {}
  pw : Pw := {}
  ln : Launch := {}
  le : Le := {}
  la : La := {}
  bn : Bn := {}
  io : Io := {}
  gy : Gy := {}
  sx : Sx := {}
  pn : Pn := {}
  cn : Cn := {}
  mb : Mb := {}
  lk : Tab LkPair := []
  ac : Ac := {}
  up : Up := {}
  isl : Tab Isl := []
  /-- The process image by point, the subscription cache (2i applied, 2i + 1 pending), the loop region by block, and the
  bytes of every other memory by address. -/
  pi : Tab W64 := []
  subc : Tab W64 := []
  blk : Tab (BitVec 256) := []
  mem : List Host.Cell := []
  /-- Forced points (R274): the forced value by point. -/
  forces : Tab (Option Word) := []
  deriving DecidableEq, Repr

/-- Power-on reset (R432, Reset columns). (DESIGN CHOICE, log entry 4) -/
def State.reset : State := {}

end Sys2Proof.Machine
end

