-- ==== Sys2Proof/Machine/Ops.lean ====
section
/-! DEFINITION. The named operations over the state that every family uses: the register file, records and events on
their way out, clocks, the plant key, start-up progress, role and declared failure. -/

namespace Sys2Proof.Machine

/-- The outcome of a command. -/
abbrev Res := Host.Outcome State Fault Refusal

/-! ## The register file (R5, R6) -/

/-- Register `n`, instance `i`, as stored. -/
def State.reg (s : State) (n : RegName) (i : Nat := 0) : Word :=
  Tab.get (RegName.reset n i) (Tab.get [] s.regs n.ctorIdx) i

/-- Register `n`, instance `i`, set to `w`. -/
def State.setReg (s : State) (n : RegName) (i : Nat) (w : Word) : State :=
  { s with
    regs := Tab.set [] s.regs n.ctorIdx (Tab.set (RegName.reset n i) (Tab.get [] s.regs n.ctorIdx) i w) }

/-- A field of a register. -/
def State.fld (s : State) (f : Field) (i : Nat := 0) : Nat := bits (s.reg f.reg i) f.hi f.lo

/-- A field of a register set. -/
def State.setFld (s : State) (f : Field) (v : Nat) (i : Nat := 0) : State :=
  s.setReg f.reg i (putBits (s.reg f.reg i) f.hi f.lo v)

/-- A one-bit field. -/
def State.flag (s : State) (f : Field) (i : Nat := 0) : Bool := s.fld f i != 0

/-- A one-bit field set. -/
def State.setFlag (s : State) (f : Field) (b : Bool) (i : Nat := 0) : State := s.setFld f (b2n b) i

/-- A counting field advanced by `n`, saturating. -/
def State.bump (s : State) (f : Field) (i : Nat := 0) (n : Nat := 1) : State :=
  s.setFld f (satAdd f.top (s.fld f i) n) i

/-- Instance number of a command writer (R144): 0 application, 1 supervisor. -/
def wIdx : Writer → Nat
  | .app => 0
  | .sup => 1

/-! ## What leaves the module, event sources and Sinter records -/

/-- A frame, message or answer leaves the module. -/
def State.emit (s : State) (o : Output) : State := { s with out := s.out ++ [o] }

/-- The reserved event sources never latch (R441). -/
def reservedSource (n : Nat) : Bool := (11 ≤ n && n ≤ 15) || 124 ≤ n

/-- Event source `n` raised: its level is held until the event controller latches it (R357). -/
def State.ev (s : State) (n : Nat) : State :=
  if reservedSource n || s.levels.contains n then s else { s with levels := s.levels ++ [n] }

/-- The supervisor's own records carry island 0xFF (R396). -/
def islSup : Nat := 0xFF

/-- A Sinter record raised. The handshake channel of an island holds 16 records; beyond that the record is discarded and
counted in the supervisor's SUP_ISLAND.OVERFLOW (R356). A record raised by an island after reset entry is not admitted
(R428). -/
def State.raise (s : State) (island code : Nat) (p : Payload) : State :=
  if island < 18 ∧ s.pw.inReset.isSome then s
  else if island < 18 ∧ island ≠ 1 ∧ 16 ≤ (s.sn.raised.filter fun r => r.island == island).length then
    s.bump Fld.SUP_ISLAND_OVERFLOW 1
  else
    { s with
      sn := { s.sn with
        raised := s.sn.raised ++ [{ island := island, code := BitVec.ofNat 16 code, payload := p, frc := s.mt.frc }] } }

/-- A record whose items the manual names without placing them. (DEDUCED, log entry 95) -/
def State.note (s : State) (island code : Nat) (xs : List Nat) : State := s.raise island code (.items xs)

/-- A time anchor asked for (R77, R406). -/
def State.anchor (s : State) (reason : Nat) : State := s.raise islSup 0x0001 (.anchor reason)

/-- A free value drawn: the counter that names it moves on. (DESIGN CHOICE, log entry 5) -/
def State.draw (s : State) : State := { s with free := s.free + 1 }

/-! ## The slot table and the routes of event sources -/

/-- AC_SLOT[n] written (16 registers): fixed once AC_CTL.LOCK is set; bits [8:4] of slots 1 to 4 read as 0 and LOCKED as 1,
EN as 0 in slots 39 to 63. (DEDUCED, log entry 42) -/
def State.slotPut (s : State) (n : Nat) (w : Word) : State :=
  if s.flag Fld.AC_CTL_LOCK then s
  else
    let w := w &&& 0xC00001FC#32
    let w := if 1 ≤ n ∧ n ≤ 4 then putBits (putBit w 30 true) 8 4 0 else w
    s.setReg .AC_SLOT n (if 39 ≤ n then putBit w 31 false else w)

/-- AC_CTL.LOCK set: the slot table is fixed (R369), with Sinter 0xE006 the first time. -/
def State.lockSlots (s : State) : State :=
  if s.flag Fld.AC_CTL_LOCK then s else (s.setFlag Fld.AC_CTL_LOCK true).note islSup 0xE006 []

/-- RST_EV_ROUTE[g] written (R439, R440): nothing after the first commit; the routes of sources 16 to 47 read as 0.
(DEDUCED, log entry 41) -/
def State.routePut (s : State) (g : Nat) (w : Word) : State :=
  if s.boot.committed then s else s.setReg .RST_EV_ROUTE g (if g = 1 ∨ g = 2 then 0 else w)

/-! ## Clocks (R64, R65) -/

/-- One Meridian cycle with no command waiting: FRC advances by 4 ns (R64). -/
def State.tick (s : State) : State := { s with mt := { s.mt with frc := s.mt.frc + 4 } }

/-- The rate a view applies, limited to ±250 ppm. -/
def View.lim (v : View) : Int := clampInt Config.rateMax.toNat v.rate

/-- A view at a given FRC: BASE + d + ((d × RATE) asr 40). -/
def View.at (v : View) (frc : W64) : W64 :=
  let d := frc - v.frcBase
  v.base + d + BitVec.ofInt 64 ((d.toNat : Int) * v.lim / 1099511627776)

/-- A view rebased at a given FRC: it does not move (R66). -/
def View.rebase (v : View) (frc : W64) : View := { v with base := v.at frc, frcBase := frc }

/-- A view running on at a new rate from a given FRC. -/
def View.setRate (v : View) (frc : W64) (rate : Int) : View :=
  { v.rebase frc with rate := clampInt Config.rateMax.toNat rate }

/-- A view stepped to a value. -/
def View.step (v : View) (frc : W64) (t : W64) : View := { v with base := t, frcBase := frc }

/-- Plant time now. -/
def State.pt (s : State) : Instant := s.mt.pt.at s.mt.frc

/-- Binary Time now. -/
def State.bt (s : State) : Instant := s.mt.bt.at s.mt.frc

/-- Domain time base `n` now. -/
def State.tbase (s : State) (n : Nat) : W64 := (Tab.get {} s.mt.tb n).at s.mt.frc

/-- The time that a 4-bit selector names (R84). -/
def State.timeOf (s : State) (sel : Nat) : W64 := if 8 ≤ sel then s.tbase (sel - 8) else s.pt

/-- 64-bit words on the wire, each most significant byte first (R106, R242). -/
def wordsWire (ws : List W64) : List Byte := ws.flatMap fun w => (bytesOf w 8).reverse

/-- A service message: its header of 16 bytes and its body, most significant byte first (R274). -/
def svcOut (sess : Nat) (msgId : Word) (type code : Nat) (body : List Byte) : Output :=
  let h : BitVec 128 := 0
  let h := putBits h 127 96 body.length
  let h := putBits h 95 64 msgId.toNat
  let h := putBits (putBits (putBits h 63 48 type) 47 32 code) 7 0 1
  .svc sess (wordsWire (unitsOf h 2).reverse ++ body)

/-- The last PT instant at or before `t` that is a multiple of `p`. -/
def floorTo (t : Instant) (p : Nat) : Instant := BitVec.ofNat 64 (t.toNat / p * p)

/-- The instant at or after `t` that lies `off` into a cycle of period `p`. -/
def nextAt (p off : Nat) (t : Instant) : Instant :=
  let b := (floorTo t p).plus off
  if Instant.atOrBefore t b then b else b.plus p

/-! ## Start-up progress and role -/

/-- SUP_START.PHASE; a change raises source 8 (R441). -/
def State.phase (s : State) : Nat := s.fld Fld.SUP_START_PHASE

def State.setPhase (s : State) (p : Nat) : State :=
  if s.phase = p then s else (s.setFld Fld.SUP_START_PHASE p).ev 8

/-- The own role code (R299). -/
def State.role (s : State) : Nat := s.fld Fld.BN_STATUS_ROLE

/-- The module sits in a Z9B-P, as the base's straps say at all times; BN_STATUS.PAIR shows it from the base identification
on. -/
def State.pair (s : State) : Bool := s.base.strapKind == 2

/-- Own position: B, as the base's strap says at all times; a Z9B-S reads as position A (R450). -/
def State.posB (s : State) : Bool := s.pair && s.base.posB

/-- A binary record: position, epoch, and what the code adds. -/
def State.bnNote (s : State) (code : Nat) (xs : List Nat := []) : State :=
  s.note 5 code (b2n s.posB :: s.fld Fld.BN_EPOCH_EPOCH :: xs)

/-- The healthy relay (R430): active after the first commit, or a READY standby. -/
def State.relay (s : State) : State :=
  { s with
    pw := { s.pw with healthy := (s.role == 1 && s.boot.committed) || (s.role == 2 && s.flag Fld.BN_STATUS_READY) } }

/-- The first role of a start-up, active or standby, is taken now: the first commit counts from here (R52). -/
def State.takeRole (s : State) (r : Nat) : State :=
  if s.boot.roleTaken || !(r == 1 || r == 2 || r == 3) then s
  else { s with boot := { s.boot with roleTaken := true, roleAt := s.pt } }

/-- Time in which roles 0x1, 0x2 and 0x3 were held since the last TRIAL_RUN was written, in ns (R418). -/
def State.runNow (s : State) : Nat :=
  s.up.runNs + (match s.up.runAt with
    | some f => (s.mt.frc - f).toNat
    | none => 0)

/-- The count of R418 runs in roles 0x1, 0x2 and 0x3 and stands in others. -/
def State.runRole (s : State) (r : Nat) : State :=
  let on := r == 1 || r == 2 || r == 3
  { s with up := { s.up with
    runAt := if on then some (s.up.runAt.getD s.mt.frc) else none
    runNs := if on then s.up.runNs else s.runNow } }

/-- A lagging or isolated standby that takes another role: lagging or isolation left (R329, R441). -/
def State.roleLeft (s : State) : State :=
  match s.role with
  | 3 => (s.bnNote 0xB004).ev 83
  | 4 => s.bnNote 0xB006
  | _ => s

/-- A role taken: source 81 on a change (R441), a record where lagging or isolation ends (R329); the healthy relay follows
(R430). -/
def State.setRole (s : State) (r : Nat) : State :=
  if s.role = r then s.relay else (((((s.roleLeft).setFld Fld.BN_STATUS_ROLE r).ev 81).takeRole r).runRole r).relay

/-- COORD_DEGRADED set or cleared: a change raises source 93 and an anchor with REASON 0x5 (R77). -/
def State.setCoord (s : State) (b : Bool) : State :=
  if s.flag Fld.MT_STATE_COORD_DEGRADED = b then s
  else ((s.setFlag Fld.MT_STATE_COORD_DEGRADED b).ev 93).anchor 5

/-- MT_STATE.STATE changed: source 92 and an anchor with REASON 0x4 (R77). -/
def State.setTimeState (s : State) (st : Nat) : State :=
  if s.fld Fld.MT_STATE_STATE = st then s
  else ((s.setFld Fld.MT_STATE_STATE st).ev 92).anchor 4

/-- MT_STATE.SOURCE changed: an anchor with REASON 0x7. -/
def State.setTimeSource (s : State) (o : Nat) : State :=
  if s.fld Fld.MT_STATE_SOURCE = o then s else (s.setFld Fld.MT_STATE_SOURCE o).anchor 7

/-- UP_STATUS.PHASE; a change raises source 123. -/
def State.setUpPhase (s : State) (p : Nat) : State :=
  if s.fld Fld.UP_STATUS_PHASE = p then s else (s.setFld Fld.UP_STATUS_PHASE p).ev 123

/-- UP_STATUS.LAST_CODE; a change raises source 123. -/
def State.setUpCode (s : State) (c : Nat) : State :=
  if s.fld Fld.UP_STATUS_LAST_CODE = c then s else (s.setFld Fld.UP_STATUS_LAST_CODE c).ev 123

/-! ### Lanes and their load (R115, R143, R147) -/

/-- Lane `k` is in service. -/
def State.laneIn (s : State) (k : Nat) : Bool := bitAt (BitVec.ofNat 8 (s.fld Fld.LE_CTL_LANE_EN)) k

/-- The lanes in service. -/
def State.lanesIn (s : State) : Nat := ((List.range 8).filter s.laneIn).length

/-- The loops on lane `k`, the running one first (R116). -/
def State.lane (s : State) (k : Nat) : List Nat := Tab.get [] s.le.lanes k
def State.setLane (s : State) (k : Nat) (xs : List Nat) : State :=
  { s with le := { s.le with lanes := Tab.set [] s.le.lanes k xs } }

/-- The lanes that compute now. -/
def State.lanesBusy (s : State) : Nat := ((List.range 8).filter fun k => s.laneIn k && !(s.lane k).isEmpty).length

/-- The ns that [a, b) and [c, d) share. -/
def Instant.overlap (a b c d : Instant) : Nat :=
  let lo := Instant.later a c
  let hi := if Instant.before b d then b else d
  if Instant.before lo hi then (hi - lo).toNat else 0

/-- The compute windows with the lane time used in them until now. -/
def State.winsNow (s : State) : List Window :=
  s.le.wins.map fun w => { w with used := w.used + s.lanesBusy * Instant.overlap s.le.mark s.pt w.from_ w.to_ }

/-- The share of a window that is over, in 0.1 %, of the lanes in service; rounded down.
(DESIGN CHOICE, log entry 29) -/
def Window.share (w : Window) (lanes : Nat) : Nat := w.used * 1000 / (lanes * (w.to_ - w.from_).toNat)

/-- The highest share of the windows of class `c` in `ws` that are over (R147). -/
def State.peakOf (s : State) (c : Nat) (ws : List Window) : Nat :=
  ((ws.filter fun w => w.cls == c && Instant.atOrBefore w.to_ s.pt).map fun w => w.share s.lanesIn).foldl max 0

/-- Lane time counted until now; a window that is over counts in LE_LOAD.PEAK of its class (R147). -/
def State.loadSeen (s : State) : State :=
  let ws := s.winsNow
  let s' := (List.range 3).foldl
    (fun s' c => s'.setFld Fld.LE_LOAD_PEAK (max (s'.fld Fld.LE_LOAD_PEAK c) (sat 65535 (s.peakOf c ws))) c) s
  { s' with le := { s'.le with wins := ws.filter fun w => !Instant.atOrBefore w.to_ s.pt, mark := s.pt } }

/-- A compute window opened, once for its group and cycle. -/
def State.openWin (s : State) (cls g : Nat) (a b : Instant) : State :=
  if s.le.wins.any fun w => w.group == g && w.from_ == a then s
  else
    let s := s.loadSeen
    { s with le := { s.le with wins := s.le.wins ++ [{ cls := cls, group := g, from_ := a, to_ := b }] } }

/-- The engine stops: what it computes is dropped, and with it what it would have written (R344). -/
def State.stopEngine (s : State) : State :=
  let s := s.loadSeen
  { s with le := { s.le with
    lanes := [], ready := []
    runs := s.le.runs.foldl (fun t x => Tab.set {} t x.1 { x.2 with job := none }) s.le.runs } }

/-- Meridian launches nothing more, what it has handed on runs no more, and the engine stops (R344, R427). -/
def State.stopLaunch (s : State) : State :=
  let s := { s with ln := { s.ln with due := [] } }.stopEngine
  (((s.setFlag Fld.LN_STATUS_FAST_RUN false).setFlag Fld.LN_STATUS_STD_RUN false).setFlag
    Fld.LN_STATUS_SLOW_RUN false).setFlag Fld.LE_CTL_RUN false

/-- Launching begins (R97): the RUN bit of every class is set, of one without a group in the image too.
(DESIGN CHOICE, log entry 112) -/
def State.startLaunch (s : State) : State :=
  ((s.setFlag Fld.LN_STATUS_FAST_RUN true).setFlag Fld.LN_STATUS_STD_RUN true).setFlag Fld.LN_STATUS_SLOW_RUN true

/-- Launching is under way in class `c`. -/
def State.running (s : State) (c : Nat) : Bool :=
  match c with
  | 0 => s.flag Fld.LN_STATUS_FAST_RUN
  | 1 => s.flag Fld.LN_STATUS_STD_RUN
  | _ => s.flag Fld.LN_STATUS_SLOW_RUN

/-- The module shows authority for itself (R295). -/
def State.auth (s : State) : Bool := s.flag Fld.BN_STATUS_AUTH

/-! ## The plant key (R34 to R37, R50) -/

/-- The module may write the key: present, unchanged, writable, and not past the end of key writes (R50, R437). -/
def State.keyOk (s : State) : Bool :=
  s.flag Fld.PK_STATUS_PRESENT && s.flag Fld.PK_STATUS_WRITABLE && s.flag Fld.PK_STATUS_SERIAL_OK &&
  !s.pw.keyEnd

/-- The 8-byte unit at byte address `a` of the key. -/
def State.keyUnit (s : State) (a : Nat) : W64 := Tab.get 0 s.key.units (a / 8)

/-- A record of `n` bits at byte address `a` of the key. -/
def State.keyRec (s : State) (n a : Nat) : BitVec n :=
  wordOfUnits n ((List.range (n / 64)).map fun i => s.keyUnit (a + 8 * i))

/-- One aligned unit written (R37). -/
def State.keyPut (s : State) (a : Nat) (v : W64) : State :=
  { s with key := { s.key with units := Tab.set 0 s.key.units (a / 8) v } }

/-- Units written from byte address `a` upwards, lowest first. -/
def State.keyPuts (s : State) (a : Nat) : List W64 → State
  | [] => s
  | u :: us => (s.keyPut a u).keyPuts (a + 8) us

/-- A record of `n` bits written, lowest unit first. -/
def State.keyPutRec (s : State) {n : Nat} (a : Nat) (w : BitVec n) : State := s.keyPuts a (unitsOf w (n / 64))

/-- The first 8 bytes of a 48-byte hash field that starts at bit 0 of `h`. -/
def tagOf (h : BitVec 384) : W64 := BitVec.ofNat 64 (bits h 63 0)

/-! ### Bank headers and bank-select records (R40, R43 to R46) -/

/-- The header of a bank: kind 0 configuration, 1 firmware. -/
def State.bankAddr (kind b : Nat) : Nat := if kind = 0 then Config.keyCfgBank b else Config.keyFwBank b

def State.bankHdr (s : State) (kind b : Nat) : BitVec 2048 := s.keyRec 2048 (State.bankAddr kind b)

def hdrHash (h : BitVec 2048) : BitVec 384 := BitVec.ofNat 384 (bits h 639 256)
def hdrTag (h : BitVec 2048) : W64 := tagOf (hdrHash h)

/-- `n` bytes of the key from byte address `a` upwards. -/
def State.keyBytes (s : State) (a n : Nat) : List Byte :=
  (List.range n).map fun i =>
    BitVec.ofNat 8 (bits (s.keyUnit (a + i)) (8 * ((a + i) % 8) + 7) (8 * ((a + i) % 8)))

/-- OWNER_KEY of the key header (R38). -/
def State.ownerKey (s : State) : BitVec 768 := BitVec.ofNat 768 (bits (s.keyRec 1024 Config.keyHeader) 895 128)

/-- SHA-384 of OWNER_KEY, X then Y (R38, R39). -/
def State.ownerHash (s : State) : BitVec 384 := sha384 (bytesOf s.ownerKey 96)

/-- The public key that signs bank headers: for firmware one of the four Vuzal keys, the owner's for a plant image (R40, R41). -/
def State.signKey (s : State) (kind : Nat) (h : BitVec 2048) : Option (BitVec 768) :=
  if kind = 0 then some s.ownerKey
  else if bits h 207 200 ≤ 3 then some (Config.vuzalKey (bits h 207 200))
  else none

/-- The signature of a bank's header verifies over its bytes 0 to 79. -/
def State.sigOk (s : State) (kind b : Nat) : Bool :=
  let h := s.bankHdr kind b
  match s.signKey kind h with
  | some k => ecdsaVerifies k (sha384 (bytesOf h 80)) (BitVec.ofNat 384 (bits h 1023 640)) (BitVec.ofNat 384 (bits h 1407 1024))
  | none => false

/-- The header of a bank is formed as R41 asks. -/
def bankFormed (kind : Nat) (h : BitVec 2048) : Bool :=
  (BitVec.ofNat 32 (bits h 31 0) == (if kind = 0 then Config.magicCfg else Config.magicFw)) &&
  bits h 47 40 == (if kind = 0 then 0x02 else 0x01) &&
  bits h 39 32 == 0x01 &&
  decide (bits h 95 64 ≤ (if kind = 0 then 50331392 else 33554176))

/-- Bank `b` is valid (R41): its header formed, its signature verified, and the SHA-384 of its payload bytes the one its
header names. -/
def State.bankValid (s : State) (kind b : Nat) : Bool :=
  let h := s.bankHdr kind b
  bankFormed kind h && s.sigOk kind b &&
  (sha384 (s.keyBytes (State.bankAddr kind b + 256) (bits h 95 64)) == hdrHash h)

/-- Bank-select copy `c`. -/
def State.sel (s : State) (c : Nat) : BitVec 512 := s.keyRec 512 (Config.keySelect c)

/-- A bank-select copy is valid (R44). -/
def selValid (r : BitVec 512) : Bool :=
  (BitVec.ofNat 32 (bits r 31 0) == Config.magicSelect) && bits r 71 64 == 0x01 && bits r 63 32 != 0 &&
  (BitVec.ofNat 32 (bits r 511 480) == crcOf r 60)

/-- SEQUENCE `a` is newer than `b` by serial-number comparison (R44). -/
def seqNewer (a b : Nat) : Bool :=
  let d := (a + 4294967296 - b) % 4294967296
  1 ≤ d && d ≤ 2147483647

/-- The copy the module selects, none where neither is valid (R44). -/
def State.selPick (s : State) : Option Nat :=
  let a := s.sel 0
  let b := s.sel 1
  if selValid a then
    (if selValid b && seqNewer (bits b 63 32) (bits a 63 32) then some 1 else some 0)
  else if selValid b then some 1 else none

/-- The selected record, as start-up or the last write left the selection. -/
def State.selCur (s : State) : BitVec 512 := s.sel (s.fld Fld.PK_STATUS_SEL_COPY)

/-- The record that follows another: SEQUENCE one higher, skipping 0, and its CRC (R45). -/
def selNext (old new : BitVec 512) : BitVec 512 :=
  let q := (bits old 63 32 + 1) % 4294967296
  let r := putBits (putBits (putBits new 63 32 (if q = 0 then 1 else q)) 31 0 Config.magicSelect.toNat) 71 64 1
  putBits r 511 480 (crcOf r 60).toNat

/-- TRIAL_RUN in seconds: what the selected record holds and what was counted since (R418). -/
def State.trialRun (s : State) : Nat := bits s.selCur 127 96 + s.runNow / 1000000000

/-- The trial registers after a selection: UP_TRIAL and the trial flags of UP_STATUS. -/
def State.showTrial (s : State) : State :=
  let r := s.selCur
  let s := s.setFld Fld.UP_TRIAL_BOOTS (bits r 87 80)
  let s := s.setFld Fld.UP_TRIAL_RUN (sat 4095 (bits r 127 96))
  let s := s.setFlag Fld.UP_STATUS_FW_TRIAL (bitAt r 75)
  let s := s.setFlag Fld.UP_STATUS_CFG_TRIAL (bitAt r 74)
  (s.setFld Fld.PK_STATUS_VALID_COPIES (b2n (selValid (s.sel 0)) + 2 * b2n (selValid (s.sel 1)))).setFld
    Fld.PK_SEQ_SEQUENCE (bits r 63 32)

/-- A new bank-select record written into the copy not selected, CRC last; it becomes the selected one (R45). On a key
with no valid copy, copy 0 with SEQUENCE 1. -/
def State.selWrite (s : State) (f : BitVec 512 → BitVec 512) : State :=
  match s.selPick with
  | none =>
    ((s.keyPutRec (Config.keySelect 0) (selNext 0 (f 0))).setFld Fld.PK_STATUS_SEL_COPY 0).showTrial
  | some _ =>
    let c := s.fld Fld.PK_STATUS_SEL_COPY
    ((s.keyPutRec (Config.keySelect (1 - c)) (selNext s.selCur (f s.selCur))).setFld
      Fld.PK_STATUS_SEL_COPY (1 - c)).showTrial

/-- The epoch word of the key: its epoch where its halves are complements, else 0 (R36). -/
def State.keyEpochWord (s : State) : Nat :=
  let w := s.keyUnit Config.keyEpoch
  if bits w 63 32 + bits w 31 0 = 4294967295 then bits w 31 0 else 0

/-! ## Start-up records (R57) -/

/-- The payload of a start-up record. -/
def State.startPayload (s : State) (refusal : Nat) (tag : W64) (version : Nat) : BitVec 352 :=
  let p : BitVec 352 := 0
  let p := putBits p 351 344 refusal
  let p := putBits p 343 340 s.phase
  let p := putBits p 337 337 (s.fld Fld.SUP_START_FW_BANK)
  let p := putBits p 336 336 (s.fld Fld.SUP_START_CFG_BANK)
  let p := putBits p 335 272 ((s.reg .PK_SERIAL_HI).toNat * 4294967296 + (s.reg .PK_SERIAL_LO).toNat)
  let p := putBits p 271 208 tag.toNat
  let p := putBits p 207 176 version
  let p := putBits p 175 144 (bits (s.sel 0) 63 32)
  putBits p 143 112 (bits (s.sel 1) 63 32)

/-- A start-up record raised (R57). -/
def State.startNote (s : State) (code refusal : Nat) (tag : W64) (version : Nat := 0) : State :=
  s.raise islSup code (.laid (s.startPayload refusal tag version))

/-! ## Refusal and declared failure -/

/-- The module drives nothing toward the authority loop: READY and CLAIM dropped. -/
def State.dropReady (s : State) : State := (s.setFlag Fld.BN_STATUS_READY false).relay

/-- Start-up refused (R55, R472): the code and phase are shown, role Refused (R299). The first refusal stands until the
next start-up. Boot-ROM refusals (0x01 to 0x03) leave no record (R57); a refused bank-select selection or firmware leads
to the Iazebin recovery ROM. HEALTHY stops, and with a failed self-test the heartbeats. -/
def State.refuse (s : State) (code : Nat) : State :=
  if s.flag Fld.SUP_START_REFUSAL then s
  else
    let s := if code ≤ 3 then s else s.startNote 0x1001 code 0
    let s := s.setFld Fld.SUP_START_REFUSAL code
    let iaz := code = 0x03 || code = 0x04
    let s := s.setPhase (if iaz then 0xE else 0xF)
    let s := if iaz then ({ s with pw := { s.pw with wdogRun := true, kickFrc := s.mt.frc } }).setUpPhase 7 else s
    let s := { s with bn := { s.bn with healthyOut := false, hbRun := s.bn.hbRun && code != 0x0C, claiming := 0 } }
    let s := s.setFlag Fld.BN_LOOP_HEALTHY_OUT false
    (s.setRole (if code = 0x0C then 6 else 7)).dropReady

/-- Start-up may go on: no refusal stands and the module is not in reset. -/
def State.starting (s : State) : Bool := !s.flag Fld.SUP_START_REFUSAL && s.pw.inReset.isNone

/-! ## Drawing back from authority -/

/-- The partner was a standby, lagging or not, in its last health word (R62). -/
def State.partnerStandby (s : State) : Bool :=
  s.pair && (s.fld Fld.BN_HEALTH_WORD 1 / 268435456 == 2 || s.fld Fld.BN_HEALTH_WORD 1 / 268435456 == 3)

/-- The partner is READY: its READY line is present (R294). -/
def State.partnerReady (s : State) : Bool := s.pair && s.flag Fld.BN_STATUS_PARTNER_READY

end Sys2Proof.Machine
end

