-- ==== Sys2Proof/Machine/AdaptCore.lean ====
section
/-! DEFINITION. What the adaptation layer shares with the loop engine (06 R156, R159, R166): its records, its memory of a
loop, and the end of a test or probation. -/

namespace Sys2Proof.Machine

/-- The layer's record of loop `l`. -/
def State.adaptRec (s : State) (l : Nat) : AdaptRec := Tab.get {} s.la.recs l

def State.setAdapt (s : State) (l : Nat) (r : AdaptRec) : State := { s with la := { s.la with recs := Tab.set {} s.la.recs l r } }

/-- An adaptation record's content (R166): metric, model (K, tau, theta), the set taken and the set left as (Kp, Ti, Td). -/
structure AdaptNote where
  metric : F32 := 0
  model  : F32 × F32 × F32 := (0, 0, 0)
  new    : F32 × F32 × F32 := (0, 0, 0)
  old    : F32 × F32 × F32 := (0, 0, 0)
  setTo  : Nat := 0
  setFrom : Nat := 0
  reason : Nat := 0
  deriving DecidableEq, Repr

/-- The 96 bits of three binary32 values, the third highest. -/
def three (x : F32 × F32 × F32) : Nat := x.1.toNat + 4294967296 * x.2.1.toNat + 18446744073709551616 * x.2.2.toNat

/-- The payload of an adaptation record (R166). -/
def adaptPayload (l : Nat) (n : AdaptNote) : BitVec 352 :=
  let p : BitVec 352 := 0
  let p := putBits p 351 320 n.metric.toNat
  let p := putBits p 319 224 (three n.model)
  let p := putBits p 223 128 (three n.new)
  let p := putBits p 127 32 (three n.old)
  let p := putBits p 27 26 n.setTo
  let p := putBits p 25 24 n.setFrom
  let p := putBits p 23 16 n.reason
  putBits p 13 0 l

/-- A decision of the layer: one Sinter record and source 90 (R166). (DEDUCED, log entry 72) -/
def State.adaptNote (s : State) (code l : Nat) (n : AdaptNote) : State :=
  (s.raise islSup code (.laid (adaptPayload l n))).ev 90

/-- Test slot `k`. -/
def State.slot (s : State) (k : Nat) : TestSlot := Tab.get {} s.la.slots k

/-- Slots that run a test, shown in LA_STATUS. -/
def State.showTests (s : State) : State :=
  s.setFld Fld.LA_STATUS_TESTS ((List.range 16).filter fun k => (s.slot k).busy).length

/-- Surge groups in DEFENCE, shown in LA_STATUS. -/
def State.showSurge (s : State) : State :=
  s.setFld Fld.LA_STATUS_SURGE_ON ((List.range 32).filter fun i => s.fld Fld.LA_SURGE_STATE i == 2).length

/-- Slot `k` freed. -/
def State.freeSlot (s : State) (k : Nat) : State :=
  ({ s with la := { s.la with slots := Tab.set {} s.la.slots k {} } }.setReg .LA_SLOT k 0).showTests

/-- The test in slot `k` aborted (R156): no excitation from here on, no candidate, INTERVAL runs. -/
def State.abortTest (s : State) (k reason : Nat) : State :=
  let t := s.slot k
  if !t.busy then s
  else
    let l := t.loop
    let r := s.adaptRec l
    let s := s.setAdapt l { r with phase := 0, reason := reason, lastEnd := some s.pt, staged := none }
    ((s.freeSlot k).bump Fld.LA_COUNT_ABORT).adaptNote 0x5002 l { reason := reason }

/-- Every running test aborted. -/
def State.abortTests (s : State) (reason : Nat) : State := (List.range 16).foldl (fun s k => s.abortTest k reason) s

/-- Lockout after a failed probation (R159): no test for 4 × INTERVAL. -/
def State.lockout (s : State) (l reason : Nat) : State :=
  let iv := match s.img.adapt.find? (fun a => a.loop == l) with
    | some a => a.interval
    | none => 0
  let r := s.adaptRec l
  s.setAdapt l { r with phase := 4, reason := reason, lockEnd := s.pt.plus (4 * iv) }

/-- The kept record of loop `l` must be written (R160, R167). -/
def State.toKeep (s : State) (l : Nat) : State :=
  if s.la.unsaved.contains l then s else { s with la := { s.la with unsaved := s.la.unsaved ++ [l] } }

/-- The test slot that runs on loop `l`. -/
def State.slotOf (s : State) (l : Nat) : Option Nat := (List.range 16).find? fun k => (s.slot k).busy && (s.slot k).loop == l

/-- A test on loop `l` aborted. -/
def State.abortLoop (s : State) (l reason : Nat) : State :=
  match s.slotOf l with
  | some k => s.abortTest k reason
  | none => s

/-- A quotient of IAE sums (R159). -/
def iaeRatio (r : AdaptRec) : F32 := (Fl.div (Fl.ofBits r.probIae) (Fl.ofBits r.refIae)).toBits

/-- A loop whose active set is `set` enters FAULT: its test ends (R156); a running probation ends as failed, without a command, and
its set is not restored (R159). -/
def State.adaptFault (s : State) (l set : Nat) : State :=
  let s := s.abortLoop l 7
  let r := s.adaptRec l
  if r.phase = 3 then
    let s := (s.setAdapt l { r with noRestore := true }).toKeep l
    let p := r.cand.getD (0, 0, 0)
    (s.lockout l 0x22).adaptNote 0x5007 l
      { metric := iaeRatio r, model := r.model.getD (0, 0, 0), new := p, old := p, setTo := set, setFrom := set, reason := 0x22 }
  else s

end Sys2Proof.Machine
end

