-- ==== Sys2Proof/Machine/Points.lean ====
section
/-! DEFINITION. Point records and where they live (R8 to R14, R98, R99): the process image, the subscription cache, the
loop region and the byte memory, with the marks of the equalization tracker (R312). -/

namespace Sys2Proof.Machine

/-! ## The record (R8, R9) -/

def recAge (r : W64) : Nat := bits r 63 48
def recKind (r : W64) : Nat := bits r 47 40
def recQ (r : W64) : Nat := bits r 39 32
def recVal (r : W64) : Word := BitVec.ofNat 32 (bits r 31 0)

/-- Bits of the quality byte (R9). -/
def qGood : Nat := 0
def qLate : Nat := 1
def qStale : Nat := 2
def qSubst : Nat := 3
def qCompl : Nat := 4
def qRange : Nat := 5
def qForced : Nat := 6
def qNoAuth : Nat := 7

/-- Quality bit `i` of a record. -/
def recBit (r : W64) (i : Nat) : Bool := bitAt r (32 + i)

/-- A record from its fields. -/
def mkRec (age kind q : Nat) (v : Word) : W64 :=
  BitVec.ofNat 64 (age % 65536 * 281474976710656 + kind % 256 * 1099511627776 + q % 256 * 4294967296 + v.toNat)

/-- GOOD is set only where LATE, STALE, SUBSTITUTED, OUT_OF_RANGE and NO_AUTHORITY are clear (R10). -/
def settleGood (fresh : Bool) (q : Nat) : Nat :=
  let w : BitVec 8 := BitVec.ofNat 8 q
  let ok := fresh && !bitAt w qLate && !bitAt w qStale && !bitAt w qSubst && !bitAt w qRange && !bitAt w qNoAuth
  (putBit w qGood ok).toNat

/-- A fresh value (R11): AGE 0; the marks are those its production finds. -/
def freshRec (kind marks : Nat) (v : Word) : W64 := mkRec 0 kind (settleGood true marks) v

/-- A missed contribution (R11, R12): VALUE of the last fresh value, AGE advanced, LATE set, GOOD clear; STALE at the
stale limit, and from then on the declared substitute; SUBSTITUTED stands beside no other LATE record. -/
def lateRec (cfg : PointCfg) (r : W64) (by_ : Nat := 1) : W64 :=
  let age := satAdd 65535 (recAge r) by_
  let q : BitVec 8 := BitVec.ofNat 8 (recQ r)
  let q := putBit (putBit (putBit q qLate true) qGood false) qSubst false
  let stale := decide (cfg.stale.getD 3 ≤ age)
  let q := if stale then putBit q qStale true else q
  match stale, cfg.subst with
  | true, some v => mkRec age (recKind r) (putBit q qSubst true).toNat v
  | _, _ => mkRec age (recKind r) q.toNat (recVal r)

/-- The record that a value of another's carries under the same marks. -/
def withVal (r : W64) (v : Word) : W64 := mkRec (recAge r) (recKind r) (recQ r) v

/-! ## Declarations -/

/-- The declaration of point `i` of the process image. -/
def State.pointCfg (s : State) (i : Nat) : PointCfg := (s.img.points.lookup i).getD {}

/-- The declaration of subscription `i`. -/
def State.subCfg (s : State) (i : Nat) : PointCfg := (s.img.subPoints.lookup i).getD {}

/-! ## Memory of every kind -/

/-- Point `i` of the process image. (DEDUCED, log entry 89) -/
def State.piGet (s : State) (i : Nat) : W64 := Tab.get Rec.default s.pi i

/-- The applied and the pending record of subscription `i` (R110). -/
def State.subApplied (s : State) (i : Nat) : W64 := Tab.get Rec.default s.subc (2 * i)
def State.subPending (s : State) (i : Nat) : W64 := Tab.get Rec.default s.subc (2 * i + 1)

def State.setSub (s : State) (k : Nat) (r : W64) : State := { s with subc := Tab.set Rec.default s.subc k r }

/-- Block `b` of the loop region. -/
def State.blkGet (s : State) (b : Nat) : BitVec 256 := Tab.get 0 s.blk b

/-- What a byte of memory that nothing has written reads as. (DESIGN CHOICE, log entry 3) -/
def memDefault : Byte := 0

/-- The canonical form of the byte memory: addresses strictly rising, no byte equal to what an unlisted address reads as. -/
def Memory.wf (m : List Host.Cell) : Bool := Tab.wf (fun _ => memDefault) m

/-- One byte of the byte memory. -/
def State.byteGet (s : State) (a : Nat) : Byte := Tab.get memDefault s.mem a

/-- One byte of the byte memory written. -/
def State.bytePut (s : State) (a : Nat) (b : Byte) : State := { s with mem := Tab.set memDefault s.mem a b }

/-- Bytes written from address `a` upwards. -/
def State.bytesPut (s : State) (a : Nat) : List Byte → State
  | [] => s
  | b :: bs => (s.bytePut a b).bytesPut (a + 1) bs

/-! ## Tracked words (R312) -/

/-- Byte address of a tracked word of the application memory or of the supervisor's equalized area. -/
def trackedAddr (w : Nat) : Nat :=
  if w < 1015808 then 0x01D40000 + 8 * (w - 655360) else 0x01C40000 + 8 * (w - 1015808)

/-- The value of tracked word `w`: process image, loop region, application memory, supervisor area, in that order. -/
def State.twGet (s : State) (w : Nat) : W64 :=
  if w < 262144 then s.piGet w
  else if w < 655360 then
    BitVec.ofNat 64 (bits (s.blkGet ((w - 262144) / 4)) (64 * (w % 4) + 63) (64 * (w % 4)))
  else wordOf 64 ((List.range 8).map fun i => s.byteGet (trackedAddr w + i))

/-- Tracked word `w` written in place, unmarked. -/
def State.twPut (s : State) (w : Nat) (v : W64) : State :=
  if w < 262144 then { s with pi := Tab.set Rec.default s.pi w v }
  else if w < 655360 then
    let b := (w - 262144) / 4
    { s with blk := Tab.set 0 s.blk b (putBits (s.blkGet b) (64 * (w % 4) + 63) (64 * (w % 4)) v.toNat) }
  else s.bytesPut (trackedAddr w) (bytesOf v 8)

/-- The tracker marks word `w`: input blocks and fast blocks are not tracked (R312). A word changed for the first time
since the last freeze keeps its old value for the verification of that snapshot (R313, R316). -/
def State.markDirty (s : State) (w : Nat) : State :=
  let b := w / 32
  if s.img.fastBlocks.contains b then s
  else
    let old := match Tab.get none s.bn.old w with
      | some _ => s.bn.old
      | none => Tab.set none s.bn.old w (some (s.twGet w))
    { s with
      bn := { s.bn with
        dirty := Tab.set 0 s.bn.dirty b (putBit (Tab.get 0 s.bn.dirty b) (w % 32) true)
        old := old } }

/-- Tracked word `w` written by the engine, the application cluster or the supervisor: marked, then written. -/
def State.twWrite (s : State) (w : Nat) (v : W64) : State := (s.markDirty w).twPut w v

/-- Point `i` written, marked for equalization. -/
def State.piPut (s : State) (i : Nat) (r : W64) : State := s.twWrite i r

/-- The producer of point `i` writes a value of its own: what a takeover left of it is over (R320). -/
def State.made (s : State) (i : Nat) (r : W64) : State :=
  if s.ln.rolled.contains i && (!recBit r qLate || recBit r qSubst) then
    { s with ln := { s.ln with rolled := s.ln.rolled.erase i } }
  else s

/-- Point `i` produced: a force replaces VALUE and sets FORCED (R9, R274). -/
def State.produce (s : State) (i : Nat) (r : W64) : State :=
  let s := s.made i r
  match Tab.get none s.forces i with
  | some v => s.piPut i (mkRec (recAge r) (recKind r) (putBit (BitVec.ofNat 8 (recQ r)) qForced true).toNat v)
  | none => s.piPut i r

/-- Block `b` of the loop region written, its four words marked. -/
def State.blkPut (s : State) (b : Nat) (v : BitVec 256) : State :=
  let w := 262144 + 4 * b
  let s := (((s.markDirty w).markDirty (w + 1)).markDirty (w + 2)).markDirty (w + 3)
  { s with blk := Tab.set 0 s.blk b v }

/-- Blocks written from block `b` upwards. -/
def State.blksPut (s : State) (b : Nat) : List (BitVec 256) → State
  | [] => s
  | v :: vs => (s.blkPut b v).blksPut (b + 1) vs

/-! ## Visibility (R98, R99) -/

/-- A record, or a task's tracked word (R312), that becomes visible at instant `t`. -/
def State.showAt (s : State) (t : Instant) (i : Nat) (r : W64) : State :=
  { s with ln := { s.ln with vis := s.ln.vis ++ [(t, i, r)] } }

/-- A retained word among the variables goes to the retained-variable buffer too (R436). -/
def State.retain (s : State) (w : Nat) (v : W64) : State :=
  match s.img.retained.find? fun x => x.2 == w with
  | none => s
  | some x =>
    let u := Config.keyRetained / 8 + x.1
    { s with pw := { s.pw with retained := (s.pw.retained.filter fun y => y.1 != u) ++ [(u, v)] } }

/-- The records due at or before `t`, taken in order into the process image. -/
def State.takeVis (s : State) (t : Instant) : List (Instant × Nat × W64) → State
  | [] => s
  | (u, i, r) :: rest => (if Instant.atOrBefore u t then (if i < 262144 then s.produce i r else (s.twWrite i r).retain i r) else s).takeVis t rest

/-- Records of fast groups whose samples never became complete: those that came show as their cycle ends, at the next S.
(DESIGN CHOICE, log entry 137) -/
def State.takeSets (s : State) (t : Instant) : List (Nat × Instant × List (Nat × W64)) → State
  | [] => s
  | x :: xs => (if Instant.atOrBefore x.2.1 t then x.2.2.foldl (fun s r => s.produce r.1 r.2) s else s).takeSets t xs

/-- Points that miss their instant: VALUE kept, LATE, AGE + 1 (R11, R28). -/
def State.lates (s : State) : List Nat → State
  | [] => s
  | p :: ps => (s.produce p (lateRec (s.pointCfg p) (s.piGet p))).lates ps

/-- The sample sets that C finds missing at or before `t`: their points LATE, each set counted (R28, R98). -/
def State.lateSets (s : State) (t : Instant) : List Expect → State
  | [] => s
  | x :: xs => (if Instant.atOrBefore x.c t then (s.lates x.points).bump Fld.LN_OVERRUN_SAMPLE x.cls else s).lateSets t xs

/-! ### Subscriptions at their instants (R110, R112, R114) -/

def State.sub (s : State) (n : Nat) : Sub := Tab.get {} s.ln.subs n
def State.setSubSt (s : State) (n : Nat) (x : Sub) : State := { s with ln := { s.ln with subs := Tab.set {} s.ln.subs n x } }

/-- The pending records applied (R110). -/
def State.applySub (s : State) : List Nat → State
  | [] => s
  | i :: is => (s.setSub (2 * i) (s.subPending i)).applySub is

/-- `k` expected instants missed by each point (R112). -/
def State.missSub (s : State) (k : Nat) : List Nat → State
  | [] => s
  | i :: is => (s.setSub (2 * i) (lateRec (s.subCfg i) (s.subApplied i) k)).missSub k is

/-- LN_STATUS.INPUT_LATE: at least one subscribed point carries LATE; source 96 when it is set. -/
def State.inputLate (s : State) : State :=
  let late := s.img.subs.any fun c => c.points.any fun i => recBit (s.subApplied i) qLate
  let was := s.flag Fld.LN_STATUS_INPUT_LATE
  let s := s.setFlag Fld.LN_STATUS_INPUT_LATE late
  if late && !was then s.ev 96 else s

/-- `k` expected instants of stream `n` missed, the first of them `g` (R112). -/
def State.missAt (s : State) (n : Nat) (c : SubCfg) (g : Instant) (k : Nat) : State :=
  let s := s.setSubSt n { s.sub n with grid := some (g.plus (k * Config.period c.cls)) }
  ((s.missSub k c.points).bump Fld.LN_SUB_MISSED n k).inputLate

/-- The pending frame of a stream falls due at or before `t`. -/
def Sub.dueAt (x : Sub) (t : Instant) : Bool :=
  match x.pend with
  | some f => Instant.atOrBefore f.validAt t
  | none => false

/-- VALID_AT of the pending frame of stream `n`: the expected instants before it are missed, and its records become the
applied ones, unless the stream is
coordination-required and the module is COORD_DEGRADED, when the instant is missed (R110, R114). -/
def State.fallDue (s : State) (n : Nat) : State :=
  match s.img.subs[n]?, (s.sub n).pend with
  | some c, some f =>
    let next := f.validAt.plus (Config.period c.cls)
    let s := match (s.sub n).grid with
      | some g =>
        if Instant.before g f.validAt then s.missAt n c g ((f.validAt - g).toNat / Config.period c.cls) else s
      | none => s
    if c.coord && s.flag Fld.MT_STATE_COORD_DEGRADED then
      (s.setSubSt n { s.sub n with pend := none }).missAt n c f.validAt 1
    else
      let s := s.setSubSt n { s.sub n with pend := none, applied := some f.validAt, grid := some next }
      ((s.applySub c.points).setFld Fld.LN_SUB_MISSED 0 n).inputLate
  | _, _ => s

/-- Expected instants of stream `n` that have passed at `t` without a pending record (R112). -/
def State.missDue (s : State) (t : Instant) (n : Nat) : State :=
  match s.img.subs[n]?, (s.sub n).grid with
  | some c, some g =>
    if Instant.atOrBefore g t then s.missAt n c g ((t - g).toNat / Config.period c.cls + 1) else s
  | _, _ => s

/-- Every stream as it stands at `t`. -/
def State.subsAt (s : State) (t : Instant) : List (Nat × Sub) → State
  | [] => s
  | x :: xs => ((if x.2.dueAt t then s.fallDue x.1 else s).missDue t x.1).subsAt t xs

/-- What work launched at `t` sees: every record visible at or before `t`, subscribed ones included, nothing after it
(R98, R99); a sample set that its C finds missing leaves LATE (R28). -/
def State.settle (s : State) (t : Instant) : State :=
  let s' := s.takeVis t s.ln.vis
  let s' := { s' with ln := { s'.ln with vis := s'.ln.vis.filter fun v => !Instant.atOrBefore v.1 t } }
  let s' := s'.takeSets t s'.ln.sets
  let s' := { s' with ln := { s'.ln with sets := s'.ln.sets.filter fun x => !Instant.atOrBefore x.2.1 t } }
  let s' := s'.lateSets t s'.ln.expect
  let s' := { s' with ln := { s'.ln with expect := s'.ln.expect.filter fun x => !Instant.atOrBefore x.c t } }
  s'.subsAt t s'.ln.subs

/-! ## Point references (R119, R14, R127) -/

/-- The record a 20-bit point reference names, none for SRC 0b10 and 0b11. -/
def State.refGet (s : State) (ref : Nat) : Option W64 :=
  if ref / 262144 = 0 then some (s.piGet (ref % 262144))
  else if ref / 262144 = 1 then some (s.subApplied (ref % 65536))
  else none

/-- The kind the plant image declares for what a reference names. -/
def State.refKind (s : State) (ref : Nat) : Nat :=
  if ref / 262144 = 0 then (s.pointCfg (ref % 262144)).kind else (s.subCfg (ref % 65536)).kind

/-- A consumer treats a record as missing when its KIND is unassigned, reserved or not the declared one (R14). -/
def kindMissing (r : W64) (declared : Nat) : Bool :=
  recKind r == 0 || 7 ≤ recKind r || recKind r != declared

/-- An input record is usable (R127). -/
def recUsable (r : W64) (declared : Nat) (accSubst : Bool) : Bool :=
  recKind r == 1 && !kindMissing r declared &&
  (recBit r qGood || (accSubst && recBit r qSubst && !recBit r qRange && !recBit r qNoAuth))

/-- The usable value a reference names, if any (R127). -/
def State.usable (s : State) (ref : Nat) (accSubst : Bool) : Option Fl :=
  match s.refGet ref with
  | some r => if recUsable r (s.refKind ref) accSubst then some (Fl.ofBits (recVal r)) else none
  | none => none

end Sys2Proof.Machine
end

