-- ==== Sys2Proof/Machine/Authority.lean ====
section
/-! DEFINITION. Authority (13 R294 to R301, R318 to R321, R344): the claim, the epoch, taking and leaving authority, and
declaring the module failed. Shared by the binary, lockstep, island, reset and hot-swap commands. -/

namespace Sys2Proof.Machine

/-! ## The claim and the epoch -/

/-- The module sees no claim on the loop (R295, R296). -/
def State.unclaimed (s : State) : Bool := !s.flag Fld.BN_LOOP_CLAIM_A && !s.flag Fld.BN_LOOP_CLAIM_B

/-- What a unit shows of the two claims (R295). -/
def State.loopShows (s : State) : Indication :=
  if s.flag Fld.BN_LOOP_CLAIM_A then .a else if s.flag Fld.BN_LOOP_CLAIM_B then .b else .unclaimed

/-- The partner's claim is present. -/
def State.partnerClaim (s : State) : Bool :=
  if s.posB then s.flag Fld.BN_LOOP_CLAIM_A else s.flag Fld.BN_LOOP_CLAIM_B

/-- The own CLAIM driven or not; the base returns it on the own line (R294). -/
def State.driveClaim (s : State) (b : Bool) : State :=
  let s := { s with bn := { s.bn with claimOut := b } }
  let s := s.setFlag Fld.BN_LOOP_CLAIM_RET b
  if s.posB then s.setFlag Fld.BN_LOOP_CLAIM_B b else s.setFlag Fld.BN_LOOP_CLAIM_A b

/-- READY driven or not (R294). -/
def State.driveReady (s : State) (b : Bool) : State := (s.setFlag Fld.BN_STATUS_READY b).relay

/-- HEALTHY toggling or not (R306). -/
def State.driveHealthy (s : State) (b : Bool) : State :=
  { s with bn := { s.bn with healthyOut := b } }.setFlag Fld.BN_LOOP_HEALTHY_OUT b

/-- E_max (R298). -/
def State.epochMax (s : State) : Nat := max s.bn.stored (max s.bn.hbEpoch s.bn.heldMax)

/-- E_new = max(E_max + 1, ⌊PT ÷ 1 s⌋ mod 2^32) (R298). -/
def State.epochNew (s : State) : Nat :=
  max (s.epochMax + 1) (s.pt.toNat / 1000000000 % 4294967296) % 4294967296

/-- The new epoch taken (R298): shown in BN_EPOCH and SX_EPOCH; its store is pending while the key takes writes, and
EPOCH_UNSTORED is set where it does not. -/
def State.takeEpoch (s : State) : State :=
  let e := s.epochNew
  let s := (s.setFld Fld.BN_EPOCH_EPOCH e).setFld Fld.SX_EPOCH_EPOCH e
  let ok := s.keyOk
  { s with bn := { s.bn with storePend := ok } }.setFlag Fld.BN_STATUS_EPOCH_UNSTORED (!ok)

/-- The key takes no write any more while the store is pending: the module does not wait for it (R298). -/
def State.epochHolds (s : State) : State :=
  if s.bn.storePend && !s.keyOk then
    { s with bn := { s.bn with storePend := false } }.setFlag Fld.BN_STATUS_EPOCH_UNSTORED true
  else s

/-- Frames under the present epoch may leave: its store is complete, or the key takes none (R298). -/
def State.epochSendable (s : State) : Bool := !(s.bn.storePend && s.keyOk)

/-! ## What is done once in a slot -/

/-- Slot `n` of what `k` counts has been served: 0 heartbeats, 1 network heartbeats, 2 health word, 3 equalization, 4
verification. -/
def State.served (s : State) (k n : Nat) : Bool := Tab.get none s.bn.slots k == some n
def State.serve (s : State) (k n : Nat) : State := { s with bn := { s.bn with slots := Tab.set none s.bn.slots k (some n) } }

/-! ## Asserting CLAIM (R296, R319) -/

/-- CLAIM asserted for an authority change of `kind` (BN_TAKEOVER.KIND), where the loop is unclaimed: new epoch,
heartbeats, and the resume instant D + 50 µs of a takeover. The module is active once the loop shows it (R300). -/
def State.claim (s : State) (kind detect : Nat) : State :=
  if !s.unclaimed || s.bn.claimOut then s
  else
    let s := (s.driveClaim true).takeEpoch
    let s := ((s.setFld Fld.BN_TAKEOVER_KIND kind).setFld Fld.BN_TAKEOVER_LAG (sat 63 s.bn.lag)).setFld
      Fld.BN_TAKEOVER_DETECT (sat 4095 detect)
    let s := { s with bn := { s.bn with claiming := kind, hbRun := true, taking := decide (kind ≤ 4), releasing := false, hoClaim := false } }
    if 1 ≤ kind ∧ kind ≤ 3 then { s with ln := { s.ln with resume := some (s.pt.plus 50000) } } else s

/-- Pending loop commands are lost (R144). -/
def State.dropPends (s : State) : State :=
  { s with le := { s.le with
    runs := s.le.runs.map fun (r : Nat × LoopRun) => (r.1, { r.2 with pend := none, pendNew := false }) } }

/-! ## Becoming active -/

/-- The points of the process image that loops and tasks produce. -/
def State.madePoints (s : State) : List Nat :=
  (s.img.loopDir.map fun p => ((BitVec.ofNat 512 ((s.blkGet p.2).toNat + (s.blkGet (p.2 + 1)).toNat * 2 ^ 256)).toNat
      / 2 ^ 216 % 2 ^ 18)) ++ s.img.taskPts.map Prod.snd

/-- Records of loops and tasks after a takeover (R320): snapshot VALUE, LATE, AGE advanced by the standard cycles since
the snapshot instant. -/
def State.lateAll (s : State) (n : Nat) : List Nat → State
  | [] => s
  | p :: ps => (s.piPut p (lateRec (s.pointCfg p) (s.piGet p) n)).lateAll n ps

/-- Standard cycles since the snapshot instant. -/
def State.sinceSnap (s : State) : Nat :=
  match s.bn.committed with
  | some b => (s.bt - b).toNat / 1000000
  | none => 0

/-- Every record that a loop or a task produces rolled back by a takeover: an output keeps what it drives until the producer has
written (R104, R320). -/
def State.rollRecords (s : State) : State :=
  let s := s.lateAll s.sinceSnap s.madePoints
  { s with ln := { s.ln with rolled := s.madePoints } }

/-- The test of a loop aborted by a takeover: the new active counts it, INTERVAL runs, and it is logged (R156, R165, R166). What
waited to be staged is lost. -/
def State.takeoverAbort (s : State) (l : Nat) : State :=
  let r := s.adaptRec l
  if r.phase = 1 then
    ((s.setAdapt l { r with phase := 0, reason := 6, lastEnd := some s.pt, staged := none }).bump Fld.LA_COUNT_ABORT).adaptNote
      0x5002 l { reason := 6 }
  else if r.phase = 2 then s.setAdapt l { r with phase := 0, staged := none }
  else s

/-- Every test aborted, surge counts restarted, a group in DEFENCE restarting H_REL (R165). -/
def State.adaptTakeover (s : State) : State :=
  let s := { s with la := { s.la with slots := [] } }.showTests
  let s := (s.la.recs.map Prod.fst).foldl State.takeoverAbort s
  ((List.range 32).foldl (fun s g =>
    let r : SurgeRun := Tab.get {} s.la.surge g
    let s := { s with la := { s.la with surge := Tab.set {} s.la.surge g { r with relAt := none } } }
    (s.setFld Fld.LA_SURGE_COUNT 0 g).setFld Fld.LA_SURGE_STATE
      (if s.fld Fld.LA_SURGE_STATE g = 1 then 0 else s.fld Fld.LA_SURGE_STATE g) g) s).showSurge

/-- The module holds authority (R300, R318): role Active, READY off, no cycle of an earlier term in a loop's history (R153); after a takeover the records, loops and the
adaptation layer follow R320, R321 and R165; a hand-over needs no re-entry (R322). -/
def State.becomeActive (s : State) : State :=
  let kind := s.bn.claiming
  let s := (s.setRole 1).driveReady false
  let s := { s with mt := { s.mt with bt := s.mt.bt.setRate s.mt.frc s.mt.pt.rate } }
  let s := { s with bn := { s.bn with claiming := 0, joining := false } }
  let s := { s with la := { s.la with recs := s.la.recs.map fun (r : Nat × AdaptRec) => (r.1, { r.2 with hist := [] }) } }
  let s :=
    if 1 ≤ kind ∧ kind ≤ 3 then
      let s := s.rollRecords
      let s := { s with le := { s.le with takeovers := s.le.takeovers + 1, lag := s.bn.lag } }
      let s := { s with ln := { s.ln with
        pubs := s.ln.pubs.map fun (p : Nat × Pub) => (p.1, { p.2 with base := s.bn.committed.getD 0 + (s.pt - s.bt), resumed := true }) } }
      s.bnNote (if kind = 3 then 0xB002 else 0xB001) [s.bn.lag, s.fld Fld.BN_TAKEOVER_DETECT]
    else s
  let s := if 1 ≤ kind ∧ kind ≤ 4 then (s.dropPends).adaptTakeover else s
  if s.boot.committed then (s.setFlag Fld.LE_CTL_RUN true).relay else s

/-! ## Leaving authority -/

/-- A release (R297, R301, R318): the claim drops, the last heartbeat carries RELEASE, the module launches nothing, ends its tests
(R156) and holds no role. -/
def State.release (s : State) : State :=
  let s := (s.abortTests 6).driveClaim false
  let s := { s with bn := { s.bn with releasing := true, ho := none, taking := false, claiming := 0 } }
  (((s.dropPends).stopLaunch).setFlag Fld.BN_STATUS_HO_PENDING false).setRole 0

/-- Role code 0x0, joining from the start (R300): nothing committed, nothing verified, READY off. -/
def State.joinAgain (s : State) : State :=
  let s := ((s.dropPends).driveReady false).setRole 0
  { s with
    bn := { s.bn with
      joining := true, committed := none, journal := [], sweep := 0, lag := 0, allDirty := false, hoClaim := false } }

/-- The module declares itself failed (R301, R302, R344): launches stop and outputs keep their last committed values,
heartbeats, HEALTHY and READY stop, and the claim drops where the partner was a standby; elsewhere Caldera holds it
(R62). -/
def State.declareFailed (s : State) : State :=
  if s.bn.failed then s
  else
    let s := s.abortTests 6
    let hold := s.bn.claimOut && !s.partnerStandby
    let s := if hold then { s with pw := { s.pw with calderaClaim := true } } else s.driveClaim false
    let s := { s with bn := { s.bn with
      failed := true, failAt := s.mt.frc, hbRun := false, joining := false, taking := false, claiming := 0, ho := none } }
    (((s.stopLaunch.setFlag Fld.BN_STATUS_HO_PENDING false).driveHealthy false).driveReady false).setRole 6

/-- The orders a hand-over or takeover in progress refuses (R323): one is under way. -/
def State.taking (s : State) : Bool := s.bn.taking || decide (s.bn.claiming ≠ 0)

/-- A conflict flag of BN_STATUS set: Sinter 0xB00E and source 86 (R301, R329). -/
def State.conflict (s : State) (f : Field) (what : Nat) : State :=
  if s.flag f then s else ((s.setFlag f true).bnNote 0xB00E [what]).ev 86

end Sys2Proof.Machine
end

