-- ==== Sys2Proof/Machine/Drive.lean ====
section
/-! DEFINITION. What drives the field: the stages of the own channels (R182 to R184, R195, R205 to R209, R217), the
frames of the Scapex ports (R242 to R253), and the immediate output of a fast loop (R102, R250). -/

namespace Sys2Proof.Machine

/-! ## Authority as one unit sees it (R295) -/

/-- Island `isl` shows authority for this module. -/
def State.shows (s : State) (isl : Nat) : Bool :=
  Tab.get Indication.unclaimed s.bn.inds isl == (if s.posB then Indication.b else Indication.a)

/-- Island `isl` runs and answers. -/
def State.alive (s : State) (isl : Nat) : Bool := s.flag Fld.SUP_ISLAND_ALIVE isl

/-! ## Handshake channels (R356) -/

/-- Depth of the handshake channel with a given code: 0 to 17 Meridian to an island, 32 on sample sets, 48 on commit
values, 64 on immediate outputs. -/
def chanDepth (c : Nat) : Nat :=
  if c < 32 then (match c with
    | 0 => 128
    | 2 => 512
    | 4 => 256
    | 6 => 256
    | _ => 64)
  else if c < 64 then 4 else 32

/-- The island that receives from a channel: the memory port of the process image belongs to the loop engine's side of
the memory and counts at the supervisor. -/
def chanIsland (c : Nat) : Nat := if c < 32 then c else if c < 48 then 1 else if c < 64 then 8 + (c - 48) else c - 64

/-- A message sent: discarded and counted at the receiver where the channel is full. (DESIGN CHOICE, log entry 24) -/
def State.push (s : State) (c : Nat) (m : ChanMsg) : State :=
  let q := Tab.get [] s.ln.chans c
  if q.length < chanDepth c then { s with ln := { s.ln with chans := Tab.set [] s.ln.chans c (q ++ [m]) } }
  else s.bump Fld.SUP_ISLAND_OVERFLOW (chanIsland c)

/-! ## Universal channels -/

def State.uc (s : State) (n : Nat) : UcChan := Tab.get {} s.io.uc n
def State.setUc (s : State) (n : Nat) (c : UcChan) : State := { s with io := { s.io with uc := Tab.set {} s.io.uc n c } }
def State.slice (s : State) (k : Nat) : Slice := Tab.get {} s.io.slices k
def State.setSlice (s : State) (k : Nat) (c : Slice) : State :=
  { s with io := { s.io with slices := Tab.set {} s.io.slices k c } }

/-- The declaration of universal channel `n`. -/
def State.ucCfg (s : State) (n : Nat) : UcCfg := (s.img.uc.find? fun c => c.ch.val == n).getD { ch := 0 }

def State.ucMode (s : State) (n : Nat) : Nat := s.fld Fld.UC_CFG_MODE n

/-- The channel is an output. -/
def State.ucOut (s : State) (n : Nat) : Bool := decide (6 ≤ s.ucMode n) && decide (s.ucMode n ≤ 8)

/-- The drive span of an output (R170), in mA or V. -/
def State.ucSpan (s : State) (n : Nat) : Fl × Fl :=
  if s.ucMode n = 8 then
    (if s.fld Fld.UC_CFG_RANGE n = 0 then Fl.dec (-21) 2 else Fl.zero, Fl.dec 21 2)
  else (Fl.zero, Fl.ofNat 24)

/-- The nominal range of a voltage or current channel (R170), in V or mA. -/
def ucNominal (c : UcCfg) : Fl × Fl :=
  let r := bits c.cfg 27 24
  match bits c.cfg 31 28 with
  | 1 => (match r with
    | 0 => (Fl.ofInt (-10), Fl.ofNat 10)
    | 1 => (Fl.zero, Fl.ofNat 10)
    | 2 => (Fl.ofInt (-1), Fl.one)
    | _ => (Fl.dec (-8) 100, Fl.dec 8 100))
  | 8 => (if r = 0 then Fl.ofInt (-10) else Fl.zero, Fl.ofNat 10)
  | _ => (if r = 0 then Fl.ofNat 4 else Fl.zero, Fl.ofNat 20)

/-- EL_LO and EL_HI, ENG_LO and ENG_HI (R176): as declared, or the nominal range. -/
def ucEl (c : UcCfg) : Fl × Fl :=
  (((c.elLo).map Fl.ofBits).getD (ucNominal c).1, ((c.elHi).map Fl.ofBits).getD (ucNominal c).2)
def ucEng (c : UcCfg) : Fl × Fl :=
  (((c.engLo).map Fl.ofBits).getD (ucNominal c).1, ((c.engHi).map Fl.ofBits).getD (ucNominal c).2)

/-- The inverse scaling of a command (R176). -/
def ucToElec (c : UcCfg) (v : Fl) : Fl :=
  let el := ucEl c
  let eng := ucEng c
  Fl.add el.1 (Fl.div (Fl.mul (Fl.sub v eng.1) (Fl.sub el.2 el.1)) (Fl.sub eng.2 eng.1))

/-- Steps of the output converter (R170) in one mA or one V: 0.1 µA and 40 µV. -/
def State.ucSteps (s : State) (n : Nat) : Nat := if s.ucMode n = 8 then 25000 else 10000

/-- A drive value at the output converter's resolution (R170): the nearest step. (DESIGN CHOICE, log entry 105) -/
def State.ucStep (s : State) (n : Nat) (e : Fl) : Fl :=
  Fl.dec (Fl.mul e (Fl.ofNat (s.ucSteps n))).toInt (s.ucSteps n)

/-- A command in engineering units as the stage drives it, clamped to the drive span, and whether it was clamped
(R183); a NaN drives what is free. -/
def State.ucDrive (s : State) (n : Nat) (v : F32) : F32 × Bool :=
  let e := ucToElec (s.ucCfg n) (Fl.ofBits v)
  let sp := s.ucSpan n
  if e = .nan then
    let f := Fl.ofBits (Config.nanDrive v)
    ((s.ucStep n (if Fl.le sp.1 f && Fl.le f sp.2 then f else sp.1)).toBits, false)
  else if Fl.lt e sp.1 then (sp.1.toBits, true) else if Fl.lt sp.2 e then (sp.2.toBits, true)
  else ((s.ucStep n e).toBits, false)

/-- The factory calibration at the shell's temperature (R175, R176): offset, and gain as the product of its two factors. -/
def State.ucFactory (s : State) (n : Nat) : Fl × Fl × Fl :=
  let k := Config.calibration n (s.fld Fld.UC_CFG_RANGE n)
  let ts := Fl.sub (Fl.ofInt (BitVec.ofNat 8 (s.fld Fld.UC_SLICE_TEMP (n / 8))).toInt) (Fl.ofNat 25)
  (Fl.add (Fl.ofBits k.1) (Fl.mul (Fl.ofBits k.2.2.1) ts), Fl.ofBits k.2.1,
    Fl.add Fl.one (Fl.mul (Fl.ofBits k.2.2.2) ts))

/-- Factory correction and integrator trim of a filtered word (R176). -/
def State.ucCorrect (s : State) (n : Nat) (w : Fl) : Fl :=
  let c := s.ucCfg n
  let k := s.ucFactory n
  Fl.add (Fl.mul (Fl.mul (Fl.mul (Fl.sub w k.1) k.2.1) k.2.2) (Fl.ofBits c.trimG)) (Fl.ofBits c.trimO)

/-- The converter code of an output: the inverse trim, then the inverse factory correction (R176). -/
def State.ucCode (s : State) (n : Nat) (e : Fl) : Fl :=
  let c := s.ucCfg n
  let k := s.ucFactory n
  Fl.add (Fl.div (Fl.div (Fl.div (Fl.sub e (Fl.ofBits c.trimO)) (Fl.ofBits c.trimG)) k.2.2) k.2.1) k.1

/-- Output `n` with command `v` in engineering units. -/
def State.ucSetCmd (s : State) (n : Nat) (v : F32) (c : UcChan) : UcChan :=
  let d := s.ucDrive n v
  { c with cmd := some v, elec := d.1, code := (s.ucCode n (Fl.ofBits d.1)).toBits, clamped := d.2, safed := false }

/-- A universal output switched off. -/
def State.ucOff (s : State) (n : Nat) : State :=
  if s.ucOut n then s.setFlag Fld.UC_STAT_STAGE_ON false n else s

/-- What the stage of channel `n` follows: authority shown to its shell, a command taken, nothing that turns it off. -/
def State.ucStage (s : State) (n : Nat) : State :=
  let c := s.uc n
  let k := s.slice (n / 8)
  let on := s.ucOut n && s.shows (8 + n / 8) && c.cmd.isSome && !c.safed && !c.vOff && !c.oos && !k.stagesOff &&
    !k.tempOff
  s.setFlag Fld.UC_STAT_STAGE_ON on n

/-- Universal output `n` takes a command record at K or CC_PT (R183); a stage turned off hot comes back at this commit (R185).
(DESIGN CHOICE, log entry 31) -/
def State.ucTake (s : State) (n : Nat) (r : W64) : State :=
  let c := s.uc n
  if recKind r = 1 ∧ !recBit r qNoAuth then
    (s.setUc n { s.ucSetCmd n (recVal r) c with late := false }).ucStage n
  else (s.setUc n { c with late := true }).ucStage n

/-! ## Digital channels -/

def State.dc (s : State) (m : Nat) : DcChan := Tab.get {} s.io.dc m
def State.setDc (s : State) (m : Nat) (c : DcChan) : State := { s with io := { s.io with dc := Tab.set {} s.io.dc m c } }
def State.dcCfg (s : State) (m : Nat) : DcCfg := (s.img.dc.find? fun c => c.ch.val == m).getD { ch := 0 }
def State.dcMode (s : State) (m : Nat) : Nat := s.fld Fld.DC_CFG_MODE m

/-- Supply state of the group of channel `m` (R207). -/
def State.dcSupply (s : State) (m : Nat) : Nat := s.fld Fld.DC_GROUP_STATE (m / 8)

/-- The stage of channel `m` switched. Its terminal is measured (R199). -/
def State.dcSwitch (s : State) (m : Nat) (on : Bool) : State :=
  if s.flag Fld.DC_STAT_STAGE_ON m = on then s
  else
    let c := s.dc m
    (s.setDc m (if on then { c with onAt := some s.mt.frc } else { c with offAt := some s.mt.frc })).setFlag
      Fld.DC_STAT_STAGE_ON on m

/-- Nothing turns the stage of channel `m` off. -/
def State.dcFree (s : State) (m : Nat) : Bool :=
  let c := s.dc m
  let k := s.slice (4 + m / 8)
  s.shows (12 + m / 8) && !c.ovl && !c.hot && !k.stagesOff && !k.tempOff && s.dcSupply m != 3

/-- The stage of channel `m` follows its command: off at once; on at once too, except while its group re-applies, where
it waits for its turn (R209), and in OFF. -/
def State.dcStage (s : State) (m : Nat) : State :=
  let on := (s.dc m).cmd == some true
  if !on then (s.dcSwitch m false).setFlag Fld.DC_STAT_QUEUED false m
  else if s.dcSupply m = 3 ∨ s.flag Fld.DC_GROUP_REAPPLY (m / 8) then
    s.setFlag Fld.DC_STAT_QUEUED (!s.flag Fld.DC_STAT_STAGE_ON m) m
  else (s.dcSwitch m (s.dcFree m)).setFlag Fld.DC_STAT_QUEUED false m

/-- The lowest channel of group `g` commanded on, waiting, that nothing else keeps off. -/
def State.nextTurn (s : State) (g : Nat) : Option Nat :=
  ((List.range 8).map fun i => 8 * g + i).find? fun m =>
    s.flag Fld.DC_STAT_QUEUED m && (s.dc m).cmd == some true && !s.flag Fld.DC_STAT_STAGE_ON m && s.dcFree m

/-- The re-application of group `g` ends when no channel waits for its turn (R209). -/
def State.turnsEnd (s : State) (g : Nat) : State :=
  if s.flag Fld.DC_GROUP_REAPPLY g && (s.nextTurn g).isNone then s.setFlag Fld.DC_GROUP_REAPPLY false g else s

/-- What a command record asks of a digital output (R205). -/
def dcAsks (r : W64) : Option Bool :=
  if recBit r qNoAuth then none
  else if recKind r = 4 then
    (if (recVal r) = 0 then some false else if (recVal r) = 1 then some true else none)
  else if recKind r = 1 ∧ (Fl.ofBits (recVal r)).finite then some (Fl.le (.fin false 1 (-1)) (Fl.ofBits (recVal r)))
  else none

/-- Digital output `m` commanded: a command to off ends overload retries and clears live OVERLOAD (R206). -/
def State.dcCommand (s : State) (m : Nat) (on : Bool) : State :=
  let c := s.dc m
  let s := s.setDc m { c with cmd := some on, late := false, ovl := c.ovl && on }
  let s := if on then s else
    (s.setFlag Fld.DC_STAT_RETRY false m).setFld Fld.DC_STAT_LIVE
      (putBit (BitVec.ofNat 16 (s.fld Fld.DC_STAT_LIVE m)) 2 false).toNat m
  s.dcStage m

/-- Digital output `m` takes a command record at K or CC_PT (R205). A command kept acts on the stage too: one that was turned off
hot comes back at this commit (R206, R213). -/
def State.dcTake (s : State) (m : Nat) (r : W64) : State :=
  match dcAsks r with
  | some on => s.dcCommand m on
  | none => (s.setDc m { s.dc m with late := true }).dcStage m

/-! ## A change of authority at the shells (R195, R217) -/

/-- Universal output `n` when its shell comes to show authority: it regulates at its shadow command. -/
def State.ucResume (s : State) (n : Nat) : State :=
  if !s.ucOut n then s
  else
    let c := s.uc n
    let s := match c.shadow with
      | some v => (s.setUc n (s.ucSetCmd n v c)).setFlag Fld.UC_STAT_UNASSIGNED false n
      | none => s
    s.ucStage n

/-- Digital output `m` when its shell comes to show authority: it starts at its shadow command at once, without the
sequence of R209, except in a group that is OFF. -/
def State.dcResume (s : State) (m : Nat) : State :=
  if s.dcMode m ≠ 3 then s
  else
    match (s.dc m).shadow with
    | some on =>
      let s := (s.setDc m { s.dc m with cmd := some on }).setFlag Fld.DC_STAT_UNASSIGNED false m
      if s.dcSupply m = 3 then s.dcStage m else (s.dcSwitch m (on && s.dcFree m)).setFlag Fld.DC_STAT_QUEUED false m
    | none => (s.dcSwitch m ((s.dc m).cmd == some true && s.dcFree m)).setFlag Fld.DC_STAT_QUEUED false m

/-- A HART transaction in progress at a change of authority is lost (R195); a pass-through frame's sender hears of it by its
timeout. -/
def State.hartLose (s : State) (n : Nat) : State :=
  match (s.uc n).hart with
  | .connect => s.setUc n { s.uc n with hart := .none }
  | .poll => s.setUc n { s.uc n with hart := .none }
  | _ => s

/-- RTD excitation of channel `n`: enabled by authority, stopped while a wiring fault lasts (R184, R193). -/
def State.ucExcite (s : State) (n : Nat) (on : Bool) : State :=
  s.setFlag Fld.UC_STAT_STAGE_ON (on && !(s.uc n).noExc) n

/-- The shell of slice `k` sees authority come (`on`) or go: its stages, excitation, transactions and windows follow (R24, R193,
R195). -/
def State.sliceAuthority (s : State) (k : Nat) (on : Bool) : State :=
  let s := s.setSlice k { s.slice k with gap := some s.mt.frc }
  if k < 4 then
    (List.range 8).foldl (fun s i =>
      let n := 8 * k + i
      let s := s.hartLose n
      if s.ucMode n = 4 then s.ucExcite n on
      else if on then s.ucResume n else s.ucOff n) s
  else
    (List.range 8).foldl (fun s i =>
      let m := 8 * (k - 4) + i
      if on then s.dcResume m else if s.dcMode m = 3 then s.dcSwitch m false else s) s

/-! ## Scapex frames (R242, R243) -/

def State.sxP (s : State) (p : Nat) : SxP := Tab.get {} s.sx.ports p
def State.setSxP (s : State) (p : Nat) (x : SxP) : State := { s with sx := { s.sx with ports := Tab.set {} s.sx.ports p x } }
def State.sxC (s : State) (i : Nat) : SxC := Tab.get {} s.sx.cars i
def State.setSxC (s : State) (i : Nat) (x : SxC) : State := { s with sx := { s.sx with cars := Tab.set {} s.sx.cars i x } }
def State.carCfg (s : State) (i : Nat) : CarCfg := (s.img.sxCar.find? fun c => c.i.val == i).getD { i := 0 }
def State.carDeclared (s : State) (i : Nat) : Bool := s.img.sxCar.any fun c => c.i.val == i

/-- A frame header. AUTH is what the Scapex island sees (R252). -/
def State.sxHeader (s : State) (p : Nat) (instant : Instant) (len group type : Nat) (west : Bool) : BitVec 192 :=
  let h : BitVec 192 := 0
  let h := putBits h 191 128 instant.toNat
  let h := putBits h 127 96 (s.fld Fld.SX_EPOCH_EPOCH)
  let h := putBits h 95 80 (s.sxP p).seq
  let h := putBits h 79 72 len
  let h := putBits h 65 60 63
  let h := putBits h 58 46 s.base.binary
  let h := putBit h 45 s.posB
  let h := putBit h 44 west
  let h := putBit h 43 (s.shows 6)
  let h := putBits h 39 32 group
  let h := putBits h 31 28 type
  putBits h 7 0 1

/-- A frame as it stands on the wire after preamble and start-of-frame delimiter: header and payload words, most significant
byte first, and the FCS; a frame whose incoming FCS was wrong carries the complement of the correct one (R241, R242). -/
def sxWire (f : SxFrame) : List Byte :=
  let bs := wordsWire ((unitsOf f.hdr 3).reverse ++ f.payload)
  let c := crc32 bs
  bs ++ bytesOf (if f.fcsOk then c else ~~~c) 4

/-- One frame launched on both pairs of port `p` (R242). -/
def State.sxLaunch (s : State) (p : Nat) (instant : Instant) (group type : Nat) (payload : List W64) : State :=
  let e := s.sxHeader p instant payload.length group type false
  let w := s.sxHeader p instant payload.length group type true
  let s := (s.emit (.scapex p true (sxWire { hdr := e, payload := payload }))).emit
    (.scapex p false (sxWire { hdr := w, payload := payload }))
  s.setSxP p { s.sxP p with seq := ((s.sxP p).seq + 1) % 65536 }

def State.sxPortCfg (s : State) (p : Nat) : SxPortCfg := (s.img.sxPort.find? fun c => c.p.val == p).getD { p := 0 }

/-- What became of the frames sent before: copies not returned within 2 × L count as lost. -/
def State.sxJudge (s : State) (p : Nat) : State :=
  let x := s.sxP p
  let bound := 2 * (s.sxPortCfg p).lap
  let gone := (x.flight.filter fun f => decide (bound < (s.mt.frc - f.2.2).toNat)).length
  let time := if x.sent then b2n x.retE.isNone + b2n x.retW.isNone else 0
  let s := s.setSxP p { x with flight := x.flight.filter fun f => !decide (bound < (s.mt.frc - f.2.2).toNat) }
  let s := if time = 0 then s else s.setFlag Fld.SX_PORT_INTACT false p
  s.bump Fld.SX_ERR_LOST p (gone + time)

/-- The epoch and standard cycle of a TIME frame sent now. -/
def State.sxCycle (s : State) : Nat × Nat := (s.fld Fld.SX_EPOCH_EPOCH, s.pt.toNat / 1000000)

/-- The TIME frame of port `p`: CORRECTION 0, then the P word. -/
def State.sxTime (s : State) (p : Nat) : State :=
  let s := s.sxJudge p
  let s := s.sxLaunch p s.pt 0 1 [0, BitVec.ofNat 64 (s.sxP p).prop]
  s.setSxP p { s.sxP p with sent := true, retE := none, retW := none, timed := some s.sxCycle }

/-- One frame sent on port `p`: the first frame under an authority epoch is a TIME frame (R251). -/
def State.sxSend (s : State) (p : Nat) (instant : Instant) (group type : Nat) (payload : List W64) : State :=
  let s := if (s.sxP p).timed.map Prod.fst = some (s.fld Fld.SX_EPOCH_EPOCH) then s else s.sxTime p
  s.sxLaunch p instant group type payload

/-- The island may launch OUTPUT, IMMEDIATE and SERVICE frames (R252, R298). -/
def State.sxMay (s : State) : Bool := s.shows 6 && s.epochSendable && s.alive 6

/-- A command record that the rules of a channel allow: those of a digital output, or those of an analogue one (R183, R205,
R244). -/
def sxAllows (dig : Bool) (r : W64) : Bool :=
  if dig then (dcAsks r).isSome else recKind r == 1 && !recBit r qNoAuth

/-- The previous command of channel `ch` of carrier `i` with LATE set (R244). Where there was none, LATE alone and VALUE 0. -/
def State.sxPrev (s : State) (i ch : Nat) : Nat × Word :=
  match Tab.get none (s.sxC i).cmds ch with
  | some c => (settleGood false (putBit (BitVec.ofNat 8 c.1) qLate true).toNat, c.2)
  | none => (2, 0)

/-- The command of channel `ch` of carrier `i` noted. -/
def State.sxKeep (s : State) (i ch q : Nat) (v : Word) : State :=
  s.setSxC i { s.sxC i with cmds := Tab.set none (s.sxC i).cmds ch (some (q, v)) }

/-- Quality and VALUE that a command record gives channel `ch` of carrier `i`: the previous command with LATE where the
rules do not allow it, or it did not come in time (`ok`) (R244), and the memory of it. -/
def State.sxCommand (s : State) (i ch : Nat) (ok : Bool) (r : W64) : State × Nat × Word :=
  if ok && sxAllows ((s.carCfg i).digital.contains ch) r then (s.sxKeep i ch (recQ r) (recVal r), recQ r, recVal r)
  else (s, s.sxPrev i ch)

/-- The carrier channel that a point commands: carrier and channel. -/
def State.carOf (s : State) (point : Nat) : Option (Nat × Nat) :=
  s.img.sxCar.findSome? fun c => (c.outPts.findIdx? (· == point)).map fun k => (c.i.val, k)

/-- The IMMEDIATE frame of a fast loop (R250). -/
def State.sxImmediate (s : State) (i ch : Nat) (r : W64) (cc : Instant) : State :=
  if s.sxMay then
    let x := s.sxCommand i ch true r
    let w : W64 := 0
    let w := putBits w 63 59 (i % 32)
    let w := putBits w 58 50 ch
    let w := putBits w 39 32 x.2.1
    let w := putBits w 31 0 x.2.2.toNat
    x.1.sxSend (i / 32) cc 0 4 [w]
  else s

/-! ## Immediate outputs and shadow commands -/

/-- The universal or digital channel whose command record is `point`. -/
def State.chanOf (s : State) (point : Nat) : Option Chan :=
  match s.img.uc.find? (fun c => decide (6 ≤ bits c.cfg 31 28) && c.cmd == point) with
  | some c => some (.uni c.ch)
  | none => (s.img.dc.find? (fun c => bits c.cfg 31 28 == 3 && c.cmd == point)).map fun c => Chan.dig c.ch

/-- The immediate output that `point` commands is driven with record `r` (R102, R183, R205, R250). A shell that does not
answer keeps the message in its channel. -/
def State.driveImmediate (s : State) (point : Nat) (r : W64) (cc : Instant) : State :=
  match s.chanOf point with
  | some (.uni n) =>
    if s.alive (8 + n.val / 8) then ((s.setFlag Fld.UC_STAT_UNASSIGNED false n.val).ucTake n.val r).emit (.immediate point (recVal r) cc)
    else s.push (64 + (8 + n.val / 8)) (.immediate point r cc)
  | some (.dig m) =>
    if s.alive (12 + m.val / 8) then (((s.setFlag Fld.DC_STAT_UNASSIGNED false m.val).dcTake m.val r).turnsEnd (m.val / 8)).emit
        (.immediate point (recVal r) cc)
    else s.push (64 + (12 + m.val / 8)) (.immediate point r cc)
  | none =>
    match s.carOf point with
    | some (i, ch) => if s.alive 6 then s.sxImmediate i ch r cc else s.push (64 + 6) (.immediate point r cc)
    | none => s

/-- The shadow command of the channel that a reference names as its command (R195, R216, R321); of a carrier channel, its
command in the frames that passed (R310). -/
def State.shadowOf (s : State) (ref : Nat) : Option F32 :=
  match s.chanOf (ref % 262144) with
  | some (.uni n) => (s.uc n.val).shadow
  | some (.dig m) => (s.dc m.val).shadow.map fun b => if b then 0x3F800000#32 else 0#32
  | none =>
    match s.carOf (ref % 262144) with
    | some (i, ch) => (Tab.get none (s.sxC i).cmds ch).map Prod.snd
    | none => none

end Sys2Proof.Machine
end

