-- ==== Sys2Proof/Machine/Can.lean ====
section
/-! DEFINITION. The CAN FD ports (12 R275 to R293). -/

namespace Sys2Proof.Machine

/-! ## Message objects (R279, R280) -/

def State.canObj (s : State) (p o : Nat) : CanObj := Tab.get {} s.cn.objs (128 * p + o)
def State.setCanObj (s : State) (p o : Nat) (x : CanObj) : State :=
  { s with cn := { s.cn with objs := Tab.set {} s.cn.objs (128 * p + o) x } }

def CanObj.id (x : CanObj) : Nat := bits x.hdr 28 0
def CanObj.en (x : CanObj) : Bool := bitAt x.hdr 34
def CanObj.pend (x : CanObj) : Bool := bitAt x.hdr 36
def CanObj.send (x : CanObj) : Bool := bitAt x.hdr 43
def CanObj.dlc (x : CanObj) : Nat := bits x.hdr 47 44

/-- A header field set. -/
def CanObj.put (x : CanObj) (hi lo v : Nat) : CanObj := { x with hdr := putBits x.hdr hi lo v }

/-- PENDING cleared at the end of an attempt: nothing is left of what came before. -/
def CanObj.unpend (x : CanObj) : CanObj := { x.put 36 36 0 with old := [] }

/-- A request withdrawn: its frame may be on the bus already, and completes then (R283, R291). -/
def CanObj.withdraw (x : CanObj) : CanObj :=
  if x.pend then { x.put 36 36 0 with old := (x.dlc, x.data) :: x.old } else x

/-- The rank of an object in arbitration, the lowest first: the 11 bits of a base identifier or the first 11 of an extended one,
a base identifier before an extended one, then the rest (R284). -/
def CanObj.rank (x : CanObj) : Nat :=
  if bitAt x.hdr 42 then bits x.hdr 28 18 * 524288 + 262144 + bits x.hdr 17 0 else bits x.hdr 10 0 * 524288

/-- Data bytes of a DLC, in Classical CAN and in CAN FD. -/
def dlcLen (fd : Bool) (dlc : Nat) : Nat :=
  if dlc ≤ 8 then dlc
  else if !fd then 8
  else match dlc with
    | 9 => 12
    | 10 => 16
    | 11 => 20
    | 12 => 24
    | 13 => 32
    | 14 => 48
    | _ => 64

/-- Port `p` is configured and its island runs. -/
def State.canOn (s : State) (p : Nat) : Bool := s.flag Fld.CN_CFG_EN p && s.alive 7 && !s.flag Fld.RST_POWER_DORMANT

/-- The port listens only. -/
def State.canListens (s : State) (p : Nat) : Bool := s.flag Fld.CN_STAT_LISTEN p

/-! ## Events (R292) -/

/-- An event of the port's table: its record and the port's source. -/
def State.canNote (s : State) (p code : Nat) (o : Option Nat := none) : State :=
  (s.note 7 code (p :: o.toList)).ev (114 + p)

/-- An error or event of kind `k` shown in CN_PROT. -/
def State.canProt (s : State) (p k : Nat) : State := (s.setFld Fld.CN_PROT_LAST k p).bump Fld.CN_PROT_ERRORS p

/-- The fault confinement state follows the counters (R286); listen-only ports keep them at 0 (R289). -/
def State.canConfine (s : State) (p : Nat) : State :=
  let fc := s.fld Fld.CN_STAT_FC p
  if 2 ≤ fc then s
  else
    let tec := s.fld Fld.CN_STAT_TEC p
    let new := if 256 ≤ tec then 2 else if 128 ≤ tec ∨ 128 ≤ s.fld Fld.CN_STAT_REC p then 1 else 0
    if new = fc then s
    else
      let s := s.setFld Fld.CN_STAT_FC new p
      match new with
      | 0 => s.canNote p 0xA002
      | 1 => s.canNote p 0xA001
      | _ => (s.bump Fld.CN_ERR_BUS_OFF p).canNote p 0xA003

/-- Counters set, where the port takes part in the bus. -/
def State.canCount (s : State) (p tec rec : Nat) : State :=
  if s.canListens p then s
  else ((s.setFld Fld.CN_STAT_TEC (sat 511 tec) p).setFld Fld.CN_STAT_REC (sat 255 rec) p).canConfine p

/-- ALONE set or cleared: each change leaves a record (R288). -/
def State.canAlone (s : State) (p : Nat) (b : Bool) : State :=
  if s.flag Fld.CN_STAT_ALONE p = b then s
  else (s.setFlag Fld.CN_STAT_ALONE b p).canNote p (if b then 0xA004 else 0xA005)

/-- Error-active with both counters at 0. -/
def State.canFresh (s : State) (p : Nat) : State :=
  ((s.setFld Fld.CN_STAT_FC 0 p).setFld Fld.CN_STAT_TEC 0 p).setFld Fld.CN_STAT_REC 0 p

/-- A port that was not error-active made so, with its record (R292). -/
def State.canCalm (s : State) (p : Nat) : State :=
  if s.fld Fld.CN_STAT_FC p = 0 then s.canFresh p else (s.canFresh p).canNote p 0xA002

/-! ## The frame on the bus (R284, R291) -/

/-- The next number of port `p`'s events. -/
def State.canNum (s : State) (p : Nat) : Nat := Tab.get 0 s.cn.count p + 1

/-- A frame on the bus of port `p` ended: what is requested from now on was not there when it began. -/
def State.canEnd (s : State) (p : Nat) : State :=
  let n := s.canNum p
  { s with cn := { s.cn with
    count := Tab.set 0 s.cn.count p n, ended := Tab.set 0 s.cn.ended p n, finish := Tab.set false s.cn.finish p false } }

/-! ## Receiving (R278, R281) -/

/-- A frame of another node came in whole: counters, ACK_RUN and ALONE. -/
def State.canHeard (s : State) (p : Nat) : State :=
  let rec_ := s.fld Fld.CN_STAT_REC p
  let s := s.canEnd p
  let s := (s.setFld Fld.CN_STAT_ACK_RUN 0 p).canAlone p false
  if 127 < rec_ then
    (s.canCount p (s.fld Fld.CN_STAT_TEC p) (119 + Config.canRecReturn s.free % 9)).draw
  else s.canCount p (s.fld Fld.CN_STAT_TEC p) (rec_ - 1)

/-- The enabled object of a port with an identifier and IDE. -/
def State.canMatch (s : State) (p id : Nat) (ide : Bool) : Option Nat :=
  (List.range 128).find? fun o =>
    let x := s.canObj p o
    x.en && x.id == id && bitAt x.hdr 42 == ide

/-- The instant at which a frame becomes valid, which is that of the command, in the port's selected time base (R84, R282).
(DEDUCED, log entry 75) -/
def State.canTs (s : State) (p : Nat) : Instant := s.timeOf (s.fld Fld.CN_CFG_TB p)

/-- A frame stored in receive object `o`. -/
def State.canStore (s : State) (p o : Nat) (f : CanFrame) : State :=
  let x := s.canObj p o
  let lost := bitAt x.hdr 38
  let n := dlcLen f.fdf f.dlc
  let h := putBits x.hdr 127 64 (s.canTs p).toNat
  let h := putBits h 47 44 f.dlc
  let h := putBit (putBit h 40 f.brs) 39 f.esi
  let h := putBit (putBit h 38 true) 37 (lost || bitAt h 37)
  let s := s.setCanObj p o { hdr := h, data := wordOf 512 (f.data.take n) }
  let s := if lost then s.bump Fld.CN_ERR_LOST p else s
  if bitAt x.hdr 41 != f.fdf then s.canProt p 8 else s

/-- CAN_FRAME_RECEIVED: stored in its object, or counted unmatched. To a port whose CAN FD format is not enabled an FD frame is a
protocol exception (R278, R293). -/
def execCanFrameReceived (p : Fin 4) (f : CanFrame) (s : State) : Res :=
  if !s.canOn p.val || decide (2 ≤ s.fld Fld.CN_STAT_FC p.val) then .next s
  else if f.fdf && !s.flag Fld.CN_CFG_FD p.val then .next (s.canProt p.val 7)
  else
    let s := s.canHeard p.val
    match s.canMatch p.val f.id.toNat f.ide with
    | some o =>
      if (s.canObj p.val o).send then .next (s.bump Fld.CN_ERR_UNMATCHED p.val) else .next (s.canStore p.val o f)
    | none => .next (s.bump Fld.CN_ERR_UNMATCHED p.val)

/-- CAN_REMOTE_FRAME (R278). -/
def execCanRemoteFrame (p : Fin 4) (s : State) : Res :=
  if !s.canOn p.val || decide (2 ≤ s.fld Fld.CN_STAT_FC p.val) then .next s
  else .next ((s.canHeard p.val).bump Fld.CN_ERR_UNMATCHED p.val)

/-- CAN_PROTOCOL_EXCEPTION: bus integration; no error counter changes (R278). -/
def execCanProtocolException (p : Fin 4) (s : State) : Res :=
  if s.canOn p.val && decide (s.fld Fld.CN_STAT_FC p.val < 2) then .next (s.canProt p.val 7) else .next s

/-! ## Sending (R284 to R287) -/

/-- A send object of port `p` that its controller can offer: CAN FD only where the port has it enabled (R293). -/
def State.canOffers (s : State) (p o : Nat) : Bool :=
  let x := s.canObj p o
  x.en && x.send && (s.flag Fld.CN_CFG_FD p || !bitAt x.hdr 41)

/-- Object `k` stands before object `o` in arbitration: of lower rank, and pending since before both the request of `o` and the
last end of a frame, so that no frame of `o` began (R284). -/
def State.canBefore (s : State) (p o k : Nat) : Bool :=
  let x := s.canObj p o
  let y := s.canObj p k
  s.canOffers p k && y.pend && decide (y.rank < x.rank) && (decide (y.at_ < x.at_) || decide (y.at_ ≤ Tab.get 0 s.cn.ended p))

/-- The port may begin frames, or a frame was on the bus as authority left (R289 to R291). -/
def State.canMay (s : State) (p : Nat) : Bool :=
  (s.flag Fld.CN_STAT_TX_EN p && !s.canListens p) || Tab.get false s.cn.finish p

/-- A frame of send object `o` can be on the bus of port `p`: requested, and none before it (R284). -/
def State.canSends (s : State) (p o : Nat) : Bool :=
  let x := s.canObj p o
  s.canOn p && decide (s.fld Fld.CN_STAT_FC p < 2) && s.canMay p && s.canOffers p o && (x.pend || !x.old.isEmpty) &&
  !((List.range 128).any fun k => s.canBefore p o k)

/-- DLC and data of the frame on the bus: those of the request, where `n` SENDs came after its arbitration began (R284); a request
withdrawn since stands first in `old`. -/
def CanObj.onBus (x : CanObj) (n : Nat) : Nat × BitVec 512 :=
  if x.pend then
    if n = 0 then (x.dlc, x.data) else (x.old[n - 1]?).getD (x.dlc, x.data)
  else (x.old[n]?).getD (x.dlc, x.data)

/-- CAN_TX_SUCCESS: where `renewed` SENDs came after the frame's arbitration began, their data stay pending (R284). -/
def execCanTxSuccess (p : Fin 4) (o : Fin 128) (renewed : Nat) (s : State) : Res :=
  if !s.canSends p.val o.val then .next s
  else
    let x := s.canObj p.val o.val
    let f := x.onBus renewed
    let bytes := bytesOf f.2 (dlcLen (bitAt x.hdr 41) f.1)
    let y := ((x.put 127 64 (s.canTs p.val).toNat).put 55 48 0).put 35 35 0
    let y := if renewed = 0 then y.unpend else { y with old := [] }
    let s := ((s.setCanObj p.val o.val y).emit (.can p.val o.val x.id bytes)).canEnd p.val
    let s := (s.setFld Fld.CN_STAT_ACK_RUN 0 p.val).canAlone p.val false
    .next (s.canCount p.val (s.fld Fld.CN_STAT_TEC p.val - 1) (s.fld Fld.CN_STAT_REC p.val))

/-- A request given up: PENDING clears, UNACK is set, counted and recorded (R285). -/
def State.canGiveUp (s : State) (p o : Nat) : State :=
  let x := (s.canObj p o).unpend.put 35 35 1
  ((s.setCanObj p o x).bump Fld.CN_ERR_UNACK p).canNote p 0xA006 (some o)

/-- CAN_TX_ACK_ERROR: an attempt that ends in an acknowledgement error (R285, R287, R288). Of a port that listens it was the last
(R291). -/
def execCanTxAckError (p : Fin 4) (o : Fin 128) (dominantSeen : Bool) (s : State) : Res :=
  if !s.canSends p.val o.val then .next s
  else
    let x := s.canObj p.val o.val
    let n := satAdd 255 (bits x.hdr 55 48) 1
    let s := ((s.setCanObj p.val o.val { x.put 55 48 n with old := [] }).canProt p.val 3).canEnd p.val
    let s := s.bump Fld.CN_STAT_ACK_RUN p.val
    let s := if 3 ≤ s.fld Fld.CN_STAT_ACK_RUN p.val then s.canAlone p.val true else s
    let limit := bits x.hdr 63 56
    let s := if limit ≠ 0 ∧ limit ≤ n ∧ x.pend then s.canGiveUp p.val o.val else s
    let keep := s.fld Fld.CN_STAT_FC p.val == 1 && !dominantSeen
    .next (s.canCount p.val (s.fld Fld.CN_STAT_TEC p.val + (if keep then 0 else 8)) (s.fld Fld.CN_STAT_REC p.val))

/-- No object of port `p` keeps what its requests replaced: the frame on the bus failed. -/
def State.canForget (s : State) (p : Nat) : State :=
  (List.range 128).foldl (fun s o =>
    if (s.canObj p o).old.isEmpty then s else s.setCanObj p o { s.canObj p o with old := [] }) s

/-- An attempt of port `p` that ended in another error than acknowledgement: the run of those is broken (R285, R288). -/
def State.canBroken (s : State) (p : Nat) : State := ((s.canForget p).canEnd p).setFld Fld.CN_STAT_ACK_RUN 0 p

/-- CAN_BUS_ERROR: stuff, form, bit or CRC error, under the fault confinement of ISO 11898-1: a transmitter counts 8, but nothing for
a stuff error during arbitration (`severe` clear); a receiver 1, or 8 where it was the first to show the error.
(PRESUMED, log entry 130) -/
def execCanBusError (p : Fin 4) (kind : Fin 16) (transmitting severe : Bool) (s : State) : Res :=
  if !s.canOn p.val || decide (2 ≤ s.fld Fld.CN_STAT_FC p.val) || !(kind == 1 || kind == 2 || kind == 4 || kind == 5 || kind == 6)
    || (transmitting && !s.canMay p.val)
  then .next s
  else
    let s := s.canProt p.val kind.val
    let s := if transmitting then s.canBroken p.val else s
    let tec := s.fld Fld.CN_STAT_TEC p.val
    let rec_ := s.fld Fld.CN_STAT_REC p.val
    .next (if transmitting then s.canCount p.val (tec + (if kind = 1 ∧ severe = false then 0 else 8)) rec_
      else s.canCount p.val tec (rec_ + (if severe then 8 else 1)))

/-- CAN_ARBITRATION_LOST: no attempt; the request stays pending, and the next attempt carries its newest data (R284). -/
def execCanArbitrationLost (p : Fin 4) (o : Fin 128) (s : State) : Res :=
  .next (if s.canSends p.val o.val then (s.setCanObj p.val o.val { s.canObj p.val o.val with old := [] }).canEnd p.val else s)

/-- Recovery ordered: ignored while the port is not bus-off (R286). -/
def State.canRecover (s : State) (p : Nat) : State :=
  if s.fld Fld.CN_STAT_FC p = 2 then (s.setFld Fld.CN_STAT_FC 3 p).canNote p 0xA007 else s

/-- CAN_RECOVER: CN_CTL[p].RECOVER. -/
def execCanRecover (p : Fin 4) (s : State) : Res := .next (s.canRecover p.val)

/-- CAN_RECOVERY_DONE: error-active with both counters at 0. -/
def execCanRecoveryDone (p : Fin 4) (s : State) : Res :=
  if s.fld Fld.CN_STAT_FC p.val = 3 then .next ((s.canFresh p.val).canNote p.val 0xA008) else .next s

/-! ## Object commands (R283) -/

/-- The window of a writer. -/
def State.canWin (s : State) (w : Nat) : CanObj := if w = 0 then s.cn.win0 else s.cn.win1
def State.setCanWin (s : State) (w : Nat) (x : CanObj) : State :=
  if w = 0 then { s with cn := { s.cn with win0 := x } } else { s with cn := { s.cn with win1 := x } }

def State.canRes (s : State) (w code : Nat) : State := s.setFld Fld.CN_OBJRES_CODE code w

/-- The code that turns an object command away; 0 where none does. -/
def State.canCode (s : State) (w cmd p o : Nat) : Nat :=
  let x := s.canObj p o
  if cmd = 0 ∨ 4 ≤ cmd then 2
  else if !x.en || !s.flag Fld.CN_CFG_EN p then 1
  else if cmd = 1 then 0
  else if !x.send then 3
  else if s.canListens p || !s.flag Fld.CN_STAT_TX_EN p then 4
  else if cmd = 2 ∧ !bitAt x.hdr 41 ∧ 8 < (s.canWin w).dlc then 5
  else 0

/-- SNAP: the object copied whole into the window, then NEW and LOST cleared. -/
def State.canSnap (s : State) (w p o : Nat) : State :=
  let x := s.canObj p o
  ((s.setCanWin w { x with old := [], at_ := 0 }).setCanObj p o ((x.put 38 38 0).put 37 37 0)).canRes w 0

/-- SEND: DLC and data from the window; a request still pending is replaced. -/
def State.canSend (s : State) (w p o : Nat) : State :=
  let x := s.canObj p o
  let win := s.canWin w
  let y := { x with data := win.data }.put 47 44 win.dlc
  let y := ((y.put 36 36 1).put 35 35 0).put 55 48 0
  if x.pend then
    ((s.setCanObj p o { y.put 37 37 1 with old := (x.dlc, x.data) :: x.old }).bump Fld.CN_ERR_LOST p).canRes w 7
  else
    let n := s.canNum p
    let s := { s with cn := { s.cn with count := Tab.set 0 s.cn.count p n } }
    (s.setCanObj p o { y with at_ := n }).canRes w 0

/-- CANCEL: PENDING cleared; a frame already on the bus completes. -/
def State.canCancel (s : State) (w p o : Nat) : State := (s.setCanObj p o (s.canObj p o).withdraw).canRes w 0

/-- An object command carried out or answered with its code. -/
def State.canCommand (s : State) (w cmd p o : Nat) : State :=
  let c := s.canCode w cmd p o
  if c ≠ 0 then s.canRes w c
  else match cmd with
    | 1 => s.canSnap w p o
    | 2 => s.canSend w p o
    | _ => s.canCancel w p o

/-- CAN_SNAP. -/
def execCanSnap (w : Writer) (p : Fin 4) (o : Fin 128) (s : State) : Res := .next (s.canCommand (wIdx w) 1 p.val o.val)
/-- CAN_SEND. -/
def execCanSend (w : Writer) (p : Fin 4) (o : Fin 128) (s : State) : Res := .next (s.canCommand (wIdx w) 2 p.val o.val)
/-- CAN_CANCEL. -/
def execCanCancel (w : Writer) (p : Fin 4) (o : Fin 128) (s : State) : Res := .next (s.canCommand (wIdx w) 3 p.val o.val)

/-! ## Listen-only and the binary (R289 to R291) -/

/-- Every pending request of a port cleared, and the data of its send objects (R291); a frame on the bus may yet complete. -/
def State.canDrop (s : State) (p : Nat) : State :=
  let s := { s with cn := { s.cn with finish := Tab.set false s.cn.finish p (s.canMay p) } }
  (List.range 128).foldl (fun s o =>
    let x := s.canObj p o
    if x.send then s.setCanObj p o { x.withdraw.put 47 44 0 with data := 0 } else s) s

/-- The CAN island comes to show authority or ceases to: transmission follows at once; listen-only ends at the next bus
idle. (DEDUCED, log entry 76) -/
def State.canAuthority (s : State) (on : Bool) : State :=
  (List.range 4).foldl (fun s p =>
    if on then s.setFlag Fld.CN_STAT_TX_EN true p
    else (((s.canDrop p).setFlag Fld.CN_STAT_TX_EN false p).setFlag Fld.CN_STAT_LISTEN true p).canCalm p) s

/-- CAN_LEAVE_LISTEN_ONLY (R291). -/
def execCanLeaveListenOnly (p : Fin 4) (s : State) : Res :=
  if s.canOn p.val && s.flag Fld.CN_STAT_TX_EN p.val && !s.flag Fld.CN_CFG_LISTEN p.val && s.canListens p.val then
    .next (((s.canEnd p.val).setFlag Fld.CN_STAT_LISTEN false p.val).canCalm p.val)
  else .next s

/-- Time quanta of a nominal bit, and of a data bit (R276, R277). -/
def canQuanta : Nat → Nat
  | 0 => 640
  | 1 => 320
  | 2 => 160
  | _ => 80

def canDataQuanta (nbr : Nat) : Nat → Nat
  | 0 => canQuanta nbr
  | 1 => 80
  | 2 => 40
  | 3 => 20
  | 4 => 16
  | _ => 10

/-- CN_CFG as the supervisor writes it: transmitter delay compensation is on at data rates of 2 Mbit/s and above (R277). -/
def canCfgWord (w : Word) : Word := putBit (w &&& 0xFFFF0000) 28 (decide (2 ≤ bits w 23 20))

/-- An object's header as the image declares it; every other field at its reset (R280). -/
def canHeader (h : BitVec 128) : BitVec 128 := h &&& 0xff00ff041fffffff

/-- CN_TIMING: sample points that the image leaves absent lie at the quanta nearest to 80 % and 75 % of the bit. Of ten quanta
two are as near to 75 %: which of them is a free value (R277). -/
def State.canTiming (s : State) (cfg t : Word) : Word :=
  let n := canQuanta (bits cfg 27 24)
  let d := canDataQuanta (bits cfg 27 24) (bits cfg 23 20)
  let half := if d % 4 = 2 then Config.measured 170 s.free % 2 else 0
  let t := t &&& 0x03FF03FF
  let t := if bits t 25 16 = 0 then putBits t 25 16 (4 * n / 5) else t
  if bits t 9 0 = 0 then putBits t 9 0 (3 * d / 4 + half) else t

/-- Ports and objects as the plant image declares them (R279, R293). -/
def State.canLoad (s : State) : State :=
  let s := s.img.cnPort.foldl (fun s c => (s.setReg .CN_CFG c.p.val (canCfgWord c.cfg)).setReg .CN_TIMING c.p.val (s.canTiming c.cfg c.timing)) s
  let s := { s with cn := {} }
  s.img.cnObj.foldl (fun s c => s.setCanObj c.p.val c.o.val { hdr := canHeader c.hdr }) s

/-- The restarted CAN island: objects cleared, ports error-active (R360). -/
def State.canRestart (s : State) : State :=
  let s := { s with cn := { s.cn with objs := [], count := [], ended := [], finish := [] } }
  let s := s.img.cnObj.foldl (fun s c => s.setCanObj c.p.val c.o.val { hdr := canHeader c.hdr }) s
  (List.range 4).foldl (fun s p =>
    ((s.canCalm p).setFld Fld.CN_STAT_ACK_RUN 0 p).canAlone p false) s

end Sys2Proof.Machine
end

