-- ==== Sys2Proof/Machine/Table.lean ====
section
/-! DEFINITION. The launch table as it is read (R91 to R94): groups, entries, the instants they fix, and the tasks they run. -/

namespace Sys2Proof.Machine

/-! ## Groups and entries -/

/-- The descriptor of group `g` (R93). -/
def State.group (s : State) (g : Nat) : Option (BitVec 128) := s.img.groups.find? fun d => bits d 15 8 == g

def grpClass (d : BitVec 128) : Nat := bits d 1 0
def grpS (d : BitVec 128) : Nat := bits d 63 32
def grpC (d : BitVec 128) : Nat := bits d 95 64
def grpK (d : BitVec 128) : Nat := bits d 127 96

/-- Launch entry `e` (R94). -/
def State.entry (s : State) (e : Nat) : W64 := listGet 0 s.img.entries e

def entAction (w : W64) : Nat := bits w 63 60
def entGroup (w : W64) : Nat := bits w 55 48
def entCount (w : W64) : Nat := bits w 47 32
def entTarget (w : W64) : Nat := bits w 31 0

/-- The targets of an entry, in order. -/
def entTargets (w : W64) : List Nat := (List.range (entCount w)).map fun i => entTarget w + i

/-- The group that owns entry `e`. -/
def State.entGrp (s : State) (e : Nat) : Option (BitVec 128) := s.group (entGroup (s.entry e))

/-- D of a RAW capture channel, or its interval in ns (R161, R221). (DEDUCED, log entry 97) -/
def gyParam (g : GyChCfg) : Nat := g.param.getD (if g.mode = 0 then 1 else 10000000)

/-! ## Instants -/

/-- The C of the cycle whose S is given; in a fast group, the next S (R92, R141). -/
def grpCOfS (d : BitVec 128) (t : Instant) : Instant :=
  if grpClass d = 0 then t.plus 50000 else t.plus (grpC d - grpS d)

/-- The K of the cycle whose C is given. -/
def grpKOfC (d : BitVec 128) (c : Instant) : Instant := c.plus (grpK d - grpC d)

/-- The S of the cycle whose C is given. -/
def grpSOfC (d : BitVec 128) (c : Instant) : Instant := c - BitVec.ofNat 64 (grpC d - grpS d)


/-- The earliest C of a slow group strictly after `t`, or the next slow boundary where there is none (R191). -/
def State.nextSlowC (s : State) (t : Instant) : Instant :=
  let p := Config.period 2
  let cs := (s.img.groups.filter fun d => grpClass d == 2).map fun d => nextAt p (grpC d) (t.plus 1)
  match cs with
  | [] => nextAt p 0 (t.plus 1)
  | c :: rest => rest.foldl (fun a b => if Instant.before b a then b else a) c

/-- The offset of the phase point at which an action runs: S, C or K of its group (R94). A compute entry of a fast group
counts at S (R92). -/
def entPhase (d : BitVec 128) (a : Nat) : Nat :=
  if a = 1 ∨ a = 2 ∨ grpClass d = 0 then grpS d else if a = 3 ∨ a = 4 then grpC d else grpK d

/-- `t` is the instant of an action in some cycle: n × P + offset (R91, R92). -/
def onGrid (d : BitVec 128) (a : Nat) (t : Instant) : Bool :=
  t.toNat % Config.period (grpClass d) == entPhase d a

/-- Launch entries of class `c` run: PT is set and launching has begun (R97). -/
def State.launching (s : State) (c : Nat) : Bool := s.mt.ptSet && s.running c

/-- The module computes, commits and publishes: it is active and its authority is shown (R310). -/
def State.acting (s : State) : Bool := s.role == 1

/-- Where an entry falls against the resume instant of a takeover, a hand-over instant, and the boundary from which its class
runs after the first commit or a re-epoch (R52, R79, R319, R320, R322). Sampling and fast groups are not bound by the
resume instant. -/
def State.runsAt (s : State) (d : BitVec 128) (a : Nat) (t : Instant) : Bool :=
  (a == 1 || a == 2 || grpClass d == 0 || (match s.ln.resume with
    | some r => !Instant.before t r
    | none => true)) &&
  (match s.ln.stopAt with
   | some h => Instant.before t h
   | none => true) &&
  (match Tab.get none s.ln.starts (grpClass d) with
   | some b => !Instant.before t b
   | none => true)

/-- Instant `t` has come. -/
def State.reached (s : State) (t : Instant) : Bool := Instant.atOrBefore t s.pt

/-- Entry `e` has not run at `t` yet: no cycle runs twice (R76). -/
def State.unrun (s : State) (e : Nat) (t : Instant) : Bool :=
  match Tab.get none s.ln.ran e with
  | some u => Instant.before u t
  | none => true

/-- Entry `e` has run, or has been counted missed, at `t`. -/
def State.ranAt (s : State) (e : Nat) (t : Instant) : State :=
  { s with ln := { s.ln with ran := Tab.set none s.ln.ran e (some t) } }

/-- Entry `e` of action `a` and group `d` comes to run at `t`: launching is under way, `t` is one of its instants, it has come,
and the entry has not run at it (R76, R91, R96, R97). -/
def State.runsNow (s : State) (e : Nat) (d : BitVec 128) (a : Nat) (t : Instant) : Bool :=
  entAction (s.entry e) == a && s.launching (grpClass d) && s.runsAt d a t && onGrid d a t && s.reached t && s.unrun e t

/-- The boundary of the first launched cycle: the first standard boundary at least 1 ms after the role (R52). -/
def State.firstCycle (s : State) : Instant := nextAt 1000000 0 (s.boot.roleAt.plus 1000000)

/-- Meridian may hand over an entry of class `c` for instant `t`: launching is under way, or begins by `t` (R97). -/
def State.handsOn (s : State) (c : Nat) (t : Instant) : Bool :=
  s.launching c || (s.mt.ptSet && s.boot.roleTaken && !s.boot.committed && s.starting && !Instant.before t s.firstCycle)

/-- Entry `e` has not been handed over for `t` or a later instant. -/
def State.unhanded (s : State) (e : Nat) (t : Instant) : Bool :=
  match Tab.get none s.ln.handed e with
  | some u => Instant.before u t
  | none => true

/-- Entry `e` reached its island through the channel of code `c` in time for `t` (R358). -/
def State.isDue (s : State) (c e : Nat) (t : Instant) : Bool := s.ln.due.contains (c, e, t)

/-- It did. -/
def State.putDue (s : State) (c e : Nat) (t : Instant) : State :=
  { s with ln := { s.ln with due := s.ln.due ++ [(c, e, t)] } }

/-! ## Tasks (R104, R376) -/

/-- The points that task `k` produces. -/
def State.taskPoints (s : State) (k : Nat) : List Nat := (s.img.taskPts.filter fun p => p.1 == k).map Prod.snd

def State.task (s : State) (k : Nat) : Task := Tab.get {} s.ln.tasks k
def State.setTask (s : State) (k : Nat) (t : Task) : State := { s with ln := { s.ln with tasks := Tab.set {} s.ln.tasks k t } }

/-- A task that misses its K: its points LATE, counted in its class (R104). -/
def State.taskMiss (s : State) (k cls : Nat) : State := (s.lates (s.taskPoints k)).bump Fld.LN_OVERRUN_TASK cls

/-- The class of the group that runs task `k`. -/
def State.taskClass (s : State) (k : Nat) : Nat :=
  match s.img.entries.find? (fun w => entAction w == 4 && entTarget w == k) with
  | some w => ((s.group (entGroup w)).map grpClass).getD 1
  | none => 1

/-- The K of a task that did not make it: counted once (R104). -/
def State.taskLate (s : State) (k : Nat) : State :=
  let t := s.task k
  if t.counted = some t.k then s
  else (s.setTask k { t with late := true, counted := some t.k }).taskMiss k (s.taskClass k)

/-- The tasks whose K has come at `t` without their results. -/
def State.tasksOver (s : State) (t : Instant) : List Nat :=
  (s.ln.tasks.filter fun x => (x.2.running || x.2.skipped) && Instant.atOrBefore x.2.k t).map Prod.fst

/-- It has been acted on. -/
def State.takeDue (s : State) (c e : Nat) (t : Instant) : State :=
  { s with ln := { s.ln with due := s.ln.due.filter fun x => !(x == (c, e, t)) } }

end Sys2Proof.Machine
end

