-- ==== Sys2Proof/Machine/NetCore.lean ====
section
/-! DEFINITION. Egress at a plant port (R264 to R266): gates, frames that wait for theirs, and what leaves. -/

namespace Sys2Proof.Machine

/-- Port `p` (1 or 2) is linked. -/
def State.linkUp (s : State) (p : Nat) : Bool := s.flag Fld.PN_PORT_LINK p

/-- The gate of traffic class `c` at port `p`: classes 5 and 7 are open at all times; the others as the gate control list
left them. (DEDUCED, log entry 54) -/
def State.gateOpen (s : State) (p c : Nat) : Bool :=
  c == 5 || c == 7 || bitAt (Tab.get (0x1F : BitVec 8) s.pn.gates p) c

/-- A publication frame on the wire: the four words of its header, the word of VALID_AT first, then its records.
(DEDUCED, log entry 100) -/
def streamBytes (hdr : BitVec 256) (recs : List W64) : List Byte := wordsWire ((unitsOf hdr 4).reverse ++ recs)

/-- A number of `n` bytes, most significant byte first. -/
def beBytes (n v : Nat) : List Byte := (bytesOf (BitVec.ofNat (8 * n) v) n).reverse

/-- The time base of port `p`: its gate schedule and the timestamps of its streams lie in it (R84). -/
def State.portTime (s : State) (p : Nat) : Instant := s.timeOf (s.fld Fld.PN_PORT_TB p)

/-- The bridge's tables are loaded for port `p`, and it has a link: frames may leave there (R261). -/
def State.portOpen (s : State) (p : Nat) : Bool := s.flag Fld.PN_PORT_FWD p && s.linkUp p

/-- A control frame from destination address to frame check sequence: VLAN tag with PCP 7, EtherType of control frames (R263,
R264). -/
def controlFrame (dest vlan : Nat) (payload : List Byte) : List Byte :=
  let bs := beBytes 6 dest ++ beBytes 6 Config.moduleAddress.toNat ++ beBytes 2 0x8100 ++
    beBytes 2 (7 * 8192 + vlan % 4096) ++ beBytes 2 0x88B6 ++ payload
  bs ++ bytesOf (crc32 bs) 4

/-- A stream frame from destination address to frame check sequence (R263): VLAN tag with the PCP of streams, redundancy tag
with the low bits of SEQUENCE, EtherType of publication frames, payload. -/
def streamFrame (vlan : Nat) (hdr : BitVec 256) (recs : List W64) : List Byte :=
  let bs := beBytes 3 0x035A39 ++ beBytes 3 ((bits hdr 63 48 * 2048 + bits hdr 47 36) % 16777216) ++ beBytes 6 Config.moduleAddress.toNat ++
    beBytes 2 0x8100 ++ beBytes 2 (6 * 8192 + vlan % 4096) ++ beBytes 2 0xF1C1 ++ beBytes 2 0 ++ beBytes 2 (bits hdr 79 64) ++
    beBytes 2 0x88B5 ++ streamBytes hdr recs
  bs ++ bytesOf (crc32 bs) 4

/-- A frame leaves port `p`. -/
def State.netOut (s : State) (p : Nat) (f : NetWait) : State :=
  match f.own, f.fwd with
  | some o, _ => s.emit o
  | none, some g => s.emit (.forwarded p g)
  | none, none => s.emit (.stream p (streamFrame f.vlan f.hdr f.recs))

/-! ## Stream windows (R265, R266) -/

/-- The entries of the gate control list of port `p`. -/
def State.gatesOf (s : State) (p : Nat) : List GateEntry := (s.img.gcl.filter fun e => e.1 == p).map Prod.snd

/-- An entry is the one in force where no other has come since within the 1 ms cycle. -/
def gateNow (es : List GateEntry) (e : GateEntry) (off : Nat) : Bool :=
  let past := es.filter fun x => decide (x.offset ≤ off)
  let pool := if past.isEmpty then es else past
  pool.all (fun x => decide (x.offset ≤ e.offset)) && (past.isEmpty || decide (e.offset ≤ off))

/-- A place in the 1 ms cycle of the gate control lists. -/
def cyclePlace (t : Instant) : Nat := t.toNat % 1000000

/-- The ns from one place in the cycle to the next coming of another. -/
def cycleTo (off place : Nat) : Nat := (place + 1000000 - off) % 1000000

/-- The list has the stream gate open at a place in the cycle. -/
def streamOpen (es : List GateEntry) (off : Nat) : Bool := es.any fun e => bitAt e.gates 6 && gateNow es e off

/-- The stream window of a frame of K is over at `now`: the list opened the gate since K, and has it shut. -/
def windowGone (es : List GateEntry) (k now : Instant) : Bool :=
  let since := (now - k).toNat
  !streamOpen es (cyclePlace now) &&
  (streamOpen es (cyclePlace k) ||
    es.any fun e => bitAt e.gates 6 && decide (cycleTo (cyclePlace k) e.offset ≤ since))

/-- ns from `now` to the next entry that shuts the stream gate. -/
def windowLeft (es : List GateEntry) (now : Instant) : Option Nat :=
  match es.filter fun e => !bitAt e.gates 6 with
  | [] => none
  | c :: cs => some (cs.foldl (fun n e => min n (cycleTo (cyclePlace now) e.offset)) (cycleTo (cyclePlace now) c.offset))

/-- Bytes of a stream frame on the wire (R107, R263). -/
def NetWait.wire (f : NetWait) : Nat :=
  match f.fwd with
  | some (.stream _ _ _ len _ _ _) => len
  | _ => 80 + 8 * f.recs.length

/-- ns until the stream frames handed over before have left port `p`. -/
def State.wireWait (s : State) (p : Nat) : Nat :=
  let b := Tab.get 0 s.pn.busy p
  if Instant.before (s.portTime p) b then (b - s.portTime p).toNat else 0

/-- A stream frame handed over now starts before its window closes; else it is still queued then (R266). -/
def State.fitsWindow (s : State) (p : Nat) : Bool :=
  match windowLeft (s.gatesOf p) (s.portTime p) with
  | some n => decide (s.wireWait p < n)
  | none => true

/-- A stream frame leaves behind those before it, at 0.8 ns for each byte (R266). -/
def State.streamOut (s : State) (p : Nat) (f : NetWait) : State :=
  let till := (s.portTime p).plus (s.wireWait p + (4 * f.wire + 4) / 5)
  let s := s.netOut p f
  { s with pn := { s.pn with busy := Tab.set 0 s.pn.busy p till } }

/-- A frame waits for its gate at port `p`. -/
def State.netWait (s : State) (p : Nat) (f : NetWait) : State :=
  { s with pn := { s.pn with wait := Tab.set [] s.pn.wait p (Tab.get [] s.pn.wait p ++ [f]) } }

/-- A frame leaves where its gate is open and it starts in its window, else it waits. -/
def State.netTry (s : State) (p : Nat) (f : NetWait) : State :=
  if !s.gateOpen p f.cls then s.netWait p f
  else if f.cls ≠ 6 then s.netOut p f
  else if s.fitsWindow p then s.streamOut p f
  else s.netWait p f

/-- A publication whose window is over is never sent (R266). -/
def State.tooLateFor (s : State) (p : Nat) (f : NetWait) : Bool :=
  match f.k with
  | some k => s.flag Fld.PN_PORT_GATES p && !s.gateOpen p 6 && windowGone (s.gatesOf p) k (s.portTime p)
  | none => false

/-- A frame handed to port `p`; without a link, or with no tables loaded, it is lost. -/
def State.netSend (s : State) (p : Nat) (f : NetWait) : State :=
  if !s.portOpen p then s
  else if s.tooLateFor p f then s.bump Fld.PN_DROP_WINDOW p
  else s.netTry p f

/-- Gates of port `p` set: frames whose gate is open leave in the order in which they became ready; stream frames still queued
when their window closes are discarded and counted (R266). -/
def State.setGates (s : State) (p : Nat) (g : BitVec 8) : State :=
  let closing := s.gateOpen p 6 && !bitAt g 6
  let w := Tab.get [] s.pn.wait p
  let s := { s with pn := { s.pn with gates := Tab.set (0x1F : BitVec 8) s.pn.gates p g, wait := Tab.set [] s.pn.wait p [] } }
  let dead := if closing then (w.filter fun f => f.cls == 6).length else 0
  let keep := if closing then w.filter fun f => f.cls != 6 else w
  keep.foldl (fun s f => s.netTry p f) (s.bump Fld.PN_DROP_WINDOW p dead)

/-! ## The module's own service traffic (R264, R272) -/

/-- A frame of the service protocol leaves by the base's contact at once, or by a plant port in the class of the service VLAN,
through its gate. -/
def State.serviceOut (s : State) (via : Option (Fin 2)) (o : Output) : State :=
  match via with
  | none => s.emit o
  | some p =>
    match s.img.vlans.find? fun v => v.service with
    | some v => s.netSend (p.val + 1) { cls := v.pcp, own := some o }
    | none => s

def State.sess (s : State) (k : Nat) : Session := Tab.get {} s.pn.sess k

/-- The way by which a session's frames leave: none is the base's contact. -/
def State.sessVia (s : State) (k : Nat) : Option (Fin 2) := if (s.sess k).basePort then none else some (s.sess k).port

/-- A response in session `k`, by the way the session came. -/
def State.reply (s : State) (k : Nat) (id : Word) (type code : Nat) (body : List Byte) : State :=
  s.serviceOut (s.sessVia k) (svcOut k id type code body)

end Sys2Proof.Machine
end

