-- ==== Sys2Proof/Machine/Channels.lean ====
section
/-! DEFINITION. The own carrier: sampling (R168 to R178, R198 to R203), diagnostics (R182 to R187, R206, R211 to R214),
field supply (R207 to R209, R215) and the HART modem (R188 to R191). -/

namespace Sys2Proof.Machine

/-! ## Records and points of a channel -/

/-- A bit of a register field set, and whether it was clear. -/
def State.liveUc (s : State) (n b : Nat) : Bool := bitAt (BitVec.ofNat 16 (s.fld Fld.UC_STAT_LIVE n)) b
def State.liveDc (s : State) (m b : Nat) : Bool := bitAt (BitVec.ofNat 16 (s.fld Fld.DC_STAT_LIVE m)) b

def State.setLiveUc (s : State) (n b : Nat) (v : Bool) : State :=
  s.setFld Fld.UC_STAT_LIVE (putBit (BitVec.ofNat 16 (s.fld Fld.UC_STAT_LIVE n)) b v).toNat n
def State.setLiveDc (s : State) (m b : Nat) (v : Bool) : State :=
  s.setFld Fld.DC_STAT_LIVE (putBit (BitVec.ofNat 16 (s.fld Fld.DC_STAT_LIVE m)) b v).toNat m

/-- The channel is configured and sampling, in a slice whose shell is loaded. -/
def State.ucServes (s : State) (n : Nat) : Bool := s.flag Fld.UC_STAT_IN_SERVICE n && !s.flag Fld.RST_POWER_DORMANT
def State.dcServes (s : State) (m : Nat) : Bool := s.flag Fld.DC_STAT_IN_SERVICE m && !s.flag Fld.RST_POWER_DORMANT

/-- KIND of a channel's record (R168, R198): a universal channel measures an Analogue quantity, a counter counts, an input or
an output is Boolean. -/
def dcKind (mode : Nat) : Nat := if mode = 2 then 3 else 4

/-! ## Conversion (R170, R175 to R177) -/

/-- The measuring span of a range (R170): the electrical span of voltage and current, the measured quantity's otherwise. -/
def ucMeasSpan (mode range tc : Nat) : Fl × Fl :=
  if mode = 1 then
    (match range with
     | 0 => (Fl.dec (-21) 2, Fl.dec 21 2)
     | 1 => (Fl.dec (-1) 2, Fl.dec 21 2)
     | 2 => (Fl.dec (-105) 100, Fl.dec 105 100)
     | _ => (Fl.dec (-84) 1000, Fl.dec 84 1000))
  else if mode = 4 then
    (match range with
     | 3 => (Fl.zero, Fl.ofNat 400)
     | 4 => (Fl.zero, Fl.ofNat 4000)
     | _ => (Fl.ofInt (-200), Fl.ofNat 850))
  else if mode = 5 then (Fl.ofBits (Config.tcRange tc).1, Fl.ofBits (Config.tcRange tc).2)
  else if mode = 8 then
    (if range = 0 then Fl.dec (-21) 2 else Fl.zero, Fl.dec 21 2)
  else (Fl.zero, Fl.ofNat 24)

/-- The substitute cold-junction temperature of a slice, if declared (R185). -/
def State.cjSubst (s : State) (k : Nat) : Option F32 := s.img.cjSubst.lookup k

/-- The cold-junction sensor of the slice of channel `n` has failed on some channel (R185). -/
def State.cjBad (s : State) (n : Nat) : Bool := (List.range 8).any fun i => s.liveUc (8 * (n / 8) + i) 10

/-- The cold-junction temperature used for a slice: the substitute replaces a failed sensor for every channel of it (R185). -/
def State.cjTemp (s : State) (n : Nat) : F32 :=
  match s.cjSubst (n / 8) with
  | some t => if s.cjBad n then t else Config.coldJunction (n / 8) s.free
  | none => Config.coldJunction (n / 8) s.free

/-- A decimal fraction `i` ÷ 10^d as an exact value of units 2^-64. -/
def fix64 (i : Int) (d : Nat) : Int := i * 18446744073709551616 / ((10 ^ d : Nat) : Int)

/-- A binary32 value in units of 2^-64. -/
def fixOf (w : F32) : Int :=
  match Fl.ofBits w with
  | .fin s m e => Fl.units s (m * 2 ^ (e + 64).toNat / 2 ^ (-(e + 64)).toNat) 0 0
  | _ => 0

/-- The coefficients A, B and C of a channel (R177), in units of 2^-64: the sensor's own where the image declares them. -/
def rtdCoefs (c : UcCfg) : Int × Int × Int :=
  match c.cvd with
  | some (a, b, k) => (fixOf a, fixOf b, fixOf k)
  | none => (fix64 39083 7, fix64 (-5775) 10, fix64 (-4183) 15)

/-- The Callendar-Van Dusen equation (R177): the ratio R(t) ÷ R(0), in units of 2^-64 × 10^-12, of a temperature in
thousandths of a kelvin. -/
def cvdRatio (k : Int × Int × Int) (mk : Int) : Int :=
  18446744073709551616 * 1000000000000 + k.1 * mk * 1000000000 + k.2.1 * mk * mk * 1000000 +
    (if mk < 0 then k.2.2 * (mk - 100000) * mk * mk * mk else 0)

/-- The greatest temperature, in thousandths of a kelvin from `lo` on, whose ratio does not exceed `r`. -/
def cvdSolve (k : Int × Int × Int) (r : Int) : Nat → Int → Int
  | 0, lo => lo
  | n + 1, lo => if cvdRatio k (lo + 2 ^ n) ≤ r then cvdSolve k r n (lo + 2 ^ n) else cvdSolve k r n lo

/-- R(0) of an RTD range (R170), in Ω. -/
def rtdOhms (range : Nat) : Nat := if range = 0 then 100 else if range = 1 then 500 else 1000

/-- The temperature of an RTD (R177), solved to 0.001 K, the resolution of VALUE (R170), between −250 °C and 1,847 °C.
(DESIGN CHOICE, log entry 106) -/
def rtdTemperature (k : Int × Int × Int) (range : Nat) (ohms : Fl) : Fl :=
  match ohms with
  | .nan => .nan
  | .inf neg => .inf neg
  | .fin _ _ _ =>
    Fl.dec (cvdSolve k (fixOf ohms.toBits * 1000000000000 / (rtdOhms range : Int)) 21 (-250000)) 1000

/-- The measured quantity of a word: linearised in RTD ranges 0x0 to 0x2 and thermocouples, electrical otherwise; a 3-wire
connection loses its lead resistance twice. (DESIGN CHOICE, log entry 32) -/
def State.ucMeasure (s : State) (n : Nat) (w : Fl) : Fl :=
  let y := s.ucCorrect n w
  let mode := s.ucMode n
  let range := s.fld Fld.UC_CFG_RANGE n
  let y := if mode = 4 ∧ s.fld Fld.UC_CFG_WIRES n = 1 then
      Fl.sub y (Fl.mul (Fl.ofNat 2) (Fl.ofBits (Config.leadOhms n s.free))) else y
  if mode = 4 ∧ range ≤ 2 then rtdTemperature (rtdCoefs (s.ucCfg n)) range y
  else if mode = 5 then Fl.ofBits (Config.tcTemperature (s.fld Fld.UC_CFG_TC n) (s.cjTemp n) y.toBits)
  else y

/-- The value in engineering units: scaling in voltage and current modes, K where declared. -/
def State.ucScale (s : State) (n : Nat) (y : Fl) : Fl :=
  let c := s.ucCfg n
  let mode := s.ucMode n
  if mode = 4 ∨ mode = 5 then
    (if c.kelvin ∧ (mode = 5 ∨ s.fld Fld.UC_CFG_RANGE n ≤ 2) then Fl.add y (Fl.dec 27315 100) else y)
  else
    let el := ucEl c
    let eng := ucEng c
    Fl.add eng.1 (Fl.div (Fl.mul (Fl.sub y el.1) (Fl.sub eng.2 eng.1)) (Fl.sub el.2 el.1))

/-- Smoothing with time constant tau over the sampling period (R176). -/
def ucSmooth (tau v y p : Fl) : Fl :=
  if Fl.lt Fl.zero tau then Fl.add v (Fl.mul (Fl.sub y v) (Fl.div p (Fl.add tau p))) else y

/-! ## Quality marks that live diagnostics give (R185, R213) -/

/-- The quality bits of the live diagnostics of universal channel `n`. -/
def State.ucMarks (s : State) (n : Nat) : Nat :=
  let mode := s.ucMode n
  let out := s.ucOut n
  let l := s.liveUc n
  let oor := (l 0 && !out) || l 1 || l 2 || l 3 || l 4 || (l 5 && mode == 4) || l 8 || l 9 ||
    (mode == 5 && s.cjBad n && (s.cjSubst (n / 8)).isNone)
  let compl := out && (l 0 || (l 5 && mode == 8) || l 6 || l 7)
  let sub := mode == 5 && s.cjBad n && (s.cjSubst (n / 8)).isSome
  b2n sub * 8 + b2n compl * 16 + b2n oor * 32

/-- The quality bits of the live diagnostics and supply state of digital channel `m` (R207, R208, R213). -/
def State.dcMarks (s : State) (m : Nat) : Nat :=
  let out := s.dcMode m == 3
  let l := s.liveDc m
  let st := s.dcSupply m
  let oor := l 0 || l 1 || l 5 || l 7 || (!out && (st == 2 || st == 3))
  let compl := l 2 || l 3 || l 4 || l 6 || (out && st == 3 && (s.dc m).cmd == some true)
  b2n compl * 16 + b2n oor * 32

/-! ## SAMPLE_OWN_SLICES (R169 to R178, R199, R202, R203) -/

/-- The channel is sampled by a group of class `cls` (R174, R202). -/
def State.ucInGroup (s : State) (n cls : Nat) : Bool :=
  s.ucServes n && s.ucMode n != 0 && ((s.fld Fld.UC_CFG_FILT n == 4) == (cls == 0))

def State.dcInGroup (s : State) (m cls : Nat) : Bool :=
  s.dcServes m && s.dcMode m != 0 && (cls != 0 || (s.dcMode m != 3 && decide (s.fld Fld.DC_CFG_FILT m ≤ 1)))

/-- The compliance supply of an active current output (R179), in µV, at a terminal voltage in mV: 2.5 V above it, never outside 5 V
to V_CMAX. It rises at once and falls by 0.1 V per ms from what it was, `ns` ago. -/
def ucSupplyUv (vcmax term was ns : Nat) : Nat := max (1000 * max 5000 (min vcmax (term + 2500))) (was - ns / 10)

/-- UC_STAT.HEADROOM of an active current output, from its terminal voltage, a free value that reaches at most V_CMAX less 1.0 V.
(DESIGN CHOICE, log entry 33) -/
def State.ucHeadroom (s : State) (n : Nat) : State :=
  if s.ucMode n = 6 then
    let c := s.uc n
    let vcmax := 100 * s.fld Fld.UC_CFG_VCMAX n
    let term := min (Config.measured (100 + n) s.free) (vcmax - 1000)
    let sup := ucSupplyUv vcmax term c.supply (s.mt.frc - c.supplyAt).toNat
    (s.setUc n { c with supply := sup, supplyAt := s.mt.frc }).setFld Fld.UC_STAT_HEADROOM
      (sat 255 ((sup - 1000 * term) / 100000)) n
  else s

/-- DC_GROUP.CURRENT of a digital slice: what the shell measures, a free value. -/
def State.dcCurrent (s : State) (k : Nat) : State :=
  if k < 4 then s else s.setFld Fld.DC_GROUP_CURRENT (Config.measured (140 + k) s.free % 256) (k - 4)

/-- The value of a word in engineering units before smoothing (R176), held at the ends of the measuring span, and whether the
word lay outside it. The measured quantity is clamped before it is scaled and smoothed.
(DESIGN CHOICE, log entry 107) -/
def State.ucValue (s : State) (n : Nat) (w : Fl) : Fl × Bool :=
  let y := s.ucMeasure n w
  let sp := ucMeasSpan (s.ucMode n) (s.fld Fld.UC_CFG_RANGE n) (s.fld Fld.UC_CFG_TC n)
  let lo := Fl.lt y sp.1
  let hi := Fl.lt sp.2 y
  (s.ucScale n (if lo then sp.1 else if hi then sp.2 else y), lo || hi)

/-- Words and ns of a filter's window (R173). -/
def filterWords (filt : Nat) : Nat :=
  match filt with
  | 0 => 300
  | 1 => 6000
  | 2 => 5000
  | 3 => 30000
  | _ => 3

def filterNs (filt : Nat) : Nat := filterWords filt * 10000 / 3

/-- The filtered word (R173): the average of the window's words. A thermocouple's window may lack up to the 600 words of its open
test (R185). A window with words missing gives none. -/
def State.ucAverage (s : State) (n : Nat) (ws : List (BitVec 24)) : Option Fl :=
  let full := filterWords (s.fld Fld.UC_CFG_FILT n)
  if ws.length = full ∨ (s.ucMode n = 5 ∧ ws ≠ [] ∧ ws.length < full ∧ full ≤ ws.length + 600) then
    some (Fl.dec (ws.foldl (fun a w => a + w.toInt) 0) ws.length)
  else none

/-- FRC at a PT instant. -/
def State.frcAt (s : State) (t : Instant) : W64 := s.mt.frc - (s.pt - t)

/-- A window of `ns` that ends at `t` began before the instant that `mark` holds. -/
def State.windowOver (s : State) (mark : Option W64) (t : Instant) (ns : Nat) : Bool :=
  match mark with
  | some f => decide ((s.frcAt t - f).toInt < (ns : Int))
  | none => false

/-- The sample of universal channel `n` at S is late: its window began before a reload ended (R362), an RTD's contains part of a
gap in authority (R195), or the command before it was not applied (R183). -/
def State.ucLate (s : State) (n : Nat) (t : Instant) : Bool :=
  let k := s.slice (n / 8)
  let ns := filterNs (s.fld Fld.UC_CFG_FILT n)
  s.windowOver k.spoiled t ns || (s.ucMode n == 4 && s.windowOver k.gap t ns) || (s.ucOut n && (s.uc n).late)

/-- Own samples kept for the comparison of R194: two standard cycles of a fast group. -/
def keepHist {α : Type} (x : Instant × α) (l : List (Instant × α)) : List (Instant × α) := (x :: l).take 40

/-- Universal channel `n` sampled at S from filtered word `w`, in time: its record, and what the shell remembers. A value held at
the span's end stands there whatever the smoothing (R170). -/
def State.ucSample (s : State) (n cls : Nat) (t : Instant) (w : Fl) : State × W64 :=
  let c := s.uc n
  if c.oos then (s, freshRec 1 (if s.ucOut n then 16 else 32) 0)
  else
    let q := s.ucValue n w
    let p := Fl.ofRatio (Config.period cls) 1000000000
    let v := ucSmooth (Fl.ofRatio (s.ucCfg n).tauCs 100) (Fl.ofBits c.v) q.1 p
    let marks := s.ucMarks n
    let marks := if q.2 && !bitAt (BitVec.ofNat 8 marks) 5 then marks + 32 else marks
    let marks := if s.ucOut n && c.clamped && !bitAt (BitVec.ofNat 8 marks) 4 then marks + 16 else marks
    let shown := if q.2 then q.1.toBits else v.toBits
    let c := { c with v := v.toBits }
    (s.setUc n (if s.ucOut n then c else { c with hist := keepHist (t, shown) c.hist }), freshRec 1 marks shown)

/-- A voltage output 100 ms at its limit against a supply turns off (R184). -/
def State.ucLimit (s : State) (n : Nat) : State :=
  let c := s.uc n
  match c.limAt with
  | some f =>
    if 100000000 ≤ (s.mt.frc - f).toNat then (s.setUc n { c with limAt := none, vOff := true }).ucStage n else s
  | none => s

/-- The record of universal channel `n` at S: a missing or spoiled window, or a command not applied, leaves the last fresh value
with LATE (R9, R11, R183). (DEDUCED, log entry 108) -/
def State.ucRecord (s : State) (n cls : Nat) (t : Instant) (words : Option (List (BitVec 24))) : State × W64 :=
  let s := (s.ucLimit n).ucHeadroom n
  let p := (s.ucCfg n).point
  let late := s.ucLate n t
  let s := s.setUc n { s.uc n with late := false }
  match words.bind (s.ucAverage n) with
  | some w => if late then (s, lateRec (s.pointCfg p) (s.piGet p)) else s.ucSample n cls t w
  | none => (s, lateRec (s.pointCfg p) (s.piGet p))

/-- Filter times of the digital inputs (R201), in ns. -/
def dcFilterNs (filt : Nat) : Nat :=
  match filt with
  | 0 => 0
  | 1 => 10000
  | 2 => 100000
  | 3 => 1000000
  | 4 => 3000000
  | 5 => 10000000
  | _ => 20000000

/-- What a digital channel's record carries: 1 or 0, the count, or an output's terminal as R208 and R211 give it. -/
def State.dcValue (s : State) (m : Nat) : Word :=
  let c := s.dc m
  let out := s.dcMode m == 3
  if s.dcMode m = 2 then c.count
  else if out && s.dcSupply m == 3 && c.cmd == some true then 0
  else if out && s.liveDc m 3 then 1
  else BitVec.ofNat 32 (b2n c.state)

/-- The record of digital channel `m` at S. -/
def State.dcRecord (s : State) (m : Nat) (t : Instant) : State × W64 :=
  let c := s.dc m
  let p := (s.dcCfg m).point
  let out := s.dcMode m == 3
  let late := s.windowOver (s.slice (4 + m / 8)).spoiled t (dcFilterNs (if out then 0 else s.fld Fld.DC_CFG_FILT m)) ||
    (out && c.late)
  let s := s.setDc m { c with
    late := false, hist := if out then c.hist else keepHist (t, c.count, c.state) c.hist }
  (s, if late then lateRec (s.pointCfg p) (s.piGet p) else freshRec (dcKind (s.dcMode m)) (s.dcMarks m) (s.dcValue m))

/-- The channels of a slice sampled in order: points and records. -/
def State.sampleList (s : State) (k cls : Nat) (t : Instant) (words : List (Fin 32 × List (BitVec 24))) :
    List Nat → State × List (Nat × W64)
  | [] => (s, [])
  | i :: is =>
    if k < 4 then
      let n := 8 * k + i
      if s.ucInGroup n cls then
        let r := s.ucRecord n cls t ((words.find? fun w => w.1.val == n).map Prod.snd)
        let q := r.1.sampleList k cls t words is
        (q.1, ((s.ucCfg n).point, r.2) :: q.2)
      else s.sampleList k cls t words is
    else
      let m := 8 * (k - 4) + i
      if s.dcInGroup m cls then
        let r := s.dcRecord m t
        let q := r.1.sampleList k cls t words is
        (q.1, ((s.dcCfg m).point, r.2) :: q.2)
      else s.sampleList k cls t words is

/-! ## Diagnostics (R185, R187, R213, R214) -/

/-- Output `n` has a command to be compared with: its own, or in a standby the shadow command (R185, R195). -/
def State.ucHasCmd (s : State) (n : Nat) : Bool :=
  if s.shows (8 + n / 8) then (s.uc n).cmd.isSome else (s.uc n).shadow.isSome

/-- Current output `n` drives at least `ma10` tenths of a milliampere. -/
def State.ucDrives (s : State) (n ma10 : Nat) : Bool :=
  s.flag Fld.UC_STAT_STAGE_ON n && Fl.le (Fl.dec ma10 10) (Fl.ofBits (s.uc n).elec)

/-- Diagnostic `b` is one that a universal channel in this mode evaluates (R185). -/
def State.ucApplies (s : State) (n b : Nat) : Bool :=
  let m := s.ucMode n
  let cin := m == 2 || m == 3
  let cout := m == 6 || m == 7
  let out := cout || m == 8
  let hart := s.fld Fld.UC_CFG_HART n != 0
  let masked := s.liveUc n 6 || s.liveUc n 0 || s.liveUc n 5 || s.liveUc n 7
  match b with
  | 0 => cin || m == 4 || m == 5 || (cout && s.ucDrives n 10)
  | 1 | 2 => cin && s.flag Fld.UC_CFG_NE43 n
  | 3 => cin
  | 4 => m == 1 || m == 4 || m == 5
  | 5 => m == 4 || (cout && s.ucDrives n 36) || (m == 8 && s.flag Fld.UC_STAT_STAGE_ON n)
  | 6 => cout && s.flag Fld.UC_STAT_STAGE_ON n
  | 7 => out
  | 8 => out && !masked && s.ucHasCmd n
  | 9 => m != 0
  | 10 => m == 5
  | 11 | 12 => hart
  | 13 => s.pair && m != 0 && !out
  | 14 => s.flag Fld.UC_SLICE_TEMP_WARN (n / 8)
  | _ => true

/-- The shell evaluates diagnostic `b` of universal channel `n`: OVERTEMP on a channel that is off too (R185). -/
def State.ucWatches (s : State) (n b : Nat) : Bool :=
  s.ucServes n || (b == 14 && (s.slice (n / 8)).loaded && !s.flag Fld.RST_POWER_DORMANT)

/-- The stage state that digital output `m` is held against: its own, or in a standby its shadow command (R213, R216). -/
def State.dcWanted (s : State) (m : Nat) : Bool :=
  if s.shows (12 + m / 8) then s.flag Fld.DC_STAT_STAGE_ON m else (s.dc m).shadow == some true

/-- The command of digital output `m`, in a standby its shadow. -/
def State.dcAsked (s : State) (m : Nat) : Bool :=
  if s.shows (12 + m / 8) then (s.dc m).cmd == some true else (s.dc m).shadow == some true

/-- Diagnostic `b` is one that a digital channel in this mode evaluates, in its present state (R211 to R213, R216). -/
def State.dcApplies (s : State) (m b : Nat) : Bool :=
  let md := s.dcMode m
  let inp := md == 1 || md == 2
  let out := md == 3
  let l := s.liveDc m
  let st := s.dcSupply m
  let on := s.flag Fld.DC_STAT_STAGE_ON m
  match b with
  | 0 => out && s.flag Fld.DC_CFG_OPEN_DET m && on
  | 1 => out && s.flag Fld.DC_CFG_OFF_TEST m && !on && (!s.pair || s.shows (12 + m / 8))
  | 2 => out && on
  | 3 => out && !s.dcWanted m && !s.dcAsked m
  | 4 => out && !s.dcWanted m
  | 6 => out
  | 5 => out && !(l 0 || l 1 || l 2 || l 3 || l 4 || l 6) && st != 2 && st != 3 &&
      (s.shows (12 + m / 8) || (s.dc m).shadow.isSome) && (s.dc m).state != s.dcWanted m
  | 7 => inp && s.flag Fld.DC_CFG_BREAK_DET m
  | 8 => st == 2 || st == 3
  | 9 => st != 0
  | 11 => s.flag Fld.DC_GROUP_TEMP_WARN (m / 8)
  | 10 => s.pair && inp
  | _ => false

/-- `a` lies at or within 100 µs after `b`, both FRC (R212), where `b` may stand up to `slack` ns late. -/
def soonAfter (slack : Nat) (a b : Option W64) : Bool :=
  match a, b with
  | some a, some b => decide ((a + BitVec.ofNat 64 slack - b).toNat ≤ 100000 + slack)
  | _, _ => false

/-- The high level of terminal `m` began within 100 µs after the stage of channel `j` switched on and ended within 100 µs after
it switched off: foreign drive by `j` (R212). A standby holds it against `j`'s shadow command, which it has within 10 µs of K
(R216, R311). (DEDUCED, log entry 127) -/
def State.foreignBy (s : State) (m j : Nat) : Bool :=
  let slack := if s.shows (12 + j / 8) then 0 else 10000
  m != j && soonAfter slack (s.dc m).upAt (s.dc j).onAt && soonAfter slack (s.dc m).downAt (s.dc j).offAt

/-- Diagnostic `b` of universal channel `n` rises: live bit, latch, Sinter 0x6100 + b, slice source (R187). DEVIATION is not
evaluated beside OPEN, SHORT, COMPLIANCE or FOREIGN (R185). -/
def State.ucRaise (s : State) (n b : Nat) (more : List Nat := []) : State :=
  if s.liveUc n b then s
  else
    let s := s.setLiveUc n b true
    let s := if s.ucOut n ∧ (b = 0 ∨ b = 5 ∨ b = 6 ∨ b = 7) then s.setLiveUc n 8 false else s
    let s := s.setFld Fld.UC_DIAG_LATCH (putBit (BitVec.ofNat 16 (s.fld Fld.UC_DIAG_LATCH n)) b true).toNat n
    (s.note (8 + n / 8) (0x6100 + b) (n :: more)).ev (66 + n / 8)

/-- Diagnostic `b` of digital channel `m` rises (R214). DEVIATION is not evaluated beside bits 0 to 4 or 6 (R213). -/
def State.dcRaise (s : State) (m b : Nat) : State :=
  if s.liveDc m b then s
  else
    let s := s.setLiveDc m b true
    let s := if b ≤ 4 ∨ b = 6 then s.setLiveDc m 5 false else s
    let s := s.setFld Fld.DC_DIAG_LATCH (putBit (BitVec.ofNat 16 (s.fld Fld.DC_DIAG_LATCH m)) b true).toNat m
    (s.note (12 + m / 8) (0x6200 + b) [m]).ev (70 + m / 8)

/-- A universal channel out of service (R178, R448): CAL, its stage off. -/
def State.ucOutOfService (s : State) (n : Nat) (more : List Nat) : State :=
  let s := s.setUc n { s.uc n with oos := true }
  let s := s.setFlag Fld.UC_STAT_CAL_OK false n
  (s.ucRaise n 15 more).ucStage n

/-- What a universal channel's answer to a diagnostic changes at its stage: a voltage output at its limit for 100 ms turns off, at
once where the diagnostic took as long (R184, R185); RTD excitation stops at a terminal wired to a supply (R184). -/
def State.ucAnswer (s : State) (n b : Nat) (cause : DiagCause) : State :=
  let c := s.uc n
  if s.ucMode n = 8 ∧ b = 5 then (s.setUc n { c with vOff := true, limAt := none }).ucStage n
  else if s.ucMode n = 8 ∧ b = 7 then
    s.setUc n { c with limAt := if c.limAt.isNone && !c.vOff then some s.mt.frc else c.limAt }
  else if s.ucMode n = 4 ∧ b = 4 ∧ cause = .clamped then (s.setUc n { c with noExc := true }).ucExcite n false
  else if b = 15 then (s.setUc n { c with oos := true }).ucStage n
  else s

/-- 10 ms at the limit: the output is switched off, and retries (R206). -/
def State.dcOverload (s : State) (m : Nat) : State :=
  let s := (s.setDc m { s.dc m with ovl := true }).dcSwitch m false
  (s.setFlag Fld.DC_STAT_RETRY true m).dcRaise m 2

/-- A junction above 150 °C: the stage turns off (R206). -/
def State.dcHot (s : State) (m : Nat) : State :=
  ((s.setDc m { s.dc m with hot := true }).dcSwitch m false).dcRaise m 6

/-- A digital channel's diagnostic: OVERLOAD and OVERTEMP turn the stage off (R206); FOREIGN names the channel that drives the
terminal and clears SHORT_LP (R212). -/
def State.dcDiag (s : State) (m b : Nat) (cause : DiagCause) : State :=
  match b, cause with
  | 2, _ => s.dcOverload m
  | 6, _ => s.dcHot m
  | 4, .foreign j =>
    if s.foreignBy m j.val then ((s.dcRaise m 4).setFld Fld.DC_STAT_SRC j.val m).setLiveDc m 3 false else s
  | 4, _ => s
  | b, _ => s.dcRaise m b

/-- DIAG_RAISED: a diagnostic of the channel's mode arises (R182, R184, R187, R211, R212, R214).
(DEDUCED, log entry 34) -/
def execDiagRaised (c : Chan) (b : Fin 16) (cause : DiagCause) (s : State) : Res :=
  match c with
  | .uni n =>
    let s := s.ucLimit n.val
    if s.ucWatches n.val b.val && s.ucApplies n.val b.val then .next ((s.ucRaise n.val b.val).ucAnswer n.val b.val cause)
    else .next s
  | .dig m => if s.dcServes m.val && s.dcApplies m.val b.val then .next (s.dcDiag m.val b.val cause) else .next s

/-- DIAG_CLEARED: the condition ends (R182); CAL stays until the next start-up (R178, R448). -/
def execDiagCleared (c : Chan) (b : Fin 16) (s : State) : Res :=
  match c with
  | .uni n =>
    let s := s.ucLimit n.val
    if b.val = 15 then .next s
    else
      let s := s.setLiveUc n.val b.val false
      if b.val = 7 then .next (s.setUc n.val { s.uc n.val with limAt := none })
      else if s.ucMode n.val = 4 ∧ b.val = 4 then
        .next ((s.setUc n.val { s.uc n.val with noExc := false }).ucExcite n.val (s.shows (8 + n.val / 8)))
      else .next s
  | .dig m =>
    let s := s.setLiveDc m.val b.val false
    if b.val = 6 then .next (s.setDc m.val { s.dc m.val with hot := false }) else .next s

/-- The width of a channel's measuring span. -/
def State.ucWidth (s : State) (n : Nat) : Fl :=
  let sp := ucMeasSpan (s.ucMode n) (s.fld Fld.UC_CFG_RANGE n) (s.fld Fld.UC_CFG_TC n)
  Fl.sub sp.2 sp.1

/-- CROSSCHECK_ROUND: the ninth converter's measure of the next channel differs by more than 0.1 % of span, or not
(R185, R186). -/
def execCrosscheckRound (k : Fin 4) (own check : F32) (s : State) : Res :=
  if (s.slice k.val).loaded && s.alive (8 + k.val) then
    let i := (s.slice k.val).next
    let n := 8 * k.val + i
    let s := s.setSlice k.val { s.slice k.val with next := (i + 1) % 8 }
    if s.ucServes n && s.ucApplies n 9 then
      let bad := Fl.lt (Fl.div (s.ucWidth n) (Fl.ofNat 1000)) (Fl.sub (Fl.ofBits own) (Fl.ofBits check)).abs
      .next (if bad then s.ucRaise n 9 else s.setLiveUc n 9 false)
    else .next s
  else .next s

/-- TC_OPEN_TEST: a thermocouple loop above 20 kΩ is open (R185); in a pair the module that holds authority tests. -/
def execTcOpenTest (n : Fin 32) (ohms : Nat) (s : State) : Res :=
  if s.ucServes n.val && s.ucMode n.val == 5 && s.shows (8 + n.val / 8) then
    .next (if 20000 < ohms then s.ucRaise n.val 0 else s.setLiveUc n.val 0 false)
  else .next s

/-- VOUT_RETRY: a voltage output turned off at its limit is driven again, and stays on unless still limited (R184). -/
def execVoutRetry (n : Fin 32) (stillLimited : Bool) (s : State) : Res :=
  if s.ucMode n.val = 8 ∧ (s.uc n.val).vOff then
    .next ((s.setUc n.val { s.uc n.val with vOff := stillLimited }).ucStage n.val)
  else .next s

/-- The stages of slice `k` turned off, none turned on. -/
def State.sliceOff (s : State) (k : Nat) : State :=
  if k < 4 then
    (List.range 8).foldl (fun s i => s.ucOff (8 * k + i)) s
  else (List.range 8).foldl (fun s i => s.dcSwitch (8 * (k - 4) + i) false) s

/-- The shell temperature shown (R185, R197, R219). -/
def State.showTemp (s : State) (k : Nat) (temp : Int) : State :=
  let t := ofSigned 8 (max (-128) (min 127 temp))
  if k < 4 then (s.setFld Fld.UC_SLICE_TEMP t k).setFlag Fld.UC_SLICE_TEMP_WARN (decide (105 < temp)) k
  else (s.setFld Fld.DC_GROUP_TEMP t (k - 4)).setFlag Fld.DC_GROUP_TEMP_WARN (decide (105 < temp)) (k - 4)

/-- The turn-off above 125 °C or its end below 115 °C; stages come back at the next commit (R185, R213). -/
def State.setTempOff (s : State) (k : Nat) (off : Bool) : State :=
  let s := s.setSlice k { s.slice k with tempOff := off }
  let s := if k < 4 then s.setFlag Fld.UC_SLICE_TEMP_OFF off k else s
  if off then s.sliceOff k else s

/-- SHELL_TEMP_OFF: a shell above 125 °C de-energizes its outputs; below 115 °C they may return (R185, R213). -/
def execShellTempOff (k : Fin 10) (temp : Int) (s : State) : Res :=
  let s := s.showTemp k.val temp
  if 125 < temp then .next (s.setTempOff k.val true)
  else if temp < 115 then .next (s.setTempOff k.val false)
  else .next s

/-- UC_SLICE.POWER and ISO_LOW: what the shell measures, free values. -/
def State.ucPower (s : State) (k : Nat) : State :=
  if k < 4 then
    ((s.setFld Fld.UC_SLICE_POWER (Config.measured (150 + k) s.free % 256) k).setFlag Fld.UC_SLICE_ISO_LOW
      (Config.measured (160 + k) s.free % 2 == 1) k).draw
  else s

/-- SHELL_TEMP_MEASURE: the shell's own temperature, once per slow cycle (R175). -/
def execShellTempMeasure (k : Fin 10) (temp : Int) (s : State) : Res :=
  let s := (s.showTemp k.val temp).ucPower k.val
  if temp < 115 ∧ (s.slice k.val).tempOff then .next (s.setTempOff k.val false) else .next s

/-- The element that a mode needs (R448). -/
def elemServes (mode code : Nat) : Bool :=
  if mode = 0 then code == 0 || code == 1
  else if mode = 2 ∨ mode = 3 then code == 2
  else if mode = 4 then code == 3
  else code == 1

/-- ELEMENT_CHECK: the element code read each second; a code that does not serve the mode, or a change, takes the channel
out of service (R448). -/
def execElementCheck (n : Fin 32) (code : Nat) (s : State) : Res :=
  let c := s.uc n.val
  let changed := match c.elem with
    | some e => e != code
    | none => false
  let s := s.setUc n.val { c with elem := some code }
  if s.ucServes n.val && (changed || !elemServes (s.ucMode n.val) code) then .next (s.ucOutOfService n.val [code])
  else .next s

/-! ## HART (R188 to R191) -/

/-- HART is on, in a mode that has a modem (R188). -/
def State.hartOn (s : State) (n : Nat) : Bool :=
  let m := s.ucMode n
  s.fld Fld.UC_CFG_HART n != 0 && (m == 2 || m == 3 || m == 6 || m == 7)

/-- A command sent by the modem, as primary or secondary master. -/
def State.hartSend (s : State) (n cmd : Nat) (bytes : List Byte) : State :=
  s.emit (.hart n cmd (s.fld Fld.UC_CFG_HART n == 1) bytes)

/-- What every reply shows (R185, R190, R197): response code, device status, more status; the failures in a row end. -/
def State.hartShow (s : State) (n : Nat) (r : HartReply) : State :=
  let s := (s.setFld Fld.UC_HART_RESPONSE r.code.toNat n).setFld Fld.UC_HART_DEVICE r.device.toNat n
  let s := (s.setFlag Fld.UC_HART_MORE_STATUS r.more n).setFld Fld.UC_HART_FAILS 0 n
  let s := s.setLiveUc n 11 false
  if r.malf then s.ucRaise n 12 else s.setLiveUc n 12 false

/-- A pass-through frame of channel `n` is outstanding (R192): until its answer or its timeout the modem sends nothing else. -/
def State.hartPassing (s : State) (n : Nat) : Bool :=
  match (s.uc n).hart with
  | .pass _ _ => true
  | _ => false

/-- HART_CONNECT: command 0 sent, its answer compared with the declared identity (R190). The module without authority sends
nothing and takes what it hears (R193). -/
def execHartConnect (n : Fin 32) (reply : Option (Nat × HartReply)) (s : State) : Res :=
  if s.hartOn n.val && !s.hartPassing n.val then
    let shows := s.shows (8 + n.val / 8)
    let s := if shows then s.hartSend n.val 0 [] else s
    match reply with
    | some (i, r) =>
      let s := (s.hartShow n.val r).setFlag Fld.UC_HART_CONNECTED (i == (s.ucCfg n.val).hartId) n.val
      .next ((s.setFlag Fld.UC_HART_BURST_SEEN false n.val).setUc n.val { s.uc n.val with hart := .none })
    | none =>
      if shows then
        .next ((s.setFlag Fld.UC_HART_CONNECTED false n.val).setUc n.val { s.uc n.val with hart := .connect })
      else .next s
  else .next s

/-- The HART points of channel `n` after a scan period of `k` slow cycles that brought no response (R191). -/
def State.hartLate (s : State) (k : Nat) : List Nat → State
  | [] => s
  | p :: ps => (s.produce p (lateRec (s.pointCfg p) (s.piGet p) k)).hartLate k ps

/-- A transaction left unanswered: HART_LOST at the third in a row (R185, R190). -/
def State.hartFail (s : State) (n : Nat) : State :=
  let s := (s.bump Fld.UC_HART_FAILS n).setUc n { s.uc n with hart := .none }
  if 3 ≤ s.fld Fld.UC_HART_FAILS n then s.ucRaise n 11 else s

/-- A transaction of the modem's own that the end of its scan period finds unanswered has failed: the period is 500 ms at least
(R190). -/
def State.hartOverdue (s : State) (n : Nat) : State :=
  match (s.uc n).hart with
  | .poll => s.hartFail n
  | .connect => s.hartFail n
  | _ => s

/-- HART_POLL: the scan period ends; without a response its points are late; command 9 asks for the mapped variables unless a
burst message serves in its place (R190, R191) or a pass-through frame is outstanding (R192). Only the module with authority sends
(R193). -/
def execHartPoll (n : Fin 32) (s : State) : Res :=
  if s.hartOn n.val then
    let s := s.hartOverdue n.val
    let c := s.uc n.val
    let s := if c.scan ≠ 0 ∧ !c.fresh then s.hartLate (s.ucCfg n.val).scan (s.ucCfg n.val).hartPts else s
    let sends := s.flag Fld.UC_HART_CONNECTED n.val && s.shows (8 + n.val / 8) && !c.burst && !s.hartPassing n.val
    let s := s.setUc n.val { c with
      fresh := false, burst := false, scan := 1, hart := if sends then HartOpen.poll else c.hart }
    .next (if sends then s.hartSend n.val 9 (s.ucCfg n.val).hartVars else s)
  else .next s

/-- The mapped device variables become points of the slow class (R191). -/
def State.hartProduce (s : State) (at_ : Instant) (malf : Bool) : List Nat → List (F32 × Bool) → State
  | p :: ps, v :: vs =>
    let r := freshRec (s.pointCfg p).kind (if v.2 || malf then 32 else 0) v.1
    (s.showAt at_ p r).hartProduce at_ malf ps vs
  | _, _ => s

/-- A reply that serves: a burst message of command 3, 9 or 48, or the answer of command 9 to an open poll, in the module without
authority to its partner's (R190, R193). -/
def State.hartServes (s : State) (n : Nat) (r : HartReply) : Bool :=
  s.hartOn n && s.flag Fld.UC_HART_CONNECTED n &&
    (if r.burst then r.cmd == 3 || r.cmd == 9 || r.cmd == 48
     else r.cmd == 9 && ((s.uc n).hart == .poll || !s.shows (8 + n / 8)))

/-- HART_RESPONSE: a reply or a burst message of command 3, 9 or 48 (R190, R191). -/
def execHartResponse (n : Fin 32) (r : HartReply) (s : State) : Res :=
  if !s.hartServes n.val r then .next s
  else
    let s := s.hartShow n.val r
    let s := if r.burst then s.setFlag Fld.UC_HART_BURST_SEEN true n.val else s
    let c := s.uc n.val
    let s := s.setUc n.val { c with
      fresh := true, burst := c.burst || r.burst, hart := if r.burst then c.hart else HartOpen.none }
    .next (s.hartProduce (s.nextSlowC s.pt) r.malf (s.ucCfg n.val).hartPts r.vars)

/-- HART_TIMEOUT: 500 ms without an answer count as a failure (R190); a pass-through frame ends with a timeout, one that authority
left before it was sent too (R192, R195). -/
def execHartTimeout (n : Fin 32) (s : State) : Res :=
  let c := s.uc n.val
  match c.hart with
  | .none =>
    (match c.pass with
     | some (sess, id, _) =>
       if s.shows (8 + n.val / 8) then .next s
       else
         let s := (s.reply sess id 0x8050 0 []).setFlag Fld.UC_HART_PASS_BUSY false n.val
         .next (s.setUc n.val { c with pass := none })
     | none => .next s)
  | .pass sess id =>
    .next (((s.reply sess id 0x8050 0 []).setFlag Fld.UC_HART_PASS_BUSY false n.val).hartFail n.val)
  | _ => .next (s.hartFail n.val)

/-! ## Digital channels (R201, R203, R206 to R209, R214, R215) -/

/-- The edge that a counter counts (R203). -/
def State.dcCounts (s : State) (m : Nat) (on : Bool) : Bool :=
  match s.fld Fld.DC_CFG_EDGE m with
  | 0 => on
  | 1 => !on
  | _ => true

/-- INPUT_CHANGE_ACCEPTED: the terminal's new state stands one filter time; counters count (R201, R203). -/
def execInputChangeAccepted (m : Fin 48) (on : Bool) (s : State) : Res :=
  let c := s.dc m.val
  let s := s.setFlag Fld.DC_STAT_TERM on m.val
  if c.state = on ∨ s.flag Fld.RST_POWER_DORMANT then .next s
  else
    let c := if on then { c with state := on, upAt := some s.mt.frc } else { c with state := on, downAt := some s.mt.frc }
    if s.dcMode m.val = 2 ∧ s.boot.committed ∧ s.dcCounts m.val on then
      .next (s.setDc m.val { c with count := c.count + 1 })
    else .next (s.setDc m.val c)

/-- OUTPUT_OVERLOAD_OFF: 10 ms at the limit switch the output off (R206). -/
def execOutputOverloadOff (m : Fin 48) (s : State) : Res :=
  if s.dcMode m.val = 3 ∧ s.flag Fld.DC_STAT_STAGE_ON m.val then
    .next (s.dcOverload m.val)
  else .next s

/-- OUTPUT_OVERLOAD_RETRY: while the command stays on the stage is switched on again (R206). -/
def execOutputOverloadRetry (m : Fin 48) (s : State) : Res :=
  let c := s.dc m.val
  if c.ovl ∧ c.cmd = some true then
    .next (((s.setDc m.val { c with ovl := false }).setFlag Fld.DC_STAT_RETRY false m.val).dcStage m.val)
  else .next s

/-- OUTPUT_OVERTEMP_OFF: a junction above 150 °C turns the stage off (R206). -/
def execOutputOvertempOff (m : Fin 48) (s : State) : Res :=
  if s.dcMode m.val = 3 then .next (s.dcHot m.val)
  else .next s

/-- The supply state that a held measurement gives (R207), in millivolts. -/
def supplyNext (st mv : Nat) : Nat :=
  if st = 3 then (if 18000 < mv then 0 else 3)
  else if mv < 9000 then 3
  else if st = 2 then (if 15500 < mv then 1 else 2)
  else if mv < 15000 then 2
  else if st = 1 then (if 18500 < mv then 0 else 1)
  else if mv < 18000 then 1 else 0

/-- SUPPLY_LOW and SUPPLY_WARN of the channels of a group; DEVIATION is not evaluated in LOW or OFF (R208, R213). -/
def State.supplyDiags (s : State) (g st : Nat) : State :=
  (List.range 8).foldl (fun s i =>
    let m := 8 * g + i
    if !s.dcServes m then s
    else
      let s := if st = 2 ∨ st = 3 then (s.dcRaise m 8).setLiveDc m 5 false else s.setLiveDc m 8 false
      if st ≠ 0 then s.dcRaise m 9 else s.setLiveDc m 9 false) s

/-- A group goes OFF: every stage off, commands kept; on recovery the commanded outputs wait their turn (R207, R209). -/
def State.supplyStages (s : State) (g st old : Nat) : State :=
  if st = 3 then
    (List.range 8).foldl (fun s i => (s.dcSwitch (8 * g + i) false).dcStage (8 * g + i))
      (s.setFlag Fld.DC_GROUP_REAPPLY false g)
  else if old = 3 then
    s.setFlag Fld.DC_GROUP_REAPPLY ((List.range 8).any fun i => s.flag Fld.DC_STAT_QUEUED (8 * g + i)) g
  else s

/-- SUPPLY_STATE_CHANGE: L+ has met a threshold for its hold time (R207, R208). -/
def execSupplyStateChange (g : Fin 6) (millivolts : Nat) (s : State) : Res :=
  let old := s.fld Fld.DC_GROUP_STATE g.val
  let st := supplyNext old millivolts
  let s := s.setFld Fld.DC_GROUP_VOLTS (sat 255 (millivolts / 200)) g.val
  if st = old then .next s
  else
    let s := (s.setFld Fld.DC_GROUP_STATE st g.val).note (12 + g.val) (0x6210 + st) [g.val, millivolts]
    let s := (s.ev (70 + g.val)).supplyDiags g.val st
    .next (s.supplyStages g.val st old)

/-- REAPPLY_TURN: the lowest queued output switches on; the sequence ends when none remains (R209). -/
def execReapplyTurn (g : Fin 6) (s : State) : Res :=
  if s.flag Fld.DC_GROUP_REAPPLY g.val then
    match s.nextTurn g.val with
    | some m =>
      let s := (s.dcSwitch m true).setFlag Fld.DC_STAT_QUEUED false m
      .next (s.turnsEnd g.val)
    | none => .next (s.turnsEnd g.val)
  else .next s

/-- GROUP_OVER: summed current above 4.4 A for 100 ms sets the flag and writes one record (R214). -/
def execGroupOver (g : Fin 6) (milliamps : Nat) (s : State) : Res :=
  let s := s.setFld Fld.DC_GROUP_CURRENT (sat 255 (milliamps / 20)) g.val
  if 4400 < milliamps ∧ !s.flag Fld.DC_GROUP_GROUP_OVER g.val then
    .next ((s.setFlag Fld.DC_GROUP_GROUP_OVER true g.val).note (12 + g.val) Config.groupOverCode.toNat [g.val])
  else .next (s.setFlag Fld.DC_GROUP_GROUP_OVER (decide (4400 < milliamps)) g.val)

/-- The inputs of group `g` sink half while its shell sees the partner's line, full otherwise (R215). -/
def State.sinkFollow (s : State) (g : Nat) : State :=
  let seen := s.flag Fld.DC_GROUP_PARTNER_SINK g
  (List.range 8).foldl (fun s i =>
    let m := 8 * g + i
    if s.dcMode m = 1 ∨ s.dcMode m = 2 then s.setFlag Fld.DC_STAT_SINK_HALF seen m else s) s

/-- SINK_SHARE_CHANGE: the shell sees its partner's line, or sees it no more (R215). A Z9B-S has no such line. -/
def execSinkShareChange (g : Fin 6) (seen : Bool) (s : State) : Res :=
  if s.pair then .next ((s.setFlag Fld.DC_GROUP_PARTNER_SINK seen g.val).sinkFollow g.val) else .next s

/-- The shell of group `g` no longer drives its sink-share line: its inputs have stopped sinking, or the contact has parted (R215,
R453). -/
def State.sinkEnd (s : State) (g : Nat) : State :=
  if (s.slice (4 + g)).sinks then (s.setSlice (4 + g) { s.slice (4 + g) with sinks := false }).emit (.sinkLine g false) else s

/-- Every group's line falls. -/
def State.sinkEndAll (s : State) : State := (List.range 6).foldl State.sinkEnd s

/-- The shell of group `g` starts to sink, at half where it sees its partner's line, and then drives its own (R215). -/
def State.sinkStart (s : State) (g : Nat) : State :=
  let s := s.sinkFollow g
  let sinks := (List.range 8).any fun i => s.dcMode (8 * g + i) == 1 || s.dcMode (8 * g + i) == 2
  if !(s.pair && sinks) then s.sinkEnd g
  else (s.setSlice (4 + g) { s.slice (4 + g) with sinks := true }).emit (.sinkLine g true)

end Sys2Proof.Machine
end

