-- ==== Sys2Proof/Machine/LoopCore.lean ====
section
/-! DEFINITION. The arithmetic of one loop (R120 to R137, R321): its blocks as values, the validity of a coefficient
set, bumpless initialisation, the re-entry and command steps, and one cycle in the order of R126. -/

namespace Sys2Proof.Machine

/-! ## Descriptor fields (R120) -/

def ldFaultOut (d : BitVec 512) : Fl := Fl.ofBits (BitVec.ofNat 32 (bits d 511 480))
def ldFfGain (d : BitVec 512) : Fl := Fl.ofBits (BitVec.ofNat 32 (bits d 479 448))
def ldRateDn (d : BitVec 512) : Fl := Fl.ofBits (BitVec.ofNat 32 (bits d 447 416))
def ldRateUp (d : BitVec 512) : Fl := Fl.ofBits (BitVec.ofNat 32 (bits d 415 384))
def ldOutHi (d : BitVec 512) : Fl := Fl.ofBits (BitVec.ofNat 32 (bits d 383 352))
def ldOutLo (d : BitVec 512) : Fl := Fl.ofBits (BitVec.ofNat 32 (bits d 351 320))
def ldSpStep (d : BitVec 512) : Fl := Fl.ofBits (BitVec.ofNat 32 (bits d 319 288))
def ldSpRate (d : BitVec 512) : Fl := Fl.ofBits (BitVec.ofNat 32 (bits d 287 256))
def ldRb (d : BitVec 512) : Nat := bits d 255 236
def ldOut (d : BitVec 512) : Nat := bits d 235 216
def ldFf (d : BitVec 512) : Nat := bits d 215 196
def ldSp (d : BitVec 512) : Nat := bits d 195 176
def ldPv (d : BitVec 512) : Nat := bits d 175 156
def ldGroup (d : BitVec 512) : Nat := bits d 47 40
def ldClass (d : BitVec 512) : Nat := bits d 39 38
def ldNsec (d : BitVec 512) : Nat := bits d 37 35 + 1
def ldInteg (d : BitVec 512) : Nat := bits d 34 31
def ldAw (d : BitVec 512) : Nat := bits d 30 29
def ldNalt (d : BitVec 512) : Nat := bits d 28 27
def ldDir (d : BitVec 512) : Bool := bitAt d 26
def ldInFail (d : BitVec 512) : Bool := bitAt d 25
def ldFaultHold (d : BitVec 512) : Bool := bitAt d 24
def ldAccSubst (d : BitVec 512) : Bool := bitAt d 23
def ldAdapt (d : BitVec 512) : Bool := bitAt d 22
def ldImmediate (d : BitVec 512) : Bool := bitAt d 21
def ldMan0 (d : BitVec 512) : Bool := bitAt d 20
def ldOvrLimit (d : BitVec 512) : Nat := bits d 15 8
def ldFormat (d : BitVec 512) : Nat := bits d 7 0

/-- Blocks of a loop (R118). -/
def ldBlocks (d : BitVec 512) : Nat := 3 + ldNsec d * (1 + ldNalt d)

/-! ## Declarations of a test (R150, R154) -/

/-- H_MAX; 2 % of OUT_HI − OUT_LO by default. -/
def adaptMag (a : AdaptCfg) (d : BitVec 512) : Fl :=
  match a.hMax with
  | some h => Fl.ofBits h
  | none => Fl.div (Fl.sub (ldOutHi d) (ldOutLo d)) (Fl.ofNat 50)

/-- D_START; D_MAX ÷ 4 by default. -/
def adaptStart (a : AdaptCfg) : Fl :=
  match a.dStart with
  | some x => Fl.ofBits x
  | none => Fl.div (Fl.ofBits a.dMax) (Fl.ofNat 4)

/-- Tp; T_MAX ÷ 4 by default. -/
def adaptPulse (a : AdaptCfg) : Nat := a.tp.getD (a.tMax / 4)

/-! ## Working values -/

/-- A section in use: its coefficients and states (R124). -/
structure Sec where
  b0 : F32 := 0
  b1 : F32 := 0
  b2 : F32 := 0
  a1 : F32 := 0
  a2 : F32 := 0
  s1 : F32 := 0
  s2 : F32 := 0
  set : Nat := 0
  deriving DecidableEq, Repr, Inhabited

def Sec.ofBlock (b : BitVec 256) : Sec :=
  { b0 := BitVec.ofNat 32 (bits b 63 32), b1 := BitVec.ofNat 32 (bits b 95 64), b2 := BitVec.ofNat 32 (bits b 127 96)
    a1 := BitVec.ofNat 32 (bits b 159 128), a2 := BitVec.ofNat 32 (bits b 191 160)
    s1 := BitVec.ofNat 32 (bits b 223 192), s2 := BitVec.ofNat 32 (bits b 255 224), set := bits b 1 0 }

def Sec.toBlock (x : Sec) : BitVec 256 :=
  let b : BitVec 256 := 0
  let b := putBits b 1 0 x.set
  let b := putBits b 63 32 x.b0.toNat
  let b := putBits b 95 64 x.b1.toNat
  let b := putBits b 127 96 x.b2.toNat
  let b := putBits b 159 128 x.a1.toNat
  let b := putBits b 191 160 x.a2.toNat
  let b := putBits b 223 192 x.s1.toNat
  putBits b 255 224 x.s2.toNat

/-- A loop's blocks after the descriptor, and its manual value, as values. STATE codes: 0 AUTO, 1 MANUAL, 2 HELD,
3 FAULT (R123). -/
structure LoopWork where
  blk     : BitVec 256 := 0
  state   : Nat := 0
  cause   : Nat := 0
  ovr     : Nat := 0
  first   : Bool := false
  ramping : Bool := false
  limHi   : Bool := false
  limLo   : Bool := false
  awF     : Bool := false
  cmpF    : Bool := false
  excited : Bool := false
  pvSeen  : Bool := false
  spSeen  : Bool := false
  active  : Nat := 0
  wsp     : F32 := 0
  tgt     : F32 := 0
  uPrev   : F32 := 0
  ffHeld  : F32 := 0
  manual  : F32 := 0
  secs    : List Sec := []
  alts    : List Sec := []
  deriving DecidableEq, Repr, Inhabited

/-- The working values of the state block `b`, its section and alternate blocks and the manual value. -/
def LoopWork.load (b : BitVec 256) (secs alts : List Sec) (manual : F32) : LoopWork :=
  { blk := b, state := bits b 127 124, cause := bits b 123 120, ovr := bits b 119 112
    first := bitAt b 111, ramping := bitAt b 110, limHi := bitAt b 109, limLo := bitAt b 108
    awF := bitAt b 107, cmpF := bitAt b 106, excited := bitAt b 105, pvSeen := bitAt b 104, spSeen := bitAt b 103
    active := bits b 97 96
    wsp := BitVec.ofNat 32 (bits b 31 0), tgt := BitVec.ofNat 32 (bits b 63 32), uPrev := BitVec.ofNat 32 (bits b 95 64)
    ffHeld := BitVec.ofNat 32 (bits b 159 128), manual := manual, secs := secs, alts := alts }

/-- STATUS as a word (R123). -/
def LoopWork.status (w : LoopWork) : Nat :=
  w.state * 268435456 + w.cause * 16777216 + sat 255 w.ovr * 65536 + b2n w.first * 32768 + b2n w.ramping * 16384 +
  b2n w.limHi * 8192 + b2n w.limLo * 4096 + b2n w.awF * 2048 + b2n w.cmpF * 1024 + b2n w.excited * 512 +
  b2n w.pvSeen * 256 + b2n w.spSeen * 128 + w.active

/-- The state block of working values; CC_PT, DELAY and MAX_DELAY stay. -/
def LoopWork.stateBlock (w : LoopWork) : BitVec 256 :=
  let b := putBits w.blk 31 0 w.wsp.toNat
  let b := putBits b 63 32 w.tgt.toNat
  let b := putBits b 95 64 w.uPrev.toNat
  let b := putBits b 127 96 w.status
  putBits b 159 128 w.ffHeld.toNat

/-- The blocks after the descriptor, in their order (R118). -/
def LoopWork.blocks (w : LoopWork) : List (BitVec 256) :=
  w.stateBlock :: (w.secs.map Sec.toBlock ++ w.alts.map Sec.toBlock)

/-- `x` limited to [lo, hi]. -/
def flClamp (x lo hi : Fl) : Fl := if Fl.lt x lo then lo else if Fl.lt hi x then hi else x

/-- The class period in seconds, as binary32 (R126). -/
def loopP : Nat → Fl
  | 0 => Fl.ofRatio 1 20000
  | 1 => Fl.ofRatio 1 1000
  | _ => Fl.ofRatio 1 10

/-- A magnitude of 2^64 or more (R135). -/
def flBig (x : Fl) : Bool := Fl.le (.fin false 1 64) x.abs

/-- The FAULT cause that computed values give: 0x2 non-finite, 0x3 divergent, 0 neither (R135). -/
def badCause (xs : List Fl) : Nat :=
  if xs.any fun x => !x.finite then 2 else if xs.any flBig then 3 else 0

/-! ## Coefficient sets (R125, R133) -/

/-- A finite value as an exact count of 2^-149. -/
def flExact : Fl → Int
  | .fin s m e => Fl.units s m e (-149)
  | _ => 0

def exactOne : Int := 713623846352979940529142984724747568191373312     -- 2^149

/-- Section `x` meets R133; `integ` that it is the integrating one. -/
def Sec.valid (x : Sec) (integ : Bool) : Bool :=
  let b0 := Fl.ofBits x.b0
  let b1 := Fl.ofBits x.b1
  let b2 := Fl.ofBits x.b2
  let a1 := Fl.ofBits x.a1
  let a2 := Fl.ofBits x.a2
  b0.finite && b1.finite && b2.finite && a2.finite && (integ || a1.finite) &&
  decide ((flExact a2).natAbs < exactOne.natAbs) &&
  decide (0 < flExact b0 + flExact b1 + flExact b2) &&
  (integ || decide (((flExact a1).natAbs : Int) < exactOne + flExact a2))

/-- The sections from index `i` on are valid (R133). -/
def setValidFrom (integ : Nat) : Nat → List Sec → Bool
  | _, [] => true
  | i, x :: xs => x.valid (i == integ) && setValidFrom integ (i + 1) xs

/-- A coefficient set is valid (R133). -/
def setValid (d : BitVec 512) (xs : List Sec) : Bool := setValidFrom (ldInteg d) 0 xs

/-- The A1 that section `i` computes with (R125). -/
def secA1 (d : BitVec 512) (i : Nat) (x : Sec) : Fl :=
  if i = ldInteg d then Fl.sub (Fl.neg Fl.one) (Fl.ofBits x.a2) else Fl.ofBits x.a1

/-! ## Bumpless initialisation (R132) -/

/-- The static gain of a section: ((B0 + B1) + B2) ÷ ((1 + A1) + A2). -/
def secGain (x : Sec) : Fl :=
  Fl.div (Fl.add (Fl.add (Fl.ofBits x.b0) (Fl.ofBits x.b1)) (Fl.ofBits x.b2))
    (Fl.add (Fl.add Fl.one (Fl.ofBits x.a1)) (Fl.ofBits x.a2))

/-- The sections after the integrating one, with constant input `x` (R132, step 5). -/
def initAfter (x : Fl) : List Sec → List Sec
  | [] => []
  | c :: cs =>
    let g := secGain c
    let s1 := Fl.mul (Fl.sub g (Fl.ofBits c.b0)) x
    let s2 := Fl.mul (Fl.fma (Fl.neg (Fl.ofBits c.a2)) g (Fl.ofBits c.b2)) x
    { c with s1 := s1.toBits, s2 := s2.toBits } :: initAfter (Fl.mul g x) cs

/-- The sections with every state 0. -/
def zeroStates (cs : List Sec) : List Sec := cs.map fun c => { c with s1 := 0, s2 := 0 }

/-- initialise(u0) over the sections. -/
def initialise (d : BitVec 512) (ffHeld u0 : Fl) (cs : List Sec) : List Sec :=
  let k := ldInteg d
  if k = 0xF then zeroStates cs
  else
    let v := Fl.fma (Fl.neg (ldFfGain d)) ffHeld u0
    let after := cs.drop (k + 1)
    let prod := after.foldl (fun p c => Fl.mul p (secGain c)) Fl.one
    let y := Fl.div v prod
    match cs.drop k with
    | [] => zeroStates cs
    | c :: _ =>
      let s2 := Fl.mul (Fl.add Fl.one (secA1 d k c)) y
      zeroStates (cs.take k) ++ [{ c with s1 := y.toBits, s2 := s2.toBits }] ++ initAfter y after

/-- initialise(U_PREV) on working values. -/
def LoopWork.init (w : LoopWork) (d : BitVec 512) : LoopWork :=
  { w with secs := initialise d (Fl.ofBits w.ffHeld) (Fl.ofBits w.uPrev) w.secs }

/-! ## Commands at the launch (R144, R145) -/

/-- The alternate group that holds set `n`. -/
def LoopWork.altOf (w : LoopWork) (n : Nat) : List Sec := w.alts.filter fun x => x.set == n

/-- The sections of set `n` as the loop holds it. -/
def LoopWork.held (w : LoopWork) (n : Nat) : Option (List Sec) :=
  if n = w.active then some w.secs
  else match w.altOf n with
    | [] => none
    | xs => some xs

/-- A section with the coefficients of another. -/
def Sec.withCoeff (x c : Sec) : Sec := { x with b0 := c.b0, b1 := c.b1, b2 := c.b2, a1 := c.a1, a2 := c.a2 }

/-- SWITCH exchanges the coefficients in use with those of set `n`; the alternate blocks then hold the set left. -/
def LoopWork.exchange (w : LoopWork) (n : Nat) : LoopWork :=
  let grp := w.altOf n
  { w with
    secs := List.zipWith Sec.withCoeff w.secs grp
    alts := ((w.alts.foldl (fun (acc : List Sec × List Sec) x =>
        if x.set == n then
          match acc.2 with
          | [] => (acc.1 ++ [x], [])
          | c :: cs => (acc.1 ++ [{ x.withCoeff c with set := w.active }], cs)
        else (acc.1 ++ [x], acc.2)) ([], w.secs)).1)
    active := n }

/-- Leaving FAULT (R136): initialise, then AUTO by a soft start (carried as HELD within the launch), or MANUAL at
U_PREV. -/
def LoopWork.leaveFault (w : LoopWork) (d : BitVec 512) : LoopWork :=
  let w := w.init d
  if ldMan0 d then { w with state := 1, manual := w.uPrev } else { w with state := 2 }

/-- The pending command takes effect (R144, R145): the working values, and the set of a SWITCH discarded at its
installation. -/
def LoopWork.apply (w : LoopWork) (d : BitVec 512) (c : LoopCmd) : LoopWork × Option Nat :=
  match c.cmd with
  | 1 => if w.state = 1 then ({ w.init d with state := 2 }, none) else (w, none)
  | 2 => if w.state = 3 then (w, none) else ({ w with state := 1, manual := c.val }, none)
  | 3 => if w.state = 1 then ({ w with manual := c.val }, none) else (w, none)
  | 4 => if w.state = 3 ∧ setValid d w.secs then (w.leaveFault d, none) else (w, none)
  | _ =>
    match w.held c.set with
    | none => (w, some c.set)
    | some xs =>
      if c.set = w.active ∧ w.state ≠ 3 then (w, none)
      else if !setValid d xs then (w, some c.set)
      else if c.set = w.active then (w.leaveFault d, none)
      else
        let w := w.exchange c.set
        if w.state = 3 then (w.leaveFault d, none) else (w.init d, none)

/-! ## First launch and re-entry (R126, R134, R321) -/

/-- The first-launch step: starting output, mode, set 0. -/
def LoopWork.firstLaunch (w : LoopWork) (d : BitVec 512) (rb : Option Fl) : LoopWork :=
  let u0 := match rb with
    | some v => v
    | none => flClamp (ldFaultOut d) (ldOutLo d) (ldOutHi d)
  let w := { w with
    uPrev := u0.toBits, manual := u0.toBits, first := false, state := if ldMan0 d then 1 else 2 }
  if setValid d w.secs then w.init d else { w with state := 3, cause := 1 }

/-- The re-entry step (R321): `lag0` that the LAG 0 column holds, `last` the last committed value. -/
def LoopWork.reentry (w : LoopWork) (d : BitVec 512) (lag0 : Bool) (last : F32) : LoopWork :=
  match w.state with
  | 0 => if lag0 then { w with uPrev := last } else { ({ w with uPrev := last }).init d with state := 2 }
  | 1 => { w with uPrev := last }
  | 2 => ({ w with uPrev := last }).init d
  | _ => w

/-! ## One cycle (R126) -/

/-- One section of the cascade: output and new states (R124). -/
def secStep (a1 : Fl) (c : Sec) (x : Fl) : Fl × Fl × Fl :=
  let y := Fl.fma (Fl.ofBits c.b0) x (Fl.ofBits c.s1)
  let t1 := Fl.fma (Fl.ofBits c.b1) x (Fl.ofBits c.s2)
  let t2 := Fl.fma (Fl.ofBits c.b2) x Fl.zero
  (y, Fl.fma (Fl.neg a1) y t1, Fl.fma (Fl.neg (Fl.ofBits c.a2)) y t2)

/-- The cascade from section `i` on: its output and the new states of each section. -/
def cascade (d : BitVec 512) : Nat → List Sec → Fl → Fl × List (Fl × Fl)
  | _, [], x => (x, [])
  | i, c :: cs, x =>
    let r := secStep (secA1 d i c) c x
    let q := cascade d (i + 1) cs r.1
    (q.1, (r.2.1, r.2.2) :: q.2)

/-- The new states stored; the integrating section keeps its own when frozen. -/
def storeStates (integ : Nat) (freeze : Bool) : Nat → List Sec → List (Fl × Fl) → List Sec
  | i, c :: cs, n :: ns =>
    (if i = integ ∧ freeze then c else { c with s1 := n.1.toBits, s2 := n.2.toBits }) ::
      storeStates integ freeze (i + 1) cs ns
  | _, cs, _ => cs

/-- What a cycle of a loop yields: the working values, the record it writes (0 fresh, 1 late, 2 fault), the cause of a
FAULT entered (0 none), e and u_raw, and whether sections were computed. -/
structure Cycle where
  w     : LoopWork
  kind  : Nat := 0
  enter : Nat := 0
  e     : Fl := .fin false 0 (-149)
  uRaw  : Fl := .fin false 0 (-149)
  ran   : Bool := false

/-- A cycle that computes nothing freezes nothing and adds no excitation (R123). -/
def LoopWork.still (w : LoopWork) : LoopWork := { w with awF := false, cmpF := false, excited := false }

/-- A FAULT entered in this cycle: the blocks keep the content `before` but for STATUS. (DEDUCED, log entry 28) -/
def enterFault (before : LoopWork) (cause : Nat) : Cycle :=
  { w := { before.still with state := 3, cause := cause }, kind := 2, enter := cause }

/-- Rate and range limits (R129), then AUTO's freezes (R130, R131) and the new states. The bounds U_PREV ± RATE × p are a rounded
product and a rounded sum. (DESIGN CHOICE, log entry 113) -/
def limitStore (d : BitVec 512) (before w : LoopWork) (uRaw e : Fl) (ns : List (Fl × Fl)) (compl exc ran : Bool) : Cycle :=
  let cause := badCause (uRaw :: ns.foldr (fun n acc => n.1 :: n.2 :: acc) [])
  if cause ≠ 0 then enterFault before cause
  else
    let p := loopP (ldClass d)
    let up := Fl.ofBits w.uPrev
    let u := flClamp uRaw (Fl.sub up (Fl.mul (ldRateDn d) p)) (Fl.add up (Fl.mul (ldRateUp d) p))
    let u := flClamp u (ldOutLo d) (ldOutHi d)
    let hi := Fl.lt u uRaw
    let lo := Fl.lt uRaw u
    let lim := match ldAw d with
      | 0 => (hi && Fl.lt Fl.zero e) || (lo && Fl.lt e Fl.zero)
      | 1 => hi || lo
      | _ => false
    let auto := w.state == 0
    let w := { w with
      limHi := hi, limLo := lo, awF := auto && lim, cmpF := auto && compl, excited := exc
      secs := if auto then storeStates (ldInteg d) (lim || compl) 0 w.secs ns else w.secs
      uPrev := u.toBits }
    { w := w, kind := 0, e := e, uRaw := uRaw, ran := ran }

/-- Inputs of a cycle: what R127 finds usable, the raw PV record, the compliance mark of the readback, and the
excitation as a function of e. -/
structure LoopIn where
  pv    : Option Fl := none
  pvRec : W64 := 0
  pvKindOk : Bool := false
  sp    : Option Fl := none
  ff    : Option Fl := none
  rb    : Option Fl := none
  compl : Bool := false

/-- A PV that is late and nothing worse holds the loop for this cycle (R137). -/
def pvLateOnly (i : LoopIn) : Bool :=
  recBit i.pvRec qLate && !recBit i.pvRec qStale && !recBit i.pvRec qSubst && !recBit i.pvRec qRange &&
  !recBit i.pvRec qNoAuth && i.pvKindOk

/-- The reaction to a PV that is not usable (R137). What the cycle stored before the test of PV stays: nothing was computed
that R135 would discard. -/
def pvMissing (d : BitVec 512) (w : LoopWork) (i : LoopIn) : Cycle :=
  if pvLateOnly i then { w := w.still, kind := 1 }
  else if ldInFail d && w.pvSeen then enterFault w 6
  else { w := { w.still with state := 2 }, kind := 1 }

/-- The processing of a loop after the first-launch, re-entry and command steps (R126 to R131, R136, R137). `before` is
what the blocks keep when the cycle ends in FAULT; `exc e` the excitation. -/
def loopCycle (d : BitVec 512) (before w : LoopWork) (i : LoopIn) (exc : Fl → Fl) : Cycle :=
  if w.state = 3 then { w := w.still, kind := 2 }
  else
    let w := match i.ff with
      | some v => { w with ffHeld := v.toBits }
      | none => w
    if w.state = 1 then limitStore d before w (Fl.ofBits w.manual) Fl.zero [] false false false
    else match i.pv with
      | none => pvMissing d w i
      | some pv =>
        let w := { w with pvSeen := true }
        let tgt := match i.sp with
          | some v => v
          | none => if w.spSeen then Fl.ofBits w.tgt else pv
        let w := { w with spSeen := w.spSeen || i.sp.isSome }
        let soft := w.state == 2 || Fl.lt (ldSpStep d) (Fl.sub tgt (Fl.ofBits w.tgt)).abs
        let wsp := if soft then pv else Fl.ofBits w.wsp
        let step := Fl.mul (ldSpRate d) (loopP (ldClass d))
        let dist := Fl.sub tgt wsp
        let wsp := if Fl.le dist.abs step then tgt
          else Fl.add wsp (if Fl.lt Fl.zero dist then step else step.neg)
        let w := { w with
          state := 0, wsp := wsp.toBits, tgt := tgt.toBits, ramping := !Fl.feq wsp tgt }
        let e := if ldDir d then Fl.sub pv wsp else Fl.sub wsp pv
        let q := cascade d 0 w.secs e
        let u0 := Fl.fma (ldFfGain d) (Fl.ofBits w.ffHeld) q.1
        let x := if ldAdapt d then exc e else Fl.zero
        let uRaw := if ldAdapt d then Fl.add u0 x else u0
        limitStore d before w uRaw e q.2 i.compl (!x.isZero) true

end Sys2Proof.Machine
end

