-- ==== Sys2Proof/Machine/ImageCheck.lean ====
section
/-! DEFINITION. What start-up checks of a decoded plant image: field ranges, reserved codes and table rules (refusal 0x09) and
the capacity figures (refusal 0x0A) of R471, chapter by chapter. -/

namespace Sys2Proof.Machine

/-- A number within a range. -/
def inRange (lo hi x : Nat) : Bool := decide (lo ≤ x) && decide (x ≤ hi)

/-- A number within a range, in steps. -/
def inSteps (lo hi step x : Nat) : Bool := inRange lo hi x && x % step == 0

/-- A finite binary32 value within a range. -/
def flIn (lo hi : Fl) (x : F32) : Bool := let v := Fl.ofBits x; v.finite && Fl.le lo v && Fl.le v hi

/-- No value twice. -/
def distinct : List Nat → Bool
  | [] => true
  | x :: xs => !xs.contains x && distinct xs

/-! ## Points (00), start-up and time (02, 03) -/

/-- Class, KIND and stale limit of a point (R12, R13). KIND 0x00, Unassigned, is no reserved code: an image may declare it.
(DESIGN CHOICE, log entry 98) -/
def pointOk (p : PointCfg) : Bool :=
  decide (p.cls ≤ 2) && decide (p.kind ≤ 6) &&
  (match p.stale with
   | some n => inRange 1 65534 n
   | none => true)

/-- A local index of a point (R21). -/
def localOk (p : Nat) : Bool := decide (p < 262144)

def pointsOk (i : PlantImage) : Bool :=
  (i.points.all fun p => decide (p.1 < 262144) && pointOk p.2) &&
  i.subPoints.all fun p => pointOk p.2

/-- R53, R61, R80, R83, R475. -/
def timeOk (i : PlantImage) : Bool :=
  inSteps 0 10000000000 10000000 i.holdTime && inRange 1 60 i.acqLimit && inRange 1 16 i.hops && decide (i.ptSrc < 8) &&
  decide (i.tbCfg.length ≤ 8) && (i.tbCfg.all fun w => bits w 23 22 != 3) &&
  decide (i.delayAsym.length ≤ 2) && i.delayAsym.all fun d => decide (d.natAbs ≤ 1000000)

/-- A time-base selector (R84): a reserved code refuses the image, as R471 says of every field. -/
def selOk (n : Nat) : Bool := n == 0 || inRange 8 15 n

/-! ## The launch table (04 R92 to R95) -/

def groupOf (i : PlantImage) (g : Nat) : Option (BitVec 128) := i.groups.find? fun d => bits d 15 8 == g

/-- A group's class and offsets (R92, R93). -/
def groupOk (d : BitVec 128) : Bool :=
  match grpClass d with
  | 0 => decide (grpS d < 50000) && grpC d == 0 && grpK d == 0
  | 3 => false
  | c => decide (grpS d ≤ grpC d) && decide (grpC d ≤ grpK d) && decide (grpK d < Config.period c)

/-- The targets of an action lie within their numbering (R94). -/
def targetsOk (w : W64) : Bool :=
  let last := entTarget w + entCount w
  decide (1 ≤ entCount w) &&
  (match entAction w with
   | 1 | 5 => decide (last ≤ 10)
   | 2 | 6 => decide (last ≤ 256)
   | 3 => decide (last ≤ 16384)
   | 4 => decide (last ≤ 64) && entCount w == 1
   | 7 => decide (last ≤ 2048)
   | _ => false)

/-- An entry (R95). -/
def entryOk (i : PlantImage) (w : W64) : Bool :=
  targetsOk w &&
  (match groupOf i (entGroup w) with
   | some d => grpClass d != 0 || inRange 1 3 (entAction w)
   | none => false) &&
  (entAction w != 4 || i.tasks.contains (entTarget w))

/-- The offset at which an entry runs, and its period. -/
def entryAt (i : PlantImage) (w : W64) : Nat × Nat :=
  match groupOf i (entGroup w) with
  | some d =>
    let a := entAction w
    (if a ≤ 2 ∨ grpClass d = 0 then grpS d else if a ≤ 4 then grpC d else grpK d, Config.period (grpClass d))
  | none => (0, 1)

/-- At most 400 entries run within any 2 µs (R92). A window that begins at an entry's instant holds the most. -/
def windowOk (i : PlantImage) : Bool :=
  let xs := i.entries.map (entryAt i)
  xs.length ≤ 400 ||
  xs.all fun x => (List.range (100000000 / x.2)).all fun k =>
    let t := x.1 + k * x.2
    decide ((xs.filter fun y => (y.1 + 100000000 - t % y.2) % y.2 < 2000).length ≤ 400)

/-- The launch table (R95). -/
def tableOk (i : PlantImage) : Bool :=
  decide (i.groups.length ≤ 256) && distinct (i.groups.map fun d => bits d 15 8) &&
  decide ((i.groups.filter fun d => grpClass d == 0).length ≤ 16) && i.groups.all groupOk &&
  decide (i.entries.length ≤ 65536) && i.entries.all (entryOk i) &&
  (i.groups.all fun d => decide ((i.entries.filter fun w => entGroup w == bits d 15 8).length ≤ 4096)) &&
  distinct ((i.entries.filter fun w => entAction w == 4).map entTarget) && windowOk i &&
  i.tasks.all fun t => decide (t < 64)

/-! ## Loops (05 R117 to R121, R138, R146) -/

/-- The image's loop blocks, by block. -/
def imgBlock (i : PlantImage) (b : Nat) : BitVec 256 := (i.loopBlocks.lookup b).getD 0

/-- The descriptor whose first block is `b`. -/
def imgDesc (i : PlantImage) (b : Nat) : BitVec 512 :=
  BitVec.ofNat 512 ((imgBlock i b).toNat + (imgBlock i (b + 1)).toNat * 2 ^ 256)

/-- A point reference (R119); `none_` where SRC 0b11 is allowed. -/
def refOk (none_ : Bool) (r : Nat) : Bool :=
  match r / 262144 with
  | 0 => true
  | 1 => decide (r % 262144 < 65536)
  | 2 => false
  | _ => none_

/-- A point that an immediate channel commits, and one that a launched channel commits (R16, R138). -/
def pointCommitted (i : PlantImage) (imm : Bool) (p : Nat) : Bool :=
  (i.uc.any fun c => inRange 6 8 (bits c.cfg 31 28) && bitAt c.cfg 11 == imm && c.cmd == p) ||
  (i.dc.any fun c => bits c.cfg 31 28 == 3 && bitAt c.cfg 20 == imm && c.cmd == p)

/-- A point that a Scapex channel of output kind `imm` commits (R103). -/
def pointCarried (i : PlantImage) (imm : Bool) (p : Nat) : Bool :=
  i.sxCar.any fun c => (List.range c.outPts.length).any fun k => listGet 0 c.outPts k == p && c.immediate.contains k == imm

/-- OUTKIND agrees with the channel (R138). -/
def outKindOk (i : PlantImage) (d : BitVec 512) : Bool :=
  let p := ldOut d % 262144
  if ldClass d = 0 then
    (if ldImmediate d then pointCommitted i true p || pointCarried i true p
     else !pointCommitted i true p && !pointCommitted i false p && !pointCarried i true p && !pointCarried i false p)
  else !ldImmediate d && !pointCommitted i true p && !pointCarried i true p

/-- A binary32 limit of at least zero, +∞ among them. -/
def flLimit (x : Fl) : Bool := Fl.le Fl.zero x

/-- A descriptor's own fields (R120, R121). -/
def descOk (d : BitVec 512) : Bool :=
  ldFormat d == 1 && ldClass d != 3 && ldAw d != 3 &&
  (ldInteg d == 15 || (decide (ldInteg d ≤ 7) && decide (ldInteg d < ldNsec d))) &&
  refOk false (ldPv d) && refOk false (ldSp d) && refOk true (ldFf d) && refOk true (ldRb d) && decide (ldOut d < 262144) &&
  flLimit (ldRateDn d) && flLimit (ldRateUp d) && flLimit (ldSpStep d) && Fl.lt Fl.zero (ldSpRate d) &&
  Fl.lt (ldOutLo d) (ldOutHi d)

/-- One compute entry covers a descriptor, in the group its descriptor names and of its class (R117). -/
def coveredOk (i : PlantImage) (l : Nat) (d : BitVec 512) : Bool :=
  match i.entries.filter fun w => entAction w == 3 && decide (entTarget w ≤ l) && decide (l < entTarget w + entCount w) with
  | [w] =>
    entGroup w == ldGroup d &&
    (match groupOf i (ldGroup d) with
     | some g => grpClass g == ldClass d
     | none => false)
  | _ => false

/-- The blocks of the loops, as (first, count). -/
def loopSpans (i : PlantImage) : List (Nat × Nat) := i.loopDir.map fun p => (p.2, ldBlocks (imgDesc i p.2))

/-- Spans that share no block. -/
def apart : List (Nat × Nat) → Bool
  | [] => true
  | x :: xs => (xs.all fun y => decide (x.1 + x.2 ≤ y.1) || decide (y.1 + y.2 ≤ x.1)) && apart xs

/-- The points that fast loops write as immediate outputs. -/
def immediateOuts (i : PlantImage) : List Nat :=
  (i.loopDir.filter fun p => ldImmediate (imgDesc i p.2)).map fun p => ldOut (imgDesc i p.2)

/-- The loops' table rules; one fast loop writes an immediate output (R102). A descriptor beyond the numbering of R117 is left
to the count. -/
def loopsOk (i : PlantImage) : Bool :=
  (i.loopDir.all fun p =>
    let d := imgDesc i p.2
    descOk d && (decide (16384 ≤ p.1) || coveredOk i p.1 d) && outKindOk i d) &&
  distinct (i.loopDir.map Prod.fst) && apart (loopSpans i) && (loopSpans i).all (fun x => decide (x.1 + x.2 ≤ 98304)) &&
  distinct (immediateOuts i)

/-- Loops of a class. -/
def loopCount (i : PlantImage) (c : Nat) : Nat := (i.loopDir.filter fun p => ldClass (imgDesc i p.2) == c).length

/-- The counts and memory of R117 and R146. -/
def loopsFit (i : PlantImage) : Bool :=
  decide (i.loopDir.length ≤ 16384) && (i.loopDir.all fun p => decide (p.1 < 16384)) &&
  decide (loopCount i 0 ≤ 256) && decide (loopCount i 1 ≤ 8192) &&
  decide ((loopSpans i).foldl (fun n x => n + x.2) 0 ≤ 98304)

/-! ## Adaptation and surge defence (06 R149 to R151, R161) -/

/-- The descriptor of a loop, where the image has one. -/
def imgLoop (i : PlantImage) (l : Nat) : Option (BitVec 512) := (i.loopDir.lookup l).map (imgDesc i)

/-- Permissions and what each requires (R149). -/
def permsOk (i : PlantImage) (a : AdaptCfg) (d : BitVec 512) : Bool :=
  (!a.ident || (ldAdapt d && ldInteg d != 15 && !a.tuneSets.isEmpty)) && (!a.install || a.ident) &&
  (!a.surge || i.surge.any fun g => g.members.any fun m => m.1 == a.loop && decide (1 ≤ m.2) && decide (m.2 ≤ ldNalt d))

/-- The envelope of a loop that has IDENT (R150, R151, R154). -/
def envelopeOk (a : AdaptCfg) (d : BitVec 512) : Bool :=
  let span := Fl.sub (ldOutHi d) (ldOutLo d)
  let h := adaptMag a d
  (a.pulse || a.relay) && Fl.lt Fl.zero h && Fl.le (Fl.mul h (Fl.ofNat 10)) span &&
  Fl.lt Fl.zero (Fl.ofBits a.dMax) && flIn Fl.zero (Fl.ofBits a.dMax) (adaptStart a).toBits && decide (4 * adaptPulse a ≤ a.tMax) &&
  inRange 1000000000 3600000000000 a.tMax && inRange 3600000000000 2592000000000000 a.interval &&
  inRange 1 2 a.tuneSets.length && (a.tuneSets.all fun n => inRange 1 (ldNalt d) n) &&
  flIn (Fl.dec 1 4) Fl.one a.rLo && flIn Fl.one (Fl.ofNat 4) a.rHi && flIn (Fl.dec 11 10) (Fl.ofNat 2) a.stepMax &&
  flIn (Fl.dec 1 2) (Fl.ofNat 10) a.lambda && flIn (Fl.dec 1 20) (Fl.dec 1 2) a.fitMax &&
  flIn (Fl.dec 3 2) (Fl.ofNat 4) a.gmMin && flIn (Fl.ofNat 30) (Fl.ofNat 70) a.pmMin &&
  inRange 60000000000 86400000000000 a.probation && flIn Fl.one (Fl.ofNat 3) a.revertRatio && decide (a.interact ≤ 255) &&
  flIn (Fl.ofNat 2) (Fl.ofNat 20) a.nDiv

def adaptOk (i : PlantImage) : Bool :=
  i.adapt.all fun a =>
    match imgLoop i a.loop with
    | some d => permsOk i a d && (!a.ident || envelopeOk a d)
    | none => false

/-- A surge group (R161). -/
def surgeOk (i : PlantImage) (g : SurgeCfg) : Bool :=
  let ch := fun (c : Fin 64) =>
    i.gyCh.any fun x => x.ch == c && x.mode == 2 && inRange 1000000 100000000 (gyParam x)
  ch g.qCh && ch g.dpCh && inRange 2 8 g.line.length &&
  Fl.lt Fl.zero (Fl.ofBits g.mTrip) && Fl.lt (Fl.ofBits g.mTrip) (Fl.ofBits g.mArm) &&
  Fl.lt (Fl.ofBits g.mArm) (Fl.ofBits g.mRel) && inRange 1 15 g.n && inRange 1000000000 600000000000 g.hRel &&
  decide (g.members.length ≤ 4)

def surgesOk (i : PlantImage) : Bool :=
  decide (i.surge.length ≤ 32) && distinct (i.surge.map fun g => g.g.val) && i.surge.all (surgeOk i)

/-- Loops with any permission (R149). -/
def adaptFits (i : PlantImage) : Bool :=
  decide ((i.adapt.filter fun a => a.ident || a.install || a.surge).length ≤ 4096)

/-! ## Own channels (07, 08) -/

/-- The span of a channel in its electrical unit: for RTD ranges 0x0 to 0x2 the resistances of −200 °C and +850 °C, for a
thermocouple its type's tabulated voltages (R170, R177). -/
def elecSpan (m r tc : Nat) : Fl × Fl :=
  if m = 4 ∧ r ≤ 2 then (Fl.ofBits (Config.rtdSpan r).1, Fl.ofBits (Config.rtdSpan r).2)
  else if m = 5 then (Fl.ofBits (Config.tcVolts tc).1, Fl.ofBits (Config.tcVolts tc).2)
  else ucMeasSpan m r tc

/-- TRIM_O lies within ±2 % of the span, in the channel's electrical unit (R175). -/
def trimOk (c : UcCfg) : Bool :=
  let m := bits c.cfg 31 28
  if m = 0 then true
  else
    let sp := elecSpan m (bits c.cfg 27 24) (bits c.cfg 18 15)
    let lim := Fl.div (Fl.sub sp.2 sp.1) (Fl.ofNat 50)
    flIn lim.neg lim c.trimO

/-- A declared safe value lies within the nominal range of its output (R61, R170). -/
def safeOk (c : UcCfg) : Bool :=
  let m := bits c.cfg 31 28
  let r := bits c.cfg 27 24
  if m < 6 ∨ 8 < m ∨ bits c.cfg 10 9 ≠ 2 then true
  else if m = 8 then flIn (if r = 0 then Fl.ofInt (-10) else Fl.zero) (Fl.ofNat 10) c.safeVal
  else flIn (if r = 0 then Fl.ofNat 4 else Fl.zero) (Fl.ofNat 20) c.safeVal

/-- A universal channel's codes and trims (R168 to R179, R190, R197). -/
def ucOk (c : UcCfg) : Bool :=
  let m := bits c.cfg 31 28
  let r := bits c.cfg 27 24
  decide (m ≤ 8) && decide (bits c.cfg 23 21 ≤ 4) && bits c.cfg 20 19 != 3 && decide (bits c.cfg 18 15 ≤ 7) &&
  bits c.cfg 14 13 != 3 && bits c.cfg 10 9 != 3 && inRange 60 260 (bits c.cfg 8 0) &&
  (match m with
   | 1 => decide (r ≤ 3)
   | 2 | 3 | 6 | 7 | 8 => decide (r ≤ 1)
   | 4 => decide (r ≤ 4)
   | _ => true) &&
  flIn (Fl.dec 9 10) (Fl.dec 11 10) c.trimG && trimOk c && safeOk c && decide (c.tauCs ≤ 6000) && inRange 5 600 c.scan &&
  (bits c.cfg 23 21 != 4 || inRange 1 3 m) && (bits c.cfg 14 13 == 0 || m == 2 || m == 3 || m == 6 || m == 7) &&
  (!bitAt c.cfg 11 || inRange 6 8 m) && decide (c.hartPts.length ≤ 4) && decide (c.hartVars.length ≤ 4) && c.hartPts.all localOk && localOk c.point && localOk c.cmd

/-- A digital channel's codes (R198 to R201, R219); reserved bits are ignored (R6). -/
def dcOk (c : DcCfg) : Bool :=
  decide (bits c.cfg 31 28 ≤ 3) && bits c.cfg 27 26 != 3 && bits c.cfg 25 23 != 7 && bits c.cfg 22 21 != 3 &&
  bits c.cfg 19 18 != 3 && localOk c.point && localOk c.cmd

def channelsOk (i : PlantImage) : Bool :=
  i.uc.all ucOk && i.dc.all dcOk && distinct (i.uc.map fun c => c.ch.val) && distinct (i.dc.map fun c => c.ch.val)

/-! ## Geyser (09) -/

/-- The kind that the image declares for what a point reference names. -/
def imgKind (i : PlantImage) (r : Nat) : Nat :=
  (((if r / 262144 = 0 then i.points.lookup (r % 262144) else i.subPoints.lookup (r % 65536))).getD {}).kind

/-- A capture channel (R220, R221, R232). -/
def gyChOk (i : PlantImage) (g : GyChCfg) : Bool :=
  (match g.source with
   | 1 => decide (g.index < 32)
   | 2 => inRange 4 9 g.index
   | 3 => decide (g.index < 1048576) && refOk false g.index
   | 4 => match imgLoop i g.index with
     | some d => ldClass d == 0
     | none => false
   | _ => false) &&
  (match g.mode with
   | 0 => inRange 1 65535 (gyParam g)
   | 1 => (g.source == 1 || (g.source == 3 && imgKind i g.index == 1)) && inSteps 10000 1000000000 10000 (gyParam g)
   | 2 => (inRange 1 2 g.source || (g.source == 3 && imgKind i g.index == 1)) && inSteps 10000 1000000000 10000 (gyParam g)
   | _ => false) && decide (g.prio ≤ 3)

/-- A trigger set (R233, R234). -/
def gySetOk (k : GySetCfg) : Bool :=
  decide (k.num ≤ 255) && decide (k.master ≤ 8191) && decide (k.pre ≤ 10000000000) && decide (k.post ≤ 10000000000) &&
  decide (10000 ≤ k.fa) && inRange 1000000 1000000000 k.lead && inRange 100000000 3600000000000 k.holdoff

def geyserOk (i : PlantImage) : Bool :=
  i.gyCh.all (gyChOk i) && i.sliceTb.all selOk && decide (i.sliceTb.length ≤ 10) && i.gySet.all gySetOk && (i.gyPat.all fun p => decide (p.qual ≤ 65535)) &&
  distinct (i.gyCh.map fun c => c.ch.val) && distinct (i.gyCond.map fun c => c.n.val) &&
  distinct (i.gyPat.map fun c => c.u.val) && distinct (i.gySet.map fun c => c.k.val) &&
  inSteps 268435456 2147483648 268435456 i.gyArchive

/-! ## Scapex, plant network, CAN (10 to 12) -/

/-- The carrier is sampled in a fast group (R103). -/
def carFast (i : PlantImage) (k : Nat) : Bool :=
  i.entries.any fun w => entAction w == 2 && decide (entTarget w ≤ k) && decide (k < entTarget w + entCount w) &&
    (match groupOf i (entGroup w) with
     | some d => grpClass d == 0
     | none => false)

/-- A carrier: its points, and immediate channels only where it lies in a fast group (R103). -/
def carOk (i : PlantImage) (c : CarCfg) : Bool :=
  inSteps 1000000 10000000000 1000000 c.watchdog && inRange 1 64 c.slices &&
  (c.inPts.all fun p => localOk p || p == 0x3FFFFF) && (c.outPts.all fun p => localOk p || p == 0x3FFFFF) &&
  (c.immediate.all fun k => decide (k < 8 * c.slices)) && (c.immediate.isEmpty || carFast i c.i.val)

/-- D_OUT of a port, and its carriers (R248, R254, R239). -/
def scapexOk (i : PlantImage) : Bool := i.sxCar.all (carOk i) && i.sxPort.all fun c => inRange 1 255 c.dOut

/-- Publication and subscription streams, transit, VLANs, gates (R106 to R108, R262, R264, R265). -/
def netOk (i : PlantImage) : Bool :=
  decide (i.pubs.length ≤ 2048) &&
  (i.pubs.all fun p =>
    (p.cls == 1 || p.cls == 2) && inSteps 10000 (Config.period p.cls - 10000) 10000 p.ta && inRange 1 180 p.points.length &&
    inRange 1 2 p.port && decide (p.vlan < 4096) &&
    p.points.all fun n =>
      let c := ((i.points.lookup n).getD {}).cls
      localOk n && (c == p.cls || (c == 0 && p.cls == 1))) &&
  (i.subs.all fun n =>
    (n.cls == 1 || n.cls == 2) && decide (n.binary ≤ 8191) && decide (n.stream < 2048) && decide (n.points.length ≤ 180)) &&
  decide (i.transit.length ≤ 8192) &&
  (i.transit.all fun n => (n.cls == 1 || n.cls == 2) && decide (n.binary ≤ 8191) && decide (n.stream < 2048) && n.merges.all fun p => inRange 1 2 p) &&
  distinct (i.peers.filterMap fun p => p.binary) && (i.peers.all fun p => p.ports.all fun n => inRange 1 2 n) &&
  decide (i.ctlVlan < 4096) &&
  (i.vlans.all fun v => inRange 1 4094 v.vid && decide (v.pcp ≤ 4)) &&
  i.portTb.all selOk && (i.gcl.all fun e => inRange 1 2 e.1 && inSteps 0 999990 10 e.2.offset) &&
  decide ((i.gcl.filter fun e => e.1 == 1).length ≤ 256) && decide ((i.gcl.filter fun e => e.1 == 2).length ≤ 256)

/-- A sample point between 50 % and 90 % of the bit; 0 is the default. -/
def samplePoint (bit q : Nat) : Bool := q == 0 || (decide (bit ≤ 2 * q) && decide (10 * q ≤ 9 * bit))

def canOk (i : PlantImage) : Bool :=
  (i.cnPort.all fun c =>
    let n := bits c.cfg 27 24
    let d := bits c.cfg 23 20
    selOk (bits c.cfg 19 16) && decide (n ≤ 3) && decide (d ≤ 5) && samplePoint (canQuanta n) (bits c.timing 25 16) &&
    samplePoint (canDataQuanta n d) (bits c.timing 9 0)) &&
  distinct (i.cnPort.map fun c => c.p.val) && distinct (i.cnObj.map fun c => 128 * c.p.val + c.o.val) &&
  i.cnObj.all fun c => bitAt c.hdr 42 || bits c.hdr 28 11 == 0

/-! ## The rest (14, 16, 18, 19) -/

/-- The transition point, where one is named: a reference to a point of KIND Boolean or Enumeration (R119, R411). -/
def transitionOk (i : PlantImage) : Bool :=
  match i.transition with
  | some (r, _) => decide (r < 1048576) && refOk false r && (imgKind i r == 4 || imgKind i r == 6)
  | none => true

def restOk (i : PlantImage) : Bool :=
  transitionOk i &&
  decide (i.splittable.length ≤ 2) && distinct i.splittable && (i.splittable.all fun p => inRange 1 3 p) &&
  inSteps 0 536870912 67108864 i.splitSize && (i.slots.all fun x => decide (x.1 ≤ 63)) &&
  inSteps 1000000 1000000000 1000000 i.anchorPeriod && decide (i.rates.length ≤ 256) &&
  (i.rates.all fun r => inRange 1 10000 r.rate && inRange 1 2048 r.burst) &&
  inRange 60000000000 3600000000000 i.rollWait && decide (i.maps.length ≤ 8) &&
  (i.taskPts.all fun p => localOk p.2) &&
  (i.retained.all fun x => decide (x.1 < 2097152) && decide (655360 ≤ x.2) && decide (x.2 < 1015808)) &&
  (i.extPorts.all fun x => decide (x.1 ≤ 127) && decide (x.2 ≤ 2)) && (i.twoStep.all fun p => inRange 1 2 p) &&
  (match i.healthPts with
   | some p => localOk p.1 && localOk p.2
   | none => true) &&
  i.maps.all fun m => m.entries.all fun e => inRange 1 4 (bits e 63 60) && decide (1 ≤ bits e 15 0)

/-- Refusal 0x09: the format, every field range, reserved code and table rule. -/
def imageFormed (i : PlantImage) : Bool :=
  i.format == 1 && inRange 1 2 i.baseKind && pointsOk i && timeOk i && tableOk i && loopsOk i && adaptOk i && surgesOk i &&
  channelsOk i && geyserOk i && scapexOk i && netOk i && canOk i && restOk i

/-- Refusal 0x0A: the capacity figures that the module checks itself. -/
def imageFits (i : PlantImage) : Bool :=
  loopsFit i && adaptFits i && decide (i.peers.length ≤ 4096) && decide (i.subs.length ≤ 4096) && decide (i.subPoints.length ≤ 65536) &&
  (i.subPoints.all fun p => decide (p.1 < 65536)) &&
  decide (i.subs.foldl (fun n x => n + x.points.length) 0 ≤ 65536)

end Sys2Proof.Machine
end

