-- ==== Sys2Proof/Machine/Loop.lean ====
section
/-! DEFINITION. The loop engine (05): lanes, launches, completion, overrun, lane tests and the loop commands. -/

namespace Sys2Proof.Machine

/-! ## A loop in memory (R118) -/

/-- First block of loop `l`, if the directory maps it. -/
def State.loopAt (s : State) (l : Nat) : Option Nat :=
  match Tab.get 0 s.le.dir l with
  | 0 => none
  | b + 1 => some b

/-- The descriptor at block `b`. -/
def State.descAt (s : State) (b : Nat) : BitVec 512 :=
  BitVec.ofNat 512 ((s.blkGet b).toNat + (s.blkGet (b + 1)).toNat * 2 ^ 256)

/-- Blocks `b` to `b + n − 1` as sections. -/
def State.secsAt (s : State) (b n : Nat) : List Sec := (List.range n).map fun i => Sec.ofBlock (s.blkGet (b + i))

def State.run (s : State) (l : Nat) : LoopRun := Tab.get {} s.le.runs l

def State.setRun (s : State) (l : Nat) (r : LoopRun) : State :=
  { s with le := { s.le with runs := Tab.set {} s.le.runs l r } }

/-- The working values of the loop at block `b` with descriptor `d`. -/
def State.workAt (s : State) (l b : Nat) (d : BitVec 512) : LoopWork :=
  LoopWork.load (s.blkGet (b + 2)) (s.secsAt (b + 3) (ldNsec d)) (s.secsAt (b + 3 + ldNsec d) (ldNsec d * ldNalt d))
    (s.run l).manual

/-- The working values of loop `l`, with its block and descriptor. -/
def State.loopOf (s : State) (l : Nat) : Option (Nat × BitVec 512 × LoopWork) :=
  match s.loopAt l with
  | none => none
  | some b => some (b, s.descAt b, s.workAt l b (s.descAt b))

/-! ## Inputs and excitation -/

/-- The inputs of a launch (R127). -/
def State.loopIn (s : State) (d : BitVec 512) : LoopIn :=
  let acc := ldAccSubst d
  let rbRec := (s.refGet (ldRb d)).getD 0
  let pvRec := (s.refGet (ldPv d)).getD 0
  let rb := s.usable (ldRb d) acc
  { pv := s.usable (ldPv d) acc, pvRec := pvRec
    pvKindOk := recKind pvRec == 1 && !kindMissing pvRec (s.refKind (ldPv d))
    sp := s.usable (ldSp d) acc, ff := s.usable (ldFf d) acc, rb := rb
    compl := rb.isSome && recBit rbRec qCompl }

/-- The adaptation declarations of loop `l`. -/
def State.adaptCfg (s : State) (l : Nat) : Option AdaptCfg := s.img.adapt.find? fun a => a.loop == l

/-- The class period in ns of a loop. -/
def ldPeriod (d : BitVec 512) : Nat := Config.period (ldClass d)

/-- ε of a relay test (R154). -/
def relayEps (a : AdaptCfg) : Fl := Fl.div (adaptStart a) (Fl.ofNat 2)

/-- The generator's value in this cycle (R154): PULSE gives +h, −h, then 0; RELAY follows e outside ±ε and starts at +h inside.
(DESIGN CHOICE, log entry 114) -/
def slotExc (a : AdaptCfg) (t : TestSlot) (period : Nat) (e : Fl) : Fl :=
  let h := Fl.ofBits t.h
  if t.relay then
    let eps := relayEps a
    if Fl.lt e eps.neg then h else if Fl.lt eps e then h.neg else if t.pos then h else h.neg
  else
    let tp := adaptPulse a / period
    if t.cycle < tp then h else if t.cycle < 2 * tp then h.neg else Fl.zero

/-- The method has run its length (R154): 4 Tp, or 6 full periods of the relay, each two changes of its sign. -/
def methodDone (a : AdaptCfg) (t : TestSlot) (period : Nat) : Bool :=
  if t.relay then decide (12 ≤ t.flips) else decide (4 * (adaptPulse a / period) ≤ t.cycle)

/-- The first condition of R156 that the loop itself shows at `now`, 0 for none: the error, the limits of its last cycle, PV,
the target's change, its mode, T_MAX. -/
def testStop (a : AdaptCfg) (t : TestSlot) (now : Instant) (d : BitVec 512) (w : LoopWork) (i : LoopIn) (e : Fl) : Nat :=
  let jump := match i.sp with
    | some v => Fl.lt (ldSpStep d) (Fl.sub v (Fl.ofBits w.tgt)).abs
    | none => false
  if Fl.lt (Fl.ofBits a.dMax) e.abs then 1
  else if w.limHi || w.limLo then 2
  else if i.pv.isNone then 3
  else if jump then 4
  else if w.state = 1 ∨ w.state = 3 then 7
  else if !methodDone a t (ldPeriod d) && !Instant.before now (t.start.plus a.tMax) then 9
  else 0

/-- The condition of R156 that ends the test on loop `l`, 0 for none or without a test. -/
def State.testStops (s : State) (l : Nat) (now : Instant) (d : BitVec 512) (w : LoopWork) (i : LoopIn) (e : Fl) : Nat :=
  match s.slotOf l, s.adaptCfg l with
  | some k, some a => testStop a (s.slot k) now d w i e
  | _, _ => 0

/-- The excitation of loop `l` (R126, R148, R156): 0 without a test, once its method is over, and in the very cycle in which an
abort condition holds. -/
def State.excitation (s : State) (l : Nat) (now : Instant) (d : BitVec 512) (w : LoopWork) (i : LoopIn) (e : Fl) : Fl :=
  match s.slotOf l, s.adaptCfg l with
  | some k, some a =>
    if testStop a (s.slot k) now d w i e ≠ 0 ∨ methodDone a (s.slot k) (ldPeriod d) then Fl.zero
    else slotExc a (s.slot k) (ldPeriod d) e
  | _, _ => Fl.zero

/-! ## Lanes (R115, R116, R143) -/

/-- The class of loop `l`; 3 where there is no such loop. -/
def State.loopClass (s : State) (l : Nat) : Nat :=
  match s.loopAt l with
  | none => 3
  | some b => ldClass (s.descAt b)

/-- The ready loop a free lane takes: highest class first, then ascending order of readiness (R115, R116). -/
def State.nextReady (s : State) : Option Nat :=
  match s.le.ready.find? (fun l => s.loopClass l == 0) with
  | some l => some l
  | none =>
    match s.le.ready.find? (fun l => s.loopClass l == 1) with
    | some l => some l
    | none => s.le.ready.head?

/-- Free lane `k` takes a ready loop. -/
def State.fillLane (s : State) (k : Nat) : State :=
  if s.laneIn k && (s.lane k).isEmpty then
    match s.nextReady with
    | some l => { (s.setLane k [l]) with le := { (s.setLane k [l]).le with ready := s.le.ready.erase l } }
    | none => s
  else s

/-- Every free lane takes a ready loop. -/
def State.fillLanes (s : State) : State := (List.range 8).foldl State.fillLane s.loadSeen

/-- Loop `l` leaves its lane; an interrupted loop resumes there (R116). -/
def State.leaveLane (s : State) (l : Nat) : State :=
  let s := s.loadSeen
  let s := (List.range 8).foldl (fun s k => if (s.lane k).contains l then s.setLane k ((s.lane k).erase l) else s) s
  ({ s with le := { s.le with ready := s.le.ready.erase l } }).fillLanes

/-! ## Launch (R126, R321) -/

/-- The shadow command of the channel a loop's output commands, else its output record (R321). -/
def State.lastCommitted (s : State) (d : BitVec 512) : F32 :=
  match s.shadowOf (ldOut d) with
  | some v => v
  | none => recVal (s.piGet (ldOut d % 262144))

/-- The first-launch or re-entry step of a loop (R126, R321); what it took from outside the blocks. -/
def State.entryStep (s : State) (l : Nat) (d : BitVec 512) (i : LoopIn) (w : LoopWork) : LoopWork :=
  if w.first then w.firstLaunch d i.rb
  else if (s.run l).seenTk < s.le.takeovers then
    w.reentry d (s.le.lag == 0 || ldClass d == 0) (s.lastCommitted d)
  else if s.le.changed.contains l then w.reentry d false (s.lastCommitted d)
  else w

/-- One launch of loop `l`: what it stages until its completion. -/
def State.stageLoop (s : State) (l : Nat) (t due sAt : Instant) (b : Nat) : Job :=
  let d := s.descAt b
  let w0 := s.workAt l b d
  let i := s.loopIn d
  let w1 := s.entryStep l d i w0
  let before := { w0 with first := false, uPrev := w1.uPrev, manual := w1.manual }
  let firstBad := w0.first && w1.state == 3
  let pend := (s.run l).pend
  let ap := match pend with
    | some c => w1.apply d c
    | none => (w1, none)
  let c0 : Nat := badCause (ap.1.secs.foldr (fun (x : Sec) (acc : List Fl) => Fl.ofBits x.s1 :: Fl.ofBits x.s2 :: acc) [])
  let c := if c0 ≠ 0 ∧ ap.1.state ≠ 3 then enterFault before c0
    else loopCycle d before ap.1 i (s.excitation l t d ap.1 i)
  { t := t, due := due, sAt := sAt, fast := ldClass d == 0, blocks := { c.w with ovr := 0 }.blocks
    manual := c.w.manual, kind := c.kind, badSet0 := firstBad, enter := c.enter, badSet := ap.2
    e := c.e.toBits, uRaw := c.uRaw.toBits, logs := c.ran, abort := s.testStops l t d ap.1 i c.e }

/-! ## Completion, overrun and FAULT (R135, R136, R140 to R142) -/

/-- The active coefficient set of loop `l`. -/
def State.activeSet (s : State) (l : Nat) : Nat :=
  match s.loopOf l with
  | some (_, _, w) => w.active
  | none => 0

/-- An entry to FAULT reported: LE_FAULT, Sinter 0x3001, source 87 (R136, R147). -/
def State.noteFault (s : State) (l cause : Nat) : State :=
  let s := (s.setFld Fld.LE_FAULT_CAUSE cause).setFld Fld.LE_FAULT_LOOP l
  (((s.bump Fld.LE_FAULT_COUNT).note 2 0x3001 [l, cause]).ev 87).adaptFault l (s.activeSet l)

/-- A set discarded at its installation: Sinter 0x3003 (R145). -/
def State.noteBadSet (s : State) (l : Nat) : Option Nat → State
  | some n => s.note 2 0x3003 [l, n]
  | none => s

/-- The record of a loop in FAULT (R136), from the record it replaces; from the stale limit on the declared substitute stands
in it (R12). (DEDUCED, log entry 26) -/
def faultRec (d : BitVec 512) (cfg : PointCfg) (uPrev : F32) (r : W64) : W64 :=
  let age := satAdd 65535 (recAge r) 1
  let q : BitVec 8 := if ldFaultHold d then 0x02 else 0x08
  let v := if ldFaultHold d then uPrev else (flClamp (ldFaultOut d) (ldOutLo d) (ldOutHi d)).toBits
  if cfg.stale.getD 3 ≤ age then
    let q := putBit q qStale true
    (match cfg.subst with
     | some x => mkRec age (recKind r) (putBit q qSubst true).toNat x
     | none => mkRec age (recKind r) q.toNat v)
  else mkRec age (recKind r) q.toNat v

/-- The record a completed cycle writes: fresh, late or fault. -/
def cycleRec (d : BitVec 512) (cfg : PointCfg) (kind : Nat) (uPrev : F32) (r : W64) : W64 :=
  match kind with
  | 0 => freshRec (recKind r) 0 uPrev
  | 1 => lateRec cfg (withVal r uPrev)
  | _ => faultRec d cfg uPrev r

/-- OVR_COUNT advanced, FAULT at OVR_LIMIT (R140, R142), in place of the loop's blocks. -/
def State.countOverrun (s : State) (l b : Nat) (d : BitVec 512) : State :=
  let w := s.workAt l b d
  let n := sat 255 (w.ovr + 1)
  let hit := ldOvrLimit d ≠ 0 ∧ ldOvrLimit d ≤ n ∧ w.state ≠ 3
  let w := if hit then { w with ovr := n, state := 3, cause := 5 } else { w with ovr := n }
  let s := s.blkPut (b + 2) w.stateBlock
  if hit then s.noteFault l 5 else s

/-- FAULT for an uncorrectable error in a loop's blocks, unless the loop is in FAULT (R135). -/
def State.eccEnter (s : State) (l b : Nat) (d : BitVec 512) : State :=
  let w := s.workAt l b d
  if w.state = 3 then s
  else (s.blkPut (b + 2) { w with state := 3, cause := 4, excited := false }.stateBlock).noteFault l 4

/-- The record of a missed cycle shows at its instant: now where that has come. -/
def State.lateAt (s : State) (k : Instant) (p : Nat) : State :=
  let r := lateRec (s.pointCfg p) (s.piGet p)
  if Instant.before s.pt k then s.showAt k p r else s.produce p r

/-- The cycles of the window that probation will use (R153, R159). -/
def probCycles (a : AdaptCfg) (d : BitVec 512) : Nat := a.probation / ldPeriod d

/-- One cycle more in the history of |e| (R153): |e|, limits clear, RAMPING clear. A cycle without AUTO's computation has neither
the error nor the limits that a start asks for. -/
def State.adaptHist (s : State) (l : Nat) (d : BitVec 512) (x : F32 × Bool × Bool) : State :=
  match s.adaptCfg l with
  | some a =>
    if a.ident then
      s.setAdapt l { s.adaptRec l with hist := (x :: (s.adaptRec l).hist).take (max 100 (probCycles a d)) }
    else s
  | none => s

/-- Eight crossings within 10 × Ti of the new set (R159). -/
def oscillates (r : AdaptRec) : Bool :=
  match r.cand, r.cross with
  | some p, x :: rest =>
    decide (8 ≤ r.cross.length) &&
      decide (((x - rest.getLastD x).toNat : Int) ≤ (Fl.mul (Fl.ofBits p.2.1) (Fl.ofNat 10000000000)).toInt)
  | _, _ => false

/-- Probation's account of a cycle (R159): the sum of |e| without RAMPING, and the crossings of zero between which |e| exceeded
D_START; an oscillation once seen stays seen. A crossing without such a peak before it is left out.
(DESIGN CHOICE, log entry 125) -/
def probStep (a : AdaptCfg) (now : Instant) (ramping : Bool) (e : Fl) (r : AdaptRec) : AdaptRec :=
  let r := if ramping then r else { r with probIae := (Fl.add (Fl.ofBits r.probIae) e.abs).toBits }
  let neg := Fl.lt e Fl.zero
  let large := Fl.lt (adaptStart a) e.abs
  if e.isZero then r
  else if r.sign.isNone || r.sign == some neg then { r with sign := some neg, peak := r.peak || large }
  else if r.peak || r.cross.isEmpty then
    let r := { r with sign := some neg, peak := large, cross := (now :: r.cross).take 8 }
    { r with osc := r.osc || oscillates r }
  else { r with sign := some neg, peak := large }

/-- A test's account of a cycle: the relay's sign and changes, and the log of e and u_raw averaged over D cycles (R154, R155). -/
def TestSlot.step (a : AdaptCfg) (e uRaw : F32) (t : TestSlot) : TestSlot :=
  let accE := Fl.add (Fl.ofBits t.accE) (Fl.ofBits e)
  let accU := Fl.add (Fl.ofBits t.accU) (Fl.ofBits uRaw)
  let full := t.div ≤ t.accN + 1
  let avg := fun x => (Fl.div x (Fl.ofNat (t.accN + 1))).toBits
  let eps := relayEps a
  let pos := if Fl.lt (Fl.ofBits e) eps.neg then true else if Fl.lt eps (Fl.ofBits e) then false else t.pos
  let turned := t.relay && pos != t.pos
  { t with
    cycle := t.cycle + 1, pos := pos, flips := if turned then t.flips + 1 else t.flips
    marks := if turned then (t.cycle :: t.marks).take 9 else t.marks
    accE := if full then 0 else accE.toBits
    accU := if full then 0 else accU.toBits
    accN := if full then 0 else t.accN + 1
    log := if full ∧ t.log.length < 4096 then t.log ++ [(avg accE, avg accU)] else t.log }

/-- The adaptation layer's account of a completed cycle (R153 to R156, R159): the history of |e|, probation, and the test, which
ends where the cycle met a condition of R156. -/
def State.adaptCycle (s : State) (l : Nat) (w : LoopWork) (j : Job) (d : BitVec 512) : State :=
  match s.adaptCfg l with
  | none => s
  | some a =>
    if !j.logs then 
      (if j.abort = 0 then s.adaptHist l d (0, false, false) else (s.adaptHist l d (0, false, false)).abortLoop l j.abort)
    else
      let e := Fl.ofBits j.e
      let s := s.adaptHist l d (e.abs.toBits, !w.limHi && !w.limLo, !w.ramping)
      let s := if (s.adaptRec l).phase = 3 then s.setAdapt l (probStep a s.pt w.ramping e (s.adaptRec l)) else s
      match s.slotOf l with
      | none => s
      | some k =>
        if j.abort ≠ 0 then s.abortTest k j.abort
        else { s with la := { s.la with slots := Tab.set {} s.la.slots k ((s.slot k).step a j.e j.uRaw) } }

/-- A loop abandoned for its cycle (R140, R141): blocks as before, LATE with AGE + 1 in its record at instant `k`,
counted; an uncorrectable error found in its blocks since its launch puts it in FAULT all the same (R135).
(DEDUCED, log entry 27) -/
def State.abandonLoop (s : State) (l : Nat) (k : Instant) : State :=
  match s.loopAt l with
  | none => s
  | some b =>
    let s := (s.settle (if Instant.before s.pt k then s.pt else k)).leaveLane l
    let d := s.descAt b
    let j := (s.run l).job.getD {}
    let s := (s.setRun l { s.run l with job := none }).adaptHist l d (0, false, false)
    let s := if j.abort = 0 then s else s.abortLoop l j.abort
    let s := s.lateAt k (ldOut d % 262144)
    let s := (s.bump Fld.LE_OVERRUN_LOOPS (ldClass d)).ev 89
    let s := s.countOverrun l b d
    if j.enter = 4 then s.eccEnter l b d else s

/-- Loops abandoned for their cycle (R141, R143). -/
def State.abandonAll (s : State) : List Nat → State
  | [] => s
  | l :: ls =>
    (match (s.run l).job with
     | some j => s.abandonLoop l j.due
     | none => s.leaveLane l).abandonAll ls

/-- The loops whose K, in a fast group the next S, has come at `t` with their cycle still under way (R140, R141). -/
def State.loopsOver (s : State) (t : Instant) : List Nat :=
  (s.le.runs.filter fun x => match x.2.job with
    | some j => Instant.atOrBefore j.due t
    | none => false).map Prod.fst

/-- Every contribution as it stands at `t`, whatever command comes first at that instant: what became visible is visible, and
what has missed its instant is LATE (R99, R104, R140, R141). -/
def State.upTo (s : State) (t : Instant) : State :=
  let s := s.settle t
  let s := s.abandonAll (s.loopsOver t)
  (s.tasksOver t).foldl State.taskLate s

/-- Loop `l` launched at `t`, due strictly before `due`; a lane takes it when one is free. A cycle of it
still under way has missed its K (R140). -/
def State.launchLoop (s : State) (l : Nat) (t due sAt : Instant) : State :=
  match s.loopAt l with
  | none => s
  | some b =>
    let s := (match (s.run l).job with
      | some j => s.abandonLoop l j.due
      | none => s)
    let s := s.setRun l { s.run l with job := some (s.stageLoop l t due sAt b), pendNew := false }
    { s with le := { s.le with ready := s.le.ready.erase l ++ [l] } }

/-- Loops `l` to `l + n − 1` launched in ascending index. -/
def State.launchLoops (s : State) (t due sAt : Instant) (l : Nat) : Nat → State
  | 0 => s
  | n + 1 => (s.launchLoop l t due sAt).launchLoops t due sAt (l + 1) n

/-- A staged cycle stored: blocks, manual value, FAULT reports and the record, which becomes visible at `vis`. The
pending command taken is spent; one written since stays (R144). -/
def State.storeJob (s : State) (l b : Nat) (j : Job) (vis : Instant) : State :=
  let d := s.descAt b
  let p := ldOut d % 262144
  let w := LoopWork.load (j.blocks.headD 0) [] [] j.manual
  let r := cycleRec d (s.pointCfg p) j.kind w.uPrev (s.piGet p)
  let st := if j.kind = 2 then putBits (j.blocks.headD 0) 95 64 (recVal r).toNat else j.blocks.headD 0
  let s := s.blksPut (b + 2) (st :: j.blocks.tail)
  let run := s.run l
  let s := s.setRun l { run with
    manual := j.manual, job := none, seenTk := s.le.takeovers, pend := if run.pendNew then run.pend else none }
  let s := { s with le := { s.le with changed := s.le.changed.erase l } }
  let s := s.noteBadSet l j.badSet
  let s := if j.badSet0 then s.noteFault l 1 else s
  let s := if j.enter ≠ 0 then s.noteFault l j.enter else s
  let s := s.adaptCycle l w j d
  if j.fast then s.produce p r else s.showAt vis p r

/-- LOOP_COMPLETE (R140): a standard or slow loop completes; it is stored only strictly before K, and is abandoned
otherwise. -/
def execLoopComplete (l : Nat) (s : State) : Res :=
  match (s.run l).job, s.loopAt l with
  | some j, some b =>
    if j.fast then .next s
    else if Instant.before s.pt j.due then .next ((s.settle s.pt).storeJob l b j j.due |>.leaveLane l)
    else .next (s.abandonLoop l j.due)
  | _, _ => .next s

/-- LOOP_OVERRUN (R140): K has come, and a loop not complete before it is abandoned for that cycle. -/
def execLoopOverrun (l : Nat) (s : State) : Res :=
  match (s.run l).job with
  | some j => if j.fast || Instant.before s.pt j.due then .next s else .next (s.abandonLoop l j.due)
  | none => .next s

/-- CC_PT, DELAY and MAX_DELAY of a fast loop's state block, and LE_FDELAY (R139). -/
def fastBlock (st : BitVec 256) (cc sAt : Instant) : BitVec 256 :=
  let dl := sat 65535 (cc - sAt).toNat
  let st := putBits (putBits st 223 160 cc.toNat) 239 224 dl
  putBits st 255 240 (max dl (bits st 255 240))

/-- The CRC-32C of a fast record: state block, S1 and S2 of each section, output record (R311). -/
def fastCrc (st : BitVec 256) (secs : List (F32 × F32)) (r : W64) : Word :=
  crc32c (bytesOf st 32 ++ secs.foldr (fun x acc => bytesOf x.1 4 ++ bytesOf x.2 4 ++ acc) [] ++ bytesOf r 8)

/-- The binary link of a fast record: in turn by fast cycle, or the one that is up (R308, R311). -/
def State.fastLink (s : State) (cycle : Nat) : Option Nat :=
  match s.flag Fld.BN_STATUS_LINK0_UP, s.flag Fld.BN_STATUS_LINK1_UP with
  | true, true => some (cycle % 2)
  | true, false => some 0
  | false, true => some 1
  | false, false => none

/-- The fast record that the active sends the standby (R311). -/
def State.sendFast (s : State) (l b : Nat) (d : BitVec 512) : State :=
  let st := s.blkGet (b + 2)
  match s.fastLink (bits st 223 160 / 50000) with
  | none => s
  | some k =>
    if s.pair && s.role == 1 then
      let secs := (s.secsAt (b + 3) (ldNsec d)).map fun x => (x.s1, x.s2)
      let r := s.piGet (ldOut d % 262144)
      s.emit (.fastRecord k l st secs r (fastCrc st secs r))
    else s

/-- FAST_LOOP_COMPLETE (R139): the output record with CC_PT and DELAY, the immediate output (R102, R250), the fast record
(R311). CC_PT is read to 4 ns. A completion at or after the next S counts as late (R141). -/
def execFastLoopComplete (l : Nat) (s : State) : Res :=
  match (s.run l).job, s.loopAt l with
  | some j, some b =>
    if !j.fast then .next s
    else if !Instant.before s.pt j.due then .next (s.abandonLoop l j.due)
    else
      let s := s.settle s.pt
      let cc := s.pt
      let d := s.descAt b
      let j := { j with blocks := fastBlock (j.blocks.headD 0) cc j.sAt :: j.blocks.tail }
      let s := (s.storeJob l b j cc).leaveLane l
      let dl := sat 65535 (cc - j.sAt).toNat
      let s := (s.setFld Fld.LE_FDELAY_LAST dl).setFld Fld.LE_FDELAY_MAX (max dl (s.fld Fld.LE_FDELAY_MAX))
      let p := ldOut d % 262144
      let s := if ldImmediate d then s.driveImmediate p (s.piGet p) cc else s
      .next (s.sendFast l b d)
  | _, _ => .next s

/-- LANE_PREEMPT (R116): a lane computing a lower-class loop takes the higher-class loop that is ready. -/
def execLanePreempt (k : Fin 8) (l : Nat) (s : State) : Res :=
  match s.lane k.val with
  | cur :: rest =>
    if s.laneIn k.val && s.le.ready.contains l && decide (s.loopClass l < s.loopClass cur) then
      let s := s.setLane k.val (l :: cur :: rest)
      .next { s with le := { s.le with ready := s.le.ready.erase l } }
    else .next s
  | [] => .next s

/-- LANE_TEST (R143): a lane whose vectors fail is removed; the engine is degraded at 7 or 6 lanes and failed below 6. -/
def execLaneTest (k : Fin 8) (pass : Bool) (s : State) : Res :=
  if pass || !s.laneIn k.val then .next s
  else
    let s := s.loadSeen
    let en := putBit (BitVec.ofNat 8 (s.fld Fld.LE_CTL_LANE_EN)) k.val false
    let s := s.setFld Fld.LE_CTL_LANE_EN en.toNat
    let on := s.lane k.val
    let s := (s.setLane k.val []).abandonAll on
    let s := (s.note 2 0x3002 [k.val]).ev 88
    let n := ((List.range 8).filter fun i => bitAt en i).length
    let s := (s.setFlag Fld.LE_CTL_DEGRADED (decide (6 ≤ n ∧ n ≤ 7))).setFlag Fld.LE_CTL_FAILED (decide (n < 6))
    let s := if s.role = 2 ∨ s.role = 3 then { s with bn := { s.bn with stEngine := true } } else s
    .next (if n < 6 then s.declareFailed else s)

/-! ## Loop commands (R144, R145, R147) -/

/-- The result code of a loop command, before replacement is judged (R147). (DESIGN CHOICE, log entry 138) -/
def State.loopCode (s : State) (w : Writer) (l cmd set : Nat) (v : F32) : Nat :=
  match s.loopOf l with
  | none => 0x01
  | some (_, d, x) =>
    if cmd = 0 ∨ 6 ≤ cmd then 0x02
    else if cmd = 5 ∧ w = .app then 0x03
    else if x.state = 3 ∧ cmd ≠ 4 ∧ cmd ≠ 5 then 0x04
    else if (cmd = 2 ∨ cmd = 3) ∧ !(Fl.ofBits v).finite then 0x05
    else if cmd = 5 then
      (if set = x.active then 0x00 else match x.held set with
       | none => 0x07
       | some xs => if setValid d xs then 0x00 else 0x06)
    else if cmd = 3 ∧ x.state ≠ 1 then 0x0A
    else if cmd = 4 ∧ x.state ≠ 3 then 0x0B
    else 0x00

/-- A loop command written: checked, and made pending where accepted; a pending command is replaced with code 0x08
(R144, R147). -/
def State.loopCommand (s : State) (w : Writer) (l cmd set : Nat) : State :=
  let v := s.reg .LE_CMD_VAL (wIdx w)
  let code := s.loopCode w l cmd set v
  if code ≠ 0 then s.setFld Fld.LE_CMD_RESULT_CODE code (wIdx w)
  else
    let run := s.run l
    let s := s.setRun l { run with pend := some { cmd := cmd, set := set, val := v }, pendNew := true }
    s.setFld Fld.LE_CMD_RESULT_CODE (if run.pend.isSome then 0x08 else 0x00) (wIdx w)

/-- LOOP_AUTO (R144). -/
def execLoopAuto (w : Writer) (l : Nat) (s : State) : Res := .next (s.loopCommand w l 1 0)
/-- LOOP_MANUAL (R144): MANUAL with the value in LE_CMD_VAL. -/
def execLoopManual (w : Writer) (l : Nat) (s : State) : Res := .next (s.loopCommand w l 2 0)
/-- LOOP_MANUAL_VALUE (R144). -/
def execLoopManualValue (w : Writer) (l : Nat) (s : State) : Res := .next (s.loopCommand w l 3 0)
/-- LOOP_RESTART (R144). -/
def execLoopRestart (w : Writer) (l : Nat) (s : State) : Res := .next (s.loopCommand w l 4 0)
/-- LOOP_SWITCH (R145): from the supervisor only. -/
def execLoopSwitch (w : Writer) (l : Nat) (set : Fin 4) (s : State) : Res := .next (s.loopCommand w l 5 set.val)

end Sys2Proof.Machine
end

