-- ==== Sys2Proof/Machine/Launch.lean ====
section
/-! DEFINITION. Launched work (R91 to R105, R310, R356, R358): hand-off and reception of entries, sample completion,
loop and task launches, commits of own slices, and publishing. -/

namespace Sys2Proof.Machine

/-! ## Hand-off (R96, R356) -/

/-- One message for every slice of an own-slice entry. -/
def State.pushSlices (s : State) (e : Nat) (t : Instant) (commit : Bool) : List Nat → State
  | [] => s
  | k :: ks =>
    let s := s.push (8 + k) (.entry e t)
    (if commit then s.push (48 + k) (.commit e t) else s).pushSlices e t commit ks

/-- The points of a slice that a group of class `cls` samples. -/
def State.slicePoints (s : State) (k cls : Nat) : List Nat :=
  (List.range 8).filterMap fun i =>
    if k < 4 then (if s.ucInGroup (8 * k + i) cls then some (s.ucCfg (8 * k + i)).point else none)
    else if s.dcInGroup (8 * (k - 4) + i) cls then some (s.dcCfg (8 * (k - 4) + i)).point else none

/-- The sample sets that the slices of an entry owe by C (R98). -/
def State.expectSets (s : State) (d : BitVec 128) (g : Nat) (t : Instant) : List Nat → State
  | [] => s
  | k :: ks =>
    let x : Expect := { slice := k, group := g, cls := grpClass d, c := grpCOfS d t, points := s.slicePoints k (grpClass d) }
    (if s.ln.expect.contains x then s else { s with ln := { s.ln with expect := s.ln.expect ++ [x] } }).expectSets d g t ks

/-- The compute window [C, K) of the cycle of group `g` in which an entry of action `a` runs at `t`, where its C is to come
(R147). -/
def State.openGroup (s : State) (d : BitVec 128) (g a : Nat) (t : Instant) : State :=
  let c := if a = 1 ∨ a = 2 then grpCOfS d t else t
  if grpClass d = 0 ∨ 5 ≤ a then s else s.openWin (grpClass d) g c (grpKOfC d c)

/-- LAUNCH_ENTRY_HANDOFF: the entry goes to its island at least 2 µs before one of its instants, with that instant, once
(R76, R91, R94, R96); a module that does not act hands on sample entries only (R310). -/
def execLaunchEntryHandoff (e : Nat) (t : Instant) (s : State) : Res :=
  match s.entGrp e with
  | none => .next s
  | some d =>
    let w := s.entry e
    let a := entAction w
    if s.handsOn (grpClass d) t && s.runsAt d a t && onGrid d a t && !Instant.before t (s.pt.plus 2000) && s.unhanded e t &&
        (s.acting || a == 1 || a == 2) then
      let s := { s with ln := { s.ln with handed := Tab.set none s.ln.handed e (some t) } }
      let s := s.openGroup d (entGroup w) a t
      match a with
      | 1 => .next ((s.expectSets d (entGroup w) t (entTargets w)).pushSlices e t false (entTargets w))
      | 2 | 6 => .next (s.push 6 (.entry e t))
      | 3 => .next (s.push 2 (.entry e t))
      | 4 => .next (s.push 0 (.entry e t))
      | 5 => .next (s.pushSlices e t true (entTargets w))
      | 7 => .next (s.push 4 (.entry e t))
      | _ => .next s
    else .next s

/-! ## Late contributions -/

/-- Loops that an entry names abandoned for their cycle without having been launched (R140, R358): `k` is their K. -/
def State.loopsMiss (s : State) (k : Instant) : List Nat → State
  | [] => s
  | l :: ls => (s.abandonLoop l k).loopsMiss k ls

/-- Task `k` is not launched for the cycle that ends at `next`, and misses that K (R94, R104). -/
def State.taskSkip (s : State) (k : Nat) (next : Instant) : State :=
  s.setTask k { s.task k with k := next, skipped := true }

/-- The K of a cycle of group `d` whose compute or task entry runs at `t`; in a fast group, the next S (R92, R141). -/
def entDue (d : BitVec 128) (t : Instant) : Instant := if grpClass d = 0 then t.plus 50000 else grpKOfC d t

/-! ## Reception (R98, R104, R358) -/

/-- The first message of channel `c` taken out. -/
def State.pop (s : State) (c : Nat) : State :=
  { s with ln := { s.ln with chans := Tab.set [] s.ln.chans c (Tab.get [] s.ln.chans c).tail } }

/-- The set that slice `k` owes for (group, C) is not waited for any more. -/
def State.unexpect (s : State) (k g : Nat) (c : Instant) : State :=
  { s with ln := { s.ln with expect := s.ln.expect.filter fun x => !(x.slice == k && x.group == g && x.c == c) } }

/-- A sample set that reached the memory port before C: shown at C, or, in a fast group, held until the group's samples are
complete (R92, R98). -/
def State.takeSamples (s : State) (k g : Nat) (c : Instant) (recs : List (Nat × W64)) : State :=
  let s := s.unexpect k g c
  if ((s.group g).map grpClass) = some 0 then { s with ln := { s.ln with sets := s.ln.sets ++ [(g, c, recs)] } }
  else { s with ln := { s.ln with vis := s.ln.vis ++ recs.map fun r => (c, r.1, r.2) } }

/-- The readback of an immediate output whose message came late carries LATE (R183, R358). -/
def State.immediateLate (s : State) (point : Nat) : State :=
  match s.chanOf point with
  | some (.uni n) => s.setUc n.val { s.uc n.val with late := true }
  | some (.dig m) => s.setDc m.val { s.dc m.val with late := true }
  | none => s

/-- A message that reached its receiver at or after its instant: discarded, its contribution late (R358). A sample entry or
set is missed at C; a commit, collect or publish entry, or a commit value, is missed at its command. -/
def State.tooLate (s : State) (m : ChanMsg) : State :=
  match m with
  | .entry e t =>
    let w := s.entry e
    let due := ((s.entGrp e).map fun d => entDue d t).getD t
    if !s.unrun e t then s
    else
      (match entAction w with
       | 3 => ((s.upTo t).loopsMiss due (entTargets w)).ranAt e t
       | 4 => ((s.upTo t).taskSkip (entTarget w) due).ranAt e t
       | _ => s)
  | .samples _ c _ => s.settle c
  | .commit _ _ => s
  | .immediate p _ _ => s.immediateLate p

/-- HANDSHAKE_RECEIVE: the first message of a channel reaches its receiver and is acted on only strictly before its
instant (R356, R358). (DEDUCED, log entry 25) -/
def execHandshakeReceive (ch : Channel) (s : State) : Res :=
  match ch with
  | .meridian i =>
    match Tab.get [] s.ln.chans i.val with
    | [] => .next s
    | m :: _ =>
      if !s.alive i.val then .next s
      else
        let s := s.pop i.val
        match m with
        | .entry e t => if Instant.before s.pt t then .next (s.putDue i.val e t) else .next (s.tooLate (.entry e t))
        | _ => .next s
  | .sample k =>
    match Tab.get [] s.ln.chans (32 + k.val) with
    | [] => .next s
    | m :: _ =>
      let s := s.pop (32 + k.val)
      match m with
      | .samples g c recs =>
        if Instant.before s.pt c then .next (s.takeSamples k.val g c recs) else .next (s.tooLate (.samples g c recs))
      | _ => .next s
  | .commit k =>
    match Tab.get [] s.ln.chans (48 + k.val) with
    | [] => .next s
    | m :: _ =>
      if !s.alive (8 + k.val) then .next s
      else
        let s := s.pop (48 + k.val)
        match m with
        | .commit e t => if Instant.before s.pt t then .next (s.putDue (48 + k.val) e t) else .next (s.tooLate (.commit e t))
        | _ => .next s
  | .immediate i =>
    match Tab.get [] s.ln.chans (64 + i.val) with
    | [] => .next s
    | m :: _ =>
      if !s.alive i.val then .next s
      else
        let s := s.pop (64 + i.val)
        match m with
        | .immediate p r cc =>
          if Instant.before s.pt cc then .next (s.driveImmediate p r cc) else .next (s.tooLate (.immediate p r cc))
        | _ => .next s

/-! ## Sample completion and compute (R92, R98, R126) -/

/-- SAMPLE entries of group `g` for slice `k` that its shell has for S `t`. -/
def State.sampleDue (s : State) (k g : Nat) (t : Instant) : List (Nat × Nat × Instant) :=
  s.ln.due.filter fun x =>
    x.1 == 8 + k && x.2.2 == t && entAction (s.entry x.2.1) == 1 && entGroup (s.entry x.2.1) == g

/-- SAMPLE_OWN_SLICES: at S the shell ends the windows of a slice that a sample entry of the group names, and hands its sample
set on, due before C (R76, R96, R174, R202, R358). -/
def execSampleOwnSlices (k : Fin 10) (g : Nat) (t : Instant) (words : List (Fin 32 × List (BitVec 24))) (s : State) : Res :=
  match s.group g with
  | none => .next s
  | some d =>
    let due := s.sampleDue k.val g t
    if s.launching (grpClass d) && s.alive (8 + k.val) && (s.slice k.val).loaded && s.reached t && !due.isEmpty then
      let s := { s with ln := { s.ln with due := s.ln.due.filter fun x => !due.contains x } }
      let cls := grpClass d
      let r := (s.settle t).sampleList k.val cls t words (List.range 8)
      let s := (r.1.dcCurrent k.val).draw
      .next (s.push (32 + k.val) (.samples g (grpCOfS d t) r.2))
    else .next s

/-- The fast compute entries of group `g` that the engine has for S `t`. -/
def State.fastDue (s : State) (g : Nat) (t : Instant) : List Nat :=
  (s.ln.due.filter fun x =>
    x.1 == 2 && x.2.2 == t && entAction (s.entry x.2.1) == 3 && entGroup (s.entry x.2.1) == g).map fun x => x.2.1

/-- The Scapex collections of group `g` for S `t` still under way (R246). -/
def State.collecting (s : State) (g : Nat) (t : Instant) : Bool :=
  s.sx.collects.any fun (x : Nat × Collect) => x.2.active && x.2.s == t && entGroup (s.entry x.1) == g

/-- The sets of a fast group that have arrived for C, in order of arrival. -/
def State.setsOf (s : State) (g : Nat) (c : Instant) : List (Nat × W64) :=
  (s.ln.sets.filter fun x => x.1 == g && x.2.1 == c).flatMap fun x => x.2.2

/-- The loops of a fast compute entry launched. -/
def State.launchFast (s : State) (t : Instant) (e : Nat) : State :=
  let w := s.entry e
  ((s.takeDue 2 e t).ranAt e t).launchLoops s.pt (t.plus 50000) t (entTarget w) (entCount w)

/-- FAST_SAMPLE_COMPLETE: the samples that a fast group owes for S are complete: they become visible and the group's loops
launch at once (R92, R98); a module that does not act computes nothing (R310). -/
def execFastSampleComplete (g : Nat) (t : Instant) (s : State) : Res :=
  match s.group g with
  | none => .next s
  | some d =>
    let next := t.plus 50000
    if grpClass d = 0 ∧ s.launching 0 ∧ onGrid d 1 t ∧ s.reached t ∧ Instant.before s.pt next ∧ !s.collecting g t ∧
        !(s.ln.expect.any fun x => x.group == g && x.c == next) then
      let s := s.upTo s.pt
      let recs := s.setsOf g next
      let s := { s with ln := { s.ln with sets := s.ln.sets.filter fun x => !(x.1 == g && x.2.1 == next) } }
      let s := recs.foldl (fun s r => s.produce r.1 r.2) s
      if s.acting && s.runsAt d 3 t then
        .next (((s.fastDue g t).foldl (fun s e => s.launchFast t e) (s.openWin 0 g s.pt (s.pt.plus 12000))).fillLanes)
      else .next s
    else .next s

/-- FAST_LOOP_ABANDON (R141): a loop not complete strictly before the next S of its group; so are, with it, the loops of its
entry where the group's samples never completed. -/
def execFastLoopAbandon (l : Nat) (s : State) : Res :=
  match (s.run l).job with
  | some j => if j.fast && !Instant.before s.pt j.due then .next (s.abandonLoop l j.due) else .next s
  | none =>
    match s.ln.due.find? (fun x => x.1 == 2 && (entTargets (s.entry x.2.1)).contains l && s.loopClass l == 0 &&
        !Instant.before s.pt (x.2.2.plus 50000)) with
    | some x =>
      .next ((((s.takeDue 2 x.2.1 x.2.2).ranAt x.2.1 x.2.2).loopsMiss (x.2.2.plus 50000) (entTargets (s.entry x.2.1))))
    | none => .next s

/-- COMPUTE_LOOPS: at C the engine launches each loop of the entry (R96, R99, R126); the loops of an entry that did not reach
it in time miss their cycle (R358). -/
def execComputeLoops (e : Nat) (c : Instant) (s : State) : Res :=
  match s.entGrp e with
  | none => .next s
  | some d =>
    let w := s.entry e
    if s.runsNow e d 3 c ∧ grpClass d ≠ 0 ∧ s.acting then
      let due := s.isDue 2 e c
      let s := ((s.takeDue 2 e c).ranAt e c).upTo c
      if due then .next ((s.launchLoops c (grpKOfC d c) (grpSOfC d c) (entTarget w) (entCount w)).fillLanes)
      else .next (s.loopsMiss (grpKOfC d c) (entTargets w))
    else .next s

/-- The points of a stopped task have no fresh value at `k`: LATE, AGE + 1 (R8, R11); it does not count as an overrun.
(DEDUCED, log entry 118) -/
def State.taskStopped (s : State) (k : Instant) : List Nat → State
  | [] => s
  | p :: ps => (s.lateAt k p).taskStopped k ps

/-- RUN_APPLICATION_TASK: the task of the entry is launched unless it still runs or has been stopped (R94, R104, R376); one whose
entry did not reach the cluster in time misses its K (R358). What it reads is what its C found (R99). -/
def execRunApplicationTask (e : Nat) (c : Instant) (s : State) : Res :=
  match s.entGrp e with
  | none => .next s
  | some d =>
    let w := s.entry e
    if s.runsNow e d 4 c ∧ s.acting then
      let due := s.isDue 0 e c
      let s := ((s.takeDue 0 e c).ranAt e c).upTo c
      let k := entTarget w
      let t := s.task k
      if t.running then .next (s.taskSkip k (entDue d c))
      else if t.stopped then .next (s.taskStopped (entDue d c) (s.taskPoints k))
      else if due then
        .next (s.setTask k
          { t with running := true, late := false, skipped := false, k := entDue d c, pi := s.pi, subc := s.subc })
      else .next (s.taskSkip k (entDue d c))
    else .next s

/-- TASK_COMPLETE: a task that finishes strictly before K has its points and its variables committed at K; otherwise its
results are discarded (R104, R312). -/
def execTaskComplete (k : Nat) (points : List (Nat × Word)) (words : List (Nat × W64)) (s : State) : Res :=
  let t := s.task k
  if !t.running then .next s
  else
    let s := s.setTask k { t with running := false, faults := 0 }
    if t.late ∨ t.skipped then .next s
    else if Instant.before s.pt t.k then
      let own := points.filter fun p => (s.taskPoints k).contains p.1
      let recs := own.map fun p => (t.k, p.1, freshRec (s.pointCfg p.1).kind 0 p.2)
      let vars := (words.filter fun x => decide (655360 ≤ x.1) && decide (x.1 < 1015808)).map fun x => (t.k, x.1, x.2)
      .next { s with ln := { s.ln with vis := s.ln.vis ++ (recs ++ vars) } }
    else .next ((s.settle t.k).taskLate k)

/-- TASK_OVERRUN: K has come, and a task is not finished, or was not launched because it still ran (R104). -/
def execTaskOverrun (k : Nat) (s : State) : Res :=
  let t := s.task k
  if (t.running ∨ t.skipped) ∧ !Instant.before s.pt t.k then .next ((s.settle t.k).taskLate k) else .next s

/-! ## Commit of own slices (R101, R104, R183, R205, R311) -/

/-- The entry and the commit values of slice `k` for K reached its shell in time (R104, R358). -/
def State.commitInTime (s : State) (k e : Nat) (t : Instant) : Bool :=
  s.alive (8 + k) && (s.slice k).loaded && s.isDue (8 + k) e t && s.isDue (48 + k) e t

/-- The launched outputs of a slice take the records visible at K, or keep their state with a LATE readback. What a commit entry
covers is assigned from its first commit on (R101, R183, R205). -/
def State.commitSlice (s : State) (k : Nat) (ok : Bool) : State :=
  (List.range 8).foldl (fun s i =>
    if k < 4 then
      let n := 8 * k + i
      if s.ucOut n && !s.flag Fld.UC_CFG_OUTKIND n then
        (if ok && !s.ln.rolled.contains (s.ucCfg n).cmd then (s.setFlag Fld.UC_STAT_UNASSIGNED false n).ucTake n (s.piGet (s.ucCfg n).cmd) else s.setUc n { s.uc n with late := true })
      else s
    else
      let m := 8 * (k - 4) + i
      if s.dcMode m == 3 && !s.flag Fld.DC_CFG_OUTKIND m then
        (if ok && !s.ln.rolled.contains (s.dcCfg m).cmd then (s.setFlag Fld.DC_STAT_UNASSIGNED false m).dcTake m (s.piGet (s.dcCfg m).cmd) else s.setDc m { s.dc m with late := true })
      else s) s

/-- A commit taken by the shell of slice `k`: stages that its watchdog held or turned off follow again (R362). -/
def State.commitOne (s : State) (k e : Nat) (t : Instant) : State :=
  let ok := s.commitInTime k e t
  let s := if ok then s.setSlice k { s.slice k with held := false, stagesOff := false } else s
  let s := s.commitSlice k ok
  let s := if k < 4 then s else s.turnsEnd (k - 4)
  (s.takeDue (8 + k) e t).takeDue (48 + k) e t

/-- The values committed to the outputs of slices (R311). -/
def State.committedVals (s : State) (ks : List Nat) : List (Chan × Word) :=
  ks.flatMap fun k =>
    if h : k < 4 then
      (List.finRange 8).filterMap fun i =>
        let n : Fin 32 := ⟨8 * k + i.val, by omega⟩
        if s.ucOut n.val then (s.uc n.val).cmd.map fun v => (Chan.uni n, v) else none
    else if h' : k < 10 then
      (List.finRange 8).filterMap fun i =>
        let m : Fin 48 := ⟨8 * (k - 4) + i.val, by omega⟩
        if s.dcMode m.val == 3 then (s.dc m.val).cmd.map fun b => (Chan.dig m, BitVec.ofNat 32 (b2n b)) else none
    else []

/-- The side record of a commit (R311), from the active to its standby. -/
def State.sendSide (s : State) (ks : List Nat) : State :=
  if s.pair && s.role == 1 then s.emit (.sideRecord (.commits (s.committedVals ks))) else s

/-- COMMIT_OWN_SLICES: at K (R101, R104). -/
def execCommitOwnSlices (e : Nat) (t : Instant) (s : State) : Res :=
  match s.entGrp e with
  | none => .next s
  | some d =>
    let w := s.entry e
    if s.runsNow e d 5 t ∧ s.acting then
      let s := (s.ranAt e t).upTo t
      let s := (entTargets w).foldl (fun s k => s.commitOne k e t) s
      .next (s.sendSide (entTargets w))
    else .next s

/-! ## Publishing (R105 to R108, R267, R320) -/

/-- The declaration of publication stream `n`. -/
def State.pubCfg (s : State) (n : Nat) : Option PubCfg := s.img.pubs[n]?

/-- SEQUENCE of the frame at K (R106, R320): one for each commit instant of the stream since the last.
(DEDUCED, log entry 53) -/
def pubSeq (p : Pub) (period : Nat) (k : Instant) : Nat :=
  if p.started ∨ p.resumed then (p.seq + (k - p.base).toNat.pred / period + 1) % 4294967296 else 0

/-- The record that stands in a frame (R105): AGE of a fast point in standard cycles; NO_AUTHORITY where the network island
shows no authority. -/
def State.pubRec (s : State) (i : Nat) : W64 :=
  let r := s.piGet i
  let age := if (s.pointCfg i).cls = 0 ∧ recAge r ≠ 65535 then recAge r / 20 else recAge r
  let q := if s.auth then recQ r else settleGood false ((putBit (BitVec.ofNat 8 (recQ r)) qNoAuth true).toNat)
  mkRec age (recKind r) q (recVal r)

/-- The publication header (R106). -/
def State.pubHeader (s : State) (n : Nat) (c : PubCfg) (seq : Nat) (k : Instant) : BitVec 256 :=
  let h : BitVec 256 := 0
  let h := putBits h 255 192 (k.plus c.ta).toNat
  let h := putBits h 191 128 k.toNat
  let h := putBits h 127 96 (s.fld Fld.BN_EPOCH_EPOCH)
  let h := putBits h 95 64 seq
  let h := putBits h 63 48 s.base.binary
  let h := putBits h 47 36 n
  let h := putBits h 31 24 c.points.length
  let h := putBits h 17 16 c.cls
  let h := putBit h 8 (s.flag Fld.MT_STATE_COORD_DEGRADED)
  putBits h 7 0 1

/-- The frame of stream `n` at K: its SEQUENCE moves on whether or not it may leave (R298, R320). -/
def State.publish (s : State) (k : Instant) (n : Nat) : State :=
  match s.pubCfg n with
  | none => s
  | some c =>
    let p : Pub := Tab.get {} s.ln.pubs n
    let seq := pubSeq p (Config.period c.cls) k
    let s := { s with ln := { s.ln with
      pubs := Tab.set {} s.ln.pubs n { seq := seq, started := true, base := k, resumed := false } } }
    if s.epochSendable then
      let f : NetWait := { cls := 6, vlan := c.vlan, k := some k, hdr := s.pubHeader n c seq k, recs := c.points.map s.pubRec }
      if c.repl then (s.netSend 1 f).netSend 2 f else s.netSend c.port f
    else s

/-- A stream number put into its place in an ascending list. -/
def insertAsc (n : Nat) : List Nat → List Nat
  | [] => [n]
  | m :: ms => if n < m then n :: m :: ms else if n = m then m :: ms else m :: insertAsc n ms

/-- The publish entries that the network island has for K. -/
def State.publishDue (s : State) (k : Instant) : List Nat :=
  (s.ln.due.filter fun x => x.1 == 4 && x.2.2 == k && entAction (s.entry x.2.1) == 7).map fun x => x.2.1

/-- The streams that leave at K, in ascending number (R105). -/
def State.streamsAt (s : State) (k : Instant) : List Nat :=
  ((s.publishDue k).flatMap fun e => entTargets (s.entry e)).foldl (fun a n => insertAsc n a) []

/-- PUBLISH_STREAMS: at K the active sends the streams of the entry, and of every other publish entry that the island has
for K, in ascending number (R105); an entry that did not reach it in time sends nothing (R358). -/
def execPublishStreams (e : Nat) (k : Instant) (s : State) : Res :=
  match s.entGrp e with
  | none => .next s
  | some d =>
    if s.runsNow e d 7 k ∧ s.acting then
      if s.isDue 4 e k then
        let es := s.publishDue k
        let ns := s.streamsAt k
        let s := (es.foldl (fun s e => (s.takeDue 4 e k).ranAt e k) s).upTo k
        .next (ns.foldl (fun s n => s.publish k n) s)
      else .next (s.ranAt e k)
    else .next s

end Sys2Proof.Machine
end

