-- ==== Sys2Proof/Machine/Scapex.lean ====
section
/-! DEFINITION. The Scapex remote I/O link (10): COLLECT, OUTPUT, TIME and SERVICE frames, forwarding, segments and
carriers. -/

namespace Sys2Proof.Machine

/-- A Scapex event: Sinter, and the port's source (R259, R441). -/
def State.sxNote (s : State) (p code : Nat) (xs : List Nat) : State := (s.note 6 code (p :: xs)).ev (102 + p)

/-- The module originates frames: it holds authority, as the island sees it, and frames may leave under its epoch (R241,
R252, R298). -/
def State.sxOrigin (s : State) : Bool := s.role == 1 && s.sxMay

/-- Port `p` is configured. -/
def State.sxOn (s : State) (p : Nat) : Bool := s.flag Fld.SX_PORT_EN p

/-- The ports and carriers that the plant image declares, shown in the registers. -/
def State.sxLoad (s : State) : State :=
  let s := s.img.sxPort.foldl (fun s c =>
    let s := s.setFlag Fld.SX_PORT_EN true c.p.val
    let s := s.setFld Fld.SX_PORT_DECLARED ((s.img.sxCar.filter fun x => x.i.val / 32 == c.p.val).length) c.p.val
    s.setFld Fld.SX_LAP_D_OUT c.dOut c.p.val) s
  s.img.sxCar.foldl (fun s c => s.setFlag Fld.SX_CAR_DECLARED true c.i.val) s

/-- A frame of this module that came back. -/
def State.sxOwn (s : State) (f : SxFrame) : Bool := bits f.hdr 58 46 == s.base.binary && bitAt f.hdr 45 == s.posB

def sxType (f : SxFrame) : Nat := bits f.hdr 31 28
def sxWrapped (f : SxFrame) : Bool := bitAt f.hdr 59

/-! ## Slots (R243) -/

/-- The slots of a carrier: first slice and slices, at most 24 slices each. (DEDUCED, log entry 84) -/
def carSlots (c : CarCfg) : List (Nat × Nat) :=
  (List.range ((c.slices + 23) / 24)).map fun j => (24 * j, min 24 (c.slices - 24 * j))

/-- A slot header as the module launches it. -/
def slotHeader (i first n : Nat) : W64 := putBits (putBits (putBits 0 63 59 (i % 32)) 58 53 first) 52 46 n

/-- The slots of a payload: header and slice words. -/
def sxSlots : Nat → List W64 → List (W64 × List W64)
  | 0, _ => []
  | _, [] => []
  | fuel + 1, h :: t =>
    let n := 5 * bits h 52 46
    (h, t.take n) :: sxSlots fuel (t.drop n)

/-- Quality byte of channel `k` of a slice block of five words. -/
def blockQ (k : Nat) (ws : List W64) : Nat := bits (listGet 0 ws 0) (8 * k + 7) (8 * k)

/-- VALUE of channel `k` of a slice block: words go most significant byte first (R242), so of two channels in a word the even
one stands in the upper half. -/
def blockVal (k : Nat) (ws : List W64) : Word :=
  let v := listGet 0 ws (1 + k / 2)
  BitVec.ofNat 32 (if k % 2 = 0 then bits v 63 32 else bits v 31 0)

/-- The record that channel `k` of a slice block gives (R244). -/
def blockRec (kind k : Nat) (ws : List W64) : W64 := mkRec 0 kind (blockQ k ws) (blockVal k ws)

/-- The input point of channel `ch` of a carrier, where one is declared. -/
def inPoint (c : CarCfg) (ch : Nat) : Option Nat := let p := listGet 0x3FFFFF c.inPts ch; if p < 262144 then some p else none

/-- The command point of channel `ch` of a carrier. -/
def outPoint (c : CarCfg) (ch : Nat) : Option Nat := let p := listGet 0x3FFFFF c.outPts ch; if p < 262144 then some p else none

/-! ## COLLECT (R245, R246) -/

def State.collect (s : State) (e : Nat) : Collect := Tab.get {} s.sx.collects e
def State.setCollect (s : State) (e : Nat) (c : Collect) : State :=
  { s with sx := { s.sx with collects := Tab.set {} s.sx.collects e c } }

/-- The declared carriers that an entry names. -/
def State.entCars (s : State) (w : W64) : List Nat := (entTargets w).filter s.carDeclared

/-- A record of a sample of S becomes visible at the C of its group, or, in a fast group, when the group's samples are
complete (R92, R98). -/
def State.collectShow (s : State) (e : Nat) (t : Instant) (p : Nat) (r : W64) : State :=
  match s.entGrp e with
  | some d =>
    if grpClass d ≠ 0 then s.showAt (grpCOfS d t) p r
    else if Instant.before s.pt (t.plus 50000) then
      { s with ln := { s.ln with sets := s.ln.sets ++ [(entGroup (s.entry e), t.plus 50000, [(p, r)])] } }
    else s.showAt s.pt p r
  | none => s.showAt s.pt p r

/-- SEQUENCE of the frame that port `p` sent last (R242, R251). -/
def State.sxLast (s : State) (p : Nat) : Nat := ((s.sxP p).seq + 65535) % 65536

/-- One COLLECT frame, both copies noted as on the ring. -/
def State.sendCollect (s : State) (p : Nat) (t : Instant) (group : Nat) (payload : List W64) : State :=
  let s := s.sxSend p t group 2 payload
  let q := s.sxLast p
  s.setSxP p { s.sxP p with flight := (q, false, s.mt.frc) :: (q, true, s.mt.frc) :: (s.sxP p).flight }

/-- The COLLECT frames of carrier `i`, one slot each. -/
def State.collectCar (s : State) (t : Instant) (group i : Nat) : State :=
  (carSlots (s.carCfg i)).foldl (fun s x =>
    s.sendCollect (i / 32) t group (slotHeader i x.1 x.2 :: List.replicate (5 * x.2) 0)) s

/-- The module is a standby, lagging or not: it takes samples and builds records as the active does (R310).
(DEDUCED, log entry 81) -/
def State.standing (s : State) : Bool := s.role == 2 || s.role == 3

/-- The carriers of an entry on port `p`. -/
def State.entCarsAt (s : State) (w : W64) (p : Nat) : List Nat := (s.entCars w).filter fun i => i / 32 == p

/-- The ports that an entry uses. -/
def State.entPorts (s : State) (w : W64) : List Nat := (List.range 8).filter fun p => !(s.entCarsAt w p).isEmpty

/-- R_MAX of an entry on port `p`: the largest READY time of the carriers it names there (R245). -/
def State.sxReady (s : State) (w : W64) (p : Nat) : Nat := (s.entCarsAt w p).foldl (fun n i => max n (s.carCfg i).ready) 0

/-- Bytes that a frame of `n` payload words takes, preamble, start-of-frame delimiter, header and FCS with it (R239, R242). -/
def sxBytes (n : Nat) : Nat := 36 + 8 * n

/-- F of an entry on port `p`, in ns at 1 Gbit/s: its COLLECT frames, with the 12-byte gaps between them (R246, R249). -/
def State.sxFrames (s : State) (w : W64) (p : Nat) : Nat :=
  let ns := (s.entCarsAt w p).flatMap fun i => (carSlots (s.carCfg i)).map fun x => sxBytes (1 + 5 * x.2)
  8 * (ns.foldl (· + ·) 0 + 12 * (ns.length - 1))

/-- T_IN of an entry over port `p`: R_MAX there, the lap, twice where the port is break-tolerant, and the frames (R246,
R255). -/
def State.sxTinPort (s : State) (w : W64) (p : Nat) : Nat :=
  let c := s.sxPortCfg p
  s.sxReady w p + (if c.tolerant then 2 * c.lap else c.lap) + s.sxFrames w p

/-- When a sample entry of S is complete at the latest: T_IN of the slowest port it uses. -/
def State.sxBound (s : State) (e : Nat) (t : Instant) : Instant :=
  t.plus ((s.entPorts (s.entry e)).foldl (fun n p => max n (s.sxTinPort (s.entry e) p)) 0)

/-- The ports of an entry whose S + R_MAX has come. -/
def State.sxPorts (s : State) (w : W64) (t : Instant) : List Nat :=
  (s.entPorts w).filter fun p => s.reached (t.plus (s.sxReady w p))

/-- The COLLECT frames of an entry leave on these ports, where the module may launch. -/
def State.collectOn (s : State) (e : Nat) (t : Instant) (ps : List Nat) : State :=
  let w := s.entry e
  if s.role == 1 && s.sxMay && (s.collect e).go then
    let cars := (ps.filter fun p => s.sxOn p).flatMap fun p => s.entCarsAt w p
    cars.foldl (fun s i => s.collectCar t (entGroup w) i) s
  else s

/-- A sample entry of S under way: every slot of its carriers is awaited. -/
def State.collectOpen (s : State) (e : Nat) (t : Instant) : State :=
  let left := (s.entCars (s.entry e)).flatMap fun i => (List.range (s.carCfg i).slices).map fun k => 64 * i + k
  let go := s.isDue 6 e t
  ((s.takeDue 6 e t).ranAt e t).setCollect e { active := true, s := t, left := left, go := go }

/-- COLLECT_LAUNCH, at S + R_MAX of each port the entry uses: its frames leave there, each port once; an entry that the island did
not get in time, or cannot send, leaves every slot to its late completion (R246, R358). A standby sends none and awaits what
passes it (R310). (DEDUCED, log entry 8) -/
def execCollectLaunch (e : Nat) (t : Instant) (s : State) : Res :=
  match s.entGrp e with
  | none => .next s
  | some d =>
    let now := s.sxPorts (s.entry e) t
    if s.runsNow e d 2 t ∧ now ≠ [] ∧ (s.role = 1 ∨ s.standing) then
      let s := s.collectOpen e t
      .next ((s.setCollect e { s.collect e with sent := now }).collectOn e t now)
    else
      let c := s.collect e
      if c.active && c.s == t then
        let ps := now.filter fun p => !c.sent.contains p
        .next ((s.setCollect e { c with sent := c.sent ++ ps }).collectOn e t ps)
      else .next s

/-- Carriers of port `p` that report CSTATE 0x1 and are not lost. -/
def State.sxRunning (s : State) (p : Nat) : Nat :=
  ((List.range 32).filter fun k => s.fld Fld.SX_CAR_CSTATE (32 * p + k) == 1 && !(s.sxC (32 * p + k)).lost).length

/-- A slot header holds a report of its carrier (R243): something the carrier writes is not as it was launched. -/
def slotReports (h : W64) : Bool := bits h 45 39 != 0 || bits h 31 0 != 0

/-- What a slot header says of carrier `i` (R243, R251): state, fault and held epoch, which enters E_max (R298). -/
def State.sxHear (s : State) (i : Nat) (h : W64) : State :=
  let s := s.setFld Fld.SX_CAR_CSTATE (bits h 43 40) i
  let s := s.setFlag Fld.SX_CAR_FAULT (bitAt h 44) i
  let s := s.setSxC i { s.sxC i with held := bits h 31 0, slotAt := some s.mt.frc, lost := false }
  let s := { s with bn := { s.bn with heldMax := max s.bn.heldMax (bits h 31 0) } }
  s.setFld Fld.SX_PORT_RUNNING (s.sxRunning (i / 32)) (i / 32)

/-- A slot report at the originator: a carrier that entered its safe state, or refused a frame (R253, R259). -/
def State.sxReport (s : State) (p : Nat) (h : W64) : State :=
  let i := 32 * p + bits h 63 59
  if !slotReports h || !s.carDeclared i then s
  else
    let was := s.fld Fld.SX_CAR_CSTATE i
    let s := s.sxHear i h
    let s := if bits h 43 40 = 2 ∧ was ≠ 2 then s.sxNote p 0x8006 [bits h 63 59] else s
    if bitAt h 39 then (s.bump Fld.SX_ERR_REFUSED p).sxNote p 0x8007 [bits h 63 59] else s

/-- The channels of one slice block, delivered to the points they feed (R244). (DEDUCED, log entry 85) -/
def State.sxBlock (s : State) (e : Nat) (t : Instant) (c : CarCfg) (slice : Nat) (ws : List W64) : State :=
  (List.range 8).foldl (fun s k =>
    match inPoint c (8 * slice + k) with
    | some p => s.collectShow e t p (blockRec (s.pointCfg p).kind k ws)
    | none => s) s

/-- The channels of a slice without a FRESH copy: the previous value with LATE (R246). -/
def State.sxLate (s : State) (e : Nat) (t : Instant) (c : CarCfg) (slice : Nat) : State :=
  (List.range 8).foldl (fun s k =>
    match inPoint c (8 * slice + k) with
    | some p => s.collectShow e t p (lateRec (s.pointCfg p) (s.piGet p))
    | none => s) s

/-- The slices of a fresh slot that entry `e` still waits for. Until the carrier is configured its channels carry LATE
(R259). -/
def State.sxDeliver (s : State) (e p : Nat) (h : W64) (ws : List W64) : State :=
  let i := 32 * p + bits h 63 59
  (List.range (bits h 52 46)).foldl (fun s j =>
    let c := s.collect e
    let code := 64 * i + bits h 58 53 + j
    if c.left.contains code then
      let t := s.setCollect e { c with left := c.left.erase code }
      if bits h 43 40 = 0 || s.flag Fld.SX_CAR_MISMATCH i then
        t.sxLate e c.s (s.carCfg i) (bits h 58 53 + j)
      else t.sxBlock e c.s (s.carCfg i) (bits h 58 53 + j) (ws.drop (5 * j))
    else s) s

/-- The entries under way whose frames these are, up to their latest completion. -/
def State.collectsOf (s : State) (f : SxFrame) : List Nat :=
  (s.sx.collects.filter fun (x : Nat × Collect) =>
    x.2.active && Instant.atOrBefore s.pt (s.sxBound x.1 x.2.s) && x.2.s.toNat == bits f.hdr 191 128 && entGroup (s.entry x.1) == bits f.hdr 39 32).map Prod.fst

/-- COLLECT_RETURN: a copy with a bad FCS counts; a valid one brings its reports, and its fresh slots where it is the first
(R246). -/
def execCollectReturn (port : Fin 8) (f : SxFrame) (s : State) : Res :=
  let p := port.val
  if !s.sxOn p || !s.sxOwn f || !s.alive 6 || !(sxType f == 2 || sxType f == 3) then .next s
  else
    let q := bits f.hdr 95 80
    let west := bitAt f.hdr 44
    let s := s.setSxP p { s.sxP p with flight := (s.sxP p).flight.filter fun x => !(x.1 == q && x.2.1 == west) }
    if !f.fcsOk then .next (s.bump Fld.SX_ERR_FCS_BAD p)
    else
      let slots := sxSlots f.payload.length f.payload
      let s := slots.foldl (fun s x => s.sxReport p x.1) s
      if sxType f = 2 then
        .next ((s.collectsOf f).foldl (fun s e =>
          slots.foldl (fun s x => if bitAt x.1 45 then s.sxDeliver e p x.1 x.2 else s) s) s)
      else .next s

/-- What carrier `i` gave an entry: MISSED, and each of its slots without a FRESH copy counted. -/
def State.carDone (s : State) (e : Nat) (c : Collect) (i : Nat) : State :=
  let x := s.carCfg i
  let open_ := (List.range x.slices).filter fun k => c.left.contains (64 * i + k)
  let slots := (carSlots x).filter fun y => open_.any fun k => decide (y.1 ≤ k) && decide (k < y.1 + y.2)
  let s := open_.foldl (fun s k => s.sxLate e c.s x k) s
  let s := s.bump Fld.SX_ERR_LATE_SLOTS (i / 32) slots.length
  if open_.isEmpty then s.setFld Fld.SX_CAR_MISSED 0 i else s.bump Fld.SX_CAR_MISSED i

/-- COLLECT_COMPLETE: every slot has come back fresh, or S + T_IN is reached (R246). A slot that did not come keeps the value that
is visible then. -/
def execCollectComplete (e : Nat) (s : State) : Res :=
  let c := s.collect e
  if !c.active || !(c.left.isEmpty || s.reached (s.sxBound e c.s)) then .next s
  else
    let s := (s.entCars (s.entry e)).foldl (fun s i => s.carDone e c i) (s.settle s.pt)
    .next (s.setCollect e {})

/-! ## OUTPUT (R244, R247, R248) -/

/-- One slice block of commands: the quality word, then VALUE of the channels. A channel that no commit covers, being without
a command point or immediate (R101, R102), carries LATE, so the carrier keeps what it has.
(DESIGN CHOICE, log entry 96) -/
def State.outBlock (s : State) (i slice : Nat) : State × List W64 :=
  let c := s.carCfg i
  let r := (List.range 8).foldl (fun (a : State × W64 × List Nat) k =>
    let ch := 8 * slice + k
    let x : State × Nat × Word := match outPoint c ch with
      | some p =>
        if c.immediate.contains ch then (a.1, 2, (a.1.sxPrev i ch).2)
        else a.1.sxCommand i ch (!a.1.ln.rolled.contains p) (a.1.piGet p)
      | none => (a.1, 2, 0)
    (x.1, putBits a.2.1 (8 * k + 7) (8 * k) x.2.1, a.2.2 ++ [x.2.2.toNat])) (s, 0, [])
  let v := fun j => listGet 0 r.2.2 j
  (r.1, r.2.1 :: (List.range 4).map fun j => BitVec.ofNat 64 (v (2 * j) * 4294967296 + v (2 * j + 1)))

/-- The slice blocks of a slot. -/
def State.outBlocks (s : State) (i : Nat) : List Nat → State × List W64
  | [] => (s, [])
  | k :: ks =>
    let a := s.outBlock i k
    let b := a.1.outBlocks i ks
    (b.1, a.2 ++ b.2)

/-- The OUTPUT frames of carrier `i`. -/
def State.outputCar (s : State) (t : Instant) (group i : Nat) : State :=
  (carSlots (s.carCfg i)).foldl (fun s x =>
    let r := s.outBlocks i ((List.range x.2).map fun j => x.1 + j)
    r.1.sxSend (i / 32) (t.plus (1000 * s.fld Fld.SX_LAP_D_OUT (i / 32))) group 3 (slotHeader i x.1 x.2 :: r.2)) s

/-- COMMIT_SCAPEX_CARRIERS: the frames leave with the records visible at K, unless the entry came too late (R247, R358) or the
island may launch none (R252, R298). -/
def execCommitScapexCarriers (e : Nat) (k : Instant) (s : State) : Res :=
  match s.entGrp e with
  | none => .next s
  | some d =>
    let w := s.entry e
    if s.runsNow e d 6 k ∧ s.role = 1 then
      let go := s.sxMay && s.isDue 6 e k
      let s := ((s.takeDue 6 e k).ranAt e k).upTo k
      .next (if go then ((s.entCars w).filter fun i => s.sxOn (i / 32)).foldl (fun s i => s.outputCar k (entGroup w) i) s
        else s)
    else .next s

/-! ## TIME (R254 to R256) -/

/-- The TIME frame of the present standard cycle on port `p`, where it has not left yet. -/
def State.sxTimeDue (s : State) (p : Nat) : State :=
  if s.sxOn p && (s.sxP p).timed != some s.sxCycle then s.sxTime p else s

/-- TIME_FRAME_SEND: at every standard boundary, on each port. -/
def execTimeFrameSend (s : State) : Res :=
  if s.sxOrigin then .next ((List.range 8).foldl (fun s p => s.sxTimeDue p) s) else .next s

/-- A returned TIME copy noted: 0 unturned, 1 turned, 2 bad. -/
def State.sxBack (s : State) (p : Nat) (west : Bool) (v : Nat) : State :=
  s.setSxP p (if west then { s.sxP p with retW := some v } else { s.sxP p with retE := some v })

/-- A turned copy: WRAP_AT, and the ring wrapped (0x8001). -/
def State.sxTurned (s : State) (p : Nat) (west : Bool) (at_ : Nat) : State :=
  let s := if west then s.setFld Fld.SX_PORT_WRAP_W at_ p else s.setFld Fld.SX_PORT_WRAP_E at_ p
  let s := (s.setFlag Fld.SX_PORT_WRAPPED true p).setFlag Fld.SX_PORT_INTACT false p
  if (s.sxP p).wrapNow then s else (s.setSxP p { s.sxP p with wrapNow := true }).sxNote p 0x8001 [at_]

/-- Both copies back unturned: the lap was intact both ways (R256). -/
def State.sxIntact (s : State) (p prop : Nat) : State :=
  let s := (s.setFlag Fld.SX_PORT_WRAPPED false p).setFlag Fld.SX_PORT_INTACT true p
  let was := (s.sxP p).wrapNow
  let s := s.setSxP p { s.sxP p with prop := prop, wrapNow := false }
  if was then s.sxNote p 0x8002 [] else s

/-- The propagation of a lap of `lap` ns: what the nodes' forwarding delays, which CORRECTION sums, leave of it (R246, R256). -/
def sxProp (lap : Nat) (f : SxFrame) : Nat := lap - (listGet 0 f.payload 0).toNat / 65536

/-- TIME_FRAME_RETURN: one copy of the last TIME frame, with the lap measured over it. -/
def execTimeFrameReturn (port : Fin 8) (f : SxFrame) (lap : Nat) (s : State) : Res :=
  let p := port.val
  if !s.sxOn p || !s.sxOwn f || !s.alive 6 || sxType f != 1 || !(s.sxP p).sent then .next s
  else
    let west := bitAt f.hdr 44
    if !f.fcsOk then .next (((s.sxBack p west 2).bump Fld.SX_ERR_FCS_BAD p).setFlag Fld.SX_PORT_INTACT false p)
    else if sxWrapped f then .next ((s.sxBack p west 1).sxTurned p west (bits f.hdr 65 60))
    else
      let s := (s.sxBack p west 0).setFld Fld.SX_LAP_LAP (sat 65535 (lap / 10)) p
      if (s.sxP p).retE = some 0 ∧ (s.sxP p).retW = some 0 then .next (s.sxIntact p (sxProp lap f)) else .next s

/-! ## Forwarding (R241, R251, R255, R256) -/

/-- The header and words of a frame that a node has passed: HOPS, CORRECTION of a TIME frame. Reserved types go on unchanged. -/
def sxPass (f : SxFrame) (delay : Nat) : SxFrame :=
  if sxType f = 0 ∨ 6 ≤ sxType f then f
  else
    let h := putBits f.hdr 71 66 ((bits f.hdr 71 66 + 1) % 64)
    let ws := match f.payload with
      | c :: t => if sxType f = 1 then (c + BitVec.ofNat 64 delay) :: t else f.payload
      | [] => []
    { f with hdr := h, payload := ws }

/-- What the slots of a passing frame that report give one entry. -/
def State.sxPassTo (s : State) (p e : Nat) (f : SxFrame) : State :=
  (sxSlots f.payload.length f.payload).foldl (fun s x => if bitAt x.1 45 then s.sxDeliver e p x.1 x.2 else s) s

/-- In a standby, the fresh slots of the COLLECT copy that the active launched toward the carriers: from the E pair by
position A, from the W pair by position B (R245, R310). -/
def State.sxPassing (s : State) (p : Nat) (f : SxFrame) : State :=
  if s.standing && f.fcsOk && sxType f == 2 && bitAt f.hdr 44 == bitAt f.hdr 45 then
    (s.collectsOf f).foldl (fun s e => s.sxPassTo p e f) s
  else s

/-- The command of one channel in a passing frame: a carrier keeps its previous one where the quality byte carries LATE or
NO_AUTHORITY (R244), and so does its shadow. -/
def State.sxShadowOne (s : State) (i ch q : Nat) (v : Word) : State :=
  let b := BitVec.ofNat 8 q
  if b.getLsbD qLate || b.getLsbD qNoAuth then s else s.sxKeep i ch q v

/-- In a standby, the shadow commands of carrier channels follow the active's OUTPUT and IMMEDIATE frames as they pass (R310,
R321). -/
def State.sxShadow (s : State) (p : Nat) (f : SxFrame) : State :=
  if !(s.standing && f.fcsOk && bits f.hdr 58 46 == s.base.binary && bitAt f.hdr 43) then s
  else if sxType f = 3 then
    (sxSlots f.payload.length f.payload).foldl (fun s x =>
      let i := 32 * p + bits x.1 63 59
      (List.range (8 * bits x.1 52 46)).foldl (fun s k =>
        let ws := x.2.drop (5 * (k / 8))
        s.sxShadowOne i (8 * bits x.1 58 53 + k) (blockQ (k % 8) ws) (blockVal (k % 8) ws)) s) s
  else if sxType f = 4 then
    let w := listGet 0 f.payload 0
    s.sxShadowOne (32 * p + bits w 63 59) (bits w 58 50) (bits w 39 32) (BitVec.ofNat 32 (bits w 31 0))
  else s

/-- SCAPEX_FORWARD: the module that does not originate sends the frame on in its direction, or turns it back where its own
downstream segment is down; it keeps what slot headers say. `delay` is in units of 1/65,536 ns. -/
def execScapexForward (port : Fin 8) (f : SxFrame) (delay : Nat) (s : State) : Res :=
  let p := port.val
  if !s.alive 6 || s.sxOrigin || s.sxOwn f then .next s
  else
    let s := if f.fcsOk && (sxType f == 2 || sxType f == 3) && !s.flag Fld.RST_POWER_DORMANT then
        (sxSlots f.payload.length f.payload).foldl (fun s x =>
          let i := 32 * p + bits x.1 63 59
          if slotReports x.1 && s.carDeclared i then s.sxHear i x.1 else s) s
      else s
    let s := (s.sxPassing p f).sxShadow p f
    let g := sxPass f delay
    let east := bitAt f.hdr 44 == sxWrapped f
    let down := if east then (s.sxP p).downE else (s.sxP p).downW
    if down then .next (s.emit (.scapex p (!east) (sxWire { g with hdr := putBits (putBit g.hdr 59 true) 65 60 32 })))
    else .next (s.emit (.scapex p east (sxWire g)))

/-- SCAPEX_SEGMENT_DOWN. -/
def execScapexSegmentDown (port : Fin 8) (east : Bool) (s : State) : Res :=
  let x := s.sxP port.val
  .next (s.setSxP port.val (if east then { x with downE := true } else { x with downW := true }))

/-- SCAPEX_SEGMENT_UP. -/
def execScapexSegmentUp (port : Fin 8) (east : Bool) (s : State) : Res :=
  let x := s.sxP port.val
  .next (s.setSxP port.val (if east then { x with downE := false } else { x with downW := false }))

/-! ## SERVICE (R258) -/

/-- The receive buffer has room for both copies of a frame of `n` words, copies still on the ring counted. -/
def State.sxRoom (s : State) (p n : Nat) : Bool :=
  let x := s.sxP p
  let rx := x.rx.foldl (fun a f => a + sxBytes f.payload.length) 0
  let ring := x.tx.foldl (fun a f => a + f.onRing * sxBytes f.payload.length) 0
  decide (rx + ring + 2 * sxBytes n ≤ 16384)

/-- The transmit buffer has room for a frame of `n` words. -/
def State.sxTxRoom (s : State) (p n : Nat) : Bool :=
  decide ((s.sxP p).tx.foldl (fun a f => a + sxBytes f.payload.length) 0 + sxBytes n ≤ 16384)

/-- The first frame of a transmit buffer that meets `pick` changed, or taken out. -/
def txUpdate (pick : SxService → Bool) (f : SxService → Option SxService) : List SxService → List SxService
  | [] => []
  | x :: xs => if pick x then (match f x with
      | some y => y :: xs
      | none => xs) else x :: txUpdate pick f xs

/-- SERVICE_FRAME_LAUNCH: the oldest frame with no copy on the ring. -/
def execServiceFrameLaunch (port : Fin 8) (s : State) : Res :=
  let p := port.val
  match (s.sxP p).tx.find? fun x => x.onRing == 0 with
  | none => .next s
  | some x =>
    if s.sxOn p && s.sxOrigin && s.sxRoom p x.payload.length then
      let s := s.sxSend p s.pt 0 5 x.payload
      let q := s.sxLast p
      let up := txUpdate (fun y => y.onRing == 0)
        (fun y => some { y with tries := y.tries + 1, seq := q, onRing := 2, got := false, sentAt := s.mt.frc }) (s.sxP p).tx
      .next (s.setSxP p { s.sxP p with tx := up })
    else .next s

/-- A frame none of whose copies is on the ring any more: gone where a valid copy came back or its repeats are used up. -/
def txEnd (x : SxService) : Option SxService :=
  if x.onRing ≠ 0 then some x else if x.got || decide (4 ≤ x.tries) then none else some x

/-- What the first valid copy of a SERVICE frame brings back: the identity it reads can be judged, or its carrier is configured
(0x8004, R259). -/
def State.sxServed (s : State) (p : Nat) (x : SxService) : State :=
  if x.got then s
  else
    let s := match x.ident with
      | some i => s.setSxC i { s.sxC i with answered := true }
      | none => s
    match x.load with
    | some i => (s.setSxC i { s.sxC i with configured := true }).sxNote p 0x8004 [i % 32]
    | none => s

/-- SERVICE_FRAME_RETURN. -/
def execServiceFrameReturn (port : Fin 8) (f : SxFrame) (s : State) : Res :=
  let p := port.val
  let q := bits f.hdr 95 80
  let mine := fun (x : SxService) => decide (0 < x.onRing) && x.seq == q
  if !s.sxOn p || !s.sxOwn f || !s.alive 6 || sxType f != 5 then .next s
  else
    match (s.sxP p).tx.find? mine with
    | none => .next s
    | some y =>
      let x := s.sxP p
      let up := txUpdate mine (fun y => txEnd { y with onRing := y.onRing - 1, got := y.got || f.fcsOk }) x.tx
      if f.fcsOk then .next ((s.setSxP p { x with tx := up, rx := x.rx ++ [f] }).sxServed p y)
      else .next ((s.setSxP p { x with tx := up }).bump Fld.SX_ERR_FCS_BAD p)

/-- A frame on the ring whose lap bound of 2 × L has passed (R258). -/
def State.txLate (s : State) (p : Nat) (x : SxService) : Bool :=
  decide (0 < x.onRing) && decide (2 * (s.sxPortCfg p).lap ≤ (s.mt.frc - x.sentAt).toNat)

/-- SERVICE_FRAME_TIMEOUT: the lap bound has passed for the oldest frame on the ring. -/
def execServiceFrameTimeout (port : Fin 8) (s : State) : Res :=
  let p := port.val
  match (s.sxP p).tx.find? fun x => s.txLate p x with
  | none => .next s
  | some x =>
    let up := txUpdate (fun y => s.txLate p y) (fun y => txEnd { y with onRing := 0 }) (s.sxP p).tx
    .next ((s.setSxP p { s.sxP p with tx := up }).bump Fld.SX_ERR_LOST p x.onRing)

/-! ## Carriers (R259) -/

/-- A SERVICE frame of carrier `i` put into its port's transmit buffer, where it has room: one that reads its identity, or one that
loads its configuration. What its words hold is in the carriers' manuals (log entry 86). -/
def State.sxQueue (s : State) (i : Nat) (load : Bool) : State :=
  let p := i / 32
  let ws := (Config.carrierService i s.free).take 124
  let s := s.draw
  let f : SxService := { payload := ws, ident := if load then none else some i, load := if load then some i else none }
  if s.sxTxRoom p ws.length then s.setSxP p { s.sxP p with tx := (s.sxP p).tx ++ [f] } else s

/-- CSTATE 0 of a carrier, and what RUNNING of its port then is (R259). -/
def State.sxUnconfigured (s : State) (i : Nat) : State :=
  let s := s.setFld Fld.SX_CAR_CSTATE 0 i
  s.setFld Fld.SX_PORT_RUNNING (s.sxRunning (i / 32)) (i / 32)

/-- The identity of carrier `i` judged (R259): absent, the declared one, whose configuration then goes out, or another. -/
def State.sxJudged (s : State) (i : Nat) (identity : Option Nat) : State :=
  let s := s.setSxC i { s.sxC i with identity := identity, configured := false }
  match identity with
  | none => s.sxUnconfigured i
  | some k =>
    if k = (s.carCfg i).identity then (s.setFlag Fld.SX_CAR_MISMATCH false i).sxQueue i true
    else ((s.setFlag Fld.SX_CAR_MISMATCH true i).sxUnconfigured i).sxNote (i / 32) 0x8005 [i % 32]

/-- A carrier's identity is read by a SERVICE frame, and judged when that has come back; the supervisor then takes what waits in
the receive buffer. Carriers are configured by the module that may launch SERVICE frames, so never from a standby (R252,
R259). -/
def State.carrierFound (s : State) (i : Nat) (identity : Option Nat) : State :=
  let p := i / 32
  if !s.sxOn p || !s.carDeclared i || !s.sxOrigin || s.phase < 6 then s
  else if !(s.sxC i).answered then s.sxQueue i false
  else ((s.setSxP p { s.sxP p with rx := [] }).setSxC i { s.sxC i with answered := false }).sxJudged i identity

/-- CARRIER_CONFIGURE. -/
def execCarrierConfigure (i : Fin 256) (identity : Option Nat) (s : State) : Res := .next (s.carrierFound i.val identity)

/-- CARRIER_APPEARED. -/
def execCarrierAppeared (i : Fin 256) (identity : Option Nat) (s : State) : Res := .next (s.carrierFound i.val identity)

/-- Three standard cycles have passed since a carrier's last slot report. -/
def State.sxSilent (s : State) (x : SxC) : Bool :=
  match x.slotAt with
  | some f => decide (3000000 ≤ (s.mt.frc - f).toNat)
  | none => false

/-- CARRIER_LOST: 3 standard cycles without a slot report. -/
def execCarrierLost (i : Fin 256) (s : State) : Res :=
  let p := i.val / 32
  let x := s.sxC i.val
  if s.sxOn p && s.carDeclared i.val && s.sxOrigin && !x.lost && s.sxSilent x then
    let s := s.setSxC i.val { x with lost := true, slotAt := none }
    let s := s.setFld Fld.SX_PORT_RUNNING (s.sxRunning p) p
    .next (s.sxNote p 0x8003 [i.val % 32])
  else .next s

end Sys2Proof.Machine
end

