-- ==== Sys2Proof/Machine/Trig.lean ====
section
/-! DEFINITION. The arithmetic of identification and of the predicted margins (06 R154, R155, R157): values of 96 significant bits,
the circular functions, complex numbers. -/

namespace Sys2Proof

/-- A value m × 2^e of at most 96 significant bits, truncated where an operation gives more. -/
structure Wf where
  m : Int := 0
  e : Int := 0
  deriving DecidableEq, Repr, Inhabited

/-- A value cut to 96 significant bits. -/
def Wf.norm (m e : Int) : Wf :=
  if m = 0 then {}
  else
    let k := bitLen m.natAbs - 96
    let a := m.natAbs / 2 ^ k
    { m := if m < 0 then -(a : Int) else (a : Int), e := e + (k : Int) }

def Wf.zero : Wf := {}
def Wf.ofInt (i : Int) : Wf := Wf.norm i 0
def Wf.neg (a : Wf) : Wf := { a with m := -a.m }
def Wf.abs (a : Wf) : Wf := { a with m := (a.m.natAbs : Int) }

/-- The place above the top bit. -/
def Wf.top (a : Wf) : Int := a.e + (bitLen a.m.natAbs : Int)

/-- The sum; a summand below the other's last bit is left out. -/
def Wf.add (a b : Wf) : Wf :=
  if a.m = 0 then b else if b.m = 0 then a
  else if b.top + 200 < a.top then a else if a.top + 200 < b.top then b
  else
    let q := min a.e b.e
    Wf.norm (a.m * 2 ^ (a.e - q).toNat + b.m * 2 ^ (b.e - q).toNat) q

def Wf.sub (a b : Wf) : Wf := a.add b.neg
def Wf.mul (a b : Wf) : Wf := Wf.norm (a.m * b.m) (a.e + b.e)

/-- The quotient; 0 where the divisor is 0, which no caller lets happen. -/
def Wf.div (a b : Wf) : Wf :=
  if b.m = 0 then {}
  else
    let n : Int := (((a.m.natAbs * 2 ^ 200) / b.m.natAbs : Nat) : Int)
    Wf.norm (if (a.m < 0) = (b.m < 0) then n else -n) (a.e - b.e - 200)

/-- The square root of a value that is not negative. -/
def Wf.sqrt (a : Wf) : Wf :=
  let sh := 192 + (a.e % 2).toNat
  Wf.norm (isqrt (a.m.natAbs * 2 ^ sh) 152 0 : Int) ((a.e - (sh : Int)) / 2)

def Wf.lt (a b : Wf) : Bool := decide ((a.sub b).m < 0)
def Wf.le (a b : Wf) : Bool := decide ((a.sub b).m ≤ 0)

/-- A finite binary32 value; 0 stands for the others, which no caller lets in. -/
def Wf.ofFl : Fl → Wf
  | .fin neg m e => Wf.norm (if neg then -(m : Int) else (m : Int)) e
  | _ => {}

/-- The nearest binary32 value. -/
def Wf.toFl (a : Wf) : Fl := Fl.round (decide (a.m < 0)) a.m.natAbs a.e

/-- n ÷ d. -/
def Wf.ofRatio (n d : Nat) : Wf := (Wf.ofInt n).div (Wf.ofInt d)

/-- π to 128 bits after the point. -/
def Wf.pi : Wf := Wf.norm 1069028584064966747859680373161870783300 (-128)

/-- The sum of a power series in x²: `t` its term k, whose successor is −t·x² ÷ ((k + 1)(k + 2)). -/
def Wf.series (x2 : Wf) (k : Nat) (t acc : Wf) : Nat → Wf
  | 0 => acc
  | n + 1 => Wf.series x2 (k + 2) ((t.mul x2).neg.div (Wf.ofInt ((k + 1) * (k + 2)))) (acc.add t) n

/-- The nearest integer. -/
def Wf.nearest (a : Wf) : Int :=
  let n : Int := (roundTo a.m.natAbs a.e 0 : Int)
  if a.m < 0 then -n else n

/-- An angle taken into −π to π. -/
def Wf.turn (x : Wf) : Wf :=
  let p := Wf.pi.add Wf.pi
  x.sub (p.mul (Wf.ofInt (x.div p).nearest))

def Wf.sin (x : Wf) : Wf := let y := x.turn; Wf.series (y.mul y) 1 y {} 32
def Wf.cos (x : Wf) : Wf := let y := x.turn; Wf.series (y.mul y) 0 (Wf.ofInt 1) {} 32

/-- The sum of x − x³ ÷ 3 + …: `t` the power of x at k. -/
def Wf.arcSeries (x2 : Wf) (k : Nat) (t acc : Wf) : Nat → Wf
  | 0 => acc
  | n + 1 => Wf.arcSeries x2 (k + 2) (t.mul x2).neg (acc.add (t.div (Wf.ofInt k))) n

/-- The arc tangent: three halvings of the angle, then the series. -/
def Wf.atan (x : Wf) : Wf :=
  let half := fun (y : Wf) => y.div ((Wf.ofInt 1).add ((Wf.ofInt 1).add (y.mul y)).sqrt)
  let y := half (half (half x))
  (Wf.arcSeries (y.mul y) 1 y {} 24).mul (Wf.ofInt 8)

/-! ## Complex values -/

structure Cx where
  re : Wf := {}
  im : Wf := {}
  deriving DecidableEq, Repr, Inhabited

def Cx.add (a b : Cx) : Cx := { re := a.re.add b.re, im := a.im.add b.im }
def Cx.mul (a b : Cx) : Cx :=
  { re := (a.re.mul b.re).sub (a.im.mul b.im), im := (a.re.mul b.im).add (a.im.mul b.re) }
def Cx.scale (k : Wf) (a : Cx) : Cx := { re := k.mul a.re, im := k.mul a.im }

/-- The square of the magnitude. -/
def Cx.norm2 (a : Cx) : Wf := (a.re.mul a.re).add (a.im.mul a.im)

/-- The quotient; 0 where the divisor is 0. -/
def Cx.div (a b : Cx) : Cx :=
  let n := b.norm2
  let p := a.mul { b with im := b.im.neg }
  { re := p.re.div n, im := p.im.div n }

/-- e^(jx). -/
def Cx.expj (x : Wf) : Cx := { re := x.cos, im := x.sin }

/-- The argument, above −π and at most π; 0 for 0. -/
def Cx.arg (a : Cx) : Wf :=
  if a.re.m = 0 then
    (if a.im.m = 0 then {} else if a.im.m < 0 then (Wf.pi.div (Wf.ofInt 2)).neg else Wf.pi.div (Wf.ofInt 2))
  else
    let t := (a.im.div a.re).atan
    if 0 < a.re.m then t else if a.im.m < 0 then t.sub Wf.pi else t.add Wf.pi

end Sys2Proof
end

