-- ==== Sys2Proof/Machine/Identify.lean ====
section
/-! DEFINITION. What a completed test identifies from its log, and the margins that the layer predicts (06 R154, R155, R157). -/

namespace Sys2Proof.Machine

/-! ## The log (R155) -/

/-- Time between two pairs of a test's log, in seconds. -/
def logStep (t : TestSlot) (period : Nat) : Wf := Wf.ofRatio (max 1 t.div * period) 1000000000

/-- PV's deviation from its value at the start, which the log of e gives while the target stands. -/
def pvLog (d : BitVec 512) (t : TestSlot) : List Wf :=
  let e0 := Wf.ofFl (Fl.ofBits t.e0)
  t.log.map fun x =>
    let e := Wf.ofFl (Fl.ofBits x.1)
    if ldDir d then e.sub e0 else e0.sub e

/-- u's deviation from its value at the start. -/
def uLog (t : TestSlot) : List Wf :=
  let u0 := Wf.ofFl (Fl.ofBits t.u0)
  t.log.map fun x => (Wf.ofFl (Fl.ofBits x.2)).sub u0

def sumWf (xs : List Wf) : Wf := xs.foldl Wf.add {}
def dotWf (xs ys : List Wf) : Wf := sumWf (List.zipWith Wf.mul xs ys)

/-! ## First order plus dead time (R154) -/

/-- `us` later by θ, in steps of `h`: linear between two pairs of the log, 0 before its start. -/
def delayed (us : List Wf) (h th : Wf) : List Wf :=
  let r := th.div h
  let q := min us.length (r.m.natAbs * 2 ^ r.e.toNat / 2 ^ (-r.e).toNat)
  let f := r.sub (Wf.ofInt q)
  List.zipWith (fun a b => (a.sub (f.mul a)).add (f.mul b)) (List.replicate q Wf.zero ++ us)
    (List.replicate (q + 1) Wf.zero ++ us)

/-- A first-order lag from `y` on, `a` its pole. -/
def lagged (a : Wf) (y : Wf) : List Wf → List Wf
  | [] => []
  | v :: vs =>
    let y := (a.mul y).add (v.sub (a.mul v))
    y :: lagged a y vs

/-- The response of unit gain to a test's u; the lag's pole is τ ÷ (τ + step), as R151 has it of a filter. -/
def unitResponse (us : List Wf) (h tau th : Wf) : List Wf := lagged (tau.div (tau.add h)) {} (delayed us h th)

/-- K of the least squares from a response to PV. -/
def bestGain (g ys : List Wf) : Wf := (dotWf g ys).div (dotWf g g)

/-- The sum of squares of a model's residual. -/
def residual2 (k : Wf) (g ys : List Wf) : Wf :=
  sumWf (List.zipWith (fun a y => (y.sub (k.mul a)).mul (y.sub (k.mul a))) g ys)

/-- The residual that τ and θ leave with the best K. -/
def leastResidual (us ys : List Wf) (h tau th : Wf) : Wf :=
  let g := unitResponse us h tau th
  residual2 (bestGain g ys) g ys

/-- A whole number of steps of a log, as a binary32 value. -/
def wholeSteps (h : Wf) (n : Nat) : Wf := Wf.ofFl (h.mul (Wf.ofInt n)).toFl

/-- τ and θ fit a log by least squares (R154): no pair of whole steps of the log leaves a smaller residual.
(DESIGN CHOICE, log entry 124) -/
def fits (us ys : List Wf) (h tau th : Wf) : Bool :=
  let r := leastResidual us ys h tau th
  (List.range (us.length + 1)).all fun i => (List.range (us.length + 1)).all fun j =>
    Wf.le r (leastResidual us ys h (wholeSteps h i) (wholeSteps h j))

/-- The normalised fit error (R155): RMS of the residual over RMS of PV's deviation. -/
def fitError (r ys2 : Wf) : Fl := if ys2.m = 0 then .nan else (r.div ys2).sqrt.toFl

/-! ## The relay's point (R154) -/

/-- One term of a discrete Fourier transform at `w` rad per step. -/
def dftAt (w : Wf) (n : Nat) : List Wf → Cx
  | [] => {}
  | x :: xs => ((Cx.expj (w.mul (Wf.ofInt n)).neg).scale x).add (dftAt w (n + 1) xs)

/-- ω1 in rad/s and G(jω1), from the last 4 periods, which lie between the last relay change and the eighth before it. -/
def relayPoint (d : BitVec 512) (t : TestSlot) (period : Nat) : Option (Wf × Cx) :=
  match t.marks.head?, t.marks[8]? with
  | some b, some a =>
    let cut := fun (xs : List Wf) => (xs.take (b / max 1 t.div)).drop (a / max 1 t.div)
    let w := ((Wf.pi.mul (Wf.ofInt 8)).mul (Wf.ofInt 1000000000)).div (Wf.ofInt ((b - a) * period))
    let step := w.mul (logStep t period)
    let u := dftAt step 0 (cut (uLog t))
    if u.norm2.m = 0 ∨ b ≤ a then none else some (w, (dftAt step 0 (cut (pvLog d t))).div u)
  | _, _ => none

/-! ## The model of a test -/

/-- A model as the acceptance tests take it: fit error, K as identified, τ and θ, and whether a relay point is no model. -/
structure Found where
  fit   : Fl
  k     : Fl
  tau   : Fl
  theta : Fl
  bad   : Bool
  deriving DecidableEq, Repr, Inhabited

/-- The least-squares fit is one of this log: τ and θ are at least 0, and no other pair fits better. -/
def fitOk (d : BitVec 512) (t : TestSlot) : TestModel → Bool
  | .pulse tau th =>
    let tau := Fl.ofBits tau
    let th := Fl.ofBits th
    !t.relay && tau.finite && th.finite && Fl.le Fl.zero tau && Fl.le Fl.zero th &&
    fits (uLog t) (pvLog d t) (logStep t (ldPeriod d)) (Wf.ofFl tau) (Wf.ofFl th)
  | .relay => t.relay

/-- A model with the fit error that it leaves on a test's log. -/
def foundOn (d : BitVec 512) (t : TestSlot) (k tau th : Wf) (bad : Bool) : Found :=
  let ys := pvLog d t
  let g := unitResponse (uLog t) (logStep t (ldPeriod d)) tau th
  { fit := fitError (residual2 k g ys) (dotWf ys ys), k := k.toFl, tau := tau.toFl, theta := th.toFl, bad := bad }

/-- K held from the last accepted identification, or declared before the first (R154). -/
def heldGain (a : AdaptCfg) (r : AdaptRec) : Fl :=
  match r.model, a.k0 with
  | some m, _ => Fl.ofBits m.1
  | none, some k => Fl.ofBits k
  | none, none => Fl.nan

/-- The model of a completed test (R154): PULSE's least squares; RELAY's τ and θ from its point and the K held or declared. A point
with K ÷ |G| at most 1, or θ below 0, is no model. -/
def findModel (a : AdaptCfg) (d : BitVec 512) (r : AdaptRec) (t : TestSlot) : TestModel → Found
  | .pulse tau th =>
    let tau := Wf.ofFl (Fl.ofBits tau)
    let th := Wf.ofFl (Fl.ofBits th)
    foundOn d t (bestGain (unitResponse (uLog t) (logStep t (ldPeriod d)) tau th) (pvLog d t)) tau th false
  | .relay =>
    let k := heldGain a r
    match relayPoint d t (ldPeriod d), k.finite with
    | some (w, g), true =>
      let q2 := ((Wf.ofFl k).mul (Wf.ofFl k)).div g.norm2
      if Wf.le q2 (Wf.ofInt 1) || g.norm2.m == 0 then { fit := .nan, k := k, tau := .nan, theta := .nan, bad := true }
      else
        let tau := (q2.sub (Wf.ofInt 1)).sqrt.div w
        let th := (g.arg.neg.sub (w.mul tau).atan).div w
        if th.m < 0 then { (foundOn d t (Wf.ofFl k) tau {} true) with theta := th.toFl }
        else foundOn d t (Wf.ofFl k) tau th false
    | _, _ => { fit := .nan, k := k, tau := .nan, theta := .nan, bad := true }

/-! ## Predicted margins (R157) -/

/-- One section at z⁻¹ = `z`, its A1 as R125 has it. -/
def sectionAt (a1 : Fl) (c : Sec) (z : Cx) : Cx :=
  let w := fun (x : Fl) => Wf.ofFl x
  let z2 := z.mul z
  let num := (Cx.scale (w (Fl.ofBits c.b1)) z).add (Cx.scale (w (Fl.ofBits c.b2)) z2)
  let den := (Cx.scale (w a1) z).add (Cx.scale (w (Fl.ofBits c.a2)) z2)
  Cx.div { num with re := num.re.add (w (Fl.ofBits c.b0)) } { den with re := den.re.add (Wf.ofInt 1) }

/-- The cascade at z⁻¹ = `z`. -/
def cascadeAt (d : BitVec 512) (z : Cx) : Nat → List Sec → Cx
  | _, [] => { re := Wf.ofInt 1 }
  | i, c :: cs => (sectionAt (secA1 d i c) c z).mul (cascadeAt d z (i + 1) cs)

/-- The open loop at `w` rad/s: all sections of the candidate, the model, and a delay of one class period. -/
def openLoop (d : BitVec 512) (k tau th : Wf) (secs : List Sec) (w : Wf) : Cx :=
  let p := Wf.ofRatio (ldPeriod d) 1000000000
  let z := Cx.expj (w.mul p).neg
  let lag := Cx.div (Cx.scale k (Cx.expj (w.mul (th.add p)).neg)) { re := Wf.ofInt 1, im := w.mul tau }
  (cascadeAt d z 0 secs).mul lag

/-- Where `f` changes between `a` and `b`, by halving. -/
def bisect (f : Wf → Bool) (a b : Wf) : Nat → Wf
  | 0 => a
  | n + 1 =>
    let m := (a.add b).div (Wf.ofInt 2)
    if f m == f a then bisect f m b n else bisect f a m n

/-- 2^(1/32), the ratio of two frequencies of the search. -/
def scanRatio : Wf := Wf.norm 80963033366431698391403892406 (-96)

/-- |L| is at least 1. -/
def bigAt (x : Cx) : Bool := Wf.le (Wf.ofInt 1) x.norm2
/-- L lies on the real axis or above it. -/
def upAt (x : Cx) : Bool := decide (0 ≤ x.im.m)

/-- The least margins over `n` steps of frequency from `w` on, where L is `y`: every crossing of |L| = 1, and every crossing of the
negative real axis, between two of them. -/
def scanMargins (l : Wf → Cx) (w : Wf) (y : Cx) (gm pm : Fl) : Nat → Fl × Fl
  | 0 => (gm, pm)
  | n + 1 =>
    let w' := w.mul scanRatio
    let y' := l w'
    let pm :=
      if bigAt y == bigAt y' then pm
      else
        let a := ((l (bisect (fun x => bigAt (l x)) w w' 48)).arg.mul (Wf.ofInt 180)).div Wf.pi
        Fl.min (Wf.toFl (if 0 < a.m then a.sub (Wf.ofInt 180) else a.add (Wf.ofInt 180))) pm
    let gm :=
      if upAt y == upAt y' then gm
      else
        let x := (l (bisect (fun x => upAt (l x)) w w' 48)).re
        if 0 ≤ x.m then gm else Fl.min ((Wf.ofInt 1).div x.abs).toFl gm
    scanMargins l w' y' gm pm n

/-- The gain margin and the phase margin in degrees of a candidate (R157), from 32 octaves below the highest frequency of the class
up to it. -/
def marginsOf (d : BitVec 512) (k tau th : Fl) (secs : List Sec) : F32 × F32 :=
  let top := (Wf.pi.mul (Wf.ofInt 1000000000)).div (Wf.ofInt (ldPeriod d))
  let l := openLoop d (Wf.ofFl k) (Wf.ofFl tau) (Wf.ofFl th) secs
  let low : Wf := { top with e := top.e - 32 }
  let r := scanMargins l low (l low) (.inf false) (.inf false) 1024
  (r.1.toBits, r.2.toBits)

end Sys2Proof.Machine
end

