-- ==== Sys2Proof/Machine/Network.lean ====
section
/-! DEFINITION. The plant network ports (R260 to R271) and the subscriber's side of streams (R110 to R114, R474). -/

namespace Sys2Proof.Machine

/-! ## Counters of a stream (PN_SSTAT) -/

/-- Key of a stream's counters: table (0 subscription, 2 transit) and index. -/
def streamKey (table i : Nat) : Nat := table * 65536 + i

/-- A drop under R270 counted in PN_SSTAT of each table that holds the stream, and once for the port. -/
def State.bumpPoliced (s : State) (ks : List Nat) (p : Nat) : State :=
  let up := fun c k => Tab.set 0 c k (satAdd 65535 (Tab.get 0 c k) 1)
  let s := { s with pn := { s.pn with polc := ks.foldl up s.pn.polc } }
  (s.bump Fld.PN_DROP_POLICED p).ev 113

def State.bumpEliminated (s : State) (k : Nat) : State :=
  { s with pn := { s.pn with elimc := Tab.set 0 s.pn.elimc k (satAdd 65535 (Tab.get 0 s.pn.elimc k) 1) } }

/-! ## Policing (R270) -/

/-- A frame of the stream with counters `ks` policed at port `p`: the arrivals that passed in (t − P, t], and whether this one
passes. -/
def State.police (s : State) (ks : List Nat) (p cls len declared : Nat) (t : Instant) : State × Bool :=
  let key := listGet 0 ks 0 * 4 + p
  let recent := (Tab.get [] s.pn.arr key).filter fun a => Instant.before (t - BitVec.ofNat 64 (Config.period cls)) a
  if declared < len ∨ 2 ≤ recent.length then (s.bumpPoliced ks p, false)
  else ({ s with pn := { s.pn with arr := Tab.set [] s.pn.arr key (recent ++ [t]) } }, true)

/-! ## Elimination (R268): the vector recovery algorithm of IEEE 802.1CB, history 32, reset time 10 ms -/

/-- The recovery function begins anew at `t`: it has taken nothing for 10 ms. -/
def Elim.fresh (x : Elim) (t : Instant) : Bool :=
  match x.at_ with
  | some a => decide (10000000 ≤ (t - a).toNat)
  | none => true

/-- What the recovery function says of sequence number `q` at `t`: taken or dropped, and the new state.
(PRESUMED, log entry 55) -/
def Elim.accept (x : Elim) (q : Nat) (t : Instant) : Elim × Bool :=
  if x.fresh t then ({ x with seq := q, hist := 1, at_ := some t }, true)
  else
    let up := (q + 65536 - x.seq) % 65536
    let down := (x.seq + 65536 - q) % 65536
    if 0 < up ∧ up < 32 then ({ x with seq := q, hist := (x.hist <<< up) ||| 1, at_ := some t }, true)
    else if down < 32 then
      if bitAt x.hist down then (x, false)
      else ({ x with hist := putBit x.hist down true, at_ := some t }, true)
    else (x, false)

/-- The numbers gone by since each port delivered a copy, after an arrival at port `p` at `t`; where the function begins anew only
the number that has come. -/
def Elim.heard (x y : Elim) (p : Nat) (t : Instant) : Elim :=
  let gone := if x.fresh t then 1 else (y.seq + 65536 - x.seq) % 65536
  if p = 1 then { y with quiet1 := 0, quiet2 := min 65535 (x.quiet2 + gone) }
  else { y with quiet1 := min 65535 (x.quiet1 + gone), quiet2 := 0 }

/-- PATH_SILENT of port `p` set for stream `i`, with Sinter 0x9001 and the port's source (R268). -/
def State.pathSilent (s : State) (i p : Nat) : State :=
  ((s.setFlag Fld.PN_PORT_PATH_SILENT true p).note 4 0x9001 [i, p]).ev (109 + p)

/-- A frame of a replicated stream judged by its recovery function `k`: whether it is the first copy. Numbers that a port has not
delivered are watched. -/
def State.watchPaths (s : State) (k i p q : Nat) (t : Instant) : State × Bool :=
  let x : Elim := Tab.get {} s.pn.elim k
  let r := x.accept q t
  let y := x.heard r.1 p t
  let s := { s with pn := { s.pn with elim := Tab.set {} s.pn.elim k y } }
  let s := if decide (x.quiet1 < 100) && decide (100 ≤ y.quiet1) then s.pathSilent i 1 else s
  let s := if decide (x.quiet2 < 100) && decide (100 ≤ y.quiet2) then s.pathSilent i 2 else s
  (s, r.2)

/-- The internal port's elimination for subscription `i`. -/
def State.eliminate (s : State) (k i p q : Nat) (t : Instant) : State × Bool :=
  let r := s.watchPaths k i p q t
  if r.2 then (r.1, true) else (r.1.bumpEliminated k, false)

/-- The elimination of transit stream `j` at egress port `out`, where its paths merge. -/
def State.eliminateAt (s : State) (j out q : Nat) (t : Instant) : State × Bool :=
  let k := streamKey (2 + 2 * out) j
  let r := (Tab.get {} s.pn.elim k).accept q t
  let s := { s with pn := { s.pn with elim := Tab.set {} s.pn.elim k r.1 } }
  if r.2 then (s, true) else (s.bumpEliminated (streamKey 2 j), false)

/-! ## FRAME_INGRESS (R262, R268, R270, R271, R81) -/

/-- The subscription and the transit entry a stream frame belongs to. -/
def State.subIndex (s : State) (binary stream vlan : Nat) : Option Nat :=
  s.img.subs.findIdx? fun c => c.binary == binary && c.stream == stream && c.vlan == vlan
def State.transitIndex (s : State) (binary stream vlan : Nat) : Option Nat :=
  s.img.transit.findIdx? fun c => c.binary == binary && c.stream == stream && c.vlan == vlan

/-- The other plant port. -/
def otherPort (p : Nat) : Nat := 3 - p

/-- A frame dropped as undeclared (R262). -/
def State.undeclared (s : State) (p : Nat) : State := s.bump Fld.PN_DROP_UNDECLARED p

/-- Time base `n` follows gPTP domain `d` (R83). -/
def State.follows (s : State) (n d : Nat) : Bool :=
  s.flag Fld.MT_TB_CFG_EN n && s.fld Fld.MT_TB_CFG_SOURCE n == 1 && s.fld Fld.MT_TB_CFG_DOMAIN n == d

/-- The domains that a time base tracks (R81, R83). -/
def State.trackedDomain (s : State) (d : Nat) : Bool := (List.range 8).any fun n => s.follows n d

/-- A subscribed frame, policed at its port, goes to the internal port. -/
def State.inboxPut (s : State) (i p q : Nat) : State :=
  { s with pn := { s.pn with inbox := (s.pn.inbox ++ [(i, p, q)]).drop (s.pn.inbox.length - 63) } }

/-- A transit frame, policed at port `p`, goes on to the other plant port, the first copy only where the stream's paths merge there
(R262, R268). Silence of a member path is watched where they enter by both ports. -/
def State.relayStream (s : State) (p j : Nat) (c : TransitCfg) (f : NetFrame) (q : Nat) : State :=
  let out := otherPort p
  let w : NetWait := { cls := 6, fwd := some f }
  let s := if c.both then (s.watchPaths (streamKey 2 j) j p q s.pt).1 else s
  if c.merges.contains out then
    let e := s.eliminateAt j out q s.pt
    if e.2 then e.1.netSend out w else e.1
  else s.netSend out w

/-- A stream frame at port `p`: policed, handed to the internal port, forwarded. -/
def State.ingressStream (s : State) (p : Nat) (f : NetFrame) (binary stream vlan len q : Nat) : State :=
  let t := s.portTime p
  match s.subIndex binary stream vlan, s.transitIndex binary stream vlan with
  | none, none => s.undeclared p
  | some i, none =>
    let c := listGet {} s.img.subs i
    let r := s.police [streamKey 0 i] p c.cls len c.len t
    if r.2 then r.1.inboxPut i p q else r.1
  | none, some j =>
    let c := listGet {} s.img.transit j
    let r := s.police [streamKey 2 j] p c.cls len c.len t
    if r.2 then r.1.relayStream p j c f q else r.1
  | some i, some j =>
    let c := listGet {} s.img.transit j
    let r := s.police [streamKey 0 i, streamKey 2 j] p c.cls len c.len t
    if r.2 then (r.1.inboxPut i p q).relayStream p j c f q else r.1

/-- A control frame at port `p`, 200,000 in a second of FRC at most (R271), and whether it passes. -/
def State.ingressControl (s : State) (p : Nat) : State × Bool :=
  let sec := s.mt.frc.toNat / 1000000000
  let cnt := if Tab.get 0 s.pn.ctlSec p = sec then Tab.get 0 s.pn.ctlCnt p else 0
  if 200000 ≤ cnt then ((s.bump Fld.PN_DROP_POLICED p).ev 113, false)
  else ({ s with pn := { s.pn with
    ctlSec := Tab.set 0 s.pn.ctlSec p sec, ctlCnt := Tab.set 0 s.pn.ctlCnt p (cnt + 1) } }, true)

/-- FRAME_INGRESS (R261, R262): until the forwarding tables are loaded nothing passes. -/
def execFrameIngress (port : Fin 2) (f : NetFrame) (s : State) : Res :=
  let p := port.val + 1
  if !s.flag Fld.PN_PORT_FWD p || !s.linkUp p || !s.alive 4 then .next s
  else
    match f with
    | .badFcs => .next (s.bump Fld.PN_DROP_FCS p)
    | .ptpManagement => .next (s.bump Fld.PN_PTP_MANAGEMENT p)
    | .gptp d => .next (if s.trackedDomain d then s else s.bump Fld.PN_PTP_UNKNOWN_DOMAIN p)
    | .control vid len =>
      (match s.img.vlans.find? (fun v => v.vid == vid) with
       | none => .next (s.undeclared p)
       | some v =>
         let r := s.ingressControl p
         .next (if r.2 && v.forward then r.1.netSend (otherPort p) { cls := 7, fwd := some (.control vid len) } else r.1))
    | .tagged vid len =>
      (match s.img.vlans.find? (fun v => v.vid == vid) with
       | none => .next (s.undeclared p)
       | some v =>
         if v.forward then .next (s.netSend (otherPort p) { cls := v.pcp, fwd := some (.tagged vid len) })
         else if v.service then .next s
         else .next (s.undeclared p))
    | .stream b n v len q _ _ => .next (s.ingressStream p f b n v len q.toNat)

/-- GATE_EVENT: an entry of a port's gate control list comes, in the port's time base (R84, R265, R266). -/
def execGateEvent (port : Fin 2) (i : Nat) (s : State) : Res :=
  let p := port.val + 1
  match (s.gatesOf p)[i]? with
  | some e =>
    if s.flag Fld.PN_PORT_GATES p && gateNow (s.gatesOf p) e (cyclePlace (s.portTime p)) then
      .next (s.setGates p e.gates)
    else .next s
  | none => .next s

/-- Time base `n` hears nothing any more (R83, R90): not synchronized, no receiving port. -/
def State.baseLost (s : State) (n : Nat) : State :=
  (s.setFlag Fld.MT_TB_CFG_SYNCED false n).setFld Fld.MT_TB_CFG_PORT 0 n

/-- Base `n` follows a gPTP domain whose Sync has ceased: nothing for three Sync intervals of its port.
(PRESUMED, log entry 120) -/
def State.baseStale (s : State) (n : Nat) : Bool :=
  s.flag Fld.MT_TB_CFG_SYNCED n && s.fld Fld.MT_TB_CFG_SOURCE n == 1 &&
  decide (3 * (31250000 * 2 ^ (5 + Tab.get (-3) s.mt.logSync (s.fld Fld.MT_TB_CFG_PORT n)).toNat) <
    (s.mt.frc - Tab.get 0 s.mt.tbAt n).toNat)

/-- Bases whose Sync has ceased are not synchronized any more (R90). -/
def State.dropStale (s : State) : State :=
  (List.range 8).foldl (fun s n => if s.baseStale n then s.baseLost n else s) s

/-- The time bases that hear through port `p` lose it, and no domain has its slave port there. -/
def State.portLost (s : State) (p : Nat) : State :=
  let s := { s with mt := { s.mt with bmca := s.mt.bmca.filter fun (x : Nat × Bmca) => x.2.slave != p } }
  (List.range 8).foldl (fun s n => if s.fld Fld.MT_TB_CFG_PORT n == p then s.baseLost n else s) s

/-- PORT_LINK_CHANGE: link up or down (R260); a lost link loses what waits there. -/
def execPortLinkChange (port : Fin 2) (up : Bool) (s : State) : Res :=
  let p := port.val + 1
  if s.linkUp p = up then .next s
  else
    let s := (s.setFlag Fld.PN_PORT_LINK up p).ev (109 + p)
    if up then .next s
    else
      let s := (s.setFlag Fld.PN_PORT_PDELAY_OK false p).portLost p
      .next { s with pn := { s.pn with wait := Tab.set [] s.pn.wait p [] } }

/-! ## Subscriptions (R110 to R114, R474) -/

/-- Records written into the pending records (R110). -/
def State.place (s : State) : List Nat → List W64 → State
  | i :: is, r :: rs => (s.setSub (2 * i + 1) r).place is rs
  | _, _ => s

/-- The next expected instant after an accepted frame: its own VALID_AT where that lies off the grid (R112). -/
def gridOf (old : Option Instant) (v : Instant) (period : Nat) : Instant :=
  match old with
  | some g => if (v - g).toNat % period = 0 then g else v
  | none => v

/-- The frame becomes pending (R110, R113), replacing one with a lower EPOCH. -/
def State.pendSub (s : State) (n : Nat) (c : SubCfg) (v : Instant) (epoch : Nat) (recs : List W64) : State :=
  let x := s.sub n
  let s := s.setSubSt n { x with
    pend := some { validAt := v, epoch := BitVec.ofNat 32 epoch, recs := recs }
    grid := some (gridOf x.grid v (Config.period c.cls)) }
  let s := { s with ln := { s.ln with
    epochs := Tab.set 0 s.ln.epochs c.binary (max (Tab.get 0 s.ln.epochs c.binary) (epoch + 1)) } }
  (s.place c.points recs).setFlag Fld.LN_SUB_SEEN true n

/-- Rules 4 to 7 of R474 on a frame that is timely and no duplicate. (DEDUCED, log entry 56) -/
def State.judgeSub (s : State) (n : Nat) (c : SubCfg) (hdr : BitVec 256) (recs : List W64) : State :=
  let v : Instant := BitVec.ofNat 64 (bits hdr 255 192)
  let epoch := bits hdr 127 96
  if bits hdr 31 24 ≠ c.points.length ∨ recs.length ≠ c.points.length ∨ bits hdr 17 16 ≠ c.cls then
    s.setFlag Fld.LN_SUB_MALFORMED true n
  else if epoch + 1 < Tab.get 0 s.ln.epochs c.binary then (s.bump Fld.LN_DISCARD_OLD_EPOCH).ev 97
  else
    let degraded := bitAt hdr 8
    let s := if degraded then s.setFlag Fld.LN_SUB_DEGRADED_SEEN true n else s
    if degraded && c.coord then s
    else
      let x := s.sub n
      let notLater := match x.applied with
        | some a => !Instant.before a v
        | none => false
      let held := match x.pend with
        | some p => decide (epoch ≤ p.epoch.toNat)
        | none => false
      if notLater || held then s.setFlag Fld.LN_SUB_CLASH true n else s.pendSub n c v epoch recs

/-- SUB_FRAME_ACCEPT: the receive rules in order (R474). A frame that FRAME_INGRESS has policed is not policed again. -/
def execSubFrameAccept (n : Fin 4096) (port : Fin 2) (rseq : BitVec 16) (hdr : BitVec 256) (recs : List W64)
    (s : State) : Res :=
  match s.img.subs[n.val]? with
  | none => .next s
  | some c =>
    let p := port.val + 1
    let key := (n.val, p, rseq.toNat)
    let r := if s.pn.inbox.contains key then ({ s with pn := { s.pn with inbox := s.pn.inbox.erase key } }, true)
      else s.police [streamKey 0 n.val] p c.cls (80 + 8 * recs.length) c.len (s.portTime p)
    if !r.2 then .next r.1
    else
      let s := r.1
      let v : Instant := BitVec.ofNat 64 (bits hdr 255 192)
      if !Instant.before s.pt v then .next ((s.bump Fld.LN_DISCARD_LATE_ARRIVAL).ev 97)
      else if c.repl then
        let e := s.eliminate (streamKey 0 n.val) n.val p rseq.toNat s.pt
        if e.2 then .next (e.1.judgeSub n.val c hdr recs) else .next e.1
      else .next (s.judgeSub n.val c hdr recs)

/-- VALID_AT_APPLY: at VALID_AT, by the subscriber's PT, the pending record becomes the applied one (R110, R114). -/
def execValidAtApply (n : Fin 4096) (s : State) : Res :=
  .next (if (s.sub n.val).dueAt s.pt then s.fallDue n.val else s)

/-- EXPECTED_INSTANT_MISSED (R112): an expected instant has come by the subscriber's PT and brought no pending record. -/
def execExpectedInstantMissed (n : Fin 4096) (s : State) : Res :=
  match s.img.subs[n.val]?, (s.sub n.val).grid with
  | some c, some g =>
    if Instant.atOrBefore g s.pt && !(s.sub n.val).dueAt g then .next (s.missAt n.val c g 1) else .next s
  | _, _ => .next s

end Sys2Proof.Machine
end

