-- ==== Sys2Proof/Machine/Time.lean ====
section
/-! DEFINITION. Plant time (R64 to R90, R464, R475, R476): Sync reception and the servo, holdover, reference contacts,
re-epoch, gPTP messages. -/

namespace Sys2Proof.Machine

/-! ## The view registers (R69, R90) -/

def lo32 (v : W64) : Word := BitVec.ofNat 32 (bits v 31 0)
def hi32 (v : W64) : Word := BitVec.ofNat 32 (bits v 63 32)

/-- A 64-bit value put into a register pair. -/
def State.setPair (s : State) (l h : RegName) (i : Nat) (v : W64) : State := (s.setReg l i (lo32 v)).setReg h i (hi32 v)

/-- A view rebased where its d has reached 2^32 (R66). -/
def View.rebaseDue (v : View) (frc : W64) : View := if 4294967296 ≤ (frc - v.frcBase).toNat then v.rebase frc else v

/-- VIEW_REBASE: the named view takes its present value as BASE and FRC as FRC_BASE once d has reached 2^32 (R66). -/
def execViewRebase (v : ViewId) (s : State) : Res :=
  match v with
  | .pt => .next { s with mt := { s.mt with pt := s.mt.pt.rebaseDue s.mt.frc } }
  | .bt => .next { s with mt := { s.mt with bt := s.mt.bt.rebaseDue s.mt.frc } }
  | .tb n =>
    .next { s with mt := { s.mt with tb := Tab.set {} s.mt.tb n.val ((Tab.get {} s.mt.tb n.val).rebaseDue s.mt.frc) } }

/-- All views held from one sample of FRC (R69). -/
def State.latchViews (s : State) : State :=
  let s := s.setPair .MT_LATCH_FRC_LO .MT_LATCH_FRC_HI 0 s.mt.frc
  let s := s.setPair .MT_LATCH_PT_LO .MT_LATCH_PT_HI 0 s.pt
  let s := s.setPair .MT_LATCH_BT_LO .MT_LATCH_BT_HI 0 s.bt
  (List.range 8).foldl (fun s n => s.setPair .MT_LATCH_TB_LO .MT_LATCH_TB_HI n (s.tbase n)) s

/-- MT_LATCH (R69). -/
def execMtLatch (s : State) : Res := .next s.latchViews

/-! ## Rates and states -/

/-- PT runs on at a rate. BT runs at PT's rate in the active (R89) and in a module that hears no active and is no standby. -/
def State.setPtRate (s : State) (r : Int) : State :=
  let own := s.role = 1 || (s.bn.hbLost && s.role != 2 && s.role != 3 && s.role != 4)
  let bt := if own then s.mt.bt.setRate s.mt.frc r else s.mt.bt
  { s with mt := { s.mt with pt := s.mt.pt.setRate s.mt.frc r, bt := bt } }

/-- The bound of R475: 30 ns for each hop and 1 ns. -/
def State.lockedErr (s : State) : Nat := 30 * s.img.hops + 1

def State.setErr (s : State) (e : Nat) : State := s.setFld Fld.MT_ERR_EST_ERR_EST (sat 4294967295 e)

/-- PT enters LOCKED: from then on its 15 min run (R85). -/
def State.enterLocked (s : State) : State :=
  let at_ := if s.fld Fld.MT_STATE_STATE = 1 then s.mt.lockedAt else some s.mt.frc
  let s := { s with mt := { s.mt with lockedAt := at_ } }
  (((s.setTimeState 1).setErr s.lockedErr)).setCoord false

/-- PT enters SLEWING, or stays in it, with offset `e`. -/
def State.enterSlewing (s : State) (e : Int) : State :=
  let s := { s with mt := { s.mt with lockedAt := none } }
  ((s.setTimeState 2).setErr (e.natAbs + s.lockedErr)).setCoord true

/-- MT_OFFSET shows an accepted offset, saturated. -/
def State.showOffset (s : State) (e : Int) : State :=
  s.setFld Fld.MT_OFFSET_OFFSET (ofSigned 32 (clampInt 2147483647 e))

/-! ## Holdover (R85, R476) -/

/-- Linear between two rows, rounded down. -/
def between (t t0 e0 t1 e1 : Nat) : Nat := e0 + (t - t0) * (e1 - e0) / (t1 - t0)

/-- A column of the holdover table at time `t` ns: figures at 1 s, 10 s, 100 s, 1 h and 24 h. -/
def holdColumn (t a b c d e : Nat) : Nat :=
  if t ≤ 1000000000 then between t 0 0 1000000000 a
  else if t ≤ 10000000000 then between t 1000000000 a 10000000000 b
  else if t ≤ 100000000000 then between t 10000000000 b 100000000000 c
  else if t ≤ 3600000000000 then between t 100000000000 c 3600000000000 d
  else between t 3600000000000 d 86400000000000 e

/-- The figure of the column of a source order: 3 with both references, 4 with 10 MHz in, own oscillator otherwise. -/
def holdFigure (order t : Nat) : Nat :=
  match order with
  | 3 => if t ≤ 1000000000 then between t 0 0 1000000000 100 else 100
  | 4 => holdColumn t 20 50 200 5000 100000
  | _ => holdColumn t 50 500 10000 1000000 30000000

/-- MT_ERR_EST as it reads now (R90, R476). -/
def State.errEst (s : State) : Nat :=
  if s.fld Fld.MT_STATE_STATE = 3 then
    let h := s.mt.hold
    let f := holdFigure (s.fld Fld.MT_STATE_SOURCE) (s.mt.frc - h.frc).toNat
    sat 4294967295 (h.e0 + (if h.long then f else 4 * f))
  else s.fld Fld.MT_ERR_EST_ERR_EST

/-- The source order that HOLDOVER finds (R71). -/
def State.holdOrder (s : State) : Nat :=
  let f := s.flag Fld.MT_STATE_F10M_VALID && s.mt.f10mRate.isSome
  if f && s.flag Fld.MT_STATE_PPS_VALID && s.mt.ppsOff.isSome then 3 else if f then 4 else 5

/-- The rate on which holdover starts: as learned with 10 MHz in (orders 3 and 4), else the last learned. -/
def State.holdRate (s : State) : Int :=
  if s.holdOrder ≤ 4 then s.mt.f10mRate.getD s.mt.srcRate else s.mt.srcRate

/-- COORD_DEGRADED in HOLDOVER: set while MT_ERR_EST exceeds 1 µs (R70, R476). -/
def State.coordHold (s : State) : State :=
  if s.fld Fld.MT_STATE_STATE = 3 then s.setCoord (decide (1000 < s.errEst)) else s

/-- Holdover follows the reference it finds, and its estimate that reference's column. -/
def State.followHold (s : State) : State := ((s.setTimeSource s.holdOrder).setPtRate s.holdRate).coordHold

/-- HOLDOVER entered, or its source changed (R71, R476). (DESIGN CHOICE, log entry 135) -/
def State.enterHoldover (s : State) : State :=
  let st := s.fld Fld.MT_STATE_STATE
  if st = 1 ∨ st = 2 then
    let e0 := if st = 2 then (BitVec.ofNat 32 (s.fld Fld.MT_OFFSET_OFFSET)).toInt.natAbs else 0
    let long := match s.mt.lockedAt with
      | some a => decide (900000000000 ≤ (s.mt.frc - a).toNat)
      | none => false
    let s := { s with mt := { s.mt with hold := { frc := s.mt.frc, e0 := e0, long := long }, lockedAt := none } }
    ((s.setErr e0).setTimeState 3).followHold
  else if st = 3 then s.followHold
  else s

/-- The partner's PT serves as PT's source (R71, R78): the partner runs, its PT is LOCKED and measured over a link that is up. -/
def State.partnerTime (s : State) : Bool :=
  s.pair && s.mt.partner.isSome && !s.bn.hbLost && (s.flag Fld.BN_STATUS_LINK0_UP || s.flag Fld.BN_STATUS_LINK1_UP)

/-- No time base that follows domain `d` is synchronized any more. -/
def State.basesLose (s : State) (d : Nat) : State :=
  (List.range 8).foldl (fun s n => if s.follows n d then s.baseLost n else s) s

/-- The source of order `o` falls away: what tells that it is there is cleared. In order 3 it is the phase reference; the loss of
10 MHz in shows in its own measurement. -/
def State.sourceGone (s : State) (o : Nat) : State :=
  match o with
  | 1 => s.basesLose (s.fld Fld.MT_TB_CFG_DOMAIN (s.fld Fld.MT_PT_SRC_BASE))
  | 2 => { s with mt := { s.mt with partner := none } }
  | 3 => if s.flag Fld.MT_STATE_PPS_VALID then (s.setFlag Fld.MT_STATE_PPS_VALID false).ev 94 else s
  | 4 => if s.flag Fld.MT_STATE_F10M_VALID then (s.setFlag Fld.MT_STATE_F10M_VALID false).ev 94 else s
  | _ => s

/-- SOURCE_LOST: the source in use falls away, and the next in order serves (R71). (DEDUCED, log entry 49) -/
def execSourceLost (s : State) : Res :=
  let o := s.fld Fld.MT_STATE_SOURCE
  let s := (s.sourceGone o).dropStale
  let st := s.fld Fld.MT_STATE_STATE
  if st = 0 then .next s
  else if st = 4 then .next (s.setTimeSource 5)
  else if o = 1 ∧ s.partnerTime then .next (s.setTimeSource 2)
  else .next s.enterHoldover

/-- HOLDOVER_ERR_CROSS: the estimate passes 1 µs (R70, R476). -/
def execHoldoverErrCross (s : State) : Res := .next s.coordHold

/-! ## The PT servo (R74, R75) -/

/-- How far PT leads FRC. -/
def State.lead (s : State) : Int := (s.pt - s.mt.frc).toInt

/-- An earlier offset carried to now: PT's own movement against FRC less the source's (R74). -/
def State.carry (s : State) (x : SyncOff) : Int :=
  x.off + (s.lead - x.lead) - ((s.mt.frc - x.frc).toNat : Int) * s.mt.srcRate / 1099511627776

def maxInt (xs : List Int) (d : Int) : Int := xs.foldl max d
def minInt (xs : List Int) (d : Int) : Int := xs.foldl min d

/-- Twice the median of four offsets: the sum of the two middle values. -/
def median2 (xs : List Int) : Int :=
  match xs with
  | [] => 0
  | x :: _ => xs.foldl (· + ·) 0 - maxInt xs x - minInt xs x

/-- The rate of a servo that removes an offset below 1 µs: a free value within ±200 ppm of the source's rate (R75).
(DESIGN CHOICE, log entry 50) -/
def servoRate (src e : Int) (free : Nat) : Int := src + clampInt Config.ppm200.toNat (Config.servoRate e free)

/-- An offset acted on (R75). -/
def State.actOn (s : State) (e : Int) (order : Nat) : State :=
  let s := (s.showOffset e).setTimeSource order
  if 1000 ≤ e.natAbs then
    (s.enterSlewing e).setPtRate (s.mt.srcRate + (if 0 < e then -Config.ppm200 else Config.ppm200))
  else
    let s := (s.setPtRate (servoRate s.mt.srcRate e s.free)).draw
    if s.fld Fld.MT_STATE_STATE = 2 ∧ 100 ≤ e.natAbs then s.setErr (e.natAbs + s.lockedErr) else s.enterLocked

/-- An offset of PT's source received (R74): judged against the four before it, kept in the history. -/
def State.syncOffset (s : State) (e rate : Int) : State :=
  let s := { s with mt := { s.mt with srcRate := rate } }
  let before := s.mt.hist.map s.carry
  let s := { s with mt := { s.mt with
    hist := { off := e, frc := s.mt.frc, lead := s.lead } :: s.mt.hist.take 3 } }
  if s.fld Fld.MT_STATE_STATE = 0 ∨ before.length < 4 then s
  else
    let last := e :: before.take 3
    if maxInt last e - minInt last e ≤ 1000 then s.actOn e 1
    else if 2000 < (2 * e - median2 (before.take 4)).natAbs then s.bump Fld.MT_OUTLIERS_COUNT
    else s

/-- Time base `n` hears its source stand at `src`: it steps at 1 µs or more, else its own servo corrects its rate (R83). -/
def State.baseHears (s : State) (n : Nat) (src : W64) (rate : Int) (port : Nat) : State :=
  let v : View := Tab.get {} s.mt.tb n
  let e := (v.at s.mt.frc - src).toInt
  let far := decide (1000 ≤ e.natAbs)
  let v := if far then (v.step s.mt.frc src).setRate s.mt.frc rate
    else v.setRate s.mt.frc (servoRate rate e s.free)
  let s := { s with mt := { s.mt with 
      tb := Tab.set {} s.mt.tb n v, tbRate := Tab.set 0 s.mt.tbRate n rate, tbAt := Tab.set 0 s.mt.tbAt n s.mt.frc } }
  let s := if far then s.setFlag Fld.MT_TB_CFG_STEPPED true n else s.draw
  (s.setFlag Fld.MT_TB_CFG_SYNCED true n).setFld Fld.MT_TB_CFG_PORT port n

/-- Every time base that follows domain `d` hears it. -/
def State.basesHear (s : State) (d : Nat) (src : W64) (rate : Int) (port : Nat) : State :=
  (List.range 8).foldl (fun s n => if s.follows n d then s.baseHears n src rate port else s) s

/-- The delay of a link and the asymmetry that the image declares (R80). (PRESUMED, log entry 51) -/
def State.linkDelay (s : State) (p : Nat) : Int :=
  ((Tab.get ({} : Pdelay) s.mt.pdelay p).delay : Int) + listGet 0 s.img.delayAsym (p - 1)

/-- Sync of domain `d` is heard at port `p` (R80): at the slave port that the image configures, at neither where it configures
none; else at the one that best master selection found, and at either as long as it has found none.
(DESIGN CHOICE, log entry 101) -/
def State.slaveAt (s : State) (d p : Nat) : Bool :=
  match s.img.extPorts.lookup d with
  | some q => q == p
  | none => let q := (Tab.get ({} : Bmca) s.mt.bmca d).slave
    q == 0 || q == p

/-- The relay forwards from port `p` to the other port, once its tables are loaded (R261). -/
def State.relays (s : State) (p : Nat) : Bool := s.flag Fld.PN_PORT_FWD p && s.linkUp (otherPort p)

/-- The cumulative rate offset after a hop (R82), in units of 2^-41: the received one and the neighbour's, as ratios,
multiplied. -/
def cumRate (cum nbr : Int) : Int := cum + nbr + cum * nbr / 2199023255552

/-- The correctionField that leaves with a forwarded Sync, in 2^-16 ns: residence and link delay in grandmaster time added,
rounded down (R82). (DESIGN CHOICE, log entry 102) -/
def syncCorr (corr residence delay cum : Int) : Int :=
  let q := 65536 * (residence + delay)
  corr + q + q * cum / 2199023255552

/-- A timestamp of IEEE 1588, seconds and nanoseconds, as PT64 (R3). -/
def ptOfWire (secs ns : Nat) : Instant := BitVec.ofNat 64 (secs * 1000000000 + ns)

/-- GPTP_SYNC_RECEIVED: at the slave port of a tracked domain (R74, R75, R82, R83); others are dropped and counted (R81).
`secs` and `ns` are the originTimestamp, `corr` the correctionField in 2^-16 ns, `cum` the cumulativeScaledRateOffset. What
is forwarded leaves in one step unless the image disables that at its port (R80, R82). (DEDUCED, log entry 52) -/
def execGptpSyncReceived (d : Fin 128) (port : Fin 2) (secs ns : Nat) (corr cum : Int) (residence : Nat)
    (s : State) : Res :=
  let p := port.val + 1
  if !s.linkUp p then .next s
  else if !s.trackedDomain d.val then .next (s.bump Fld.PN_PTP_UNKNOWN_DOMAIN p)
  else
    if !s.slaveAt d.val p then .next s
    else
      let delay := s.linkDelay p
      let c := cumRate cum (Tab.get ({} : Pdelay) s.mt.pdelay p).rate
      let rate := c / 2
      let src : W64 := ptOfWire secs ns + BitVec.ofInt 64 (corr / 65536 + delay + delay * c / 2199023255552)
      let e := (s.pt - src).toInt
      let s := s.dropStale.basesHear d.val src rate p
      let s := if s.follows (s.fld Fld.MT_PT_SRC_BASE) d.val then s.syncOffset e rate else s
      let q := otherPort p
      .next (if s.relays p then
        s.emit (.sync d.val q secs ns (syncCorr corr residence delay c) c (s.img.twoStep.contains q)
          (Tab.get (-3) s.mt.logSync q)) else s)

/-! ## Peer delay, signalling and announce (R80) -/

/-- The neighbour's rate from two exchanges (R80, R82): its clock's advance between them against the own. -/
def nbrRate (x : Pdelay) (t3 t4 : Nat) : Int :=
  match x.last with
  | some (a, b) => if b < t4 then (((t3 : Int) - a) - ((t4 : Int) - b)) * 2199023255552 / ((t4 : Int) - b) else x.rate
  | none => x.rate

/-- GPTP_PDELAY_MESSAGE (R80). -/
def execGptpPdelayMessage (port : Fin 2) (m : PdelayMsg) (s : State) : Res :=
  let p := port.val + 1
  let x : Pdelay := Tab.get {} s.mt.pdelay p
  let put := fun (s : State) (y : Pdelay) => { s with mt := { s.mt with pdelay := Tab.set {} s.mt.pdelay p y } }
  if !s.linkUp p then .next s
  else
    match m with
    | .request q rx tx => .next (s.emit (.pdelayResp p q rx tx))
    | .response q t1 t2 t3 t4 =>
      if x.open_ ∧ q = x.seq then
        let y := { x with
          delay := ((t4 - t1) - (t3 - t2)) / 2, open_ := false, rate := nbrRate x t3 t4, last := some (t3, t4) }
        .next ((put s y).setFlag Fld.PN_PORT_PDELAY_OK true p)
      else .next s
    | .lost => .next ((put s { x with open_ := false, last := none }).setFlag Fld.PN_PORT_PDELAY_OK false p)

/-- PDELAY_REQUEST_SEND (R80). -/
def execPdelayRequestSend (port : Fin 2) (s : State) : Res :=
  let p := port.val + 1
  if !s.linkUp p then .next s
  else
    let x : Pdelay := Tab.get {} s.mt.pdelay p
    let y := { x with seq := (x.seq + 1) % 65536, open_ := true }
    .next ({ s with mt := { s.mt with pdelay := Tab.set {} s.mt.pdelay p y } }.emit (.pdelayReq p y.seq (Tab.get 0 s.mt.logPd p)))

/-- GPTP_SIGNALING: a message interval request within the ranges of R80 is honoured. -/
def execGptpSignaling (port : Fin 2) (logSync logPdelay : Int) (s : State) : Res :=
  let p := port.val + 1
  let s := if -5 ≤ logSync ∧ logSync ≤ 0 then
    { s with mt := { s.mt with logSync := Tab.set (-3) s.mt.logSync p logSync } } else s
  if -3 ≤ logPdelay ∧ logPdelay ≤ 3 then
    .next { s with mt := { s.mt with logPd := Tab.set 0 s.mt.logPd p logPdelay } }
  else .next s

/-- GPTP_ANNOUNCE: a better master makes the port the slave port of its domain, unless the image configures its ports; the
relay announces on (R80). The module is never grandmaster, so it announces nothing of its own. -/
def execGptpAnnounce (d : Fin 128) (port : Fin 2) (better : Bool) (steps : Nat) (s : State) : Res :=
  let p := port.val + 1
  if !s.linkUp p then .next s
  else if !s.trackedDomain d.val then .next (s.bump Fld.PN_PTP_UNKNOWN_DOMAIN p)
  else if (s.img.extPorts.lookup d.val).isSome then
    .next (if s.slaveAt d.val p && s.relays p then s.emit (.announce d.val (otherPort p) (steps + 1)) else s)
  else if better then
    let s := { s with mt := { s.mt with bmca := Tab.set {} s.mt.bmca d.val { slave := p, steps := steps } } }
    .next (if s.relays p then s.emit (.announce d.val (otherPort p) (steps + 1)) else s)
  else .next s

/-! ## Reference contacts (R86, R87, R464) -/

/-- A validity flag of a reference set: source 94 on a change; holdover follows the references it then finds. -/
def State.setRef (s : State) (f : Field) (b : Bool) : State :=
  if s.flag f = b then s
  else
    let s := (s.setFlag f b).ev 94
    if s.fld Fld.MT_STATE_STATE = 3 then s.followHold else s

/-- The phase of a time against whole seconds, from −0.5 s to 0.5 s. -/
def secPhase (t : W64) : Int :=
  let r : Int := (t.toNat % 1000000000 : Nat)
  if 500000000 ≤ r then r - 1000000000 else r

/-- The rate of PPS in against FRC, from the FRC between its last two edges. -/
def State.ppsRate (s : State) : Int :=
  match s.mt.ppsIval with
  | some n => if n = 0 then 0 else (1000000000 - (n : Int)) * 1099511627776 / n
  | none => 0

/-- A time base that follows PPS in at an edge with timestamp `frc`: it hears a valid one, and loses an invalid one (R83,
R86). -/
def State.ppsBase (s : State) (frc : W64) (n : Nat) : State :=
  if s.flag Fld.MT_STATE_PPS_VALID then
    let v : View := Tab.get {} s.mt.tb n
    s.baseHears n (s.tbase n - BitVec.ofInt 64 (secPhase (v.at frc))) s.ppsRate 0
  else s.baseLost n

/-- Time bases that follow PPS in at an edge (R83). -/
def State.ppsBases (s : State) (frc : W64) : State :=
  (List.range 8).foldl (fun s n =>
    if s.flag Fld.MT_TB_CFG_EN n && s.fld Fld.MT_TB_CFG_SOURCE n == 2 then s.ppsBase frc n else s) s

/-- PPS_EDGE: an edge timestamped against FRC, judged against the position its predecessors predict (R86): one last interval
after the last edge, whether or not that edge was inside its own window. (DESIGN CHOICE, log entry 103) -/
def execPpsEdge (frc : W64) (s : State) : Res :=
  let ival := s.mt.ppsEdge.map fun a => (frc - a).toNat
  let inWindow := match ival, s.mt.ppsIval with
    | some a, some b => decide (((a : Int) - b).natAbs ≤ 100)
    | _, _ => false
  let run := if inWindow then s.mt.ppsRun + 1 else 0
  let phase := secPhase (s.mt.pt.at frc)
  let s := { s with mt := { s.mt with ppsEdge := some frc, ppsIval := ival, ppsRun := run } }
  let s := if !inWindow then s.setRef Fld.MT_STATE_PPS_VALID false
    else if 10 ≤ run then s.setRef Fld.MT_STATE_PPS_VALID true else s
  let valid := s.flag Fld.MT_STATE_PPS_VALID
  let s := if valid && s.fld Fld.MT_STATE_STATE == 1 then
      { s with mt := { s.mt with ppsOff := some phase } }
    else if valid && s.fld Fld.MT_STATE_STATE == 3 && s.fld Fld.MT_STATE_SOURCE == 3 then
      (s.setPtRate (servoRate s.holdRate (phase - s.mt.ppsOff.getD 0) s.free)).draw
    else s
  .next (s.ppsBases frc)

/-- F10M_MEASUREMENT: within ±10 ppm of 10 MHz, valid after 10 in a row (R464); its rate is learned while LOCKED and
followed in holdover, by a rate of the servo's own (R71). -/
def execF10mMeasurement (hz : Nat) (s : State) : Res :=
  let ok := decide (9999900 ≤ hz) && decide (hz ≤ 10000100)
  let run := if ok then s.mt.f10mRun + 1 else 0
  let s := { s with mt := { s.mt with f10mRun := run } }
  let s := if !ok then s.setRef Fld.MT_STATE_F10M_VALID false
    else if 10 ≤ run then s.setRef Fld.MT_STATE_F10M_VALID true else s
  let valid := s.flag Fld.MT_STATE_F10M_VALID
  .next (if valid && s.fld Fld.MT_STATE_STATE == 1 then
      { s with mt := { s.mt with f10mRate := some (s.mt.srcRate) } }
    else if valid && s.fld Fld.MT_STATE_STATE == 3 && s.fld Fld.MT_STATE_SOURCE == 4 then
      (s.setPtRate (servoRate s.holdRate 0 s.free)).draw
    else s)

/-- PPS_OUT_PULSE: an edge at a whole second of PT, within 10 ns and once in each, in every state but UNSET (R87). -/
def execPpsOutPulse (s : State) : Res :=
  let sec := (s.pt.toNat + 10) / 1000000000
  if s.fld Fld.MT_STATE_STATE = 0 ∨ 10 < (secPhase s.pt).natAbs ∨ s.mt.ppsSec = some sec then .next s
  else .next ({ s with mt := { s.mt with ppsSec := some sec } }.emit (.pps (BitVec.ofNat 64 (sec * 1000000000))))

/-! ## The partner's time (R71, R72, R89) -/

/-- The offset of PT to the partner's as last measured, carried to now. -/
def State.partnerOff (s : State) : Option Int := s.mt.partner.map s.carry

/-- The rate of the partner's PT against FRC, learned over at least 1 s where an earlier rate is known (R75).
(DESIGN CHOICE, log entry 121) -/
def State.learnPartner (s : State) (off : Option Int) : State :=
  match off with
  | none => { s with mt := { s.mt with pBase := none, pRate := none } }
  | some e =>
    let now : SyncOff := { off := e, frc := s.mt.frc, lead := s.lead }
    match s.mt.pBase with
    | none => { s with mt := { s.mt with pBase := some now } }
    | some x =>
      let dt := (now.frc - x.frc).toNat
      let r := ((now.lead - e) - (x.lead - x.off)) * 1099511627776 / dt
      if dt = 0 then s
      else if 1000000000 ≤ dt then { s with mt := { s.mt with pBase := some now, pRate := some r } }
      else if s.mt.pRate.isNone then { s with mt := { s.mt with pRate := some r } }
      else s

/-- What a heartbeat over a binary link brings of the partner's PT: `off` is PT's offset to it where that PT is LOCKED. Where no
source of order 1 serves, it is PT's source (R71), and when it ceases to be LOCKED the next in order serves.
(DESIGN CHOICE, log entry 136) -/
def State.hearPartner (s : State) (off : Option Int) : State :=
  let s := { s.learnPartner off with mt := { (s.learnPartner off).mt with
    partner := off.map fun e => { off := e, frc := s.mt.frc, lead := s.lead } } }
  let st := s.fld Fld.MT_STATE_STATE
  if st = 0 ∨ s.fld Fld.MT_STATE_SOURCE = 1 then s
  else
    match off with
    | some e =>
      if s.partnerTime then { s with mt := { s.mt with srcRate := s.mt.pRate.getD s.mt.srcRate } }.actOn e 2 else s
    | none => if s.fld Fld.MT_STATE_SOURCE = 2 then s.enterHoldover else s

/-! ## Re-epoch (R78, R79) -/

/-- MT_STATE.REEPOCH_RESULT written: source 95. -/
def State.reepochResult (s : State) (c : Nat) : State := (s.setFld Fld.MT_STATE_REEPOCH_RESULT c).ev 95

/-- Messages of one channel whose phase points are dropped: their contributions count as missed. -/
def State.dropMsgs (s : State) (c : Nat) : List ChanMsg → State
  | [] => s
  | m :: ms =>
    (match m with
     | .samples g _ _ => s.lates (s.slicePoints (c - 32) (((s.group g).map grpClass).getD 1))
     | m => s.tooLate m).dropMsgs c ms

/-- Entries that reached their island and have not run: missed. -/
def State.dropDue (s : State) : List (Nat × Nat × Instant) → State
  | [] => s
  | x :: xs => (s.tooLate (.entry x.2.1 x.2.2)).dropDue xs

/-- Records on their way to an instant that will not come: their points miss it; a task's variables are lost with it. -/
def State.dropVis (s : State) : List (Instant × Nat × W64) → State
  | [] => s
  | x :: xs => (if x.2.1 < 262144 then s.lates [x.2.1] else s).dropVis xs

/-- Sample sets on their way. -/
def State.dropSets (s : State) : List (List Nat) → State
  | [] => s
  | x :: xs => (s.lates x).dropSets xs

/-- Tasks under way miss their K (R104), and what they produce after it is discarded. -/
def State.dropTasks (s : State) : List Nat → State
  | [] => s
  | k :: ks => (s.taskLate k).dropTasks ks

/-- The input points of the slots that a Scapex collection still waits for. -/
def State.collectPoints (s : State) (c : Collect) : List Nat :=
  c.left.flatMap fun code =>
    let car := s.img.sxCar.find? fun x => x.i.val == code / 64
    (List.range 8).filterMap fun k =>
      car.bind fun x => (x.inPts[8 * (code % 64) + k]?).bind fun p => if p < 262144 then some p else none

/-- Every phase point that has not run dropped, fast computations included (R79). -/
def State.dropPhases (s : State) : State :=
  let n := s.ln
  let waits := n.vis.filter fun v => Instant.before s.pt v.1
  let s := s.settle s.pt
  let s := { s with ln := { s.ln with chans := [], due := [], vis := [], sets := [], expect := [], handed := [], ran := [] } }
  let s := n.chans.foldl (fun s c => s.dropMsgs c.1 c.2) s
  let s := s.dropDue n.due
  let s := s.dropVis waits
  let s := s.dropSets (n.expect.map fun x => x.points)
  let s := s.dropSets (n.sets.map fun x => x.2.2.map Prod.fst)
  let s := s.dropSets (s.sx.collects.map fun (x : Nat × Collect) => s.collectPoints x.2)
  let s := { s with sx := { s.sx with collects := [] } }
  let s := s.dropTasks ((s.ln.tasks.filter fun (x : Nat × Task) => x.2.running || x.2.skipped).map Prod.fst)
  let jobs := s.le.runs.filterMap fun r => r.2.job.map fun _ => r.1
  jobs.foldl (fun s l => s.abandonLoop l s.pt) s

/-- The next expected instant of a stream after PT has stepped to `t`: the first of its grid after `t`. -/
def regrid (period : Nat) (t g : Instant) : Instant :=
  t.plus (period - ((t.diff g).emod period).toNat)

/-- What lies in PT and goes on after a step from `old` to now: each class begins at its first boundary, a claim resumes as
long after the step as it would have, streams are expected on their grids (R79, R112). (DEDUCED, log entry 104) -/
def State.newPt (s : State) (old : Instant) : State :=
  let d := s.pt - old
  { s with
    mt := { s.mt with ppsSec := none, pBase := none }
    le := { s.le with wins := [], mark := s.pt }
    gy := { s.gy with
      chans := s.gy.chans.map fun (x : Nat × GyChan) => (x.1, { x.2 with last := none, next := none, iv := none, cut := true })
      sets := s.gy.sets.map fun (x : Nat × GyRun) => (x.1, { x.2 with armAt := x.2.armAt.map (· + d), doneAt := x.2.doneAt.map (· + d) })
      pats := []
      moved := s.gy.moved.map (· + d), high := s.gy.high.map (· + d), notLow := s.gy.notLow.map (· + d) }
    ln := { s.ln with
    starts := [(0, some (nextAt 50000 0 s.pt)), (1, some (nextAt 1000000 0 s.pt)), (2, some (nextAt 100000000 0 s.pt))]
    resume := s.ln.resume.map fun r => r + (s.pt - old)
    subs := s.ln.subs.map fun (x : Nat × Sub) =>
      (x.1, { x.2 with grid := x.2.grid.map (regrid (Config.period ((s.img.subs[x.1]?.map fun c => c.cls).getD 1)) s.pt) }) } }

/-- The time that a re-epoch steps to: the source of order 1, else 2, that is synchronized in its own servo (R78).
(DEDUCED, log entry 13) -/
def State.reepochSource (s : State) : Option (Nat × Instant) :=
  let n := s.fld Fld.MT_PT_SRC_BASE
  if s.flag Fld.MT_TB_CFG_SYNCED n && !s.baseStale n && s.flag Fld.MT_TB_CFG_EN n && s.fld Fld.MT_TB_CFG_SOURCE n == 1 then
    some (1, s.tbase n)
  else if s.partnerTime then s.partnerOff.map fun e => (2, s.pt - BitVec.ofInt 64 e)
  else none

/-- A re-epoch ordered (R78): refused, or PT steps and BT stays. -/
def State.reepoch (s : State) : State :=
  if s.auth then s.reepochResult 2
  else if s.fld Fld.MT_STATE_STATE = 0 then s.reepochResult 3
  else
    match s.reepochSource with
    | none => s.reepochResult 4
    | some (o, t) =>
      let old := s.pt
      let s := s.dropPhases
      let s := { s with mt := { s.mt with
        pt := ((s.mt.pt.step s.mt.frc t).setRate s.mt.frc s.mt.srcRate), hist := [], partner := none } }
      let s := s.newPt old
      let s := ((s.setFlag Fld.MT_STATE_REEPOCHED true).anchor 6).setTimeSource o
      ((s.showOffset 0).enterLocked).reepochResult 1

/-- MT_REEPOCH: from the supervisor only (R78). -/
def execMtReepoch (w : Writer) (s : State) : Res :=
  match w with
  | .app => .next s
  | .sup => .next s.reepoch

end Sys2Proof.Machine
end

