-- ==== Sys2Proof/Machine/Service.lean ====
section
/-! DEFINITION. The service protocol (R272 to R274, R391, R425): sessions, the checks that every message passes, and the
answers. -/

namespace Sys2Proof.Machine

/-! ## Sessions -/

/-- A session sends something: its idle time begins again (R272). -/
def State.heard (s : State) (k : Nat) : State := { s with pn := { s.pn with heard := Tab.set 0 s.pn.heard k s.mt.frc } }

/-- Open sessions, shown in PN_SVC. -/
def State.setSess (s : State) (k : Nat) (x : Session) : State :=
  let s := { s with pn := { s.pn with sess := Tab.set {} s.pn.sess k x } }
  s.setFld Fld.PN_SVC_SESSIONS ((List.range 4).filter fun i => (s.sess i).open_).length

/-- Every session closed. -/
def State.closeSessions (s : State) : State := (List.range 4).foldl (fun s k => s.setSess k {}) s

/-- The lowest free session. -/
def State.freeSess (s : State) : Option Nat := (List.range 4).find? fun k => !(s.sess k).open_

/-- The Iazebin recovery ROM runs (R425). -/
def State.iazebin (s : State) : Bool := s.phase == 0xE

/-- Software that speaks the service protocol runs. -/
def State.serving (s : State) : Bool := (s.boot.fwRunning || s.iazebin) && s.pw.inReset.isNone

/-- A plant image has been accepted in this start-up. -/
def State.accepted (s : State) : Bool := s.boot.imgLoaded && !s.flag Fld.SUP_START_REFUSAL

/-- A connection reaches the module: by the base's contact, or on the service VLAN of a plant port whose tables are loaded (R261,
R272). -/
def State.reaches (s : State) (basePort : Bool) (port : Fin 2) : Bool :=
  basePort || (s.portOpen (port.val + 1) && s.img.vlans.any fun v => v.service)

/-- SVC_CONNECT: a handshake outside R272's suite, group and anchor fails; a fifth connection is refused; without an accepted
plant image, and in the recovery ROM, only the Vuzal anchor serves, in the recovery ROM only on the base's contact with the
owner lock open (R272, R425). -/
def execSvcConnect (t : Handshake) (s : State) : Res :=
  if !s.serving || (s.iazebin && !(t.basePort && s.pw.contactOpen)) || !s.reaches t.basePort t.port then .next s
  else
    match s.freeSess with
    | none => .next ((s.bump Fld.PN_SVC_REFUSED).ev 112)
    | some k =>
      if !t.suiteOk || !t.anchorOk || t.recovery == s.accepted then .next ((s.bump Fld.PN_SVC_AUTH_FAIL).ev 112)
      else
        .next (((s.setSess k { open_ := true, role := t.role, basePort := t.basePort, port := t.port, recovery := t.recovery }).heard k).ev 112)

/-- A session closed; source 112. -/
def State.closeSess (s : State) (k : Nat) : State := if (s.sess k).open_ then (s.setSess k {}).ev 112 else s

/-- SVC_IDLE_CLOSE: a session silent for 60 s is closed (R272). -/
def execSvcIdleClose (k : Fin 4) (s : State) : Res :=
  .next (if decide (60000000000 ≤ (s.mt.frc - Tab.get 0 s.pn.heard k.val).toNat) then s.closeSess k.val else s)

/-- SVC_DISCONNECT: the client closes, or its connection drops. -/
def execSvcDisconnect (k : Fin 4) (s : State) : Res := .next (s.closeSess k.val)

/-! ## Messages (R273, R274, R391) -/

/-- A response: it echoes MSG_ID, with bit 15 of TYPE set. -/
def State.answer (s : State) (h : SvcMsg) (type code : Nat) (body : List Byte := []) : State :=
  s.reply h.sess.val h.msgId (32768 + type) code body

/-- What a module that refused start-up still takes (R425): `sub` is the operation of a type 0x0011 body, and for type
0x0062 is 1 for the Dormant order. -/
def State.refusedTakes (s : State) (type sub : Nat) : Bool :=
  if s.iazebin then type == 0x10 || (type == 0x11 && (sub == 1 || sub == 2 || sub == 6 || sub == 7))
  else if s.fld Fld.SUP_START_REFUSAL = 0x0C then type == 0x01 || type == 0x20 || (type == 0x62 && sub == 1)
  else
    type == 0x01 || type == 0x10 || type == 0x20 || type == 0x70 ||
    (type == 0x11 && (sub == 1 || sub == 2 || sub == 5 || sub == 6 || sub == 7)) || (type == 0x62 && sub == 1)

/-- A message of a type: the code that turns it away, if any. The role comes first, then the start-up state, then the
length: `len` where the manual fixes it, at most 65,600 bytes in any. (DEDUCED, log entry 61) -/
def State.svcRefusal (s : State) (h : SvcMsg) (type least sub : Nat) (len : Option Nat) : Option Nat :=
  if (s.sess h.sess.val).role < least then some 3
  else if s.flag Fld.SUP_START_REFUSAL && !s.refusedTakes type sub then some 0x0112
  else if (s.sess h.sess.val).recovery && !s.refusedTakes type sub then some 0x0112
  else if 65600 < h.len then some 4
  else
    match len with
    | some n => if h.len = n then none else some 4
    | none => none

/-- A message carried out by `f`, or answered with the code that turns it away; a message of no open session is none. -/
def State.svc (s : State) (h : SvcMsg) (type least sub : Nat) (len : Option Nat) (f : State → State) : State :=
  if !(s.sess h.sess.val).open_ || !s.serving then s
  else
    match s.svcRefusal h type least sub len with
    | some c => (s.heard h.sess.val).answer h type c
    | none => f (s.heard h.sess.val)

/-- The TYPE values of requests (R274). -/
def svcTypes : List Nat := [0x01, 0x02, 0x10, 0x11, 0x20, 0x21, 0x30, 0x31, 0x40, 0x50, 0x60, 0x61, 0x62, 0x70]

/-- SVC_UNKNOWN_TYPE (R274): a TYPE that the table does not name. -/
def execSvcUnknownType (h : SvcMsg) (type : BitVec 16) (s : State) : Res :=
  if (s.sess h.sess.val).open_ && s.serving && !svcTypes.contains type.toNat then .next ((s.heard h.sess.val).answer h (bits type 14 0) 2) else .next s

/-! ## Address resolution and echo (R272) -/

/-- One of the addresses that an accepted image declares. -/
def State.declaredAt (s : State) (addr : Nat) : Bool := s.boot.imgLoaded && s.serving && s.img.address.contains addr

/-- The IPv6 link-local address that is formed from the module's own Ethernet address. (PRESUMED, log entry 129) -/
def linkLocal : Nat :=
  let m := Config.moduleAddress.toNat
  0xFE80 * 2 ^ 112 + ((m / 2 ^ 24).xor 0x020000) * 2 ^ 40 + 0xFFFE * 2 ^ 24 + m % 2 ^ 24

/-- The module answers at an address that a frame by `via` names: a declared one, or in the recovery ROM its link-local address on the
base's contact, while the owner lock is open (R425). -/
def State.answersAt (s : State) (via : Option (Fin 2)) (addr : Nat) : Bool :=
  s.declaredAt addr || (s.iazebin && s.serving && via.isNone && s.pw.contactOpen && addr == linkLocal)

/-- ARP_REQUEST. -/
def execArpRequest (via : Option (Fin 2)) (addr : Nat) (s : State) : Res :=
  .next (if s.declaredAt addr then s.serviceOut via (.arpReply addr) else s)

/-- NEIGHBOUR_SOLICITATION. -/
def execNeighbourSolicitation (via : Option (Fin 2)) (addr : Nat) (s : State) : Res :=
  .next (if s.answersAt via addr then s.serviceOut via (.neighbourAdvert addr) else s)

/-- ICMP_ECHO: at most 10 answers in a second of FRC. -/
def execIcmpEcho (via : Option (Fin 2)) (addr id : Nat) (s : State) : Res :=
  let sec := s.mt.frc.toNat / 1000000000
  let cnt := if s.pn.icmpSec = sec then s.pn.icmpCnt else 0
  if s.answersAt via addr && decide (cnt < 10) then
    .next ({ s with pn := { s.pn with icmpSec := sec, icmpCnt := cnt + 1 } }.serviceOut via (.echoReply addr id))
  else .next s

/-! ## Forces (R9, R102, R274) -/

/-- The points of immediate outputs are never forced (R102): a loop with IMMEDIATE writes them. -/
def State.immediatePoint (s : State) (p : Nat) : Bool :=
  s.img.loopDir.any fun e =>
    let d : BitVec 512 := BitVec.ofNat 512 ((s.blkGet e.2).toNat + (s.blkGet (e.2 + 1)).toNat * 2 ^ 256)
    bitAt d 21 && bits d 233 216 == p

/-- A point the image declares. -/
def State.pointKnown (s : State) (p : Nat) : Bool := s.img.points.any fun e => e.1 == p

/-- FORCE_POINT: from the next production on the point holds the forced value with FORCED set; its present record shows
both at once. -/
def execForcePoint (h : SvcMsg) (p : Nat) (v : Word) (s : State) : Res :=
  .next (s.svc h 0x40 2 0 none fun s =>
    if !s.pointKnown p then s.answer h 0x40 7
    else if s.immediatePoint p then s.answer h 0x40 5
    else
      let s := { s with forces := Tab.set none s.forces p (some v) }
      (s.produce p (s.piGet p)).answer h 0x40 0)

/-- FORCE_RELEASE: the next production is the point's own. -/
def execForceRelease (h : SvcMsg) (p : Nat) (s : State) : Res :=
  .next (s.svc h 0x40 2 0 none fun s =>
    if !s.pointKnown p then s.answer h 0x40 7
    else ({ s with forces := Tab.set none s.forces p none }).answer h 0x40 0)

/-- REEPOCH_ORDER: the supervisor writes MT_CTL.REEPOCH (R78). -/
def execReepochOrder (h : SvcMsg) (s : State) : Res :=
  .next (s.svc h 0x60 3 0 none fun s =>
    let s := s.reepoch
    s.answer h 0x60 (if s.fld Fld.MT_STATE_REEPOCH_RESULT = 1 then 0 else 5))

end Sys2Proof.Machine
end

