-- ==== Sys2Proof/Machine/Adapt.lean ====
section
/-! DEFINITION. Self-tuning and surge defence (06 R148 to R167). -/

namespace Sys2Proof.Machine

/-! ## Permissions and parameters -/

/-- The layer runs in this module (R148, R165). -/
def State.laOn (s : State) : Bool := s.acting && s.flag Fld.LA_STATUS_EN

def State.mayIdent (s : State) (l : Nat) : Bool :=
  (match s.adaptCfg l with
   | some a => a.ident
   | none => false) && !(s.adaptRec l).fIdent

def State.mayInstall (s : State) (l : Nat) : Bool :=
  (match s.adaptCfg l with
   | some a => a.install && a.ident
   | none => false) && !(s.adaptRec l).fInstall

def State.maySurge (s : State) (l : Nat) : Bool :=
  (match s.adaptCfg l with
   | some a => a.surge
   | none => false) && !(s.adaptRec l).fSurge

/-- STATE of loop `l` (R123); FAULT where there is none. -/
def State.loopState (s : State) (l : Nat) : Nat :=
  match s.loopOf l with
  | some (_, _, w) => w.state
  | none => 3

/-- Kp, Ti and Td of the set in use: the tuned ones, or the compiled ones. -/
def State.inUse (s : State) (l : Nat) (a : AdaptCfg) : F32 × F32 × F32 :=
  if s.activeSet l = 0 then (a.kp0, a.ti0, a.td0) else ((s.adaptRec l).cand).getD (a.kp0, a.ti0, a.td0)

/-- SWITCH written by the layer (R148): a SWITCH of its own still pending is withdrawn first, so that one command at most is
pending and none of its own is replaced. (DESIGN CHOICE, log entry 139) -/
def State.laSwitch (s : State) (l set : Nat) : State :=
  let own := match (s.run l).pend with
    | some c => c.cmd == 5
    | none => false
  let s := if own then s.setRun l { s.run l with pend := none } else s
  let s := s.setAdapt l { s.adaptRec l with set := some set }
  (s.setReg .LE_CMD_VAL 1 0).loopCommand .sup l 5 set

/-- The integrating section of the template (R151), T the class period in seconds; each operation rounded to binary32.
(DESIGN CHOICE, log entry 115) -/
def pidSection (a : AdaptCfg) (t kp ti td : Fl) (x : Sec) : Sec :=
  let tf := Fl.div td (Fl.ofBits a.nDiv)
  let al := Fl.div tf (Fl.add tf t)
  let c := Fl.div t ti
  let d := Fl.div td (Fl.add tf t)
  let b0 := Fl.mul kp (Fl.add (Fl.add Fl.one c) d)
  let b1 := (Fl.mul kp (Fl.add (Fl.add (Fl.add Fl.one al) (Fl.mul al c)) (Fl.mul (Fl.ofNat 2) d))).neg
  let b2 := Fl.mul kp (Fl.add al d)
  { x with
    b0 := b0.toBits, b1 := b1.toBits, b2 := b2.toBits, a2 := al.toBits
    a1 := (Fl.sub (Fl.neg Fl.one) al).toBits }

/-- The candidate set of a loop: the integrating section replaced, the others as in use (R151). -/
def candidate (d : BitVec 512) (a : AdaptCfg) (p : F32 × F32 × F32) : Nat → List Sec → List Sec
  | _, [] => []
  | i, x :: xs =>
    (if i = ldInteg d then
      pidSection a (loopP (ldClass d)) (Fl.ofBits p.1) (Fl.ofBits p.2.1) (Fl.ofBits p.2.2) x
     else x) :: candidate d a p (i + 1) xs

/-- The alternate blocks with the group of set `n` overwritten (R152). -/
def stageAlts (n : Nat) : List Sec → List Sec → List Sec
  | x :: xs, c :: cs =>
    if x.set = n then { c with set := n, s1 := x.s1, s2 := x.s2 } :: stageAlts n xs cs
    else x :: stageAlts n xs (c :: cs)
  | xs, [] => xs
  | [], _ => []

/-! ## Staging and installation (R152, R158) -/

/-- Blocks of the alternates written for loop `l` at block `b`. -/
def State.putAlts (s : State) (b : Nat) (d : BitVec 512) (alts : List Sec) : State :=
  s.blksPut (b + 3 + ldNsec d) (alts.map Sec.toBlock)

/-- The candidate installed: SWITCH to its set, return set kept, probation begun (R158, R159). -/
def State.install (s : State) (l set : Nat) (a : AdaptCfg) (p : F32 × F32 × F32) : State :=
  let r := s.adaptRec l
  let from_ := s.activeSet l
  let old := s.inUse l a
  let s := s.laSwitch l set
  let s := s.setAdapt l { s.adaptRec l with
    phase := 3, ret := from_, setPrev := from_, staged := none, cand := some p, prevPar := some old
    probIae := 0, sign := none, peak := false, cross := [], osc := false
    probEnd := s.pt.plus a.probation, reason := 0, noRestore := false }
  (s.bump Fld.LA_COUNT_INSTALL).adaptNote 0x5005 l
    { metric := r.fit, model := r.model.getD (0, 0, 0), new := p, old := old, setTo := set, setFrom := from_ }

/-- SET_STAGE: between two launches the engine writes the staged candidate into the blocks of its set, while that set is
not the active one; the layer then switches to it. A loop in MANUAL or FAULT is left alone and the candidate dropped
(R148, R152, R158). -/
def execSetStage (l : Nat) (s : State) : Res :=
  match (s.adaptRec l).staged, s.adaptCfg l, s.loopOf l with
  | some (n, p), some a, some (b, d, w) =>
    if !s.laOn || (s.run l).job.isSome || n == w.active || (s.run l).pend.isSome then .next s
    else if w.state = 1 ∨ w.state = 3 then
      let r := s.adaptRec l
      .next ((s.setAdapt l { r with phase := 0, staged := none, reason := 0x23 }).adaptNote 0x5003 l
        { metric := r.fit, model := r.model.getD (0, 0, 0), new := p, old := s.inUse l a, setTo := n, setFrom := w.active
          reason := 0x23 })
    else
      let s := s.putAlts b d (stageAlts n w.alts (candidate d a p 0 w.secs))
      .next (s.install l n a p)
  | _, _, _ => .next s

/-! ## Tests (R153 to R157) -/

/-- Surge groups that loop `l` belongs to. -/
def State.groupsOf (s : State) (l : Nat) : List SurgeCfg := s.img.surge.filter fun g => g.members.any fun m => m.1 == l

/-- The start conditions of R153 that the loop itself meets. -/
def State.calmLoop (s : State) (l : Nat) (a : AdaptCfg) (d : BitVec 512) (w : LoopWork) : Bool :=
  let h := (s.adaptRec l).hist.take 100
  w.state == 0 && !w.ramping && h.length == 100 &&
  h.all (fun x => x.2.1 && Fl.le (Fl.ofBits x.1) (adaptStart a)) &&
  (match s.refGet (ldPv d) with
   | some r => recBit r qGood
   | none => false)

/-- e as PV and the working setpoint stand (R126). -/
def State.errorNow (s : State) (d : BitVec 512) (w : LoopWork) : Fl :=
  let pv := Fl.ofBits (recVal ((s.refGet (ldPv d)).getD 0))
  if ldDir d then Fl.sub pv (Fl.ofBits w.wsp) else Fl.sub (Fl.ofBits w.wsp) pv

/-- INTERVAL has passed since the loop's last test. -/
def State.intervalOver (s : State) (l : Nat) (a : AdaptCfg) : Bool :=
  match (s.adaptRec l).lastEnd with
  | some t => !Instant.before s.pt (t.plus a.interval)
  | none => true

/-- Another loop of the same interaction group is under test. -/
def State.interacts (s : State) (a : AdaptCfg) : Bool :=
  a.interact != 0 && (List.range 16).any fun k =>
    (s.slot k).busy && (s.slot k).loop != a.loop &&
    (match s.adaptCfg (s.slot k).loop with
     | some b => b.interact == a.interact
     | none => false)

/-- The least decimation for which a test fits its log (R155). (DESIGN CHOICE, log entry 141) -/
def testDiv (cycles : Nat) : Nat := max 1 (min 1024 ((cycles + 4095) / 4096))

/-- IAE of a window of the history, cycles under RAMPING left out (R153, R159). -/
def refIae (h : List (F32 × Bool × Bool)) : F32 :=
  (h.foldl (fun acc x => if x.2.2 then Fl.add acc (Fl.ofBits x.1) else acc) Fl.zero).toBits

/-- IAE of a window of the history, every cycle of it (R153). -/
def iaeAll (h : List (F32 × Bool × Bool)) : F32 := (h.foldl (fun acc x => Fl.add acc (Fl.ofBits x.1)) Fl.zero).toBits

/-- The magnitude of a test: a free value above 0 and at most H_MAX (R154). -/
def testMag (a : AdaptCfg) (d : BitVec 512) (free : Nat) : F32 :=
  let v := Fl.ofBits (Config.excitation free)
  let hm := adaptMag a d
  (if Fl.lt Fl.zero v && Fl.le v hm then v else hm).toBits

/-- TEST_START (R153): ordered, or on its own where TRIGGER allows it. (DESIGN CHOICE, log entry 140) -/
def execTestStart (l : Nat) (relay ordered : Bool) (s : State) : Res :=
  match s.adaptCfg l, s.loopOf l, (List.range 16).find? (fun k => !(s.slot k).busy) with
  | some a, some (_, d, w), some k =>
    let r := s.adaptRec l
    if s.laOn && s.mayIdent l && (if relay then a.relay else a.pulse) && (ordered || a.trigger) && r.phase == 0 &&
      s.calmLoop l a d w && s.intervalOver l a && !s.interacts a &&
      (s.groupsOf l).all (fun g => s.fld Fld.LA_SURGE_STATE g.g.val == 0) then
      let length := if relay then a.tMax else 4 * adaptPulse a
      let t : TestSlot := { busy := true, loop := l, relay := relay, start := s.pt, h := testMag a d s.free
                            div := testDiv (length / ldPeriod d), e0 := (s.errorNow d w).toBits, u0 := w.uPrev }
      let s := { s with la := { s.la with slots := Tab.set {} s.la.slots k t } }.draw.showTests
      let s := s.setAdapt l { r with
        phase := 1, reason := 0, refIae := refIae (r.hist.take (probCycles a d)), iae100 := iaeAll (r.hist.take 100) }
      .next (s.adaptNote 0x5001 l {})
    else .next s
  | _, _, _ => .next s

/-- The condition of R156 that the loop of a test shows now, between two cycles; the last |e| of its history stands for e. -/
def State.stopNow (s : State) (t : TestSlot) : Nat :=
  match s.loopOf t.loop with
  | some (_, d, w) =>
    let e := (((s.adaptRec t.loop).hist.head?).map fun x => Fl.ofBits x.1).getD Fl.zero
    s.testStops t.loop s.pt d w (s.loopIn d) e
  | none => 7

/-- TEST_ABORT (R156): a condition stands between two cycles. Those that a cycle meets end the test in that cycle, and a
precursor, a forbid and a change of authority end it where they come. -/
def execTestAbort (k : Fin 16) (s : State) : Res :=
  let t := s.slot k.val
  if t.busy && s.stopNow t != 0 then .next (s.abortTest k.val (s.stopNow t)) else .next s

/-- K taken after DIR (R157). -/
def afterDir (d : BitVec 512) (k : Fl) : Fl := if ldDir d then k.neg else k

/-- The parameters that a model gives (R157), K after DIR. -/
def tune (a : AdaptCfg) (k tau th : Fl) : F32 × F32 × F32 :=
  let lam := Fl.mul (Fl.ofBits a.lambda) th
  if (Fl.ofBits a.td0).isZero then
    let s := Fl.add lam th
    ((Fl.div tau (Fl.mul k s)).toBits, (Fl.min tau (Fl.mul (Fl.ofNat 4) s)).toBits, 0)
  else
    let h := Fl.div th (Fl.ofNat 2)
    ((Fl.div (Fl.add tau h) (Fl.mul k (Fl.add lam h))).toBits, (Fl.add tau h).toBits,
      (Fl.div (Fl.mul tau th) (Fl.add (Fl.mul (Fl.ofNat 2) tau) th)).toBits)

/-- A parameter lies within multiples of a base. -/
def within (lo hi base v : F32) : Bool :=
  Fl.le (Fl.mul (Fl.ofBits lo) (Fl.ofBits base)) (Fl.ofBits v) &&
  Fl.le (Fl.ofBits v) (Fl.mul (Fl.ofBits hi) (Fl.ofBits base))

/-- A parameter lies within a factor of another. -/
def near (f old new : F32) : Bool :=
  Fl.le (Fl.ofBits new) (Fl.mul (Fl.ofBits old) (Fl.ofBits f)) &&
  Fl.le (Fl.ofBits old) (Fl.mul (Fl.ofBits new) (Fl.ofBits f))

/-- The acceptance tests in their order: the reason of the first failure, 0 where all pass (R157). `k` is K after DIR, `gm` and
`pm` the predicted margins. -/
def judge (a : AdaptCfg) (m : Found) (k : Fl) (margins : F32 × F32) (p old : F32 × F32 × F32) (setOk : Bool) : Nat :=
  if !Fl.le m.fit (Fl.ofBits a.fitMax) then 0x10
  else if !Fl.lt Fl.zero k || !Fl.lt Fl.zero m.tau || m.bad then 0x11
  else if !(within a.rLo a.rHi a.kp0 p.1 && within a.rLo a.rHi a.ti0 p.2.1 && within a.rLo a.rHi a.td0 p.2.2) then 0x12
  else if !(near a.stepMax old.1 p.1 && near a.stepMax old.2.1 p.2.1 && near a.stepMax old.2.2 p.2.2) then 0x13
  else if !(Fl.le (Fl.ofBits a.gmMin) (Fl.ofBits margins.1) && Fl.le (Fl.ofBits a.pmMin) (Fl.ofBits margins.2)) then 0x14
  else if !setOk then 0x15 else 0

/-- The tuning set that takes the next candidate: the declared one that is not active, in alternation (R152). -/
def State.nextTune (s : State) (l : Nat) (a : AdaptCfg) : Nat :=
  match a.tuneSets with
  | [] => 1
  | [n] => n
  | n :: m :: _ => if s.activeSet l = n then m else if s.activeSet l = m then n
      else if (s.adaptRec l).tuneIdx % 2 = 0 then n else m

/-- TEST_COMPLETE (R154, R157, R158): once its method has run its length, a test yields a candidate, which is rejected,
recommended, or handed to the engine for staging. The command of PULSE brings the τ and θ of its fit, which stand where no other pair
fits its log better. -/
def execTestComplete (k : Fin 16) (m : TestModel) (s : State) : Res :=
  let t := s.slot k.val
  match t.busy, s.adaptCfg t.loop, s.loopOf t.loop with
  | true, some a, some (_, d, w) =>
    if !fitOk d t m || !methodDone a t (ldPeriod d) then .next s
    else
      let l := t.loop
      let r := s.adaptRec l
      let x := findModel a d r t m
      let kd := afterDir d x.k
      let p := tune a kd x.tau x.theta
      let old := s.inUse l a
      let secs := candidate d a p 0 w.secs
      let reason := judge a x kd (marginsOf d kd x.tau x.theta secs) p old (setValid d secs)
      let s := s.freeSlot k.val
      let model := (x.k.toBits, x.tau.toBits, x.theta.toBits)
      let n := s.nextTune l a
      let note : AdaptNote := { metric := x.fit.toBits, model := model, new := p, old := old, setTo := n, setFrom := w.active
                                reason := reason }
      if reason ≠ 0 then
        .next ((s.setAdapt l { r with phase := 0, reason := reason, lastEnd := some s.pt, fit := note.metric }).adaptNote 0x5003 l note)
      else
        let r := { r with reason := 0, lastEnd := some s.pt, model := some model, fit := note.metric }
        if s.mayInstall l then
          .next (s.setAdapt l { r with phase := 2, staged := some (n, p), tuneIdx := r.tuneIdx + 1 })
        else .next ((s.setAdapt l { r with phase := 0 }).adaptNote 0x5004 l note)
  | _, _, _ => .next s

/-! ## Probation and lockout (R159, R160) -/

/-- The reason why a probation reverts (R159), 0 for none: its IAE, or an oscillation. -/
def revertReason (a : AdaptCfg) (r : AdaptRec) : Nat :=
  if Fl.lt (Fl.mul (Fl.ofBits a.revertRatio) (Fl.ofBits r.refIae)) (Fl.ofBits r.probIae) then 0x20
  else if r.osc then 0x21 else 0

/-- SWITCH to the return set, then lockout (R159). -/
def State.revert (s : State) (l reason : Nat) (a : AdaptCfg) : State :=
  let r := s.adaptRec l
  let from_ := s.activeSet l
  let old := s.inUse l a
  let s := s.laSwitch l r.ret
  let s := (s.setAdapt l { s.adaptRec l with cand := r.prevPar }).lockout l reason
  (s.bump Fld.LA_COUNT_REVERT).adaptNote 0x5007 l
    { metric := iaeRatio r, model := r.model.getD (0, 0, 0), new := r.prevPar.getD (a.kp0, a.ti0, a.td0), old := old
      setTo := r.ret, setFrom := from_, reason := reason }

/-- PROBATION_REVERT: on excess IAE, or on oscillation; SWITCH to the return set, then lockout. A loop in MANUAL or FAULT is left
alone (R148). -/
def execProbationRevert (l : Nat) (s : State) : Res :=
  match s.adaptCfg l with
  | none => .next s
  | some a =>
    let r := s.adaptRec l
    let reason := revertReason a r
    if s.laOn ∧ r.phase = 3 ∧ s.loopState l ≠ 1 ∧ s.loopState l ≠ 3 ∧ reason ≠ 0 then .next (s.revert l reason a)
    else .next s

/-- A probation passed: the parameters and the model go to the retained variables (R160). -/
def State.pass (s : State) (l : Nat) : State :=
  let r := s.adaptRec l
  let p := r.cand.getD (0, 0, 0)
  let m := r.model.getD (0, 0, 0)
  let s := (s.setAdapt l { r with phase := 0, reason := 0, passed := some (p, m) }).toKeep l
  let base := match s.adaptCfg l with
    | some a => (a.kp0, a.ti0, a.td0)
    | none => (0, 0, 0)
  s.adaptNote 0x5006 l
    { metric := iaeRatio r, model := m, new := p, old := r.prevPar.getD base, setTo := s.activeSet l, setFrom := r.ret }

/-- PROBATION_END: PROBATION has passed; where a condition of R159 stands the loop reverts instead. -/
def execProbationEnd (l : Nat) (s : State) : Res :=
  let r := s.adaptRec l
  if s.laOn ∧ r.phase = 3 ∧ !Instant.before s.pt r.probEnd then
    match s.adaptCfg l with
    | some a => if revertReason a r = 0 then .next (s.pass l) else s |> execProbationRevert l
    | none => .next (s.pass l)
  else .next s

/-- LOCKOUT_END: 4 × INTERVAL after a revert. -/
def execLockoutEnd (l : Nat) (s : State) : Res :=
  let r := s.adaptRec l
  if r.phase = 4 ∧ !Instant.before s.pt r.lockEnd then .next (s.setAdapt l { r with phase := 0 }) else .next s

/-- Template and envelope of a loop (R150, R151, R160): its declarations without its permissions, Tp and the K declared. -/
def envelope (a : AdaptCfg) : AdaptCfg := { a with ident := false, install := false, surge := false, tp := none, k0 := none }

/-- The kept record of a loop, as the retained variables hold it. -/
def State.keptOf (s : State) (l : Nat) : KeptAdapt :=
  let r := s.adaptRec l
  let x := if r.noRestore then none else r.passed
  { fIdent := r.fIdent, fInstall := r.fInstall, fSurge := r.fSurge
    par := x.map Prod.fst, model := x.map Prod.snd, cfg := (s.adaptCfg l).map envelope }

/-- Kept records committed to the key (R436). -/
def State.saveAdapt (s : State) : State :=
  if s.keyOk then
    let s := s.la.unsaved.foldl (fun s l => { s with
      key := { s.key with adapt := Tab.set {} s.key.adapt l (s.keptOf l) } }) s
    { s with la := { s.la with unsaved := [] } }
  else s

/-- A kept set discarded at start-up, where there is one (R160). -/
def State.discardSet (s : State) (l : Nat) (k : KeptAdapt) : State :=
  match k.par with
  | some p => (s.toKeep l).adaptNote 0x500D l { model := k.model.getD (0, 0, 0), new := p, reason := 0x25 }
  | none => s

/-- A tuned set restored before the first commit (R160): staged into the first tuning set with a SWITCH pending, only
where template and envelope are those of the image; discarded and logged otherwise. -/
def State.restoreSet (s : State) (l : Nat) (a : AdaptCfg) (k : KeptAdapt) : State :=
  match k.par, s.loopOf l with
  | some p, some (b, d, w) =>
    let n := a.tuneSets.headD 1
    if k.cfg = some (envelope a) then
      let s := s.putAlts b d (stageAlts n w.alts (candidate d a p 0 w.secs))
      let s := s.setRun l { s.run l with pend := some { cmd := 5, set := n }, pendNew := true }
      let s := s.setAdapt l { s.adaptRec l with
        cand := some p, passed := some (p, k.model.getD (0, 0, 0)), model := k.model, set := some n }
      s.adaptNote 0x500C l
        { model := k.model.getD (0, 0, 0), new := p, old := (a.kp0, a.ti0, a.td0), setTo := n, setFrom := w.active }
    else s.discardSet l k
  | _, _ => s

/-- What the retained variables keep of a loop, taken at start-up (R160, R167): its forbids, and its tuned set, which a loop without
declarations in this image does not keep. -/
def State.restoreLoop (s : State) (l : Nat) (k : KeptAdapt) : State :=
  let s := s.setAdapt l { s.adaptRec l with fIdent := k.fIdent, fInstall := k.fInstall, fSurge := k.fSurge }
  match s.adaptCfg l with
  | some a => s.restoreSet l a k
  | none => s.discardSet l k

/-- What the retained variables keep of every loop, taken at start-up. -/
def State.restoreAdapt (s : State) : State := s.key.adapt.foldl (fun s x => s.restoreLoop x.1 x.2) s

/-! ## Surge defence (R161 to R164) -/

/-- Q_S at a pressure rise: linear between points, constant beyond the ends (R161). -/
def surgeLine (x : Fl) : List (F32 × F32) → Fl
  | [] => Fl.zero
  | [p] => Fl.ofBits p.2
  | p :: q :: rest =>
    if Fl.le x (Fl.ofBits p.1) then Fl.ofBits p.2
    else if Fl.le x (Fl.ofBits q.1) then
      Fl.add (Fl.ofBits p.2)
        (Fl.div (Fl.mul (Fl.sub x (Fl.ofBits p.1)) (Fl.sub (Fl.ofBits q.2) (Fl.ofBits p.2)))
          (Fl.sub (Fl.ofBits q.1) (Fl.ofBits p.1)))
    else surgeLine x (q :: rest)

/-- M and F of a closed interval (R162). -/
def surgeJudge (c : SurgeCfg) (q p : GyFeed) : Fl × Fl :=
  let two := Fl.ofNat 2
  let qm := Fl.div (Fl.add (Fl.ofBits q.mx) (Fl.ofBits q.mn)) two
  let pm := Fl.div (Fl.add (Fl.ofBits p.mx) (Fl.ofBits p.mn)) two
  let qs := surgeLine pm c.line
  (Fl.div (Fl.sub qm qs) qs, Fl.div (Fl.sub (Fl.ofBits q.mx) (Fl.ofBits q.mn)) qm)

/-- STATE of surge group `g`; a change raises source 91, and LA_STATUS counts the groups in DEFENCE. -/
def State.setSurge (s : State) (g st : Nat) : State :=
  if s.fld Fld.LA_SURGE_STATE g = st then s
  else
    let s := (s.setFld Fld.LA_SURGE_STATE st g).ev 91
    s.showSurge

/-- A surge record: OLD [63:32] holds the group, K of MODEL holds F (R166). -/
def State.surgeNote (s : State) (code : Nat) (c : SurgeCfg) (l reason : Nat) (setTo : Nat := 0) : State :=
  let r : SurgeRun := Tab.get {} s.la.surge c.g.val
  s.adaptNote code l
    { metric := r.m, model := (r.f, 0, 0), old := (BitVec.ofNat 32 c.g.val, 0, 0), reason := reason
      setTo := setTo, setFrom := s.activeSet l }

/-- The first member of a group, which the group's own records name, with its defence set. -/
def surgeLead (c : SurgeCfg) : Nat × Nat := c.members.headD (0, 0)

/-- A pending installation cancelled (R162). -/
def State.dropStaged (s : State) (l : Nat) : State :=
  let r := s.adaptRec l
  if r.phase = 2 then s.setAdapt l { r with phase := 0, staged := none } else s

/-- One member at the entry to DEFENCE (R162, R164). A member that another of its groups has in DEFENCE already keeps its return
set. (DESIGN CHOICE, log entry 109) -/
def State.defend (s : State) (c : SurgeCfg) (m : Nat × Nat) : State :=
  let l := m.1
  let st := s.loopState l
  let r := s.adaptRec l
  if !s.maySurge l then s
  else if st = 1 ∨ st = 3 then s.surgeNote 0x500A c l 0x23
  else if r.phase = 5 then s.laSwitch l m.2
  else
    let back := if r.phase = 3 then r.setPrev else s.activeSet l
    let cand := if r.phase = 3 then r.prevPar else r.cand
    (s.setAdapt l { r with phase := 5, ret := back, cand := cand, staged := none, reason := 0 }).laSwitch l m.2

/-- The group enters DEFENCE: pending installations of its members are cancelled, and their tests end (R156, R162). -/
def State.defence (s : State) (c : SurgeCfg) : State :=
  let g := c.g.val
  let r : SurgeRun := Tab.get {} s.la.surge g
  let s := { s with la := { s.la with surge := Tab.set {} s.la.surge g { r with relAt := none } } }
  let s := (s.setSurge g 2).bump Fld.LA_COUNT_SURGE
  let s := s.surgeNote 0x5008 c (surgeLead c).1 0 (surgeLead c).2
  let s := c.members.foldl (fun s m => (s.dropStaged m.1).abortLoop m.1 5) s
  c.members.foldl (fun s m => s.defend c m) s

/-- A precursor: tests of the members end, and a member without SURGE has it logged as ignored (R156, R164). -/
def State.precursor (s : State) (c : SurgeCfg) : State :=
  c.members.foldl (fun s m =>
    let s := s.abortLoop m.1 5
    if s.maySurge m.1 then s else s.surgeNote 0x500A c m.1 0x24) s

/-- SURGE_INTERVAL_CLOSE: the margin and fluctuation of the interval judged (R162, R163). A group in DEFENCE stays there through
invalid intervals, and each of them restarts H_REL. (DESIGN CHOICE, log entry 110) -/
def execSurgeIntervalClose (g : Fin 32) (s : State) : Res :=
  match s.laOn, s.img.surge.find? (fun c => c.g == g) with
  | true, some c =>
    let q : GyFeed := Tab.get {} s.la.feed c.qCh.val
    let p : GyFeed := Tab.get {} s.la.feed c.dpCh.val
    let r : SurgeRun := Tab.get {} s.la.surge g.val
    let st := s.fld Fld.LA_SURGE_STATE g.val
    let put := fun (s : State) (x : SurgeRun) => { s with la := { s.la with surge := Tab.set {} s.la.surge g.val x } }
    if q.bad || p.bad then
      let s := put s { r with invalid := r.invalid + 1, relAt := none }
      let s := s.setFld Fld.LA_SURGE_COUNT 0 g.val
      if st = 2 ∨ st = 3 then .next s
      else if 10 ≤ r.invalid + 1 then
        let s := (s.setSurge g.val 3).surgeNote 0x500B c (surgeLead c).1 0
        .next (if c.blindSwitch then s.defence c else s)
      else .next (s.setSurge g.val 0)
    else
      let mf := surgeJudge c q p
      let held := Fl.le (Fl.ofBits c.mRel) mf.1
      let s := put s { r with
        invalid := 0, m := mf.1.toBits, f := mf.2.toBits
        relAt := if held then some (r.relAt.getD s.pt) else none }
      let s := s.setFld Fld.LA_SURGE_MARGIN (ofSigned 16 (clampInt 32767 (Fl.mul mf.1 (Fl.ofNat 10000)).toInt)) g.val
      let pre := Fl.lt mf.1 (Fl.ofBits c.mArm) && Fl.le (Fl.ofBits c.fThr) mf.2
      if st = 2 then .next (if pre then s.precursor c else s)
      else
        let n := if pre then s.fld Fld.LA_SURGE_COUNT g.val + 1 else 0
        let s := s.setFld Fld.LA_SURGE_COUNT (sat 15 n) g.val
        let s := if pre then s.precursor c else s
        if Fl.lt mf.1 (Fl.ofBits c.mTrip) || (pre && decide (c.n ≤ n)) then .next (s.defence c)
        else .next (s.setSurge g.val (if pre then 1 else 0))
  | _, _ => .next s

/-- Another group of loop `l` is in DEFENCE. -/
def State.otherDefence (s : State) (g l : Nat) : Bool :=
  (s.groupsOf l).any fun c => c.g.val != g && s.fld Fld.LA_SURGE_STATE c.g.val == 2

/-- One member at the end of DEFENCE (R164): in MANUAL or FAULT it is left and logged; a lockout that still stands goes on (R159);
it stays in defence while another of its groups is. -/
def State.undefend (s : State) (c : SurgeCfg) (m : Nat × Nat) : State :=
  let l := m.1
  let r := s.adaptRec l
  let st := s.loopState l
  let stays := r.phase = 5 ∧ s.otherDefence c.g.val l
  let s := if r.phase = 5 ∧ ¬ stays then
      s.setAdapt l { r with phase := if Instant.before s.pt r.lockEnd then 4 else 0 } else s
  if st = 1 ∨ st = 3 then s.surgeNote 0x5009 c l 0x23
  else if r.phase = 5 ∧ ¬ stays then s.laSwitch l r.ret else s

/-- SURGE_RELEASE: M at M_REL or above for H_REL (R164). -/
def execSurgeRelease (g : Fin 32) (s : State) : Res :=
  match s.laOn, s.img.surge.find? (fun c => c.g == g), (Tab.get ({} : SurgeRun) s.la.surge g.val).relAt with
  | true, some c, some t =>
    if s.fld Fld.LA_SURGE_STATE g.val = 2 ∧ !Instant.before s.pt (t.plus c.hRel) then
      let s := (s.setSurge g.val 0).setFld Fld.LA_SURGE_COUNT 0 g.val
      let s := s.surgeNote 0x5009 c (surgeLead c).1 0 (s.adaptRec (surgeLead c).1).ret
      .next (c.members.foldl (fun s m => s.undefend c m) s)
    else .next s
  | _, _, _ => .next s

/-! ## Forbids (R167) -/

/-- Forbids set or lifted for a loop, logged and kept. -/
def State.forbid (s : State) (l : Nat) (ident install surge b : Bool) : State :=
  let r := s.adaptRec l
  let s := s.setAdapt l { r with
    fIdent := if ident then b else r.fIdent, fInstall := if install then b else r.fInstall
    fSurge := if surge then b else r.fSurge }
  (s.toKeep l).adaptNote 0x500E l {}

/-- ADAPT_FORBID: a running test is aborted by any forbid, a pending installation cancelled; a probation goes on to its end. -/
def execAdaptForbid (h : SvcMsg) (l : Nat) (ident install surge : Bool) (s : State) : Res :=
  .next (s.svc h 0x61 2 0 none fun s =>
    if (s.loopAt l).isNone then s.answer h 0x61 7
    else
      let s := s.forbid l ident install surge true
      let s := if ident || install || surge then s.abortLoop l 8 else s
      let r := s.adaptRec l
      let s := if (ident || install) && r.phase == 2 then s.setAdapt l { r with phase := 0, staged := none } else s
      s.answer h 0x61 0)

/-- ADAPT_LIFT. -/
def execAdaptLift (h : SvcMsg) (l : Nat) (ident install surge : Bool) (s : State) : Res :=
  .next (s.svc h 0x61 2 0 none fun s =>
    if (s.loopAt l).isNone then s.answer h 0x61 7 else (s.forbid l ident install surge false).answer h 0x61 0)

end Sys2Proof.Machine
end

