-- ==== Sys2Proof/Machine/Sinter.lean ====
section
/-! DEFINITION. Sinter (18 R396 to R408, 20 R431): admission, suppression, loss, commit to the key, the start-up search,
cursor windows and the two service messages. -/

namespace Sys2Proof.Machine

/-! ## Records (R396, R397) -/

def recSeq (r : BitVec 512) : Nat := bits r 47 0
def recCode (r : BitVec 512) : Nat := bits r 63 48

/-- A record of Sinter with its CRC. -/
def sinterRec (seq code island : Nat) (p : BitVec 352) : BitVec 512 :=
  let r : BitVec 512 := 0
  let r := putBits r 439 432 island
  let r := putBits r 423 416 1
  let r := putBits r 415 64 p.toNat
  let r := putBits r 63 48 code
  let r := putBits r 47 0 seq
  putBits r 511 480 (crcOf r 60).toNat

/-- Address of slot `i`. -/
def slotAddr (i : Nat) : Nat := Config.keySinter + 64 * i

/-- Slot `i` of the region. -/
def State.slotRec (s : State) (i : Nat) : BitVec 512 := s.keyRec 512 (slotAddr i)

/-- Slot `i` holds a valid record (R397). -/
def State.slotValid (s : State) (i : Nat) : Bool :=
  let r := s.slotRec i
  bits r 423 416 == 1 && recSeq r != 0 && recSeq r % Config.sinterSlots == i &&
  (BitVec.ofNat 32 (bits r 511 480) == crcOf r 60)

/-- The valid record with a given SEQUENCE, where its slot holds it. -/
def State.seqRec (s : State) (q : Nat) : Option (BitVec 512) :=
  let i := q % Config.sinterSlots
  if s.slotValid i && recSeq (s.slotRec i) == q then some (s.slotRec i) else none

/-! ## Gates (R398 to R401) -/

def codeClass (code : BitVec 16) : Nat := bits code 15 12

/-- Fault classes (R398). -/
def faultClass (code : BitVec 16) : Bool := decide (11 ≤ codeClass code)

/-- RATE and BURST of a code (R399). -/
def State.rateOf (s : State) (code : BitVec 16) : Nat × Nat :=
  match s.img.rates.find? (fun r => r.code == code) with
  | some r => (r.rate, r.burst)
  | none => if faultClass code then (100, 256) else (10, 32)

/-- Tokens short of BURST now, in 10^-9 tokens (R399). -/
def State.deficit (s : State) (code : BitVec 16) : Nat :=
  let e := Tab.get (0, 0) s.sn.buckets code.toNat
  e.1 - (s.mt.frc.toNat - e.2) * (s.rateOf code).1

/-- The bucket holds a token. -/
def State.token (s : State) (code : BitVec 16) : Bool :=
  decide (s.deficit code + 1000000000 ≤ (s.rateOf code).2 * 1000000000)

/-- Records admitted within the last 1 s of FRC. -/
def State.recentCount (s : State) : Nat :=
  (s.sn.recent.filter fun f => decide (s.mt.frc.toNat < f + 1000000000)).length

/-- The queue admits a record of this code (R401). -/
def State.roomFor (s : State) (code : BitVec 16) : Bool :=
  decide (s.sn.queue.length < (if codeClass code = 0 ∨ faultClass code then 2048 else 1792))

/-- SN_STATUS follows the queue and the key. -/
def State.snShow (s : State) : State :=
  let n := s.sn.queue.length
  let was := s.flag Fld.SN_STATUS_RESERVE
  let s := (s.setFld Fld.SN_STATUS_OCCUPANCY n).setFlag Fld.SN_STATUS_KEY_OK (s.sn.located && s.keyOk)
  let s := s.setFlag Fld.SN_STATUS_RESERVE (decide (1792 ≤ n))
  if decide (1792 ≤ n) && !was then s.ev 121 else s

/-! ## Numbering (R396, R405) -/

/-- The payload of a time anchor at its admission (R405). -/
def State.anchorPayload (s : State) (reason : Nat) : BitVec 352 :=
  let p : BitVec 352 := 0
  let p := putBits p 351 288 (if s.mt.ptSet then s.pt.toNat else 0)
  let p := putBits p 287 224 (if s.mt.btSet then s.bt.toNat else 0)
  let p := putBits p 223 160 s.mt.frc.toNat
  let p := putBits p 159 128 s.errEst
  let p := putBits p 127 96 (s.fld Fld.MT_OFFSET_OFFSET)
  let p := putBits p 95 64 (s.fld Fld.BN_EPOCH_EPOCH)
  let p := putBits p 63 16 s.sn.prevAnchor
  let p := putBits p 15 12 (s.fld Fld.MT_STATE_STATE)
  let p := putBits p 11 8 (s.fld Fld.MT_STATE_SOURCE)
  let p := putBit p 7 (s.flag Fld.MT_STATE_COORD_DEGRADED)
  putBits p 3 0 reason

/-- A record given its SEQUENCE and put at the queue's end. -/
def State.number (s : State) (island : Nat) (code : BitVec 16) (p : Payload) : State :=
  let q := s.sn.next
  let body : BitVec 352 := match p with
    | .laid b => b
    | .items xs => Config.payloadLayout code xs
    | .anchor reason => s.anchorPayload reason
  let isAnchor := code == 0x0001#16
  let recent := s.sn.recent.filter fun f => decide (s.mt.frc.toNat < f + 1000000000)
  { s with
    sn := { s.sn with
      queue := s.sn.queue ++ [sinterRec q code.toNat island body]
      next := q + 1
      recent := recent ++ [s.mt.frc.toNat]
      lastSeq := Tab.set 0 s.sn.lastSeq code.toNat q
      prevAnchor := if isAnchor then q else s.sn.prevAnchor
      anchorFrc := if isAnchor then some s.mt.frc.toNat else s.sn.anchorFrc } }.snShow

/-- A record refused by a full queue (R402): class 0x0 counts with the faults (the SN_LOST register). -/
def State.snLose (s : State) (code : BitVec 16) : State :=
  let f := faultClass code || codeClass code == 0
  let fresh := s.sn.lossFault == 0 && s.sn.lossOther == 0
  let s := if f then s.bump Fld.SN_LOST_FAULT else s.bump Fld.SN_LOST_OTHER
  { s with
    sn := { s.sn with
      lossFault := satAdd 4294967295 s.sn.lossFault (b2n f)
      lossOther := satAdd 4294967295 s.sn.lossOther (b2n (!f))
      lossPt := if fresh then (if s.mt.ptSet then s.pt else 0) else s.sn.lossPt
      refused := true } }.ev 122

/-- One suppression counted in an entry. -/
def Supp.more (e : Supp) (pt : Instant) : Supp :=
  { e with first := if e.count = 0 then pt else e.first, last := pt, count := satAdd 4294967295 e.count 1 }

/-- An entry is free again: its summary was admitted and a further 1 s brought no suppression (R400). -/
def State.suppFree (s : State) (e : Supp) : Bool := e.count == 0 && decide (e.mark.toNat ≤ s.mt.frc.toNat)

/-- A record suppressed (R399, R400): entries free by now are given back first. -/
def State.suppress (s : State) (code : BitVec 16) : State :=
  let s := { s with sn := { s.sn with
    supp := s.sn.supp.filter fun e => !s.suppFree e
    spill := s.sn.spill.filter fun e => !s.suppFree e } }
  let pt := if s.mt.ptSet then s.pt else 0
  let new : Supp := { code := code, first := pt, last := pt, count := 1, mark := s.mt.frc + 1000000000 }
  let s := (s.bump Fld.SN_SUPPRESSED_COUNT).ev 122
  if s.sn.supp.any fun e => e.code == code then
    { s with sn := { s.sn with supp := s.sn.supp.map fun e => if e.code == code then e.more pt else e } }
  else if s.sn.supp.length < 4096 then { s with sn := { s.sn with supp := s.sn.supp ++ [new] } }
  else
    { s with sn := { s.sn with
      spill := some (match s.sn.spill with
        | some e => e.more pt
        | none => { new with code := 0 }) } }

/-- A periodic anchor falls due with the next record (R406). (DEDUCED, log entry 58) -/
def State.anchorDue (s : State) : Bool :=
  match s.sn.anchorFrc with
  | some f => decide (s.img.anchorPeriod ≤ s.mt.frc.toNat - f)
  | none => false

/-- A record that the queue takes, after the periodic anchor that it brings due (R406); the answer says whether it was
admitted. -/
def State.enqueue (s : State) (island : Nat) (code : BitVec 16) (p : Payload) : State × Bool :=
  if !s.roomFor code then (s, false)
  else
    let s := if code != 0x0001#16 && s.anchorDue then s.number islSup 0x0001 (.anchor 1) else s
    if !s.roomFor code then (s, false) else (s.number island code p, true)

/-- A record at Sinter's gates (R399 to R402). -/
def State.admitRec (s : State) (r : RawRec) : State :=
  let limited := codeClass r.code != 0
  if limited && (!s.token r.code || decide (100000 ≤ s.recentCount)) then s.suppress r.code
  else
    let d := s.deficit r.code
    let q := s.enqueue r.island r.code r.payload
    if !q.2 then q.1.snLose r.code
    else if limited then
      { q.1 with sn := { q.1.sn with
        buckets := Tab.set (0, 0) q.1.sn.buckets r.code.toNat (d + 1000000000, s.mt.frc.toNat) } }
    else q.1

/-- The record that is admitted next: among those raised in the same cycle as the oldest, a fault class first. -/
def nextRaised : List RawRec → Option RawRec
  | [] => none
  | h :: t => some (((h :: t).find? fun r => r.frc == h.frc && faultClass r.code).getD h)

/-- SINTER_ADMIT: one raised record passes the gates; before the search completes it waits (R399, R404). -/
def execSinterAdmit (s : State) : Res :=
  if !s.sn.located then .next s
  else
    match nextRaised s.sn.raised with
    | none => .next s
    | some r => .next ({ s with sn := { s.sn with raised := s.sn.raised.erase r } }.admitRec r)

/-! ## Suppression summaries and loss (R400, R402) -/

/-- The payload of a summary. -/
def State.suppPayload (s : State) (e : Supp) : BitVec 352 :=
  let p : BitVec 352 := 0
  let p := putBits p 351 288 e.first.toNat
  let p := putBits p 287 224 e.last.toNat
  let p := putBits p 223 176 (if e.code = 0 then 0 else Tab.get 0 s.sn.lastSeq e.code.toNat)
  let p := putBits p 175 160 e.code.toNat
  putBits p 159 128 e.count

/-- A summary that is due: offered to the queue, or its entry freed when a further 1 s has brought no suppression. -/
def State.offerSupp (s : State) (e : Supp) : State × Option Supp :=
  if s.mt.frc.toNat < e.mark.toNat then (s, some e)
  else if e.count = 0 then (s, none)
  else
    let q := s.enqueue islSup 0x0002 (.laid (s.suppPayload e))
    if q.2 then (q.1, some { e with count := 0, mark := s.mt.frc + 1000000000 }) else (q.1, some e)

/-- Every due entry of a list that `pick` names, offered in turn. -/
def State.offerSupps (pick : Supp → Bool) (s : State) : List Supp → State × List Supp
  | [] => (s, [])
  | e :: es =>
    if pick e then
      let r := s.offerSupp e
      let q := State.offerSupps pick r.1 es
      (q.1, r.2.toList ++ q.2)
    else
      let q := State.offerSupps pick s es
      (q.1, e :: q.2)

/-- The table and the overflow entry offered. -/
def State.offerAll (s : State) (pick : Supp → Bool) : State :=
  let r := State.offerSupps pick s s.sn.supp
  let s := { r.1 with sn := { r.1.sn with supp := r.2 } }
  match s.sn.spill with
  | none => s
  | some e =>
    if pick e then
      let q := s.offerSupp e
      { q.1 with sn := { q.1.sn with spill := q.2 } }
    else s

/-- SUPPRESSION_SUMMARY: 1 s after a code's first suppression and every 1 s while it continues (R400). -/
def execSuppressionSummary (code : BitVec 16) (s : State) : Res :=
  if s.sn.located then .next (s.offerAll fun e => e.code == code) else .next s

/-- LOSS_RECORD: at a standard boundary; it is admitted after a cycle with no refusal (R402). -/
def execLossRecord (s : State) : Res :=
  if s.sn.refused then .next { s with sn := { s.sn with refused := false } }
  else if s.sn.located && (s.sn.lossFault != 0 || s.sn.lossOther != 0) then
    let p : BitVec 352 := 0
    let p := putBits p 351 288 s.sn.lossPt.toNat
    let p := putBits p 287 256 s.sn.lossFault
    let p := putBits p 255 224 s.sn.lossOther
    let q := s.enqueue islSup 0x0003 (.laid p)
    if q.2 then .next { q.1 with sn := { q.1.sn with lossFault := 0, lossOther := 0, lossPt := 0 } } else .next q.1
  else .next s

/-! ## Committing (R403) -/

/-- A pair of SN registers set to a SEQUENCE. -/
def State.setSeq (s : State) (l h : RegName) (q : Nat) : State := s.setPair l h 0 (BitVec.ofNat 64 q)

def State.newest (s : State) : Nat := bits (s.reg .SN_NEWEST_HI) 15 0 * 4294967296 + (s.reg .SN_NEWEST_LO).toNat
def State.oldest (s : State) : Nat := bits (s.reg .SN_OLDEST_HI) 15 0 * 4294967296 + (s.reg .SN_OLDEST_LO).toNat

/-- The queue's first record written into its slot, CRC last: it becomes the newest, and the oldest readable record is
never more than the region's slots behind it. -/
def State.commitHead (s : State) (r : BitVec 512) (rest : List (BitVec 512)) : State :=
  let q := recSeq r
  let s := s.keyPutRec (slotAddr (q % Config.sinterSlots)) r
  let s := { s with sn := { s.sn with queue := rest } }.snShow
  let old := if s.oldest = 0 then q else max s.oldest (q + 1 - Config.sinterSlots)
  (s.setSeq .SN_NEWEST_LO .SN_NEWEST_HI q).setSeq .SN_OLDEST_LO .SN_OLDEST_HI old

/-- Sinter may write: the newest record is located and the key takes writes (R50, R437). -/
def State.snMay (s : State) : Bool := s.sn.located && s.keyOk

/-- SINTER_COMMIT: one record leaves the queue (R403); summaries that a full queue turned away are offered again (R400). -/
def execSinterCommit (s : State) : Res :=
  match s.sn.queue with
  | [] => .next s
  | r :: rest =>
    if s.snMay then .next ((s.commitHead r rest).offerAll fun _ => true) else .next s

/-- The queue committed whole, as the hold-up rate does (R403, R428); summaries that a full queue turned away are offered again
(R400). -/
def State.commitAll : Nat → State → State
  | 0, s => s
  | n + 1, s =>
    match s.sn.queue with
    | [] => s
    | r :: rest => if s.snMay then ((s.commitHead r rest).offerAll fun _ => true).commitAll n else s

/-- Every raised record admitted in the order raised (R428). -/
def State.admitAll (s : State) : List RawRec → State
  | [] => s
  | r :: rs => (s.admitRec r).admitAll rs

/-! ## The start-up search (R404, R431) -/

/-- The slots that hold something. -/
def State.usedSlots (s : State) : List Nat :=
  (s.key.units.filter fun u =>
    decide (Config.keySinter ≤ 8 * u.1) && decide (8 * u.1 < Config.keySinter + 64 * Config.sinterSlots) &&
    8 * u.1 % 64 == 0).map fun u => (8 * u.1 - Config.keySinter) / 64

/-- The valid records of the region. -/
def State.validRecs (s : State) : List (BitVec 512) := (s.usedSlots.filter s.slotValid).map s.slotRec

/-- The greatest SEQUENCE of a list of records. -/
def topSeq (rs : List (BitVec 512)) : Nat := rs.foldl (fun m r => max m (recSeq r)) 0

/-- The least SEQUENCE of a list of records, `d` where it is empty. -/
def lowSeq (rs : List (BitVec 512)) (d : Nat) : Nat :=
  match rs with
  | [] => d
  | r :: rest => rest.foldl (fun m r => min m (recSeq r)) (recSeq r)

/-- The payload of the reset record (R431). -/
def State.resetPayload (s : State) : BitVec 352 :=
  let p : BitVec 352 := 0
  let p := putBits p 351 320 (s.reg .RST_CAUSE).toNat
  let p := (List.range 5).foldl (fun p i => putBits p (319 - 32 * i) (288 - 32 * i) (s.reg .LK_FAULT i).toNat) p
  let p := putBits p 159 128 (s.reg .AC_FAULT 4).toNat
  let p := putBits p 127 96 (s.reg .AC_FAULT_ADDR_LO 4).toNat
  putBits p 95 64 (s.reg .AC_FAULT_ADDR_HI 4).toNat

/-- The Sinter code of a fault class (R343, R352). -/
def lkCode (c : Nat) : Nat :=
  match c with
  | 1 => 0xC001
  | 2 => 0xC002
  | 3 => 0xC006
  | 4 => 0xC003
  | 5 | 6 => 0xC004
  | 7 => 0xC005
  | _ => 0xC007

/-- SINTER_SEARCH: the newest valid record is found; the start-up anchor and the reset record follow it (R404, R431), and
the lockstep record of R344 where the reset came before it was written. (DEDUCED, log entry 57) -/
def execSinterSearch (s : State) : Res :=
  if s.sn.located || !s.flag Fld.PK_STATUS_SERIAL_OK || s.pw.inReset.isSome || decide (s.phase < 2) then .next s
  else
    let rs := s.validRecs
    let top := topSeq rs
    let clear := topSeq (rs.filter fun r => recCode r == 4)
    let live := rs.filter fun r => decide (top < recSeq r + Config.sinterSlots)
    let old := max clear (lowSeq live 0)
    let s := { s with sn := { s.sn with
      located := true, next := top + 1
      prevAnchor := topSeq (rs.filter fun r => recCode r == 1), anchorFrc := none } }
    let s := (s.setSeq .SN_NEWEST_LO .SN_NEWEST_HI top).setSeq .SN_OLDEST_LO .SN_OLDEST_HI old
    let s := s.admitRec { island := islSup, code := 0x0001, payload := .anchor 2, frc := s.mt.frc }
    let s := s.admitRec { island := islSup, code := BitVec.ofNat 16 (0xF000 + s.fld Fld.RST_CAUSE_CAUSE),
                          payload := .laid s.resetPayload, frc := s.mt.frc }
    let s := if s.pw.lkfPending then
        { s.note islSup (lkCode (s.fld Fld.LK_FAULT_CLASS 4))
            [4, s.fld Fld.LK_FAULT_STAGE 4, s.fld Fld.LK_FAULT_WRITE 4] with pw := { s.pw with lkfPending := false } }
      else s
    .next s.snShow

/-! ## Windows (R407) -/

/-- Up to `want` valid records from SEQUENCE `q` on, none beyond `top`: the records and the slots skipped. -/
def State.scan (s : State) (top : Nat) : Nat → Nat → Nat → List (BitVec 512) × Nat
  | 0, _, _ => ([], 0)
  | fuel + 1, want, q =>
    if want = 0 ∨ top < q then ([], 0)
    else
      match s.seqRec q with
      | some r =>
        let t := s.scan top fuel (want - 1) (q + 1)
        (r :: t.1, t.2)
      | none =>
        let t := s.scan top fuel want (q + 1)
        (t.1, t.2 + 1)

/-- The window of reader `w`. -/
def State.window (s : State) (w : Nat) : List (BitVec 512) := if w = 0 then s.sn.win0 else s.sn.win1

def State.setWindow (s : State) (w : Nat) (rs : List (BitVec 512)) : State :=
  if w = 0 then { s with sn := { s.sn with win0 := rs } } else { s with sn := { s.sn with win1 := rs } }

/-- SN_WSTAT of reader `w`. -/
def State.setWstat (s : State) (w loaded bad code : Nat) : State :=
  (((s.setFlag Fld.SN_WSTAT_BUSY false w).setFld Fld.SN_WSTAT_LOADED loaded w).setFld Fld.SN_WSTAT_BAD (sat 255 bad) w).setFld
    Fld.SN_WSTAT_CODE code w

/-- The cursor of reader `w`. -/
def State.cursor (s : State) (w : Nat) : Nat :=
  bits (s.reg .SN_CURSOR_HI w) 15 0 * 4294967296 + (s.reg .SN_CURSOR_LO w).toNat

/-- The window of reader `w` loaded from its cursor (R407). (DEDUCED, log entry 60) -/
def State.loadWindow (s : State) (w : Nat) : State :=
  if !(s.flag Fld.PK_STATUS_PRESENT && s.flag Fld.PK_STATUS_SERIAL_OK && s.sn.located) then
    (s.setWindow w []).setWstat w 0 0 3
  else
    let c := s.cursor w
    let from_ := max c s.oldest
    let r := s.scan s.newest Config.sinterSlots 8 (max 1 from_)
    let code := if s.newest < c ∨ s.newest = 0 then 2 else if c < s.oldest then 1 else 0
    (s.setWindow w r.1).setWstat w r.1.length r.2 code

/-- The cursor of reader `w` set (R5, R407). -/
def State.setCursor (s : State) (w : Nat) (q : Nat) : State :=
  s.setPair .SN_CURSOR_LO .SN_CURSOR_HI w (BitVec.ofNat 64 (q % 281474976710656))

/-- A held _LO half, taken with its _HI half (R5). -/
def State.heldLo (s : State) (n : RegName) (i : Nat) : Word := Tab.get 0 (Tab.get [] s.holdLo n.ctorIdx) i

/-- SN_CURSOR_SET: the write of SN_CURSOR_HI[w] commits the pair and loads the window. -/
def execSnCursorSet (w : Writer) (hi : Word) (s : State) : Res :=
  .next ((s.setCursor (wIdx w) (bits hi 15 0 * 4294967296 + (s.heldLo .SN_CURSOR_LO (wIdx w)).toNat)).loadWindow (wIdx w))

/-- The cursor of reader `w` moved on by LOADED, and its window loaded again (R407). -/
def State.advanceWindow (s : State) (w : Nat) : State :=
  (s.setCursor w (s.cursor w + s.fld Fld.SN_WSTAT_LOADED w)).loadWindow w

/-- SN_WINDOW_ADVANCE: the window's last word read. -/
def execSnWindowAdvance (w : Writer) (s : State) : Res :=
  let i := wIdx w
  let last := BitVec.ofNat 32 (bits (listGet 0 (s.window i) 7) 511 480)
  let s := { s with lastRead := last }
  .next (s.advanceWindow i)

end Sys2Proof.Machine
end

