-- ==== Sys2Proof/Machine/View.lean ====
section
/-! DEFINITION. What a register reads (R5, R6): the stored word, and the fields that the manual defines as a function of
other state. -/

namespace Sys2Proof.Machine

/-- Time spent in PENDING, in ms (MB_STAT.WAIT, R386, R388). -/
def State.mbWait (s : State) (n : Nat) : Nat :=
  if s.fld Fld.MB_STAT_STATE n = 1 then sat 65535 ((s.mt.frc - Tab.get 0 s.mb.since n).toNat / 1000000)
  else s.fld Fld.MB_STAT_WAIT n

/-- RST_WDOG.REMAIN (R429, R442): 5 ms from the last kick, in units of 100 µs. -/
def State.wdogRemain (s : State) : Nat :=
  if s.pw.wdogRun then 50 - (s.mt.frc - s.pw.kickFrc).toNat / 100000 else 50

/-- RST_EV_SUM: groups that hold a bit routed to the supervisor. -/
def State.evSum (s : State) : Nat :=
  (List.range 8).foldl (fun a g =>
    a + (if s.fld Fld.RST_EV_PEND_PEND g &&& s.fld Fld.RST_EV_ROUTE_SUP g = 0 then 0 else 2 ^ g)) 0

/-- LA_LOOP[w], the loop that LA_SEL[w] selects. -/
def State.laLoop (s : State) (w : Nat) : Word :=
  let l := s.fld Fld.LA_SEL_LOOP w
  let r : AdaptRec := Tab.get {} s.la.recs l
  let c := (s.img.adapt.find? fun a => a.loop == l).getD { loop := l }
  let x : Word := 0
  let x := putBit (putBit (putBit x 31 c.ident) 30 c.install) 29 c.surge
  let x := putBit (putBit (putBit x 28 r.fIdent) 27 r.fInstall) 26 r.fSurge
  let x := putBits x 23 20 r.phase
  let x := putBits x 19 18 r.ret
  putBits x 7 0 r.reason

/-- LA_SLOT[k]: ELAPSED runs while the slot is busy. -/
def State.laSlot (s : State) (k : Nat) : Word :=
  let t : TestSlot := Tab.get {} s.la.slots k
  if t.busy then
    let x : Word := 0
    let x := putBit x 31 true
    let x := putBits x 30 29 (if t.relay then 2 else 1)
    let x := putBits x 27 14 (sat 16383 ((s.pt - t.start).toNat / 1000000000))
    putBits x 13 0 t.loop
  else 0

/-- PN_SSTAT[w], the stream that PN_SEL[w] selects: the publication table reads 0. -/
def State.pnSstat (s : State) (w : Nat) : Word :=
  let t := s.fld Fld.PN_SEL_TABLE w
  if t = 0 ∨ t = 2 then
    let k := streamKey t (s.fld Fld.PN_SEL_INDEX w)
    BitVec.ofNat 32 (Tab.get 0 s.pn.polc k * 65536 + Tab.get 0 s.pn.elimc k)
  else 0

/-! ### UP_STATUS (R411) -/

/-- The transition point reports a transition or is not GOOD; so does a position whose image names none (R411). -/
def State.transition (s : State) : Bool :=
  match s.img.transition with
  | none => true
  | some (ref, vals) =>
    match s.refGet ref with
    | none => true
    | some r => !recBit r qGood || kindMissing r (s.refKind ref) || vals.contains (recVal r)

/-- The partner is absent, failed or refused (R411). -/
def State.partnerAway (s : State) : Bool :=
  s.bn.hbLost || s.fld Fld.BN_STATUS_PARTNER_ROLE == 6 || s.fld Fld.BN_STATUS_PARTNER_ROLE == 7

/-- INTERRUPT is granted and applies now (R411). -/
def State.interruptOk (s : State) : Bool := s.boot.imgLoaded && s.img.interrupt && (!s.pair || s.partnerAway)

/-- UP_STATUS as it reads: HOLDUP_OK, TRANSITION and INTERRUPT follow their sources. -/
def State.upStatus (s : State) : Word :=
  let x := s.reg .UP_STATUS
  let x := putBit x 22 (s.flag Fld.RST_POWER_HOLDUP_OK)
  let x := putBit x 21 s.transition
  putBit x 20 s.interruptOk

/-- A slot report of carrier `i` within the last standard cycle (SX_CAR.SEEN). -/
def State.sxSeen (s : State) (i : Nat) : Bool :=
  match (s.sxC i).slotAt with
  | some f => decide ((s.mt.frc - f).toNat ≤ 1000000)
  | none => false

/-- What register `n`, instance `i`, reads. (DEDUCED, log entry 16) -/
def State.view (s : State) (n : RegName) (i : Nat) : Word :=
  match n with
  | .AC_CTL => putBits (s.reg n i) 2 1 (2 * b2n s.pw.contactOpen + b2n (s.flag Fld.AC_CTL_DEBUG_ON && s.pw.contactOpen))
  | .UP_TRIAL =>
    let x := s.reg n i
    if s.flag Fld.UP_STATUS_FW_TRIAL || s.flag Fld.UP_STATUS_CFG_TRIAL then putBits x 11 0 (sat 4095 s.trialRun) else x
  | .MT_FRC_LO => lo32 s.mt.frc
  | .MT_FRC_HI => hi32 s.mt.frc
  | .MT_PT_LO => lo32 s.pt
  | .MT_PT_HI => hi32 s.pt
  | .MT_BT_LO => lo32 s.bt
  | .MT_BT_HI => hi32 s.bt
  | .MT_TB_LO => lo32 (s.tbase i)
  | .MT_TB_HI => hi32 (s.tbase i)
  | .MT_TB_CFG => if s.baseStale i then putBits (s.reg n i) 2 0 0 else s.reg n i
  | .MT_ERR_EST => BitVec.ofNat 32 s.errEst
  | .MB_STAT => putBits (s.reg n i) 15 0 (s.mbWait i)
  | .RST_WDOG => putBits (s.reg n i) 15 0 s.wdogRemain
  | .RST_EV_SUM => BitVec.ofNat 32 s.evSum
  | .LE_LOAD => putBits (s.reg n i) 15 0 (sat 65535 (max (s.fld Fld.LE_LOAD_PEAK i) (s.peakOf i s.winsNow)))
  | .LA_LOOP => s.laLoop i
  | .LA_SLOT => s.laSlot i
  | .PN_SSTAT => s.pnSstat i
  | .UP_STATUS => s.upStatus
  | .GY_SET => putBit (s.reg n i) 29 (s.img.gySet.any fun k => k.k.val == i && k.master == s.base.binary && s.role == 1)
  | .SX_PORT => putBit (s.reg n i) 30 (s.flag Fld.SX_PORT_EN i && s.role == 1 && s.shows 6)
  | .SX_CAR => putBit (putBit (s.reg n i) 26 (s.sxSeen i)) 15 ((s.sxC i).slotAt.isSome && (s.sxC i).held == s.fld Fld.SX_EPOCH_EPOCH)
  | _ => s.reg n i

end Sys2Proof.Machine
end

