-- ==== Sys2Proof/Machine/Mailbox.lean ====
section
/-! DEFINITION. Mailboxes and the Full Summary (17 R384 to R395). -/

namespace Sys2Proof.Machine

/-! ## States (R386) -/

def State.mbState (s : State) (n : Nat) : Nat := s.fld Fld.MB_STAT_STATE n
def State.mbMsg (s : State) (n : Nat) : BitVec 2048 := Tab.get 0 s.mb.msgs n

/-- Mailbox `n` becomes PENDING anew: RINGS 1, no collision. -/
def State.mbPend (s : State) (n : Nat) : State :=
  let s := ((s.setFld Fld.MB_STAT_STATE 1 n).setFld Fld.MB_STAT_RINGS 1 n).setFlag Fld.MB_STAT_COLLISION false n
  let s := (s.setFlag Fld.MB_STAT_DELIVERED false n).setFld Fld.MB_STAT_WAIT 0 n
  { s with mb := { s.mb with since := Tab.set 0 s.mb.since n s.mt.frc } }

/-- Mailbox `n` becomes EMPTY: COLLISION, RINGS and WAIT cleared. -/
def State.mbEmpty (s : State) (n : Nat) : State :=
  (((s.setFld Fld.MB_STAT_STATE 0 n).setFld Fld.MB_STAT_RINGS 0 n).setFlag Fld.MB_STAT_COLLISION false n).setFld
    Fld.MB_STAT_WAIT 0 n

/-- A partner that the links reach, whose firmware runs and that is not isolated. -/
def State.partnerHeard (s : State) : Bool :=
  s.pair && s.bn.hbSeen && !s.bn.hbLost && s.bn.hbRole != 4 && (s.flag Fld.BN_STATUS_LINK0_UP || s.flag Fld.BN_STATUS_LINK1_UP)

/-- The message of mailbox 16 to 19 sent over a working link (R389). (DEDUCED, log entry 63) -/
def State.mbSend (s : State) (n : Nat) : State :=
  if 16 ≤ n ∧ n < 20 ∧ s.partnerHeard then
    (s.emit (.linkMailbox (n - 16) (bytesOf (s.mbMsg n) 256))).setFlag Fld.MB_STAT_DELIVERED true n
  else s

/-- RING by the sender (R386, R440): the receiver's source at each. -/
def State.mbDoRing (s : State) (n : Nat) : State :=
  let s := match s.mbState n with
    | 0 => s.mbPend n
    | 1 => (s.bump Fld.MB_STAT_RINGS n).setFlag Fld.MB_STAT_DELIVERED false n
    | _ => ((s.setReg .MB_ACK n 0).setFlag Fld.MB_STAT_ACK_LOST true n).mbPend n
  (s.ev (16 + n)).mbSend n

/-- CANCEL by the sender. -/
def State.mbDoCancel (s : State) (n : Nat) : State := if s.mbState n = 1 then s.mbEmpty n else s

/-- An acknowledge of mailbox `n` with a code and COLLIDED. -/
def State.mbDoAck (s : State) (n code : Nat) (collided : Bool) : State :=
  if s.mbState n = 1 then
    let s := s.setFld Fld.MB_STAT_WAIT (s.mbWait n) n
    let s := (s.setFld Fld.MB_STAT_STATE 2 n).setFlag Fld.MB_ACK_DONE true n
    ((s.setFlag Fld.MB_ACK_COLLIDED collided n).setFld Fld.MB_ACK_CODE code n).ev (16 + n)
  else s.setFlag Fld.MB_STAT_STRAY true n

/-- The sender's read of MB_ACK: an ACKED mailbox returns to EMPTY. -/
def State.mbDoAckRead (s : State) (n : Nat) : State :=
  if s.mbState n = 2 then
    ((s.setFlag Fld.MB_ACK_DONE false n).setFlag Fld.MB_ACK_COLLIDED false n).mbEmpty n
  else s

/-- MB_RING: a doorbell by the receiver is ignored. -/
def execMbRing (n : Fin 32) (p : Party) (s : State) : Res :=
  match p with
  | .sender => .next (s.mbDoRing n.val)
  | .receiver => .next s

/-- MB_CANCEL. -/
def execMbCancel (n : Fin 32) (p : Party) (s : State) : Res :=
  match p with
  | .sender => .next (s.mbDoCancel n.val)
  | .receiver => .next s

/-- MB_ACK_WRITE: COLLIDED takes COLLISION; over a link the acknowledge of mailboxes 20 to 23 returns to the sender. -/
def execMbAckWrite (n : Fin 32) (p : Party) (code : BitVec 16) (s : State) : Res :=
  match p with
  | .sender => .next s
  | .receiver =>
    let pend := s.mbState n.val == 1
    let coll := s.flag Fld.MB_STAT_COLLISION n.val
    let s := s.mbDoAck n.val code.toNat coll
    if pend && decide (20 ≤ n.val) && decide (n.val < 24) then
      .next (s.emit (.linkAck (n.val - 20) code.toNat coll))
    else .next s

/-- MB_ACK_READ: the sender's read collects an acknowledge; the receiver's changes nothing. -/
def execMbAckRead (n : Fin 32) (p : Party) (s : State) : Res :=
  let s := { s with lastRead := s.reg .MB_ACK n.val }
  match p with
  | .sender => .next (s.mbDoAckRead n.val)
  | .receiver => .next s

/-! ## Messages (R385, R387) -/

/-- Bytes written into a message. -/
def msgPut (m : BitVec 2048) (off : Nat) : List Byte → BitVec 2048
  | [] => m
  | b :: bs => msgPut (putBits m (8 * off + 7) (8 * off) b.toNat) (off + 1) bs

/-- Bytes written into the message of mailbox `n`; a PENDING one collides. -/
def State.mbWrite (s : State) (n off : Nat) (bs : List Byte) : State :=
  let s := { s with mb := { s.mb with msgs := Tab.set 0 s.mb.msgs n (msgPut (s.mbMsg n) off bs) } }
  if s.mbState n = 1 then s.setFlag Fld.MB_STAT_COLLISION true n else s

/-- MB_MESSAGE_WRITE: writes by the receiver are ignored (R395). -/
def execMbMessageWrite (n : Fin 32) (p : Party) (off : Nat) (bs : List Byte) (s : State) : Res :=
  match p with
  | .sender => .next (s.mbWrite n.val off bs)
  | .receiver => .next s

/-! ## Over the links (R389) -/

/-- MB_LINK_DELIVER: the partner's message arrives in mailbox 20 + k; before this module's firmware runs none is taken. -/
def execMbLinkDeliver (k : Fin 4) (m : List Byte) (s : State) : Res :=
  if s.pair && s.boot.fwRunning then .next ((s.mbWrite (20 + k.val) 0 m).mbDoRing (20 + k.val)) else .next s

/-- MB_LINK_ACK: the partner's acknowledge of mailbox 16 + k. -/
def execMbLinkAck (k : Fin 4) (code : BitVec 16) (collided : Bool) (s : State) : Res :=
  if s.pair then
    .next (s.mbDoAck (16 + k.val) code.toNat (collided || s.flag Fld.MB_STAT_COLLISION (16 + k.val)))
  else .next s

/-- Messages that wait for the partner sent (R389). -/
def State.mbRetry (s : State) : State :=
  (List.range 4).foldl (fun s k =>
    if s.mbState (16 + k) = 1 ∧ !s.flag Fld.MB_STAT_DELIVERED (16 + k) then s.mbSend (16 + k) else s) s

/-- The partner restarted: its messages go again. -/
def State.mbPartnerRestart (s : State) : State :=
  ((List.range 4).foldl (fun s k => s.setFlag Fld.MB_STAT_DELIVERED false (16 + k)) s).mbRetry

/-! ## Service mailboxes (R390) -/

/-- The words of mailbox `n` as a response body: MB_STAT, then MB_ACK, most significant byte first. -/
def State.mbBody (s : State) (n : Nat) : List Byte :=
  (bytesOf (s.view .MB_STAT n) 4).reverse ++ (bytesOf (s.reg .MB_ACK n) 4).reverse

/-- A type 0x0002 message on a service mailbox. -/
def State.svcMb (s : State) (h : SvcMsg) (n len : Nat) (f : State → State) (after : State → State) : State :=
  s.svc h 0x02 1 0 (some len) fun s =>
    if n < 24 ∨ 31 < n then s.answer h 0x02 7
    else
      let s := f s
      after (s.answer h 0x02 0 (s.mbBody n))

/-- SVC_MB_POST: the message written and the doorbell rung. -/
def execSvcMbPost (h : SvcMsg) (n : Nat) (m : List Byte) (s : State) : Res :=
  .next (s.svcMb h n 260 (fun s => (s.mbWrite n 0 (m.take 256)).mbDoRing n) fun s => s)

/-- SVC_MB_STATUS: a status of an ACKED mailbox counts as the sender's read. -/
def execSvcMbStatus (h : SvcMsg) (n : Nat) (s : State) : Res :=
  .next (s.svcMb h n 4 (fun s => s) fun s => s.mbDoAckRead n)

/-- SVC_MB_CANCEL. -/
def execSvcMbCancel (h : SvcMsg) (n : Nat) (s : State) : Res :=
  .next (s.svcMb h n 4 (fun s => s.mbDoCancel n) fun s => s)

/-! ## Full Summary (R392 to R394) -/

/-- Registers `n[first]` to `n[first + count − 1]` as they read. -/
def State.views (s : State) (n : RegName) (first count : Nat) : List Word :=
  (List.range count).map fun i => s.view n (first + i)

/-- A 64-bit value as two words, _LO first. -/
def words2 (v : W64) : List Word := [lo32 v, hi32 v]

/-- The 32-bit words of a record as stored. -/
def wordsOf {n : Nat} (w : BitVec n) (count : Nat) : List Word :=
  (List.range count).map fun i => BitVec.ofNat 32 (bits w (32 * i + 31) (32 * i))

/-- MAGIC to ROLE. -/
def State.sumHead (s : State) : List Word :=
  let id : Word := 0
  let id := putBits id 31 24 Config.issue
  let id := putBits id 23 8 s.base.binary
  let id := putBit (putBit id 7 s.posB) 6 s.pair
  let now := if s.mt.ptSet then s.pt else 0
  [Config.magicSummary, BitVec.ofNat 32 (4096 * 65536 + 256), BitVec.ofNat 32 s.mb.made, id] ++ words2 now ++ words2 now ++
  [s.reg .BN_STATUS, s.reg .BN_EPOCH, s.reg .BN_HEALTH 0, s.reg .BN_HEALTH 1, s.reg .BN_TAKEOVER, s.reg .BN_LOOP,
   s.reg .SUP_START, s.view .AC_CTL 0]

/-- ENGINES and SELECT. -/
def State.sumEngines (s : State) : List Word :=
  [s.reg .LE_CTL, s.reg .LA_STATUS, s.reg .LN_STATUS, s.reg .GY_STATUS, s.reg .BN_EQ, s.view .UP_STATUS 0,
   s.reg .PK_STATUS, 0] ++ wordsOf s.selCur 16

/-- One bank of BANKS: kind 0 configuration, 1 firmware. -/
def State.sumBank (s : State) (kind b : Nat) : List Word :=
  let h := s.bankHdr kind b
  let sel := bits s.selCur (72 + kind) (72 + kind)
  let w : Word := 0
  let w := putBit w 31 (bitAt s.boot.okBanks (2 * kind + b))
  let w := putBit w 30 (sel == b)
  let w := putBit w 29 (sel == b && bitAt s.selCur (74 + kind))
  [w, BitVec.ofNat 32 (bits h 127 96)] ++ words2 (BitVec.ofNat 64 (bits h 191 128)) ++ wordsOf (hdrHash h) 12

/-- TIME and FAULTS. -/
def State.sumFaults (s : State) : List Word :=
  [s.reg .MT_STATE, s.reg .MT_OFFSET, s.view .MT_ERR_EST 0, s.reg .MT_PT_SRC] ++ s.views .MT_TB_CFG 0 8 ++
  s.views .LK_PAIR 0 5 ++ s.views .LK_FAULT 0 5 ++ s.views .AC_FAULT 0 6 ++
  ((List.range 6).flatMap fun k => [s.reg .AC_FAULT_ADDR_LO k, s.reg .AC_FAULT_ADDR_HI k]) ++
  [s.reg .LE_FAULT] ++ s.views .SUP_ISLAND 0 18 ++ [0, 0]

/-- CHANNELS and PORTS. -/
def State.sumChannels (s : State) : List Word :=
  s.views .UC_SLICE 0 4 ++ s.views .DC_GROUP 0 6 ++ s.views .UC_STAT 0 32 ++ s.views .UC_DIAG 0 32 ++
  s.views .DC_STAT 0 48 ++ s.views .DC_DIAG 0 48 ++
  s.views .PN_PORT 1 2 ++ [s.reg .PN_SVC, s.reg .SX_EPOCH] ++ s.views .SX_PORT 0 8 ++ s.views .SX_LAP 0 8 ++
  s.views .CN_STAT 0 4 ++ s.views .SX_CAR 0 256

/-- SINTER: the oldest and the newest record present in the region, whether readable or cleared. -/
def State.sumSinter (s : State) : List Word :=
  let rs := s.validRecs
  let top := topSeq rs
  words2 (BitVec.ofNat 64 (lowSeq (rs.filter fun r => decide (top < recSeq r + Config.sinterSlots)) 0)) ++
  words2 (BitVec.ofNat 64 top)

/-- COUNTERS, MAILBOXES and SINTER. -/
def State.sumCounters (s : State) : List Word :=
  s.views .LN_OVERRUN 0 3 ++ [s.reg .LN_DISCARD] ++ s.views .LE_OVERRUN 0 3 ++ s.views .LE_LOAD 0 3 ++
  [s.reg .LE_FDELAY, s.reg .LA_COUNT, s.reg .GY_LOST] ++ s.views .SX_ERR 0 8 ++ s.views .PN_DROP 1 2 ++
  s.views .PN_PTP 1 2 ++ s.views .CN_ERR 0 4 ++ s.views .CN_PROT 0 4 ++ [s.reg .BN_VERIFY] ++ s.views .LK_COUNT 0 5 ++
  [s.reg .AC_ECC, s.reg .MT_OUTLIERS, s.reg .SN_LOST, s.reg .SN_SUPPRESSED] ++ s.views .MB_STAT 0 32 ++ s.sumSinter

/-- The summary's 1,023 words before its CRC. (DEDUCED, log entry 64) -/
def State.sumWords (s : State) : List Word :=
  let ws := s.sumHead ++ s.sumEngines ++ s.sumBank 0 0 ++ s.sumBank 0 1 ++ s.sumBank 1 0 ++ s.sumBank 1 1 ++
    s.sumFaults ++ s.sumChannels ++ s.sumCounters
  ws ++ List.replicate (1023 - ws.length) 0

/-- The bytes of words, most significant byte first. -/
def wireBytes (ws : List Word) : List Byte := ws.flatMap fun w => (bytesOf w 4).reverse

/-- A whole summary: CRC-32C over its bytes 0 to 4,091 as the service protocol sends them. -/
def State.summary (s : State) : List Word :=
  let ws := s.sumWords
  ws ++ [crc32c (wireBytes ws)]

/-- The supervisor produces a summary: the count since start-up moves on. -/
def State.sumMade (s : State) : State := { s with mb := { s.mb with made := (s.mb.made + 1) % 4294967296 } }

/-- SVC_FULL_SUMMARY: 4,096 bytes in the response. -/
def execSvcFullSummary (h : SvcMsg) (s : State) : Res :=
  .next (s.svc h 0x01 0 0 (some 0) fun s => (s.answer h 0x01 0 (wireBytes s.summary)).sumMade)

/-- FULL_SUMMARY_REQUEST: mailbox 0 PENDING with FUNCTION 0x0001 has the supervisor write the window and acknowledge; a
LENGTH other than 4 is answered as wrong, an unknown FUNCTION below 0x8000 as unknown (R385, R391). -/
def execFullSummaryRequest (s : State) : Res :=
  if s.mbState 0 ≠ 1 ∨ !s.boot.fwRunning then .next s
  else
    let fn := bits (s.mbMsg 0) 15 0
    let coll := s.flag Fld.MB_STAT_COLLISION 0
    if fn ≠ 1 then
      if fn < 32768 then .next (s.mbDoAck 0 2 coll) else .next s
    else if bits (s.mbMsg 0) 31 16 ≠ 4 then .next (s.mbDoAck 0 4 coll)
    else
      let s := { s with mb := { s.mb with window := s.summary } }.sumMade
      .next (s.mbDoAck 0 0 coll)

end Sys2Proof.Machine
end

