-- ==== Sys2Proof/Machine/Equalize.lean ====
section
/-! DEFINITION. Equalization (13 R310 to R317, R324, 19 R422): snapshots, verification, side records and fast records. -/

namespace Sys2Proof.Machine

/-! ## Selections and state maps (R422) -/

/-- The own configuration tag (R51). -/
def State.ownTag (s : State) : W64 := tagOf s.boot.payHash

/-- The tag of the partner's firmware: the own one's, but where it is known to run another. -/
def State.partnerFwTag (s : State) : W64 := s.bn.partnerFw.getD s.boot.fwTag

/-- The two modules run different selections (R26, R422): the partner's configuration tag, as its heartbeats carry it, or its
firmware's is another. -/
def State.otherImage (s : State) : Bool :=
  s.bn.hbSeen && (s.bn.hbTag != s.ownTag || s.partnerFwTag != s.boot.fwTag)

/-- The state map of the own image from the partner's selection: the own image is the newer one. -/
def State.mapOf (s : State) : Option StateMap :=
  if s.otherImage then s.img.maps.find? fun m => m.cfgTag == s.bn.hbTag && m.fwTag == s.partnerFwTag else none

def smOp (e : W64) : Nat := bits e 63 60
def smFrom (e : W64) : Nat := bits e 59 38
def smTo (e : W64) : Nat := bits e 37 16
def smCount (e : W64) : Nat := bits e 15 0

/-- The targets of word `w` under the entries of operation `op`; `rev` reads the map in reverse. -/
def mapWord (op : Nat) (rev : Bool) (es : List W64) (w : Nat) : List Nat :=
  es.filterMap fun e =>
    let src := if rev then smTo e else smFrom e
    let dst := if rev then smFrom e else smTo e
    if smOp e = op ∧ src ≤ w ∧ w < src + smCount e then some (dst + (w - src)) else none

/-- The loops named by OP 0x4 of a map. (DEDUCED, log entry 93) -/
def StateMap.changed (m : StateMap) : List Nat :=
  m.entries.flatMap fun e => if smOp e = 4 then (List.range (smCount e)).map fun i => smFrom e + i else []

/-! ## Blocks (R312, R313) -/

/-- The 32 words of tracked block `b`. -/
def State.blockWords (s : State) (b : Nat) : List W64 := (List.range 32).map fun i => s.twGet (32 * b + i)

def wordBytes (ws : List W64) : List Byte := ws.flatMap fun w => bytesOf w 8

/-- CRC-32C of tracked block `b` as it stands. -/
def State.blockCrc (s : State) (b : Nat) : Word := crc32c (wordBytes (s.blockWords b))

/-- Block `b` is verified: fast blocks and input blocks are not (R312). -/
def State.verified (s : State) (b : Nat) : Bool := decide (b < 32768) && !s.img.fastBlocks.contains b

/-- A block record header (R313). -/
def blockHdr (crc mask : Word) (snap b : Nat) : BitVec 128 :=
  let h : BitVec 128 := 0
  let h := putBits h 127 96 crc.toNat
  let h := putBits h 95 64 mask.toNat
  let h := putBits h 47 32 snap
  putBits h 14 0 b

def hdrCrc (h : BitVec 128) : Word := BitVec.ofNat 32 (bits h 127 96)
def hdrMask (h : BitVec 128) : Word := BitVec.ofNat 32 (bits h 95 64)
def hdrSnap (h : BitVec 128) : Nat := bits h 47 32
def hdrBlock (h : BitVec 128) : Nat := bits h 14 0

/-- The words of a mask, in ascending order. -/
def maskWords (m : Word) : List Nat := (List.range 32).filter fun i => bitAt m i

/-- The block record of block `b` with mask `m`. -/
def State.blockRec (s : State) (snap b : Nat) (m : Word) : BlockRec :=
  { hdr := blockHdr (s.blockCrc b) m snap b, words := (maskWords m).map fun i => s.twGet (32 * b + i) }

/-- The dirty tracked blocks with their masks: all of them for a partner that is not a standby yet, which may be joining (R300). -/
def State.dirtyBlocks (s : State) : List (Nat × Word) :=
  if s.bn.allDirty || s.bn.hbRole == 0 then
    ((List.range 32768).filter fun b => s.verified b).map fun b => (b, BitVec.ofNat 32 4294967295)
  else s.bn.dirty.filter fun d => s.verified d.1

/-- A word put into the blocks of a mapped snapshot. -/
def mappedPut (t : Tab (Tab W64)) (w : Nat) (v : W64) : Tab (Tab W64) :=
  Tab.insert t (w / 32) (Tab.insert (Tab.get [] t (w / 32)) (w % 32) v)

/-- The dirty words of a snapshot in the layout of an older receiver (R422): blocks and their words. -/
def State.mappedBlocks (s : State) (m : StateMap) : Tab (Tab W64) :=
  s.dirtyBlocks.foldl (fun t d =>
    (maskWords d.2).foldl (fun t i =>
      (mapWord 1 true m.entries (32 * d.1 + i)).foldl (fun t x => mappedPut t x (s.twGet (32 * d.1 + i))) t) t) []

/-- The block records of a snapshot (R313), mapped where the own image is the newer one (R422). -/
def State.snapRecs (s : State) (snap : Nat) : List BlockRec :=
  match s.mapOf with
  | none => s.dirtyBlocks.map fun d => s.blockRec snap d.1 d.2
  | some m =>
    (s.mappedBlocks m).map fun (x : Nat × Tab W64) =>
      let mask := x.2.foldl (fun (a : Word) (y : Nat × W64) => putBit a y.1 true) 0
      { hdr := blockHdr (Config.mappedCrc x.1 s.free) mask snap x.1, words := x.2.map Prod.snd }

def recBytes (r : BlockRec) : Nat := 16 + 8 * r.words.length

/-- What a snapshot holds beside tracked words (R165, R320, R321), as of now. -/
def State.snapItems (s : State) : SnapItems :=
  { seqs := s.ln.pubs.filterMap fun (p : Nat × Pub) => if p.2.started then some (p.1, p.2.seq) else none
    manuals := s.le.runs.map fun (r : Nat × LoopRun) => (r.1, r.2.manual)
    adapt := s.la.recs.map fun (r : Nat × AdaptRec) =>
      (r.1, { fIdent := r.2.fIdent, fInstall := r.2.fInstall, fSurge := r.2.fSurge, phase := r.2.phase, ret := r.2.ret
              probEnd := r.2.probEnd, lockEnd := r.2.lockEnd, probIae := r.2.probIae, refIae := r.2.refIae
              lastEnd := r.2.lastEnd, cand := r.2.cand, prevPar := r.2.prevPar, model := r.2.model
              setPrev := r.2.setPrev, set := r.2.set })
    surge := (List.range 32).map fun g => (g, s.reg .LA_SURGE g) }

/-! ## Sending (R313 to R315) -/

/-- Bytes that a standard cycle carries on each link that is up (R314). -/
def State.eqBudget (s : State) : Nat × Nat :=
  (if s.flag Fld.BN_STATUS_LINK0_UP then 500000 else 0, if s.flag Fld.BN_STATUS_LINK1_UP then 500000 else 0)

/-- The link that carries `n` bytes more, the one with more room, and what then remains on each. -/
def takeRoom (left : Nat × Nat) (n : Nat) : Option (Nat × Nat × Nat) :=
  if left.2 ≤ left.1 then (if n ≤ left.1 then some (0, left.1 - n, left.2) else none)
  else if n ≤ left.2 then some (1, left.1, left.2 - n) else none

/-- A link is up. -/
def State.anyLink (s : State) : Bool := s.flag Fld.BN_STATUS_LINK0_UP || s.flag Fld.BN_STATUS_LINK1_UP

/-- What a cycle's sending leaves: the state, the room on each link, the records that remain, the bytes sent of the snapshot and
the CRC over them. -/
structure Sent where
  s    : State
  room : Nat × Nat
  left : List BlockRec
  sent : Nat
  crc  : Nat

/-- Records sent within `room` on each link. -/
def State.sendRecs (s : State) : Nat × Nat → List BlockRec → Nat → Nat → Sent
  | room, [], sent, crc => ⟨s, room, [], sent, crc⟩
  | room, r :: rs, sent, crc =>
    match takeRoom room (recBytes r) with
    | some (k, room') =>
      (s.emit (.blockRecord k r.hdr r.words)).sendRecs room' rs (sent + recBytes r)
        ((bytesOf r.hdr 16 ++ wordBytes r.words).foldl crcByte crc)
    | none => ⟨s, room, r :: rs, sent, crc⟩

/-- The size of an END record within the budget of R314: snapshot number, b, byte count and CRC, and what goes with it.
(DESIGN CHOICE, log entry 123) -/
def endBytes (x : SnapItems) : Nat :=
  20 + 8 * x.seqs.length + 8 * x.manuals.length + 80 * x.adapt.length + 4 * x.surge.length

/-- One standard cycle of a transfer: records, then END when nothing remains and the budget holds it. -/
def State.sendXfer (s : State) (x : Xfer) : State :=
  let r := s.sendRecs s.eqBudget x.left x.bytes x.crc
  let s := r.s
  match r.left, takeRoom r.room (endBytes x.items) with
  | [], some (k, _) =>
    let s := s.emit (.snapEnd k x.num x.b r.sent (BitVec.ofNat 32 (r.crc ^^^ 0xFFFFFFFF)) x.items)
    let s := { s with bn := { s.bn with xfer := none, old2 := [] } }
    s.setFld Fld.BN_EQ_LAST_SIZE (sat 65535 (r.sent / 1024))
  | _, _ => { s with bn := { s.bn with xfer := some { x with left := r.left, bytes := r.sent, crc := r.crc } } }

/-- The dirty words frozen as of boundary `b`, what becomes visible at `b` itself among them, and the first cycle sent (R313).
(DESIGN CHOICE, log entry 122) -/
def State.freeze (s : State) (b : Instant) : State :=
  let s := (s.serve 3 (b.toNat / 1000000)).upTo (b + (s.pt - s.bt))
  let num := (s.bn.snapNum + 1) % 65536
  let x : Xfer := { num := num, b := b, left := s.snapRecs num, items := s.snapItems }
  let s := if s.mapOf.isSome then s.draw else s
  let s := { s with bn := { s.bn with
    snapNum := num, frozen := some b, dirty := [], allDirty := false, old2 := s.bn.old, old := [] } }
  s.sendXfer x

/-- The active's samples of its own inputs at the S instants of the cycle, and its counts, each sent once (R194, R203, R311). -/
def State.sendSamples (s : State) : State :=
  let uni := (List.finRange 32).filterMap fun n =>
    if s.ucServes n.val && !(s.uc n.val).hist.isEmpty then some (n, (s.uc n.val).hist) else none
  let dig := (List.finRange 48).filterMap fun m =>
    if s.dcServes m.val && !(s.dc m.val).hist.isEmpty then some (m, (s.dc m.val).hist) else none
  let s := s.emit (.sideRecord (.samples uni dig))
  let s := uni.foldl (fun s x => s.setUc x.1.val { s.uc x.1.val with hist := [] }) s
  dig.foldl (fun s x => s.setDc x.1.val { s.dc x.1.val with hist := [] }) s

/-- The partner takes equalization: a link is up, and it is joining or a standby (R303). -/
def State.partnerTakes (s : State) : Bool :=
  s.pair && s.anyLink && s.bn.hbSeen && (s.bn.hbRole == 0 || s.bn.hbRole == 2 || s.bn.hbRole == 3)

/-- A hand-over comes at this boundary: it freezes the snapshot itself (R322). -/
def State.hoNow (s : State) : Bool :=
  match s.bn.ho with
  | some x => s.role == 1 && s.ln.stopAt.isSome && x.h == floorTo s.bt 1000000
  | none => false

/-- SNAPSHOT_FREEZE: once at a standard boundary the samples of the cycle leave (R311), a transfer goes on, or a new snapshot is
frozen (R313, R315); a former active still sends what it froze at a hand-over (R322). -/
def execSnapshotFreeze (s : State) : Res :=
  let k := s.bt.toNat / 1000000
  if s.served 3 k || s.hoNow then .next s
  else
    let s := s.serve 3 k
    let s := if s.role = 1 ∧ s.partnerTakes then s.sendSamples else s
    match s.bn.xfer with
    | some x =>
      if !s.anyLink then .next s
      else
        let s := if x.spans then s else s.bump Fld.BN_EQ_STRETCHED
        .next (s.sendXfer { x with spans := true })
    | none =>
      if s.role = 1 ∧ s.partnerTakes then .next (s.freeze (floorTo s.bt 1000000)) else .next s

/-- The value of tracked word `w` in the latest committed snapshot (R316). -/
def State.committedWord (s : State) (w : Nat) : W64 :=
  let last := (Tab.get none s.bn.old w).getD (s.twGet w)
  if s.bn.xfer.isSome then (Tab.get none s.bn.old2 w).getD last else last

/-- The CRC-32C of block `b` as of the latest committed snapshot (R316). -/
def State.committedCrc (s : State) (b : Nat) : Word :=
  crc32c (wordBytes ((List.range 32).map fun j => s.committedWord (32 * b + j)))

/-- VERIFY_CRC_SEND: the CRCs of the next 1,024 tracked blocks as of the latest committed snapshot (R316). -/
def execVerifyCrcSend (s : State) : Res :=
  let k := s.bt.toNat / 1000000
  if s.role = 1 ∧ s.partnerTakes ∧ !s.served 4 k then
    let s := s.serve 4 k
    let first := s.bn.rota
    let crcs := (List.range 1024).map fun i => s.committedCrc (first + i)
    .next ({ s with bn := { s.bn with rota := (first + 1024) % 32768 } }.emit (.verifyCrcs first crcs))
  else .next s

/-! ## Receiving (R313, R315, R317) -/

/-- The module takes equalization: a joining or standby module, or one that has claimed at H and waits for the snapshot
of H (R322). -/
def State.takesEq (s : State) : Bool :=
  s.pair && (s.role == 2 || s.role == 3 || (s.role == 0 && s.bn.joining) ||
    (s.role == 1 && s.bn.taking && s.fld Fld.BN_TAKEOVER_KIND == 4))

/-- BLOCK_RECORD_RECEIVED: into the journal. -/
def execBlockRecordReceived (hdr : BitVec 128) (words : List W64) (s : State) : Res :=
  if s.takesEq then
    .next { s with bn := { s.bn with journal := s.bn.journal ++ [{ hdr := hdr, words := words }] } }
  else .next s

/-- A difference found in block `b` (R317): latent where nobody reads it; a fourth divergence within 10 s fails the
standby. -/
def State.differs (s : State) (b : Nat) : State :=
  let s := s.setFld Fld.BN_VERIFY_BLOCK b
  if s.img.readMap.contains b then
    let d := s.bt :: s.bn.divAt.filter fun t => decide ((s.bt - t).toNat ≤ 10000000000)
    let s := { s with bn := { s.bn with divAt := d } }
    let s := ((s.bump Fld.BN_VERIFY_DIVERGE).bnNote 0xB008 [b]).ev 84
    if 4 ≤ d.length then s.declareFailed else s
  else
    let s := { s with bn := { s.bn with latAt := some s.bt } }
    ((s.bump Fld.BN_VERIFY_LATENT).bnNote 0xB007 [b]).ev 84

/-- The words of a block record put into place, in the own layout (R422). -/
def State.applyWords (s : State) (b : Nat) : List Nat → List W64 → State
  | i :: is, w :: ws =>
    let at_ := match s.mapOf with
      | some m => mapWord 1 false m.entries (32 * b + i)
      | none => [32 * b + i]
    (at_.foldl (fun s x => if x < 1048576 then s.twPut x w else s) s).applyWords b is ws
  | _, _ => s

/-- One block record applied and its block checked; between different selections the check is suspended. -/
def State.applyRec (s : State) (r : BlockRec) : State :=
  let b := hdrBlock r.hdr
  let s := s.applyWords b (maskWords (hdrMask r.hdr)) r.words
  if !s.otherImage && s.verified b && s.blockCrc b != hdrCrc r.hdr then s.differs b else s

/-- The layer's equalized state of a loop taken; forbids that change are to be kept here too (R165, R167). -/
def State.takeAdapt (s : State) (l : Nat) (x : AdaptItem) : State :=
  let r := s.adaptRec l
  let s := if r.fIdent == x.fIdent && r.fInstall == x.fInstall && r.fSurge == x.fSurge then s else s.toKeep l
  s.setAdapt l { r with
    fIdent := x.fIdent, fInstall := x.fInstall, fSurge := x.fSurge, phase := x.phase, ret := x.ret, probEnd := x.probEnd
    lockEnd := x.lockEnd, probIae := x.probIae, refIae := x.refIae, lastEnd := x.lastEnd, cand := x.cand
    prevPar := x.prevPar, model := x.model, setPrev := x.setPrev, set := x.set }

/-- What a snapshot holds beside tracked words, taken; reserved bits of a surge group's register are ignored (R6). -/
def State.takeItems (s : State) (b : Instant) (x : SnapItems) : State :=
  let base := b + (s.pt - s.bt)
  let s := x.seqs.foldl (fun s p =>
    { s with ln := { s.ln with pubs := Tab.set {} s.ln.pubs p.1 { seq := p.2, started := true, base := base } } }) s
  let s := x.manuals.foldl (fun s m => s.setRun m.1 { s.run m.1 with manual := m.2 }) s
  let s := x.adapt.foldl (fun s a => s.takeAdapt a.1 a.2) s
  (x.surge.foldl (fun s g => if g.1 < 32 then s.setReg .LA_SURGE g.1 (g.2 &&& 0xFC00FFFF#32) else s) s).showSurge

/-- Standard boundaries passed since the instant of the committed snapshot. -/
def State.passed (s : State) : Nat :=
  match s.bn.committed with
  | some b => s.bt.toNat / 1000000 - b.toNat / 1000000
  | none => 0

/-- LAG shown (R315): in a standby that is not lagging it is 0. -/
def State.showLag (s : State) : State :=
  let l := if s.role = 3 then s.passed - 1 else 0
  { s with bn := { s.bn with lag := l } }.setFld Fld.BN_STATUS_LAG (sat 15 l)

/-- A snapshot whose END and CRC are right becomes the committed state (R313); a lagging standby that commits before the
boundary that follows the snapshot's instant is a standby again (R302). -/
def State.commitSnap (s : State) (num : Nat) (b : Instant) (items : SnapItems) : State :=
  let rs := s.bn.journal.filter fun r => hdrSnap r.hdr == num % 65536
  let s := { s with bn := { s.bn with journal := [] } }
  let s := rs.foldl State.applyRec s
  if s.bn.failed then s
  else
    let s := { s with bn := { s.bn with committed := some b } }.takeItems b items
    if s.role = 3 ∧ s.passed = 0 then
      (s.setRole 2).showLag
    else s.showLag

/-- The snapshot of the hand-over instant is committed (R322). -/
def State.snapH (s : State) : Bool :=
  match s.bn.committed with
  | some b => !Instant.before b s.bn.hoAt
  | none => false

/-- The records of a snapshot as its END counts them: bytes, and the CRC-32C over all of them (R313). -/
def snapSum (rs : List BlockRec) : Nat × Word :=
  (rs.foldl (fun n r => n + recBytes r) 0, crc32c (rs.flatMap fun r => bytesOf r.hdr 16 ++ wordBytes r.words))

/-- SNAPSHOT_COMMIT: the END record; where its byte count or CRC does not fit the records received, nothing is committed. At a
hand-over the commit of the snapshot at H is the resume instant (R322). -/
def execSnapshotCommit (snap : Nat) (b : Instant) (bytes : Nat) (crc : Word) (items : SnapItems) (s : State) : Res :=
  if !s.takesEq then .next s
  else if snapSum (s.bn.journal.filter fun r => hdrSnap r.hdr == snap % 65536) != (bytes, crc) then
    .next { s with bn := { s.bn with journal := [] } }
  else
    let s := s.commitSnap snap b items
    if s.bn.taking && s.fld Fld.BN_TAKEOVER_KIND == 4 && s.snapH then
      .next { s with bn := { s.bn with taking := false }, ln := { s.ln with resume := some s.pt } }
    else .next s

/-- Verified blocks from `b` on against received CRCs: the state, and whether none differed. -/
def State.verifyBlocks (s : State) (b : Nat) : List Word → State × Bool
  | [] => (s, true)
  | c :: cs =>
    if s.verified b && s.blockCrc b != c then
      let r := (s.differs b).verifyBlocks (b + 1) cs
      (r.1, false)
    else s.verifyBlocks (b + 1) cs

/-- A block that the standby holds otherwise, in the active (R317): whole into the next snapshot, and a divergence recorded
here too. (DESIGN CHOICE, log entry 116) -/
def State.recopy (s : State) (b : Nat) : State :=
  let s := { s with bn := { s.bn with dirty := Tab.set 0 s.bn.dirty b 0xFFFFFFFF } }
  if s.img.readMap.contains b then s.bnNote 0xB008 [b] else s

/-- The CRCs of blocks from `b` on that the standby found, against those of the latest committed snapshot. -/
def State.reported (s : State) (b : Nat) : List Word → State
  | [] => s
  | c :: cs => (if s.verified b && s.committedCrc b != c then s.recopy b else s).reported (b + 1) cs

/-- VERIFY_CRC_RECEIVED: the standby compares its blocks with the active's (R316, R317), and a clean run counts toward the
sweep of R300; in the active the CRCs are those that the standby found. -/
def execVerifyCrcReceived (first : Nat) (crcs : List Word) (s : State) : Res :=
  if s.takesEq && s.bn.committed.isSome && !s.otherImage then
    let r := s.verifyBlocks first crcs
    let s := r.1
    .next { s with bn := { s.bn with sweep := if r.2 then s.bn.sweep + crcs.length else 0 } }
  else if s.role = 1 ∧ s.partnerTakes ∧ !s.otherImage then .next (s.reported first crcs)
  else .next s

/-! ## Side records (R194, R195, R203, R216, R311) -/

/-- A committed value becomes a shadow command; where a digital output's changes, the active's stage has switched (R212, R216). -/
def State.takeShadow (s : State) (c : Chan) (v : Word) : State :=
  match c with
  | .uni n => s.setUc n.val { s.uc n.val with shadow := some v }
  | .dig m =>
    let c := s.dc m.val
    let on := v != 0
    let now := some s.mt.frc
    if c.shadow == some on || s.shows (12 + m.val / 8) then s.setDc m.val { c with shadow := some on }
    else if on then s.setDc m.val { c with shadow := some on, onAt := now }
    else s.setDc m.val { c with shadow := some on, offAt := now }

/-- Two samples of universal channel `n` differ by more than R194 allows: 0.5 K where it measures a temperature, else
0.1 % of span. -/
def State.ucDiffer (s : State) (n : Nat) (a b : F32) : Bool :=
  let c := s.ucCfg n
  let d := (Fl.sub (Fl.ofBits a) (Fl.ofBits b)).abs
  let mode := s.ucMode n
  if mode = 5 ∨ (mode = 4 ∧ s.fld Fld.UC_CFG_RANGE n ≤ 2) then Fl.lt (.fin false 1 (-1)) d
  else
    let lim := Fl.div (s.ucWidth n) (Fl.ofNat 1000)
    if mode = 4 then Fl.lt lim d
    else
      Fl.lt (Fl.mul lim (Fl.sub (ucEng c).2 (ucEng c).1).abs) (Fl.mul d (Fl.sub (ucEl c).2 (ucEl c).1).abs)

/-- The active's samples of universal channel `n`, each against the own of the same S: CROSS after 100 consecutive cycles that
differ (R194). -/
def State.crossUc (s : State) (n : Nat) (xs : List (Instant × F32)) : State :=
  if s.ucServes n && s.ucApplies n 13 then
    let c := s.uc n
    let pairs := xs.filterMap fun x => (c.hist.lookup x.1).map fun own => (own, x.2)
    if pairs.isEmpty then s
    else if pairs.any fun p => s.ucDiffer n p.1 p.2 then
      let s := s.setUc n { c with cross := satAdd 100 c.cross 1 }
      if 100 ≤ c.cross + 1 then s.ucRaise n 13 else s
    else (s.setUc n { c with cross := 0 }).setLiveUc n 13 false
  else s

/-- The active's count at the newest S that the standby sampled too, and the edges accepted here since (R203). -/
def State.countDc (s : State) (m : Nat) (xs : List (Instant × Word × Bool)) : State :=
  let c := s.dc m
  if s.dcMode m ≠ 2 then s
  else
    match xs.findSome? (fun x => (c.hist.lookup x.1).map fun own => x.2.1 - own.1) with
    | some d => s.setDc m { c with count := c.count + d, hist := c.hist.map fun x => (x.1, x.2.1 + d, x.2.2) }
    | none => s

/-- The active's counts and states of digital channel `m`: CROSS after 100 consecutive cycles whose states differ (R213). -/
def State.crossDc (s : State) (m : Nat) (xs : List (Instant × Word × Bool)) : State :=
  let s := s.countDc m xs
  if s.dcServes m && s.dcApplies m 10 then
    let c := s.dc m
    let pairs := xs.filterMap fun x => (c.hist.lookup x.1).map fun own => (own.2, x.2.2)
    if pairs.isEmpty then s
    else if pairs.any fun p => p.1 != p.2 then
      let s := s.setDc m { c with cross := satAdd 100 c.cross 1 }
      if 100 ≤ c.cross + 1 then s.dcRaise m 10 else s
    else (s.setDc m { c with cross := 0 }).setLiveDc m 10 false
  else s

/-- SIDE_RECORD_RECEIVED. -/
def execSideRecordReceived (r : SideRecord) (s : State) : Res :=
  if !s.takesEq || s.role == 1 then .next s
  else
    match r with
    | .commits vals => .next (vals.foldl (fun s v => s.takeShadow v.1 v.2) s)
    | .samples uni dig =>
      if s.otherImage then .next (dig.foldl (fun s d => s.countDc d.1.val d.2) s)
      else
        let s := uni.foldl (fun s u => s.crossUc u.1.val u.2) s
        .next (dig.foldl (fun s d => s.crossDc d.1.val d.2) s)

/-! ## Fast records (R311) -/

/-- The shadow command of an immediate output follows the record that the active committed (R195, R216). -/
def State.shadowRec (s : State) (p : Nat) (r : W64) : State :=
  match s.chanOf p with
  | some (.uni n) => if recKind r = 1 ∧ !recBit r qNoAuth then s.takeShadow (.uni n) (recVal r) else s
  | some (.dig m) => match dcAsks r with
    | some b => s.takeShadow (.dig m) (BitVec.ofNat 32 (b2n b))
    | none => s
  | none => s

/-- S1 and S2 put into sections. -/
def putStates : List Sec → List (F32 × F32) → List Sec
  | c :: cs, x :: xs => { c with s1 := x.1, s2 := x.2 } :: putStates cs xs
  | cs, _ => cs

/-- Loop `l` takes a fast record: state block, section states and output record, in place and unmarked. -/
def State.takeFastRec (s : State) (l : Nat) (state : BitVec 256) (secs : List (F32 × F32)) (rec : W64) : State :=
  match s.loopAt l with
  | none => s
  | some b =>
    let d := s.descAt b
    let bs := (putStates (s.secsAt (b + 3) (ldNsec d)) secs).map Sec.toBlock
    let put := fun (s : State) (x : BitVec 256 × Nat) => { s with blk := Tab.set 0 s.blk (b + x.2) x.1 }
    let s := ((state :: bs).zip ((List.range (1 + ldNsec d)).map fun i => i + 2)).foldl put s
    let s := s.twPut (ldOut d % 262144) rec
    if ldImmediate d then s.shadowRec (ldOut d % 262144) rec else s

/-- The bound of R311 from a fast cycle's S: 30 µs with both links, 42 µs with one. -/
def State.fastBound (s : State) : Nat :=
  if s.flag Fld.BN_STATUS_LINK0_UP && s.flag Fld.BN_STATUS_LINK1_UP then 30000 else 42000

/-- The fast cycle of loop `l` that runs now, and the time since its S, which the loop's group has at S_OFF. -/
def State.fastCycle (s : State) (l : Nat) : Nat × Nat :=
  let off := match s.loopAt l with
    | some b => match s.group (ldGroup (s.descAt b)) with
      | some d => grpS d
      | none => 0
    | none => 0
  let t := (s.pt - BitVec.ofNat 64 off).toNat
  (t / 50000, t % 50000)

/-- Fast cycle `k` counted, once. -/
def State.fastMissed (s : State) (k : Nat) : State :=
  if s.bn.fastBad.contains k then s
  else { s.bump Fld.BN_EQ_FAST_LATE with bn := { s.bn with fastBad := k :: s.bn.fastBad } }

/-- A fast record of loop `l` came: within the bound, or its cycle counts. -/
def State.fastCame (s : State) (l : Nat) : State :=
  let c := s.fastCycle l
  if c.2 ≤ s.fastBound then { s with bn := { s.bn with fastGot := (c.1, l) :: s.bn.fastGot } } else s.fastMissed c.1

/-- The fast loops of the image. -/
def State.fastLoops (s : State) : List Nat := (s.img.loopDir.filter fun x => ldClass (s.descAt x.2) == 0).map Prod.fst

/-- The fast cycles that are over judged: one that brought no record of some fast loop in time counts (R311). -/
def State.judgeFast (s : State) : State :=
  let now := s.pt.toNat / 50000 - 2
  let ks := match s.bn.fastNext with
    | some k => (List.range (min 64 (now - k))).map fun i => k + i
    | none => []
  let got := s.bn.fastGot
  let ls := s.fastLoops
  let s := ks.foldl (fun s k => if ls.all fun l => got.contains (k, l) then s else s.fastMissed k) s
  { s with bn := { s.bn with
    fastNext := some now, fastGot := got.filter fun x => decide (now ≤ x.1), fastBad := s.bn.fastBad.filter fun k => decide (now ≤ k) } }

/-- FAST_RECORD_RECEIVED: a record that fails its CRC is discarded and counted; loops are renumbered by OP 0x2 between
different selections. -/
def execFastRecordReceived (l : Nat) (state : BitVec 256) (secs : List (F32 × F32)) (rec : W64) (crc : Word) (s : State) : Res :=
  if !s.takesEq then .next s
  else if fastCrc state secs rec != crc then .next (s.fastMissed (s.fastCycle l).1)
  else
    let ls := match s.mapOf with
      | some m => mapWord 2 false m.entries l
      | none => [l]
    .next (ls.foldl (fun s l => (s.takeFastRec l state secs rec).fastCame l) s)

/-- STANDBY_BOUNDARY: a boundary that passes with a snapshot uncommitted makes the standby lag (R302, R315). -/
def execStandbyBoundary (s : State) : Res :=
  let s := if s.role = 2 ∨ s.role = 3 then s.judgeFast else s
  if s.role = 2 ∧ 2 ≤ s.passed then
    .next ((((s.setRole 3).bnNote 0xB003).ev 83).showLag)
  else if s.role = 2 ∨ s.role = 3 then .next s.showLag
  else .next s

end Sys2Proof.Machine
end

