-- ==== Sys2Proof/Machine/Binary.lean ====
section
/-! DEFINITION. Binary redundancy (13 R294 to R309, R318 to R326): the authority loop, heartbeats, the arbiter, health
words, hand-overs and the orders of BN_CMD. -/

namespace Sys2Proof.Machine

/-! ## Claiming (R305, R306, R322) -/

/-- µs from the former active's last heartbeat to now. -/
def State.detectUs (s : State) : Nat := (s.bt - s.bn.hbBt).toNat / 1000

/-- Arbiter mode in force (R306, R307). -/
def State.arbiter (s : State) : Bool := s.flag Fld.BN_STATUS_MODE && !s.flag Fld.BN_STATUS_ARB_FAIL

/-- The kind of takeover whose condition holds: hand-over at H; in arbiter mode GRANT; else a lost heartbeat or a last one
that carried RELEASE. -/
def State.claimKind (s : State) : Option Nat :=
  if s.bn.hoClaim then some 4
  else if s.arbiter then
    (if s.flag Fld.BN_STATUS_GRANT then some (if s.bn.hbRelease then 3 else 2) else none)
  else if s.bn.hbRelease then some 3
  else if s.bn.hbLost then some 1
  else none

/-- A READY standby, lagging or not, claims where the loop is unclaimed and a takeover condition holds. At a hand-over
nothing but the fast groups resumes before the commit of the snapshot at H (R322). -/
def State.claimIfDue (s : State) : State :=
  if (s.role == 2 || s.role == 3) && s.flag Fld.BN_STATUS_READY && s.unclaimed && !s.bn.claimOut then
    match s.claimKind with
    | some k =>
      let s := s.claim k s.detectUs
      if k = 4 then
        (if s.snapH then { s with bn := { s.bn with taking := false }, ln := { s.ln with resume := some s.pt } }
         else { s with ln := { s.ln with resume := some (s.pt.plus 4611686018427387904) } })
      else s
    | none => s
  else s

/-! ## The loop (R294 to R297) -/

/-- What one unit shows changed: the unit's own stages, transmission and frames follow it. -/
def State.unitFollows (s : State) (isl : Nat) (was now : Bool) : State :=
  if was = now then s
  else if isl = 7 then s.canAuthority now
  else if 8 ≤ isl then s.sliceAuthority (isl - 8) now
  else s

/-- A loop whose ACTIVE_SET, after a rollback, is not the layer's own record: logged, and taken as the truth (R165). -/
def State.setDiffers (s : State) (r : Nat × AdaptRec) : State :=
  match r.2.set with
  | some n =>
    let on := s.activeSet r.1
    if on = n then s
    else
      (s.adaptNote Config.setDiffersCode.toNat r.1 { setTo := on, setFrom := n }).setAdapt r.1
        { s.adaptRec r.1 with set := some on }
  | none => s

/-- Authority taken; a takeover that rolls back (R23) finds each loop's ACTIVE_SET as its memory has it (R165). -/
def State.takeAuthority (s : State) : State :=
  let back := decide (1 ≤ s.bn.claiming) && decide (s.bn.claiming ≤ 3) && decide (1 ≤ s.bn.lag)
  let s := s.becomeActive
  if back then s.la.recs.foldl State.setDiffers s else s

/-- The binary-link island's indication shown in BN_LOOP and BN_STATUS; a module that claims is active once it shows its
own position (R300). (DEDUCED, log entry 79) -/
def State.bnFollows (s : State) (ind : Indication) : State :=
  let s := (s.setFlag Fld.BN_LOOP_AUTH_A (ind == .a)).setFlag Fld.BN_LOOP_AUTH_B (ind == .b)
  let own := ind == (if s.posB then Indication.b else Indication.a)
  let s := if s.auth = own then s else (s.setFlag Fld.BN_STATUS_AUTH own).ev 81
  if own && s.bn.claimOut && s.bn.claiming != 0 && s.role != 1 && !s.bn.failed then s.takeAuthority else s

/-- LOOP_INDICATION_CHANGE: each unit evaluates authority for itself, from the two claims that the base carries to all of them
(R295). -/
def execLoopIndicationChange (i : Fin 18) (ind : Indication) (s : State) : Res :=
  if ind != s.loopShows then .next s
  else
  let was := s.shows i.val
  let s := { s with bn := { s.bn with inds := Tab.set Indication.unclaimed s.bn.inds i.val ind } }
  if i.val = 5 then .next (s.bnFollows ind)
  else .next (s.unitFollows i.val was (s.shows i.val))

/-- Position B withdraws a claim it has just asserted (R296): a claim at start-up loses and joins. -/
def State.withdraw (s : State) : State :=
  let kind := s.bn.claiming
  let s := s.driveClaim false
  let s := { s with bn := { s.bn with claiming := 0, taking := false } }
  if kind = 5 then s.joinAgain else s

/-- PARTNER_CLAIM_CHANGE. -/
def execPartnerClaimChange (present : Bool) (s : State) : Res :=
  if !s.pair then .next s
  else
    let s := if s.posB then s.setFlag Fld.BN_LOOP_CLAIM_A present else s.setFlag Fld.BN_LOOP_CLAIM_B present
    if present then
      .next (if s.posB && s.bn.claimOut && s.role != 1 then s.withdraw else s)
    else .next s.claimIfDue

/-- PARTNER_READY_CHANGE: a READY standby ends a claim that Caldera holds (R62). -/
def execPartnerReadyChange (present : Bool) (s : State) : Res :=
  if !s.pair then .next s
  else
    let s := (s.setFlag Fld.BN_STATUS_PARTNER_READY present).setFlag Fld.BN_LOOP_READY_P present
    if present && s.pw.calderaClaim then
      .next ({ s with pw := { s.pw with calderaClaim := false, calderaHold := false } }.driveClaim false)
    else .next s

/-- The own claim is not returned by the base: absent as the module receives it (R294). -/
def State.claimAbsent (s : State) : State :=
  let s := s.setFlag Fld.BN_LOOP_CLAIM_RET false
  if s.posB then s.setFlag Fld.BN_LOOP_CLAIM_B false else s.setFlag Fld.BN_LOOP_CLAIM_A false

/-- CLAIM_RETURN_TIMEOUT: a claim that is driven is not returned; an active sets LOOP_FAULT and releases (R301, R309). -/
def execClaimReturnTimeout (s : State) : Res :=
  if !s.bn.claimOut then .next s
  else
    let s := s.claimAbsent
    if s.role = 1 then .next ((s.conflict Fld.BN_STATUS_LOOP_FAULT 0).release) else .next s

/-! ## Heartbeats (R304, R308) -/

/-- The heartbeat message with a path's SEQUENCE. -/
def State.hbMsg (s : State) (seq : Nat) : BitVec 256 :=
  let h : BitVec 256 := 0
  let h := putBits h 255 192 s.bt.toNat
  let h := putBits h 191 160 (s.fld Fld.BN_EPOCH_EPOCH)
  let h := putBits h 159 128 (s.reg .BN_HEALTH 0).toNat
  let h := putBits h 127 96 seq
  let h := putBits h 95 80 s.base.binary
  let h := putBit h 79 s.posB
  let h := putBit h 78 s.bn.releasing
  let h := putBit h 77 (s.flag Fld.BN_STATUS_GRANT)
  putBits h 63 0 s.ownTag.toNat

/-- The heartbeats of a BT slot on the binary links; the one that carries RELEASE is the last. -/
def State.sendBeats (s : State) : State :=
  let s0 := s
  let s := if s0.flag Fld.BN_STATUS_LINK0_UP then
      { s.emit (.heartbeat 0 (s0.hbMsg s0.bn.seq0)) with bn := { s.bn with seq0 := (s0.bn.seq0 + 1) % 4294967296 } }
    else s
  let s := if s0.flag Fld.BN_STATUS_LINK1_UP then
      { s.emit (.heartbeat 1 (s0.hbMsg s0.bn.seq1)) with bn := { s.bn with seq1 := (s0.bn.seq1 + 1) % 4294967296 } }
    else s
  if s.bn.releasing then { s with bn := { s.bn with releasing := false, hbRun := false } } else s

/-- HEARTBEAT_SEND: once at every multiple of 10 µs of BT. -/
def execHeartbeatSend (s : State) : Res :=
  let k := s.bt.toNat / 10000
  if s.pair && s.bn.hbRun && !s.served 0 k then .next (s.serve 0 k).sendBeats else .next s

/-- The heartbeat `m` as a control frame for plant port `p`, to 03-5A-3A-01 and the binary number (R263, R264, R304). -/
def State.netBeat (s : State) (p : Nat) (m : BitVec 256) : NetWait :=
  { cls := 7, own := some (.netHeartbeat p
      (controlFrame (0x035A3A010000 + s.base.binary) s.img.ctlVlan (wordsWire (unitsOf m 4).reverse))) }

/-- NET_HEARTBEAT_SEND: every 1 ms, a control frame on both plant ports. -/
def execNetHeartbeatSend (s : State) : Res :=
  let k := s.bt.toNat / 1000000
  if s.pair && s.bn.hbRun && !s.served 1 k then
    let s := s.serve 1 k
    let m := s.hbMsg s.bn.seqNet
    let s := (s.netSend 1 (s.netBeat 1 m)).netSend 2 (s.netBeat 2 m)
    .next { s with bn := { s.bn with seqNet := (s.bn.seqNet + 1) % 4294967296 } }
  else .next s

/-- The health word of a heartbeat shown as the partner's. -/
def State.takeHealth (s : State) (m : BitVec 256) : State :=
  { s.setFld Fld.BN_HEALTH_WORD (bits m 159 128) 1 with bn := { s.bn with netLost := 0 } }

/-- BT of a module that is not active disciplined by rate to the active's (R89): the servo's gains are its own.
(DEDUCED, log entry 87) -/
def State.disciplineBt (s : State) (off : Int) : State :=
  let s := { s with bn := { s.bn with btOff := some off } }
  if s.mt.btSet && s.role != 1 && s.bn.hbRole == 1 then
    { s with mt := { s.mt with bt := s.mt.bt.setRate s.mt.frc (servoRate s.mt.srcRate off s.free) } }.draw
  else s

/-- What every heartbeat of the partner leaves, whichever path it took. -/
def State.hbCommon (s : State) (m : BitVec 256) : State :=
  let role := bits m 159 156
  let s := s.setFld Fld.BN_STATUS_PARTNER_ROLE role
  { s with bn := { s.bn with
    hbEpoch := bits m 191 160, hbGrant := bitAt m 77, hbTag := BitVec.ofNat 64 (bits m 63 0), hbRole := role } }

/-- The firmware of a partner that starts anew: in a roll of the firmware, before its hand-over, it is the other bank's (R421). -/
def State.otherFw (s : State) : Option W64 :=
  match s.up.roll with
  | some r =>
    if r.kinds / 2 % 2 = 1 ∧ 2 ≤ s.fld Fld.UP_STATUS_STEP ∧ s.fld Fld.UP_STATUS_STEP ≤ 4 then
      some (hdrTag (s.bankHdr 1 (1 - s.fld Fld.SUP_START_FW_BANK)))
    else none
  | none => none

/-- A heartbeat over a binary link. A partner that joins anew is sent every tracked block (R300), and its messages go
again; an isolated standby joins (R303). A partner whose health word shows COORD_DEGRADED has no PT that is LOCKED (R70). -/
def State.hbLink (s : State) (m : BitVec 256) (off : Int) (ptOff : Option Int) : State :=
  let before := s.bn.hbRole
  let fresh := !s.bn.hbSeen || s.bn.hbLost
  let s := (s.hbCommon m).takeHealth m
  let s := { s with bn := { s.bn with
    hbSeen := true, hbLost := false, hbBt := s.bt, hbRelease := bitAt m 78 } }
  let restarted := s.bn.hbRole == 0 && (fresh || before != 0)
  let s := if restarted then
      { s with bn := { s.bn with allDirty := s.bn.allDirty || s.role == 1, partnerFw := s.otherFw } }.mbPartnerRestart
    else s.mbRetry
  let s := if s.role = 4 then s.joinAgain else s
  let s := (s.disciplineBt off).hearPartner (if bitAt m 150 then none else ptOff)
  if s.bn.hbRelease then s.claimIfDue else s

/-- A heartbeat over the plant network carries only health, and that while the links carry none (R308, R325). -/
def State.hbNet (s : State) (m : BitVec 256) : State :=
  let s := { s.setFlag Fld.BN_STATUS_NET_HB true with bn := { s.bn with netAt := s.mt.frc } }
  if s.bn.hbLost then (s.hbCommon m).takeHealth m else s

/-- HEARTBEAT_RECEIVED: from the partner, the module of the same binary in the other position. -/
def execHeartbeatReceived (link : Option (Fin 2)) (m : BitVec 256) (off : Int) (ptOff : Option Int) (s : State) : Res :=
  if !s.pair || bits m 95 80 != s.base.binary || bitAt m 79 == s.posB then .next s
  else
    let both := s.arbiter && s.flag Fld.BN_STATUS_GRANT && bitAt m 77 && !s.auth
    let s := match link with
      | some k =>
        if (if k.val = 0 then s.flag Fld.BN_STATUS_LINK0_UP else s.flag Fld.BN_STATUS_LINK1_UP) then s.hbLink m off ptOff
        else s
      | none => s.hbNet m
    .next (if both then s.conflict Fld.BN_STATUS_GRANT_CONFLICT 1 else s)

/-- HEARTBEAT_TIMEOUT: 35 µs with no heartbeat on either link (R302, R305). -/
def execHeartbeatTimeout (s : State) : Res :=
  if !s.pair || (s.bn.hbSeen && decide ((s.bt - s.bn.hbBt).toNat < 35000)) then .next s
  else
    let s := { s with bn := { s.bn with hbLost := true } }.hearPartner none
    if (s.role = 2 ∨ s.role = 3) ∧ s.partnerClaim then
      .next (((s.driveReady false).setRole 4).bnNote 0xB005)
    else .next s.claimIfDue

/-- RELEASE_RECEIVED: a heartbeat with RELEASE, and the claim absent (R318). -/
def execReleaseReceived (s : State) : Res :=
  if s.pair && !s.partnerClaim then
    .next ({ s with bn := { s.bn with hbRelease := true } }.claimIfDue)
  else .next s

/-- EPOCH_STORED: the epoch word is in the key (R36, R298). -/
def execEpochStored (s : State) : Res :=
  if (s.bn.storePend || s.flag Fld.BN_STATUS_EPOCH_UNSTORED) && s.keyOk then
    let e := s.fld Fld.BN_EPOCH_EPOCH
    let w : W64 := BitVec.ofNat 64 ((4294967295 - e) * 4294967296 + e)
    let s := s.keyPut Config.keyEpoch w
    .next ({ s with bn := { s.bn with storePend := false, stored := e } }.setFlag Fld.BN_STATUS_EPOCH_UNSTORED false)
  else .next s

/-- TAKEOVER_RESUME: at D + 50 µs the entries of standard and slow groups run from here (R319). -/
def execTakeoverResume (s : State) : Res :=
  let k := s.fld Fld.BN_TAKEOVER_KIND
  if s.role = 1 ∧ s.bn.taking ∧ k ≠ 4 ∧ (s.ln.resume.map s.reached).getD true then .next { s with bn := { s.bn with taking := false } } else .next s

/-- NET_HB_TIMEOUT: 3 ms without a heartbeat over the plant network. -/
def execNetHbTimeout (s : State) : Res :=
  .next (if decide (3000000 ≤ (s.mt.frc - s.bn.netAt).toNat) then s.setFlag Fld.BN_STATUS_NET_HB false else s)

/-- The links fail after a hand-over's claim and before the snapshot at H is committed: the last committed snapshot serves,
with the LAG that results (R323). -/
def State.rollBack (s : State) : State :=
  let lag := s.passed - 1
  let s := s.rollRecords
  let s := { s with le := { s.le with takeovers := s.le.takeovers + 1, lag := lag } }
  let s := s.setFld Fld.BN_TAKEOVER_LAG (sat 63 lag)
  let s := s.la.recs.foldl State.setDiffers s
  { s with
    bn := { s.bn with taking := false, journal := [] }
    ln := { s.ln with resume := some s.pt } }

/-- BINARY_LINK_CHANGE (R308). -/
def execBinaryLinkChange (k : Fin 2) (up : Bool) (s : State) : Res :=
  let f := if k.val = 0 then Fld.BN_STATUS_LINK0_UP else Fld.BN_STATUS_LINK1_UP
  if !s.pair || s.flag f == up then .next s
  else
    let s := ((s.setFlag f up).bnNote (if up then 0xB00A else 0xB009) [k.val]).ev 82
    if !s.anyLink && s.bn.taking && s.fld Fld.BN_TAKEOVER_KIND == 4 then .next s.rollBack
    else .next s

/-! ## The arbiter (R306, R307) -/

/-- GRANT_RECOGNISED. -/
def execGrantRecognised (s : State) : Res :=
  if !s.pair then .next s
  else
    let s := s.setFlag Fld.BN_STATUS_GRANT true
    let s := if s.arbiter && s.bn.hbGrant && !s.bn.hbLost && !s.auth then s.conflict Fld.BN_STATUS_GRANT_CONFLICT 1 else s
    .next s.claimIfDue

/-- The partner's heartbeat shows GRANT and READY. -/
def State.partnerGranted (s : State) : Bool := s.bn.hbGrant && bitAt (s.reg .BN_HEALTH 1) 23 && !s.bn.hbLost

/-- GRANT_WITHDRAWN (R301). -/
def execGrantWithdrawn (s : State) : Res :=
  if !s.pair then .next s
  else
    let s := s.setFlag Fld.BN_STATUS_GRANT false
    if s.role = 1 ∧ s.arbiter then
      .next (if s.partnerGranted then s.release else s.conflict Fld.BN_STATUS_GRANT_CONFLICT 1)
    else .next s

/-- ARBITER_FAIL: the binary follows R305 from here. -/
def execArbiterFail (s : State) : Res :=
  if s.arbiter then
    .next ((((s.setFlag Fld.BN_STATUS_ARB_FAIL true).bnNote 0xB00D [1]).ev 86).claimIfDue)
  else .next s

/-- ARBITER_RETURN: GRANT has been present for 10 ms, on this module or, as its heartbeats say, on the partner. -/
def execArbiterReturn (s : State) : Res :=
  if s.flag Fld.BN_STATUS_ARB_FAIL && (s.flag Fld.BN_STATUS_GRANT || (s.bn.hbGrant && !s.bn.hbLost)) then .next ((s.setFlag Fld.BN_STATUS_ARB_FAIL false).bnNote 0xB00D [0]) else .next s

/-! ## Health (R324, R325) -/

/-- A channel reports CROSS. -/
def State.crossing (s : State) : Bool :=
  (List.range 32).any (fun n => s.liveUc n 13) || (List.range 48).any fun m => s.liveDc m 10

/-- An output of a standby deviates from its shadow command, or shows foreign drive or a short (R195, R216). -/
def State.deviating (s : State) : Bool :=
  (List.range 32).any (fun n => s.ucOut n && s.liveUc n 8) ||
    (List.range 48).any fun m => s.dcMode m == 3 && (s.liveDc m 3 || s.liveDc m 4 || s.liveDc m 5)

/-- An instant of BT within the last 10 s. -/
def State.within10 (s : State) (t : Instant) : Bool := decide ((s.bt - t).toNat ≤ 10000000000)

/-- The own health word; a comparator out of service shows in ST_LOCKSTEP (R343). (DEDUCED, log entry 82) -/
def State.healthWord (s : State) : Word :=
  let h : Word := 0
  let h := putBits h 31 28 s.role
  let h := putBits h 27 24 (s.fld Fld.BN_STATUS_LAG)
  let h := putBit h 23 (s.flag Fld.BN_STATUS_READY)
  let h := putBit h 22 (s.flag Fld.MT_STATE_COORD_DEGRADED)
  let h := putBit h 21 (s.flag Fld.BN_STATUS_LINK0_UP)
  let h := putBit h 20 (s.flag Fld.BN_STATUS_LINK1_UP)
  let h := putBit h 19 (s.linkUp 1)
  let h := putBit h 18 (s.linkUp 2)
  let h := putBit h 17 (s.flag Fld.RST_POWER_FEED_A)
  let h := putBit h 16 (s.flag Fld.RST_POWER_FEED_B)
  let h := putBit h 15 (s.flag Fld.RST_POWER_HOLDUP_OK)
  let h := putBit h 14 (s.flag Fld.PK_STATUS_PRESENT && s.flag Fld.PK_STATUS_WRITABLE)
  let h := putBit h 13 (s.flag Fld.BN_STATUS_ARB_FAIL)
  let h := putBit h 12 s.crossing
  let h := putBit h 11 (s.bn.divAt.any s.within10)
  let h := putBit h 10 ((s.bn.latAt.map s.within10).getD false)
  let h := putBit h 9 (s.bn.stLockstep || (List.range 5).any fun i => s.flag Fld.LK_PAIR_SINGLE i)
  let h := putBit h 8 s.bn.stMemory
  let h := putBit h 7 (s.bn.stReadback || (s.role != 1 && s.deviating))
  let h := putBit h 6 s.bn.stEngine
  let h := putBits h 5 2 ((List.range 8).filter s.laneIn).length
  putBit h 1 (s.fld Fld.UP_STATUS_PHASE != 0)

/-- Yield condition `i` of R326 holds, and the image has not disabled it. -/
def State.yields (s : State) (i : Nat) : Bool :=
  let own := s.healthWord
  let p := s.reg .BN_HEALTH 1
  !bitAt s.img.yieldOff i &&
  (match i with
   | 0 => !bitAt own 19 && !bitAt own 18 && bitAt p 19 && bitAt p 18
   | 1 => decide (bits own 5 2 < 8) && bits p 5 2 == 8
   | _ => !bitAt own 14 && bitAt p 14)

/-- Since when condition `i` holds. -/
def State.yieldSince (s : State) (i : Nat) : Option Instant := Tab.get none s.bn.yieldAt i

/-- The own health word formed; since when each yield condition holds follows it. -/
def State.formHealth (s : State) : State :=
  let s := s.setReg .BN_HEALTH 0 s.healthWord
  { s with bn := { s.bn with yieldAt := [0, 1, 2].foldl (fun t i =>
    Tab.set none t i (if s.yields i then some ((s.yieldSince i).getD s.bt) else none)) s.bn.yieldAt } }

/-- HEALTH_WORD_FORM, once in a standard cycle: the active publishes both words as points of KIND 5, the partner's LATE after 3
standard cycles without a word. -/
def execHealthWordForm (s : State) : Res :=
  let k := s.bt.toNat / 1000000
  if s.served 2 k then .next s
  else
    let s := (s.serve 2 k).formHealth
    match s.img.healthPts with
    | none => .next s
    | some (a, b) =>
      if s.role ≠ 1 then .next s
      else
        let own := if s.posB then b else a
        let other := if s.posB then a else b
        let s := s.produce own (freshRec 5 0 (s.reg .BN_HEALTH 0))
        if !s.pair then .next s
        else
          let r := if 3 ≤ s.bn.netLost then lateRec (s.pointCfg other) (s.piGet other)
            else freshRec 5 0 (s.reg .BN_HEALTH 1)
          .next ({ s with bn := { s.bn with netLost := satAdd 3 s.bn.netLost 1 } }.produce other r)

/-- STANDBY_SELFTEST: the health bits; an uncorrectable error in a tracked block makes the standby join again. What is
fatal in its own chapter comes by that chapter's commands. -/
def execStandbySelftest (t : StandbyTest) (s : State) : Res :=
  if s.role = 2 ∨ s.role = 3 then
    let s := { s with bn := { s.bn with
      stLockstep := t.lockstepBad, stMemory := t.memoryBad, stReadback := t.readbackBad, stEngine := t.engineBad } }
    .next (if t.memoryBad then s.joinAgain else s)
  else .next s

/-! ## Hand-over (R322, R323, R326) -/

/-- The partner is lagging, by its health word. -/
def State.partnerLag (s : State) : Nat := bits (s.reg .BN_HEALTH 1) 27 24

/-- The partner is a READY standby with LAG 0. -/
def State.partnerFit (s : State) : Bool :=
  s.partnerReady && s.partnerLag == 0 && bits (s.reg .BN_HEALTH 1) 31 28 == 2

/-- A hand-over scheduled for H. -/
def State.scheduleHo (s : State) (h : Instant) (after : After) : State :=
  ({ s with bn := { s.bn with ho := some { h := h, moves := 0, after := after } } }.setFlag
    Fld.BN_STATUS_HO_PENDING true).ev 85

/-- A hand-over removed. -/
def State.dropHo (s : State) : State :=
  { s with bn := { s.bn with ho := none }, ln := { s.ln with stopAt := none } }.setFlag Fld.BN_STATUS_HO_PENDING false

/-- A hand-over cancelled: Sinter 0xB00C, source 85. -/
def State.cancelHo (s : State) : State := ((s.dropHo).bnNote 0xB00C).ev 85

/-- H moves on by 1 ms; after 16 moves the hand-over is cancelled. -/
def State.moveHo (s : State) (x : Handover) : State :=
  if 16 ≤ x.moves then s.cancelHo
  else
    { s with
      bn := { s.bn with ho := some { x with h := x.h.plus 1000000, moves := x.moves + 1 } }
      ln := { s.ln with stopAt := none } }

/-- The first standard boundary of BT at least 2 ms ahead. -/
def State.nextHo (s : State) : Instant := nextAt 1000000 0 (s.bt.plus 2000000)

/-- BN_CMD_RESULT written. -/
def State.bnResult (s : State) (c : Nat) : State := s.setFld Fld.BN_CMD_RESULT_CODE c

/-- H as BN_HO_AT holds it. -/
def State.hoAt (s : State) : Instant :=
  BitVec.ofNat 64 ((s.reg .BN_HO_AT_HI).toNat * 4294967296 + (s.reg .BN_HO_AT_LO).toNat)

/-- H lies on a standard boundary, from 2 ms to 10 s ahead. -/
def State.hoInRange (s : State) (h : Instant) : Bool :=
  h.toNat % 1000000 == 0 && decide (2000000 ≤ h.diff s.bt) && decide (h.diff s.bt ≤ 10000000000)

/-- The code of a hand-over order. -/
def State.hoCode (s : State) : Nat :=
  if !s.pair then 1
  else if s.taking then 9
  else if s.role ≠ 1 then 0x0A
  else if s.bn.ho.isSome then 7
  else if !s.partnerReady then 3
  else if s.partnerLag ≠ 0 then 4
  else if !s.hoInRange s.hoAt then 5
  else 0

/-- HANDOVER_ORDER: the supervisor writes BN_CMD 0x1. -/
def execHandoverOrder (w : Writer) (after : After) (s : State) : Res :=
  match w with
  | .app => .next s
  | .sup =>
    let c := s.hoCode
    let s := s.bnResult c
    .next (if c = 0 then s.scheduleHo s.hoAt after else s)

/-- HANDOVER_CANCEL: BN_CMD 0x2. -/
def execHandoverCancel (w : Writer) (s : State) : Res :=
  match w with
  | .app => .next s
  | .sup =>
    if !s.pair then .next (s.bnResult 1)
    else if s.bn.ho.isNone then .next (s.bnResult 8)
    else .next ((s.bnResult 0).cancelHo)

/-- A roll's hand-over waits while the transition point reports a transition (R421, step 4). -/
def State.rollHolds (s : State) : Bool := s.fld Fld.UP_STATUS_STEP == 4 && s.transition

/-- HANDOVER_CHECK: at H − 1 ms. A roll that finds a transition cancels this H; its next one follows once the conditions hold
again. -/
def execHandoverCheck (s : State) : Res :=
  match s.bn.ho with
  | none => .next s
  | some x =>
    if s.role ≠ 1 || !Instant.atOrBefore (x.h - 1000000#64) s.bt then .next s
    else if s.rollHolds then .next s.cancelHo
    else if !s.partnerFit then .next (s.moveHo x)
    else .next { s with ln := { s.ln with stopAt := some (x.h + (s.pt - s.bt)) } }

/-- The active at H: the snapshot at H frozen, the claim dropped; then it joins, restarts or enters maintenance.
(DEDUCED, log entry 80) -/
def State.handOver (s : State) (after : After) : State :=
  let h := s.bn.ho.map fun x => x.h
  let s := s.abortTests 6
  let s := (if s.partnerTakes then s.sendSamples else s).freeze (h.getD (floorTo s.bt 1000000))
  let s := (((s.dropHo).driveClaim false).stopLaunch).dropPends
  let s := s.bnNote 0xB00B
  let s := s.ev 85
  match after with
  | .join => s.joinAgain
  | .restart => (if s.fld Fld.UP_STATUS_STEP = 4 then s.setFld Fld.UP_STATUS_STEP 5 else s).setRole 0
  | .maintenance => ((s.setRole 5).bnNote 0xB00F [1])

/-- A trial is in progress in the own selection (R416). -/
def State.onTrial (s : State) : Bool := s.flag Fld.UP_STATUS_FW_TRIAL || s.flag Fld.UP_STATUS_CFG_TRIAL

/-- Kinds on trial. -/
def State.trialKinds (s : State) : Nat := b2n (s.flag Fld.UP_STATUS_CFG_TRIAL) + 2 * b2n (s.flag Fld.UP_STATUS_FW_TRIAL)

/-- A standby that takes over between two selections takes the roll over with it (R421, R423). -/
def State.inheritRoll (s : State) : State :=
  let s := { s with up := { s.up with roll := some { kinds := s.trialKinds, since := s.mt.frc } } }
  (s.setFld Fld.UP_STATUS_STEP 5).setUpPhase 4

/-- HANDOVER_INSTANT: at H the active hands over, unless the snapshot of H − 1 ms is not committed yet or the check of H − 1 ms
has not found the partner fit, which moves H; a READY standby claims as soon as the loop is unclaimed, and the loops that its image names as changed re-enter as after LAG 1
(R422), the roll being its own from then on. -/
def execHandoverInstant (s : State) : Res :=
  match s.bn.ho with
  | some x =>
    if s.role ≠ 1 || !Instant.atOrBefore x.h s.bt then .next s
    else if s.bn.xfer.isSome || s.bn.frozen != some (x.h - 1000000#64) || (s.ln.stopAt.isNone && !s.partnerFit) then .next (s.moveHo x)
    else .next (s.handOver x.after)
  | none =>
    if (s.role = 2 ∨ s.role = 3) ∧ s.flag Fld.BN_STATUS_READY then
      let changed := (s.mapOf.map StateMap.changed).getD []
      let s := { s with le := { s.le with changed := changed } }
      let s := if s.otherImage then s.inheritRoll else s
      .next ({ s with bn := { s.bn with hoClaim := true, hoAt := floorTo s.bt 1000000 } }.claimIfDue)
    else .next s

/-- A roll, a revert roll or a restart is in progress (R421, R423). -/
def State.rolling (s : State) : Bool := s.fld Fld.UP_STATUS_PHASE == 4 || s.fld Fld.UP_STATUS_PHASE == 6

/-- YIELD: a condition has held for 1 s (R326); at most once in 60 s, and not during a roll. -/
def execYield (s : State) : Res :=
  let rest := match s.bn.lastYield with
    | some t => decide (60000000000 ≤ (s.bt - t).toNat)
    | none => true
  let held := [0, 1, 2].any fun i => s.yields i && (match s.yieldSince i with
    | some t => decide (1000000000 ≤ (s.bt - t).toNat)
    | none => false)
  if s.role == 1 && s.partnerFit && held && rest && s.bn.ho.isNone && !s.taking && !s.rolling then
    .next ({ s with bn := { s.bn with lastYield := some s.bt } }.scheduleHo s.nextHo .join)
  else .next s

/-! ## Joining and maintenance (R300, R303) -/

/-- JOIN_COMPLETE: the first snapshot committed, one clean sweep of every tracked block (between different selections the
mapped snapshot alone, R422), BT within 20 ns of the partner's, REMOVE closed (R454). A standby runs the launch table
(R310): one that stopped launching at a hand-over launches again. -/
def execJoinComplete (s : State) : Res :=
  let near := match s.bn.btOff with
    | some e => decide (e.natAbs ≤ 20)
    | none => false
  if s.pair && s.role == 0 && s.bn.joining && s.pw.removeClosed && s.bn.committed.isSome && near &&
      (s.otherImage || decide (32768 ≤ s.bn.sweep)) then
    let s := { s with bn := { s.bn with joining := false } }
    let s := (s.setRole 2).driveReady true |>.showLag
    .next (if s.boot.committed then s.startLaunch else s)
  else .next s

/-- Maintenance entered, or the code of BN_CMD that refuses it. (DEDUCED, log entry 94) -/
def State.maintEnter (s : State) : State × Nat :=
  if !s.pair then (s.bnResult 1, 1)
  else if s.taking then (s.bnResult 9, 9)
  else if s.role = 2 ∨ s.role = 3 ∨ s.role = 4 then
    let s := (((s.bnResult 0).driveReady false).setRole 5).bnNote 0xB00F [1]
    ({ s with bn := { s.bn with joining := false, committed := none, journal := [], sweep := 0, lag := 0 } }, 0)
  else (s.bnResult 0x0A, 0x0A)

/-- Maintenance left by joining, or the code that refuses it. -/
def State.maintLeave (s : State) : State × Nat :=
  if !s.pair then (s.bnResult 1, 1)
  else if s.role = 5 then (((s.bnResult 0).bnNote 0xB00F [0]).joinAgain, 0)
  else (s.bnResult 0x0A, 0x0A)

/-- ENTER_MAINTENANCE: BN_CMD 0x3. -/
def execEnterMaintenance (w : Writer) (s : State) : Res :=
  match w with
  | .app => .next s
  | .sup => .next s.maintEnter.1

/-- LEAVE_MAINTENANCE: BN_CMD 0x4; the module joins. -/
def execLeaveMaintenance (w : Writer) (s : State) : Res :=
  match w with
  | .app => .next s
  | .sup => .next s.maintLeave.1

/-- PARTNER_RESET: BN_CMD 0x5, to a partner in maintenance. -/
def execPartnerReset (w : Writer) (s : State) : Res :=
  match w with
  | .app => .next s
  | .sup =>
    if !s.pair then .next (s.bnResult 1)
    else if s.fld Fld.BN_STATUS_PARTNER_ROLE ≠ 5 then .next (s.bnResult 6)
    else .next ((s.bnResult 0).emit .partnerReset)

end Sys2Proof.Machine
end

