-- ==== Sys2Proof/Machine/Lockstep.lean ====
section
/-! DEFINITION. Lockstep execution (14 R330 to R353): modes, mismatches and their classes, comparators, splitting and
rejoining, debug halts. What the cores compute is no part of the model; what leaves a pair is. -/

namespace Sys2Proof.Machine

/-! ## Pairs -/

def State.pairOf (s : State) (i : Nat) : LkPair := Tab.get {} s.lk i
def State.setPairOf (s : State) (i : Nat) (x : LkPair) : State := { s with lk := Tab.set {} s.lk i x }

def State.lkMode (s : State) (i : Nat) : Nat := s.fld Fld.LK_PAIR_MODE i
def State.setLkMode (s : State) (i m : Nat) : State := s.setFld Fld.LK_PAIR_MODE m i

/-- WRITE_COMPARE, or another comparing mode, entered for 4,096 writes (R332). -/
def State.lkCompare (s : State) (i m : Nat) : State := (s.setLkMode i m).setFld Fld.LK_PAIR_WRITES_LEFT 4096 i

/-- The island that owns pair `i` (R354). -/
def lkIsland (i : Nat) : Nat := if i = 4 then islSup else 0

/-- A lockstep record with its pair, stage and write position (R352). -/
def State.lkNote (s : State) (i code : Nat) (more : List Nat := []) : State := s.note (lkIsland i) code (i :: more)

/-- Comparators in service (R337, R342). -/
def State.xIn (s : State) (i : Nat) : Bool := !(s.flag Fld.LK_PAIR_SINGLE i && !s.flag Fld.LK_PAIR_CMP_X_OK i)
def State.yIn (s : State) (i : Nat) : Bool := !(s.flag Fld.LK_PAIR_SINGLE i && !s.flag Fld.LK_PAIR_CMP_Y_OK i)

/-- Every pair stopped, as a reset holds it (R332). -/
def State.lkStop (s : State) : State := (List.range 5).foldl (fun s i => s.setLkMode i 0) s

/-- Every pair joined and comparing, as a reset is released (R332). -/
def State.lkStart (s : State) : State := (List.range 5).foldl (fun s i => s.lkCompare i 1) s

/-- A joined pair that compares. -/
def State.lkJoined (s : State) (i : Nat) : Bool :=
  let m := s.lkMode i
  m == 1 || m == 2 || m == 3 || m == 4 || m == 6

/-! ## Classes (R343 to R345) -/

/-- A fault classed: LK_FAULT and source 76 + i. -/
def State.lkClass (s : State) (i c stage write : Nat) : State :=
  (((s.setFld Fld.LK_FAULT_CLASS c i).setFld Fld.LK_FAULT_STAGE stage i).setFld Fld.LK_FAULT_WRITE write i).ev (76 + i)

/-- A command's end reported to its writer. -/
def State.lkResult (s : State) (w code : Nat) : State :=
  (s.setFlag Fld.LK_CMD_RESULT_BUSY false w).setFld Fld.LK_CMD_RESULT_CODE code w

/-- A fatal class (R344, R345): before the first commit a refusal with code 0x0C; after it the module is declared failed,
with the record of the class unless the supervisor pair is the faulty one. An order of the pair ends with code 0x06. -/
def State.lkFatal (s : State) (i c stage write : Nat) : State :=
  let x := s.pairOf i
  let s := s.lkClass i c stage write
  let s := if x.draining || x.rejoin then s.lkResult x.writer 6 else s
  let s := (s.setPairOf i { x with
    held := [], loc := none, reruns := 0, disag := false, inj := none, clean := false, draining := false, rejoin := false }).setLkMode i 8
  if !s.boot.committed then s.refuse 0x0C
  else
    let s := s.declareFailed
    if i = 4 then { s with pw := { s.pw with lkfPending := true } } else s.lkNote i (lkCode c) [stage, write]

/-- Both cores stop for a debug halt; a split or rejoin under way ends with code 0x06 (R351, R353).
(DEDUCED, log entry 131) -/
def State.lkHalt (s : State) (i : Nat) : State :=
  let x := s.pairOf i
  let s := if x.draining || x.rejoin then s.lkResult x.writer 6 else s
  (s.setPairOf i { x with haltReq := false, draining := false, rejoin := false }).setLkMode i 7

/-- The pair goes on after a rerun: a debug halt that waits takes effect, a drain continues, else WRITE_COMPARE for 4,096 writes (R341, R346). -/
def State.lkResume (s : State) (i : Nat) : State :=
  let x := s.pairOf i
  let s := s.setPairOf i { x with loc := none, reruns := 0, disag := false, inj := none, clean := false }
  if x.haltReq then s.lkHalt i
  else if x.draining then s.setLkMode i 4 else s.lkCompare i 1

/-- The FRC instants of a list within `ns` before now. -/
def State.recentFrc (s : State) (ns : Nat) (xs : List W64) : List W64 :=
  xs.filter fun f => decide ((s.mt.frc - f).toNat < ns)

/-- A transient recovered; the 9th within 1 s is fatal (R343). -/
def State.lkTransient (s : State) (i : Nat) : State :=
  let x := s.pairOf i
  let t := s.mt.frc :: s.recentFrc 1000000000 x.trans
  let s := s.setPairOf i { x with trans := t }
  let s := s.bump Fld.LK_COUNT_TRANSIENT i
  if 9 ≤ t.length then s.lkFatal i 2 0 0
  else ((s.lkClass i 1 0 0).lkNote i 0xC001).lkResume i

/-- Comparators that failed an injection test are taken out of service: one is class 0x5 or 0x6, both or the remaining one
class 0x8 (R342). -/
def State.lkInjected (s : State) (i : Nat) (xOk yOk : Bool) : State :=
  let xBad := s.xIn i && !xOk
  let yBad := s.yIn i && !yOk
  let s := if s.xIn i then s.setFlag Fld.LK_PAIR_CMP_X_OK xOk i else s
  let s := if s.yIn i then s.setFlag Fld.LK_PAIR_CMP_Y_OK yOk i else s
  if !xBad && !yBad then s
  else if (xBad && yBad) || s.flag Fld.LK_PAIR_SINGLE i then s.lkFatal i 8 0 0
  else
    let c := if xBad then 5 else 6
    (((s.setFlag Fld.LK_PAIR_SINGLE true i).lkClass i c 0 0)).lkNote i 0xC004 [c - 5]

/-- The check of a comparator disagreement settled, when both its rerun ended clean and its injection has answered
(R342). -/
def State.lkSettle (s : State) (i : Nat) : State :=
  let x := s.pairOf i
  match x.clean, x.inj with
  | true, some (xOk, yOk) =>
    if xOk && yOk then
      let d := s.mt.frc :: s.recentFrc 86400000000000 x.disags
      let s := (s.setPairOf i { x with disags := d }).bump Fld.LK_COUNT_DISAGREE i
      if 3 ≤ d.length then s.lkFatal i 7 0 0
      else ((s.lkClass i 7 0 0).lkNote i 0xC005).lkResume i
    else
      let s := s.lkInjected i xOk yOk
      if s.lkMode i = 8 then s else s.lkResume i
  | _, _ => s

/-! ## Mismatch and rerun (R340 to R342) -/

/-- A mismatch (R341, R342): held stores discarded, the pair reruns; where exactly one comparator of two flagged it, as a
comparator check. A signature difference has no write position. -/
def State.lkMismatch (s : State) (i : Nat) (x y : Bool) (stage write : Nat) : State :=
  let fx := x && s.xIn i
  let fy := y && s.yIn i
  if !s.lkJoined i || s.lkMode i == 3 || !(fx || fy) then s
  else
    let one := s.xIn i && s.yIn i && (fx != fy)
    let s := if stage = 0 then s else s.bump Fld.LK_COUNT_PARITY i
    let p := s.pairOf i
    let s := s.setPairOf i { p with
      held := [], disag := one, inj := none, clean := false, reruns := 0
      loc := if write = 0 ∨ one ∨ s.lkMode i = 2 ∨ s.lkMode i = 4 then none else some (write, stage) }
    s.setLkMode i 3

/-- LOCKSTEP_MISMATCH. -/
def execLockstepMismatch (i : Fin 5) (x y : Bool) (stage : Fin 5) (write : Nat) (s : State) : Res :=
  .next (s.lkMismatch i.val x y stage.val write)

/-- A comparator check ends with a mismatch that every comparator in service saw: what its injection has found stands, and R341 goes
on (R342). -/
def State.lkChecked (s : State) (i : Nat) : State :=
  let p := s.pairOf i
  let s := s.setPairOf i { p with disag := false, inj := none, clean := false }
  match p.disag, p.inj with
  | true, some (xOk, yOk) => s.lkInjected i xOk yOk
  | _, _ => s

/-- A rerun that mismatched as every comparator in service saw it: located, compared with the first position, or the third
such rerun (R341). -/
def State.lkRerun (s : State) (i write stage : Nat) : State :=
  let s := s.lkChecked i
  let p := s.pairOf i
  match p.loc with
  | some (w0, st0) =>
    if w0 = write ∧ st0 = stage then s.lkFatal i (if stage = 0 then 3 else 4) stage write
    else if 2 ≤ p.reruns then s.lkFatal i 3 stage write
    else s.setPairOf i { p with reruns := p.reruns + 1 }
  | none =>
    if 2 ≤ p.reruns then s.lkFatal i 3 stage write
    else s.setPairOf i { p with loc := some (write, stage), reruns := p.reruns + 1 }

/-- RERUN_COMPLETE. -/
def execRerunComplete (i : Fin 5) (r : Rerun) (s : State) : Res :=
  if s.lkMode i.val ≠ 3 then .next s
  else
    let p := s.pairOf i.val
    match r with
    | .clean =>
      if p.disag then .next ((s.setPairOf i.val { p with clean := true }).lkSettle i.val)
      else .next (s.lkTransient i.val)
    | .mismatch write stage x y =>
      let fx := x && s.xIn i.val
      let fy := y && s.yIn i.val
      let st := if stage ≤ 4 then stage else 0
      if !(fx || fy) then .next s
      else
        let s := if st = 0 then s else s.bump Fld.LK_COUNT_PARITY i.val
        if s.xIn i.val && s.yIn i.val && (fx != fy) then
          .next (s.setPairOf i.val { p with disag := true, inj := none, clean := false })
        else .next (s.lkRerun i.val (write % 512) st)

/-- COMPARE_COUNT_DONE: 4,096 compared writes; SIGNATURE only once the first commit is made, and after a rejoin only once
the injection test has passed (R332, R350). -/
def execCompareCountDone (i : Fin 5) (s : State) : Res :=
  let m := s.lkMode i.val
  if m = 1 then
    let s := s.setFld Fld.LK_PAIR_WRITES_LEFT 0 i.val
    .next (if s.boot.committed ∧ !(s.pairOf i.val).untested then s.setLkMode i.val 2 else s)
  else if m = 6 then .next (s.setFld Fld.LK_PAIR_WRITES_LEFT 0 i.val)
  else .next s

/-- At the first commit the pairs that have made their compared writes enter SIGNATURE (R332). -/
def State.lkFirstCommit (s : State) : State :=
  (List.range 5).foldl (fun s i =>
    if s.lkMode i = 1 ∧ s.fld Fld.LK_PAIR_WRITES_LEFT i = 0 ∧ !(s.pairOf i).untested then s.setLkMode i 2 else s) s

/-- An injection test of a comparator check: both failing, or the remaining one, is an injection failure whatever the rerun brings;
else it settles with the rerun (R342). -/
def State.lkInjectCheck (s : State) (i : Nat) (xOk yOk : Bool) : State :=
  if !(s.xIn i && xOk) && !(s.yIn i && yOk) then s.lkInjected i xOk yOk
  else (s.setPairOf i { s.pairOf i with inj := some (xOk, yOk) }).lkSettle i

/-- The test that a rejoin asks for has passed: with its writes made the pair enters SIGNATURE (R338, R350). -/
def State.lkTested (s : State) (i : Nat) : State :=
  if s.lkMode i ≠ 6 ∧ s.lkMode i ≠ 1 ∨ !(s.pairOf i).untested ∨ s.fld Fld.LK_PAIR_WRITES_LEFT i ≠ 0 then s
  else
    let s := s.setPairOf i { s.pairOf i with untested := false }
    if s.boot.committed ∨ s.lkMode i = 6 then s.setLkMode i 2 else s

/-- An injection test on a joined pair: a comparator check, the end of a rejoin, or a test of its own; one that meets a real
mismatch is discarded, to run again within 1 ms (R338). -/
def State.lkInject (s : State) (i : Nat) (xOk yOk : Bool) : State :=
  if !s.lkJoined i then s
  else if s.lkMode i = 3 then (if (s.pairOf i).disag then s.lkInjectCheck i xOk yOk else s)
  else (s.lkInjected i xOk yOk).lkTested i

/-- COMPARATOR_INJECTION. -/
def execComparatorInjection (i : Fin 5) (xOk yOk : Bool) (s : State) : Res := .next (s.lkInject i.val xOk yOk)

/-! ## Orders (R347 to R350, R353) -/

/-- A pair in rerun, failed or halted. -/
def State.lkBlocked (s : State) (i : Nat) : Bool := s.lkMode i == 3 || s.lkMode i == 7 || s.lkMode i == 8

/-- 100 µs have passed since the pair's order (R348, R350). -/
def State.lkOverdue (s : State) (i : Nat) : Bool := decide (100000 ≤ (s.mt.frc - (s.pairOf i).ordAt).toNat)

/-- SPLIT ordered (R348): the change of mode closes the window that is open (R333). -/
def State.orderSplit (s : State) (w i : Nat) : State :=
  if s.flag Fld.LK_CMD_RESULT_BUSY w then s.setFld Fld.LK_CMD_RESULT_CODE 7 w
  else if 5 ≤ i ∨ !s.flag Fld.LK_PAIR_SPLITTABLE i then s.lkResult w 1
  else if s.lkBlocked i then s.lkResult w 6
  else if s.lkMode i ≠ 2 then s.lkResult w 4
  else
    let p := s.pairOf i
    let s := s.setPairOf i { p with draining := true, close := decide (p.held ≠ []), writer := w, ordAt := s.mt.frc }
    ((s.setLkMode i 4).setFlag Fld.LK_CMD_RESULT_BUSY true w).setFld Fld.LK_CMD_RESULT_CODE 0 w

/-- The leading core's registers written to the pair's checkpoint area, where the image lays one down: what the core holds is no part
of the model (R348, log entry 91). -/
def State.lkCheckpoint (s : State) (i : Nat) : State :=
  match s.img.checkpoints.find? fun x => x.1 == i with
  | none => s
  | some x =>
    ((List.range x.2.2).foldl (fun s k =>
      (s.markDirty (655360 + (x.2.1 + k - 0x01D40000) / 8)).bytePut (x.2.1 + k) (Config.bufByte (x.2.1 + k) s.free)) s).draw

/-- Where split core 0 or 1 of pair `i` starts. -/
def splitEntryOf (img : PlantImage) (i : Nat) : Nat × Nat := ((img.splitEntry.find? fun x => x.1 == i).map Prod.snd).getD (0, 0)

/-- SPLIT_DRAIN_DONE: the last window compared equal and the write buffer empty; the checkpoint is written, and the pair splits. -/
def execSplitDrainDone (i : Fin 5) (s : State) : Res :=
  let p := s.pairOf i.val
  if s.lkMode i.val = 4 ∧ p.held = [] then
    let e := splitEntryOf s.img i.val
    let s := s.lkCheckpoint i.val
    let s := (s.setPairOf i.val { p with draining := false, close := false, pc0 := e.1, pc1 := e.2, stop0 := false, stop1 := false }).setLkMode i.val 5
    .next ((((s.bump Fld.LK_COUNT_SPLITS i.val).lkNote i.val 0xC008).ev (76 + i.val)).lkResult p.writer 0)
  else .next s

/-- SPLIT_DRAIN_TIMEOUT: the pair stays joined (R348). -/
def execSplitDrainTimeout (i : Fin 5) (s : State) : Res :=
  let p := s.pairOf i.val
  if s.lkMode i.val = 4 ∧ s.lkOverdue i.val then
    let s := (s.setPairOf i.val { p with draining := false }).setLkMode i.val 2
    .next ((s.lkNote i.val 0xC00A).lkResult p.writer 5)
  else .next s

/-- REJOIN ordered (R350). -/
def State.orderRejoin (s : State) (w i : Nat) : State :=
  if s.flag Fld.LK_CMD_RESULT_BUSY w then s.setFld Fld.LK_CMD_RESULT_CODE 7 w
  else if 5 ≤ i ∨ !s.flag Fld.LK_PAIR_SPLITTABLE i then s.lkResult w 1
  else if s.lkBlocked i then s.lkResult w 6
  else if s.lkMode i ≠ 5 then s.lkResult w 4
  else
    let s := s.setPairOf i { s.pairOf i with rejoin := true, writer := w, ordAt := s.mt.frc }
    (s.setFlag Fld.LK_CMD_RESULT_BUSY true w).setFld Fld.LK_CMD_RESULT_CODE 0 w

/-- LK_REJOIN. -/
def execLkRejoin (w : Writer) (i : Fin 8) (s : State) : Res := .next (s.orderRejoin (wIdx w) i.val)

/-- REJOIN_STOP: both cores stopped, or stopped by force after 100 µs; the pair runs in Rejoining mode. -/
def execRejoinStop (i : Fin 5) (forced : Bool) (s : State) : Res :=
  let p := s.pairOf i.val
  if s.lkMode i.val = 5 ∧ p.rejoin ∧ (!forced || s.lkOverdue i.val) then
    let s := (s.setPairOf i.val { p with rejoin := false, untested := true }).lkCompare i.val 6
    let s := if forced then s.lkNote i.val 0xC00A else s
    .next (((s.lkNote i.val 0xC009).ev (76 + i.val)).lkResult p.writer 0)
  else .next s

/-- The code of an INJECT order: the supervisor only. -/
def State.testCode (s : State) (w i : Nat) : Nat :=
  if w ≠ 1 then 3 else if 5 ≤ i then 1 else if s.lkBlocked i then 6 else if !s.lkJoined i then 4 else 0

/-- INJECT ordered: answered with its code. -/
def State.orderTest (s : State) (w i : Nat) : State :=
  if s.flag Fld.LK_CMD_RESULT_BUSY w then s.setFld Fld.LK_CMD_RESULT_CODE 7 w else s.lkResult w (s.testCode w i)

/-- INJECT ordered and carried out. (DEDUCED, log entry 14) -/
def State.orderInject (s : State) (w i : Nat) (xOk yOk : Bool) : State :=
  if s.flag Fld.LK_CMD_RESULT_BUSY w || s.testCode w i != 0 then s.orderTest w i
  else (s.orderTest w i).lkInject i xOk yOk

/-- LK_INJECT. -/
def execLkInject (w : Writer) (i : Fin 8) (xOk yOk : Bool) (s : State) : Res :=
  .next (s.orderInject (wIdx w) i.val xOk yOk)

/-! ## Debug (R351) -/

/-- DEBUG_HALT_REQUEST: refused under own authority; else both cores stop at the next window boundary, which in SIGNATURE
mode is the close of the open window, and of a rerun its end. -/
def execDebugHaltRequest (i : Fin 5) (s : State) : Res :=
  if s.auth then .next (s.lkNote i.val 0xC00B)
  else
    let m := s.lkMode i.val
    if m = 2 ∨ m = 3 ∨ m = 4 then .next (s.setPairOf i.val { s.pairOf i.val with haltReq := true })
    else if m = 1 ∨ m = 5 ∨ m = 6 then .next (s.lkHalt i.val)
    else .next s

/-- DEBUG_RESUME. -/
def execDebugResume (i : Fin 5) (s : State) : Res :=
  if s.lkMode i.val = 7 then .next (s.lkCompare i.val 1) else .next s

end Sys2Proof.Machine
end

