-- ==== Sys2Proof/Machine/Resets.lean ====
section
/-! DEFINITION. Resets, low-power states and retention (02 R54, R60 to R62, 20 R426 to R442, 21 R453 to R456, 22 R459,
R461, R467). -/

namespace Sys2Proof.Machine

/-! ## Power -/

/-- The module has power: a feed, or what its hold-up store still gives after both feeds fell (R437). -/
def State.powered (s : State) : Bool :=
  s.flag Fld.RST_POWER_FEED_A || s.flag Fld.RST_POWER_FEED_B || s.pw.h0.isSome

/-! ## The plant-key flush (R403, R428, R455) -/

/-- The retained-variable buffer committed (R436). -/
def State.saveRetained (s : State) : State :=
  if s.keyOk then
    let s := s.pw.retained.foldl (fun s u => s.keyPut (8 * u.1) u.2) s
    { s with
      pw := { s.pw with retained := [] }
      key := if s.pw.retained.isEmpty then s.key else { s.key with retTag := s.ownTag } }
  else s

/-- What was raised is admitted, the ingest queue and the retained variables are committed, at the hold-up rate. Before the
newest record is located nothing is numbered. (DEDUCED, log entry 38) -/
def State.flushKey (s : State) : State :=
  let s := if s.sn.located then
      let rs := s.sn.raised
      let s := { s with sn := { s.sn with raised := [] } }.admitAll rs
      s.commitAll s.sn.queue.length
    else s
  (s.saveAdapt).saveRetained

/-! ## Caldera (R60 to R62) -/

/-- The safe states of the image that ran are held ready by the shells. (DEDUCED, log entry 36) -/
def State.captureSafe (s : State) : State :=
  let s := (List.range 32).foldl (fun s n =>
    if s.ucOut n then
      s.setUc n { s.uc n with safe := s.fld Fld.UC_CFG_SAFE n, safeTo := (s.ucCfg n).safeVal }
    else s) s
  (List.range 48).foldl (fun s m =>
    if s.dcMode m = 3 then
      s.setDc m { s.dc m with safe := s.fld Fld.DC_CFG_SAFE m, safeTo := s.flag Fld.DC_CFG_SAFE_ON m }
    else s) s

/-- The safe state of universal output `n` (R61). -/
def State.ucSafe (s : State) (n : Nat) : State :=
  let c := s.uc n
  match c.safe with
  | 0 => (s.setUc n { c with safed := true }).setFlag Fld.UC_STAT_STAGE_ON false n
  | 1 => s
  | _ => s.setUc n { c with elec := c.safeTo, code := (s.ucCode n (Fl.ofBits c.safeTo)).toBits }

/-- The safe state of digital output `m` (R61): de-energize and a specific value become its command, which waits while the group
is OFF (R209). -/
def State.dcSafe (s : State) (m : Nat) : State :=
  let c := s.dc m
  match c.safe with
  | 0 => (s.setDc m { c with cmd := some false }).dcStage m
  | 1 => s
  | _ => (s.setDc m { c with cmd := some c.safeTo }).dcStage m

/-- Every output takes its safe state. -/
def State.applySafe (s : State) : State :=
  let s := (List.range 32).foldl (fun s n => if s.ucOut n then s.ucSafe n else s) s
  (List.range 48).foldl (fun s m => if s.dcMode m = 3 then s.dcSafe m else s) s

/-- CALDERA_HOLD_EXPIRE: the hold time, that of the image in use at reset entry, is over before the next commit (R60). -/
def execCalderaHoldExpire (s : State) : Res :=
  if s.pw.calderaHold && Instant.atOrBefore s.pw.holdEnd s.mt.frc then .next { s.applySafe with pw := { s.applySafe.pw with calderaHold := false } } else .next s

/-! ## What survives (R427, R432) -/

/-- Register names kept whole through a powered reset: the retention registers, the hold-up store and feeds, and frozen
windows as GY_CAP lists them. -/
def keptWhole : List RegName :=
  [.RST_CAUSE, .LK_FAULT, .AC_FAULT, .AC_FAULT_ADDR_LO, .AC_FAULT_ADDR_HI, .RST_POWER]

/-- Register names of the islands that a powered reset does not reset, the network island and the I/O shells: kept but for
their W1C latches and RC counters. -/
def keptShown : List RegName :=
  [.PN_PORT, .PN_DROP, .PN_PTP, .UC_CFG, .UC_STAT, .UC_DIAG, .UC_SLICE, .UC_HART, .DC_CFG, .DC_STAT, .DC_DIAG, .DC_GROUP]

/-- A register table with bits of every word cleared, in canonical form. -/
def clearRegs (n : RegName) (mask : Word) (t : Tab Word) : Tab Word :=
  t.foldl (fun u e => Tab.set (RegName.reset n e.1) u e.1 (e.2 &&& ~~~ mask)) []

/-- One register name carried over. -/
def keepName (old new : Tab (Tab Word)) (n : RegName) (mask : Word) : Tab (Tab Word) :=
  Tab.set [] new n.ctorIdx (clearRegs n mask (Tab.get [] old n.ctorIdx))

/-- ALIVE of the islands that keep running. -/
def aliveWords (t : Tab Word) : Tab Word :=
  (t.filter fun (e : Nat × Word) => (e.1 == 4 || decide (8 ≤ e.1)) && bitAt e.2 31).map fun e =>
    (e.1, 0x80000000#32)

/-- GY_CAP of the windows that are completely written. -/
def capWords (t : Tab Word) : Tab Word := t.filter fun (e : Nat × Word) => bitAt e.2 31 && bitAt e.2 30

/-- The registers after a powered reset. -/
def keepRegs (old : Tab (Tab Word)) : Tab (Tab Word) :=
  let t := keptWhole.foldl (fun t n => keepName old t n 0) []
  let t := keptShown.foldl (fun t n => keepName old t n (n.w1cMask ||| n.rcMask)) t
  let t := Tab.set [] t RegName.SUP_ISLAND.ctorIdx (aliveWords (Tab.get [] old RegName.SUP_ISLAND.ctorIdx))
  Tab.set [] t RegName.GY_CAP.ctorIdx (capWords (Tab.get [] old RegName.GY_CAP.ctorIdx))

/-- The first byte of the history area (R366). -/
def historyStart (img : PlantImage) : Nat := 0x122000000 + img.gyArchive + img.splitSize

/-- AC_CTL.LIFE shows the fuses. -/
def State.showLife (s : State) : State := if s.pw.fuseSealed then s.setFld Fld.AC_CTL_LIFE 2 else s

/-- The state after a reset's entry, before its own marks: what the module's hardware, its key and the outside keep. -/
def State.cleared (s : State) : State :=
  { pending := s.pending, out := s.out, lastRead := s.lastRead, lastBytes := s.lastBytes, free := s.free
    base := s.base, key := s.key }

/-- GY_STATUS.FROZEN counts the windows held. -/
def State.gyCount (s : State) : State :=
  s.setFld Fld.GY_STATUS_FROZEN ((List.range 16).filter fun i => s.flag Fld.GY_CAP_VALID i).length

/-- The state after the entry of a powered reset (R427, R432). (DEDUCED, log entry 37) -/
def State.clearPowered (s : State) : State :=
  { s.cleared with
    regs := keepRegs s.regs
    img := s.img
    mt := { frc := s.mt.frc, pdelay := s.mt.pdelay, logSync := s.mt.logSync, logPd := s.mt.logPd, bmca := s.mt.bmca }
    pw := { s.pw with wdogRun := false, released := false, removedRelease := false, healthy := false, retained := [] }
    bn := { inds := s.bn.inds.filter fun (e : Nat × Indication) => decide (8 ≤ e.1), claimOut := s.pw.calderaClaim }
    io := s.io
    gy := s.gy.atReset
    pn := { s.pn with sess := [] }
    mem := s.mem.filter fun c => decide (historyStart s.img ≤ c.1) }

/-- The state after the entry of an unpowered reset. -/
def State.clearUnpowered (s : State) : State :=
  { s.cleared with
    pw := { resetIn := s.pw.resetIn, boLatch := s.pw.boLatch, capBad := s.pw.capBad, inserted := s.pw.inserted
            removeClosed := s.pw.removeClosed, insFrc := s.pw.insFrc, fuseSealed := s.pw.fuseSealed
            contactOpen := s.pw.contactOpen } }

/-! ## Reset entry (R426 to R428) -/

/-- RST_CAUSE of a new reset. -/
def State.cause (s : State) (code : Nat) (caldera : Bool) (powered : Nat) : State :=
  let w : Word := 0
  let w := putBits w 31 28 code
  let w := putBit w 26 caldera
  let w := putBits w 7 0 powered
  s.setReg .RST_CAUSE 0 w

/-- The claim at reset entry (R62): dropped for a partner that stood by, else held by Caldera where authority was held.
(DESIGN CHOICE, log entry 134) -/
def State.resetClaim (s : State) : State :=
  if !s.bn.claimOut then s
  else if s.partnerStandby then { s.driveClaim false with pw := { s.pw with calderaClaim := false } }
  else { s with pw := { s.pw with calderaClaim := true } }

/-- The outputs at reset entry of a module that held authority: held by Caldera, and in their safe states at once where the
hold time is 0 s (R60, R61). -/
def State.resetOutputs (s : State) : State :=
  if (s.role = 1 ∨ s.role = 6) ∧ s.pw.calderaClaim then
    let s := s.captureSafe
    if s.img.holdTime = 0 then s.applySafe else { s with pw := { s.pw with calderaHold := true, holdEnd := s.mt.frc + BitVec.ofNat 64 s.img.holdTime } }
  else s

/-- A powered reset entered. A second one within a reset's duration restarts the duration, keeps the first code and sets
MULTI. -/
def State.resetPowered (s : State) (code : Nat) : State :=
  if !s.powered then s
  else if s.pw.inReset.isSome then
    { s with pw := { s.pw with rstFrc := s.mt.frc } }.setFlag Fld.RST_CAUSE_MULTI true
  else
    let n := s.fld Fld.RST_CAUSE_POWERED
    let held := s.pw.calderaClaim
    let s := (s.resetClaim).resetOutputs
    let caldera := s.pw.calderaClaim || held
    let s := (s.flushKey).clearPowered.gyCount
    let s := (s.cause code caldera (satAdd 255 n 1)).setFlag Fld.RST_POWER_DORMANT false
    let s := if s.pw.calderaClaim then s.driveClaim true else s
    { s with pw := { s.pw with inReset := some code, resetOut := true, rstFrc := s.mt.frc } }.lkStop.showLife

/-- An unpowered reset entered (R426): it replaces a powered one. -/
def State.resetUnpowered (s : State) (code : Nat) : State :=
  let s := s.clearUnpowered.cause code false 0
  { s with pw := { s.pw with inReset := some code, resetOut := true } }.lkStop.showLife

/-- POWER_ON_RESET: a feed rises while the brown-out latch is clear; with INSERTED open it is the insertion reset (R426,
R454). -/
def execPowerOnReset (f : Feed) (s : State) : Res :=
  if s.powered || s.pw.boLatch then .next s
  else
    let s := s.resetUnpowered (if s.pw.inserted then 1 else 8)
    match f with
    | .a => .next (s.setFlag Fld.RST_POWER_FEED_A true)
    | .b => .next (s.setFlag Fld.RST_POWER_FEED_B true)

/-- BROWN_OUT_RESET: an internal rail falls; the latch is set, and outputs reach the unpowered state (R58), as the
inputs do with their sink-share lines (R215). -/
def execBrownOutReset (s : State) : Res :=
  let s := s.sinkEndAll.resetUnpowered 2
  .next ({ s with pw := { s.pw with boLatch := true } }.setFlag Fld.RST_CAUSE_BO_LATCH true)

/-- BROWN_OUT_LATCH_EXPIRE: without rails the latch loses its state after at least 5 s. -/
def execBrownOutLatchExpire (s : State) : Res :=
  if s.powered then .next s else .next { s with pw := { s.pw with boLatch := false } }

/-- RESET_CONTACT. -/
def execResetContact (s : State) : Res :=
  if s.powered then
    let s := s.resetPowered 3
    .next { s with pw := { s.pw with resetIn := true } }
  else .next s

/-- RESET_CONTACT_RELEASE: the final 2 ms run. -/
def execResetContactRelease (s : State) : Res :=
  .next { s with pw := { s.pw with resetIn := false, rstFrc := if s.pw.resetIn then s.mt.frc else s.pw.rstFrc } }

/-- The watchdog runs, and this many ns have passed since the last kick (R429). -/
def State.unkicked (s : State) (ns : Nat) : Bool := s.pw.wdogRun && decide (ns ≤ (s.mt.frc - s.pw.kickFrc).toNat)

/-- WATCHDOG_RESET: 5 ms without a kick. -/
def execWatchdogReset (s : State) : Res := if s.unkicked 5000000 then .next (s.resetPowered 4) else .next s

/-- WATCHDOG_WARNING: 2.5 ms without a kick. -/
def execWatchdogWarning (s : State) : Res := if s.unkicked 2500000 then .next (s.ev 7) else .next s

/-- A value written to RST_WDOG.KICK (R429): only 0x5A39 restarts the watchdog. -/
def State.kick (s : State) (v : Nat) : State :=
  if v = 0x5A39 ∧ s.pw.wdogRun then { s with pw := { s.pw with kickFrc := s.mt.frc } } else s

/-- WDOG_KICK. -/
def execWdogKick (v : BitVec 16) (s : State) : Res := .next (s.kick v.toNat)

/-- LOCKSTEP_FATAL_RESET: 100 µs after a fatal declaration (R344). -/
def execLockstepFatalReset (s : State) : Res :=
  if s.bn.failed && (List.range 5).any (fun i => s.lkMode i == 8) && decide (100000 ≤ (s.mt.frc - s.bn.failAt).toNat) then
    .next (s.resetPowered 5)
  else .next s

/-- Firmware or the recovery ROM runs and can order a reset. -/
def State.softwareRuns (s : State) : Bool := (s.boot.fwRunning || s.phase == 0xE) && s.pw.inReset.isNone

/-- SUPERVISOR_RESET: RST_CTL order 0x1. -/
def execSupervisorReset (s : State) : Res := if s.softwareRuns then .next (s.resetPowered 6) else .next s

/-- PARTNER_RESET_RECEIVED: accepted only in maintenance. -/
def execPartnerResetReceived (s : State) : Res := if s.role = 5 then .next (s.resetPowered 7) else .next s

/-- INSERTION_RESET_END: INSERTED has been closed for 50 ms; start-up begins at PG (R454). -/
def execInsertionResetEnd (s : State) : Res :=
  if s.pw.inReset = some 8 ∧ s.pw.inserted ∧ 50000000 ≤ (s.mt.frc - s.pw.insFrc).toNat then
    .next { s with pw := { s.pw with inReset := none, pgFrc := s.mt.frc } }.lkStart
  else .next s

/-- RESET_DURATION_END: 2 ms after the latest entry, or after RESET_IN released, RESET_OUT ends; start-up runs from the row at
PG + 20 ms (R54, R426). -/
def execResetDurationEnd (s : State) : Res :=
  match s.pw.inReset with
  | some c =>
    if 3 ≤ c ∧ c ≤ 7 ∧ !s.pw.resetIn ∧ 2000000 ≤ (s.mt.frc - s.pw.rstFrc).toNat then 
      .next { s with pw := { s.pw with inReset := none, resetOut := false, pgFrc := s.mt.frc - 20000000#64 } }.lkStart
    else .next s
  | none => .next s

/-! ## Feeds and Hold-up (R436 to R438, R459, R461) -/

def feedFlag : Feed → Field
  | .a => Fld.RST_POWER_FEED_A
  | .b => Fld.RST_POWER_FEED_B

def feedVolts : Feed → Field
  | .a => Fld.RST_POWER_VOLTS_A
  | .b => Fld.RST_POWER_VOLTS_B

def feedNum : Feed → Nat
  | .a => 0
  | .b => 1

/-- A feed lost: its source and record; with the other gone too, H0 and Sinter's whole write path. What voltage is left
the command does not say: the register takes a free value. -/
def State.loseFeed (s : State) (f : Feed) : State :=
  if !s.flag (feedFlag f) then s
  else
    let s := s.setFlag (feedFlag f) false
    let s := (s.setFld (feedVolts f) (Config.measured (feedNum f) s.free % 256)).draw
    let s := (s.note islSup 0xF009 [feedNum f]).ev (feedNum f)
    if s.flag Fld.RST_POWER_FEED_A || s.flag Fld.RST_POWER_FEED_B then s
    else { s with pw := { s.pw with h0 := some s.mt.frc } }.setFlag Fld.SN_STATUS_FLUSH true

/-- FEED_LOST. -/
def execFeedLost (f : Feed) (s : State) : Res := .next (s.loseFeed f)

/-- FEED_OVERVOLTAGE: a disconnected feed counts as lost (R459). -/
def execFeedOvervoltage (f : Feed) (s : State) : Res := .next (s.loseFeed f)

/-- A feed carries the module again: in Hold-up its 10 ms begin (R438); before the 50 µs of Hold-up no loss remains. -/
def State.feedCarries (s : State) : State :=
  if s.flag Fld.RST_POWER_FEED_A || s.flag Fld.RST_POWER_FEED_B || s.pw.h0.isNone then s
  else if s.flag Fld.RST_POWER_HOLDUP then { s with pw := { s.pw with feedFrc := s.mt.frc } }
  else { s with pw := { s.pw with h0 := none } }.setFlag Fld.SN_STATUS_FLUSH false

/-- FEED_RETURN, in millivolts. -/
def execFeedReturn (f : Feed) (volts : Nat) (s : State) : Res :=
  if !s.powered then .next s
  else
    let s := s.setFld (feedVolts f) (sat 255 (volts / 200))
    if s.flag (feedFlag f) then .next s
    else
      let s := s.feedCarries
      .next (((s.setFlag (feedFlag f) true).note islSup 0xF00A [feedNum f]).ev (feedNum f))

/-- This many ns have passed since H0. -/
def State.sinceH0 (s : State) (ns : Nat) : Bool := s.pw.h0.any fun f => decide (ns ≤ (s.mt.frc - f).toNat)

/-- HOLDUP_ENTER, 50 µs after H0: what the queue and the retained-variable buffer hold is committed at the hold-up rate, within 1 ms of H0
(R33, R403, R437); the role acts as R301 gives. -/
def execHoldupEnter (s : State) : Res :=
  if !s.sinceH0 50000 || s.flag Fld.RST_POWER_FEED_A || s.flag Fld.RST_POWER_FEED_B || s.flag Fld.RST_POWER_HOLDUP then
    .next s
  else
    let s := (((s.setFlag Fld.RST_POWER_HOLDUP true).note islSup 0xF00B []).ev 3).flushKey
    if s.role = 1 ∧ s.partnerReady then
      .next { s.release with pw := { s.release.pw with released := true } }
    else .next s

/-- HOLDUP_KEY_WRITES_END: by H0 + 18 ms the queue and the retained variables are committed, and key writes end. -/
def execHoldupKeyWritesEnd (s : State) : Res :=
  if !s.sinceH0 18000000 then .next s
  else
    let s := ((s.commitAll s.sn.queue.length).saveAdapt).saveRetained
    .next (({ s with pw := { s.pw with keyEnd := true } }.snShow).epochHolds)

/-- HOLDUP_END: a feed has held for 10 ms. A module that kept a role goes on, as a start-up does; one that released, or held none
after its role decision, takes a supervisor-ordered reset (R438). -/
def execHoldupEnd (s : State) : Res :=
  if !s.flag Fld.RST_POWER_HOLDUP || !(s.flag Fld.RST_POWER_FEED_A || s.flag Fld.RST_POWER_FEED_B) ||
      decide ((s.mt.frc - s.pw.feedFrc).toNat < 10000000) then .next s
  else
    let s := (((s.setFlag Fld.RST_POWER_HOLDUP false).note islSup 0xF00C []).ev 3).flushKey
    let s := s.setFlag Fld.SN_STATUS_FLUSH false
    let s := { s with pw := { s.pw with h0 := none, keyEnd := !s.pw.inserted } }.snShow
    if s.pw.released || (s.role == 0 && s.phase == 8) then .next (s.resetPowered 6) else .next s

/-- HOLDUP_CHARGE_CROSS. -/
def execHoldupChargeCross (percent : Nat) (s : State) : Res :=
  let was := decide (90 ≤ s.fld Fld.RST_POWER_CHARGE)
  let now := decide (90 ≤ percent)
  let s := s.setFld Fld.RST_POWER_CHARGE (sat 100 percent)
  let s := s.setFlag Fld.RST_POWER_HOLDUP_OK (now && !s.pw.capBad)
  .next (if was = now then s else (s.note islSup 0xF00E [percent]).ev 2)

/-- HOLDUP_CAP_MEASURE: a store more than 15 % below clears HOLDUP_OK permanently (R461). -/
def execHoldupCapMeasure (fall : Nat) (s : State) : Res :=
  if 150 < fall ∧ !s.pw.capBad then
    let s := { s with pw := { s.pw with capBad := true } }.setFlag Fld.RST_POWER_HOLDUP_OK false
    .next ((s.note islSup 0xF010 [fall]).ev 2)
  else .next s

/-- RETAINED_COMMIT: at a standard boundary (R436). -/
def execRetainedCommit (s : State) : Res := .next ((s.saveAdapt).saveRetained)

/-! ## Dormant (R433 to R435) -/

/-- A Dormant order is carried out: in maintenance in a Z9B-P, or refused, without authority. -/
def State.mayDormant (s : State) : Bool :=
  s.pw.inReset.isNone && !s.auth && !s.flag Fld.RST_POWER_DORMANT &&
  ((s.pair && s.role == 5) || s.flag Fld.SUP_START_REFUSAL)

/-- Dormant entered. -/
def State.toDormant (s : State) : State :=
  let s := (s.stopLaunch).setFlag Fld.RST_POWER_DORMANT true
  let s := { s with pw := { s.pw with healthy := false }, ln := { s.ln with tasks := [] } }
  (s.note islSup 0xF00D []).ev 10

/-- ENTER_DORMANT: RST_CTL order 0x2. -/
def execEnterDormant (s : State) : Res := if s.mayDormant && s.softwareRuns then .next s.toDormant else .next s

/-! ## Temperature (R467) -/

/-- TEMP_CHECK, every 10 ms: above 95 °C its source; above 115 °C for 1 s the module declares itself failed. -/
def execTempCheck (temp : Int) (s : State) : Res :=
  let s := if 95 < temp then s.ev 9 else s
  if temp ≤ 115 then .next { s with pw := { s.pw with hotFrc := none } }
  else
    let since := s.pw.hotFrc.getD s.mt.frc
    let s := { s with pw := { s.pw with hotFrc := some since } }
    if !s.bn.failed && decide (1000000000 ≤ (s.mt.frc - since).toNat) then
      .next (s.note islSup 0xF00F []).declareFailed
    else .next s

/-! ## The event controller (R439, R440) -/

/-- EVENT_LATCH: a raised source is latched and its level drops. -/
def execEventLatch (n : Fin 128) (s : State) : Res :=
  if s.levels.contains n.val then
    let g := n.val / 16
    let p := putBit (BitVec.ofNat 16 (s.fld Fld.RST_EV_PEND_PEND g)) (n.val % 16) true
    .next ({ s with levels := s.levels.erase n.val }.setFld Fld.RST_EV_PEND_PEND p.toNat g)
  else .next s

/-- A mailbox source is due to the application: as receiver at a RING, as sender at an acknowledge (R384, R440). -/
def State.mbForApp (s : State) (n : Nat) : Bool :=
  let st := s.fld Fld.MB_STAT_STATE n
  if n < 8 then st == 2 else if n < 16 then st == 1 else decide (24 ≤ n) && st == 1

/-- The source interrupts the application pairs: its APP bit alone is set, or it is a mailbox's and due to them. -/
def State.routedApp (s : State) (n : Nat) : Bool :=
  if 16 ≤ n ∧ n < 48 then s.mbForApp (n - 16)
  else
    bitAt (BitVec.ofNat 16 (s.fld Fld.RST_EV_ROUTE_APP (n / 16))) (n % 16) &&
    !bitAt (BitVec.ofNat 16 (s.fld Fld.RST_EV_ROUTE_SUP (n / 16))) (n % 16)

/-! ## Staging (R301, R453 to R456) -/

/-- What REMOVE opening makes the module do. (DEDUCED, log entry 39) -/
def State.removeOpens (s : State) : State :=
  let s := { s with pw := { s.pw with removeClosed := false } }.ev 6
  if s.role = 1 then
    if s.partnerReady then { s.release with pw := { s.release.pw with removedRelease := true } }
    else if s.pair then s.conflict Fld.BN_STATUS_REMOVE_REFUSED 2
    else s
  else if s.role = 2 ∨ s.role = 3 ∨ s.role = 4 then
    let s := s.joinAgain
    { s with bn := { s.bn with joining := false } }
  else s

/-- REMOVE_OPEN. -/
def execRemoveOpen (s : State) : Res := if s.pw.removeClosed then .next s.removeOpens else .next s

/-- REMOVE_CLOSE: a module that released takes a supervisor-ordered reset; a standby joins. -/
def execRemoveClose (s : State) : Res :=
  if s.pw.removeClosed then .next s
  else
    let was := s.pw.removedRelease
    let s := { s with pw := { s.pw with removeClosed := true, removedRelease := false } }
    if was then .next (s.resetPowered 6)
    else if s.pair && s.role == 0 && s.phase == 8 then .next s.joinAgain
    else .next s

/-- CLAIM_OUT has parted with the S contacts: the base returns no claim, and no unit shows this module's authority (R455). -/
def State.claimParts (s : State) : State :=
  let s := s.claimAbsent
  (List.range 18).foldl (fun s i =>
    if s.shows i then
      let s := { s with bn := { s.bn with inds := Tab.set Indication.unclaimed s.bn.inds i .unclaimed } }
      if i = 5 then s.bnFollows .unclaimed else s.unitFollows i true false
    else s) s

/-- INSERTED_OPEN: the S contacts part, the sink-share lines with them (R215); queue and buffer committed, no key unit begun afterwards, any hold of Caldera ended, the outputs
undriven (R196); with REMOVE still closed the module first acts as for its opening (R455). -/
def execInsertedOpen (s : State) : Res :=
  if !s.pw.inserted then .next s
  else
    let s := (if s.pw.removeClosed then s.removeOpens else s).sinkEndAll
    let s := s.flushKey
    let held := s.pw.calderaClaim
    let s := { s with pw := { s.pw with inserted := false, keyEnd := true, calderaHold := false, calderaClaim := false } }
    .next ((((if held then s.driveClaim false else s).claimParts).snShow).epochHolds)

/-- INSERTED_CLOSE: the 50 ms of insertion reset begin. -/
def execInsertedClose (s : State) : Res :=
  if s.pw.inserted then .next s
  else .next { s with pw := { s.pw with inserted := true, insFrc := s.mt.frc, keyEnd := s.pw.h0.isSome && s.pw.keyEnd } }

end Sys2Proof.Machine
end

