-- ==== Sys2Proof/Machine/Geyser.lean ====
section
/-! DEFINITION. Geyser acquisition (09): capture channels and their blocks, reduction, rate levels, conditions and
patterns, trigger sets, frozen windows and readout. -/

namespace Sys2Proof.Machine

/-! ## Channels as configured (R220 to R224, R232) -/

def State.gy1 (s : State) (c : Nat) : GyChan := Tab.get {} s.gy.chans c
def State.setGy1 (s : State) (c : Nat) (x : GyChan) : State := { s with gy := { s.gy with chans := Tab.set {} s.gy.chans c x } }
def State.gyCfg (s : State) (c : Nat) : Option GyChCfg := s.img.gyCh.find? fun x => x.ch.val == c
def State.gySetOf (s : State) (k : Nat) : Option GySetCfg := s.img.gySet.find? fun x => x.k.val == k
def State.gyRun (s : State) (k : Nat) : GyRun := Tab.get {} s.gy.sets k
def State.setGyRun (s : State) (k : Nat) (x : GyRun) : State := { s with gy := { s.gy with sets := Tab.set {} s.gy.sets k x } }

/-- A source's base period in thirds of a nanosecond. -/
def State.gyBase3 (s : State) (g : GyChCfg) : Nat :=
  match g.source with
  | 1 => 10000
  | 2 => 3000
  | 3 =>
    let cls := if g.index / 262144 = 0 then (s.pointCfg (g.index % 262144)).cls else (s.subCfg (g.index % 65536)).cls
    3 * Config.period cls
  | _ => 150000

/-- The time base of a channel's samples: the one that its slice names, PT for records and loop outputs (R84, R223). -/
def gyTb (i : PlantImage) (g : GyChCfg) : Nat :=
  if g.source = 1 then i.sliceTb.getD (g.index / 8) 0 else if g.source = 2 then i.sliceTb.getD g.index 0 else 0

/-- Bytes of one stored sample. -/
def gyBytes (g : GyChCfg) : Nat :=
  match g.mode with
  | 0 => if g.source = 1 then 4 else if g.source = 2 then 1 else 8
  | 1 => 8
  | _ => if g.source = 2 then 4 else 12

/-- Nanoseconds of an interval at reduction factor 2^f. -/
def gyIval (g : GyChCfg) (f : Nat) : Nat := max 1 (gyParam g) * 2 ^ f

/-- STEP of a block at reduction factor 2^f: D times the factor, or the interval in µs. -/
def gyStep (g : GyChCfg) (f : Nat) : Nat := if g.mode = 0 then max 1 (gyParam g) * 2 ^ f else gyIval g f / 1000

/-- The distance of two stored samples, in thirds of a nanosecond. -/
def State.gyGap3 (s : State) (g : GyChCfg) (step : Nat) : Nat := if g.mode = 0 then s.gyBase3 g * step else 3000 * step

/-- log2 of the reduction factor of a channel at the present level (R231). -/
def State.gyFactor (s : State) (g : GyChCfg) : Nat :=
  if 3 ≤ g.prio then 0 else min 4 (s.fld Fld.GY_STATUS_LEVEL - 4 * g.prio)

/-- The shell whose terminals a channel samples is alive. -/
def State.gyAlive (s : State) (g : GyChCfg) : Bool :=
  if g.source = 1 then s.alive (8 + g.index / 8) else if g.source = 2 then s.alive (8 + g.index) else true

/-- The channel takes samples: configured, after the first commit, not in Dormant; records and loop outputs only with
authority (R220). -/
def State.gyRuns (s : State) (g : GyChCfg) : Bool :=
  s.flag Fld.GY_CH_EN g.ch.val && s.boot.committed && s.pw.inReset.isNone && !s.flag Fld.RST_POWER_DORMANT &&
  (decide (g.source ≤ 2) || s.role == 1)

/-- Shell loading writes the channels' and sets' registers (09, registers). -/
def State.gyLoad (s : State) : State :=
  let s := s.img.gyCh.foldl (fun s g =>
    let w : Word := putBits (putBits (putBits 0 28 27 g.prio) 26 25 g.mode) 24 21 g.source
    s.setReg .GY_CH g.ch.val (putBit (putBit (putBit w 29 g.lossless) 30 g.triggered) 31 true)) s
  s.img.gySet.foldl (fun s k => s.setFld Fld.GY_SET_SET k.num k.k.val) s

/-! ## The archive (R225 to R227) -/

/-- Blocks of a window in the archive: its own, or while it freezes those that its samples will fill. -/
def State.gyWinBlocks (s : State) (w : GyWin) : Nat :=
  w.blocks.length + w.part.foldl (fun n (p : Nat × List GyRingS) => n + (match s.gyCfg p.1 with
    | some g => (p.2.length * gyBytes g + 4031) / 4032
    | none => 0)) 0

/-- Blocks of frozen windows in the archive. -/
def State.gyFrozenBlocks (s : State) : Nat := s.gy.wins.foldl (fun n (w : Nat × GyWin) => n + s.gyWinBlocks w.2) 0

/-- Blocks the archive holds. -/
def State.gyCap (s : State) : Nat := s.img.gyArchive / 4096

/-- The channel keeps unread blocks. -/
def State.gyKeeps (s : State) (c : Nat) : Bool := s.flag Fld.GY_CH_LOSSLESS c

/-- The oldest continuous block that may go: of a RING channel, or read. -/
def State.gyVictim (s : State) : Option (Nat × GyBlk × Bool) := s.gy.arch.find? fun b => !s.gyKeeps b.1 || b.2.2

/-- GY_LOST advanced: source 100. -/
def State.gyLose (s : State) (f : Field) : State := (s.bump f).ev 100

/-- One block's room made; none where every block must stay. -/
def State.gyEvict (s : State) : Option State :=
  match s.gyVictim with
  | none => none
  | some b =>
    let s := { s with gy := { s.gy with arch := s.gy.arch.erase b } }
    some (if b.2.2 then s else s.gyLose Fld.GY_LOST_OVERWRITTEN)

/-- Unread blocks of LOSSLESS channels in the archive. -/
def State.gyUnread (s : State) : Nat := (s.gy.arch.filter fun b => s.gyKeeps b.1 && !b.2.2).length

/-- Since when the unread share is above 75 %, and when a fill last stood at 25 % or more (R231). -/
def State.gyMarks (s : State) (was : Nat) : State :=
  let high := if 75 * s.gyCap < 100 * s.gyUnread then some (s.gy.high.getD s.pt) else none
  let up := decide (25 ≤ was) || decide (25 * s.gyCap ≤ 100 * s.gyUnread) || decide (25 ≤ s.fld Fld.GY_STATUS_STAGE_FILL)
  { s with gy := { s.gy with high := high, notLow := if up then some s.pt else s.gy.notLow } }

/-- GY_STATUS.ARCH_FILL: their share, in %. -/
def State.gyFilled (s : State) : State :=
  (s.setFld Fld.GY_STATUS_ARCH_FILL (sat 100 (100 * s.gyUnread / max 1 s.gyCap))).gyMarks (s.fld Fld.GY_STATUS_ARCH_FILL)

/-- Blocks that the staging area holds: 2 MiB (R226). -/
def stageCap : Nat := 512

/-- A block goes from the staging area to the archive: none where every block there must stay. -/
def State.gyPass (s : State) (c : Nat) (b : GyBlk) : Option State :=
  let put := fun (s : State) => ({ s with gy := { s.gy with arch := s.gy.arch ++ [(c, b, false)] } } : State).gyFilled
  if s.gy.arch.length + s.gyFrozenBlocks < s.gyCap then some (put s)
  else s.gyEvict.map put

/-- A closed block passes through the staging area (R226); where nothing in the archive may be overwritten it waits there, and where
it finds no room its samples are lost, with those lost before it. (DESIGN CHOICE, log entry 128) -/
def State.gyArchive (s : State) (c : Nat) (b : GyBlk) : State :=
  match (if s.gy.stage.isEmpty then s.gyPass c b else none) with
  | some s => s
  | none =>
    if s.gy.stage.length < stageCap then { s with gy := { s.gy with stage := s.gy.stage ++ [(c, b)] } }
    else s.setGy1 c { s.gy1 c with lost := (s.gy1 c).lost + b.lost + b.count }

/-- Staged blocks, oldest first, go where room has come. -/
def State.gyDrain (s : State) : Nat → State
  | 0 => s
  | n + 1 =>
    match s.gy.stage with
    | [] => s
    | b :: bs =>
      match s.gyPass b.1 b.2 with
      | some t => ({ t with gy := { t.gy with stage := bs } } : State).gyDrain n
      | none => s

/-- The open block closed (R225). (DEDUCED, log entry 68) -/
def State.gyClose (s : State) (c : Nat) : State :=
  match (s.gy1 c).cur with
  | none => s
  | some b => (s.setGy1 c { s.gy1 c with cur := none }).gyArchive c b

/-- The block sequence of a channel taken, with the samples lost before the block; a drop at level 12 is counted with the
block that follows it. -/
def State.gyOpen (s : State) (c : Nat) : State × Nat × Nat :=
  let x := s.gy1 c
  let s1 := s.setGy1 c { x with seq := (x.seq + 1) % 4294967296, lost := 0, drop := false }
  (if x.drop then s1.gyLose Fld.GY_LOST_DROPS else s1, x.seq, x.lost)

/-! ## Storing samples -/

/-- How long a ring reaches back: PRE, FA and 1 ms of the sets the channel belongs to (R232). -/
def State.gyHorizon (s : State) (c : Nat) : Nat :=
  (s.img.gySet.filter fun k => k.chans.any fun x => x.val == c).foldl (fun n k => max n (k.pre + k.fa + 1000000)) 0

def State.gyWin (s : State) (i : Nat) : GyWin := Tab.get {} s.gy.wins i
def State.setGyWin (s : State) (i : Nat) (w : GyWin) : State := { s with gy := { s.gy with wins := Tab.set {} s.gy.wins i w } }

/-- The sample lies in the window of `w`, of set `k`, from T − PRE to T + POST. -/
def inWindow (k : GySetCfg) (w : GyWin) (x : GyRingS) : Bool :=
  Instant.atOrBefore (w.t - BitVec.ofNat 64 k.pre) x.t && Instant.atOrBefore x.t (w.t.plus k.post)

/-- The window that freezes and takes a sample of channel `c`. -/
def State.gyTaking (s : State) (c : Nat) (x : GyRingS) : Option Nat :=
  (List.range 16).find? fun i =>
    let w := s.gyWin i
    s.flag Fld.GY_CAP_VALID i && !w.complete &&
    (match s.gySetOf w.k with
     | some k => k.chans.any (fun y => y.val == c) && inWindow k w x
     | none => false)

/-- A stored sample of a TRIGGERED channel enters the window that freezes, or its ring. -/
def State.gyRing (s : State) (c : Nat) (x : GyRingS) : State :=
  let g := s.gy1 c
  let y := { x with lost := g.lost, top := g.drop }
  match s.gyTaking c x with
  | some i =>
    let w := s.gyWin i
    (s.setGyWin i { w with part := Tab.set [] w.part c (Tab.get [] w.part c ++ [y]) }).setGy1 c { g with lost := 0, drop := false }
  | none =>
    let old := s.pt - BitVec.ofNat 64 (s.gyHorizon c)
    s.setGy1 c { g with ring := (g.ring ++ [y]).filter fun y => !Instant.before y.t old, lost := 0, drop := false }

/-- A stored sample of a CONTINUOUS channel enters the open block, or a new one. -/
def State.gyAppend (s : State) (c : Nat) (g : GyChCfg) (x : GyRingS) : State :=
  let s := match (s.gy1 c).cur with
    | some b => if (s.gy1 c).cut || b.step != x.step || b.factor != x.factor then s.gyClose c else s
    | none => s
  let s := s.setGy1 c { s.gy1 c with cut := false }
  let s := match (s.gy1 c).cur with
    | some b =>
      s.setGy1 c { s.gy1 c with cur := some { b with count := b.count + 1, bad := b.bad || x.bad, data := b.data ++ x.data } }
    | none =>
      let o := s.gyOpen c
      o.1.setGy1 c { o.1.gy1 c with
        cur := some { mode := g.mode, source := g.source, index := g.index, tb := gyTb s.img g, first := x.t, firstTs := x.ts, seq := o.2.1, lost := o.2.2, step := x.step, count := 1,
                      factor := x.factor, bad := x.bad, data := x.data } }
  match (s.gy1 c).cur with
  | some b => if 4032 / gyBytes g ≤ b.count then s.gyClose c else s
  | none => s

/-- Instant `t` of PT, at hand now, in the channel's time base (R223). -/
def State.gyTs (s : State) (g : GyChCfg) (t : Instant) : Instant :=
  if g.source ≤ 2 then s.timeOf (gyTb s.img g) - (s.pt - t) else t

/-- A sample stored; `ts` is its instant `t` in the channel's time base. -/
def State.gyStore (s : State) (c : Nat) (g : GyChCfg) (t ts : Instant) (data : List Byte) (f : Nat) (bad : Bool) : State :=
  let x : GyRingS := { t := t, ts := ts, data := data, step := gyStep g f, factor := f, bad := bad, lost := 0 }
  if g.triggered then s.gyRing c x else s.gyAppend c g x

/-- Level 12 with the staging area full: a sample that would be stored is dropped (R231). -/
def State.gyTop (s : State) : Bool := s.fld Fld.GY_STATUS_LEVEL == 12 && decide (100 ≤ s.fld Fld.GY_STATUS_STAGE_FILL)

/-- A sample dropped: it is counted, and the block closes (R225). -/
def State.gyDrop (s : State) (c : Nat) (atTop : Bool) : State :=
  let s := s.gyClose c
  s.setGy1 c { s.gy1 c with lost := (s.gy1 c).lost + 1, drop := (s.gy1 c).drop || atTop }

/-! ## What a sample is -/

/-- A sample as conditions and storage see it: its VALUE as binary32 where it is one, its value as a number where it is any, its
bits, its stored bytes in RAW, and whether it has GOOD set. -/
structure GyWord where
  v    : Option F32 := none
  num  : Option Fl := none
  bits : Option Byte := none
  raw  : List Byte := []
  good : Bool := true
  deriving DecidableEq, Repr

/-- The number that a record's VALUE is (R13): none for a bit set. -/
def recNum (r : W64) : Option Fl :=
  match recKind r with
  | 1 => some (Fl.ofBits (recVal r))
  | 2 | 3 | 4 | 6 => some (.fin (decide ((recVal r).toInt < 0)) (recVal r).toInt.natAbs 0)
  | _ => none

/-- The sample a command brings, none where it is missing. A universal sample is its converter word through the chain of
R176 without smoothing. (DEDUCED, log entry 65) -/
def State.gyWord (s : State) (g : GyChCfg) (v : GySample) : Option GyWord :=
  match g.source, v with
  | 1, .word w =>
    if s.gyAlive g then
      let q := s.ucValue g.index (Fl.ofInt w.toInt)
      let v := q.1.toBits
      some { v := some v, num := some q.1, raw := bytesOf v 4, good := !q.2 && s.ucMarks g.index == 0 && !(s.uc g.index).oos }
    else none
  | 2, .bits b => if s.gyAlive g then some { bits := some b, raw := [b] } else none
  | 3, .record =>
    match s.refGet g.index with
    | some r =>
      if kindMissing r (s.refKind g.index) then none
      else
        some { v := if recKind r = 1 then some (recVal r) else none, num := recNum r, bits := some (BitVec.ofNat 8 (bits r 7 0))
               raw := bytesOf r 8, good := recBit r qGood }
    | none => none
  | 4, .record =>
    match s.loopAt g.index with
    | some b =>
      let r := s.piGet (ldOut (s.descAt b) % 262144)
      let w : W64 := putBits (putBits (putBits 0 63 32 (recVal r).toNat) 31 16 (bits (s.blkGet (b + 2)) 239 224)) 15 8 (recQ r)
      some { v := some (recVal r), num := some (Fl.ofBits (recVal r)), raw := bytesOf w 8, good := recBit r qGood }
    | none => none
  | _, _ => none

/-! ## Conditions (R229) -/

/-- The present state of condition `n`. -/
def State.gyCond (s : State) (n : Nat) : Bool :=
  if n < 32 then bitAt (s.reg .GY_COND_LO) n else bitAt (s.reg .GY_COND_HI) (n - 32)

def State.setGyCond (s : State) (n : Nat) (b : Bool) : State :=
  if n < 32 then s.setReg .GY_COND_LO 0 (putBit (s.reg .GY_COND_LO) n b)
  else s.setReg .GY_COND_HI 0 (putBit (s.reg .GY_COND_HI) (n - 32) b)

/-- A condition after a sample of source `src`; `was` its state, `prev` the sample before. What the sample does not show
leaves it; only records and loop outputs can be not GOOD (R229). -/
def condNow (c : CondCfg) (src : Nat) (was : Bool) (prev : Option Fl) (x : GyWord) : Bool :=
  let th := Fl.ofBits c.thr
  let hy := Fl.ofBits c.hyst
  match c.kind with
  | .above =>
    match x.num with
    | some v => Fl.lt th v || (was && !Fl.lt v (Fl.sub th hy))
    | none => was
  | .below =>
    match x.num with
    | some v => Fl.lt v th || (was && !Fl.lt (Fl.add th hy) v)
    | none => was
  | .rise =>
    match x.num, prev with
    | some v, some p => Fl.le p th && Fl.lt th v
    | _, _ => false
  | .fall =>
    match x.num, prev with
    | some v, some p => Fl.le th p && Fl.lt v th
    | _, _ => false
  | .bitSet b => match x.bits with
    | some y => bitAt y b.val
    | none => was
  | .bitClear b => match x.bits with
    | some y => !bitAt y b.val
    | none => was
  | .notGood => decide (3 ≤ src) && !x.good

/-- The conditions now match a pattern unit. -/
def State.gyMatch (s : State) (p : PatternCfg) : Bool :=
  let w : W64 := BitVec.ofNat 64 ((s.reg .GY_COND_LO).toNat + 4294967296 * (s.reg .GY_COND_HI).toNat)
  (w &&& p.mask) == (p.val &&& p.mask)

/-- A pattern unit once its conditions match or not at `now`: it looks at the 1 µs ticks of PT alone, so what begins and
ends between two ticks is not seen (R230). -/
def patStep (m : Bool) (now : Instant) (p : GyPat) : GyPat :=
  let tick := nextAt 1000 0 now
  match m, p.since, p.off with
  | true, some _, none => p
  | true, some _, some o => if Instant.atOrBefore now o then { p with off := none } else { since := some tick }
  | true, none, _ => { since := some tick }
  | false, none, _ => {}
  | false, some _, some _ => p
  | false, some t, none => if Instant.atOrBefore now t then {} else { p with off := some tick }

/-- The first tick of a match that has held for `qual` µs and has not fired (R230). -/
def patFires (qual : Nat) (now : Instant) (p : GyPat) : Option Instant :=
  match p.since with
  | none => none
  | some t =>
    let f := t.plus (1000 * qual)
    let held := match p.off with
      | some o => Instant.before f o
      | none => true
    if !p.fired && held && Instant.atOrBefore f now then some t else none

def State.gyPat (s : State) (u : Nat) : GyPat := Tab.get {} s.gy.pats u
def State.setGyPat (s : State) (u : Nat) (p : GyPat) : State := { s with gy := { s.gy with pats := Tab.set {} s.gy.pats u p } }

/-- A pattern unit looks at the conditions. -/
def State.gyPatNow (s : State) (p : PatternCfg) : State :=
  s.setGyPat p.u.val (patStep (s.gyMatch p) s.pt (s.gyPat p.u.val))

/-- A condition of channel `c` on a sample. -/
def State.gyCondNow (s : State) (c src : Nat) (prev : Option Fl) (x : GyWord) (k : CondCfg) : State :=
  if k.ch.val = c then s.setGyCond k.n.val (condNow k src (s.gyCond k.n.val) prev x) else s

/-- Every condition of a channel on a sample, and the pattern units after it. -/
def State.gyConds (s : State) (c src : Nat) (x : GyWord) : State :=
  let prev := (s.gy1 c).prev
  let s := s.img.gyCond.foldl (fun s k => s.gyCondNow c src prev x k) s
  let s := s.img.gyPat.foldl (fun s p => s.gyPatNow p) s
  match x.num with
  | some v => s.setGy1 c { s.gy1 c with prev := some v }
  | none => s

/-! ## Samples (R221, R223) -/

/-- A sample that enters an interval, or a missing one. Records without GOOD do not enter; every sample that is missing or
not GOOD marks the interval (R221, R222). -/
def ivTake (v : GyIv) (src : Nat) (x : Option GyWord) : GyIv :=
  match x with
  | none => { v with bad := true }
  | some x =>
    if src = 2 then
      let b := x.bits.getD 0
      { v with n := v.n + 1, and_ := v.and_ &&& b, or_ := v.or_ ||| b }
    else
      match x.v with
      | some w =>
        if src = 3 ∧ !x.good then { v with bad := true }
        else
          let f := Fl.ofBits w
          let v := { v with bad := v.bad || !x.good }
          let v := if f.finite then { v with sum := v.sum + flExact f } else { v with odd := (Fl.add (Fl.ofBits v.odd) f).toBits }
          { v with
            n := v.n + 1
            mn := if v.n = 0 then w else (Fl.min (Fl.ofBits v.mn) f).toBits
            mx := if v.n = 0 then w else (Fl.max (Fl.ofBits v.mx) f).toBits }
      | none => { v with bad := true }

/-- The mean of an interval's samples: their exact mean, rounded once. (DEDUCED, log entry 66) -/
def ivMean (v : GyIv) : F32 :=
  let o := Fl.ofBits v.odd
  if o.isZero then (Fl.div (.fin (decide (v.sum < 0)) v.sum.natAbs (-149)) (.fin false v.n 0)).toBits else o.toBits

/-- The stored bytes of a closed interval, and what the adaptation layer reads. An interval that no sample entered has no
value: it is a free value. -/
def State.gyReduced (s : State) (g : GyChCfg) (v : GyIv) (bad reduced : Bool) : List Byte × GyFeed :=
  let st : Word := putBit (putBit (putBits 0 29 0 v.n) 30 bad) 31 reduced
  let none3 := fun (k : Nat) => BitVec.ofNat 32 (Config.measured (64 + k) s.free)
  if g.mode = 1 then
    let m := if v.n = 0 then none3 0 else ivMean v
    (bytesOf st 4 ++ bytesOf m 4, { mn := m, mx := m, bad := bad || reduced })
  else if g.source = 2 then
    let o := if v.n = 0 then BitVec.ofNat 8 (Config.measured 64 s.free) else v.or_
    let a := if v.n = 0 then BitVec.ofNat 8 (Config.measured 65 s.free) else v.and_
    ([0, 0, a, o], { bad := bad || reduced })
  else
    let mn := if v.n = 0 then none3 0 else v.mn
    let mx := if v.n = 0 then none3 1 else v.mx
    (bytesOf st 4 ++ bytesOf mn 4 ++ bytesOf mx 4, { mn := mn, mx := mx, bad := bad || reduced })

/-- Samples that the base-period grid puts into the interval of `p` ns at `start`; of records, one in each whole period. -/
def State.gyWant (s : State) (g : GyChCfg) (start : Instant) (p : Nat) : Nat :=
  let b := max 1 (s.gyBase3 g)
  if g.source ≤ 2 then (3 * (start.toNat + p) + b - 1) / b - (3 * start.toNat + b - 1) / b else 3 * p / b

/-- An interval closes at its end instant: its sample goes to the adaptation layer and is stored; a sample too few makes it
INCOMPLETE (R221, R222, R228). A new reduction factor takes over where its interval begins, and closes the block (R225, R231). -/
def State.gyCloseIv (s : State) (c : Nat) (g : GyChCfg) (v : GyIv) : State :=
  let f := (s.gy1 c).factor
  let p := gyIval g f
  let end_ := v.start.plus p
  let bad := v.bad || !s.gyAlive g || decide (v.n < s.gyWant g v.start p)
  let out := s.gyReduced g v bad (decide (f ≠ 0))
  let s := if v.n = 0 then s.draw else s
  let s := { s with la := { s.la with feed := Tab.set {} s.la.feed c out.2 } }
  let s :=
    if s.gyTop then s.gyDrop c true
    else s.gyStore c g v.start v.ts out.1 f (g.source == 2 && bad)
  let f' := s.gyFactor g
  let f' := if end_.toNat % gyIval g f' = 0 then f' else f
  let s := if f' = f then s else s.gyClose c
  (s.setGy1 c { s.gy1 c with iv := some { start := end_, ts := s.gyTs g end_ }, factor := f' }).setFld Fld.GY_CH_FACTOR f' c

/-- `n` stored samples are missing: they are counted, and the block closes (R225). -/
def State.gyMiss (s : State) (c n : Nat) : State :=
  if n = 0 then s
  else
    let s := s.gyClose c
    s.setGy1 c { s.gy1 c with lost := (s.gy1 c).lost + n }

/-- `n` places of the grid took no sample: they are lost; of a record or a loop output, which only the module with authority samples,
the block closes alone (R220, R225). -/
def State.gySkip (s : State) (c : Nat) (g : GyChCfg) (n : Nat) : State :=
  if n = 0 then s else if g.source ≤ 2 then s.gyMiss c n else s.gyClose c

/-- The interval that holds instant `t` is in progress: one that ended before closes first, and intervals of which nothing
came are lost. -/
def State.gyCatch (s : State) (c : Nat) (g : GyChCfg) (t : Instant) : State :=
  match (s.gy1 c).iv with
  | none =>
    let a := floorTo t (gyIval g (s.gy1 c).factor)
    s.setGy1 c { s.gy1 c with iv := some { start := a, ts := s.gyTs g a } }
  | some v =>
    if Instant.before t (v.start.plus (gyIval g (s.gy1 c).factor)) then s
    else
      let s := s.gyCloseIv c g v
      let p := gyIval g (s.gy1 c).factor
      let a := floorTo t p
      let e := v.start.plus p
      if Instant.atOrBefore a e then s
      else
        let s := s.gySkip c g ((a - e).toNat / p)
        s.setGy1 c { s.gy1 c with iv := some { start := a, ts := s.gyTs g a } }

/-- A sample's place on the base-period grid of PT (R223). -/
def State.gyIdx (s : State) (g : GyChCfg) : Nat := 3 * s.pt.toNat / max 1 (s.gyBase3 g)

/-- A sample's instant: its place on the grid, rounded down to a ns; of a record, the instant at which it is visible. -/
def State.gyAt (s : State) (g : GyChCfg) (i : Nat) : Instant :=
  if g.source ≤ 2 then BitVec.ofNat 64 (i * s.gyBase3 g / 3) else s.pt

/-- A sample of a RAW channel: every D-th place of the grid is stored, and a place that no sample took is lost. -/
def State.gyRaw (s : State) (c : Nat) (g : GyChCfg) (i : Nat) (x : Option GyWord) : State :=
  let f := s.gyFactor g
  let d := gyStep g f
  let s := s.setFld Fld.GY_CH_FACTOR f c
  let n := (s.gy1 c).next.getD i
  if i < n then s
  else
    let m := (i - n + d - 1) / d
    let s := s.gySkip c g m
    let n := n + m * d
    if n ≠ i then s.setGy1 c { s.gy1 c with next := some n }
    else
      let s := s.setGy1 c { s.gy1 c with factor := f, next := some (n + d) }
      if s.gyTop then s.gyDrop c true
      else match x with
        | some w => s.gyStore c g (s.gyAt g i) (s.gyTs g (s.gyAt g i)) w.raw f false
        | none => s.gyDrop c false

/-- A sample of a MEAN or MINMAX channel enters the interval of its instant. -/
def State.gyEnter (s : State) (c : Nat) (g : GyChCfg) (i : Nat) (x : Option GyWord) : State :=
  let s := s.gyCatch c g (s.gyAt g i)
  match (s.gy1 c).iv with
  | some v => s.setGy1 c { s.gy1 c with iv := some (ivTake v g.source x) }
  | none => s

/-- CAPTURE_SAMPLE: the sample of this place of the grid, once. Records are taken as visible now. -/
def execCaptureSample (cc : Fin 64) (v : GySample) (s : State) : Res :=
  let c := cc.val
  match s.gyCfg c with
  | none => .next s
  | some g =>
    let i := s.gyIdx g
    if !s.gyRuns g || (s.gy1 c).last == some i then .next s
    else
      let s := if 3 ≤ g.source then s.settle s.pt else s
      let x := s.gyWord g v
      let s := match x with
        | some w => s.gyConds c g.source w
        | none => s
      let s := s.setGy1 c { s.gy1 c with last := some i }
      .next (if g.mode = 0 then s.gyRaw c g i x else s.gyEnter c g i x)

/-- GY_INTERVAL_CLOSE, once an interval's end instant is reached. -/
def execGyIntervalClose (cc : Fin 64) (s : State) : Res :=
  let c := cc.val
  match s.gyCfg c with
  | none => .next s
  | some g =>
    if g.mode = 0 || !s.gyRuns g then .next s
    else
      let p := gyIval g (s.gy1 c).factor
      let a := floorTo s.pt p - BitVec.ofNat 64 p
      let v := (s.gy1 c).iv.getD { start := a, ts := s.gyTs g a, bad := true }
      .next (if Instant.atOrBefore (v.start.plus p) s.pt then s.gyCloseIv c g v else s)

/-! ## Rate levels (R231) -/

/-- The fills shown: of the staging area what is measured there, at least the blocks that wait in it. -/
def State.gyFills (s : State) (stage : Nat) : State :=
  (s.setFld Fld.GY_STATUS_STAGE_FILL (sat 100 (max stage (100 * s.gy.stage.length / stageCap)))).gyFilled

/-- At least `n` ns have passed since the level last changed. -/
def State.gyMoved (s : State) (n : Nat) : Bool :=
  match s.gy.moved with
  | some t => Instant.atOrBefore (t.plus n) s.pt
  | none => true

/-- A RAW channel takes the factor of the present level: its block closes where that changes (R225). An interval in progress
completes first. -/
def State.gyRefactor (s : State) (g : GyChCfg) : State :=
  let c := g.ch.val
  if g.mode = 0 ∧ s.fld Fld.GY_CH_FACTOR c ≠ s.gyFactor g then
    (s.gyClose c).setFld Fld.GY_CH_FACTOR (s.gyFactor g) c
  else s

/-- The level changed to `l`: 0x7001 on leaving 0, 0x7002 on the return. -/
def State.setLevel (s : State) (l : Nat) (code : Option Nat) : State :=
  let s := { s.setFld Fld.GY_STATUS_LEVEL l with gy := { s.gy with moved := some s.pt } }
  let s := s.img.gyCh.foldl State.gyRefactor s
  match code with
  | some c => (s.note islSup c []).ev 98
  | none => s

/-- GY_LEVEL_RISE: a millisecond ends in which a fill stood above 75 %, of the staging area as measured over it, or of the unread
LOSSLESS blocks. -/
def execGyLevelRise (stage : Nat) (s : State) : Res :=
  let s := s.gyFills stage
  let l := s.fld Fld.GY_STATUS_LEVEL
  .next (if (75 < stage ∨ s.gy.high.any (fun t => Instant.atOrBefore (t.plus 1000000) s.pt)) ∧ l < 12 ∧ s.gyMoved 1000000 then
    s.setLevel (l + 1) (if l = 0 then some 0x7001 else none) else s)

/-- GY_LEVEL_FALL: 100 ms end in which both fills stood below 25 %. -/
def execGyLevelFall (stage : Nat) (s : State) : Res :=
  let s := s.gyFills stage
  let l := s.fld Fld.GY_STATUS_LEVEL
  .next (if stage < 25 ∧ 100 * s.gyUnread < 25 * s.gyCap ∧ s.gy.notLow.all (fun t => Instant.atOrBefore (t.plus 100000000) s.pt) ∧
      0 < l ∧ s.gyMoved 100000000 then
    s.setLevel (l - 1) (if l = 1 then some 0x7002 else none) else s)

/-! ## Trigger sets (R230, R233 to R236) -/

def State.gyState (s : State) (k : Nat) : Nat := s.fld Fld.GY_SET_STATE k
def State.setGyState (s : State) (k v : Nat) : State := s.setFld Fld.GY_SET_STATE v k

/-- This module acts as master of a set (R233). -/
def State.gyMaster (s : State) (k : GySetCfg) : Bool := k.master == s.base.binary && s.role == 1

/-- The lowest slot that holds no window. -/
def State.gyFree (s : State) : Option Nat := (List.range 16).find? fun i => !s.flag Fld.GY_CAP_VALID i

/-- A fire: its instant, binary and position. -/
abbrev Fire := Instant × Nat × Bool

/-- The fire that stands of two: the earlier, then the lower binary, then position A (R235). -/
def fireBefore (a b : Fire) : Bool :=
  Instant.before a.1 b.1 || (a.1 == b.1 && (decide (a.2.1 < b.2.1) || (a.2.1 == b.2.1 && !a.2.2 && b.2.2)))

/-- A refused fire: its set stays armed (R230). -/
def State.gyRefuse (s : State) : State := (s.note islSup 0x7004 []).gyLose Fld.GY_LOST_FIRE_REFUSED

/-- Continuous blocks give way to frozen ones. -/
def State.gyRoom (s : State) : Nat → State
  | 0 => s
  | n + 1 =>
    if s.gyCap < s.gy.arch.length + s.gyFrozenBlocks then
      match s.gyEvict with
      | some t => t.gyRoom n
      | none => s
    else s

/-- The part of channel `c` in the window of slot `i` as T now stands: what lies in it goes to the archive, from the ring and from
what the window held; what does not lies in the ring (R234, R235). -/
def State.gyMove (s : State) (k : GySetCfg) (i c : Nat) : State :=
  let w := s.gyWin i
  let b := w.t.plus k.post
  let all := (s.gy1 c).ring.filter (fun x => Instant.atOrBefore x.t b) ++ Tab.get [] w.part c
  let xs := all.filter (inWindow k w)
  let rest := all.filter (fun x => !inWindow k w x) ++ (s.gy1 c).ring.filter (fun x => !Instant.atOrBefore x.t b)
  (s.setGyWin i { w with part := Tab.set [] w.part c xs }).setGy1 c { s.gy1 c with ring := rest }

/-- Every channel's part taken, and room made for it in the archive. -/
def State.gyMoves (s : State) (k : GySetCfg) (i : Nat) : State :=
  let s := k.chans.foldl (fun s c => s.gyMove k i c.val) s
  s.gyRoom (s.gyWinBlocks (s.gyWin i))

/-- A window begins to freeze around a fire: the ring's part of it goes to the archive. -/
def State.gyFreeze (s : State) (k : GySetCfg) (slot : Nat) (f : Fire) : State :=
  let n := (s.gy.nextCap + 1) % 4294967296
  let n := if n = 0 then 1 else n
  let s := { s with gy := { s.gy with nextCap := n } }
  let s := s.setGyWin slot { k := k.k.val, capture := n, t := f.1, binary := f.2.1, posB := f.2.2 }
  let w : Word := putBit (putBits (putBits 0 23 16 k.num) 15 0 n) 31 true
  let s := (s.setReg .GY_CAP slot w).gyCount
  let s := s.setGyRun k.k.val { s.gyRun k.k.val with slot := some slot }
  (s.gyMoves k slot).setGyState k.k.val 2

/-- A further fire of the arm: the earlier of the two stands while the window is not complete, and the later one is listed,
up to 8 of them, and counted (R235). -/
def State.gyLater (s : State) (slot : Nat) (f : Fire) : State :=
  let w := s.gyWin slot
  let old : Fire := (w.t, w.binary, w.posB)
  if f == old then s
  else
    let move := !w.complete && fireBefore f old
    let late := if move then old else f
    let w := if move then { w with t := f.1, binary := f.2.1, posB := f.2.2 } else w
    let w := if w.later.length < 8 then { w with later := w.later ++ [late] } else w
    let s := (s.setGyWin slot w).setFld Fld.GY_CAP_LATER (satAdd 15 (s.fld Fld.GY_CAP_LATER slot) 1) slot
    match move, s.gySetOf w.k with
    | true, some k => s.gyMoves k slot
    | _, _ => s

/-- A fire of a set reaches this module: true with the state where it was not refused. -/
def State.gyFire (s : State) (k : GySetCfg) (f : Fire) : Bool × State :=
  match s.gyState k.k.val, (s.gyRun k.k.val).slot with
  | 1, _ =>
    match s.gyFree with
    | some i => (true, s.gyFreeze k i f)
    | none => (false, s.gyRefuse)
  | _, some i => (true, s.gyLater i f)
  | _, none => (false, s)

/-- The module itself fires a set: it freezes and sends the fire message (R234). -/
def State.gySelf (s : State) (k : GySetCfg) (t : Instant) : State :=
  let r := s.gyFire k (t, s.base.binary, s.posB)
  if r.1 then r.2.emit (.fire k.num t s.base.binary s.posB (s.fld Fld.GY_SET_ARMS k.k.val)) else r.2

/-- A set can fire: armed, or freezing already. -/
def State.gyArmed (s : State) (k : Nat) : Bool := s.gyState k == 1 || s.gyState k == 2

/-- PATTERN_FIRE: a unit's match has held for QUAL, with T its first tick; each match fires once (R230). -/
def execPatternFire (u : Fin 8) (s : State) : Res :=
  match s.img.gyPat.find? (fun p => p.u == u) with
  | none => .next s
  | some p =>
    match patFires p.qual s.pt (s.gyPat u.val), s.gySetOf p.setK.val with
    | some t, some k =>
      let s := s.setGyPat u.val { s.gyPat u.val with fired := true }
      .next (if s.gyArmed k.k.val then s.gySelf k t else s)
    | _, _ => .next s

/-- The master's arm order: the next ARMS, sent to the partner and to every member (R233). -/
def State.gyOrder (s : State) (k : GySetCfg) (at_ : Instant) : State :=
  let a := (s.fld Fld.GY_SET_ARMS k.k.val + 1) % 65536
  let s := (s.setFld Fld.GY_SET_ARMS a k.k.val).setGyState k.k.val 0
  (s.setGyRun k.k.val { armAt := some at_, slot := none }).emit (.arm k.num a at_)

/-- ARM_ORDER: by the master, at least ARM_LEAD ahead. -/
def execArmOrder (k : Fin 16) (at_ : Instant) (s : State) : Res :=
  match s.gySetOf k.val with
  | none => .next s
  | some c =>
    if s.gyMaster c && s.gyState k.val != 2 && Instant.atOrBefore (s.pt.plus c.lead) at_ then .next (s.gyOrder c at_)
    else .next s

/-- ARM_RECEIVED: the member arms at ARM_AT, or on receipt with 0x7005. -/
def execArmReceived (k : Fin 16) (arms : BitVec 16) (at_ : Instant) (s : State) : Res :=
  if (s.gySetOf k.val).isNone || s.gyState k.val == 2 then .next s
  else
    let s := s.setFld Fld.GY_SET_ARMS arms.toNat k.val
    if Instant.before at_ s.pt then
      .next ((((s.setGyRun k.val {}).setGyState k.val 1).note islSup 0x7005 [k.val]).ev 101)
    else .next ((s.setGyRun k.val { armAt := some at_, slot := none }).setGyState k.val 0)

/-- ARM_AT. -/
def execArmAt (k : Fin 16) (s : State) : Res :=
  match (s.gyRun k.val).armAt with
  | some t =>
    if Instant.atOrBefore t s.pt && s.gyState k.val != 2 then .next ((s.setGyRun k.val {}).setGyState k.val 1) else .next s
  | none => .next s

/-- FIRE_RECEIVED: a fire of the present arm. -/
def execFireReceived (k : Fin 16) (t : Instant) (binary : Nat) (posB : Bool) (arms : BitVec 16) (s : State) : Res :=
  match s.gySetOf k.val with
  | none => .next s
  | some c =>
    if s.fld Fld.GY_SET_ARMS k.val = arms.toNat then .next (s.gyFire c (t, binary, posB)).2 else .next s

/-! ### Windows -/

/-- Samples of one channel's window, put into blocks: a block ends when it is full, at a new reduction factor and before
samples that were dropped (R225). `acc` holds the blocks before, newest first. -/
def gyPack (cap : Nat) (new : GyBlk) : List GyBlk → List GyRingS → List GyBlk
  | acc, [] => acc.reverse
  | [], x :: xs =>
    gyPack cap new
      [{ new with first := x.t, firstTs := x.ts, lost := x.lost, step := x.step, count := 1, factor := x.factor, bad := x.bad
                  data := x.data }] xs
  | b :: bs, x :: xs =>
    if b.count < cap ∧ b.step = x.step ∧ b.factor = x.factor ∧ x.lost = 0 then
      gyPack cap new ({ b with count := b.count + 1, bad := b.bad || x.bad, data := b.data ++ x.data } :: bs) xs
    else
      gyPack cap new
        ({ new with first := x.t, firstTs := x.ts, lost := x.lost, step := x.step, count := 1, factor := x.factor, bad := x.bad
                    data := x.data } :: b :: bs) xs

/-- Blocks take the channel's sequence numbers in order, and TRIGGER where T falls within them. -/
def State.gyNumber (s : State) (c : Nat) (g : GyChCfg) (t : Instant) : List GyBlk → State × List (Nat × GyBlk)
  | [] => (s, [])
  | b :: bs =>
    let x := s.gy1 c
    let span := b.count * s.gyGap3 g b.step / 3
    let trig := Instant.atOrBefore b.first t && Instant.before t (b.first.plus span)
    let s := s.setGy1 c { x with seq := (x.seq + 1) % 4294967296 }
    let r := s.gyNumber c g t bs
    (r.1, (c, { b with seq := x.seq, trigger := trig }) :: r.2)

/-- One channel's part of a window from T − PRE to T + POST. What the ring no longer held at its head is LOST; where it held nothing
of the window, one block without samples says so. A standby writes no blocks for records and loop outputs (R220, R234). -/
def State.gyTake (s : State) (k : GySetCfg) (w : GyWin) (c : Nat) : State × List (Nat × GyBlk) :=
  match s.gyCfg c with
  | none => (s, [])
  | some g =>
    let a := w.t - BitVec.ofNat 64 k.pre
    let xs := Tab.get [] w.part c
    let new : GyBlk := { mode := g.mode, source := g.source, index := g.index, tb := gyTb s.img g, frozen := true
                         capture := w.capture }
    let s := (xs.filter fun x => x.top).foldl (fun s _ => s.gyLose Fld.GY_LOST_DROPS) s
    match xs with
    | x :: rest =>
      let x := { x with lost := 3 * (x.t - a).toNat / max 1 (s.gyGap3 g x.step) }
      s.gyNumber c g w.t (gyPack (4032 / gyBytes g) new [] (x :: rest))
    | [] =>
      if 3 ≤ g.source ∧ s.role ≠ 1 then (s, [])
      else
        let f := s.gyFactor g
        let lost := 3 * (k.pre + k.post) / max 1 (s.gyGap3 g (gyStep g f))
        s.gyNumber c g w.t [{ new with first := a, firstTs := s.gyTs g a, lost := lost, step := gyStep g f, factor := f }]

/-- Every channel's part. -/
def State.gyTakes (s : State) (k : GySetCfg) (w : GyWin) : List Nat → State × List (Nat × GyBlk)
  | [] => (s, [])
  | c :: cs =>
    let r := s.gyTake k w c
    let q := r.1.gyTakes k w cs
    (q.1, r.2 ++ q.2)

/-- GY_WINDOW_COMPLETE: T + POST has passed (R234). -/
def execGyWindowComplete (slot : Fin 16) (s : State) : Res :=
  let i := slot.val
  let w := s.gyWin i
  match s.gySetOf w.k with
  | none => .next s
  | some k =>
    if !s.flag Fld.GY_CAP_VALID i || w.complete || !Instant.atOrBefore (w.t.plus k.post) s.pt then .next s
    else
      let r := s.gyTakes k w (k.chans.map fun c => c.val)
      let s := r.1.setGyWin i { w with complete := true, part := [], blocks := r.2 }
      let s := (s.setFlag Fld.GY_CAP_COMPLETE true i).gyRoom r.2.length
      let s := s.setGyState w.k (if k.rearm then 3 else 0)
      let s := s.setGyRun w.k { s.gyRun w.k with doneAt := some s.pt }
      .next ((s.note islSup 0x7003 [w.capture, w.t.toNat]).ev 99)

/-- HOLDOFF has passed since the set's window here completed. -/
def State.gyHeldOff (s : State) (c : GySetCfg) : Bool :=
  match (s.gyRun c.k.val).doneAt with
  | some t => Instant.atOrBefore (t.plus c.holdoff) s.pt
  | none => true

/-- GY_HOLDOFF_EXPIRE: the master issues the next arm (R234). That the other members' windows have completed too is the
sender's word: no message of the spec tells it. -/
def execGyHoldoffExpire (k : Fin 16) (s : State) : Res :=
  match s.gySetOf k.val with
  | none => .next s
  | some c =>
    if s.gyState k.val ≠ 3 || !s.gyHeldOff c then .next s
    else if s.gyMaster c then .next (s.gyOrder c (s.pt.plus c.lead))
    else .next (s.setGyState k.val 0)

/-- A window released: its slot is free; a window that still freezes ends, and its set is idle. -/
def State.gyFreeSlot (s : State) (i : Nat) : State :=
  let w := s.gyWin i
  let s := if s.gyState w.k = 2 ∧ (s.gyRun w.k).slot = some i then s.setGyState w.k 0 else s
  let s := if (s.gyRun w.k).slot = some i then s.setGyRun w.k { s.gyRun w.k with slot := none } else s
  let s := ((s.setGyWin i {}).setReg .GY_CAP i 0).gyCount
  s.gyDrain s.gy.stage.length

/-- RELEASE of GY_CMD. (DEDUCED, log entry 67) -/
def State.gyCmdRelease (s : State) (i : Nat) : State := if s.flag Fld.GY_CAP_VALID i then s.gyFreeSlot i else s

/-- Fire by order of GY_CMD: T is the PT of the write. -/
def State.gyCmdFire (s : State) (k : Nat) : State :=
  match s.gySetOf k with
  | some c => if s.gyArmed k then s.gySelf c s.pt else s
  | none => s

/-- GY_RELEASE. -/
def execGyRelease (slot : Fin 16) (s : State) : Res := .next (s.gyCmdRelease slot.val)

/-- GY_FIRE_ORDER. -/
def execGyFireOrder (k : Fin 16) (s : State) : Res := .next (s.gyCmdFire k.val)

/-! ## Readout (R224, R237) -/

/-- The 4,096 bytes of a block. -/
def gyBlock (c : Nat) (b : GyBlk) : List Byte :=
  let h : BitVec 512 := 0
  let h := putBits h 479 416 b.firstTs.toNat
  let h := putBits h 415 352 b.first.toNat
  let h := putBits h 351 320 b.capture
  let h := putBits h 319 288 b.seq
  let h := putBits h 287 256 b.lost
  let h := putBits h 255 232 b.step
  let h := putBits h 231 216 b.count
  let h := putBits h 215 212 b.tb
  let h := putBits h 211 209 b.factor
  let h := putBit h 208 (decide (b.lost ≠ 0) || b.bad)
  let h := putBits h 207 206 b.mode
  let h := putBits h 203 200 b.source
  let h := putBits h 199 180 b.index
  let h := putBits h 179 172 c
  let h := putBit h 171 b.trigger
  let h := putBit h 170 b.frozen
  let h := putBits h 39 32 1
  let h := putBits h 31 0 Config.magicGeyser.toNat
  let data := b.data ++ List.replicate (4032 - b.data.length) 0
  bytesOf (putBits h 511 480 (crc32c (bytesOf h 60 ++ data)).toNat) 64 ++ data

/-- The block of channel `c` with SEQUENCE `n` (R237): a continuous one, or one of a completed window. -/
def State.gySeq (s : State) (c n : Nat) : Option GyBlk :=
  match s.gy.arch.find? (fun b => b.1 == c && b.2.1.seq == n) with
  | some b => some b.2.1
  | none => s.gy.wins.findSome? fun (w : Nat × GyWin) => (w.2.blocks.find? fun b => b.1 == c && b.2.seq == n).map Prod.snd

/-- The block a read names, as bytes. -/
def State.gyFind (s : State) (q : BlockSel) : Option (List Byte) :=
  match q with
  | .seq c n => (s.gySeq c.val n).map (gyBlock c.val)
  | .capture cap i =>
    match s.gy.wins.find? (fun (w : Nat × GyWin) => w.2.complete && w.2.capture == cap) with
    | some w => (w.2.blocks[i]?).map fun b => gyBlock b.1 b.2
    | none => none

/-- Continuous block `n` of channel `c` marked read; blocks that waited for room follow. -/
def State.gyMark (s : State) (c n : Nat) : State :=
  let s := ({ s with
    gy := { s.gy with arch := s.gy.arch.map fun b => if b.1 == c && b.2.1.seq == n then (b.1, b.2.1, true) else b } } : State).gyFilled
  s.gyDrain s.gy.stage.length

/-- A read of a RING block marks it read. -/
def State.gyRead (s : State) (q : BlockSel) : State :=
  match q with
  | .seq c n => if s.gyKeeps c.val then s else s.gyMark c.val n
  | .capture _ _ => s

/-- GY_RD_READ: firmware reads a block through the window. -/
def execGyRdRead (q : BlockSel) (s : State) : Res :=
  .next ({ s with lastBytes := (s.gyFind q).getD [] }.gyRead q)

/-- SVC_GY_BLOCK_READ. -/
def execSvcGyBlockRead (h : SvcMsg) (q : BlockSel) (s : State) : Res :=
  .next (s.svc h 0x30 0 0 none fun s =>
    match s.gyFind q with
    | some b => (s.gyRead q).answer h 0x30 0 b
    | none => s.answer h 0x30 7)

/-- SVC_GY_BLOCK_ACK: an unread block of a LOSSLESS channel counts as read. -/
def execSvcGyBlockAck (h : SvcMsg) (c : Fin 64) (n : Nat) (s : State) : Res :=
  .next (s.svc h 0x30 0 0 none fun s =>
    if s.gy.arch.any fun b => b.1 == c.val && b.2.1.seq == n then (s.gyMark c.val n).answer h 0x30 0
    else s.answer h 0x30 7)

/-- SVC_GY_RELEASE. -/
def execSvcGyRelease (h : SvcMsg) (slot : Fin 16) (s : State) : Res :=
  .next (s.svc h 0x31 1 0 none fun s =>
    if s.flag Fld.GY_CAP_VALID slot.val then (s.gyFreeSlot slot.val).answer h 0x31 0 else s.answer h 0x31 7)

/-- SVC_GY_FIRE: refused where the set is not armed, or all slots hold windows. -/
def execSvcGyFire (h : SvcMsg) (k : Fin 16) (s : State) : Res :=
  .next (s.svc h 0x31 1 0 none fun s =>
    match s.gySetOf k.val with
    | none => s.answer h 0x31 7
    | some c =>
      if !s.gyArmed k.val then s.answer h 0x31 5
      else
        let full := s.gyState k.val == 1 && s.gyFree.isNone
        (s.gySelf c s.pt).answer h 0x31 (if full then 0x0A else 0))

end Sys2Proof.Machine
end

