-- ==== Sys2Proof/Machine/Update.lean ====
section
/-! DEFINITION. Firmware update and online change (19): orders and refusals, download, verification, activation and trial,
rolls, and the Iazebin recovery ROM. -/

namespace Sys2Proof.Machine

/-! ## Progress records (R413)

Kind 0 is the configuration, kind 1 the firmware. -/

def State.prog (s : State) (k : Nat) : BitVec 256 := s.keyRec 256 (Config.keyProgress k)

/-- STATE of a progress record; a wrong MAGIC counts as EMPTY. -/
def State.progState (s : State) (k : Nat) : Nat :=
  if BitVec.ofNat 32 (bits (s.prog k) 31 0) = Config.magicProgress then bits (s.prog k) 191 184 else 0

def State.progTotal (s : State) (k : Nat) : Nat := bits (s.prog k) 143 128
def State.progTag (s : State) (k : Nat) : W64 := BitVec.ofNat 64 (bits (s.prog k) 255 192)

/-- The bitmap of a record, 96 bytes. -/
def State.progMap (s : State) (k : Nat) : BitVec 768 := s.keyRec 768 (Config.keyProgress k + 32)

/-- Blocks confirmed. -/
def State.progDone (s : State) (k : Nat) : Nat := ((List.range 768).filter fun b => bitAt (s.progMap k) b).length

/-- UP_PROGRESS shows a record. -/
def State.progShow (s : State) (k : Nat) : State :=
  let st := s.progState k
  let w : Word := putBits 0 31 24 st
  let w := if st = 0 then w else putBits (putBits (putBits w 23 23 (bits (s.prog k) 64 64)) 19 10 (s.progDone k)) 9 0 (s.progTotal k)
  s.setReg .UP_PROGRESS k w

/-- Kind `k` is among `kinds`. -/
def hasKind (kinds k : Nat) : Bool := kinds / 2 ^ k % 2 == 1

/-- UP_STATUS.PHASE follows what is under way. -/
def State.upShow (s : State) : State :=
  let any := fun (f : Nat → Bool) => f (s.progState 0) || f (s.progState 1)
  s.setUpPhase (
    if s.iazebin then 7
    else match s.up.roll with
    | some r => if r.revert then 6 else 4
    | none =>
      if s.up.revert.isSome then 6
      else if s.onTrial then 5
      else if any (· == 3) then 2
      else if any (fun x => x == 1 || x == 2) then 1
      else if any (· == 4) then 3
      else 0)

/-- A record's STATE unit written. -/
def State.progPut (s : State) (k st : Nat) : State :=
  let u := bits (s.prog k) 191 128
  ((s.keyPut (Config.keyProgress k + 16) (BitVec.ofNat 64 (putBits (BitVec.ofNat 64 u) 63 56 st).toNat)).progShow k).upShow

/-- A record returned to EMPTY. -/
def State.progEmpty (s : State) (k : Nat) : State := if s.progState k = 0 then s else s.progPut k 0

/-- The bank that the selection does not name (R413), in the recovery ROM the invalid firmware bank, or bank 0 when both are
(R425). -/
def State.targetBank (s : State) (k : Nat) : Nat :=
  if s.iazebin then (if bitAt s.boot.okBanks 2 && !bitAt s.boot.okBanks 3 then 1 else 0)
  else 1 - bits s.selCur (72 + k) (72 + k)

/-! ## Refusals (R410, R411) -/

/-- The module refused start-up, the recovery ROM included. -/
def State.refusedUp (s : State) : Bool := s.flag Fld.SUP_START_REFUSAL

/-- A trial is in progress, in this module or between the two (R423). -/
def State.trialNow (s : State) : Bool :=
  s.onTrial || (s.pair && !s.refusedUp && !s.bn.hbLost && s.otherImage)

/-- The partner is a READY standby. -/
def State.partnerStands (s : State) : Bool :=
  s.partnerReady && (bits (s.reg .BN_HEALTH 1) 31 28 == 2 || bits (s.reg .BN_HEALTH 1) 31 28 == 3)

/-- The operations, 0 a download, else OP of R410. -/
def opIn (op : Nat) (ops : List Nat) : Bool := ops.contains op

/-- The first condition of R411 that refuses an operation, 0 where none does. (DEDUCED, log entry 69) -/
def State.upRefusal (s : State) (op : Nat) : Nat :=
  let ref := s.refusedUp
  if opIn op [0, 1, 2, 3, 6] && !s.pw.contactOpen then 0x0101
  else if opIn op [2, 3] && !ref && !s.flag Fld.RST_POWER_HOLDUP_OK then 0x0102
  else if opIn op [2, 3] && !ref && s.transition then 0x0103
  else if op == 3 && s.pair && !s.partnerStands then 0x0104
  else if op == 3 && s.pair && s.partnerLag != 0 then 0x0105
  else if op == 2 && !ref && !s.interruptOk then 0x0106
  else if !(s.flag Fld.PK_STATUS_PRESENT && s.flag Fld.PK_STATUS_SERIAL_OK) then 0x0107
  else if opIn op [0, 1, 2, 3] && s.trialNow then 0x010E
  else if !opIn op [6, 7] && s.rolling then 0x0110
  else if opIn op [1, 3, 4, 5] && s.pair && s.role != 1 && !ref then 0x0111
  else 0

/-- An order refused: LAST_CODE and Sinter 0x400D with the code. -/
def State.upRefuse (s : State) (c : Nat) : State := (s.note islSup 0x400D [c]).setUpCode c

/-- The response to an update order: UP_STATUS and PK_STATUS. -/
def State.upAnswer (s : State) (h : SvcMsg) (c : Nat) : State :=
  s.answer h 0x11 c (wireBytes [s.upStatus, s.reg .PK_STATUS])

/-- A type 0x0011 order: its checks, then its effect with its code, then its response. -/
def State.upOrder (s : State) (h : SvcMsg) (op : Nat) (f : State → Nat × State) : State :=
  s.svc h 0x11 2 op (some 16) fun s =>
    let r := s.upRefusal op
    if r ≠ 0 then (s.upRefuse r).upAnswer h r
    else
      let q := f s
      if q.1 = 0 then q.2.upAnswer h 0 else (q.2.upRefuse q.1).upAnswer h q.1

/-! ## Download (R412 to R414) -/

/-- The kind a block header names, 2 where it names none. -/
def blkKind (h : BitVec 512) : Nat := if bits h 351 344 = 1 then 1 else if bits h 351 344 = 2 then 0 else 2

/-- The block is formed as R412 asks. -/
def blkOk (h : BitVec 512) (bytes : List Byte) : Bool :=
  let k := blkKind h
  let total := bits h 399 384
  let b := bits h 415 400
  let len := bits h 383 352
  decide (k < 2) && decide (1 ≤ total) && decide (total ≤ (if k = 1 then 512 else 768)) && decide (b < total) &&
  (if b + 1 = total then decide (8 ≤ len) && decide (len ≤ 65536) && len % 8 == 0 else len == 65536) &&
  (crc32c bytes == BitVec.ofNat 32 (bits h 447 416))

/-- A progress record that a download goes on with: one whose bank the selected record does not name (R42, R413). -/
def State.progLive (s : State) (k : Nat) : Bool :=
  s.progState k != 0 && (s.iazebin || bits (s.prog k) 64 64 == s.targetBank k)

/-- A download opened (R413). (DEDUCED, log entry 132) -/
def State.openDownload (s : State) (k : Nat) (h : BitVec 512) : State :=
  let a := Config.keyProgress k
  let s := s.progPut k 0
  let s := s.keyPutRec (a + 32) (0 : BitVec 768)
  let hdr : BitVec 256 := 0
  let hdr := putBits hdr 255 192 (bits h 511 448)
  let hdr := putBits hdr 191 184 1
  let hdr := putBits hdr 143 128 (bits h 399 384)
  let hdr := putBits hdr 71 64 (s.targetBank k)
  let hdr := putBits hdr 39 32 (bits h 351 344)
  let hdr := putBits hdr 31 0 Config.magicProgress.toNat
  (((s.keyPutRec a hdr).progShow k).upShow).note islSup 0x4001 [k]

/-- A block written, read back and marked. Over a bank whose verification has ended or runs, the record returns to
DOWNLOADED. (DEDUCED, log entry 70) -/
def State.putBlock (s : State) (k : Nat) (h : BitVec 512) (units : List W64) (good : Bool) : State :=
  let b := bits h 415 400
  let bank := bits (s.prog k) 64 64
  let s := s.keyPuts (State.bankAddr k bank + b * 65536) units
  let map := putBit (s.progMap k) b good
  let s := s.keyPut (Config.keyProgress k + 32 + b / 64 * 8) (BitVec.ofNat 64 (bits map (b / 64 * 64 + 63) (b / 64 * 64)))
  let s := s.progShow k
  let full := s.progDone k == s.progTotal k
  let st := s.progState k
  if full && st != 2 then
    let s := s.progPut k 2
    if st = 1 then s.note islSup 0x4002 [k] else s
  else if !full && st != 1 then s.progPut k 1
  else s

/-- The answer to a download. -/
def State.dlAnswer (s : State) (h : SvcMsg) (c : Nat) : State :=
  (if c = 0 then s else s.upRefuse c).answer h 0x10 c

/-- IMAGE_DOWNLOAD_BLOCK. -/
def execImageDownloadBlock (h : SvcMsg) (hdr : BitVec 512) (units : List W64) (readBackOk : Bool) (s : State) : Res :=
  .next (s.svc h 0x10 2 0 (some (64 + bits hdr 383 352)) fun s =>
    let r := s.upRefusal 0
    let k := blkKind hdr
    if r ≠ 0 then s.dlAnswer h r
    else if units.length * 8 ≠ bits hdr 383 352 then s.answer h 0x10 4
    else if !blkOk hdr (units.flatMap fun u => bytesOf u 8) || (s.iazebin && k != 1) then s.dlAnswer h 0x0108
    else if !s.keyOk then s.dlAnswer h 0x000A
    else if s.progLive k ∧ s.progTag k ≠ BitVec.ofNat 64 (bits hdr 511 448) then s.dlAnswer h 0x0109
    else if s.progLive k ∧ s.progTotal k ≠ bits hdr 399 384 then s.dlAnswer h 0x0108
    else
      let s := if s.progLive k then s else s.openDownload k hdr
      (s.putBlock k hdr units readBackOk).dlAnswer h (if readBackOk then 0 else 0x000A))

/-! ## Verification (R415) -/

/-- A record whose bank is wholly downloaded. -/
def State.downloaded (s : State) (k : Nat) : Bool := decide (2 ≤ s.progState k) && s.progState k != 5

/-- Verification begins. -/
def State.startVerify (s : State) (kinds : Nat) : State :=
  let s := if hasKind kinds 0 then s.progPut 0 3 else s
  let s := if hasKind kinds 1 then s.progPut 1 3 else s
  { s with up := { s.up with verifying := s.up.verifying ||| kinds } }

/-- Every kind of `kinds` meets `f`, and there is one. -/
def allKinds (kinds : Nat) (f : Nat → Bool) : Bool :=
  kinds % 4 != 0 && (!hasKind kinds 0 || f 0) && (!hasKind kinds 1 || f 1)

/-- An order that the active carries out for both modules passed on to a partner that the links reach (R409). -/
def State.relayOrder (s : State) (op kinds : Nat) : State :=
  if s.role = 1 ∧ s.partnerHeard then s.emit (.linkUpdate op kinds) else s

/-- An order as the active's, over the link, in the module that is not the active: the same conditions but the role's (R411), the
same effect, and its code back to the active. (DESIGN CHOICE, log entry 117) -/
def State.linkOrder (s : State) (op : Nat) (f : State → Nat × State) : State :=
  if s.partnerHeard && s.role != 1 && !s.refusedUp then
    let r := s.upRefusal op
    if r ≠ 0 ∧ r ≠ 0x0111 then (s.upRefuse r).emit (.linkUpdateDone op r)
    else
      let q := f s
      (if q.1 = 0 then q.2 else q.2.upRefuse q.1).emit (.linkUpdateDone op q.1)
  else s

/-- VERIFY's own part. -/
def State.orderVerify (s : State) (ks : Nat) : Nat × State :=
  if !allKinds ks s.downloaded || (s.iazebin && hasKind ks 0) then (0x010A, s)
  else if !s.keyOk then (0x000A, s)
  else (0, (s.startVerify ks).relayOrder 1 ks)

/-- UPDATE_VERIFY, from a session or, `link`, as the active's order over the binary link (R409). -/
def execUpdateVerify (h : SvcMsg) (kinds : BitVec 8) (link : Bool) (s : State) : Res :=
  .next (if link then s.linkOrder 1 fun s => s.orderVerify (kinds.toNat % 4)
    else s.upOrder h 1 fun s => s.orderVerify (kinds.toNat % 4))

/-- The code of a verification: 0 where the bank passes. -/
def State.verifyCode (s : State) (k : Nat) (compatible : Bool) : Nat :=
  let b := bits (s.prog k) 64 64
  let hd := s.bankHdr k b
  if !s.bankValid k b || hdrTag hd != s.progTag k || decide (s.progTotal k * 65536 < 256 + bits hd 95 64) then 0x010B
  else if s.iazebin then 0
  else if bits hd 199 192 > Config.issue || (k == 0 && bits hd 223 208 != s.base.binary) || !compatible then 0x010C
  else 0

/-- One kind's verification ended. -/
def State.verified1 (s : State) (k : Nat) (compatible : Bool) : State :=
  if !hasKind s.up.verifying k || s.progState k != 3 then s
  else
    let e := s.verifyCode k compatible
    if e = 0 then (s.progPut k 4).note islSup 0x4003 [k] else ((s.progPut k 6).note islSup 0x4004 [e]).setUpCode e

/-- A map from the selection that runs (R421, R422). -/
def State.mapsRunning (s : State) (img : PlantImage) : Bool :=
  img.maps.any fun m => m.cfgTag == s.ownTag && m.fwTag == s.boot.fwTag

/-- VERIFY_COMPLETE: `img` is the content of the configuration bank where it decodes, `formats` whether its format and state
format are among those that the firmware which will run it lists. -/
def execVerifyComplete (img : Option PlantImage) (formats : Bool) (s : State) : Res :=
  if s.up.verifying = 0 ∨ !s.keyOk then .next s
  else
    let fits := formats && img.any fun i => i.baseKind == (if s.pair then 2 else 1) && imageFits i
    let has := img.any s.mapsRunning
    let s := (s.verified1 0 fits).verified1 1 true
    .next { s with up := { s.up with verifying := 0, hasMap := has } }

/-! ## Activation, trial and revert (R416 to R420) -/

/-- The tags of the banks a record names. -/
def State.selTags (s : State) (r : BitVec 512) : BitVec 512 :=
  putBits (putBits r 191 128 (hdrTag (s.bankHdr 0 (bits r 72 72))).toNat) 255 192 (hdrTag (s.bankHdr 1 (bits r 73 73))).toNat

/-- The tags of the banks of `kinds` that a record names; another kind's tag stands, for R46 to compare. -/
def State.kindTags (s : State) (kinds : Nat) (r : BitVec 512) : BitVec 512 :=
  let r := if hasKind kinds 0 then putBits r 191 128 (hdrTag (s.bankHdr 0 (bits r 72 72))).toNat else r
  if hasKind kinds 1 then putBits r 255 192 (hdrTag (s.bankHdr 1 (bits r 73 73))).toNat else r

/-- The record with the other bank of each kind. -/
def flipBanks (kinds : Nat) (r : BitVec 512) : BitVec 512 :=
  let r := if hasKind kinds 0 then putBits r 72 72 (1 - bits r 72 72) else r
  if hasKind kinds 1 then putBits r 73 73 (1 - bits r 73 73) else r

/-- Both counters 0. -/
def noCounts (r : BitVec 512) : BitVec 512 := putBits (putBits r 87 80 0) 127 96 0

/-- Activation of `kinds` (R416). -/
def State.activate (s : State) (kinds : Nat) : State :=
  let s := s.selWrite fun r =>
    let r := noCounts (flipBanks kinds r)
    let r := if hasKind kinds 0 then putBit r 74 true else r
    let r := if hasKind kinds 1 then putBit r 75 true else r
    s.selTags r
  let s := if hasKind kinds 0 then s.progPut 0 5 else s
  let s := if hasKind kinds 1 then s.progPut 1 5 else s
  (s.note islSup 0x4005 [kinds]).upShow

/-- A revert record (R417): the other bank of each kind on trial. Reasons: 0 boots, 1 time, 2 refusal, 3 order. -/
def State.revertRecord (s : State) (reason : Nat) : State :=
  let kinds := s.trialKinds
  let s := s.selWrite fun r => s.kindTags kinds (putBit (putBit (noCounts (flipBanks kinds r)) 74 false) 75 false)
  let s := if hasKind kinds 0 then s.progEmpty 0 else s
  let s := if hasKind kinds 1 then s.progEmpty 1 else s
  (s.note islSup 0x4008 [reason]).upShow

/-- The module restarts (R424). -/
def State.restart (s : State) : State := s.resetPowered 6

/-- UPDATE_ACTIVATE in running or refused firmware. -/
def State.orderActivate (s : State) (kinds : Nat) (at_ : Instant) : Nat × State :=
  if !allKinds kinds (fun k => s.progState k == 4) then (0x010A, s)
  else if at_ = 0 then (if s.keyOk then (0, s.activate kinds) else (0x000A, s))
  else if at_.diff s.pt < 2000000 ∨ 86400000000000 < at_.diff s.pt then (6, s)
  else (0, { s with up := { s.up with act := some (kinds, at_), actOk := false } })

/-- The recovery ROM's firmware bank: the verified one, or with refusal 0x03 one that passes R41 (R425). -/
def State.iazBank (s : State) : Option Nat :=
  if s.progState 1 = 4 then some (bits (s.prog 1) 64 64)
  else if s.fld Fld.SUP_START_REFUSAL = 3 then
    (if s.bankValid 1 0 then some 0 else if s.bankValid 1 1 then some 1 else none)
  else none

/-- The configuration bank it names where no bank-select copy is valid: the higher VERSION, or bank 0. -/
def State.iazCfg (s : State) : Nat :=
  let ok := fun (b : Nat) =>
    let h := s.bankHdr 0 b
    BitVec.ofNat 32 (bits h 31 0) == Config.magicCfg && bits h 47 40 == 2 && bits h 39 32 == 1
  if ok 1 && (!ok 0 || decide (bits (s.bankHdr 0 0) 127 96 < bits (s.bankHdr 0 1) 127 96)) then 1 else 0

/-- ACTIVATE in the recovery ROM: the record, Sinter 0x400E (R425). -/
def State.iazActivate (s : State) (at_ : Instant) : Nat × State :=
  match s.iazBank with
  | none => (0x010A, s)
  | some b =>
    if at_ ≠ 0 then (6, s)
    else if !s.keyOk then (0x000A, s)
    else
      let s := match s.selPick with
        | some c => s.setFld Fld.PK_STATUS_SEL_COPY c
        | none => s
      let old := s.selPick.isSome
      let s := s.selWrite fun r =>
        s.selTags (putBit (putBits (if old then r else putBits r 72 72 s.iazCfg) 73 73 b) 75 false)
      (0, (s.progEmpty 1).note islSup 0x400E [b])

/-- ACTIVATE answered, and the restart where it is at once. -/
def State.activateOrder (s : State) (h : SvcMsg) (kinds : Nat) (at_ : Instant) : State :=
  let go := s.upRefusal 2 == 0
  let t := s.upOrder h 2 fun s => if s.iazebin then s.iazActivate at_ else s.orderActivate kinds at_
  let done := go && at_ == 0 && decide (t.fld Fld.PK_SEQ_SEQUENCE ≠ s.fld Fld.PK_SEQ_SEQUENCE)
  if done then t.restart else t

/-- UPDATE_ACTIVATE. -/
def execUpdateActivate (h : SvcMsg) (kinds : BitVec 8) (at_ : Instant) (s : State) : Res :=
  .next (s.activateOrder h (kinds.toNat % 4) at_)

/-- IAZEBIN_ACTIVATE: the recovery ROM's ACTIVATE, at AT 0. -/
def execIazebinActivate (h : SvcMsg) (kinds : BitVec 8) (s : State) : Res :=
  if s.iazebin then .next (s.activateOrder h (kinds.toNat % 4) 0) else .next s

/-- The code that ends a pending ACTIVATE. -/
def State.actCode (s : State) (kinds : Nat) : Nat :=
  let r := s.upRefusal 2
  if r ≠ 0 then r else if allKinds kinds (fun k => s.progState k == 4) then 0 else 0x010A

/-- A pending ACTIVATE ended by its code, or its check passed. -/
def State.actChecked (s : State) (c : Nat) : State :=
  if c = 0 then { s with up := { s.up with actOk := true } }
  else { s with up := { s.up with act := none } }.setUpCode c

/-- ACTIVATE_CHECK: at AT − 1 ms. -/
def execActivateCheck (s : State) : Res :=
  match s.up.act with
  | none => .next s
  | some a => if Instant.before s.pt (a.2 - 1000000) then .next s else .next (s.actChecked (s.actCode a.1))

/-- ACTIVATE_AT: the check of AT − 1 ms is made up for where it has not passed. -/
def execActivateAt (s : State) : Res :=
  match s.up.act with
  | none => .next s
  | some a =>
    if Instant.before s.pt a.2 then .next s
    else if !s.up.actOk && s.actCode a.1 != 0 then .next (s.actChecked (s.actCode a.1))
    else if s.keyOk then .next ({ s with up := { s.up with act := none } }.activate a.1).restart
    else .next ({ s with up := { s.up with act := none } }.setUpCode 0x000A)

/-! ## Rolls (R421 to R423) -/

/-- A step of a roll reached: STEP and Sinter 0x400A. -/
def State.rollStep (s : State) (n : Nat) : State := (s.setFld Fld.UP_STATUS_STEP n).note islSup 0x400A [n]

/-- A roll begins. -/
def State.startRoll (s : State) (r : Roll) : State :=
  let s := { s with up := { s.up with roll := some r } }
  ((s.setFld Fld.UP_STATUS_STEP 1).note islSup 0x4009 [r.kinds, b2n r.revert]).upShow

/-- No roll is in progress any more. -/
def State.endRoll (s : State) : State :=
  ({ s with up := { s.up with roll := none } }.setFld Fld.UP_STATUS_STEP 0).upShow

/-- A roll abandoned: each module's selection stays as it was written. -/
def State.abandonRoll (s : State) : State :=
  let s := if s.bn.ho.isSome then s.cancelHo else s
  (s.endRoll).note islSup 0x400C []

/-- UPDATE_ROLL. A Z9B-S has no partner to hand over to. -/
def execUpdateRoll (h : SvcMsg) (kinds : BitVec 8) (at_ : Instant) (s : State) : Res :=
  .next (s.upOrder h 3 fun s =>
    let ks := kinds.toNat % 4
    if !s.pair then (5, s)
    else if !allKinds ks (fun k => s.progState k == 4) then (0x010A, s)
    else if !(if hasKind ks 0 then s.up.hasMap else s.mapsRunning s.img) then (0x010D, s)
    else (0, s.startRoll { kinds := ks, at_ := at_, since := s.mt.frc }))

/-- The conditions of R411 that a roll's steps 2 and 4 check again; a revert roll ignores the owner lock. -/
def State.rollCode (s : State) (revert : Bool) : Nat :=
  if !revert && !s.pw.contactOpen then 0x0101
  else if !s.flag Fld.RST_POWER_HOLDUP_OK then 0x0102
  else if s.transition then 0x0103
  else if !s.partnerStands then 0x0104
  else if s.partnerLag ≠ 0 then 0x0105
  else if !(s.flag Fld.PK_STATUS_PRESENT && s.flag Fld.PK_STATUS_SERIAL_OK) then 0x0107
  else 0

/-- The module's own part of a roll: it activates, or writes its revert record, and restarts. -/
def State.rollOwn (s : State) (kinds : Nat) (reason : Nat) : State :=
  if s.onTrial then (s.revertRecord reason).restart
  else if kinds ≠ 0 then (s.activate kinds).restart
  else s

/-- ROLL_PARTNER_ACTIVATE: the active sees step 2 through; the standby activates the roll's `kinds`, as the active names them,
drops READY and restarts. -/
def execRollPartnerActivate (kinds : BitVec 8) (s : State) : Res :=
  if s.role = 1 then
    match s.up.roll with
    | some r =>
      if s.fld Fld.UP_STATUS_STEP = 1 ∧ s.rollCode r.revert = 0 then .next (s.rollStep 2) else .next s
    | none => .next s
  else if s.pair ∧ (s.role = 2 ∨ s.role = 3) ∧ s.keyOk ∧ (s.onTrial ∨ allKinds kinds.toNat (fun k => s.progState k == 4)) then
    .next ((s.driveReady false).rollOwn (kinds.toNat % 4) 3)
  else .next s

/-- The first standard boundary of BT at least 2 ms ahead and no earlier than AT. -/
def State.rollHo (s : State) (at_ : Instant) : Instant :=
  let h := s.nextHo
  if at_ ≠ 0 ∧ Instant.before h at_ then nextAt 1000000 0 at_ else h

/-- ROLL_PARTNER_READY: step 3 is done; the active orders the hand-over, or waits for the conditions. -/
def execRollPartnerReady (s : State) : Res :=
  match s.up.roll with
  | none => .next s
  | some r =>
    let st := s.fld Fld.UP_STATUS_STEP
    if s.role ≠ 1 ∨ st < 2 ∨ 4 < st ∨ s.bn.ho.isSome ∨ s.taking ∨ !s.partnerFit then .next s
    else
      let s := if st = 2 then s.rollStep 3 else s
      if s.rollCode r.revert ≠ 0 then .next s
      else .next ((if st = 4 then s else s.rollStep 4).scheduleHo (s.rollHo r.at_) .restart)

/-- ROLL_FORMER_ACTIVATE: step 5, after H. -/
def execRollFormerActivate (s : State) : Res :=
  match s.up.roll with
  | none => .next s
  | some r =>
    if s.role ≠ 0 ∨ s.fld Fld.UP_STATUS_STEP ≠ 5 ∨ !s.keyOk then .next s
    else if (!r.revert && !s.pw.contactOpen) || !s.flag Fld.RST_POWER_HOLDUP_OK || s.transition then .next s
    else .next ((s.note islSup 0x400A [5]).rollOwn r.kinds r.reason)

/-- ROLL_COMPLETE: the former active has joined. -/
def execRollComplete (s : State) : Res :=
  match s.up.roll with
  | none => .next s
  | some _ =>
    if s.role = 1 ∧ s.partnerStands ∧ s.fld Fld.UP_STATUS_STEP = 5 then
      .next ((s.rollStep 6).endRoll.note islSup 0x400B [])
    else .next s

/-- ROLL_WAIT_EXPIRE: a forward roll that has taken longer than ROLL_WAIT is abandoned (R421, R423). -/
def execRollWaitExpire (s : State) : Res :=
  match s.up.roll with
  | some r => if r.revert || decide ((s.mt.frc - r.since).toNat ≤ s.img.rollWait) then .next s else .next s.abandonRoll
  | none => .next s

/-- A trial ended by time or order (R418, R420): a revert roll in a binary's active, a revert restart elsewhere. -/
def State.endTrial (s : State) (reason : Nat) : State :=
  if s.pair && s.role == 1 then
    s.startRoll { kinds := s.trialKinds, since := s.mt.frc, revert := true, reason := reason }
  else { s with up := { s.up with revert := some reason } }.upShow

/-- REVERT_ROLL_START (R423): the two modules hold different selections of one update. -/
def execRevertRollStart (s : State) : Res :=
  if !s.pair || !s.onTrial || s.bn.hbLost || !s.otherImage || !s.keyOk then .next s
  else if s.role = 1 then .next (if s.up.roll.isNone then s.endTrial 3 else s)
  else if (s.role = 0 ∨ s.role = 2 ∨ s.role = 3) ∧ s.fld Fld.UP_STATUS_STEP = 0 ∧ !bitAt (s.reg .BN_HEALTH 1) 1 then
    .next ((s.driveReady false).revertRecord 3).restart
  else .next s

/-- The confirm record written (R420). -/
def State.confirmOwn (s : State) : State :=
  let s := s.selWrite fun r => putBit (putBit (noCounts r) 74 false) 75 false
  (((s.progEmpty 0).progEmpty 1).note islSup 0x4007 []).upShow

/-- UPDATE_CONFIRM (R420): in a binary the active answers 0 only when the partner's record is written too; `link`: the active's order
over the binary link. -/
def execUpdateConfirm (h : SvcMsg) (partnerOk link : Bool) (s : State) : Res :=
  .next (if link then s.linkOrder 4 fun s =>
      if !s.onTrial then (0x010F, s) else if !s.keyOk then (0x000A, s) else (0, s.confirmOwn)
    else s.upOrder h 4 fun s =>
      if !s.onTrial || (s.pair && !(s.partnerReady && !s.bn.hbLost && !s.otherImage)) then (0x010F, s)
      else if !s.keyOk then (0x000A, s)
      else (if s.pair && !partnerOk then 0x000A else 0, s.confirmOwn.relayOrder 4 0))

/-- UPDATE_REVERT. -/
def execUpdateRevert (h : SvcMsg) (s : State) : Res :=
  .next (s.upOrder h 5 fun s => if s.onTrial then (0, s.endTrial 3) else (0x010F, s))

/-- CANCEL's own part: a roll short of its hand-over, or the downloads of KINDS. -/
def State.orderCancel (s : State) (kinds : Nat) : Nat × State :=
  match s.up.roll with
  | some r => if r.revert || decide (5 ≤ s.fld Fld.UP_STATUS_STEP) then (5, s) else (0, s.abandonRoll)
  | none =>
    if !s.keyOk then (0x000A, s)
    else
      let s := if hasKind kinds 0 && s.progState 0 != 5 then s.progEmpty 0 else s
      let s := if hasKind kinds 1 && s.progState 1 != 5 then s.progEmpty 1 else s
      (0, s.relayOrder 6 kinds)

/-- UPDATE_CANCEL, from a session or, `link`, as the active's order over the binary link (R409, R410). -/
def execUpdateCancel (h : SvcMsg) (kinds : BitVec 8) (link : Bool) (s : State) : Res :=
  .next (if link then s.linkOrder 6 fun s => s.orderCancel kinds.toNat
    else s.upOrder h 6 fun s => s.orderCancel kinds.toNat)

/-- UPDATE_STATUS: the bitmap of the kind follows the status words. -/
def execUpdateStatus (h : SvcMsg) (kinds : BitVec 8) (s : State) : Res :=
  .next (s.svc h 0x11 2 7 (some 16) fun s =>
    let r := s.upRefusal 7
    if r ≠ 0 then (s.upRefuse r).upAnswer h r
    else
      let k := if hasKind kinds.toNat 0 then 0 else 1
      s.answer h 0x11 0 (wireBytes [s.upStatus, s.reg .PK_STATUS] ++ bytesOf (s.progMap k) 96))

/-- TRIAL_RUN_WRITE: every 60 s in the roles that count, the count goes into a new record (R418). -/
def execTrialRunWrite (s : State) : Res :=
  if s.onTrial && s.keyOk && decide (60000000000 ≤ s.runNow) then
    let run := s.trialRun
    let s := { s with up := { s.up with runNs := s.runNow % 1000000000, runAt := s.up.runAt.map fun _ => s.mt.frc } }
    .next (s.selWrite fun r => putBits r 127 96 (sat 4294967295 run))
  else .next s

/-- TRIAL_EXPIRE: 1,800 s in the active or in a Z9B-S (R418). -/
def execTrialExpire (s : State) : Res :=
  if s.onTrial && s.role == 1 && s.up.roll.isNone && s.up.revert.isNone && decide (1800 ≤ s.trialRun) then
    .next (s.endTrial 1)
  else .next s

/-- TRIAL_REVERT_RESTART: once the hold-up store and the transition point allow it (R418). -/
def execTrialRevertRestart (s : State) : Res :=
  match s.up.revert with
  | some why =>
    if s.keyOk && (s.refusedUp || (s.flag Fld.RST_POWER_HOLDUP_OK && !s.transition)) then
      .next (s.revertRecord why).restart
    else .next s
  | none => .next s

/-! ## Start-up (R415 to R417, R419) -/

/-- A start-up from a selection on trial: the boot is counted, or the trial reverts. -/
def State.trialBoot (s : State) : State :=
  if !s.onTrial || !s.keyOk then s
  else if s.fld Fld.UP_TRIAL_BOOTS < 3 then
    (s.selWrite fun r => putBits r 87 80 (bits r 87 80 + 1)).note islSup 0x4006 [s.fld Fld.UP_TRIAL_BOOTS + 1]
  else s.revertRecord 0

/-- A progress record brought into line with the selection: VERIFYING and VERIFIED fall back to DOWNLOADED and are verified
again; ON TRIAL follows the trial flags; a record of a bank that the selection names as active is EMPTY (R42). -/
def State.lineUp (s : State) (k : Nat) : State :=
  let trial := hasKind s.trialKinds k
  let st := s.progState k
  if trial && st != 0 && bits s.selCur (72 + k) (72 + k) == bits (s.prog k) 64 64 then (if st = 5 then s.progShow k else s.progPut k 5)
  else if st = 5 ∨ (st ≠ 0 ∧ bits s.selCur (72 + k) (72 + k) = bits (s.prog k) 64 64) then s.progPut k 0
  else if st = 3 ∨ st = 4 then
    { s.progPut k 2 with up := { s.up with again := s.up.again + 2 ^ k } }
  else s.progShow k

/-- What start-up does with the progress records. -/
def State.lineUps (s : State) : State :=
  if s.keyOk then ((s.lineUp 0).lineUp 1).upShow else (s.progShow 0).progShow 1

/-- After the first commit, verification runs again (R415). -/
def State.verifyAgain (s : State) : State :=
  if s.up.again ≠ 0 ∧ s.keyOk then
    let ks := s.up.again
    { s.startVerify ks with up := { (s.startVerify ks).up with again := 0 } }
  else s

/-- A refusal found at start-up: from a trial selection it reverts and restarts at once (R419).
(DEDUCED, log entry 71) -/
def State.refuseStart (s : State) (code : Nat) : State :=
  let first := !s.refusedUp
  let s := s.refuse code
  if first && s.onTrial && s.keyOk && ((decide (5 ≤ code) && decide (code ≤ 0x0B)) || code == 0x0D) then
    (s.revertRecord 2).restart
  else s

end Sys2Proof.Machine
end

