-- ==== Sys2Proof/Machine/Startup.lean ====
section
/-! DEFINITION. Start-up (02 R52 to R57, 03 R72, R73, 13 R300, 14 R338, R339, R345), the plant key in its socket (R50, R452)
and the owner lock (R451). -/

namespace Sys2Proof.Machine

/-! ## Power good and reset release -/

/-- Start-up stands before its row at PG + 20 ms: no phase reached, no refusal, and no reset that still runs. -/
def State.beforeBoot (s : State) : Bool :=
  s.phase == 0 && !s.flag Fld.SUP_START_REFUSAL &&
  (match s.pw.inReset with
   | none => true
   | some c => c == 1 || c == 2)

/-- POWER_GOOD: a logic feed rises above its on threshold. -/
def execPowerGood (f : Feed) (volts : Nat) (s : State) : Res :=
  if s.beforeBoot then
    let s := (s.setFlag (feedFlag f) true).setFld (feedVolts f) (sat 255 (volts / 200))
    .next { s with pw := { s.pw with pgFrc := s.mt.frc } }
  else .next s

/-- The islands that run once reset is released: all but the shells, which their loading starts. -/
def State.wakeIslands (s : State) : State :=
  (List.range 8).foldl (fun s i => s.setFlag Fld.SUP_ISLAND_ALIVE true i) s

/-- RESET_RELEASE: the boot ROM runs in compare mode; the supervisor pair's comparators are tested, and a failure refuses
(R338). -/
def execResetRelease (xOk yOk : Bool) (s : State) : Res :=
  if s.beforeBoot && (s.flag Fld.RST_POWER_FEED_A || s.flag Fld.RST_POWER_FEED_B) then
    let s := { s with pw := { s.pw with inReset := none, resetOut := false, boLatch := false } }.lkStart
    let s := (s.setPhase 1).wakeIslands
    let s := (s.setFlag Fld.LK_PAIR_CMP_X_OK xOk 4).setFlag Fld.LK_PAIR_CMP_Y_OK yOk 4
    .next (if xOk && yOk then s else s.refuse 0x0C)
  else .next s

/-! ## Key header and bank-select record (R38, R44) -/

/-- The key header is in order (R38): MAGIC, FORMAT, LAYOUT and CRC. -/
def headerOk (h : BitVec 1024) : Bool :=
  (BitVec.ofNat 32 (bits h 31 0) == Config.magicKey) && bits h 39 32 == 1 && bits h 47 40 == 1 &&
  (BitVec.ofNat 32 (bits h 1023 992) == crcOf h 124)

def State.keyHdr (s : State) : BitVec 1024 := s.keyRec 1024 Config.keyHeader

/-- Both copies valid, of equal SEQUENCE, with differing defined fields (R44). -/
def State.copiesDiffer (s : State) : Bool :=
  let a := s.sel 0
  let b := s.sel 1
  selValid a && selValid b && bits a 63 32 == bits b 63 32 &&
  !(bits a 75 72 == bits b 75 72 && bits a 87 80 == bits b 87 80 && bits a 255 96 == bits b 255 96)

/-- A copy selected: the registers that follow it, the trial, the progress records (R44, R415, R417). -/
def State.selectCopy (s : State) (c : Nat) : State :=
  let s := (s.setFld Fld.PK_STATUS_SEL_COPY c).showTrial
  let s := if s.copiesDiffer then (s.setFlag Fld.PK_STATUS_COPIES_DIFFER true).startNote 0x1004 0 0 else s
  let s := s.trialBoot
  let s := s.setFld Fld.SUP_START_FW_BANK (bits s.selCur 73 73)
  let s := s.setFld Fld.SUP_START_CFG_BANK (bits s.selCur 72 72)
  (s.lineUps).setPhase 2

/-- KEY_HEADER_READ. -/
def execKeyHeaderRead (s : State) : Res :=
  if s.phase ≠ 1 ∨ !s.starting ∨ s.flag Fld.PK_STATUS_PRESENT then .next s
  else if !s.key.inSocket then .next (s.refuse 0x01)
  else
    let s := (s.setFlag Fld.PK_STATUS_PRESENT true).setFlag Fld.PK_STATUS_WRITABLE s.key.writable
    let h := s.keyHdr
    if !headerOk h then .next (s.refuse 0x02)
    else
      let s := (s.setFlag Fld.PK_STATUS_HEADER_OK true).setFlag Fld.PK_STATUS_SERIAL_OK true
      let s := s.setPair .PK_SERIAL_LO .PK_SERIAL_HI 0 (BitVec.ofNat 64 (bits h 127 64))
      let s := { s with bn := { s.bn with stored := s.keyEpochWord } }
      match s.selPick with
      | none => .next (s.refuse 0x03)
      | some c => .next (s.selectCopy c)

/-! ## Firmware (R41, R46, R48) -/

/-- Firmware starts: its watchdog runs from its first instruction (R429). -/
def State.startFirmware (s : State) : State :=
  let s := { s with
    boot := { s.boot with fwRunning := true, fwTag := hdrTag (s.bankHdr 1 (s.fld Fld.SUP_START_FW_BANK)) }
    pw := { s.pw with wdogRun := true, kickFrc := s.mt.frc } }
  s.setPhase 3

/-- The tag that the selected record names for bank `b` of kind `k` is not its header's: Sinter 0x1005 with the record's tag
(R46). -/
def State.tagCheck (s : State) (k b : Nat) : State × Bool :=
  let t : W64 := BitVec.ofNat 64 (if k = 0 then bits s.selCur 191 128 else bits s.selCur 255 192)
  if hdrTag (s.bankHdr k b) = t then (s, true) else (s.startNote 0x1005 0 t, false)

/-- FIRMWARE_VERIFIED: the selected bank, or the other one with a fallback record, which leaves CFG_TAG as it was, so that
R46 still compares it; with neither, the recovery ROM. -/
def execFirmwareVerified (s : State) : Res :=
  if s.phase ≠ 2 ∨ !s.starting then .next s
  else
    let b := s.fld Fld.SUP_START_FW_BANK
    let q := s.tagCheck 1 b
    let s := q.1
    let good := q.2 && s.bankValid 1 b
    let alt := !good && s.bankValid 1 (1 - b)
    let ok : BitVec 4 := putBit (putBit s.boot.okBanks (2 + b) good) (2 + (1 - b)) alt
    let s := { s with boot := { s.boot with okBanks := ok } }
    if good then .next s.startFirmware
    else if alt then
      let bad := hdrTag (s.bankHdr 1 b)
      let s := (s.setFlag Fld.SUP_START_FW_FALLBACK true).setFld Fld.SUP_START_FW_BANK (1 - b)
      let s := if s.keyOk then
          s.selWrite fun r =>
            putBits (putBits (putBit r 75 false) 73 73 (1 - b)) 255 192 (hdrTag (s.bankHdr 1 (1 - b))).toNat
        else s
      .next (((s.startNote 0x1003 0 bad).lineUps).startFirmware)
    else .next (s.refuse 0x04)

/-! ## Base identification (R39, R450) -/

/-- The straps are in order: odd parity, a valid kind, the memory's kind (R450). -/
def strapsOk (b : BaseMem) : Bool := b.parOk && (b.strapKind == 1 || b.strapKind == 2) && b.strapKind == b.kind

/-- The fingerprint of the own position. -/
def State.ownPrint (s : State) : BitVec 384 := if s.posB then s.base.fpB else s.base.fpA

/-- BASE_IDENT_READ: the base's fingerprint is compared with the SHA-384 of the key's OWNER_KEY (R39). In a pair heartbeats
and HEALTHY begin. -/
def execBaseIdentRead (base : Option BaseMem) (s : State) : Res :=
  if s.phase ≠ 3 ∨ !s.starting ∨ s.boot.baseRead then .next s
  else
    let s := { s with base := base.getD { readable := false } }
    let s := (s.setFlag Fld.BN_STATUS_PAIR s.pair).setFlag Fld.BN_STATUS_POS s.posB
    let s := s.setFlag Fld.UP_STATUS_LOCKED (!s.pw.contactOpen)
    if !s.base.readable || !s.base.crcOk then .next (s.refuseStart 0x07)
    else if !strapsOk s.base then .next (s.refuseStart 0x0B)
    else if s.ownPrint = 0 ∨ s.ownPrint ≠ s.ownerHash then .next (s.refuseStart 0x06)
    else
      let s := { s with boot := { s.boot with baseRead := true } }
      .next (if s.pair then { s with bn := { s.bn with hbRun := true } }.driveHealthy true else s)

/-! ## Configuration (R41, R46, R47, R49) -/

/-- CONFIG_BANK_LOADED. -/
def execConfigBankLoaded (s : State) : Res :=
  if s.phase ≠ 3 ∨ !s.starting ∨ !s.boot.baseRead then .next s
  else
    let b := s.fld Fld.SUP_START_CFG_BANK
    let q := s.tagCheck 0 b
    let s := q.1
    let h := s.bankHdr 0 b
    if q.2 && s.bankValid 0 b then
      .next ({ s with boot := { s.boot with payHash := hdrHash h, okBanks := putBit s.boot.okBanks b true } }.setPhase 4)
    else .next (s.refuseStart 0x05)

/-! ## Self-test (R52, R338, R339) -/

/-- Every part of the self-test passed. -/
def selfPassed (t : SelfTest) : Bool :=
  t.memOk && t.lanes == 0xFF && t.cmpX == 0x1F && t.cmpY == 0x1F && t.stages == 0x1F

/-- SELF_TEST_DONE: before the first commit a failure refuses as soon as it is found (R472). -/
def execSelfTestDone (t : SelfTest) (s : State) : Res :=
  if !s.starting || !s.boot.fwRunning || s.boot.committed then .next s
  else
    let s := (List.range 5).foldl (fun s i =>
      (s.setFlag Fld.LK_PAIR_CMP_X_OK (bitAt t.cmpX i) i).setFlag Fld.LK_PAIR_CMP_Y_OK (bitAt t.cmpY i) i) s
    let s := s.setFld Fld.LE_CTL_LANE_EN t.lanes.toNat
    .next (if selfPassed t then { s with boot := { s.boot with selfTested := true } } else s.refuse 0x0C)

/-! ## Decode (R52, R471, R472) -/

/-- The first condition that makes a decoded image refuse the start, 0 where none does. (DEDUCED, log entry 43) -/
def State.imageRefusal (s : State) (img : PlantImage) : Nat :=
  let h := s.bankHdr 0 (s.fld Fld.SUP_START_CFG_BANK)
  if bits h 223 208 ≠ s.base.binary then 0x07
  else if img.baseKind ≠ (if s.pair then 2 else 1) then 0x0B
  else if Config.issue < bits h 199 192 then 0x08
  else if !imageFormed img || img.subs.any (fun c => c.binary == s.base.binary) then 0x09
  else if !imageFits img then 0x0A
  else 0

/-- The default record of a declared point: its KIND is the image's (R8). -/
def defaultRec (c : PointCfg) : W64 := mkRec 0xFFFF c.kind (2 ^ qStale) 0

/-- The state block of a loop that has not run: STATUS.FIRST set, all else 0 (R122, R123). -/
def stateReset : BitVec 256 := putBit (0 : BitVec 256) 111 true

/-- A section block as it is at reset: the states, and what is reserved, 0 (R124). -/
def sectionReset (b : BitVec 256) : BitVec 256 := (Sec.ofBlock (putBits (putBits b 255 192 0) 1 0 0)).toBlock

/-- An alternate block as it is at reset: SET stands, what is reserved is 0 (R124). -/
def alternateReset (b : BitVec 256) : BitVec 256 := (Sec.ofBlock (putBits b 255 192 0)).toBlock

/-- The blocks of the loop whose first block is `b`, after its descriptor, as they are at reset (R118, R122, R124). -/
def State.loadLoop (s : State) (b : Nat) : State :=
  let d := s.descAt b
  let put := fun (f : BitVec 256 → BitVec 256) (s : State) (i : Nat) => { s with blk := Tab.set 0 s.blk i (f (s.blkGet i)) }
  let s := put (fun _ => stateReset) s (b + 2)
  let s := ((List.range (ldNsec d)).map fun i => b + 3 + i).foldl (put sectionReset) s
  ((List.range (ldNsec d * ldNalt d)).map fun i => b + 3 + ldNsec d + i).foldl (put alternateReset) s

/-- Process image, subscription cache and loop region as the image fills them; every loop's state block takes its reset
content. -/
def State.loadMemory (s : State) (img : PlantImage) : State :=
  let s := img.points.foldl (fun s p => { s with pi := Tab.set Rec.default s.pi p.1 (defaultRec p.2) }) s
  let s := img.subPoints.foldl
    (fun s p => (s.setSub (2 * p.1) (defaultRec p.2)).setSub (2 * p.1 + 1) (defaultRec p.2)) s
  let s := img.loopBlocks.foldl (fun s b => { s with blk := Tab.set 0 s.blk b.1 b.2 }) s
  let s := img.loopDir.foldl (fun s d => s.loadLoop d.2) s
  { s with le := { s.le with dir := img.loopDir.foldl (fun t d => Tab.set 0 t d.1 (d.2 + 1)) s.le.dir } }

/-! ### Retained variables (R47, R422, R436) -/

/-- Byte address of retained word `r` in the key. (DESIGN CHOICE, log entry 45) -/
def retainedAddr (r : Nat) : Nat := Config.keyRetained + 8 * r

/-- A retained word of another selection read through its map (R422). -/
def State.mapRetained (s : State) (m : StateMap) (x : Nat × Nat) : State :=
  match mapWord 3 true m.entries x.1 with
  | [] => s
  | r :: _ => s.twPut x.2 (s.keyUnit (retainedAddr r))

/-- The retained words of the image, each read into its tracked word: those its own header names, or, under another CFG_TAG,
those that a map from that selection covers (R422). The others keep their initial values. -/
def State.readRetained (s : State) (img : PlantImage) : State :=
  if s.key.retTag = s.ownTag then
    img.retained.foldl (fun s x => s.twPut x.2 (s.keyUnit (retainedAddr x.1))) s
  else
    match img.maps.find? fun m => m.cfgTag == s.key.retTag with
    | none => s
    | some m =>
      let s := img.retained.foldl (fun s x => s.mapRetained m x) s
      { s with pw := { s.pw with
        retained := img.retained.map fun x => (Config.keyRetained / 8 + x.1, s.twGet x.2) } }

/-- The time bases and PT's source (R83): base 0 follows gPTP domain 0 where the image gives nothing. -/
def State.loadTime (s : State) (img : PlantImage) : State :=
  let cfg := fun n => listGet (if n = 0 then 0x80400000#32 else 0) img.tbCfg n
  let s := (List.range 8).foldl (fun s n => s.setReg .MT_TB_CFG n (cfg n &&& 0xFFC00000#32)) s
  { s.setFld Fld.MT_PT_SRC_BASE img.ptSrc with mt := { s.mt with hist := [] } }

/-- The plant ports: forwarding, gate lists, selectors, peers (R261, R265, 11 registers). -/
def State.loadPorts (s : State) (img : PlantImage) : State :=
  let s := { s with pn := { s.pn with gates := [], busy := [], peers := img.peers } }
  [1, 2].foldl (fun s p =>
    let s := (s.setFlag Fld.PN_PORT_FWD true p).setFlag Fld.PN_PORT_GATES (img.gcl.any fun g => g.1 == p) p
    (s.setFld Fld.PN_PORT_TB (listGet 0 img.portTb (p - 1)) p).setFld Fld.PN_PORT_PEERS (sat 255 ((img.peers.filter fun x => x.ports.contains p).length / 16)) p) s

/-- Slots, routes, split pairs, detection mode, subscriptions, groups; then the slot table is fixed (R307, R347, R369). -/
def State.loadRest (s : State) (img : PlantImage) : State :=
  let s := img.slots.foldl (fun s x => s.slotPut x.1 x.2) s
  let s := s.lockSlots
  let s := (List.range 8).foldl (fun s g => s.routePut g (listGet 0 img.routes g)) s
  let s := img.splittable.foldl (fun s p => s.setFlag Fld.LK_PAIR_SPLITTABLE true p) s
  let s := s.setFlag Fld.BN_STATUS_MODE (s.pair && img.arbiter)
  let s := (List.range img.subs.length).foldl
    (fun s n => s.setFlag Fld.LN_SUB_COORD_REQUIRED ((img.subs[n]?).any fun c => c.coord) n) s
  s.setFld Fld.LN_STATUS_GROUPS (sat 255 (img.groups.length - 1))

/-- A CONTROLLED module whose image declares SEAL becomes SEALED (R377). -/
def State.seal (s : State) (img : PlantImage) : State :=
  if img.declSeal ∧ !s.pw.fuseSealed then
    ({ s with pw := { s.pw with fuseSealed := true } }.showLife).note islSup 0xE005 []
  else s

/-- An accepted plant image decoded into its memory regions. -/
def State.acceptImage (s : State) (img : PlantImage) : State :=
  let s := { s with img := img, boot := { s.boot with imgLoaded := true } }
  let s := (((s.loadMemory img).loadTime img).loadPorts img).loadRest img
  ((((s.seal img).readRetained img).restoreAdapt).upShow).setPhase 5

/-- PLANT_IMAGE_DECODED: the self-test beside it has passed by then (R52). -/
def execPlantImageDecoded (img : PlantImage) (s : State) : Res :=
  if s.phase ≠ 4 ∨ !s.starting ∨ !s.boot.selfTested then .next s
  else
    let c := s.imageRefusal img
    if c = 0 then .next (s.acceptImage img) else .next (s.refuseStart c)

/-! ## Shell loading (R52, R59, R178, R197, R219, R277) -/

/-- What a universal channel keeps through shell loading: while Caldera holds the outputs of a restart, what it drives
(R60). -/
def State.ucKeep (s : State) (n : Nat) : UcChan :=
  let c := s.uc n
  if s.pw.calderaClaim then
    { cmd := c.cmd, elec := c.elec, code := c.code, safed := c.safed, safe := c.safe, safeTo := c.safeTo, vOff := c.vOff }
  else {}

/-- A universal channel loaded: UC_CFG, its calibration judged, UNASSIGNED until its first commit. Where its smoothing starts
the manual does not say: a free value (R176). (DEDUCED, log entry 35) -/
def State.loadUc (s : State) (c : UcCfg) : State :=
  let n := c.ch.val
  let v : F32 := BitVec.ofNat 32 (Config.measured (200 + n) s.free)
  let s := ((s.setReg .UC_CFG n c.cfg).setUc n { s.ucKeep n with v := v }).draw
  let s := s.setLiveUc n 15 false
  if s.ucMode n = 0 then s
  else
    let s := (s.setFlag Fld.UC_STAT_IN_SERVICE true n).setFlag Fld.UC_STAT_UNASSIGNED (s.ucOut n) n
    if Config.calGood n (s.fld Fld.UC_CFG_RANGE n) then s.setFlag Fld.UC_STAT_CAL_OK true n else s.ucOutOfService n []

/-- A digital channel loaded. -/
def State.loadDc (s : State) (c : DcCfg) : State :=
  let m := c.ch.val
  let k := s.dc m
  let kept : DcChan := if s.pw.calderaClaim then
      { state := k.state, cmd := k.cmd, safe := k.safe, safeTo := k.safeTo }
    else { state := k.state }
  let s := (s.setReg .DC_CFG m (c.cfg &&& 0xFFFFC000#32)).setDc m kept
  if s.dcMode m = 0 then s
  else (s.setFlag Fld.DC_STAT_IN_SERVICE true m).setFlag Fld.DC_STAT_UNASSIGNED (s.dcMode m == 3) m

/-- A universal channel that the image leaves off or does not declare: out of service, its stage off (R197). -/
def State.unloadUc (s : State) (n : Nat) : State :=
  if s.flag Fld.UC_STAT_IN_SERVICE n && (s.img.uc.all fun c => c.ch.val != n || bits c.cfg 31 28 == 0) then
    ((s.setReg .UC_CFG n (RegName.reset .UC_CFG n)).setReg .UC_STAT n (RegName.reset .UC_STAT n)).setUc n {}
  else s

/-- The same of a digital channel (R219). -/
def State.unloadDc (s : State) (m : Nat) : State :=
  if s.flag Fld.DC_STAT_IN_SERVICE m && (s.img.dc.all fun c => c.ch.val != m || bits c.cfg 31 28 == 0) then
    ((s.setReg .DC_CFG m (RegName.reset .DC_CFG m)).setReg .DC_STAT m (RegName.reset .DC_STAT m)).setDc m {}
  else s

/-- The shell of slice `k` runs and is loaded. A digital group starts in OFF (R207). -/
def State.wakeShell (s : State) (k : Nat) : State :=
  let s := (s.setFlag Fld.SUP_ISLAND_ALIVE true (8 + k)).setSlice k { loaded := true, tempOff := (s.slice k).tempOff, sinks := (s.slice k).sinks }
  if k < 4 then s.setFlag Fld.UC_SLICE_ALIVE true k
  else
    let s := s.setFlag Fld.DC_GROUP_ALIVE true (k - 4)
    if s.pw.calderaClaim then s else s.setFld Fld.DC_GROUP_STATE 3 (k - 4)

/-- SHELLS_LOADED: what an earlier image loaded and this one leaves off goes out of service; channels, shells, CAN ports, Scapex ports and capture channels take their configuration; no output is
driven. -/
def execShellsLoaded (s : State) : Res :=
  if s.phase ≠ 5 ∨ !s.starting then .next s
  else
    let s := (List.range 10).foldl (fun s k => s.wakeShell k) s
    let s := (List.range 48).foldl State.unloadDc ((List.range 32).foldl State.unloadUc s)
    let s := s.img.uc.foldl (fun s c => s.loadUc c) s
    let s := s.img.dc.foldl (fun s c => s.loadDc c) s
    let s := (List.range 6).foldl (fun s g => (s.supplyDiags g (s.fld Fld.DC_GROUP_STATE g)).sinkStart g) s
    let s := s.canLoad
    .next (((s.sxLoad).gyLoad).setPhase 6)

/-! ## Time acquisition (R72, R73, R345) -/

/-- PT and BT stepped, once; PT runs on at the learned rate, BT with it (R71, R89). The step is an anchor of its own
(R77). -/
def State.stepTime (s : State) (pt bt : Instant) : State :=
  let s := { s with mt := { s.mt with
    pt := s.mt.pt.step s.mt.frc pt, bt := s.mt.bt.step s.mt.frc bt, ptSet := true, btSet := true } }
  (s.setPtRate s.mt.srcRate).anchor 3

/-- PT of an anchor record and its FRC (R405). -/
def anchorPt (r : BitVec 512) : Nat := bits r 415 352
def anchorFrc (r : BitVec 512) : Nat := bits r 287 224

/-- The record of a list with the greatest SEQUENCE below `q`, and the one with the least above it. -/
def recBelow (rs : List (BitVec 512)) (q : Nat) : Option (BitVec 512) :=
  rs.foldl (fun a r => if recSeq r < q then (match a with
    | some x => if recSeq x < recSeq r then some r else a
    | none => some r) else a) none

def recAbove (rs : List (BitVec 512)) (q : Nat) : Option (BitVec 512) :=
  rs.foldl (fun a r => if q < recSeq r then (match a with
    | some x => if recSeq r < recSeq x then some r else a
    | none => some r) else a) none

/-- An instant of a record against now, as a signed difference (R4). -/
def relPt (now : Instant) (r : BitVec 512) : Int := Instant.diff (BitVec.ofNat 64 (anchorPt r)) now

/-- The instant of an anchor against now: its PT, or, where that is 0, carried back by FRC from the next anchor with PT set
(R406). -/
def anchorAt (now : Instant) (as : List (BitVec 512)) (a : BitVec 512) : Option Int :=
  if anchorPt a ≠ 0 then some (relPt now a)
  else (recAbove (as.filter fun r => anchorPt r != 0) (recSeq a)).map fun b =>
    relPt now b - ((anchorFrc b : Int) - (anchorFrc a : Int))

/-- The upper end of the interval in which a record was admitted, where an anchor places it (R406). -/
def recUpper (now : Instant) (as : List (BitVec 512)) (period q : Nat) : Option Int :=
  match recBelow as q with
  | none => none
  | some a =>
    match anchorAt now as a with
    | none => none
    | some lo =>
      let hi := lo + period
      match (recAbove as q).bind (anchorAt now as) with
      | some b => some (min hi b)
      | none => some hi

/-- The upper end that R345 counts with: its own, that of the next record that can be placed, or now, which is 0. -/
def lkfUpper (now : Instant) (rs as : List (BitVec 512)) (period : Nat) (q : Nat) : Int :=
  match recUpper now as period q with
  | some x => x
  | none =>
    let later := rs.filter fun r => decide (q < recSeq r) && ((recUpper now as period (recSeq r)).isSome)
    match recAbove later q with
    | some r => (recUpper now as period (recSeq r)).getD 0
    | none => 0

/-- Lockstep fatal resets within the last hour (R345): records 0xF005 whose upper end lies within 1 h before now.
(DEDUCED, log entry 47) -/
def State.lkfCount (s : State) : Nat :=
  let rs := s.validRecs ++ s.sn.queue
  let as := rs.filter fun r => recCode r == 1
  ((rs.filter fun r => recCode r == 0xF005).filter fun r =>
    let u := lkfUpper s.pt rs as s.img.anchorPeriod (recSeq r)
    decide (u ≤ 0) && decide (-3600000000000 ≤ u)).length

/-- Time acquired: the count of R345, then the role decision, unless a third lockstep fatal reset refuses it. -/
def State.timeDone (s : State) : State :=
  let n := s.lkfCount
  let s := s.setFld Fld.RST_CAUSE_LKF_1H (sat 255 n)
  if 3 ≤ n ∧ s.fld Fld.RST_CAUSE_CAUSE = 5 then s.refuse 0x0C else s.setPhase 7

/-- The partner's time state taken over (R72). Where its holdover estimate or its offset stands the command does not
say. (DESIGN CHOICE, log entry 48) -/
def State.takeState (s : State) (st : Nat) : State :=
  let e0 := Config.measured 67 s.free
  let s := if st = 3 then { s with mt := { s.mt with hold := { frc := s.mt.frc, e0 := e0, long := false } } }.draw else s
  let s := if st = 1 then s.enterLocked else s.setTimeState st
  let s := s.setTimeSource (if st = 1 ∨ st = 2 then 2 else 5)
  let s := if st = 4 then s.setErr 4294967295 else if st = 2 then (s.setErr (Config.measured 69 s.free)).draw else s
  let s := { s with mt := { s.mt with
    partner := if st = 1 then some { off := 0, frc := s.mt.frc, lead := s.lead } else none } }
  if st = 3 then s.coordHold else s.setCoord (decide (st ≠ 1))

/-- The offset to the source of order 1 that the step of start-up takes (R72, R74): the base that MT_PT_SRC names follows a
gPTP domain and is synchronized, the peer delay of its receiving port is valid, and the last four Sync offsets, carried, agree
within 1 µs. -/
def State.gptpOffset (s : State) : Option Int :=
  let n := s.fld Fld.MT_PT_SRC_BASE
  let ready := s.flag Fld.MT_TB_CFG_EN n && s.fld Fld.MT_TB_CFG_SOURCE n == 1 && s.flag Fld.MT_TB_CFG_SYNCED n &&
    !s.baseStale n && s.flag Fld.PN_PORT_PDELAY_OK (s.fld Fld.MT_TB_CFG_PORT n)
  match s.mt.hist.map s.carry with
  | e :: rest =>
    let last := e :: rest.take 3
    if ready ∧ 3 ≤ rest.length ∧ maxInt last e - minInt last e ≤ 1000 then some e else none
  | [] => none

/-- TIME_ACQUIRED. -/
def execTimeAcquired (t : TimeStep) (s : State) : Res :=
  if s.phase ≠ 6 ∨ !s.starting ∨ s.mt.ptSet then .next s
  else
    match t with
    | .partner pt bt st =>
      if s.pair && decide (1 ≤ st) && decide (st ≤ 4) then .next (((s.stepTime pt bt).takeState st).timeDone) else .next s
    | .gptp =>
      match s.gptpOffset with
      | some e =>
        let now := s.pt - BitVec.ofInt 64 e
        .next ((((s.stepTime now now).enterLocked).setTimeSource 1).timeDone)
      | none => .next s

/-- PT of the newest time anchor in the key whose PT field is not 0, where there is one (R73). -/
def State.lastAnchor (s : State) : Option Instant :=
  (recBelow ((s.validRecs).filter fun r => recCode r == 1 && anchorPt r != 0) 281474976710656).map fun r =>
    BitVec.ofNat 64 (anchorPt r)

/-- The partner runs, so its time is available (R72): its heartbeats come over a binary link, in a role that a module takes after
its own time acquisition. (DEDUCED, log entry 119) -/
def State.partnerRuns (s : State) : Bool :=
  s.pair && s.bn.hbSeen && !s.bn.hbLost && decide (1 ≤ s.bn.hbRole) && decide (s.bn.hbRole ≤ 5)

/-- The acquisition limit, measured from PG + 240 ms, is over (R52 to R54). -/
def State.acqOver (s : State) : Bool :=
  decide (s.img.acqLimit * 1000000000 + 240000000 + (if s.flag Fld.SUP_START_FW_FALLBACK then 180000000 else 0) ≤
    (s.mt.frc - s.pw.pgFrc).toNat)

/-- ACQUISITION_TIMEOUT: the limit is over and neither source of R72 is available (R73). -/
def execAcquisitionTimeout (s : State) : Res :=
  if s.phase ≠ 6 ∨ !s.starting ∨ s.mt.ptSet ∨ !s.acqOver ∨ s.partnerRuns ∨ s.gptpOffset.isSome then .next s
  else
    let build : Instant := BitVec.ofNat 64 (bits (s.bankHdr 0 (s.fld Fld.SUP_START_CFG_BANK)) 191 128)
    let t := match s.lastAnchor with
      | some a => Instant.later a build
      | none => build
    let s := (((s.stepTime t t).setTimeState 4).setTimeSource 5).setCoord true
    .next (s.timeDone)

/-! ## Role decision and first commit (R51, R52, R300) -/

/-- The role decided: the module claims, or joins. (DESIGN CHOICE, log entry 133) -/
def State.decided (s : State) : State := s.setPhase 8

/-- In a Z9B-S every unit shows this module's authority once it claims: no other claim is on the loop. -/
def State.showOwn (s : State) : State :=
  let own := if s.posB then Indication.b else Indication.a
  ((List.range 18).filter fun i => decide (5 ≤ i)).foldl (fun s i =>
    let was := s.shows i
    let s := { s with bn := { s.bn with inds := Tab.set Indication.unclaimed s.bn.inds i own } }
    if i = 5 then s.bnFollows own else s.unitFollows i was true) s

/-- The claim that a restarted module makes while the loop still shows its position, for the claim that Caldera held. -/
def State.claimShown (s : State) : State :=
  if s.shows 5 then s.bnFollows (if s.posB then .b else .a) else s

/-- Caldera's own hold of the claim ends: the module claims for itself. -/
def State.endCaldera (s : State) : State :=
  if s.pw.calderaClaim then
    { s.driveClaim false with pw := { s.pw with calderaClaim := false } }
  else s

/-- ROLE_DECISION: `partnerHash` and `partnerFw` are the partner's configuration hash and firmware tag, as it gives them over
the binary link, `updateNames` the hash that its update in progress names. It waits for the end of hold-up (R438).
(DEDUCED, log entry 46) -/
def execRoleDecision (partnerHash : BitVec 384) (partnerFw : W64) (updateNames : Option (BitVec 384)) (s : State) : Res :=
  if s.phase ≠ 7 ∨ !s.starting ∨ !s.mt.ptSet ∨ s.flag Fld.RST_POWER_HOLDUP then .next s
  else if !s.pair then .next ((((s.endCaldera).claim 5 0).showOwn).decided)
  else if s.partnerClaim then
    if partnerHash = s.boot.payHash ∨ updateNames = some s.boot.payHash then
      let s := { s with bn := { s.bn with partnerFw := some partnerFw } }
      .next ((s.joinAgain).decided)
    else .next (s.refuseStart 0x0D)
  else if !s.pw.removeClosed then .next s
  else if s.arbiter && !s.flag Fld.BN_STATUS_GRANT then .next s
  else .next ((((s.endCaldera).claim 5 0).claimShown).decided)

/-- Every class launches its first entries at the first launched cycle (R52). -/
def State.startAt (s : State) (t : Instant) : State :=
  { s with ln := { s.ln with starts := [(0, some t), (1, some t), (2, some t)] } }

/-- FIRST_COMMIT: the first launched cycle, at the first standard boundary at least 1 ms after the role was taken (R52, R97).
A hold of Caldera's ends with the commit, so in a module that holds authority (R60). Sinter 0x1008 describes the
configuration in use (R57). -/
def execFirstCommit (s : State) : Res :=
  if s.phase = 8 ∧ s.starting ∧ s.boot.roleTaken ∧ !s.boot.committed ∧ (s.role = 1 ∨ s.role = 2 ∨ s.role = 3) ∧
      s.reached s.firstCycle then
    let h := s.bankHdr 0 (s.fld Fld.SUP_START_CFG_BANK)
    let s := s.startNote 0x1008 0 s.ownTag (bits h 127 96)
    let s := s.startAt s.firstCycle
    let s := { s with boot := { s.boot with committed := true } }
    let s := if s.role = 1 then { s with pw := { s.pw with calderaHold := false } } else s
    let s := s.startLaunch
    let s := if s.role = 1 then s.setFlag Fld.LE_CTL_RUN true else s
    let s := s.setFlag Fld.LA_STATUS_EN (s.img.adapt.any fun a => a.ident || a.install || a.surge)
    .next (((s.lkFirstCommit).relay).verifyAgain)
  else .next s

/-! ## The key in its socket (R50, R452) -/

/-- KEY_REMOVED: no unit is begun any more; a roll short of its hand-over is abandoned (R423). -/
def execKeyRemoved (s : State) : Res :=
  if !s.key.inSocket then .next s
  else
    let s := { s with key := { s.key with inSocket := false } }
    let s := (((s.setFlag Fld.PK_STATUS_PRESENT false).ev 4).snShow).epochHolds
    if s.up.roll.isSome && decide (s.fld Fld.UP_STATUS_STEP < 5) then .next (s.abandonRoll.setUpCode 0x0107) else .next s

/-- KEY_INSERTED: `content` is another cartridge's, none the one that was removed. -/
def execKeyInserted (content : Option KeyImage) (s : State) : Res :=
  if s.key.inSocket then .next s
  else
    match content with
    | none => .next { s with key := { s.key with inSocket := true } }
    | some x =>
      .next { s with key := { s.key with
        inSocket := true, units := x.units.foldl (fun t u => Tab.set 0 t u.1 u.2) []
        adapt := x.adapt.foldl (fun t u => Tab.set {} t u.1 u.2) [], retTag := x.retTag } }

/-- KEY_HEADER_REREAD: with the serial of start-up writing resumes; with another KEY_CHANGED is set (R50). -/
def execKeyHeaderReread (s : State) : Res :=
  if !s.key.inSocket || s.flag Fld.PK_STATUS_PRESENT || !s.flag Fld.PK_STATUS_HEADER_OK then .next s
  else
    let s := (s.setFlag Fld.PK_STATUS_PRESENT true).setFlag Fld.PK_STATUS_WRITABLE s.key.writable
    let serial : W64 := BitVec.ofNat 64 ((s.reg .PK_SERIAL_HI).toNat * 4294967296 + (s.reg .PK_SERIAL_LO).toNat)
    if BitVec.ofNat 64 (bits s.keyHdr 127 64) = serial then
      let s := (s.setFlag Fld.PK_STATUS_SERIAL_OK true).snShow
      .next (((s.startNote 0x1006 0 0).startNote 0x1007 0 0).ev 4)
    else
      let s := (s.setFlag Fld.PK_STATUS_SERIAL_OK false).snShow
      .next ((s.setFlag Fld.SUP_START_KEY_CHANGED true).ev 4)

/-! ## The owner lock (R451) -/

/-- OWNER_LOCK_CHANGE: an invalid combination counts as closed and leaves Sinter 0x1010; source 5 follows a change. -/
def execOwnerLockChange (l : LockState) (s : State) : Res :=
  let now := l == .opened
  let was := s.pw.contactOpen
  let s := { s with pw := { s.pw with contactOpen := now } }.setFlag Fld.UP_STATUS_LOCKED (!now)
  let s := if l == .invalid then s.startNote 0x1010 0 0 else s
  .next (if was = now then s else s.ev 5)

end Sys2Proof.Machine
end

