-- ==== Sys2Proof/Machine/Islands.lean ====
section
/-! DEFINITION. Islands that stall and restart (15 R355 to R364). -/

namespace Sys2Proof.Machine

def State.island (s : State) (i : Nat) : Isl := Tab.get {} s.isl i
def State.setIsland (s : State) (i : Nat) (x : Isl) : State := { s with isl := Tab.set {} s.isl i x }

/-- ALIVE of island `i`, and of its shell's own register. -/
def State.setAlive (s : State) (i : Nat) (b : Bool) : State :=
  let s := s.setFlag Fld.SUP_ISLAND_ALIVE b i
  if i < 8 then s
  else if i < 12 then s.setFlag Fld.UC_SLICE_ALIVE b (i - 8)
  else s.setFlag Fld.DC_GROUP_ALIVE b (i - 12)

/-- The lowest joined pair of the application cluster. (DEDUCED, log entry 77) -/
def State.appPair (s : State) : Option Nat := (List.range 4).find? fun i => s.lkJoined i

/-- The plant ports report down, and what waited at them is lost. -/
def State.portsDown (s : State) : State :=
  let s := [1, 2].foldl (fun s p =>
    if s.linkUp p then
      (((s.setFlag Fld.PN_PORT_LINK false p).setFlag Fld.PN_PORT_PDELAY_OK false p).ev (109 + p)).portLost p
    else s) s
  { s with pn := { s.pn with wait := [] } }

/-- A shell's stages hold what they drive (R362). -/
def State.holdShell (s : State) (k : Nat) : State :=
  s.setSlice k { s.slice k with held := true, heldAt := s.mt.frc }

/-- Islands whose stall the module cannot survive: loop engine, Meridian, binary link. -/
def fatalIsland (i : Nat) : Bool := i == 2 || i == 3 || i == 5

/-- The reaction to a first stall (R360). (DEDUCED, log entry 78) -/
def State.stallReact (s : State) (i : Nat) : State :=
  let s := if s.role = 2 ∨ s.role = 3 then { s with bn := { s.bn with stReadback := true } } else s
  if i = 0 then
    (match s.appPair with
     | some p => s.lkFatal p 3 0 0
     | none => s)
  else if i = 2 then (s.setFlag Fld.LE_CTL_FAILED true).declareFailed
  else if fatalIsland i then s.declareFailed
  else if i = 4 then s.portsDown
  else if i = 6 ∨ 8 ≤ i then
    let s := if 8 ≤ i then s.holdShell (i - 8) else s
    if s.role = 1 ∧ s.partnerReady then s.declareFailed else s
  else s

/-- A second stall within 10 s of its restart (R363): the module of a pair declares itself failed; in a Z9B-S the island stays
stopped. -/
def State.stallAgain (s : State) (i : Nat) : State :=
  let s := s.note islSup 0xD004 [i]
  let s := if 8 ≤ i then s.holdShell (i - 8) else if i = 4 then s.portsDown else s
  if s.pair || fatalIsland i then s.declareFailed else s.setIsland i { s.island i with stopped := true }

/-- The island's last restart lies less than 10 s back. -/
def State.restartedLately (s : State) (i : Nat) : Bool :=
  match (s.island i).last with
  | some f => decide ((s.mt.frc - f).toNat < 10000000000)
  | none => false

def causeCode : StallCause → Nat
  | .tokens => 0
  | .clock => 1
  | .timing => 2

/-- An island stalled: ALIVE, STALL, Sinter 0xD001, its source, and the reaction. -/
def State.stall (s : State) (i : Nat) (c : StallCause) : State :=
  if !s.alive i then s
  else
    let again := s.restartedLately i
    let s := ((s.setAlive i false).setFlag Fld.SUP_ISLAND_STALL true i).setIsland i { s.island i with down := true }
    let s := (s.note islSup 0xD001 [i, causeCode c]).ev (48 + i)
    if again then s.stallAgain i else s.stallReact i

/-- ISLAND_CLOCK_CHECK: the deviation in thousandths of a percent (R355). -/
def execIslandClockCheck (i : Fin 18) (dev : Int) (s : State) : Res :=
  let bad := decide (1000 < dev.natAbs)
  let s := s.setFlag Fld.SUP_ISLAND_CLOCK_BAD bad i.val
  .next (if bad then s.stall i.val .clock else s)

/-- A stall of this cause can come to island `i` (R355, R360): the supervisor's liveness is its watchdog's, the timing stream
goes to the shells, a clock fails its check. -/
def State.stallFits (s : State) (i : Nat) : StallCause → Bool
  | .tokens => i != 1
  | .clock => s.flag Fld.SUP_ISLAND_CLOCK_BAD i
  | .timing => decide (8 ≤ i)

/-- ISLAND_STALL. -/
def execIslandStall (i : Fin 18) (c : StallCause) (s : State) : Res :=
  .next (if s.stallFits i.val c then s.stall i.val c else s)

/-- An island running again: counted, Sinter 0xD002. -/
def State.restarted (s : State) (i : Nat) : State :=
  let s := ((s.setAlive i true).bump Fld.SUP_ISLAND_RESTARTS i).setIsland i { down := false, last := some s.mt.frc }
  (s.note islSup 0xD002 [i]).ev (48 + i)

/-- What the Scapex island forgets: the frames it had on its rings. -/
def State.sxRestart (s : State) : State :=
  (List.range 8).foldl (fun s p =>
    s.setSxP p { s.sxP p with
      sent := false, retE := none, retW := none, flight := [], rx := []
      tx := (s.sxP p).tx.map fun x => { x with onRing := 0 } }) s

/-- ISLAND_RESTART_DONE: network, Scapex and CAN restart in place; a shell's restart ends with its reload. -/
def execIslandRestartDone (i : Fin 18) (s : State) : Res :=
  let x := s.island i.val
  if !x.down || x.stopped || s.bn.failed then .next s
  else
    match i.val with
    | 4 => .next ((s.loadPorts s.img).restarted 4)
    | 6 => .next (s.sxRestart.restarted 6)
    | 7 => .next (s.canRestart.restarted 7)
    | _ => .next s

/-- REGISTER_ACCESS_TIMEOUT: an error response with zero data, counted and recorded (R359). -/
def execRegisterAccessTimeout (i : Fin 18) (addr : Nat) (s : State) : Res :=
  let s := { s with lastRead := 0 }.bump Fld.SUP_ISLAND_ACC_TIMEOUT i.val
  .next (s.note islSup 0xD003 [i.val, addr])

/-! ## Shells (R362) -/

/-- SHELL_WATCHDOG_RESTART: the logic restarts without its configuration and takes no commit before its reload; its inputs sink
nothing until then (R215, R454). -/
def execShellWatchdogRestart (k : Fin 10) (s : State) : Res :=
  if (s.island (8 + k.val)).down then
    let s := if 4 ≤ k.val then s.sinkEnd (k.val - 4) else s
    .next (s.setSlice k.val { s.slice k.val with loaded := false, held := true })
  else .next s

/-- SHELL_STAGE_HOLD_EXPIRE: 10 ms without a commit since the logic stopped, which a stall shows 20 µs later. -/
def execShellStageHoldExpire (k : Fin 10) (s : State) : Res :=
  if (s.slice k.val).held && decide (9980000 ≤ (s.mt.frc - (s.slice k.val).heldAt).toNat) then
    .next ((s.setSlice k.val { s.slice k.val with held := false, stagesOff := true }).sliceOff k.val)
  else .next s

/-- SHELL_RELOAD_DONE: the shell answers again; the sample window that its reload broke carries LATE. -/
def execShellReloadDone (k : Fin 10) (s : State) : Res :=
  let i := 8 + k.val
  let x := s.island i
  if !x.down || x.stopped || s.bn.failed then .next s
  else
    let s := (s.setSlice k.val { s.slice k.val with loaded := true, spoiled := some s.mt.frc }).restarted i
    .next (if 4 ≤ k.val then s.sinkStart (k.val - 4) else s)

end Sys2Proof.Machine
end

