-- ==== Sys2Proof/Machine/Orders.lean ====
section
/-! DEFINITION. The service messages that order what other chapters carry out: Sinter reads and clears (R408), owner enrolment
(R39), maintenance (R303, R433), HART pass-through (R192). -/

namespace Sys2Proof.Machine

/-! ## Sinter (R408) -/

/-- Bytes of a 64-bit word as the service protocol sends them, most significant first. -/
def wire64 (v : W64) : List Byte := (bytesOf v 8).reverse

/-- The code that turns a cursor read away: key, count, start. -/
def State.readCode (s : State) (start count : Nat) : Nat :=
  if !(s.flag Fld.PK_STATUS_PRESENT && s.flag Fld.PK_STATUS_SERIAL_OK) then 0x0202
  else if count = 0 ∨ 1024 < count then 0x0203
  else if s.newest < start then 0x0201
  else 0

/-- SINTER_CURSOR_READ: the valid records from a start SEQUENCE on, none older than the oldest readable. -/
def execSinterCursorRead (h : SvcMsg) (start : BitVec 48) (count : Nat) (s : State) : Res :=
  .next (s.svc h 0x20 0 0 (some 8) fun s =>
    let c := s.readCode start.toNat count
    if c ≠ 0 then s.answer h 0x20 c
    else
      let rs := (s.scan s.newest Config.sinterSlots count (max 1 (max start.toNat s.oldest))).1
      let first := match rs with
        | r :: _ => recSeq r
        | [] => start.toNat
      let head : W64 := putBits (putBits 0 63 16 first) 15 0 rs.length
      s.answer h 0x20 0 (wire64 head ++ rs.flatMap fun r => bytesOf r 64))

/-- SINTER_CLEAR: a clear record admitted becomes the oldest readable record. -/
def execSinterClear (h : SvcMsg) (s : State) : Res :=
  .next (s.svc h 0x21 3 0 none fun s =>
    if !s.pw.contactOpen then s.answer h 0x21 0x0204
    else if !(s.flag Fld.PK_STATUS_PRESENT && s.flag Fld.PK_STATUS_SERIAL_OK) then s.answer h 0x21 0x0202
    else if !s.sn.located then s.answer h 0x21 1
    else
      let q := s.enqueue islSup 0x0004 (.items [])
      if !q.2 then s.answer h 0x21 1
      else
        let n := q.1.sn.next - 1
        (q.1.setSeq .SN_OLDEST_LO .SN_OLDEST_HI n).answer h 0x21 0)

/-! ## Owner enrolment (R38, R39, R450) -/

/-- OWNER_ENROLMENT: OWNER_KEY into the key header, fingerprint and binary number to the base, both only with the owner lock
open. What the module read of its base stays until its next start-up. (DEDUCED, log entry 62) -/
def execOwnerEnrolment (h : SvcMsg) (ownerKey : BitVec 768) (fingerprint : BitVec 384) (binary : Nat) (s : State) : Res :=
  .next (s.svc h 0x70 3 0 none fun s =>
    if !s.pw.contactOpen then s.answer h 0x70 5
    else if 8191 < binary then s.answer h 0x70 6
    else if !s.keyOk then s.answer h 0x70 0x000A
    else
      let hd := putBits s.keyHdr 895 128 ownerKey.toNat
      let hd := putBits hd 1023 992 (crcOf hd 124).toNat
      let s := (s.keyPutRec Config.keyHeader hd).emit (.baseWrite binary fingerprint)
      (s.startNote 0x1002 0 (tagOf fingerprint)).answer h 0x70 0)

/-! ## Maintenance (R303, R433, R435) -/

/-- A maintenance order answered with what BN_CMD gave: done, or refused in the present role. -/
def State.maintAnswer (s : State) (h : SvcMsg) (c : Nat) : State := s.answer h 0x62 (if c = 0 then 0 else 5)

/-- SVC_MAINT_ENTER: the supervisor gives BN_CMD 0x3. -/
def execSvcMaintEnter (h : SvcMsg) (s : State) : Res :=
  .next (s.svc h 0x62 2 0 none fun s => let r := s.maintEnter; r.1.maintAnswer h r.2)

/-- SVC_MAINT_LEAVE: BN_CMD 0x4; in Dormant a supervisor-ordered reset (R435). -/
def execSvcMaintLeave (h : SvcMsg) (s : State) : Res :=
  .next (s.svc h 0x62 2 0 none fun s =>
    if s.flag Fld.RST_POWER_DORMANT then (s.maintAnswer h 0).resetPowered 6
    else let r := s.maintLeave; r.1.maintAnswer h r.2)

/-- SVC_DORMANT. -/
def execSvcDormant (h : SvcMsg) (s : State) : Res :=
  .next (s.svc h 0x62 2 1 none fun s => if s.mayDormant then (s.answer h 0x62 0).toDormant else s.answer h 0x62 5)

/-! ## HART pass-through (R192) -/

/-- HART_PASSTHROUGH: one frame at a time for each channel; its answer follows the transaction. -/
def execHartPassthrough (h : SvcMsg) (n : Fin 32) (frame : List Byte) (s : State) : Res :=
  .next (s.svc h 0x50 2 0 none fun s =>
    if !s.hartOn n.val then s.answer h 0x50 7
    else if !s.shows (8 + n.val / 8) then s.answer h 0x50 5
    else if s.flag Fld.UC_HART_PASS_BUSY n.val then s.answer h 0x50 1
    else
      let s := s.setUc n.val { s.uc n.val with pass := some (h.sess.val, h.msgId, frame) }
      s.setFlag Fld.UC_HART_PASS_BUSY true n.val)

/-- HART_PASSTHROUGH_SEND: in a gap between scans the frame is sent; its response goes back, or its timeout follows. -/
def execHartPassthroughSend (n : Fin 32) (answer : Option (HartReply × List Byte)) (s : State) : Res :=
  let c := s.uc n.val
  match c.pass with
  | none => .next s
  | some (sess, id, frame) =>
    if c.hart ≠ .none ∨ !s.shows (8 + n.val / 8) then .next s
    else
      let s := s.hartSend n.val (match frame with
        | b :: _ => b.toNat
        | [] => 0) frame
      match answer with
      | some (r, bs) =>
        let s := (s.setUc n.val { c with pass := none }).setFlag Fld.UC_HART_PASS_BUSY false n.val
        .next ((s.hartShow n.val r).reply sess id 0x8050 0 bs)
      | none => .next (s.setUc n.val { c with pass := none, hart := .pass sess id })

end Sys2Proof.Machine
end

