-- ==== Sys2Proof/WellFormed.lean ====
section
/-! DEFINITION. Which commands are well formed: operands that no type bounds lie in the range the manual gives. -/

namespace Sys2Proof

/-- How many instances a register has (R368 and the tables of the chapters). -/
def RegName.count : RegName → Nat
  | .SUP_ISLAND => 18
  | .RST_EV_PEND | .RST_EV_ROUTE => 8
  | .AC_SLOT => 64
  | .AC_FAULT | .AC_FAULT_ADDR_LO | .AC_FAULT_ADDR_HI => 6
  | .UP_PROGRESS => 2
  | .SN_CURSOR_LO | .SN_CURSOR_HI | .SN_WSTAT => 2
  | .MB_STAT | .MB_DOOR | .MB_ACK => 32
  | .LK_PAIR | .LK_FAULT | .LK_COUNT | .LK_MISS_LO | .LK_MISS_HI => 5
  | .LK_CMD | .LK_CMD_RESULT => 2
  | .MT_TB_LO | .MT_TB_HI | .MT_LATCH_TB_LO | .MT_LATCH_TB_HI | .MT_TB_CFG => 8
  | .LN_OVERRUN => 3
  | .LN_SUB => 4096
  | .LE_CMD | .LE_CMD_VAL | .LE_CMD_RESULT => 2
  | .LE_OVERRUN | .LE_LOAD => 3
  | .LA_SEL | .LA_LOOP => 2
  | .LA_SLOT => 16
  | .LA_SURGE => 32
  | .GY_CH => 64
  | .GY_SET | .GY_CAP => 16
  | .BN_HEALTH => 2
  | .PN_PORT | .PN_DROP | .PN_PTP => 3
  | .PN_SEL | .PN_SSTAT => 2
  | .CN_CFG | .CN_CTL | .CN_STAT | .CN_ERR | .CN_PROT | .CN_TIMING => 4
  | .CN_OBJCMD | .CN_OBJRES => 2
  | .SX_PORT | .SX_LAP | .SX_ERR => 8
  | .SX_CAR => 256
  | .UC_CFG | .UC_STAT | .UC_DIAG | .UC_HART => 32
  | .UC_SLICE => 4
  | .DC_CFG | .DC_STAT | .DC_DIAG => 48
  | .DC_GROUP => 6
  | _ => 1

/-- The first instance number: PN_PORT, PN_DROP and PN_PTP count from 1 (11 registers). -/
def RegName.first : RegName → Nat
  | .PN_PORT | .PN_DROP | .PN_PTP => 1
  | _ => 0

/-- A register that exists. -/
def Reg.wf (r : Reg) : Bool := decide (r.name.first ≤ r.idx) && decide (r.idx < r.name.count)

/-- The _LO registers of the 64-bit pairs (R5). -/
def RegName.isLo : RegName → Bool
  | .AC_FAULT_ADDR_LO | .PK_SERIAL_LO | .SN_NEWEST_LO | .SN_OLDEST_LO | .SN_CURSOR_LO | .LK_MISS_LO
  | .MT_FRC_LO | .MT_PT_LO | .MT_BT_LO | .MT_TB_LO | .MT_LATCH_FRC_LO | .MT_LATCH_PT_LO | .MT_LATCH_BT_LO
  | .MT_LATCH_TB_LO | .GY_COND_LO | .BN_HO_AT_LO => true
  | _ => false

/-- The _HI register of the pair whose _LO register this is. -/
def RegName.hiOf : RegName → RegName
  | .AC_FAULT_ADDR_LO => .AC_FAULT_ADDR_HI
  | .PK_SERIAL_LO => .PK_SERIAL_HI
  | .SN_NEWEST_LO => .SN_NEWEST_HI
  | .SN_OLDEST_LO => .SN_OLDEST_HI
  | .SN_CURSOR_LO => .SN_CURSOR_HI
  | .LK_MISS_LO => .LK_MISS_HI
  | .MT_FRC_LO => .MT_FRC_HI
  | .GY_COND_LO => .GY_COND_HI
  | .MT_PT_LO => .MT_PT_HI
  | .MT_BT_LO => .MT_BT_HI
  | .MT_TB_LO => .MT_TB_HI
  | .MT_LATCH_FRC_LO => .MT_LATCH_FRC_HI
  | .MT_LATCH_PT_LO => .MT_LATCH_PT_HI
  | .MT_LATCH_BT_LO => .MT_LATCH_BT_HI
  | .MT_LATCH_TB_LO => .MT_LATCH_TB_HI
  | .BN_HO_AT_LO => .BN_HO_AT_HI
  | n => n

/-- A well-formed access (R371): at least one byte, at most 16 by a core and 64 by a debug master, inside 40 bits, and a
write that brings as many bytes as it names. -/
def Access.wf (a : Access) : Bool :=
  decide (1 ≤ a.size) && decide (a.size ≤ (if a.cls = .debug then 64 else 16)) &&
  decide (a.addr + a.size ≤ 2 ^ 40) &&
  (match a.data with
   | some d => decide (d.length = a.size)
   | none => true)

/-- Well-formed commands. -/
def Instr.wf : Instr → Bool
  | .registerWrite _ r _ => r.wf
  | .pairLoRead r => r.wf && r.name.isLo
  | .pairLoWrite r _ => r.wf && r.name.isLo
  | .pairHiWrite _ r _ => r.wf
  | .w1cWrite r _ _ => r.wf
  | .rcRead r _ => r.wf
  | .computeLoops e _ | .runApplicationTask e _ | .commitOwnSlices e _ | .commitScapexCarriers e _
  | .publishStreams e _ | .collectLaunch e _ | .collectComplete e | .launchEntryHandoff e _ => decide (e < 65536)
  | .sampleOwnSlices _ g _ _ | .fastSampleComplete g _ => decide (g < 256)
  | .loopComplete l | .loopOverrun l | .fastLoopComplete l | .fastLoopAbandon l | .lanePreempt _ l
  | .loopAuto _ l | .loopManual _ l | .loopManualValue _ l | .loopRestart _ l | .loopSwitch _ l _
  | .setStage l | .testStart l _ _ | .probationRevert l | .probationEnd l | .lockoutEnd l
  | .adaptForbid _ l _ _ _ | .adaptLift _ l _ _ _ => decide (l < 16384)
  | .fastRecordReceived l _ _ _ _ => decide (l < 16384)
  | .taskComplete t _ _ | .taskOverrun t => decide (t < 64)
  | .forcePoint _ p _ | .forceRelease _ p => decide (p < 262144)
  | .mbMessageWrite _ _ off bs => decide (off + bs.length ≤ 256)
  | .mbLinkDeliver _ m => decide (m.length = 256)
  | .coreAccess a => a.wf && decide (a.cls ≠ .debug)
  | .debugAccess a => a.wf && decide (a.cls = .debug)
  | .canFrameReceived _ f => decide (f.data.length ≤ 64) && decide (f.dlc < 16)
  | .blockRecordReceived _ ws => decide (ws.length ≤ 32)
  | _ => true

end Sys2Proof
end

