-- ==== Sys2Proof/Machine/Registers.lean ====
section
/-! DEFINITION. Registers as software reads and writes them (00 R5 to R7 and the register tables of the chapters): plain
fields, write-one-to-clear and read-to-clear fields, 64-bit pairs, and the command registers. -/

namespace Sys2Proof.Machine

/-! ## Parties and places -/

/-- The slots fixed to the supervisor, 1 to 4 (R367): RST with the event controller, AC, PK and UP.
(DEDUCED, log entry 11) -/
def supOnly (n : RegName) : Bool := decide (RegName.RST_CAUSE.ctorIdx ≤ n.ctorIdx) && decide (n.ctorIdx ≤ RegName.UP_TRIAL.ctorIdx)

/-- The _LO register of the pair whose _HI register this is. -/
def loOf : RegName → Option RegName
  | .AC_FAULT_ADDR_HI => some .AC_FAULT_ADDR_LO
  | .PK_SERIAL_HI => some .PK_SERIAL_LO
  | .SN_NEWEST_HI => some .SN_NEWEST_LO
  | .SN_OLDEST_HI => some .SN_OLDEST_LO
  | .SN_CURSOR_HI => some .SN_CURSOR_LO
  | .LK_MISS_HI => some .LK_MISS_LO
  | .MT_FRC_HI => some .MT_FRC_LO
  | .MT_PT_HI => some .MT_PT_LO
  | .MT_BT_HI => some .MT_BT_LO
  | .MT_TB_HI => some .MT_TB_LO
  | .MT_LATCH_FRC_HI => some .MT_LATCH_FRC_LO
  | .MT_LATCH_PT_HI => some .MT_LATCH_PT_LO
  | .MT_LATCH_BT_HI => some .MT_LATCH_BT_LO
  | .MT_LATCH_TB_HI => some .MT_LATCH_TB_LO
  | .GY_COND_HI => some .GY_COND_LO
  | .BN_HO_AT_HI => some .BN_HO_AT_LO
  | _ => none

/-- The writable pairs. -/
def pairRw : RegName → Bool
  | .SN_CURSOR_LO | .SN_CURSOR_HI | .BN_HO_AT_LO | .BN_HO_AT_HI => true
  | _ => false

/-- Whether the application (0) or the supervisor (1) is sender or receiver of mailbox `n` (R384): the own supervisor serves
the partner's and the service sessions. -/
def mbParty (w n : Nat) : Option Party :=
  if w = 0 then (if n < 8 then some .sender else if n < 16 then some .receiver else if n < 24 then none else some .receiver)
  else if n < 8 then some .receiver
  else if n < 20 then some .sender
  else if n < 24 then some .receiver
  else some .sender

/-! ## 64-bit pairs (R5) -/

/-- The _HI half latched for a pair, by its _HI register. -/
def State.latched (s : State) (n : RegName) (i : Nat) : Option Word := Tab.get none (Tab.get [] s.latchHi n.ctorIdx) i

def State.setLatched (s : State) (n : RegName) (i : Nat) (x : Option Word) : State :=
  { s with latchHi := Tab.set [] s.latchHi n.ctorIdx (Tab.set none (Tab.get [] s.latchHi n.ctorIdx) i x) }

/-- The _LO half held by a write, by its _LO register. -/
def State.setHeldLo (s : State) (n : RegName) (i : Nat) (v : Word) : State :=
  { s with holdLo := Tab.set [] s.holdLo n.ctorIdx (Tab.set 0 (Tab.get [] s.holdLo n.ctorIdx) i v) }

/-- A read of a _LO register latches its _HI register. (DEDUCED, log entry 15) -/
def State.latchPair (s : State) (n : RegName) (i : Nat) : State := s.setLatched n.hiOf i (some (s.view n.hiOf i))

/-! ## Plain fields (R6, R7) -/

/-- A written word in the writable and write-one-to-clear fields of a register; reserved bits and fields of other access
ignore it. -/
def State.plainWrite (s : State) (n : RegName) (i : Nat) (v : Word) : State :=
  let old := s.reg n i
  s.setReg n i (((old &&& ~~~ n.rwMask) ||| (v &&& n.rwMask)) &&& ~~~ (v &&& n.w1cMask))

/-- MT_TB_CFG[n] written (R83, R90): a base with another source hears nothing until that comes, and one without a source runs
free at the own oscillator's rate. -/
def State.tbWrite (s : State) (n : Nat) (v : Word) : State :=
  let was := bits (s.reg .MT_TB_CFG n) 31 22
  let s := s.plainWrite .MT_TB_CFG n v
  if bits (s.reg .MT_TB_CFG n) 31 22 = was then s
  else
    let s := s.baseLost n
    if s.flag Fld.MT_TB_CFG_EN n && (s.fld Fld.MT_TB_CFG_SOURCE n == 1 || s.fld Fld.MT_TB_CFG_SOURCE n == 2) then s
    else { s with mt := { s.mt with tb := Tab.set {} s.mt.tb n ((Tab.get {} s.mt.tb n).setRate s.mt.frc 0) } }

/-! ## Command registers -/

/-- RST_CTL: supervisor-ordered reset, or Dormant (R442). -/
def State.orderRst (s : State) (c : Nat) : Res :=
  if c = 1 then execSupervisorReset s else if c = 2 then execEnterDormant s else .refused (.reservedOrder .RST_CTL c)

/-- MB_DOOR[n]: RING or CANCEL by the sender; both together do nothing. -/
def State.orderDoor (s : State) (w n : Nat) (v : Word) : State :=
  if mbParty w n ≠ some .sender then s
  else
    match bitAt v 31, bitAt v 30 with
    | true, false => s.mbDoRing n
    | false, true => s.mbDoCancel n
    | _, _ => s

/-- MB_ACK[n] written by the receiver. -/
def State.orderAck (s : State) (w n : Nat) (v : Word) : Res :=
  if h : n < 32 then
    (match mbParty w n with
     | some p => execMbAckWrite ⟨n, h⟩ p (BitVec.ofNat 16 (bits v 15 0)) s
     | none => .next s)
  else .next s

/-- LK_CMD[w]. The outcome of INJECT is a comparator injection of its own. -/
def State.orderLk (s : State) (w : Nat) (v : Word) : State :=
  let i := bits v 2 0
  match bits v 31 28 with
  | 1 => s.orderSplit w i
  | 2 => s.orderRejoin w i
  | 3 => s.orderTest w i
  | _ => if s.flag Fld.LK_CMD_RESULT_BUSY w then s.setFld Fld.LK_CMD_RESULT_CODE 7 w else s.lkResult w 2

/-- MT_CTL: LATCH by anyone, REEPOCH by the supervisor. (DESIGN CHOICE, log entry 12) -/
def State.orderMt (s : State) (w : Nat) (v : Word) : State :=
  let s := if bitAt v 0 then s.latchViews else s
  if bitAt v 1 && w == 1 then s.reepoch else s

/-- GY_CMD. (DEDUCED, log entry 10) -/
def State.orderGy (s : State) (v : Word) : Res :=
  match bits v 31 28 with
  | 1 => .next (s.gyCmdRelease (bits v 7 4))
  | 2 => .next (s.gyCmdFire (bits v 3 0))
  | c => .refused (.reservedOrder .GY_CMD c)

/-- BN_CMD, written by the supervisor only. -/
def State.orderBn (s : State) (w c : Nat) : Res :=
  if w = 0 then .next s
  else
    match c with
    | 1 => execHandoverOrder .sup .join s
    | 2 => execHandoverCancel .sup s
    | 3 => execEnterMaintenance .sup s
    | 4 => execLeaveMaintenance .sup s
    | 5 => execPartnerReset .sup s
    | _ => .next (s.bnResult 2)

/-- CN_CTL[p]: RECOVER. -/
def State.orderCn (s : State) (p : Nat) (v : Word) : Res :=
  if h : p < 4 then (if bitAt v 0 then execCanRecover ⟨p, h⟩ s else .next s) else .next s

/-- The _LO half of a writable pair held (R5). BN_HO_AT is the supervisor's. -/
def State.holdHalf (s : State) (w : Nat) (n : RegName) (i : Nat) (v : Word) : State :=
  if n = .BN_HO_AT_LO ∧ w = 0 then s else if pairRw n then s.setHeldLo n i v else s

/-- The _HI half of a writable pair written: both halves together (R5); the cursor window loads (R407). -/
def State.commitPair (s : State) (w : Nat) (n : RegName) (i : Nat) (v : Word) : State :=
  match n with
  | .SN_CURSOR_HI =>
    (s.setCursor i (bits v 15 0 * 4294967296 + (s.heldLo .SN_CURSOR_LO i).toNat)).loadWindow i
  | .BN_HO_AT_HI =>
    if w = 0 then s else (s.setReg .BN_HO_AT_LO i (s.heldLo .BN_HO_AT_LO i)).setReg .BN_HO_AT_HI i v
  | _ => s

/-- A word written to register `n`, instance `i`, by the application (0) or the supervisor (1).
(DEDUCED, log entry 88) -/
def State.regWrite (s : State) (w : Nat) (n : RegName) (i : Nat) (v : Word) : Res :=
  if w = 0 ∧ supOnly n then .next s
  else
    match n with
    | .RST_CTL => s.orderRst (bits v 31 28)
    | .RST_WDOG => .next (s.kick (bits v 31 16))
    | .RST_EV_ROUTE => .next (s.routePut i v)
    | .AC_CTL => .next (if bitAt v 0 then s.lockSlots else s)
    | .AC_SLOT => .next (s.slotPut i v)
    | .MB_DOOR => .next (s.orderDoor w i v)
    | .MB_ACK => s.orderAck w i v
    | .LK_CMD => .next (s.orderLk i v)
    | .MT_CTL => .next (s.orderMt w v)
    | .LE_CMD => .next (s.loopCommand (if i = 0 then .app else .sup) (bits v 13 0) (bits v 31 28)
      (if bits v 31 28 = 5 then bits v 17 16 else 0))
    | .GY_CMD => s.orderGy v
    | .MT_TB_CFG => .next (s.tbWrite i v)
    | .BN_CMD => s.orderBn w (bits v 31 28)
    | .CN_CTL => s.orderCn i v
    | .CN_OBJCMD => .next (s.canCommand i (bits v 31 28) (bits v 9 8) (bits v 6 0))
    | .SN_CURSOR_LO | .BN_HO_AT_LO => .next (s.holdHalf w n i v)
    | .SN_CURSOR_HI | .BN_HO_AT_HI => .next (s.commitPair w n i v)
    | _ => .next (s.plainWrite n i v)

/-! ## Reads -/

/-- The RC fields of a register cleared, except what the module sets in the same cycle (R7). -/
def State.clearRc (s : State) (n : RegName) (i : Nat) (setNow : Word) : State :=
  match n with
  | .PN_SSTAT =>
    let k := streamKey (s.fld Fld.PN_SEL_TABLE i) (s.fld Fld.PN_SEL_INDEX i)
    { s with pn := { s.pn with
      polc := Tab.set 0 s.pn.polc k (bits setNow 31 16), elimc := Tab.set 0 s.pn.elimc k (bits setNow 15 0) } }
  | _ => if n.rcMask = 0 then s else s.setReg n i ((s.reg n i &&& ~~~ n.rcMask) ||| (setNow &&& n.rcMask))

/-- What a read of register `n`, instance `i`, returns: a _HI half latched by the read of its _LO (R5), else its view. -/
def State.regValue (s : State) (n : RegName) (i : Nat) : Word :=
  match loOf n with
  | some _ => (s.latched n i).getD (s.view n i)
  | none => s.view n i &&& ~~~ n.woMask

/-- What that read leaves behind: a latched half is spent, a _LO read latches, RC fields clear; an acknowledge is collected
by its sender (R386). -/
def State.regAfter (s : State) (w : Nat) (n : RegName) (i : Nat) (setNow : Word) : State :=
  match n with
  | .MB_ACK =>
    if mbParty w i = some .sender then (s.mbDoAckRead i).clearRc n i setNow
    else s.setReg n i (s.reg n i ||| (setNow &&& n.rcMask))
  | .LE_LOAD => s.loadSeen.clearRc n i setNow
  | _ =>
    let s := if (loOf n).isSome then s.setLatched n i none else s
    let s := if n.isLo then s.latchPair n i else s
    s.clearRc n i setNow

/-! ## The commands -/

/-- A register that no table names. (DEDUCED, log entry 9) -/
def guardReg (r : Reg) (x : Res) : Res := if r.wf then x else .fault (.noSuchRegister r.name r.idx)

/-- PAIR_LO_READ: the read latches the _HI register. -/
def execPairLoRead (r : Reg) (s : State) : Res :=
  guardReg r (.next (({ s with lastRead := s.regValue r.name r.idx }).regAfter 1 r.name r.idx 0))

/-- PAIR_LO_WRITE: held until the _HI register is written. -/
def execPairLoWrite (r : Reg) (v : Word) (s : State) : Res := guardReg r (.next (s.holdHalf 1 r.name r.idx v))

/-- PAIR_HI_WRITE: both halves committed together. -/
def execPairHiWrite (w : Writer) (r : Reg) (v : Word) (s : State) : Res :=
  guardReg r (.next (s.commitPair (wIdx w) r.name r.idx v))

/-- W1C_WRITE: written ones clear, except bits that the module sets in the same cycle. -/
def execW1cWrite (r : Reg) (v setNow : Word) (s : State) : Res :=
  let s := s.setReg r.name r.idx
    ((s.reg r.name r.idx &&& ~~~ (v &&& r.name.w1cMask)) ||| (setNow &&& r.name.w1cMask))
  guardReg r (.next s)

/-- RC_READ: the earlier content is returned and the RC fields clear; what is set in the same cycle remains. -/
def execRcRead (r : Reg) (setNow : Word) (s : State) : Res :=
  let w := if (r.name = .MB_ACK ∧ mbParty 0 r.idx = some .sender) then 0 else 1
  guardReg r (.next (({ s with lastRead := s.regValue r.name r.idx }).regAfter w r.name r.idx setNow))

end Sys2Proof.Machine
end

