-- ==== Sys2Proof/Machine/Access.lean ====
section
/-! DEFINITION. Memory and access control (16 R365 to R383): the address map, the checks of core and debug accesses part by
part, what a read returns and a write changes, the write buffer of a joined pair (R333, R334), scrubbing and ECC errors. -/

namespace Sys2Proof.Machine

/-! ## The address map (R365 to R368) -/

/-- A region of the address map. -/
inductive Region where
  | bootRom | calib | cred | image | subCache | loops | capture | netBuf | sxBuf | supMem | tcm | slot (n : Nat) | keyWin
  | dramSup | journal | programs | archive | splitArea | history | reserved
  deriving DecidableEq, Repr

/-- First address after the Geyser archive (R226, R366). -/
def State.splitBase (s : State) : Nat := 0x122000000 + s.img.gyArchive

/-- The region of an address (R365, R366). -/
def State.regionOf (s : State) (a : Nat) : Region :=
  if a < 0x00040000 then .bootRom
  else if a < 0x00100000 then .reserved
  else if a < 0x00110000 then .calib
  else if a < 0x00120000 then .cred
  else if a < 0x01000000 then .reserved
  else if a < 0x01200000 then .image
  else if a < 0x01300000 then .subCache
  else if a < 0x01600000 then .loops
  else if a < 0x01A00000 then .capture
  else if a < 0x01C00000 then .netBuf
  else if a < 0x01C40000 then .sxBuf
  else if a < 0x01D40000 then .supMem
  else if a < 0x02000000 then .tcm
  else if a < 0x40000000 then .reserved
  else if a < 0x44000000 then .slot ((a - 0x40000000) / 0x100000)
  else if a < 0x80000000 then .reserved
  else if a < 0x90000000 then .keyWin
  else if a < 0x100000000 then .reserved
  else if a < 0x110000000 then .dramSup
  else if a < 0x112000000 then .journal
  else if a < 0x122000000 then .programs
  else if a < s.splitBase then .archive
  else if a < s.splitBase + s.img.splitSize then .splitArea
  else if a < 0x200000000 then .history
  else .reserved

/-- Bytes before the first boundary above the address, at most the whole access. -/
def State.firstPart (s : State) (a size : Nat) : Nat :=
  ((List.range size).find? fun i => s.regionOf (a + i) != s.regionOf a).getD size

/-- The parts of an access, as address and size: one, or the bytes on each side of the boundary it crosses (R371). -/
def State.partsOf (s : State) (a size : Nat) : List (Nat × Nat) :=
  let n := s.firstPart a size
  if n < size then [(a, n), (a + n, size - n)] else [(a, size)]

/-! ## Permissions (R366, R369, R370, R378) -/

/-- The regions that are locked to debug masters. -/
def Region.locked (s : State) : Region → Bool
  | .supMem | .dramSup | .journal | .bootRom | .calib | .cred | .keyWin => true
  | .slot n => (decide (1 ≤ n) && decide (n ≤ 4)) || s.flag Fld.AC_SLOT_LOCKED n
  | _ => false

/-- The supervisor's access to a memory region. -/
def supMay (write : Bool) : Region → Bool
  | .bootRom | .calib | .tcm => !write
  | _ => true

/-- The application runtime's. -/
def rtMay (write committed : Bool) : Region → Bool
  | .image | .tcm | .splitArea | .history => true
  | .subCache | .loops | .capture | .archive => !write
  | .programs => !write || !committed
  | _ => false

/-- Compiled user code's. -/
def usrMay (write : Bool) : Region → Bool
  | .tcm => true
  | .image | .subCache | .loops | .programs | .history => !write
  | _ => false

/-- A split core's. -/
def splitMay (write : Bool) : Region → Bool
  | .splitArea => true
  | .image | .subCache | .capture | .archive => !write
  | _ => false

/-- The reason code of an access to a slot (R367, R369, R370): 0x0 passed, 0x1 no enabled slot, 0x2 class not permitted,
0x4 reserved. (DEDUCED, log entry 17) -/
def State.slotReason (s : State) (c : Cls) (write : Bool) (n : Nat) : Nat :=
  let may := fun (b : Bool) => if b then 0 else 2
  let en := s.flag Fld.AC_SLOT_EN n
  if 39 ≤ n then 4
  else
    match c with
    | .sup => 0
    | .rt =>
      if 1 ≤ n ∧ n ≤ 4 then 2
      else if !en then may (!write)
      else may (s.flag (if write then Fld.AC_SLOT_RT_W else Fld.AC_SLOT_RT_R) n)
    | .usr => if !en then 1 else may (s.flag (if write then Fld.AC_SLOT_USR_W else Fld.AC_SLOT_USR_R) n)
    | .split => if !en then 1 else may (!write && s.flag Fld.AC_SLOT_SPL_R n)
    | .debug =>
      if s.flag (if write then Fld.AC_SLOT_DBG_W else Fld.AC_SLOT_DBG_R) n then 0 else if en then 2 else 1

/-- The reason code of a core's access to a region. -/
def State.coreReason (s : State) (c : Cls) (write : Bool) (r : Region) : Nat :=
  match r with
  | .reserved => 4
  | .slot n => s.slotReason c write n
  | r =>
    if (match c with
        | .sup => supMay write r
        | .rt => rtMay write s.boot.committed r
        | .usr => usrMay write r
        | .split => splitMay write r
        | .debug => false) then 0 else 2

/-- The reason code of a debug master's access (R378): 0x3 locked, 0x5 a write under authority. -/
def State.debugReason (s : State) (write : Bool) (r : Region) : Nat :=
  match r with
  | .reserved => 4
  | .slot n =>
    if 39 ≤ n then 4
    else if write && s.auth then 5
    else if Region.locked s r then (if write || s.pw.fuseSealed then 3 else 0)
    else s.slotReason .debug write n
  | r =>
    if write && s.auth then 5
    else if r = .cred then 3
    else if Region.locked s r && (write || s.pw.fuseSealed) then 3
    else 0

/-! ## Registers by address (R368) -/

/-- The registers of a slot in their order: names that interleave, first instance, instances. -/
def slotRegs (n : Nat) : List (List RegName × Nat × Nat) :=
  match n with
  | 0 => [([.SUP_START], 0, 1), ([.SUP_ISLAND], 0, 18)]
  | 1 => [([.RST_CAUSE], 0, 1), ([.RST_CTL], 0, 1), ([.RST_WDOG], 0, 1), ([.RST_POWER], 0, 1), ([.RST_EV_PEND], 0, 8),
      ([.RST_EV_ROUTE], 0, 8), ([.RST_EV_SUM], 0, 1)]
  | 2 => [([.AC_CTL], 0, 1), ([.AC_SLOT], 0, 64), ([.AC_FAULT], 0, 6), ([.AC_FAULT_ADDR_LO, .AC_FAULT_ADDR_HI], 0, 6),
      ([.AC_ECC], 0, 1), ([.AC_SCRUB], 0, 1)]
  | 3 => [([.PK_STATUS], 0, 1), ([.PK_SEQ], 0, 1), ([.PK_SERIAL_LO, .PK_SERIAL_HI], 0, 1)]
  | 4 => [([.UP_STATUS], 0, 1), ([.UP_PROGRESS], 0, 2), ([.UP_TRIAL], 0, 1)]
  | 5 => [([.SN_STATUS], 0, 1), ([.SN_NEWEST_LO, .SN_NEWEST_HI], 0, 1), ([.SN_OLDEST_LO, .SN_OLDEST_HI], 0, 1),
      ([.SN_LOST], 0, 1), ([.SN_SUPPRESSED], 0, 1), ([.SN_CURSOR_LO, .SN_CURSOR_HI], 0, 2), ([.SN_WSTAT], 0, 2)]
  | 6 => [([.MB_STAT], 0, 32), ([.MB_DOOR], 0, 32), ([.MB_ACK], 0, 32)]
  | 7 => [([.LK_PAIR], 0, 5), ([.LK_FAULT], 0, 5), ([.LK_COUNT], 0, 5), ([.LK_MISS_LO, .LK_MISS_HI], 0, 5),
      ([.LK_CMD], 0, 2), ([.LK_CMD_RESULT], 0, 2)]
  | 8 => [([.MT_FRC_LO, .MT_FRC_HI], 0, 1), ([.MT_PT_LO, .MT_PT_HI], 0, 1), ([.MT_BT_LO, .MT_BT_HI], 0, 1),
      ([.MT_TB_LO, .MT_TB_HI], 0, 8), ([.MT_LATCH_FRC_LO, .MT_LATCH_FRC_HI], 0, 1),
      ([.MT_LATCH_PT_LO, .MT_LATCH_PT_HI], 0, 1), ([.MT_LATCH_BT_LO, .MT_LATCH_BT_HI], 0, 1),
      ([.MT_LATCH_TB_LO, .MT_LATCH_TB_HI], 0, 8), ([.MT_STATE], 0, 1), ([.MT_CTL], 0, 1), ([.MT_OFFSET], 0, 1),
      ([.MT_ERR_EST], 0, 1), ([.MT_OUTLIERS], 0, 1), ([.MT_PT_SRC], 0, 1), ([.MT_TB_CFG], 0, 8)]
  | 9 => [([.LN_STATUS], 0, 1), ([.LN_OVERRUN], 0, 3), ([.LN_DISCARD], 0, 1), ([.LN_SUB], 0, 4096)]
  | 10 => [([.LE_CTL], 0, 1), ([.LE_CMD], 0, 2), ([.LE_CMD_VAL], 0, 2), ([.LE_CMD_RESULT], 0, 2), ([.LE_OVERRUN], 0, 3),
      ([.LE_FAULT], 0, 1), ([.LE_LOAD], 0, 3), ([.LE_FDELAY], 0, 1)]
  | 11 => [([.LA_STATUS], 0, 1), ([.LA_SEL], 0, 2), ([.LA_LOOP], 0, 2), ([.LA_SLOT], 0, 16), ([.LA_SURGE], 0, 32),
      ([.LA_COUNT], 0, 1)]
  | 12 => [([.GY_STATUS], 0, 1), ([.GY_CH], 0, 64), ([.GY_COND_LO, .GY_COND_HI], 0, 1), ([.GY_SET], 0, 16),
      ([.GY_CAP], 0, 16), ([.GY_CMD], 0, 1), ([.GY_LOST], 0, 1)]
  | 13 => [([.BN_STATUS], 0, 1), ([.BN_LOOP], 0, 1), ([.BN_EPOCH], 0, 1), ([.BN_HEALTH], 0, 2), ([.BN_EQ], 0, 1),
      ([.BN_VERIFY], 0, 1), ([.BN_TAKEOVER], 0, 1), ([.BN_CMD], 0, 1), ([.BN_HO_AT_LO, .BN_HO_AT_HI], 0, 1),
      ([.BN_CMD_RESULT], 0, 1)]
  | 14 => [([.PN_PORT], 1, 2), ([.PN_DROP], 1, 2), ([.PN_PTP], 1, 2), ([.PN_SEL], 0, 2), ([.PN_SSTAT], 0, 2),
      ([.PN_SVC], 0, 1)]
  | 19 => [([.CN_OBJCMD], 0, 2), ([.CN_OBJRES], 0, 2)]
  | 20 => [([.SX_EPOCH], 0, 1)]
  | n =>
    if n < 15 then []
    else if n < 19 then
      let p := n - 15
      [([.CN_CFG], p, 1), ([.CN_CTL], p, 1), ([.CN_STAT], p, 1), ([.CN_ERR], p, 1), ([.CN_PROT], p, 1), ([.CN_TIMING], p, 1)]
    else if n < 29 then
      let p := n - 21
      [([.SX_PORT], p, 1), ([.SX_LAP], p, 1), ([.SX_ERR], p, 1), ([.SX_CAR], 32 * p, 32)]
    else if n < 33 then
      let k := n - 29
      [([.UC_CFG], 8 * k, 8), ([.UC_STAT], 8 * k, 8), ([.UC_DIAG], 8 * k, 8), ([.UC_SLICE], k, 1), ([.UC_HART], 8 * k, 8)]
    else if n < 39 then
      let g := n - 33
      [([.DC_CFG], 8 * g, 8), ([.DC_STAT], 8 * g, 8), ([.DC_DIAG], 8 * g, 8), ([.DC_GROUP], g, 1)]
    else []

/-- The register at word `k` of a list of registers. -/
def pickReg : List (List RegName × Nat × Nat) → Nat → Option (RegName × Nat)
  | [], _ => none
  | (ns, f, c) :: rest, k =>
    if k < ns.length * c then (ns[k % ns.length]?).map fun n => (n, f + k / ns.length)
    else pickReg rest (k - ns.length * c)

/-- The register at a byte offset of a slot, if any. -/
def regAt (slot off : Nat) : Option (RegName × Nat) := if off < 0x80000 then pickReg (slotRegs slot) (off / 4) else none

/-- The island that serves a slot (R354); the supervisor serves what no island is named for. -/
def slotIsland (n : Nat) : Nat :=
  if n < 8 then 1
  else if n < 10 then 3
  else if n = 10 then 2
  else if n < 13 then 1
  else if n = 13 then 5
  else if n = 14 then 4
  else if n < 20 then 7
  else if n < 29 then 6
  else n - 21

/-! ## ECC and scrubbing (R380 to R383) -/

/-- An address of SRAM, and one of DRAM. -/
def inSram (a : Nat) : Bool := decide (0x01000000 ≤ a) && decide (a < 0x02000000)
def inDram (a : Nat) : Bool := decide (0x100000000 ≤ a) && decide (a < 0x200000000)

/-- The scrubber's progress: a sweep completes at the last word of its memory. -/
def State.scrubShow (s : State) (a : Nat) : State :=
  if inSram a then
    (if a / 8 = 0x01FFFFF8 / 8 then
      s.setFld Fld.AC_SCRUB_SRAM_SWEEPS ((s.fld Fld.AC_SCRUB_SRAM_SWEEPS + 1) % 65536) else s)
  else if a / 8 = 0x1FFFFFFF8 / 8 then
    (s.setFld Fld.AC_SCRUB_DRAM_SWEEPS ((s.fld Fld.AC_SCRUB_DRAM_SWEEPS + 1) % 256)).setFld Fld.AC_SCRUB_DRAM_PROGRESS 0
  else s.setFld Fld.AC_SCRUB_DRAM_PROGRESS ((a - 0x100000000) * 100 / 0x100000000)

/-- ST_MEMORY of the health word (R325). -/
def State.stMemory (s : State) : State := { s with bn := { s.bn with stMemory := true } }

/-- A corrected error: counted; beyond 64 within 1 h the threshold is passed (R383). -/
def State.eccCorrected (s : State) : State :=
  let recent := s.recentFrc 3600000000000 s.ac.corrected
  let s := (s.bump Fld.AC_ECC_CORRECTED)
  let s := { s with ac := { s.ac with corrected := s.mt.frc :: recent } }
  if recent.length = 64 then ((s.stMemory).note islSup 0xE003 []).ev 120 else s

/-- The tracked block of an address, if it lies in one (R312). -/
def State.trackedBlock (s : State) (a : Nat) : Option Nat :=
  let w := match s.regionOf a with
    | .image => some ((a - 0x01000000) / 8)
    | .loops => some (262144 + (a - 0x01300000) / 8)
    | .tcm => some (655360 + (a - 0x01D40000) / 8)
    | .supMem => if a < 0x01C80000 then some (1015808 + (a - 0x01C40000) / 8) else none
    | _ => none
  match w with
  | some w => if s.img.fastBlocks.contains (w / 32) then none else some (w / 32)
  | none => none

/-- The loop whose blocks hold block `b`. -/
def State.loopHolding (s : State) (b : Nat) : Option Nat :=
  (s.le.dir.find? fun (d : Nat × Nat) =>
    decide (0 < d.2) && decide (d.2 - 1 ≤ b) && decide (b < d.2 - 1 + ldBlocks (s.descAt (d.2 - 1)))).map Prod.fst

/-- The owning loop enters FAULT with cause 0x4; a cycle in progress is discarded (R135). -/
def State.eccLoop (s : State) (l : Nat) : State :=
  match s.loopOf l with
  | none => s
  | some (b, _, w) =>
    if w.state = 3 then s
    else
      let x := { w with state := 3, cause := 4, excited := false }
      match (s.run l).job with
      | some j => s.setRun l { s.run l with job := some { j with blocks := x.blocks, kind := 2, enter := 4 } }
      | none => (s.blkPut (b + 2) x.stateBlock).noteFault l 4

/-- A sample of a capture channel is dropped; which channel the buffers' layout does not tell. -/
def State.eccGeyser (s : State) : State :=
  let c := Config.measured 70 s.free % 64
  let s := s.draw
  if s.flag Fld.GY_CH_EN c then s.setGy1 c { s.gy1 c with lost := (s.gy1 c).lost + 1 } else s

/-- A frame of a network or Scapex port is discarded as bad FCS; which port the buffers' layout does not tell. -/
def State.eccFrame (s : State) (scapex : Bool) : State :=
  let x := Config.measured 71 s.free
  let s := s.draw
  if scapex then s.bump Fld.SX_ERR_FCS_BAD (x % 8) else s.bump Fld.PN_DROP_FCS (1 + x % 2)

/-- The reaction to an uncorrectable error by region (R382, R324). -/
def State.eccRegion (s : State) (a : Nat) : State :=
  let standby := s.role == 2 || s.role == 3
  if standby && (s.trackedBlock a).isSome then s.joinAgain
  else
    match s.regionOf a with
    | .image =>
      let i := (a - 0x01000000) / 8
      s.piPut i (mkRec 0xFFFF (s.pointCfg i).kind (2 ^ qStale) 0)
    | .subCache =>
      let w := (a - 0x01200000) / 8
      s.setSub w (mkRec 0xFFFF (s.subCfg (w / 2)).kind (2 ^ qStale) 0)
    | .loops =>
      (match s.loopHolding ((a - 0x01300000) / 32) with
       | some l => s.eccLoop l
       | none => s)
    | .capture | .archive => s.eccGeyser
    | .netBuf => s.eccFrame false
    | .sxBuf => s.eccFrame true
    | .supMem | .tcm | .dramSup | .journal | .programs => if s.role = 1 || !s.pair then s.declareFailed else s
    | _ => s

/-- An uncorrectable error: Sinter 0xE004 with the address, ST_MEMORY, source 119, and the reaction. -/
def State.eccUncorrectable (s : State) (a : Nat) : State :=
  let s := s.bump (if inSram a then Fld.AC_ECC_UNCORR_SRAM else Fld.AC_ECC_UNCORR_DRAM)
  (((s.note islSup 0xE004 [a]).stMemory).ev 119).eccRegion a

/-! ## Reading -/

/-- Byte `i` of a word. -/
def byteAt {n : Nat} (w : BitVec n) (i : Nat) : Byte := BitVec.ofNat 8 (bits w (8 * i + 7) (8 * i))

/-- Reader number of a class: 0 the application, 1 the supervisor and a debug master. -/
def clsIdx : Cls → Nat
  | .sup | .debug => 1
  | _ => 0

/-- A window word of a slot (R368, R395, R407, R283), read at its aligned offset, and what the read leaves behind.
(DESIGN CHOICE, log entry 18) -/
def State.windowRead (s : State) (slot off : Nat) : Word × State :=
  let o := off - 0x80000
  if slot = 5 ∧ o < 0x400 then
    let w := o / 0x200
    let x : Word := BitVec.ofNat 32 (bits (listGet 0 (s.window w) (o % 0x200 / 64)) (8 * (o % 64) + 31) (8 * (o % 64)))
    (x, if o % 0x200 = 0x1FC then s.advanceWindow w else s)
  else if slot = 6 ∧ o < 0x2000 then
    (BitVec.ofNat 32 (bits (s.mbMsg (o / 256)) (8 * (o % 256) + 31) (8 * (o % 256))), s)
  else if slot = 6 ∧ 0x4000 ≤ o ∧ o < 0x5000 then (listGet 0 s.mb.window ((o - 0x4000) / 4), s)
  else if slot = 12 then
    (wordOf 32 ((List.range 4).map fun i => Config.bufByte (0x40C80000 + o + i) s.free), s.draw)
  else if slot = 19 ∧ o < 0x200 then
    let x := s.canWin (o / 256)
    let b := o % 256
    (if b < 16 then BitVec.ofNat 32 (bits x.hdr (8 * b + 31) (8 * b))
     else if b < 80 then BitVec.ofNat 32 (bits x.data (8 * (b - 16) + 31) (8 * (b - 16))) else 0, s)
  else (0, s)

/-- The word at an aligned offset of a slot, and what the read leaves behind; an offset with no register reads as zero. -/
def State.slotRead (s : State) (w slot off : Nat) : Word × State :=
  if off < 0x80000 then
    match regAt slot off with
    | some (n, i) => (s.regValue n i, s.regAfter w n i 0)
    | none => (0, s)
  else s.windowRead slot off

/-- Words of a slot from an aligned offset upwards, as bytes. -/
def State.slotReads (s : State) (w slot off : Nat) : Nat → List Byte × State
  | 0 => ([], s)
  | n + 1 =>
    let r := s.slotRead w slot off
    let q := r.2.slotReads w slot (off + 4) n
    (bytesOf r.1 4 ++ q.1, q.2)

/-- The byte of memory at an address. A buffer that the hardware fills in a layout of its own keeps what was written for as long as
no time passes; what stands there later is free. -/
def State.memRead (s : State) (a : Nat) : Byte :=
  match s.regionOf a with
  | .bootRom | .calib => Config.romByte a
  | .cred | .programs => s.byteGet a ^^^ Config.romByte a
  | .image => byteAt (s.piGet ((a - 0x01000000) / 8)) (a % 8)
  | .subCache => byteAt (Tab.get Rec.default s.subc ((a - 0x01200000) / 8)) (a % 8)
  | .loops => byteAt (s.blkGet ((a - 0x01300000) / 32)) (a % 32)
  | .capture | .netBuf | .sxBuf | .journal | .archive => s.byteGet a ^^^ Config.bufByte a s.mt.frc.toNat
  | .keyWin =>
    if s.key.inSocket then byteAt (s.keyUnit (a - 0x80000000)) (a % 8) else Config.bufByte a s.free
  | .supMem | .tcm | .dramSup | .splitArea | .history => s.byteGet a
  | .slot _ | .reserved => 0

/-- The youngest held store that covers an address, over the memory's own byte (R334: loads proceed at once, and a pair sees
its own stores). -/
def heldByte (held : List Held) (a : Nat) (b : Byte) : Byte :=
  held.foldl (fun b h => if h.addr ≤ a ∧ a < h.addr + h.data.length then listGet b h.data (a - h.addr) else b) b

/-- An access to a slot whose island has not answered (R359): counted and recorded, zero data, no effect.
(DEDUCED, log entry 22) -/
def State.slotTimeout (s : State) (n a : Nat) : State :=
  (s.bump Fld.SUP_ISLAND_ACC_TIMEOUT (slotIsland n)).note islSup 0xD003 [slotIsland n, a]

/-- What a word of SRAM or DRAM shows its reader; other memories carry no ECC (R380). -/
def eccAt (a : Nat) (e : Ecc) : Ecc := if inSram a || inDram a then e else .clean

/-- The data of a part that passes, and what reading it leaves behind: one that meets an uncorrectable error returns zeros
(R379, R382). -/
def State.readPart (s : State) (c : Cls) (held : List Held) (e : Ecc) (a size : Nat) : List Byte × State :=
  match s.regionOf a with
  | .slot n =>
    if !s.alive (slotIsland n) then (List.replicate size 0, s.slotTimeout n a)
    else
      let off := a % 0x100000
      let r := s.slotReads (clsIdx c) n (off / 4 * 4) ((off % 4 + size + 3) / 4)
      ((r.1.drop (off % 4)).take size, r.2)
  | _ =>
    let bs := (List.range size).map fun i => heldByte held (a + i) (s.memRead (a + i))
    match eccAt a e with
    | .clean => (bs, s.draw)
    | .corrected => (bs, s.draw.eccCorrected)
    | .uncorrectable => (List.replicate size 0, s.draw.eccUncorrectable a)

/-- The parts of a read in order: a part that passes returns its data, one that fails zeros (R372). -/
def State.readParts (s : State) (c : Cls) (held : List Held) :
    List Ecc → List ((Nat × Nat) × Nat) → List Byte × State
  | _, [] => ([], s)
  | es, (p, reason) :: ps =>
    let r := if reason = 0 then s.readPart c held (es.headD .clean) p.1 p.2 else (List.replicate p.2 0, s)
    let q := r.2.readParts c held es.tail ps
    (r.1 ++ q.1, q.2)

/-- A location whose read has side effects (R374). -/
def State.sideLoc (s : State) (a size : Nat) : Bool :=
  match s.regionOf a with
  | .slot n =>
    let off := a % 0x100000
    if off < 0x80000 then
      (List.range ((off % 4 + size + 3) / 4)).any fun i =>
        match regAt n (off / 4 * 4 + 4 * i) with
        | some (r, _) => r.rcMask != 0
        | none => false
    else n == 5 || (n == 6 && decide (off < 0x82000)) || n == 12
  | _ => false

/-! ## Writing -/

/-- One byte of a word replaced. -/
def setByte {n : Nat} (w : BitVec n) (i : Nat) (b : Byte) : BitVec n := putBits w (8 * i + 7) (8 * i) b.toNat

/-- One byte of memory written, with the mark of the tracker (R312). -/
def State.memWrite (s : State) (a : Nat) (b : Byte) : State :=
  match s.regionOf a with
  | .image =>
    let w := (a - 0x01000000) / 8
    s.twWrite w (setByte (s.twGet w) (a % 8) b)
  | .subCache =>
    let w := (a - 0x01200000) / 8
    s.setSub w (setByte (Tab.get Rec.default s.subc w) (a % 8) b)
  | .loops =>
    let w := 262144 + (a - 0x01300000) / 8
    s.twWrite w (setByte (s.twGet w) (a % 8) b)
  | .tcm => (s.markDirty (655360 + (a - 0x01D40000) / 8)).bytePut a b
  | .supMem =>
    (if a < 0x01C80000 then s.markDirty (1015808 + (a - 0x01C40000) / 8) else s).bytePut a b
  | .cred | .programs => s.bytePut a (b ^^^ Config.romByte a)
  | .capture | .netBuf | .sxBuf | .journal | .archive => s.bytePut a (b ^^^ Config.bufByte a s.mt.frc.toNat)
  | .dramSup | .splitArea | .history => s.bytePut a b
  | _ => s

/-- Bytes of memory written from an address upwards. -/
def State.memWrites (s : State) (a : Nat) : List Byte → State
  | [] => s
  | b :: bs => (s.memWrite a b).memWrites (a + 1) bs

/-- The bank of kind `k` and number `b` takes writes: on behalf of a download under way into it, and never while the selected
record names it as active or a trial of its kind runs (R42). -/
def State.bankMay (s : State) (k b : Nat) : Bool :=
  !(bitAt s.selCur (74 + k)) && bits s.selCur (72 + k) (72 + k) != b && s.progState k == 1 &&
  bits (s.prog k) 64 64 == b

/-- A unit of the key that a core write may reach: not the key header (R38), not the selected copy of the bank-select record
(R45), no Sinter slot (R408), a bank on behalf of a download (R42). (DEDUCED, log entry 19) -/
def State.keyMay (s : State) (a : Nat) : Bool :=
  if a < Config.keySelect 0 then false
  else if a < Config.keySelect 1 then s.fld Fld.PK_STATUS_SEL_COPY != 0
  else if a < Config.keyProgress 0 then s.fld Fld.PK_STATUS_SEL_COPY != 1
  else if a < Config.keyCfgBank 0 then true
  else if a < Config.keyCfgBank 1 then s.bankMay 0 0
  else if a < Config.keyFwBank 0 then s.bankMay 0 1
  else if a < Config.keyFwBank 1 then s.bankMay 1 0
  else if a < Config.keySinter then s.bankMay 1 1
  else decide (Config.keyRetained ≤ a)

/-- Bytes written to the key window: the aligned units that they cover whole (R37, R366). -/
def State.keyWrites (s : State) (a : Nat) (bs : List Byte) : State :=
  (List.range (bs.length / 8 + 1)).foldl (fun s i =>
    let u := (a + 7) / 8 * 8 + 8 * i
    if u + 8 ≤ a + bs.length ∧ s.keyOk ∧ s.keyMay (u - 0x80000000) then
      s.keyPut (u - 0x80000000) (wordOf 64 ((bs.drop (u - a)).take 8))
    else s) s

/-- Bytes written into a window of a slot: the sender's message, or an object window. -/
def State.windowWrite (s : State) (w slot off : Nat) (bs : List Byte) : State :=
  let o := off - 0x80000
  if slot = 6 ∧ o < 0x2000 then
    (if mbParty w (o / 256) = some .sender then s.mbWrite (o / 256) (o % 256) bs else s)
  else if slot = 19 ∧ o < 0x200 then
    let put := fun (x : CanObj) (b : Nat) (v : Byte) =>
      if b < 16 then { x with hdr := setByte x.hdr b v }
      else if b < 80 then { x with data := setByte x.data (b - 16) v } else x
    s.setCanWin (o / 256) ((bs.foldl (fun (q : CanObj × Nat) v => (put q.1 q.2 v, q.2 + 1)) (s.canWin (o / 256), o % 256)).1)
  else s

/-- The bytes of one register's word written: bytes that the access does not bring are zero. (DEDUCED, log entry 20) -/
def State.slotWrite (s : State) (w slot off : Nat) (bs : List Byte) : Res :=
  if off < 0x80000 then
    match regAt slot off with
    | some (n, i) => s.regWrite w n i (wordOf 32 (List.replicate (off % 4) 0 ++ bs))
    | none => .next s
  else .next (s.windowWrite w slot off bs)

/-- A next state carried on; a fault or refusal stands. -/
def andThen (x : Res) (f : State → Res) : Res :=
  match x with
  | .next s => f s
  | .fault e => .fault e
  | .refused r => .refused r

/-- Bytes written to a slot, word by word upwards. -/
def slotWrites (w slot : Nat) : Nat → Nat → List Byte → State → Res
  | 0, _, _, s => .next s
  | n + 1, off, bs, s =>
    if bs.isEmpty then .next s
    else
      let k := 4 - off % 4
      andThen (s.slotWrite w slot off (bs.take k)) fun t => slotWrites w slot n (off + k) (bs.drop k) t

/-- Bytes written to a memory: a write of part of a word reads the word first and is not made where that read finds an
uncorrectable error (R380). -/
def State.eccWrites (s : State) (e : Ecc) (a : Nat) (bs : List Byte) : State :=
  match (if a % 8 = 0 ∧ bs.length % 8 = 0 then .clean else eccAt a e : Ecc) with
  | .clean => s.memWrites a bs
  | .corrected => s.eccCorrected.memWrites a bs
  | .uncorrectable => s.eccUncorrectable a

/-- A part of a write carried out. -/
def State.writePart (s : State) (c : Cls) (e : Ecc) (a : Nat) (bs : List Byte) : Res :=
  match s.regionOf a with
  | .slot n =>
    if !s.alive (slotIsland n) then .next (s.slotTimeout n a)
    else slotWrites (clsIdx c) n bs.length (a % 0x100000) bs s
  | .keyWin => .next (s.keyWrites a bs)
  | _ => .next (s.eccWrites e a bs)

/-- A write whose parts have all passed carried out. -/
def State.writeNow (s : State) (c : Cls) (es : List Ecc) (a : Nat) (bs : List Byte) : Res :=
  let n := s.firstPart a bs.length
  andThen (s.writePart c (es.headD .clean) a (bs.take n)) fun t =>
    if n < bs.length then t.writePart c (es.tail.headD .clean) (a + n) (bs.drop n) else .next t

/-! ## Windows of a pair (R333, R334) -/

/-- Held stores released in order. -/
def releaseList : List Held → State → Res
  | [], s => .next s
  | h :: rest, s => andThen (s.writeNow h.cls h.ecc h.addr h.data) fun t => releaseList rest t

/-- The pair's window closes equal: its stores are released, its replay value is spent. (DEDUCED, log entry 21) -/
def State.closeEqual (s : State) (i : Nat) : Res :=
  let p := s.pairOf i
  releaseList p.held (s.setPairOf i { p with held := [], replay := none, close := false })

/-- The windows that a change of mode closed release their stores (R333). -/
def closeMarked : List Nat → State → Res
  | [], s => .next s
  | i :: is, s => if (s.pairOf i).close then andThen (s.closeEqual i) (closeMarked is) else closeMarked is s

/-- After a command that may have ordered a split: the windows that the change of mode closed release their stores. The pairs that
can split (R347) are taken twice: a window's release can order another pair's split. -/
def afterSplits (x : Res) : Res := andThen x (closeMarked [1, 2, 3, 1, 2, 3])

/-- REGISTER_WRITE. -/
def execRegisterWrite (w : Writer) (r : Reg) (v : Word) (s : State) : Res :=
  if r.name = .LK_CMD then afterSplits (guardReg r (s.regWrite (wIdx w) r.name r.idx v))
  else guardReg r (s.regWrite (wIdx w) r.name r.idx v)

/-- A store of a joined pair: held in SIGNATURE and while draining, where the 64th closes the window; released at once where
every write is compared (R334, R336). -/
def State.pairStore (s : State) (i : Nat) (h : Held) : Res :=
  if s.lkMode i = 2 ∨ s.lkMode i = 4 then
    let p := s.pairOf i
    let s := s.setPairOf i { p with held := p.held ++ [h] }
    if 64 ≤ p.held.length + 1 then s.closeEqual i else .next s
  else s.writeNow h.cls h.ecc h.addr h.data

/-- Delay-stage parity errors counted (R331). -/
def State.lkParity (s : State) (i n : Nat) : State := if n = 0 then s else s.bump Fld.LK_COUNT_PARITY i n

/-- LK_SPLIT. -/
def execLkSplit (w : Writer) (i : Fin 8) (s : State) : Res := afterSplits (.next (s.orderSplit (wIdx w) i.val))

/-- APP_INTERRUPT_TAKE: an application pair takes the source at a window boundary: the window that is open closes, a rerun is awaited
(R333, R335); the PEND bit clears. (DEDUCED, log entry 40) -/
def execAppInterruptTake (n : Fin 128) (i : Fin 4) (s : State) : Res :=
  let m := s.lkMode i.val
  if s.routedApp n.val ∧ (m = 1 ∨ m = 2 ∨ m = 4 ∨ m = 5 ∨ m = 6) then
    let g := n.val / 16
    let p := putBit (BitVec.ofNat 16 (s.fld Fld.RST_EV_PEND_PEND g)) (n.val % 16) false
    afterSplits (andThen (s.closeEqual i.val) fun t => .next (t.setFld Fld.RST_EV_PEND_PEND p.toNat g))
  else .next s

/-- SIGNATURE_WINDOW_CLOSE: a difference that a comparator in service reports is a mismatch; equal signatures release the
window's stores, and a debug halt that waits takes effect (R333, R334, R351). `parity` delay-stage parity errors were found in
the window (R331). -/
def execSignatureWindowClose (i : Fin 5) (sigL sigT : W64) (xDiff yDiff : Bool) (parity : Nat) (s : State) : Res :=
  let m := s.lkMode i.val
  let s := if s.lkJoined i.val then s.lkParity i.val parity else s
  if m = 2 ∨ m = 4 then
    if (xDiff && s.xIn i.val) || (yDiff && s.yIn i.val) then
      .next ((s.setPair .LK_MISS_LO .LK_MISS_HI i.val (sigL ^^^ sigT)).lkMismatch i.val xDiff yDiff 0 0)
    else
      afterSplits (andThen (s.closeEqual i.val) fun t =>
        .next (if (t.pairOf i.val).haltReq then t.lkHalt i.val else t))
  else if m = 1 ∨ m = 6 then .next (s.setPairOf i.val { s.pairOf i.val with replay := none })
  else .next s

/-! ## Access faults (R372, R373, R376, R379) -/

/-- Class codes of AC_FAULT. -/
def clsCode : Cls → Nat
  | .sup => 0
  | .rt => 1
  | .usr => 2
  | .split => 3
  | .debug => 4

/-- The record of a fault at AC_FAULT[k]: kept where one stands, which sets OVERRUN; counted either way. -/
def State.acFault (s : State) (k : Nat) (a : Access) (rs : List Nat) : State :=
  if s.flag Fld.AC_FAULT_VALID k then (s.setFlag Fld.AC_FAULT_OVERRUN true k).bump Fld.AC_FAULT_COUNT k
  else
    let w : Word := 0
    let w := putBits (putBit w 31 true) 29 27 (clsCode a.cls)
    let w := putBit (putBit w 26 (a.cls == .split && a.core)) 25 a.data.isSome
    let w := putBits (putBit w 24 (decide (1 < rs.length))) 23 21 (listGet 0 rs 0)
    let w := putBits (putBits w 20 18 (listGet 0 rs 1)) 15 8 a.size
    let w := putBits w 7 0 (satAdd 255 (s.fld Fld.AC_FAULT_COUNT k) 1)
    let s := s.setReg .AC_FAULT k (putBit w 30 (s.flag Fld.AC_FAULT_OVERRUN k))
    (s.setPair .AC_FAULT_ADDR_LO .AC_FAULT_ADDR_HI k (BitVec.ofNat 64 a.addr)).ev 118

/-- The points of task `k` keep their values with LATE at its K, which counts once (R104, R376). -/
def State.taskFails (s : State) (k : Nat) : State :=
  let t := s.task k
  if t.counted = some t.k then s
  else
    let s := s.setTask k { t with late := true, counted := some t.k }
    ((s.taskPoints k).foldl (fun s p => s.lateAt t.k p) s).bump Fld.LN_OVERRUN_TASK (s.taskClass k)

/-- User code's task: its execution ends for the cycle and it missed its K; after 16 consecutive faulting launches it is not
launched again, with Sinter 0xE007. -/
def State.userFault (s : State) (k : Nat) : State :=
  let t := s.task k
  if !t.running then s
  else
    let n := t.faults + 1
    let s := s.setTask k { t with running := false, faults := n, stopped := decide (16 ≤ n) }
    let s := s.taskFails k
    if 16 ≤ n ∧ !t.stopped then s.note islSup 0xE007 [k] else s

/-- The reaction by class. -/
def State.faultReact (s : State) (a : Access) : State :=
  match a.cls with
  | .sup | .rt => (s.note islSup 0xE001 [a.pair.val]).declareFailed
  | .usr => s.userFault a.task
  | .split =>
    let p := s.pairOf a.pair.val
    s.setPairOf a.pair.val (if a.core then { p with stop1 := true } else { p with stop0 := true })
  | .debug => s.note islSup 0xE002 []

/-- The core executes: its pair joined and running, or split with this core not stopped; in Dormant the supervisor pair alone
(R434). -/
def State.coreRuns (s : State) (a : Access) : Bool :=
  let i := a.pair.val
  s.pw.inReset.isNone && (i == 4 || !s.flag Fld.RST_POWER_DORMANT) &&
  (match a.cls with
   | .split => s.lkMode i == 5 && !(if a.core then (s.pairOf i).stop1 else (s.pairOf i).stop0)
   | _ => s.lkJoined i)

/-- Data returned to the requester. -/
def State.returnData (s : State) (bs : List Byte) : State := { s with lastBytes := bs, lastRead := wordOf 32 bs }

/-- The reason codes of an access's parts. -/
def State.coreReasons (s : State) (a : Access) : List Nat :=
  (s.partsOf a.addr a.size).map fun p => s.coreReason a.cls a.data.isSome (s.regionOf p.1)

/-- What a core's loads see: a user-code task under way sees the records as its C found them (R99). -/
def State.seenBy (s : State) (a : Access) : State :=
  if a.cls = .usr ∧ (s.task a.task).running then { s with pi := (s.task a.task).pi, subc := (s.task a.task).subc } else s

/-- A core's read carried out: its parts with reasons, whether its pair is joined, and whether its value is kept for a rerun. -/
def State.readNow (s : State) (a : Access) (ps : List ((Nat × Nat) × Nat)) (rs : List Nat) (joined side : Bool) : State :=
  let read := fun (s : State) => s.readParts a.cls (if joined then (s.pairOf a.pair.val).held else []) a.ecc ps
  let t := (read s).2.returnData (read (s.seenBy a)).1
  let t := if side then t.setPairOf a.pair.val { t.pairOf a.pair.val with replay := some (a.addr, t.lastBytes) } else t
  if rs.any fun r => r != 0 then (t.acFault a.pair.val a rs).faultReact a else t

/-- A core's read. One with a part in a side-effect location is made as the first access of a window and kept for a rerun,
which takes it from there (R334, R374). -/
def State.coreRead (s : State) (a : Access) : Res :=
  let i := a.pair.val
  let rs := s.coreReasons a
  let ps := (s.partsOf a.addr a.size).zip rs
  let joined := a.cls != .split
  let side := joined && ps.any fun p => s.sideLoc p.1.1 p.1.2
  if side then
    (match s.lkMode i, (s.pairOf i).replay with
     | 3, some (x, bs) =>
       if x = a.addr ∧ bs.length = a.size then .next (s.returnData bs) else .next (s.readNow a ps rs joined side)
     | _, _ => andThen (s.closeEqual i) fun t => .next (t.readNow a ps rs joined side))
  else if (rs.any fun r => r != 0) && joined then
    andThen (s.closeEqual i) fun t => .next (t.readNow a ps rs joined side)
  else .next (s.readNow a ps rs joined side)

/-- A core's write: committed only where every part passes. -/
def State.coreWrite (s : State) (a : Access) (bs : List Byte) : Res :=
  let i := a.pair.val
  if (s.coreReasons a).all fun r => r == 0 then
    (if a.cls = .split then s.writeNow .split a.ecc a.addr bs
     else s.pairStore i { addr := a.addr, data := bs, cls := a.cls, ecc := a.ecc })
  else
    let stop := fun (s : State) => Host.Outcome.next ((s.acFault i a (s.coreReasons a)).faultReact a)
    if a.cls = .split then stop s else andThen (s.closeEqual i) stop

/-- CORE_ACCESS. A core sees at PT what has become visible by then (R99). -/
def execCoreAccess (a : Access) (s : State) : Res :=
  if !s.coreRuns a then .next s
  else
    let s := s.settle s.pt
    afterSplits (match a.data with
      | none => s.coreRead a
      | some bs => s.coreWrite a bs)

/-- DEBUG_ACCESS: accepted only while the owner-lock contact is open; every refusal is answered with an error, zero data and
Sinter 0xE002. -/
def execDebugAccess (a : Access) (s : State) : Res :=
  let zero := List.replicate a.size (0 : Byte)
  if !s.pw.contactOpen then .next ((s.returnData zero).note islSup 0xE002 [])
  else
    let s := (s.settle s.pt).setFlag Fld.AC_CTL_DEBUG_ON true
    let ps := s.partsOf a.addr a.size
    let rs := ps.map fun p => s.debugReason a.data.isSome (s.regionOf p.1)
    let bad := rs.any fun r => r != 0
    match a.data with
    | some bs => if bad then .next ((s.acFault 5 a rs).faultReact a) else afterSplits (s.writeNow .debug a.ecc a.addr bs)
    | none =>
      let r := s.readParts .debug [] a.ecc (ps.zip rs)
      let t := r.2.returnData r.1
      .next (if bad then (t.acFault 5 a rs).faultReact a else t)

/-- AC_LOCK (R369). -/
def execAcLock (s : State) : Res := .next s.lockSlots

/-! ## Scrubbing (R381) -/

/-- SCRUB_READ: the scrubber, or any other reader, reads the word at an address of SRAM or DRAM.
(DESIGN CHOICE, log entry 23) -/
def execScrubRead (a : Nat) (e : Ecc) (s : State) : Res :=
  if !(inSram a || inDram a) then .next s
  else
    let s := s.scrubShow a
    match e with
    | .clean => .next s
    | .corrected => .next s.eccCorrected
    | .uncorrectable => .next (s.eccUncorrectable a)

end Sys2Proof.Machine
end

