-- ==== Sys2Proof/Machine/Dispatch.lean ====
section
/-! DEFINITION. The dispatch: one arm per command of spec/opcode_table.json, each one call of its meaning. -/

namespace Sys2Proof.Machine

/-- The effect of a command on everything but the queue. -/
def exec (i : Instr) (s : State) : Host.Outcome State Fault Refusal :=
  match i with
  | .registerWrite w r v => Sys2Proof.Machine.execRegisterWrite w r v s
  | .pairLoRead r => Sys2Proof.Machine.execPairLoRead r s
  | .pairLoWrite r v => Sys2Proof.Machine.execPairLoWrite r v s
  | .pairHiWrite w r v => Sys2Proof.Machine.execPairHiWrite w r v s
  | .w1cWrite r v setNow => Sys2Proof.Machine.execW1cWrite r v setNow s
  | .rcRead r setNow => Sys2Proof.Machine.execRcRead r setNow s
  | .powerGood f volts => Sys2Proof.Machine.execPowerGood f volts s
  | .resetRelease xOk yOk => Sys2Proof.Machine.execResetRelease xOk yOk s
  | .keyHeaderRead => Sys2Proof.Machine.execKeyHeaderRead s
  | .firmwareVerified => Sys2Proof.Machine.execFirmwareVerified s
  | .baseIdentRead base => Sys2Proof.Machine.execBaseIdentRead base s
  | .configBankLoaded => Sys2Proof.Machine.execConfigBankLoaded s
  | .selfTestDone t => Sys2Proof.Machine.execSelfTestDone t s
  | .plantImageDecoded img => Sys2Proof.Machine.execPlantImageDecoded img s
  | .shellsLoaded => Sys2Proof.Machine.execShellsLoaded s
  | .timeAcquired t => Sys2Proof.Machine.execTimeAcquired t s
  | .acquisitionTimeout => Sys2Proof.Machine.execAcquisitionTimeout s
  | .roleDecision partnerHash partnerFw updateNames => Sys2Proof.Machine.execRoleDecision partnerHash partnerFw updateNames s
  | .firstCommit => Sys2Proof.Machine.execFirstCommit s
  | .carrierConfigure j identity => Sys2Proof.Machine.execCarrierConfigure j identity s
  | .launchEntryHandoff entry instant => Sys2Proof.Machine.execLaunchEntryHandoff entry instant s
  | .handshakeReceive ch => Sys2Proof.Machine.execHandshakeReceive ch s
  | .sampleOwnSlices slice group t words => Sys2Proof.Machine.execSampleOwnSlices slice group t words s
  | .fastSampleComplete group t => Sys2Proof.Machine.execFastSampleComplete group t s
  | .computeLoops entry c => Sys2Proof.Machine.execComputeLoops entry c s
  | .lanePreempt lane loop => Sys2Proof.Machine.execLanePreempt lane loop s
  | .loopComplete loop => Sys2Proof.Machine.execLoopComplete loop s
  | .loopOverrun loop => Sys2Proof.Machine.execLoopOverrun loop s
  | .fastLoopComplete loop => Sys2Proof.Machine.execFastLoopComplete loop s
  | .fastLoopAbandon loop => Sys2Proof.Machine.execFastLoopAbandon loop s
  | .laneTest lane pass => Sys2Proof.Machine.execLaneTest lane pass s
  | .runApplicationTask entry c => Sys2Proof.Machine.execRunApplicationTask entry c s
  | .taskComplete task points words => Sys2Proof.Machine.execTaskComplete task points words s
  | .taskOverrun task => Sys2Proof.Machine.execTaskOverrun task s
  | .commitOwnSlices entry k => Sys2Proof.Machine.execCommitOwnSlices entry k s
  | .commitScapexCarriers entry k => Sys2Proof.Machine.execCommitScapexCarriers entry k s
  | .publishStreams entry k => Sys2Proof.Machine.execPublishStreams entry k s
  | .gateEvent port j => Sys2Proof.Machine.execGateEvent port j s
  | .frameIngress port f => Sys2Proof.Machine.execFrameIngress port f s
  | .subFrameAccept n port rseq hdr recs => Sys2Proof.Machine.execSubFrameAccept n port rseq hdr recs s
  | .validAtApply n => Sys2Proof.Machine.execValidAtApply n s
  | .expectedInstantMissed n => Sys2Proof.Machine.execExpectedInstantMissed n s
  | .viewRebase v => Sys2Proof.Machine.execViewRebase v s
  | .mtLatch => Sys2Proof.Machine.execMtLatch s
  | .mtReepoch w => Sys2Proof.Machine.execMtReepoch w s
  | .gptpSyncReceived domain port secs ns corr cum residence => Sys2Proof.Machine.execGptpSyncReceived domain port secs ns corr cum residence s
  | .gptpPdelayMessage port m => Sys2Proof.Machine.execGptpPdelayMessage port m s
  | .gptpSignaling port logSync logPdelay => Sys2Proof.Machine.execGptpSignaling port logSync logPdelay s
  | .sourceLost => Sys2Proof.Machine.execSourceLost s
  | .holdoverErrCross => Sys2Proof.Machine.execHoldoverErrCross s
  | .ppsEdge frc => Sys2Proof.Machine.execPpsEdge frc s
  | .f10mMeasurement hz => Sys2Proof.Machine.execF10mMeasurement hz s
  | .ppsOutPulse => Sys2Proof.Machine.execPpsOutPulse s
  | .loopAuto w loop => Sys2Proof.Machine.execLoopAuto w loop s
  | .loopManual w loop => Sys2Proof.Machine.execLoopManual w loop s
  | .loopManualValue w loop => Sys2Proof.Machine.execLoopManualValue w loop s
  | .loopRestart w loop => Sys2Proof.Machine.execLoopRestart w loop s
  | .loopSwitch w loop set => Sys2Proof.Machine.execLoopSwitch w loop set s
  | .setStage loop => Sys2Proof.Machine.execSetStage loop s
  | .testStart loop relay ordered => Sys2Proof.Machine.execTestStart loop relay ordered s
  | .testAbort slot => Sys2Proof.Machine.execTestAbort slot s
  | .testComplete slot m => Sys2Proof.Machine.execTestComplete slot m s
  | .probationRevert loop => Sys2Proof.Machine.execProbationRevert loop s
  | .probationEnd loop => Sys2Proof.Machine.execProbationEnd loop s
  | .lockoutEnd loop => Sys2Proof.Machine.execLockoutEnd loop s
  | .surgeIntervalClose g => Sys2Proof.Machine.execSurgeIntervalClose g s
  | .surgeRelease g => Sys2Proof.Machine.execSurgeRelease g s
  | .adaptForbid h loop ident install surge => Sys2Proof.Machine.execAdaptForbid h loop ident install surge s
  | .adaptLift h loop ident install surge => Sys2Proof.Machine.execAdaptLift h loop ident install surge s
  | .diagRaised c bit cause => Sys2Proof.Machine.execDiagRaised c bit cause s
  | .diagCleared c bit => Sys2Proof.Machine.execDiagCleared c bit s
  | .crosscheckRound slice own check => Sys2Proof.Machine.execCrosscheckRound slice own check s
  | .tcOpenTest n ohms => Sys2Proof.Machine.execTcOpenTest n ohms s
  | .voutRetry n stillLimited => Sys2Proof.Machine.execVoutRetry n stillLimited s
  | .shellTempOff slice temp => Sys2Proof.Machine.execShellTempOff slice temp s
  | .shellTempMeasure slice temp => Sys2Proof.Machine.execShellTempMeasure slice temp s
  | .elementCheck n code => Sys2Proof.Machine.execElementCheck n code s
  | .hartConnect n reply => Sys2Proof.Machine.execHartConnect n reply s
  | .hartPoll n => Sys2Proof.Machine.execHartPoll n s
  | .hartResponse n r => Sys2Proof.Machine.execHartResponse n r s
  | .hartTimeout n => Sys2Proof.Machine.execHartTimeout n s
  | .hartPassthrough h n frame => Sys2Proof.Machine.execHartPassthrough h n frame s
  | .hartPassthroughSend n answer => Sys2Proof.Machine.execHartPassthroughSend n answer s
  | .inputChangeAccepted m on => Sys2Proof.Machine.execInputChangeAccepted m on s
  | .outputOverloadOff m => Sys2Proof.Machine.execOutputOverloadOff m s
  | .outputOverloadRetry m => Sys2Proof.Machine.execOutputOverloadRetry m s
  | .outputOvertempOff m => Sys2Proof.Machine.execOutputOvertempOff m s
  | .supplyStateChange g millivolts => Sys2Proof.Machine.execSupplyStateChange g millivolts s
  | .reapplyTurn g => Sys2Proof.Machine.execReapplyTurn g s
  | .groupOver g milliamps => Sys2Proof.Machine.execGroupOver g milliamps s
  | .sinkShareChange g seen => Sys2Proof.Machine.execSinkShareChange g seen s
  | .gyIntervalClose c => Sys2Proof.Machine.execGyIntervalClose c s
  | .gyLevelRise stage => Sys2Proof.Machine.execGyLevelRise stage s
  | .gyLevelFall stage => Sys2Proof.Machine.execGyLevelFall stage s
  | .patternFire u => Sys2Proof.Machine.execPatternFire u s
  | .armOrder k armAt => Sys2Proof.Machine.execArmOrder k armAt s
  | .armReceived k arms armAt => Sys2Proof.Machine.execArmReceived k arms armAt s
  | .armAt k => Sys2Proof.Machine.execArmAt k s
  | .fireReceived k t binary posB arms => Sys2Proof.Machine.execFireReceived k t binary posB arms s
  | .gyWindowComplete slot => Sys2Proof.Machine.execGyWindowComplete slot s
  | .gyHoldoffExpire k => Sys2Proof.Machine.execGyHoldoffExpire k s
  | .gyRelease slot => Sys2Proof.Machine.execGyRelease slot s
  | .gyFireOrder k => Sys2Proof.Machine.execGyFireOrder k s
  | .gyRdRead b => Sys2Proof.Machine.execGyRdRead b s
  | .svcGyBlockRead h b => Sys2Proof.Machine.execSvcGyBlockRead h b s
  | .svcGyBlockAck h c seq => Sys2Proof.Machine.execSvcGyBlockAck h c seq s
  | .svcGyRelease h slot => Sys2Proof.Machine.execSvcGyRelease h slot s
  | .svcGyFire h k => Sys2Proof.Machine.execSvcGyFire h k s
  | .collectLaunch entry t => Sys2Proof.Machine.execCollectLaunch entry t s
  | .collectReturn port f => Sys2Proof.Machine.execCollectReturn port f s
  | .collectComplete entry => Sys2Proof.Machine.execCollectComplete entry s
  | .timeFrameSend => Sys2Proof.Machine.execTimeFrameSend s
  | .timeFrameReturn port f lap => Sys2Proof.Machine.execTimeFrameReturn port f lap s
  | .scapexForward port f delay => Sys2Proof.Machine.execScapexForward port f delay s
  | .scapexSegmentDown port east => Sys2Proof.Machine.execScapexSegmentDown port east s
  | .serviceFrameLaunch port => Sys2Proof.Machine.execServiceFrameLaunch port s
  | .serviceFrameReturn port f => Sys2Proof.Machine.execServiceFrameReturn port f s
  | .serviceFrameTimeout port => Sys2Proof.Machine.execServiceFrameTimeout port s
  | .carrierLost j => Sys2Proof.Machine.execCarrierLost j s
  | .carrierAppeared j identity => Sys2Proof.Machine.execCarrierAppeared j identity s
  | .portLinkChange port up => Sys2Proof.Machine.execPortLinkChange port up s
  | .svcConnect t => Sys2Proof.Machine.execSvcConnect t s
  | .svcIdleClose sess => Sys2Proof.Machine.execSvcIdleClose sess s
  | .arpRequest via addr => Sys2Proof.Machine.execArpRequest via addr s
  | .neighbourSolicitation via addr => Sys2Proof.Machine.execNeighbourSolicitation via addr s
  | .icmpEcho via addr id => Sys2Proof.Machine.execIcmpEcho via addr id s
  | .svcUnknownType h type => Sys2Proof.Machine.execSvcUnknownType h type s
  | .svcFullSummary h => Sys2Proof.Machine.execSvcFullSummary h s
  | .fullSummaryRequest => Sys2Proof.Machine.execFullSummaryRequest s
  | .svcMbPost h n msg => Sys2Proof.Machine.execSvcMbPost h n msg s
  | .svcMbStatus h n => Sys2Proof.Machine.execSvcMbStatus h n s
  | .svcMbCancel h n => Sys2Proof.Machine.execSvcMbCancel h n s
  | .forcePoint h point v => Sys2Proof.Machine.execForcePoint h point v s
  | .forceRelease h point => Sys2Proof.Machine.execForceRelease h point s
  | .reepochOrder h => Sys2Proof.Machine.execReepochOrder h s
  | .ownerEnrolment h ownerKey fingerprint binary => Sys2Proof.Machine.execOwnerEnrolment h ownerKey fingerprint binary s
  | .svcMaintEnter h => Sys2Proof.Machine.execSvcMaintEnter h s
  | .svcMaintLeave h => Sys2Proof.Machine.execSvcMaintLeave h s
  | .svcDormant h => Sys2Proof.Machine.execSvcDormant h s
  | .canFrameReceived p f => Sys2Proof.Machine.execCanFrameReceived p f s
  | .canRemoteFrame p => Sys2Proof.Machine.execCanRemoteFrame p s
  | .canProtocolException p => Sys2Proof.Machine.execCanProtocolException p s
  | .canTxSuccess p o renewed => Sys2Proof.Machine.execCanTxSuccess p o renewed s
  | .canTxAckError p o dominantSeen => Sys2Proof.Machine.execCanTxAckError p o dominantSeen s
  | .canBusError p kind transmitting severe => Sys2Proof.Machine.execCanBusError p kind transmitting severe s
  | .canArbitrationLost p o => Sys2Proof.Machine.execCanArbitrationLost p o s
  | .canRecover p => Sys2Proof.Machine.execCanRecover p s
  | .canRecoveryDone p => Sys2Proof.Machine.execCanRecoveryDone p s
  | .canSnap w p o => Sys2Proof.Machine.execCanSnap w p o s
  | .canSend w p o => Sys2Proof.Machine.execCanSend w p o s
  | .canCancel w p o => Sys2Proof.Machine.execCanCancel w p o s
  | .canLeaveListenOnly p => Sys2Proof.Machine.execCanLeaveListenOnly p s
  | .loopIndicationChange island ind => Sys2Proof.Machine.execLoopIndicationChange island ind s
  | .partnerClaimChange present => Sys2Proof.Machine.execPartnerClaimChange present s
  | .partnerReadyChange present => Sys2Proof.Machine.execPartnerReadyChange present s
  | .claimReturnTimeout => Sys2Proof.Machine.execClaimReturnTimeout s
  | .heartbeatSend => Sys2Proof.Machine.execHeartbeatSend s
  | .netHeartbeatSend => Sys2Proof.Machine.execNetHeartbeatSend s
  | .heartbeatReceived link msg btOffset ptOffset => Sys2Proof.Machine.execHeartbeatReceived link msg btOffset ptOffset s
  | .heartbeatTimeout => Sys2Proof.Machine.execHeartbeatTimeout s
  | .releaseReceived => Sys2Proof.Machine.execReleaseReceived s
  | .epochStored => Sys2Proof.Machine.execEpochStored s
  | .takeoverResume => Sys2Proof.Machine.execTakeoverResume s
  | .netHbTimeout => Sys2Proof.Machine.execNetHbTimeout s
  | .binaryLinkChange link up => Sys2Proof.Machine.execBinaryLinkChange link up s
  | .grantRecognised => Sys2Proof.Machine.execGrantRecognised s
  | .grantWithdrawn => Sys2Proof.Machine.execGrantWithdrawn s
  | .arbiterFail => Sys2Proof.Machine.execArbiterFail s
  | .arbiterReturn => Sys2Proof.Machine.execArbiterReturn s
  | .healthWordForm => Sys2Proof.Machine.execHealthWordForm s
  | .standbySelftest t => Sys2Proof.Machine.execStandbySelftest t s
  | .yield => Sys2Proof.Machine.execYield s
  | .snapshotFreeze => Sys2Proof.Machine.execSnapshotFreeze s
  | .blockRecordReceived hdr words => Sys2Proof.Machine.execBlockRecordReceived hdr words s
  | .snapshotCommit snap b bytes crc items => Sys2Proof.Machine.execSnapshotCommit snap b bytes crc items s
  | .standbyBoundary => Sys2Proof.Machine.execStandbyBoundary s
  | .verifyCrcSend => Sys2Proof.Machine.execVerifyCrcSend s
  | .verifyCrcReceived first crcs => Sys2Proof.Machine.execVerifyCrcReceived first crcs s
  | .sideRecordReceived r => Sys2Proof.Machine.execSideRecordReceived r s
  | .fastRecordReceived loop state secs rec crc => Sys2Proof.Machine.execFastRecordReceived loop state secs rec crc s
  | .joinComplete => Sys2Proof.Machine.execJoinComplete s
  | .handoverOrder w after => Sys2Proof.Machine.execHandoverOrder w after s
  | .handoverCancel w => Sys2Proof.Machine.execHandoverCancel w s
  | .handoverCheck => Sys2Proof.Machine.execHandoverCheck s
  | .handoverInstant => Sys2Proof.Machine.execHandoverInstant s
  | .enterMaintenance w => Sys2Proof.Machine.execEnterMaintenance w s
  | .leaveMaintenance w => Sys2Proof.Machine.execLeaveMaintenance w s
  | .partnerReset w => Sys2Proof.Machine.execPartnerReset w s
  | .removeOpen => Sys2Proof.Machine.execRemoveOpen s
  | .removeClose => Sys2Proof.Machine.execRemoveClose s
  | .insertedOpen => Sys2Proof.Machine.execInsertedOpen s
  | .calderaHoldExpire => Sys2Proof.Machine.execCalderaHoldExpire s
  | .signatureWindowClose pair sigL sigT xDiff yDiff parity => Sys2Proof.Machine.execSignatureWindowClose pair sigL sigT xDiff yDiff parity s
  | .lockstepMismatch pair x y stage write => Sys2Proof.Machine.execLockstepMismatch pair x y stage write s
  | .rerunComplete pair r => Sys2Proof.Machine.execRerunComplete pair r s
  | .compareCountDone pair => Sys2Proof.Machine.execCompareCountDone pair s
  | .comparatorInjection pair xOk yOk => Sys2Proof.Machine.execComparatorInjection pair xOk yOk s
  | .lkSplit w pair => Sys2Proof.Machine.execLkSplit w pair s
  | .splitDrainDone pair => Sys2Proof.Machine.execSplitDrainDone pair s
  | .splitDrainTimeout pair => Sys2Proof.Machine.execSplitDrainTimeout pair s
  | .lkRejoin w pair => Sys2Proof.Machine.execLkRejoin w pair s
  | .rejoinStop pair forced => Sys2Proof.Machine.execRejoinStop pair forced s
  | .lkInject w pair xOk yOk => Sys2Proof.Machine.execLkInject w pair xOk yOk s
  | .debugHaltRequest pair => Sys2Proof.Machine.execDebugHaltRequest pair s
  | .debugResume pair => Sys2Proof.Machine.execDebugResume pair s
  | .islandClockCheck j millipercent => Sys2Proof.Machine.execIslandClockCheck j millipercent s
  | .islandStall j cause => Sys2Proof.Machine.execIslandStall j cause s
  | .islandRestartDone j => Sys2Proof.Machine.execIslandRestartDone j s
  | .registerAccessTimeout j addr => Sys2Proof.Machine.execRegisterAccessTimeout j addr s
  | .shellWatchdogRestart slice => Sys2Proof.Machine.execShellWatchdogRestart slice s
  | .shellStageHoldExpire slice => Sys2Proof.Machine.execShellStageHoldExpire slice s
  | .shellReloadDone slice => Sys2Proof.Machine.execShellReloadDone slice s
  | .coreAccess a => Sys2Proof.Machine.execCoreAccess a s
  | .debugAccess a => Sys2Proof.Machine.execDebugAccess a s
  | .acLock => Sys2Proof.Machine.execAcLock s
  | .scrubRead addr e => Sys2Proof.Machine.execScrubRead addr e s
  | .mbRing n by_ => Sys2Proof.Machine.execMbRing n by_ s
  | .mbCancel n by_ => Sys2Proof.Machine.execMbCancel n by_ s
  | .mbAckWrite n by_ code => Sys2Proof.Machine.execMbAckWrite n by_ code s
  | .mbAckRead n by_ => Sys2Proof.Machine.execMbAckRead n by_ s
  | .mbMessageWrite n by_ off bytes => Sys2Proof.Machine.execMbMessageWrite n by_ off bytes s
  | .mbLinkDeliver k msg => Sys2Proof.Machine.execMbLinkDeliver k msg s
  | .mbLinkAck k code collided => Sys2Proof.Machine.execMbLinkAck k code collided s
  | .sinterAdmit => Sys2Proof.Machine.execSinterAdmit s
  | .sinterCommit => Sys2Proof.Machine.execSinterCommit s
  | .suppressionSummary code => Sys2Proof.Machine.execSuppressionSummary code s
  | .lossRecord => Sys2Proof.Machine.execLossRecord s
  | .sinterSearch => Sys2Proof.Machine.execSinterSearch s
  | .snCursorSet w hi => Sys2Proof.Machine.execSnCursorSet w hi s
  | .snWindowAdvance w => Sys2Proof.Machine.execSnWindowAdvance w s
  | .sinterCursorRead h start count => Sys2Proof.Machine.execSinterCursorRead h start count s
  | .sinterClear h => Sys2Proof.Machine.execSinterClear h s
  | .imageDownloadBlock h hdr units readBackOk => Sys2Proof.Machine.execImageDownloadBlock h hdr units readBackOk s
  | .updateVerify h kinds link => Sys2Proof.Machine.execUpdateVerify h kinds link s
  | .verifyComplete img formats => Sys2Proof.Machine.execVerifyComplete img formats s
  | .updateActivate h kinds at_ => Sys2Proof.Machine.execUpdateActivate h kinds at_ s
  | .activateCheck => Sys2Proof.Machine.execActivateCheck s
  | .activateAt => Sys2Proof.Machine.execActivateAt s
  | .updateRoll h kinds at_ => Sys2Proof.Machine.execUpdateRoll h kinds at_ s
  | .rollPartnerActivate kinds => Sys2Proof.Machine.execRollPartnerActivate kinds s
  | .rollPartnerReady => Sys2Proof.Machine.execRollPartnerReady s
  | .rollFormerActivate => Sys2Proof.Machine.execRollFormerActivate s
  | .rollComplete => Sys2Proof.Machine.execRollComplete s
  | .rollWaitExpire => Sys2Proof.Machine.execRollWaitExpire s
  | .revertRollStart => Sys2Proof.Machine.execRevertRollStart s
  | .updateConfirm h partnerOk link => Sys2Proof.Machine.execUpdateConfirm h partnerOk link s
  | .updateRevert h => Sys2Proof.Machine.execUpdateRevert h s
  | .updateCancel h kinds link => Sys2Proof.Machine.execUpdateCancel h kinds link s
  | .updateStatus h kinds => Sys2Proof.Machine.execUpdateStatus h kinds s
  | .trialRunWrite => Sys2Proof.Machine.execTrialRunWrite s
  | .trialExpire => Sys2Proof.Machine.execTrialExpire s
  | .trialRevertRestart => Sys2Proof.Machine.execTrialRevertRestart s
  | .iazebinActivate h kinds => Sys2Proof.Machine.execIazebinActivate h kinds s
  | .powerOnReset f => Sys2Proof.Machine.execPowerOnReset f s
  | .brownOutReset => Sys2Proof.Machine.execBrownOutReset s
  | .resetContact => Sys2Proof.Machine.execResetContact s
  | .resetContactRelease => Sys2Proof.Machine.execResetContactRelease s
  | .watchdogReset => Sys2Proof.Machine.execWatchdogReset s
  | .watchdogWarning => Sys2Proof.Machine.execWatchdogWarning s
  | .wdogKick v => Sys2Proof.Machine.execWdogKick v s
  | .lockstepFatalReset => Sys2Proof.Machine.execLockstepFatalReset s
  | .supervisorReset => Sys2Proof.Machine.execSupervisorReset s
  | .enterDormant => Sys2Proof.Machine.execEnterDormant s
  | .partnerResetReceived => Sys2Proof.Machine.execPartnerResetReceived s
  | .insertionResetEnd => Sys2Proof.Machine.execInsertionResetEnd s
  | .resetDurationEnd => Sys2Proof.Machine.execResetDurationEnd s
  | .feedLost f => Sys2Proof.Machine.execFeedLost f s
  | .feedReturn f volts => Sys2Proof.Machine.execFeedReturn f volts s
  | .feedOvervoltage f => Sys2Proof.Machine.execFeedOvervoltage f s
  | .holdupEnter => Sys2Proof.Machine.execHoldupEnter s
  | .holdupKeyWritesEnd => Sys2Proof.Machine.execHoldupKeyWritesEnd s
  | .holdupEnd => Sys2Proof.Machine.execHoldupEnd s
  | .holdupChargeCross percent => Sys2Proof.Machine.execHoldupChargeCross percent s
  | .holdupCapMeasure fallPermille => Sys2Proof.Machine.execHoldupCapMeasure fallPermille s
  | .tempCheck temp => Sys2Proof.Machine.execTempCheck temp s
  | .eventLatch n => Sys2Proof.Machine.execEventLatch n s
  | .appInterruptTake n pair => Sys2Proof.Machine.execAppInterruptTake n pair s
  | .ownerLockChange l => Sys2Proof.Machine.execOwnerLockChange l s
  | .keyRemoved => Sys2Proof.Machine.execKeyRemoved s
  | .keyInserted content => Sys2Proof.Machine.execKeyInserted content s
  | .keyHeaderReread => Sys2Proof.Machine.execKeyHeaderReread s
  | .captureSample c v => Sys2Proof.Machine.execCaptureSample c v s
  | .retainedCommit => Sys2Proof.Machine.execRetainedCommit s
  | .scapexSegmentUp port east => Sys2Proof.Machine.execScapexSegmentUp port east s
  | .insertedClose => Sys2Proof.Machine.execInsertedClose s
  | .svcDisconnect sess => Sys2Proof.Machine.execSvcDisconnect sess s
  | .brownOutLatchExpire => Sys2Proof.Machine.execBrownOutLatchExpire s
  | .pdelayRequestSend port => Sys2Proof.Machine.execPdelayRequestSend port s
  | .gptpAnnounce domain port better steps => Sys2Proof.Machine.execGptpAnnounce domain port better steps s

end Sys2Proof.Machine
end

