-- ==== Sys2Proof/Safety.lean ====
section
/-! DEFINITION. The terms that the claims use: what a command leaves unchanged, part by part of the state and register by
register; records and event sources raised; and the properties that every step keeps. -/

namespace Sys2Proof.Machine

/-! ## What is unchanged -/

/-- The parts of the state; `fuse`, the lifecycle fuse within `pw`, stands by itself: a change of `pw` keeps it unless `fuse`
is named too. -/
inductive Part where
  | pending | out | lastRead | lastBytes | free | regs | latchHi | holdLo | levels | img | boot | base | key | sn | mt | pw
  | ln | le | la | bn | io | gy | sx | pn | cn | mb | lk | ac | up | isl | pi | subc | blk | mem | forces | fuse
  deriving DecidableEq, Repr

/-- Two states agree in a part. -/
def Part.same (s t : State) : Part → Prop
  | .pending => t.pending = s.pending
  | .out => t.out = s.out
  | .lastRead => t.lastRead = s.lastRead
  | .lastBytes => t.lastBytes = s.lastBytes
  | .free => t.free = s.free
  | .regs => t.regs = s.regs
  | .latchHi => t.latchHi = s.latchHi
  | .holdLo => t.holdLo = s.holdLo
  | .levels => t.levels = s.levels
  | .img => t.img = s.img
  | .boot => t.boot = s.boot
  | .base => t.base = s.base
  | .key => t.key = s.key
  | .sn => t.sn = s.sn
  | .mt => t.mt = s.mt
  | .pw => t.pw = s.pw
  | .ln => t.ln = s.ln
  | .le => t.le = s.le
  | .la => t.la = s.la
  | .bn => t.bn = s.bn
  | .io => t.io = s.io
  | .gy => t.gy = s.gy
  | .sx => t.sx = s.sx
  | .pn => t.pn = s.pn
  | .cn => t.cn = s.cn
  | .mb => t.mb = s.mb
  | .lk => t.lk = s.lk
  | .ac => t.ac = s.ac
  | .up => t.up = s.up
  | .isl => t.isl = s.isl
  | .pi => t.pi = s.pi
  | .subc => t.subc = s.subc
  | .blk => t.blk = s.blk
  | .mem => t.mem = s.mem
  | .forces => t.forces = s.forces
  | .fuse => t.pw.fuseSealed = s.pw.fuseSealed

/-- From `s` to `t` only the parts `ps` may have changed. -/
def Touches (ps : List Part) (s t : State) : Prop := ∀ p, p ∉ ps → Part.same s t p

/-- From `s` to `t` only registers of the names `ws` may have changed. -/
def RegsKept (ws : List RegName) (s t : State) : Prop := ∀ n i, n ∉ ws → t.reg n i = s.reg n i

/-- Of the registers of name `n` only instance `i` may have changed. -/
def InstKept (n : RegName) (i : Nat) (s t : State) : Prop := ∀ j, j ≠ i → t.reg n j = s.reg n j

/-- Only the bits of `mask` of register `n`, instance `i`, may have changed. -/
def BitsKept (n : RegName) (i : Nat) (mask : Word) (s t : State) : Prop := t.reg n i &&& ~~~ mask = s.reg n i &&& ~~~ mask

/-- Command `c` completes at `s` in a next state where `Q` holds, and only the parts `ps` and the registers of the names `ws`
may have changed. -/
def Completes (c : Instr) (s : State) (ps : List Part) (ws : List RegName) (Q : State → Prop) : Prop :=
  ∃ t, exec c s = .next t ∧ Q t ∧ Touches ps s t ∧ RegsKept ws s t

/-! ## What is raised -/

/-- From `s` to `t` exactly records of the codes `cs` were raised, in that order, after those that waited. -/
def Records (cs : List Nat) (s t : State) : Prop :=
  t.sn.raised.take s.sn.raised.length = s.sn.raised ∧
  (t.sn.raised.drop s.sn.raised.length).map (·.code) = cs.map (BitVec.ofNat 16)

/-- From `s` to `t` exactly the outputs `os` left the module, in that order. -/
def Sends (os : List Output) (s t : State) : Prop := t.out = s.out ++ os

/-- From `s` to `t` the outputs `pre` left, then the response `o` of session `k`: at once by the base's contact, or by the plant port
of the session in the class of the service VLAN, where it waits while that gate is shut and is lost without tables or link (R261,
R264). Of a response in the class of streams nothing is said. -/
def Answers (pre : List Output) (k : Nat) (o : Output) (s t : State) : Prop :=
  match s.sessVia k, s.img.vlans.find? fun v => v.service with
  | none, _ => Sends (pre ++ [o]) s t
  | some p, some v =>
    if s.portOpen (p.val + 1) = false then Sends pre s t
    else if s.gateOpen (p.val + 1) v.pcp = true then v.pcp ≠ 6 → Sends (pre ++ [o]) s t
    else Sends pre s t ∧
      Tab.get [] t.pn.wait (p.val + 1) = Tab.get [] s.pn.wait (p.val + 1) ++ [{ cls := v.pcp, own := some o }]
  | some _, none => Sends pre s t

/-- The handshake channel of an island takes a record: no reset is under way and it holds fewer than 16 (R356, R428). -/
def State.takesRecord (s : State) (island : Nat) : Prop :=
  s.pw.inReset = none ∧ (s.sn.raised.filter fun r => r.island == island).length < 16

/-- Event source `n` stands raised. -/
def Raised (n : Nat) (t : State) : Prop := n ∈ t.levels

/-! ## What every step keeps -/

/-- A word that AC_SLOT[n] may read (16 registers): LOCKED set and bits [8:4] clear in slots 1 to 4, EN clear in slots 39 to
63. -/
def slotWordOk (n : Nat) (w : Word) : Bool :=
  (!(decide (1 ≤ n) && decide (n ≤ 4)) || (bitAt w 30 && bits w 8 4 == 0)) && (!decide (39 ≤ n) || !bitAt w 31)

/-- The hard-wired bits of the slot table read as the manual gives them. -/
def State.slotsOk (s : State) : Prop := ∀ n, slotWordOk n (s.reg .AC_SLOT n) = true

end Sys2Proof.Machine
end

