-- ==== Sys2Proof/Certificates/Slice0/Obligations.lean ====
section
/-! DEFINITION. What the model is claimed to do: the statements for the provers. Numbers of assumptions are those of
notes/assumptions. -/

open Sys2Proof Sys2Proof.Machine

/-- For every command c, every rest of the queue and every state, the step of a state whose queue begins with c is
exec of c on that state with the rest of the queue; with an empty queue the step is one Meridian cycle of 4 ns (R64;
that nothing else moves by itself is the model's choice, assumption 1). -/
def Obligations.StepTakesFront : Prop :=
  (∀ (c : Instr) (cs : List Instr) (s : State),
    step { s with pending := c :: cs } = exec c { s with pending := cs }) ∧
  (∀ s : State,
    s.pending = [] →
    step s = .next { s with mt := { s.mt with frc := s.mt.frc + 4 } })

/-- Whatever command stands in front, a step that answers a next state leaves the rest of the queue exactly as it was,
first in, first out (the queue is the model's own, assumption 1). -/
def Obligations.QueueKept : Prop :=
  ∀ (c : Instr) (cs : List Instr) (s t : State),
    step { s with pending := c :: cs } = .next t →
    t.pending = cs

/-- From a state whose queue is cs followed by ds, as many steps as cs has commands, if none stops, leave exactly ds
waiting: by induction over the queue (the queue is the model's own, assumption 1). -/
def Obligations.FirstInFirstOut : Prop :=
  ∀ (cs ds : List Instr) (s t : State),
    Host.Core.run Sys2Proof.core cs.length { s with pending := cs ++ ds } = .next t →
    t.pending = ds

/-- From every state whose byte memory lists its addresses in rising order without a byte equal to what an unlisted
address reads, a step that answers a next state leaves such a memory, whatever command is in front (the form is the
model's own, assumption 3). -/
def Obligations.MemoryKeepsForm : Prop :=
  ∀ s t : State,
    Memory.wf s.mem = true → step s = .next t →
    Memory.wf t.mem = true

/-- In every state whose lifecycle fuse is SEALED, no step of whatever command clears it, resets and power loss
included. -/
def Obligations.SealedStays : Prop :=
  ∀ s t : State,
    s.pw.fuseSealed = true → step s = .next t →
    t.pw.fuseSealed = true

/-- In slots 1 to 4 LOCKED reads 1 and bits [8:4] read 0, and in slots 39 to 63 EN reads 0; from every state in which
this holds, every step that answers a next state keeps it. -/
def Obligations.SlotTableHardwired : Prop :=
  ∀ s t : State,
    s.slotsOk → step s = .next t →
    t.slotsOk

/-- After power-on reset the queue is empty, nothing stands raised, memory lists nothing, the registers read their
reset values (RST_CAUSE 0x1 as CAUSE, RST_WDOG.REMAIN 0x32, MT_STATE.STATE unset, MT_ERR_EST all ones), and the slot
table is in order. Where a clause rests on a choice of the model, the choice is in log entries 4. -/
def Obligations.ResetHolds : Prop :=
  (State.reset.pending = [] ∧ State.reset.levels = [] ∧ State.reset.mem = [] ∧ Memory.wf State.reset.mem = true) ∧
  (State.reset.slotsOk) ∧
  (State.reset.fld Fld.RST_CAUSE_CAUSE = 1 ∧ State.reset.fld Fld.RST_WDOG_REMAIN = 0x32 ∧
  State.reset.reg .MT_ERR_EST = 0xFFFFFFFF#32 ∧ (∀ n, State.reset.fld Fld.RST_EV_PEND_PEND n = 0) ∧
  State.reset.role = 0 ∧ State.reset.auth = false)

/-- REGISTER_WRITE of a register that is no command register sets each writable bit to the written bit, clears each
write-one-to-clear bit that is written 1, and leaves every other bit, reserved bits among them, every other instance
and everything else as it was; the slots that only the supervisor reaches ignore a write of the application. A write
of MT_TB_CFG[n] that gives a base another enable, domain or source also clears what it heard (SYNCED, PORT). W1C_WRITE
clears the bits written 1, except those that the module sets in the same cycle. Where a clause rests on a choice of
the model, the choice is in log entries 11, 15, 41, 42. It says of each of these commands, under hypotheses on the
state and the operands alone, that exec answers a next state with its effect: registerWrite, w1cWrite. -/
def Obligations.RegisterWrites : Prop :=
  (∀ (w : Writer) (r : Reg) (v : Word) (s : State),
    r.wf = true → (w = .app → supOnly r.name = false) →
    r.name ∉ [.RST_CTL, .RST_WDOG, .RST_EV_ROUTE, .AC_CTL, .AC_SLOT, .MB_DOOR, .MB_ACK, .LK_CMD, .MT_CTL, .LE_CMD, .GY_CMD, .MT_TB_CFG, .BN_CMD, .CN_CTL, .CN_OBJCMD, .SN_CURSOR_LO, .SN_CURSOR_HI, .BN_HO_AT_LO, .BN_HO_AT_HI] →
    Completes (.registerWrite w r v) s [.regs] [r.name] fun t =>
      InstKept r.name r.idx s t ∧
      ∀ b, (t.reg r.name r.idx).getLsbD b = if r.name.w1cMask.getLsbD b && v.getLsbD b then false else if r.name.rwMask.getLsbD b then v.getLsbD b else (s.reg r.name r.idx).getLsbD b) ∧
  (∀ (r : Reg) (v : Word) (s : State),
    r.wf = true → supOnly r.name = true →
    exec (.registerWrite .app r v) s = .next s) ∧
  (∀ (r : Reg) (v setNow : Word) (s : State),
    r.wf = true →
    Completes (.w1cWrite r v setNow) s [.regs] [r.name] fun t =>
      InstKept r.name r.idx s t ∧
      ∀ b, (t.reg r.name r.idx).getLsbD b = if r.name.w1cMask.getLsbD b then setNow.getLsbD b || (!v.getLsbD b && (s.reg r.name r.idx).getLsbD b) else (s.reg r.name r.idx).getLsbD b) ∧
  (∀ (w : Writer) (r : Reg) (v u : Word) (s : State),
    r.wf = false →
    exec (.registerWrite w r v) s = .fault (.noSuchRegister r.name r.idx) ∧
    exec (.w1cWrite r v u) s = .fault (.noSuchRegister r.name r.idx) ∧
    exec (.rcRead r u) s = .fault (.noSuchRegister r.name r.idx)) ∧
  (∀ (w : Writer) (n : Fin 8) (v : Word) (s : State),
    bits (s.reg .MT_TB_CFG n) 31 22 ≠ bits v 31 22 →
    Completes (.registerWrite w ⟨.MT_TB_CFG, n⟩ v) s [.regs, .mt] [.MT_TB_CFG] fun t =>
      InstKept .MT_TB_CFG n s t ∧ bits (t.reg .MT_TB_CFG n) 31 22 = bits v 31 22 ∧
      t.flag Fld.MT_TB_CFG_SYNCED n = false ∧ t.fld Fld.MT_TB_CFG_PORT n = 0 ∧
      t.flag Fld.MT_TB_CFG_STEPPED n = (s.flag Fld.MT_TB_CFG_STEPPED n && !bitAt v 3)) ∧
  (∀ (w : Writer) (n : Fin 8) (v : Word) (s : State),
    bits (s.reg .MT_TB_CFG n) 31 22 = bits v 31 22 →
    exec (.registerWrite w ⟨.MT_TB_CFG, n⟩ v) s =
      .next (s.setFlag Fld.MT_TB_CFG_STEPPED (s.flag Fld.MT_TB_CFG_STEPPED n && !bitAt v 3) n))

/-- RC_READ returns the earlier content and clears the RC fields, in which only what the module sets in the same cycle
remains. PAIR_LO_READ returns the low half and latches the high half, which the next read of the _HI register returns
whatever became of it. PAIR_LO_WRITE of a writable pair holds the value; PAIR_HI_WRITE commits both halves together
(the cursor pair's Sinter window is loaded with it, the hand-over pair is the supervisor's). Where a clause rests on a
choice of the model, the choice is in log entries 15. It says of each of these commands, under hypotheses on the state
and the operands alone, that exec answers a next state with its effect: rcRead, pairLoRead, pairLoWrite, pairHiWrite. -/
def Obligations.RegisterReads : Prop :=
  (∀ (r : Reg) (setNow : Word) (s : State),
    r.wf = true → r.name.rcMask ≠ 0 → r.name ≠ .PN_SSTAT → r.name ≠ .MB_ACK →
    Completes (.rcRead r setNow) s [.lastRead, .regs] [r.name] fun t =>
      t.lastRead = s.view r.name r.idx &&& ~~~ r.name.woMask ∧ InstKept r.name r.idx s t ∧
      ∀ b, (t.reg r.name r.idx).getLsbD b = if r.name.rcMask.getLsbD b then setNow.getLsbD b else (s.reg r.name r.idx).getLsbD b) ∧
  (∀ (w : Nat) (setNow : Word) (s : State),
    w < 2 →
    Completes (.rcRead ⟨.PN_SSTAT, w⟩ setNow) s [.lastRead, .pn] [] fun t =>
      t.lastRead = s.pnSstat w ∧
      (t.pn.polc = Tab.set 0 s.pn.polc (streamKey (s.fld Fld.PN_SEL_TABLE w) (s.fld Fld.PN_SEL_INDEX w)) (bits setNow 31 16)) ∧
      (t.pn.elimc = Tab.set 0 s.pn.elimc (streamKey (s.fld Fld.PN_SEL_TABLE w) (s.fld Fld.PN_SEL_INDEX w)) (bits setNow 15 0))) ∧
  (∀ (i : Nat) (s : State),
    Reg.wf ⟨.MB_ACK, i⟩ = true →
    Completes (.rcRead ⟨.MB_ACK, i⟩ 0) s [.lastRead, .regs] [.MB_STAT, .MB_ACK] fun t =>
      t.lastRead = s.reg .MB_ACK i) ∧
  (∀ (r : Reg) (s : State),
    r.wf = true → r.name.isLo = true →
    Completes (.pairLoRead r) s [.lastRead, .latchHi] [] fun t =>
      t.lastRead = s.view r.name r.idx ∧ t.regValue r.name.hiOf r.idx = s.view r.name.hiOf r.idx ∧
      ∀ u, (t.setReg r.name.hiOf r.idx u).regValue r.name.hiOf r.idx = s.view r.name.hiOf r.idx) ∧
  (∀ (v : Word) (s : State) (w : Nat),
    w < 2 →
    Completes (.pairLoWrite ⟨.SN_CURSOR_LO, w⟩ v) s [.holdLo] [] (fun t => t.heldLo .SN_CURSOR_LO w = v) ∧
    Completes (.pairLoWrite ⟨.BN_HO_AT_LO, 0⟩ v) s [.holdLo] [] (fun t => t.heldLo .BN_HO_AT_LO 0 = v)) ∧
  (∀ (r : Reg) (v : Word) (s : State),
    r.wf = true → pairRw r.name = false →
    exec (.pairLoWrite r v) s = .next s) ∧
  (∀ (w : Writer) (v : Word) (s : State) (i : Nat),
    i < 2 →
    exec (.pairHiWrite w ⟨.SN_CURSOR_HI, i⟩ v) s =
      .next ((s.setCursor i (bits v 15 0 * 4294967296 + (s.heldLo .SN_CURSOR_LO i).toNat)).loadWindow i)) ∧
  (∀ (v : Word) (s : State),
    Completes (.pairHiWrite .sup ⟨.BN_HO_AT_HI, 0⟩ v) s [.regs] [.BN_HO_AT_LO, .BN_HO_AT_HI] fun t =>
      t.reg .BN_HO_AT_LO = s.heldLo .BN_HO_AT_LO 0 ∧ t.reg .BN_HO_AT_HI = v) ∧
  (∀ (w : Writer) (r : Reg) (v : Word) (s : State),
    r.wf = true → r.name ≠ .SN_CURSOR_HI → r.name ≠ .BN_HO_AT_HI →
    exec (.pairHiWrite w r v) s = .next s)

/-- For each command register, a write of the order's word does what the order's own command does; reserved orders of
RST_CTL and GY_CMD are refused by name (the manual gives them no effect), the other command registers answer a
reserved order with their result code 2. Where a clause rests on a choice of the model, the choice is in log entries
10, 11, 12, 13, 14, 88. -/
def Obligations.CommandRegisters : Prop :=
  (∀ (v : Word) (s : State),
    exec (.registerWrite .sup ⟨.RST_CTL, 0⟩ v) s =
      (if bits v 31 28 = 1 then exec .supervisorReset s else if bits v 31 28 = 2 then exec .enterDormant s else .refused (.reservedOrder .RST_CTL (bits v 31 28)))) ∧
  (∀ (v : Word) (s : State),
    exec (.registerWrite .sup ⟨.RST_WDOG, 0⟩ v) s = exec (.wdogKick (BitVec.ofNat 16 (bits v 31 16))) s) ∧
  (∀ (v : Word) (s : State),
    bitAt v 0 = true →
    exec (.registerWrite .sup ⟨.AC_CTL, 0⟩ v) s = exec .acLock s) ∧
  (∀ (n : Fin 32) (v : Word) (s : State),
    n.val < 8 → bitAt v 31 = true → bitAt v 30 = false →
    exec (.registerWrite .app ⟨.MB_DOOR, n⟩ v) s = exec (.mbRing n .sender) s) ∧
  (∀ (n : Fin 32) (v : Word) (s : State),
    n.val < 8 → bitAt v 31 = false → bitAt v 30 = true →
    exec (.registerWrite .app ⟨.MB_DOOR, n⟩ v) s = exec (.mbCancel n .sender) s) ∧
  (∀ (n : Fin 32) (v : Word) (s : State),
    n.val < 8 →
    exec (.registerWrite .sup ⟨.MB_ACK, n⟩ v) s = exec (.mbAckWrite n .receiver (BitVec.ofNat 16 (bits v 15 0))) s) ∧
  (∀ (w : Writer) (i : Fin 8) (v : Word) (s : State),
    bits v 2 0 = i.val →
    (bits v 31 28 = 1 → exec (.registerWrite w ⟨.LK_CMD, wIdx w⟩ v) s = exec (.lkSplit w i) s) ∧
    (bits v 31 28 = 2 → exec (.registerWrite w ⟨.LK_CMD, wIdx w⟩ v) s = exec (.lkRejoin w i) s)) ∧
  (∀ (w : Writer) (v : Word) (s : State),
    bitAt v 0 = true → bitAt v 1 = false →
    exec (.registerWrite w ⟨.MT_CTL, 0⟩ v) s = exec .mtLatch s) ∧
  (∀ (w : Writer) (v : Word) (l : Nat) (s : State),
    bits v 13 0 = l →
    (bits v 31 28 = 1 → exec (.registerWrite w ⟨.LE_CMD, wIdx w⟩ v) s = exec (.loopAuto w l) s) ∧
    (bits v 31 28 = 2 → exec (.registerWrite w ⟨.LE_CMD, wIdx w⟩ v) s = exec (.loopManual w l) s) ∧
    (bits v 31 28 = 3 → exec (.registerWrite w ⟨.LE_CMD, wIdx w⟩ v) s = exec (.loopManualValue w l) s) ∧
    (bits v 31 28 = 4 → exec (.registerWrite w ⟨.LE_CMD, wIdx w⟩ v) s = exec (.loopRestart w l) s) ∧
    (∀ k : Fin 4, bits v 31 28 = 5 → bits v 17 16 = k.val → exec (.registerWrite w ⟨.LE_CMD, wIdx w⟩ v) s = exec (.loopSwitch w l k) s)) ∧
  (∀ (w : Writer) (v : Word) (s : State),
    (∀ i : Fin 16, bits v 31 28 = 1 → bits v 7 4 = i.val → exec (.registerWrite w ⟨.GY_CMD, 0⟩ v) s = exec (.gyRelease i) s) ∧
    (∀ k : Fin 16, bits v 31 28 = 2 → bits v 3 0 = k.val → exec (.registerWrite w ⟨.GY_CMD, 0⟩ v) s = exec (.gyFireOrder k) s) ∧
    (bits v 31 28 ≠ 1 → bits v 31 28 ≠ 2 → exec (.registerWrite w ⟨.GY_CMD, 0⟩ v) s = .refused (.reservedOrder .GY_CMD (bits v 31 28)))) ∧
  (∀ (v : Word) (s : State),
    (bits v 31 28 = 1 → exec (.registerWrite .sup ⟨.BN_CMD, 0⟩ v) s = exec (.handoverOrder .sup .join) s) ∧
    (bits v 31 28 = 2 → exec (.registerWrite .sup ⟨.BN_CMD, 0⟩ v) s = exec (.handoverCancel .sup) s) ∧
    (bits v 31 28 = 3 → exec (.registerWrite .sup ⟨.BN_CMD, 0⟩ v) s = exec (.enterMaintenance .sup) s) ∧
    (bits v 31 28 = 4 → exec (.registerWrite .sup ⟨.BN_CMD, 0⟩ v) s = exec (.leaveMaintenance .sup) s) ∧
    (bits v 31 28 = 5 → exec (.registerWrite .sup ⟨.BN_CMD, 0⟩ v) s = exec (.partnerReset .sup) s)) ∧
  (∀ (w : Writer) (p : Fin 4) (v : Word) (s : State),
    bitAt v 0 = true →
    exec (.registerWrite w ⟨.CN_CTL, p⟩ v) s = exec (.canRecover p) s) ∧
  (∀ (w : Writer) (p : Fin 4) (o : Fin 128) (v : Word) (s : State),
    bits v 9 8 = p.val → bits v 6 0 = o.val →
    (bits v 31 28 = 1 → exec (.registerWrite w ⟨.CN_OBJCMD, wIdx w⟩ v) s = exec (.canSnap w p o) s) ∧
    (bits v 31 28 = 2 → exec (.registerWrite w ⟨.CN_OBJCMD, wIdx w⟩ v) s = exec (.canSend w p o) s) ∧
    (bits v 31 28 = 3 → exec (.registerWrite w ⟨.CN_OBJCMD, wIdx w⟩ v) s = exec (.canCancel w p o) s))

/-- POWER_GOOD before start-up shows the feed present and its voltage in units of 0.2 V. RESET_RELEASE ends the reset,
wakes islands 0 to 7 and enters phase 1 where both comparators of the supervisor pair pass, and refuses with 0x0C
where one fails. KEY_HEADER_READ with a sound header and selection enters phase 2 and shows the banks the selected
copy names; without a key it refuses with 0x01, with a bad header with 0x02, with no valid copy with 0x03. A bank is
valid where its header is in order, its signature verifies and the SHA-384 of its payload is the header's.
FIRMWARE_VERIFIED starts the selected bank where its tag is the record's and it is valid, else the other, where that
is valid, with a fallback record, else refuses with 0x04. BASE_IDENT_READ accepts the fingerprint that is the SHA-384
of the key's OWNER_KEY and in a Z9B-P starts heartbeats and HEALTHY; it refuses with 0x06 where the fingerprint is
blank or another's, with 0x07 an unreadable memory, with 0x0B straps out of order. Where a clause rests on a choice of
the model, the choice is in log entries 46, 71, 99. It says of each of these commands, under hypotheses on the state
and the operands alone, that exec answers a next state with its effect: powerGood, resetRelease, keyHeaderRead,
firmwareVerified, baseIdentRead. -/
def Obligations.PowerUpAndFirmware : Prop :=
  (∀ (f : Feed) (volts : Nat) (s : State),
    s.beforeBoot = true →
    Completes (.powerGood f volts) s [.regs, .pw] [.RST_POWER] fun t =>
      t.flag (feedFlag f) = true ∧ t.fld (feedVolts f) = min 255 (volts / 200) ∧
      ∀ g, g ≠ f → t.flag (feedFlag g) = s.flag (feedFlag g) ∧ t.fld (feedVolts g) = s.fld (feedVolts g)) ∧
  (∀ (f : Feed) (volts : Nat) (s : State),
    s.beforeBoot = false →
    exec (.powerGood f volts) s = .next s) ∧
  (∀ s : State,
    s.beforeBoot = true → (s.flag Fld.RST_POWER_FEED_A || s.flag Fld.RST_POWER_FEED_B) = true →
    Completes (.resetRelease true true) s [.regs, .levels, .pw] [.SUP_START, .SUP_ISLAND, .LK_PAIR] fun t =>
      t.phase = 1 ∧ t.pw.inReset = none ∧ t.flag Fld.LK_PAIR_CMP_X_OK 4 = true ∧
      t.flag Fld.LK_PAIR_CMP_Y_OK 4 = true ∧ ∀ i, i < 8 → t.flag Fld.SUP_ISLAND_ALIVE i = true) ∧
  (∀ (x y : Bool) (s : State),
    s.beforeBoot = true → (s.flag Fld.RST_POWER_FEED_A || s.flag Fld.RST_POWER_FEED_B) = true → (x && y) = false →
    Completes (.resetRelease x y) s [.regs, .levels, .boot, .sn, .pw, .bn, .up] [.SUP_START, .SUP_ISLAND,
      .UP_STATUS, .LK_PAIR, .BN_STATUS, .BN_LOOP] fun t =>
      t.fld Fld.SUP_START_REFUSAL = 0x0C ∧ t.phase = 0xF ∧ t.role = 6) ∧
  (∀ (x y : Bool) (s : State),
    (s.beforeBoot && (s.flag Fld.RST_POWER_FEED_A || s.flag Fld.RST_POWER_FEED_B)) = false →
    exec (.resetRelease x y) s = .next s) ∧
  (∀ (c : Nat) (s : State),
    s.phase = 1 → s.starting = true → s.flag Fld.PK_STATUS_PRESENT = false → s.key.inSocket = true →
    headerOk s.keyHdr = true → s.selPick = some c → bits (s.sel c) 75 74 = 0 → c < 2 →
    Completes .keyHeaderRead s [.regs, .levels, .boot, .key, .sn, .pw, .bn, .up] [.SUP_START, .SUP_ISLAND,
      .PK_STATUS, .PK_SEQ, .PK_SERIAL_LO, .PK_SERIAL_HI, .UP_STATUS, .UP_PROGRESS, .UP_TRIAL, .BN_STATUS,
      .BN_LOOP] fun t =>
      t.phase = 2 ∧ t.flag Fld.PK_STATUS_PRESENT = true ∧ t.flag Fld.PK_STATUS_HEADER_OK = true ∧
      t.flag Fld.PK_STATUS_SERIAL_OK = true ∧ t.fld Fld.PK_STATUS_SEL_COPY = c ∧
      t.fld Fld.SUP_START_FW_BANK = bits (s.sel c) 73 73 ∧ t.fld Fld.SUP_START_CFG_BANK = bits (s.sel c) 72 72) ∧
  (∀ s : State,
    s.phase = 1 → s.starting = true → s.role = 0 → s.flag Fld.PK_STATUS_PRESENT = false →
    (s.key.inSocket = false → Completes .keyHeaderRead s [.regs, .levels, .boot, .sn, .pw, .bn, .up] [.SUP_START, .SUP_ISLAND, .PK_STATUS, .PK_SEQ, .PK_SERIAL_LO, .PK_SERIAL_HI, .UP_STATUS, .UP_PROGRESS, .UP_TRIAL, .BN_STATUS, .BN_LOOP] fun t => t.fld Fld.SUP_START_REFUSAL = 0x01 ∧ t.sn = s.sn) ∧
    (s.key.inSocket = true → headerOk s.keyHdr = false → Completes .keyHeaderRead s [.regs, .levels, .boot, .sn, .pw, .bn, .up] [.SUP_START, .SUP_ISLAND, .PK_STATUS, .PK_SEQ, .PK_SERIAL_LO, .PK_SERIAL_HI, .UP_STATUS, .UP_PROGRESS, .UP_TRIAL, .BN_STATUS, .BN_LOOP] fun t => t.fld Fld.SUP_START_REFUSAL = 0x02 ∧ t.sn = s.sn) ∧
    (s.key.inSocket = true → headerOk s.keyHdr = true → s.selPick = none → Completes .keyHeaderRead s [.regs, .levels, .boot, .sn, .pw, .bn, .up] [.SUP_START, .SUP_ISLAND, .PK_STATUS, .PK_SEQ, .PK_SERIAL_LO, .PK_SERIAL_HI, .UP_STATUS, .UP_PROGRESS, .UP_TRIAL, .BN_STATUS, .BN_LOOP] fun t => t.fld Fld.SUP_START_REFUSAL = 0x03 ∧ t.phase = 0xE ∧ t.sn = s.sn)) ∧
  (∀ (b : Nat) (s : State),
    s.phase = 2 → s.starting = true → s.role = 0 → b = s.fld Fld.SUP_START_FW_BANK →
    Completes .firmwareVerified s [.regs, .levels, .boot, .key, .sn, .pw, .bn, .up] [.SUP_START, .SUP_ISLAND,
      .PK_STATUS, .PK_SEQ, .UP_STATUS, .UP_PROGRESS, .UP_TRIAL, .BN_STATUS, .BN_LOOP] fun t =>
      (hdrTag (s.bankHdr 1 b) = BitVec.ofNat 64 (bits s.selCur 255 192) ∧ s.bankValid 1 b = true → t.phase = 3 ∧ t.boot.fwRunning = true ∧ t.boot.fwTag = hdrTag (s.bankHdr 1 b) ∧ t.fld Fld.SUP_START_FW_BANK = b ∧ t.flag Fld.SUP_START_FW_FALLBACK = s.flag Fld.SUP_START_FW_FALLBACK ∧ t.pw.wdogRun = true ∧ t.key = s.key ∧ t.sn = s.sn) ∧
      (¬(hdrTag (s.bankHdr 1 b) = BitVec.ofNat 64 (bits s.selCur 255 192) ∧ s.bankValid 1 b = true) → s.bankValid 1 (1 - b) = true → t.phase = 3 ∧ t.boot.fwRunning = true ∧ t.boot.fwTag = hdrTag (s.bankHdr 1 (1 - b)) ∧ t.fld Fld.SUP_START_FW_BANK = 1 - b ∧ t.flag Fld.SUP_START_FW_FALLBACK = true ∧ Records ((if hdrTag (s.bankHdr 1 b) = BitVec.ofNat 64 (bits s.selCur 255 192) then [] else [0x1005]) ++ [0x1003]) s t) ∧
      (¬(hdrTag (s.bankHdr 1 b) = BitVec.ofNat 64 (bits s.selCur 255 192) ∧ s.bankValid 1 b = true) → s.bankValid 1 (1 - b) = false → t.fld Fld.SUP_START_REFUSAL = 0x04 ∧ t.phase = 0xE ∧ t.boot.fwRunning = s.boot.fwRunning ∧ t.key = s.key ∧ Records ((if hdrTag (s.bankHdr 1 b) = BitVec.ofNat 64 (bits s.selCur 255 192) then [] else [0x1005]) ++ [0x1001]) s t)) ∧
  (∀ (kind b : Nat) (s : State),
    s.bankValid kind b = (bankFormed kind (s.bankHdr kind b) && s.sigOk kind b && (sha384 (s.keyBytes (State.bankAddr kind b + 256) (bits (s.bankHdr kind b) 95 64)) == hdrHash (s.bankHdr kind b)))) ∧
  (∀ (m : BaseMem) (s : State),
    s.phase = 3 → s.starting = true → s.role = 0 → s.boot.baseRead = false → m.readable = true → m.crcOk = true →
    strapsOk m = true →
    Completes (.baseIdentRead (some m)) s [.regs, .latchHi, .holdLo, .levels, .img, .boot, .base, .key, .sn, .mt,
      .pw, .ln, .le, .la, .bn, .io, .gy, .sx, .pn, .cn, .mb, .lk, .ac, .up, .isl, .pi, .subc, .blk, .mem,
      .forces] [.SUP_START, .SUP_ISLAND, .RST_CAUSE, .RST_CTL, .RST_WDOG, .RST_POWER, .RST_EV_PEND, .RST_EV_ROUTE,
      .RST_EV_SUM, .AC_CTL, .AC_SLOT, .AC_FAULT, .AC_FAULT_ADDR_LO, .AC_FAULT_ADDR_HI, .AC_ECC, .AC_SCRUB,
      .PK_STATUS, .PK_SEQ, .PK_SERIAL_LO, .PK_SERIAL_HI, .UP_STATUS, .UP_PROGRESS, .UP_TRIAL, .SN_STATUS,
      .SN_NEWEST_LO, .SN_NEWEST_HI, .SN_OLDEST_LO, .SN_OLDEST_HI, .SN_LOST, .SN_SUPPRESSED, .SN_CURSOR_LO,
      .SN_CURSOR_HI, .SN_WSTAT, .MB_STAT, .MB_DOOR, .MB_ACK, .LK_PAIR, .LK_FAULT, .LK_COUNT, .LK_MISS_LO,
      .LK_MISS_HI, .LK_CMD, .LK_CMD_RESULT, .MT_FRC_LO, .MT_FRC_HI, .MT_PT_LO, .MT_PT_HI, .MT_BT_LO, .MT_BT_HI,
      .MT_TB_LO, .MT_TB_HI, .MT_LATCH_FRC_LO, .MT_LATCH_FRC_HI, .MT_LATCH_PT_LO, .MT_LATCH_PT_HI, .MT_LATCH_BT_LO,
      .MT_LATCH_BT_HI, .MT_LATCH_TB_LO, .MT_LATCH_TB_HI, .MT_STATE, .MT_CTL, .MT_OFFSET, .MT_ERR_EST, .MT_OUTLIERS,
      .MT_PT_SRC, .MT_TB_CFG, .LN_STATUS, .LN_OVERRUN, .LN_DISCARD, .LN_SUB, .LE_CTL, .LE_CMD, .LE_CMD_VAL,
      .LE_CMD_RESULT, .LE_OVERRUN, .LE_FAULT, .LE_LOAD, .LE_FDELAY, .LA_STATUS, .LA_SEL, .LA_LOOP, .LA_SLOT,
      .LA_SURGE, .LA_COUNT, .GY_STATUS, .GY_CH, .GY_COND_LO, .GY_COND_HI, .GY_SET, .GY_CAP, .GY_CMD, .GY_LOST,
      .BN_STATUS, .BN_LOOP, .BN_EPOCH, .BN_HEALTH, .BN_EQ, .BN_VERIFY, .BN_TAKEOVER, .BN_CMD, .BN_HO_AT_LO,
      .BN_HO_AT_HI, .BN_CMD_RESULT, .PN_PORT, .PN_DROP, .PN_PTP, .PN_SEL, .PN_SSTAT, .PN_SVC, .CN_CFG, .CN_CTL,
      .CN_STAT, .CN_ERR, .CN_PROT, .CN_TIMING, .CN_OBJCMD, .CN_OBJRES, .SX_PORT, .SX_LAP, .SX_ERR, .SX_CAR,
      .SX_EPOCH, .UC_CFG, .UC_STAT, .UC_DIAG, .UC_SLICE, .UC_HART, .DC_CFG, .DC_STAT, .DC_DIAG, .DC_GROUP] fun t =>
      t.base = m ∧ t.flag Fld.BN_STATUS_PAIR = (m.strapKind == 2) ∧
      t.flag Fld.BN_STATUS_POS = (m.strapKind == 2 && m.posB) ∧
      ((if m.strapKind == 2 && m.posB then m.fpB else m.fpA) ≠ 0 ∧ (if m.strapKind == 2 && m.posB then m.fpB else m.fpA) = sha384 (bytesOf s.ownerKey 96) → t.boot.baseRead = true ∧ t.phase = 3 ∧ t.sn = s.sn ∧ t.key = s.key ∧ (m.strapKind = 2 → t.bn.hbRun = true ∧ t.bn.healthyOut = true)) ∧
      (¬((if m.strapKind == 2 && m.posB then m.fpB else m.fpA) ≠ 0 ∧ (if m.strapKind == 2 && m.posB then m.fpB else m.fpA) = sha384 (bytesOf s.ownerKey 96)) → s.onTrial = false → t.fld Fld.SUP_START_REFUSAL = 0x06 ∧ t.phase = 0xF ∧ t.role = 7 ∧ Records [0x1001] s t)) ∧
  (∀ (m : BaseMem) (s : State),
    s.phase = 3 → s.starting = true → s.role = 0 → s.boot.baseRead = false → s.onTrial = false →
    (m.readable && m.crcOk) = false →
    Completes (.baseIdentRead (some m)) s [.regs, .latchHi, .holdLo, .levels, .img, .boot, .base, .sn, .mt, .pw,
      .ln, .le, .la, .bn, .io, .gy, .sx, .pn, .cn, .mb, .lk, .ac, .up, .isl, .pi, .subc, .blk, .mem,
      .forces] [.SUP_START, .SUP_ISLAND, .RST_CAUSE, .RST_CTL, .RST_WDOG, .RST_POWER, .RST_EV_PEND, .RST_EV_ROUTE,
      .RST_EV_SUM, .AC_CTL, .AC_SLOT, .AC_FAULT, .AC_FAULT_ADDR_LO, .AC_FAULT_ADDR_HI, .AC_ECC, .AC_SCRUB,
      .PK_STATUS, .PK_SEQ, .PK_SERIAL_LO, .PK_SERIAL_HI, .UP_STATUS, .UP_PROGRESS, .UP_TRIAL, .SN_STATUS,
      .SN_NEWEST_LO, .SN_NEWEST_HI, .SN_OLDEST_LO, .SN_OLDEST_HI, .SN_LOST, .SN_SUPPRESSED, .SN_CURSOR_LO,
      .SN_CURSOR_HI, .SN_WSTAT, .MB_STAT, .MB_DOOR, .MB_ACK, .LK_PAIR, .LK_FAULT, .LK_COUNT, .LK_MISS_LO,
      .LK_MISS_HI, .LK_CMD, .LK_CMD_RESULT, .MT_FRC_LO, .MT_FRC_HI, .MT_PT_LO, .MT_PT_HI, .MT_BT_LO, .MT_BT_HI,
      .MT_TB_LO, .MT_TB_HI, .MT_LATCH_FRC_LO, .MT_LATCH_FRC_HI, .MT_LATCH_PT_LO, .MT_LATCH_PT_HI, .MT_LATCH_BT_LO,
      .MT_LATCH_BT_HI, .MT_LATCH_TB_LO, .MT_LATCH_TB_HI, .MT_STATE, .MT_CTL, .MT_OFFSET, .MT_ERR_EST, .MT_OUTLIERS,
      .MT_PT_SRC, .MT_TB_CFG, .LN_STATUS, .LN_OVERRUN, .LN_DISCARD, .LN_SUB, .LE_CTL, .LE_CMD, .LE_CMD_VAL,
      .LE_CMD_RESULT, .LE_OVERRUN, .LE_FAULT, .LE_LOAD, .LE_FDELAY, .LA_STATUS, .LA_SEL, .LA_LOOP, .LA_SLOT,
      .LA_SURGE, .LA_COUNT, .GY_STATUS, .GY_CH, .GY_COND_LO, .GY_COND_HI, .GY_SET, .GY_CAP, .GY_CMD, .GY_LOST,
      .BN_STATUS, .BN_LOOP, .BN_EPOCH, .BN_HEALTH, .BN_EQ, .BN_VERIFY, .BN_TAKEOVER, .BN_CMD, .BN_HO_AT_LO,
      .BN_HO_AT_HI, .BN_CMD_RESULT, .PN_PORT, .PN_DROP, .PN_PTP, .PN_SEL, .PN_SSTAT, .PN_SVC, .CN_CFG, .CN_CTL,
      .CN_STAT, .CN_ERR, .CN_PROT, .CN_TIMING, .CN_OBJCMD, .CN_OBJRES, .SX_PORT, .SX_LAP, .SX_ERR, .SX_CAR,
      .SX_EPOCH, .UC_CFG, .UC_STAT, .UC_DIAG, .UC_SLICE, .UC_HART, .DC_CFG, .DC_STAT, .DC_DIAG, .DC_GROUP] fun t =>
      t.fld Fld.SUP_START_REFUSAL = 0x07 ∧ t.phase = 0xF ∧ Records [0x1001] s t) ∧
  (∀ (m : BaseMem) (s : State),
    s.phase = 3 → s.starting = true → s.role = 0 → s.boot.baseRead = false → s.onTrial = false → m.readable = true →
    m.crcOk = true → strapsOk m = false →
    Completes (.baseIdentRead (some m)) s [.regs, .latchHi, .holdLo, .levels, .img, .boot, .base, .sn, .mt, .pw,
      .ln, .le, .la, .bn, .io, .gy, .sx, .pn, .cn, .mb, .lk, .ac, .up, .isl, .pi, .subc, .blk, .mem,
      .forces] [.SUP_START, .SUP_ISLAND, .RST_CAUSE, .RST_CTL, .RST_WDOG, .RST_POWER, .RST_EV_PEND, .RST_EV_ROUTE,
      .RST_EV_SUM, .AC_CTL, .AC_SLOT, .AC_FAULT, .AC_FAULT_ADDR_LO, .AC_FAULT_ADDR_HI, .AC_ECC, .AC_SCRUB,
      .PK_STATUS, .PK_SEQ, .PK_SERIAL_LO, .PK_SERIAL_HI, .UP_STATUS, .UP_PROGRESS, .UP_TRIAL, .SN_STATUS,
      .SN_NEWEST_LO, .SN_NEWEST_HI, .SN_OLDEST_LO, .SN_OLDEST_HI, .SN_LOST, .SN_SUPPRESSED, .SN_CURSOR_LO,
      .SN_CURSOR_HI, .SN_WSTAT, .MB_STAT, .MB_DOOR, .MB_ACK, .LK_PAIR, .LK_FAULT, .LK_COUNT, .LK_MISS_LO,
      .LK_MISS_HI, .LK_CMD, .LK_CMD_RESULT, .MT_FRC_LO, .MT_FRC_HI, .MT_PT_LO, .MT_PT_HI, .MT_BT_LO, .MT_BT_HI,
      .MT_TB_LO, .MT_TB_HI, .MT_LATCH_FRC_LO, .MT_LATCH_FRC_HI, .MT_LATCH_PT_LO, .MT_LATCH_PT_HI, .MT_LATCH_BT_LO,
      .MT_LATCH_BT_HI, .MT_LATCH_TB_LO, .MT_LATCH_TB_HI, .MT_STATE, .MT_CTL, .MT_OFFSET, .MT_ERR_EST, .MT_OUTLIERS,
      .MT_PT_SRC, .MT_TB_CFG, .LN_STATUS, .LN_OVERRUN, .LN_DISCARD, .LN_SUB, .LE_CTL, .LE_CMD, .LE_CMD_VAL,
      .LE_CMD_RESULT, .LE_OVERRUN, .LE_FAULT, .LE_LOAD, .LE_FDELAY, .LA_STATUS, .LA_SEL, .LA_LOOP, .LA_SLOT,
      .LA_SURGE, .LA_COUNT, .GY_STATUS, .GY_CH, .GY_COND_LO, .GY_COND_HI, .GY_SET, .GY_CAP, .GY_CMD, .GY_LOST,
      .BN_STATUS, .BN_LOOP, .BN_EPOCH, .BN_HEALTH, .BN_EQ, .BN_VERIFY, .BN_TAKEOVER, .BN_CMD, .BN_HO_AT_LO,
      .BN_HO_AT_HI, .BN_CMD_RESULT, .PN_PORT, .PN_DROP, .PN_PTP, .PN_SEL, .PN_SSTAT, .PN_SVC, .CN_CFG, .CN_CTL,
      .CN_STAT, .CN_ERR, .CN_PROT, .CN_TIMING, .CN_OBJCMD, .CN_OBJRES, .SX_PORT, .SX_LAP, .SX_ERR, .SX_CAR,
      .SX_EPOCH, .UC_CFG, .UC_STAT, .UC_DIAG, .UC_SLICE, .UC_HART, .DC_CFG, .DC_STAT, .DC_DIAG, .DC_GROUP] fun t =>
      t.fld Fld.SUP_START_REFUSAL = 0x0B ∧ t.phase = 0xF ∧ Records [0x1001] s t)

/-- CONFIG_BANK_LOADED with a valid bank of the record's tag enters phase 4, else refuses with 0x05. SELF_TEST_DONE
shows each comparator and the loop-engine lanes, and refuses with 0x0C where a part failed. PLANT_IMAGE_DECODED, once
the self-test has passed, installs an image that nothing refuses and enters phase 5, else refuses with the code of the
first condition. SHELLS_LOADED starts the ten shells and enters phase 6. TIME_ACQUIRED from gPTP, with four Sync
offsets that agree, sets PT and BT to the domain's time in LOCKED; ACQUISITION_TIMEOUT, once the limit is over with no
partner running and no gPTP offsets that agree, sets them to the later of the last anchor and the image's build time
in state 4 with COORD_DEGRADED. ROLE_DECISION makes a Z9B-S active at once. FIRST_COMMIT, at the first standard
boundary 1 ms after the role or later, starts launching and writes record 0x1008. Where a clause rests on a choice of
the model, the choice is in log entries 34, 35, 43, 45, 46, 47, 48. It says of each of these commands, under
hypotheses on the state and the operands alone, that exec answers a next state with its effect: configBankLoaded,
selfTestDone, plantImageDecoded, shellsLoaded, timeAcquired, acquisitionTimeout, roleDecision, firstCommit. -/
def Obligations.StartUpToFirstCommit : Prop :=
  (∀ (b : Nat) (s : State),
    s.phase = 3 → s.starting = true → s.boot.baseRead = true → b = s.fld Fld.SUP_START_CFG_BANK →
    Completes .configBankLoaded s [.regs, .latchHi, .holdLo, .levels, .img, .boot, .key, .sn, .mt, .pw, .ln, .le,
      .la, .bn, .io, .gy, .sx, .pn, .cn, .mb, .lk, .ac, .up, .isl, .pi, .subc, .blk, .mem, .forces] [.SUP_START,
      .SUP_ISLAND, .RST_CAUSE, .RST_CTL, .RST_WDOG, .RST_POWER, .RST_EV_PEND, .RST_EV_ROUTE, .RST_EV_SUM, .AC_CTL,
      .AC_SLOT, .AC_FAULT, .AC_FAULT_ADDR_LO, .AC_FAULT_ADDR_HI, .AC_ECC, .AC_SCRUB, .PK_STATUS, .PK_SEQ,
      .PK_SERIAL_LO, .PK_SERIAL_HI, .UP_STATUS, .UP_PROGRESS, .UP_TRIAL, .SN_STATUS, .SN_NEWEST_LO, .SN_NEWEST_HI,
      .SN_OLDEST_LO, .SN_OLDEST_HI, .SN_LOST, .SN_SUPPRESSED, .SN_CURSOR_LO, .SN_CURSOR_HI, .SN_WSTAT, .MB_STAT,
      .MB_DOOR, .MB_ACK, .LK_PAIR, .LK_FAULT, .LK_COUNT, .LK_MISS_LO, .LK_MISS_HI, .LK_CMD, .LK_CMD_RESULT,
      .MT_FRC_LO, .MT_FRC_HI, .MT_PT_LO, .MT_PT_HI, .MT_BT_LO, .MT_BT_HI, .MT_TB_LO, .MT_TB_HI, .MT_LATCH_FRC_LO,
      .MT_LATCH_FRC_HI, .MT_LATCH_PT_LO, .MT_LATCH_PT_HI, .MT_LATCH_BT_LO, .MT_LATCH_BT_HI, .MT_LATCH_TB_LO,
      .MT_LATCH_TB_HI, .MT_STATE, .MT_CTL, .MT_OFFSET, .MT_ERR_EST, .MT_OUTLIERS, .MT_PT_SRC, .MT_TB_CFG,
      .LN_STATUS, .LN_OVERRUN, .LN_DISCARD, .LN_SUB, .LE_CTL, .LE_CMD, .LE_CMD_VAL, .LE_CMD_RESULT, .LE_OVERRUN,
      .LE_FAULT, .LE_LOAD, .LE_FDELAY, .LA_STATUS, .LA_SEL, .LA_LOOP, .LA_SLOT, .LA_SURGE, .LA_COUNT, .GY_STATUS,
      .GY_CH, .GY_COND_LO, .GY_COND_HI, .GY_SET, .GY_CAP, .GY_CMD, .GY_LOST, .BN_STATUS, .BN_LOOP, .BN_EPOCH,
      .BN_HEALTH, .BN_EQ, .BN_VERIFY, .BN_TAKEOVER, .BN_CMD, .BN_HO_AT_LO, .BN_HO_AT_HI, .BN_CMD_RESULT, .PN_PORT,
      .PN_DROP, .PN_PTP, .PN_SEL, .PN_SSTAT, .PN_SVC, .CN_CFG, .CN_CTL, .CN_STAT, .CN_ERR, .CN_PROT, .CN_TIMING,
      .CN_OBJCMD, .CN_OBJRES, .SX_PORT, .SX_LAP, .SX_ERR, .SX_CAR, .SX_EPOCH, .UC_CFG, .UC_STAT, .UC_DIAG,
      .UC_SLICE, .UC_HART, .DC_CFG, .DC_STAT, .DC_DIAG, .DC_GROUP] fun t =>
      (hdrTag (s.bankHdr 0 b) = BitVec.ofNat 64 (bits s.selCur 191 128) ∧ s.bankValid 0 b = true → t.phase = 4 ∧ t.boot.payHash = hdrHash (s.bankHdr 0 b) ∧ t.key = s.key ∧ t.sn = s.sn) ∧
      (¬(hdrTag (s.bankHdr 0 b) = BitVec.ofNat 64 (bits s.selCur 191 128) ∧ s.bankValid 0 b = true) → s.onTrial = false → t.fld Fld.SUP_START_REFUSAL = 0x05 ∧ t.phase = 0xF ∧ t.role = 7 ∧ t.key = s.key)) ∧
  (∀ (m : SelfTest) (s : State),
    s.starting = true → s.boot.fwRunning = true → s.boot.committed = false →
    Completes (.selfTestDone m) s [.regs, .levels, .boot, .sn, .pw, .bn, .up] [.SUP_START, .SUP_ISLAND, .UP_STATUS,
      .LK_PAIR, .LE_CTL, .BN_STATUS, .BN_LOOP] fun t =>
      t.fld Fld.LE_CTL_LANE_EN = m.lanes.toNat ∧
      (∀ i, i < 5 → t.flag Fld.LK_PAIR_CMP_X_OK i = bitAt m.cmpX i ∧ t.flag Fld.LK_PAIR_CMP_Y_OK i = bitAt m.cmpY i) ∧
      t.fld Fld.SUP_START_REFUSAL = (if selfPassed m then 0 else 0x0C)) ∧
  (∀ (g : PlantImage) (s : State),
    s.phase = 4 → s.starting = true → s.boot.selfTested = true → s.imageRefusal g = 0 →
    Completes (.plantImageDecoded g) s [.regs, .latchHi, .holdLo, .levels, .img, .boot, .key, .sn, .mt, .pw, .ln,
      .le, .la, .bn, .io, .gy, .sx, .pn, .cn, .mb, .lk, .ac, .up, .isl, .pi, .subc, .blk, .mem, .forces,
      .fuse] [.SUP_START, .SUP_ISLAND, .RST_CAUSE, .RST_CTL, .RST_WDOG, .RST_POWER, .RST_EV_PEND, .RST_EV_ROUTE,
      .RST_EV_SUM, .AC_CTL, .AC_SLOT, .AC_FAULT, .AC_FAULT_ADDR_LO, .AC_FAULT_ADDR_HI, .AC_ECC, .AC_SCRUB,
      .PK_STATUS, .PK_SEQ, .PK_SERIAL_LO, .PK_SERIAL_HI, .UP_STATUS, .UP_PROGRESS, .UP_TRIAL, .SN_STATUS,
      .SN_NEWEST_LO, .SN_NEWEST_HI, .SN_OLDEST_LO, .SN_OLDEST_HI, .SN_LOST, .SN_SUPPRESSED, .SN_CURSOR_LO,
      .SN_CURSOR_HI, .SN_WSTAT, .MB_STAT, .MB_DOOR, .MB_ACK, .LK_PAIR, .LK_FAULT, .LK_COUNT, .LK_MISS_LO,
      .LK_MISS_HI, .LK_CMD, .LK_CMD_RESULT, .MT_FRC_LO, .MT_FRC_HI, .MT_PT_LO, .MT_PT_HI, .MT_BT_LO, .MT_BT_HI,
      .MT_TB_LO, .MT_TB_HI, .MT_LATCH_FRC_LO, .MT_LATCH_FRC_HI, .MT_LATCH_PT_LO, .MT_LATCH_PT_HI, .MT_LATCH_BT_LO,
      .MT_LATCH_BT_HI, .MT_LATCH_TB_LO, .MT_LATCH_TB_HI, .MT_STATE, .MT_CTL, .MT_OFFSET, .MT_ERR_EST, .MT_OUTLIERS,
      .MT_PT_SRC, .MT_TB_CFG, .LN_STATUS, .LN_OVERRUN, .LN_DISCARD, .LN_SUB, .LE_CTL, .LE_CMD, .LE_CMD_VAL,
      .LE_CMD_RESULT, .LE_OVERRUN, .LE_FAULT, .LE_LOAD, .LE_FDELAY, .LA_STATUS, .LA_SEL, .LA_LOOP, .LA_SLOT,
      .LA_SURGE, .LA_COUNT, .GY_STATUS, .GY_CH, .GY_COND_LO, .GY_COND_HI, .GY_SET, .GY_CAP, .GY_CMD, .GY_LOST,
      .BN_STATUS, .BN_LOOP, .BN_EPOCH, .BN_HEALTH, .BN_EQ, .BN_VERIFY, .BN_TAKEOVER, .BN_CMD, .BN_HO_AT_LO,
      .BN_HO_AT_HI, .BN_CMD_RESULT, .PN_PORT, .PN_DROP, .PN_PTP, .PN_SEL, .PN_SSTAT, .PN_SVC, .CN_CFG, .CN_CTL,
      .CN_STAT, .CN_ERR, .CN_PROT, .CN_TIMING, .CN_OBJCMD, .CN_OBJRES, .SX_PORT, .SX_LAP, .SX_ERR, .SX_CAR,
      .SX_EPOCH, .UC_CFG, .UC_STAT, .UC_DIAG, .UC_SLICE, .UC_HART, .DC_CFG, .DC_STAT, .DC_DIAG, .DC_GROUP] fun t =>
      t.phase = 5 ∧ t.img = g ∧ t.boot.imgLoaded = true ∧ t.flag Fld.AC_CTL_LOCK = true ∧
      (g.declSeal = true → t.pw.fuseSealed = true)) ∧
  (∀ (g : PlantImage) (s : State),
    s.phase = 4 → s.starting = true → s.role = 0 → s.boot.selfTested = true → s.imageRefusal g ≠ 0 →
    s.onTrial = false →
    Completes (.plantImageDecoded g) s [.regs, .latchHi, .holdLo, .levels, .boot, .sn, .mt, .pw, .ln, .le, .la,
      .bn, .io, .gy, .sx, .pn, .cn, .mb, .lk, .ac, .up, .isl, .subc, .blk, .forces] [.SUP_START, .SUP_ISLAND,
      .RST_CAUSE, .RST_CTL, .RST_WDOG, .RST_POWER, .RST_EV_PEND, .RST_EV_ROUTE, .RST_EV_SUM, .AC_CTL, .AC_SLOT,
      .AC_FAULT, .AC_FAULT_ADDR_LO, .AC_FAULT_ADDR_HI, .AC_ECC, .AC_SCRUB, .PK_STATUS, .PK_SEQ, .PK_SERIAL_LO,
      .PK_SERIAL_HI, .UP_STATUS, .UP_PROGRESS, .UP_TRIAL, .SN_STATUS, .SN_NEWEST_LO, .SN_NEWEST_HI, .SN_OLDEST_LO,
      .SN_OLDEST_HI, .SN_LOST, .SN_SUPPRESSED, .SN_CURSOR_LO, .SN_CURSOR_HI, .SN_WSTAT, .MB_STAT, .MB_DOOR,
      .MB_ACK, .LK_PAIR, .LK_FAULT, .LK_COUNT, .LK_MISS_LO, .LK_MISS_HI, .LK_CMD, .LK_CMD_RESULT, .MT_FRC_LO,
      .MT_FRC_HI, .MT_PT_LO, .MT_PT_HI, .MT_BT_LO, .MT_BT_HI, .MT_TB_LO, .MT_TB_HI, .MT_LATCH_FRC_LO,
      .MT_LATCH_FRC_HI, .MT_LATCH_PT_LO, .MT_LATCH_PT_HI, .MT_LATCH_BT_LO, .MT_LATCH_BT_HI, .MT_LATCH_TB_LO,
      .MT_LATCH_TB_HI, .MT_STATE, .MT_CTL, .MT_OFFSET, .MT_ERR_EST, .MT_OUTLIERS, .MT_PT_SRC, .MT_TB_CFG,
      .LN_STATUS, .LN_OVERRUN, .LN_DISCARD, .LN_SUB, .LE_CTL, .LE_CMD, .LE_CMD_VAL, .LE_CMD_RESULT, .LE_OVERRUN,
      .LE_FAULT, .LE_LOAD, .LE_FDELAY, .LA_STATUS, .LA_SEL, .LA_LOOP, .LA_SLOT, .LA_SURGE, .LA_COUNT, .GY_STATUS,
      .GY_CH, .GY_COND_LO, .GY_COND_HI, .GY_SET, .GY_CAP, .GY_CMD, .GY_LOST, .BN_STATUS, .BN_LOOP, .BN_EPOCH,
      .BN_HEALTH, .BN_EQ, .BN_VERIFY, .BN_TAKEOVER, .BN_CMD, .BN_HO_AT_LO, .BN_HO_AT_HI, .BN_CMD_RESULT, .PN_PORT,
      .PN_DROP, .PN_PTP, .PN_SEL, .PN_SSTAT, .PN_SVC, .CN_CFG, .CN_CTL, .CN_STAT, .CN_ERR, .CN_PROT, .CN_TIMING,
      .CN_OBJCMD, .CN_OBJRES, .SX_PORT, .SX_LAP, .SX_ERR, .SX_CAR, .SX_EPOCH, .UC_CFG, .UC_STAT, .UC_DIAG,
      .UC_SLICE, .UC_HART, .DC_CFG, .DC_STAT, .DC_DIAG, .DC_GROUP] fun t =>
      t.fld Fld.SUP_START_REFUSAL = s.imageRefusal g ∧ t.phase = 0xF ∧ t.img = s.img ∧ Records [0x1001] s t) ∧
  (∀ s : State,
    s.phase = 5 → s.starting = true →
    Completes .shellsLoaded s [.out, .free, .regs, .levels, .sn, .io, .cn] [.SUP_START, .SUP_ISLAND, .GY_CH,
      .GY_SET, .CN_CFG, .CN_TIMING, .SX_PORT, .SX_LAP, .SX_CAR, .UC_CFG, .UC_STAT, .UC_DIAG, .UC_SLICE, .DC_CFG,
      .DC_STAT, .DC_DIAG, .DC_GROUP] fun t =>
      t.phase = 6 ∧ ∀ k, k < 10 → t.flag Fld.SUP_ISLAND_ALIVE (8 + k) = true) ∧
  (∀ (e : Int) (now : Instant) (s : State),
    s.phase = 6 → s.starting = true → s.mt.ptSet = false → s.fld Fld.RST_CAUSE_CAUSE ≠ 5 → s.gptpOffset = some e →
    now = s.pt - BitVec.ofInt 64 e →
    Completes (.timeAcquired .gptp) s [.free, .regs, .levels, .boot, .sn, .mt, .pw, .bn, .up] [.SUP_START,
      .SUP_ISLAND, .RST_CAUSE, .UP_STATUS, .MT_STATE, .MT_ERR_EST, .BN_STATUS, .BN_LOOP] fun t =>
      t.phase = 7 ∧ t.mt.ptSet = true ∧ t.mt.btSet = true ∧ t.pt = now ∧ t.bt = now ∧ t.fld Fld.MT_STATE_STATE = 1 ∧
      t.fld Fld.MT_STATE_SOURCE = 1 ∧ t.flag Fld.MT_STATE_COORD_DEGRADED = false) ∧
  (∀ (now : Instant) (s : State),
    s.phase = 6 → s.starting = true → s.mt.ptSet = false → s.acqOver = true → s.partnerRuns = false →
    s.gptpOffset = none → s.fld Fld.RST_CAUSE_CAUSE ≠ 5 →
    now = (match s.lastAnchor with | some a => Instant.later a (BitVec.ofNat 64 (bits (s.bankHdr 0 (s.fld Fld.SUP_START_CFG_BANK)) 191 128)) | none => BitVec.ofNat 64 (bits (s.bankHdr 0 (s.fld Fld.SUP_START_CFG_BANK)) 191 128)) →
    Completes .acquisitionTimeout s [.regs, .levels, .boot, .sn, .mt, .pw, .bn, .up] [.SUP_START, .SUP_ISLAND,
      .RST_CAUSE, .UP_STATUS, .MT_STATE, .BN_STATUS, .BN_LOOP] fun t =>
      t.phase = 7 ∧ t.mt.ptSet = true ∧ t.pt = now ∧ t.bt = now ∧ t.fld Fld.MT_STATE_STATE = 4 ∧
      t.fld Fld.MT_STATE_SOURCE = 5 ∧ t.flag Fld.MT_STATE_COORD_DEGRADED = true) ∧
  (∀ (h : BitVec 384) (w : W64) (u : Option (BitVec 384)) (s : State),
    s.phase = 7 → s.starting = true → s.mt.ptSet = true → s.flag Fld.RST_POWER_HOLDUP = false → s.pair = false →
    s.role ≠ 1 → s.boot.roleTaken = false → s.unclaimed = true → s.bn.claimOut = false → s.bn.failed = false →
    s.pw.calderaClaim = false →
    Completes (.roleDecision h w u) s [.regs, .latchHi, .holdLo, .levels, .img, .boot, .key, .sn, .mt, .pw, .ln,
      .le, .la, .bn, .io, .gy, .sx, .pn, .cn, .mb, .lk, .ac, .up, .isl, .pi, .subc, .blk, .mem,
      .forces] [.SUP_START, .SUP_ISLAND, .RST_CAUSE, .RST_CTL, .RST_WDOG, .RST_POWER, .RST_EV_PEND, .RST_EV_ROUTE,
      .RST_EV_SUM, .AC_CTL, .AC_SLOT, .AC_FAULT, .AC_FAULT_ADDR_LO, .AC_FAULT_ADDR_HI, .AC_ECC, .AC_SCRUB,
      .PK_STATUS, .PK_SEQ, .PK_SERIAL_LO, .PK_SERIAL_HI, .UP_STATUS, .UP_PROGRESS, .UP_TRIAL, .SN_STATUS,
      .SN_NEWEST_LO, .SN_NEWEST_HI, .SN_OLDEST_LO, .SN_OLDEST_HI, .SN_LOST, .SN_SUPPRESSED, .SN_CURSOR_LO,
      .SN_CURSOR_HI, .SN_WSTAT, .MB_STAT, .MB_DOOR, .MB_ACK, .LK_PAIR, .LK_FAULT, .LK_COUNT, .LK_MISS_LO,
      .LK_MISS_HI, .LK_CMD, .LK_CMD_RESULT, .MT_FRC_LO, .MT_FRC_HI, .MT_PT_LO, .MT_PT_HI, .MT_BT_LO, .MT_BT_HI,
      .MT_TB_LO, .MT_TB_HI, .MT_LATCH_FRC_LO, .MT_LATCH_FRC_HI, .MT_LATCH_PT_LO, .MT_LATCH_PT_HI, .MT_LATCH_BT_LO,
      .MT_LATCH_BT_HI, .MT_LATCH_TB_LO, .MT_LATCH_TB_HI, .MT_STATE, .MT_CTL, .MT_OFFSET, .MT_ERR_EST, .MT_OUTLIERS,
      .MT_PT_SRC, .MT_TB_CFG, .LN_STATUS, .LN_OVERRUN, .LN_DISCARD, .LN_SUB, .LE_CTL, .LE_CMD, .LE_CMD_VAL,
      .LE_CMD_RESULT, .LE_OVERRUN, .LE_FAULT, .LE_LOAD, .LE_FDELAY, .LA_STATUS, .LA_SEL, .LA_LOOP, .LA_SLOT,
      .LA_SURGE, .LA_COUNT, .GY_STATUS, .GY_CH, .GY_COND_LO, .GY_COND_HI, .GY_SET, .GY_CAP, .GY_CMD, .GY_LOST,
      .BN_STATUS, .BN_LOOP, .BN_EPOCH, .BN_HEALTH, .BN_EQ, .BN_VERIFY, .BN_TAKEOVER, .BN_CMD, .BN_HO_AT_LO,
      .BN_HO_AT_HI, .BN_CMD_RESULT, .PN_PORT, .PN_DROP, .PN_PTP, .PN_SEL, .PN_SSTAT, .PN_SVC, .CN_CFG, .CN_CTL,
      .CN_STAT, .CN_ERR, .CN_PROT, .CN_TIMING, .CN_OBJCMD, .CN_OBJRES, .SX_PORT, .SX_LAP, .SX_ERR, .SX_CAR,
      .SX_EPOCH, .UC_CFG, .UC_STAT, .UC_DIAG, .UC_SLICE, .UC_HART, .DC_CFG, .DC_STAT, .DC_DIAG, .DC_GROUP] fun t =>
      t.phase = 8 ∧ t.role = 1 ∧ t.boot.roleTaken = true ∧ t.boot.roleAt = s.pt ∧ t.bn.claimOut = true) ∧
  (∀ s : State,
    s.phase = 8 → s.starting = true → s.boot.roleTaken = true → s.boot.committed = false → s.role = 1 →
    s.reached (nextAt 1000000 0 (s.boot.roleAt.plus 1000000)) = true →
    Completes .firstCommit s [.regs, .levels, .boot, .key, .sn, .pw, .ln, .up] [.UP_STATUS, .UP_PROGRESS, .LK_PAIR,
      .LN_STATUS, .LE_CTL, .LA_STATUS] fun t =>
      t.boot.committed = true ∧ Records [0x1008] s t ∧ t.running 0 = true ∧ t.running 1 = true ∧
      t.running 2 = true ∧ t.flag Fld.LE_CTL_RUN = true ∧ t.pw.healthy = true ∧ t.pw.calderaHold = false) ∧
  (∀ s : State,
    s.reached (nextAt 1000000 0 (s.boot.roleAt.plus 1000000)) = false →
    exec .firstCommit s = .next s)

/-- KEY_REMOVED clears PRESENT, raises source 4 and remembers the instant. KEY_INSERTED puts the same content, or
another cartridge's, into the socket and shows nothing until the header is read again. KEY_HEADER_REREAD with the
serial of start-up resumes writing with records 0x1006 and 0x1007; with another serial it sets KEY_CHANGED and writes
no record. OWNER_LOCK_CHANGE follows the contact: an invalid combination counts as closed and leaves record 0x1010,
and a change raises source 5. Where a clause rests on a choice of the model, the choice is in log entries 4. It says
of each of these commands, under hypotheses on the state and the operands alone, that exec answers a next state with
its effect: keyRemoved, keyInserted, keyHeaderReread, ownerLockChange. -/
def Obligations.KeyInItsSocket : Prop :=
  (∀ s : State,
    s.key.inSocket = true → s.up.roll = none →
    Completes .keyRemoved s [.regs, .levels, .key, .sn, .ln, .bn, .up] [.SUP_ISLAND, .PK_STATUS, .SN_STATUS,
      .BN_STATUS] fun t =>
      t.key.inSocket = false ∧ t.key.units = s.key.units ∧ t.flag Fld.PK_STATUS_PRESENT = false ∧ t.keyOk = false ∧
      Raised 4 t) ∧
  (∀ s : State,
    s.key.inSocket = false →
    exec .keyRemoved s = .next s) ∧
  (∀ s : State,
    s.key.inSocket = false →
    Completes (.keyInserted none) s [.key] [] fun t =>
      t.key.inSocket = true ∧ t.key.units = s.key.units) ∧
  (∀ (x : KeyImage) (s : State),
    s.key.inSocket = false →
    Completes (.keyInserted (some x)) s [.key] [] fun t =>
      t.key.inSocket = true ∧ t.key.units = x.units.foldl (fun y u => Tab.set 0 y u.1 u.2) []) ∧
  (∀ s : State,
    s.key.inSocket = true → s.flag Fld.PK_STATUS_PRESENT = false → s.flag Fld.PK_STATUS_HEADER_OK = true →
    bits s.keyHdr 127 64 = (s.reg .PK_SERIAL_HI).toNat * 4294967296 + (s.reg .PK_SERIAL_LO).toNat →
    Completes .keyHeaderReread s [.regs, .levels, .sn] [.PK_STATUS, .SN_STATUS] fun t =>
      t.flag Fld.PK_STATUS_PRESENT = true ∧ t.flag Fld.PK_STATUS_SERIAL_OK = true ∧
      t.flag Fld.PK_STATUS_WRITABLE = s.key.writable ∧ Records [0x1006, 0x1007] s t ∧ Raised 4 t) ∧
  (∀ s : State,
    s.key.inSocket = true → s.flag Fld.PK_STATUS_PRESENT = false → s.flag Fld.PK_STATUS_HEADER_OK = true →
    bits s.keyHdr 127 64 ≠ (s.reg .PK_SERIAL_HI).toNat * 4294967296 + (s.reg .PK_SERIAL_LO).toNat →
    Completes .keyHeaderReread s [.regs, .levels, .sn] [.SUP_START, .PK_STATUS, .SN_STATUS] fun t =>
      t.flag Fld.PK_STATUS_PRESENT = true ∧ t.flag Fld.PK_STATUS_SERIAL_OK = false ∧
      t.flag Fld.SUP_START_KEY_CHANGED = true ∧ t.keyOk = false ∧ Raised 4 t ∧ Records [] s t) ∧
  (∀ (l : LockState) (s : State),
    Completes (.ownerLockChange l) s [.regs, .levels, .sn, .pw] [.UP_STATUS] fun t =>
      t.pw.contactOpen = (l == .opened) ∧ t.flag Fld.UP_STATUS_LOCKED = !(l == .opened) ∧
      (s.pw.contactOpen ≠ (l == .opened) → Raised 5 t) ∧ Records (if l == .invalid then [0x1010] else []) s t)

/-- An island clock within 1 % only clears CLOCK_BAD; beyond it the island stalls. A stall of a living island clears
ALIVE, sets STALL and raises source 48 + i; the loop engine's stall sets LE_CTL.FAILED and declares the module failed,
and a second report of a dead island, or of a cause that cannot come to it, does nothing. A restart that ends sets
ALIVE, counts in RESTARTS and leaves record 0xD002. A register access that times out reads 0, is counted and recorded.
A shell's watchdog restart takes its configuration; its stages are off 9.98 ms of FRC later, so within 10 ms, where no
commit came; its reload brings it back. Where a clause rests on a choice of the model, the choice is in log entries
22, 77, 78. It says of each of these commands, under hypotheses on the state and the operands alone, that exec answers
a next state with its effect: islandClockCheck, islandStall, islandRestartDone, registerAccessTimeout,
shellWatchdogRestart, shellStageHoldExpire, shellReloadDone. -/
def Obligations.IslandsStallAndRestart : Prop :=
  (∀ (i : Fin 18) (dev : Int) (s : State),
    dev.natAbs ≤ 1000 →
    Completes (.islandClockCheck i dev) s [.regs] [.SUP_ISLAND] fun t =>
      t.flag Fld.SUP_ISLAND_CLOCK_BAD i.val = false ∧ InstKept .SUP_ISLAND i.val s t) ∧
  (∀ (i : Fin 18) (dev : Int) (s : State),
    1000 < dev.natAbs → s.alive i.val = true →
    Completes (.islandClockCheck i dev) s [.regs, .levels, .boot, .sn, .mt, .pw, .ln, .le, .la, .bn, .io, .pn, .lk,
      .up, .isl] [.SUP_START, .SUP_ISLAND, .UP_STATUS, .LK_PAIR, .LK_FAULT, .LK_CMD_RESULT, .MT_TB_CFG, .LN_STATUS,
      .LE_CTL, .LE_LOAD, .LA_STATUS, .LA_SLOT, .LA_COUNT, .BN_STATUS, .BN_LOOP, .PN_PORT, .UC_SLICE,
      .DC_GROUP] fun t =>
      t.flag Fld.SUP_ISLAND_CLOCK_BAD i.val = true ∧ t.flag Fld.SUP_ISLAND_STALL i.val = true ∧
      t.flag Fld.SUP_ISLAND_ALIVE i.val = false ∧ Raised (48 + i.val) t) ∧
  (∀ (i : Fin 18) (c : StallCause) (s : State),
    s.alive i.val = true → s.stallFits i.val c = true →
    Completes (.islandStall i c) s [.regs, .levels, .boot, .sn, .mt, .pw, .ln, .le, .la, .bn, .io, .pn, .lk, .up,
      .isl] [.SUP_START, .SUP_ISLAND, .UP_STATUS, .LK_PAIR, .LK_FAULT, .LK_CMD_RESULT, .MT_TB_CFG, .LN_STATUS,
      .LE_CTL, .LE_LOAD, .LA_STATUS, .LA_SLOT, .LA_COUNT, .BN_STATUS, .BN_LOOP, .PN_PORT, .UC_SLICE,
      .DC_GROUP] fun t =>
      t.flag Fld.SUP_ISLAND_STALL i.val = true ∧ t.flag Fld.SUP_ISLAND_ALIVE i.val = false ∧
      (t.island i.val).down = true ∧ Raised (48 + i.val) t) ∧
  (∀ (c : StallCause) (s : State),
    s.alive 2 = true → s.stallFits 2 c = true → s.restartedLately 2 = false → s.bn.failed = false →
    Completes (.islandStall 2 c) s [.regs, .levels, .boot, .sn, .mt, .pw, .ln, .le, .la, .bn, .io, .pn, .lk, .up,
      .isl] [.SUP_START, .SUP_ISLAND, .UP_STATUS, .LK_PAIR, .LK_FAULT, .LK_CMD_RESULT, .MT_TB_CFG, .LN_STATUS,
      .LE_CTL, .LE_LOAD, .LA_STATUS, .LA_SLOT, .LA_COUNT, .BN_STATUS, .BN_LOOP, .PN_PORT, .UC_SLICE,
      .DC_GROUP] fun t =>
      t.flag Fld.LE_CTL_FAILED = true ∧ t.bn.failed = true ∧ t.role = 6 ∧ t.flag Fld.LE_CTL_RUN = false ∧
      t.bn.hbRun = false) ∧
  (∀ (i : Fin 18) (c : StallCause) (s : State),
    s.alive i.val = false ∨ s.stallFits i.val c = false →
    exec (.islandStall i c) s = .next s) ∧
  (∀ (i : Fin 18) (s : State),
    i = 4 ∨ i = 6 ∨ i = 7 → (s.island i.val).down = true → (s.island i.val).stopped = false → s.bn.failed = false →
    Completes (.islandRestartDone i) s [.regs, .levels, .sn, .sx, .pn, .cn, .isl] [.SUP_ISLAND, .PN_PORT, .CN_STAT,
      .UC_SLICE, .DC_GROUP] fun t =>
      t.flag Fld.SUP_ISLAND_ALIVE i.val = true ∧
      t.fld Fld.SUP_ISLAND_RESTARTS i.val = satAdd Fld.SUP_ISLAND_RESTARTS.top (s.fld Fld.SUP_ISLAND_RESTARTS i.val) 1 ∧
      (t.island i.val).down = false ∧ (t.island i.val).last = some s.mt.frc ∧ Raised (48 + i.val) t) ∧
  (∀ (i : Fin 18) (addr : Nat) (s : State),
    Completes (.registerAccessTimeout i addr) s [.lastRead, .regs, .sn] [.SUP_ISLAND] fun t =>
      t.lastRead = 0 ∧
      t.fld Fld.SUP_ISLAND_ACC_TIMEOUT i.val = satAdd Fld.SUP_ISLAND_ACC_TIMEOUT.top (s.fld Fld.SUP_ISLAND_ACC_TIMEOUT i.val) 1 ∧
      InstKept .SUP_ISLAND i.val s t ∧ Records [0xD003] s t) ∧
  (∀ (k : Fin 10) (s : State),
    (s.island (8 + k.val)).down = true →
    Completes (.shellWatchdogRestart k) s [.out, .io] [] fun t =>
      (t.slice k.val).loaded = false ∧ (t.slice k.val).held = true) ∧
  (∀ (k : Fin 10) (s : State),
    (s.slice k.val).held = true → 9980000 ≤ (s.mt.frc - (s.slice k.val).heldAt).toNat →
    Completes (.shellStageHoldExpire k) s [.regs, .io] [.UC_STAT, .DC_STAT] fun t =>
      (t.slice k.val).held = false ∧ (t.slice k.val).stagesOff = true) ∧
  (∀ (k : Fin 10) (s : State),
    (s.island (8 + k.val)).down = true → (s.island (8 + k.val)).stopped = false → s.bn.failed = false →
    Completes (.shellReloadDone k) s [.out, .regs, .levels, .sn, .io, .isl] [.SUP_ISLAND, .UC_SLICE, .DC_STAT,
      .DC_GROUP] fun t =>
      (t.slice k.val).loaded = true ∧ (t.slice k.val).spoiled = some s.mt.frc ∧
      t.flag Fld.SUP_ISLAND_ALIVE (8 + k.val) = true ∧ Records [0xD002] s t ∧ Raised (56 + k.val) t) ∧
  (∀ (k : Fin 10) (s : State),
    (s.mt.frc - (s.slice k.val).heldAt).toNat < 9980000 →
    exec (.shellStageHoldExpire k) s = .next s) ∧
  (∀ (i : Fin 18) (s : State),
    s.stallFits 1 .tokens = false ∧ s.stallFits i.val .tokens = decide (i.val ≠ 1) ∧
    s.stallFits i.val .clock = s.flag Fld.SUP_ISLAND_CLOCK_BAD i.val ∧
    s.stallFits i.val .timing = decide (8 ≤ i.val))

/-- A connection with the required suite and anchor, in the start-up state that admits it, opens the lowest free
session with its role; a fifth is refused and counted; a bad handshake is counted in AUTH_FAIL; each raises source
112. A session silent for 60 s of FRC closes as idle, and disconnection closes an open one. A handshake that comes
where nothing serves, or by a plant port whose tables are not loaded, does nothing, and the recovery ROM hears only
the contact of the base with the owner lock open. An unknown message type is answered with code 2. ARP, neighbour
solicitation and echo are answered at the module's declared addresses, echoes at most ten in a second of FRC (the
second's grid is the model's choice). Where a clause rests on a choice of the model, the choice is in log entries 54,
61, 129. Traffic of a plant port leaves through the gate of the class of the service VLAN; where that class is not the
one of streams, the gate decides whether it goes at once or waits. It says of each of these commands, under hypotheses
on the state and the operands alone, that exec answers a next state with its effect: svcConnect, svcIdleClose,
svcDisconnect, svcUnknownType, arpRequest, neighbourSolicitation, icmpEcho. -/
def Obligations.ServiceSessions : Prop :=
  (∀ (h : Handshake) (k : Nat) (s : State),
    s.serving = true → s.iazebin = false → s.reaches h.basePort h.port = true → s.freeSess = some k →
    h.suiteOk = true → h.anchorOk = true → h.recovery ≠ s.accepted →
    Completes (.svcConnect h) s [.regs, .levels, .pn] [.PN_SVC] fun t =>
      t.sess k = { open_ := true, role := h.role, basePort := h.basePort, port := h.port, recovery := h.recovery } ∧
      (∀ j, j ≠ k → t.sess j = s.sess j) ∧ Tab.get 0 t.pn.heard k = s.mt.frc ∧
      t.fld Fld.PN_SVC_REFUSED = s.fld Fld.PN_SVC_REFUSED ∧ Raised 112 t) ∧
  (∀ (h : Handshake) (s : State),
    s.serving = true → s.iazebin = false → s.reaches h.basePort h.port = true → s.freeSess = none →
    Completes (.svcConnect h) s [.regs, .levels] [.PN_SVC] fun t =>
      t.fld Fld.PN_SVC_REFUSED = satAdd Fld.PN_SVC_REFUSED.top (s.fld Fld.PN_SVC_REFUSED) 1 ∧ Raised 112 t) ∧
  (∀ (h : Handshake) (k : Nat) (s : State),
    s.serving = true → s.iazebin = false → s.reaches h.basePort h.port = true → s.freeSess = some k →
    h.suiteOk = false ∨ h.anchorOk = false ∨ h.recovery = s.accepted →
    Completes (.svcConnect h) s [.regs, .levels] [.PN_SVC] fun t =>
      t.fld Fld.PN_SVC_AUTH_FAIL = satAdd Fld.PN_SVC_AUTH_FAIL.top (s.fld Fld.PN_SVC_AUTH_FAIL) 1 ∧ Raised 112 t) ∧
  (∀ (h : Handshake) (s : State),
    s.serving = false ∨ s.reaches h.basePort h.port = false →
    exec (.svcConnect h) s = .next s) ∧
  (∀ (h : Handshake) (s : State),
    s.iazebin = true → (h.basePort && s.pw.contactOpen) = false →
    exec (.svcConnect h) s = .next s) ∧
  (∀ (k : Fin 4) (s : State),
    (s.sess k.val).open_ = true → 60000000000 ≤ (s.mt.frc - Tab.get 0 s.pn.heard k.val).toNat →
    Completes (.svcIdleClose k) s [.regs, .levels, .pn] [.PN_SVC] (fun t => (t.sess k.val).open_ = false ∧ (∀ j, j ≠ k.val → t.sess j = s.sess j) ∧ Raised 112 t) ∧
    exec (.svcDisconnect k) s = exec (.svcIdleClose k) s) ∧
  (∀ (k : Fin 4) (s : State),
    (s.sess k.val).open_ = true →
    Completes (.svcDisconnect k) s [.regs, .levels, .pn] [.PN_SVC] fun t =>
      (t.sess k.val).open_ = false ∧ Raised 112 t) ∧
  (∀ (k : Fin 4) (s : State),
    (s.sess k.val).open_ = false →
    exec (.svcIdleClose k) s = .next s ∧ exec (.svcDisconnect k) s = .next s) ∧
  (∀ (h : SvcMsg) (y : BitVec 16) (s : State),
    (s.sess h.sess.val).open_ = true → s.serving = true → svcTypes.contains y.toNat = false →
    Completes (.svcUnknownType h y) s [.out, .pn] [] fun t =>
      Answers [] h.sess.val (svcOut h.sess.val h.msgId (32768 + bits y 14 0) 2 []) s t) ∧
  (∀ (a : Nat) (s : State),
    s.declaredAt a = true →
    Completes (.arpRequest none a) s [.out] [] fun t =>
      Sends [.arpReply a] s t) ∧
  (∀ (v : Option (Fin 2)) (a : Nat) (s : State),
    s.declaredAt a = true →
    exec (.arpRequest v a) s = .next (s.serviceOut v (.arpReply a))) ∧
  (∀ (a : Nat) (s : State),
    s.answersAt none a = true →
    Completes (.neighbourSolicitation none a) s [.out] [] fun t =>
      Sends [.neighbourAdvert a] s t) ∧
  (∀ (v : Option (Fin 2)) (a : Nat) (s : State),
    s.answersAt v a = true →
    exec (.neighbourSolicitation v a) s = .next (s.serviceOut v (.neighbourAdvert a))) ∧
  (∀ (v : Option (Fin 2)) (a i n : Nat) (s : State),
    s.answersAt v a = true → s.pn.icmpSec = s.mt.frc.toNat / 1000000000 → s.pn.icmpCnt = n → n < 10 →
    exec (.icmpEcho v a i) s = .next ({ s with pn := { s.pn with icmpCnt := n + 1 } }.serviceOut v (.echoReply a i))) ∧
  (∀ (a i n : Nat) (s : State),
    s.answersAt none a = true → s.pn.icmpSec = s.mt.frc.toNat / 1000000000 → s.pn.icmpCnt = n → n < 10 →
    Completes (.icmpEcho none a i) s [.out, .pn] [] fun t =>
      Sends [.echoReply a i] s t ∧ t.pn = { s.pn with icmpCnt := n + 1 }) ∧
  (∀ (v : Option (Fin 2)) (a i : Nat) (s : State),
    s.pn.icmpSec = s.mt.frc.toNat / 1000000000 → 10 ≤ s.pn.icmpCnt →
    exec (.icmpEcho v a i) s = .next s) ∧
  (∀ (v : Option (Fin 2)) (a i : Nat) (s : State),
    s.answersAt v a = false →
    exec (.arpRequest v a) s = .next s ∧ exec (.neighbourSolicitation v a) s = .next s ∧
    exec (.icmpEcho v a i) s = .next s) ∧
  (∀ (k : Fin 4) (s : State),
    (s.mt.frc - Tab.get 0 s.pn.heard k.val).toNat < 60000000000 →
    exec (.svcIdleClose k) s = .next s) ∧
  (∀ (p : Fin 2) (o : Output) (v : VlanCfg) (s : State),
    (s.img.vlans.find? fun v => v.service) = some v → v.pcp ≠ 6 → s.portOpen (p.val + 1) = true →
    (s.gateOpen (p.val + 1) v.pcp = true → s.serviceOut (some p) o = s.emit o) ∧
    (s.gateOpen (p.val + 1) v.pcp = false → s.serviceOut (some p) o = s.netWait (p.val + 1) { cls := v.pcp, own := some o })) ∧
  (∀ (p : Fin 2) (o : Output) (s : State),
    (s.img.vlans.find? fun v => v.service) = none ∨ s.portOpen (p.val + 1) = false →
    s.serviceOut (some p) o = s)

/-- An order of an open session that the role, the start-up state and the length admit takes effect and is answered in
the same message; one that they turn away is answered with the code alone. FORCE_POINT holds the point at the value,
FORCED, from now on; FORCE_RELEASE ends that. REEPOCH_ORDER answers what MT_CTL.REEPOCH gives. A cursor read that
nothing turns away answers records; a clear with the owner lock closed answers 0x0204. Enrolment writes the header of
the key and the base with record 0x1002, and with the owner lock closed answers 5. HART_PASSTHROUGH takes one frame
for a channel and PASSTHROUGH_SEND sends it. Where a clause rests on a choice of the model, the choice is in log
entries 61, 62. It says of each of these commands, under hypotheses on the state and the operands alone, that exec
answers a next state with its effect: forcePoint, forceRelease, reepochOrder, sinterCursorRead, sinterClear,
ownerEnrolment, hartPassthrough, hartPassthroughSend. -/
def Obligations.ServiceOrders : Prop :=
  (∀ (h : SvcMsg) (p : Nat) (v : Word) (s : State),
    (s.sess h.sess.val).open_ = true → s.serving = true → s.svcRefusal h 0x40 2 0 none = none →
    s.pointKnown p = true → s.immediatePoint p = false →
    Completes (.forcePoint h p v) s [.out, .regs, .ln, .bn, .pn, .pi, .blk, .mem, .forces] [.PN_DROP] fun t =>
      Tab.get none t.forces p = some v ∧ (∀ q, q ≠ p → Tab.get none t.forces q = Tab.get none s.forces q) ∧
      recVal (t.piGet p) = v ∧ recBit (t.piGet p) qForced = true ∧
      Answers [] h.sess.val (svcOut h.sess.val h.msgId 0x8040 0 []) s t) ∧
  (∀ (h : SvcMsg) (p : Nat) (s : State),
    (s.sess h.sess.val).open_ = true → s.serving = true → s.svcRefusal h 0x40 2 0 none = none →
    s.pointKnown p = true →
    Completes (.forceRelease h p) s [.forces, .out, .pn] [] fun t =>
      Tab.get none t.forces p = none ∧ (∀ q, q ≠ p → Tab.get none t.forces q = Tab.get none s.forces q) ∧
      Answers [] h.sess.val (svcOut h.sess.val h.msgId 0x8040 0 []) s t) ∧
  (∀ (h : SvcMsg) (p c : Nat) (v : Word) (s : State),
    (s.sess h.sess.val).open_ = true → s.serving = true → s.svcRefusal h 0x40 2 0 none = some c →
    exec (.forcePoint h p v) s = .next ((s.heard h.sess.val).answer h 0x40 c) ∧
    exec (.forceRelease h p) s = .next ((s.heard h.sess.val).answer h 0x40 c)) ∧
  (∀ (h : SvcMsg) (s : State),
    (s.sess h.sess.val).open_ = true → s.serving = true → s.svcRefusal h 0x60 3 0 none = none → s.auth = true →
    Completes (.reepochOrder h) s [.regs, .levels, .out, .pn] [.MT_STATE] fun t =>
      t.fld Fld.MT_STATE_REEPOCH_RESULT = 2 ∧ Answers [] h.sess.val (svcOut h.sess.val h.msgId 0x8060 5 []) s t ∧
      Raised 95 t ∧ t.pt = s.pt) ∧
  (∀ (h : SvcMsg) (s : State),
    (s.sess h.sess.val).open_ = true → s.serving = true → s.svcRefusal h 0x60 3 0 none = none → s.auth = false →
    s.fld Fld.MT_STATE_STATE ≠ 0 → (s.reepochSource).isSome = true →
    Completes (.reepochOrder h) s [.out, .regs, .levels, .sn, .mt, .pw, .ln, .le, .la, .bn, .io, .gy, .sx, .pn,
      .pi, .subc, .blk, .mem] [.SUP_ISLAND, .MT_STATE, .MT_OFFSET, .MT_ERR_EST, .LN_STATUS, .LN_OVERRUN, .LN_SUB,
      .LE_OVERRUN, .LE_FAULT, .LE_LOAD, .LA_STATUS, .LA_SLOT, .LA_COUNT, .PN_DROP] fun t =>
      t.fld Fld.MT_STATE_REEPOCH_RESULT = 1 ∧ t.fld Fld.MT_STATE_STATE = 1 ∧ t.flag Fld.MT_STATE_REEPOCHED = true ∧
      t.bt = s.bt ∧ some t.pt = (s.reepochSource).map Prod.snd ∧ t.mt.hist = []) ∧
  (∀ (h : SvcMsg) (a : BitVec 48) (n : Nat) (rs : List (BitVec 512)) (s : State),
    (s.sess h.sess.val).open_ = true → s.serving = true → s.svcRefusal h 0x20 0 0 (some 8) = none →
    s.readCode a.toNat n = 0 → rs = (s.scan s.newest Config.sinterSlots n (max 1 (max a.toNat s.oldest))).1 →
    Completes (.sinterCursorRead h a n) s [.out, .pn] [] fun t =>
      Answers [] h.sess.val (svcOut h.sess.val h.msgId 0x8020 0 (wire64 (putBits (putBits 0 63 16 ((rs.head?.map recSeq).getD a.toNat)) 15 0 rs.length) ++ rs.flatMap fun r => bytesOf r 64)) s t) ∧
  (∀ (h : SvcMsg) (a : BitVec 48) (n c : Nat) (s : State),
    (s.sess h.sess.val).open_ = true → s.serving = true → s.svcRefusal h 0x20 0 0 (some 8) = none →
    s.readCode a.toNat n = c → c ≠ 0 →
    Completes (.sinterCursorRead h a n) s [.out, .pn] [] fun t =>
      Answers [] h.sess.val (svcOut h.sess.val h.msgId 0x8020 c []) s t) ∧
  (∀ (h : SvcMsg) (s : State),
    (s.sess h.sess.val).open_ = true → s.serving = true → s.svcRefusal h 0x21 3 0 none = none →
    s.pw.contactOpen = false →
    Completes (.sinterClear h) s [.out, .pn] [] fun t =>
      Answers [] h.sess.val (svcOut h.sess.val h.msgId 0x8021 0x0204 []) s t) ∧
  (∀ (h : SvcMsg) (s : State),
    (s.sess h.sess.val).open_ = true → s.serving = true → s.svcRefusal h 0x21 3 0 none = none →
    s.pw.contactOpen = true → s.flag Fld.PK_STATUS_PRESENT = true → s.flag Fld.PK_STATUS_SERIAL_OK = true →
    s.sn.located = true → (s.enqueue islSup 0x0004 (.items [])).2 = true →
    Completes (.sinterClear h) s [.out, .regs, .levels, .sn, .pn] [.SN_STATUS, .SN_OLDEST_LO, .SN_OLDEST_HI,
      .PN_DROP] fun t =>
      t.reg .SN_OLDEST_LO = BitVec.ofNat 32 (t.sn.next - 1) ∧ s.sn.queue.length < t.sn.queue.length ∧
      Answers [] h.sess.val (svcOut h.sess.val h.msgId 0x8021 0 []) s t) ∧
  (∀ (h : SvcMsg) (k : BitVec 768) (f : BitVec 384) (b : Nat) (s : State),
    (s.sess h.sess.val).open_ = true → s.serving = true → s.svcRefusal h 0x70 3 0 none = none →
    s.pw.contactOpen = true → b ≤ 8191 → s.keyOk = true →
    Completes (.ownerEnrolment h k f b) s [.out, .key, .sn, .pn] [] fun t =>
      bits t.keyHdr 895 128 = k.toNat ∧ bits t.keyHdr 1023 992 = (crcOf t.keyHdr 124).toNat ∧
      bits t.keyHdr 127 0 = bits s.keyHdr 127 0 ∧
      Answers [.baseWrite b f] h.sess.val (svcOut h.sess.val h.msgId 0x8070 0 []) s t ∧ Records [0x1002] s t) ∧
  (∀ (h : SvcMsg) (k : BitVec 768) (f : BitVec 384) (b : Nat) (s : State),
    (s.sess h.sess.val).open_ = true → s.serving = true → s.svcRefusal h 0x70 3 0 none = none →
    s.pw.contactOpen = false →
    Completes (.ownerEnrolment h k f b) s [.out, .pn] [] fun t =>
      Answers [] h.sess.val (svcOut h.sess.val h.msgId 0x8070 5 []) s t) ∧
  (∀ (h : SvcMsg) (n : Fin 32) (fr : List Byte) (s : State),
    (s.sess h.sess.val).open_ = true → s.serving = true → s.svcRefusal h 0x50 2 0 none = none →
    s.hartOn n.val = true → s.shows (8 + n.val / 8) = true → s.flag Fld.UC_HART_PASS_BUSY n.val = false →
    Completes (.hartPassthrough h n fr) s [.regs, .io, .pn] [.UC_HART] fun t =>
      (t.uc n.val).pass = some (h.sess.val, h.msgId, fr) ∧ t.flag Fld.UC_HART_PASS_BUSY n.val = true ∧
      InstKept .UC_HART n.val s t) ∧
  (∀ (id : Word) (n : Fin 32) (k : Nat) (b : Byte) (fr a : List Byte) (r : HartReply) (s : State),
    (s.uc n.val).pass = some (k, id, b :: fr) → (s.uc n.val).hart = .none → s.shows (8 + n.val / 8) = true →
    Completes (.hartPassthroughSend n (some (r, a))) s [.out, .regs, .levels, .sn, .io, .pn] [.SUP_ISLAND,
      .PN_DROP, .UC_STAT, .UC_DIAG, .UC_HART] fun t =>
      (t.uc n.val).pass = none ∧ t.flag Fld.UC_HART_PASS_BUSY n.val = false ∧ InstKept .UC_HART n.val s t ∧
      t.fld Fld.UC_HART_RESPONSE n.val = r.code.toNat ∧ t.fld Fld.UC_HART_DEVICE n.val = r.device.toNat ∧
      t.fld Fld.UC_HART_FAILS n.val = 0 ∧
      Answers [.hart n.val b.toNat (s.fld Fld.UC_CFG_HART n.val == 1) (b :: fr)] k (svcOut k id 0x8050 0 a) s t) ∧
  (∀ (id : Word) (n : Fin 32) (k : Nat) (b : Byte) (fr : List Byte) (s : State),
    (s.uc n.val).pass = some (k, id, b :: fr) → (s.uc n.val).hart = .none → s.shows (8 + n.val / 8) = true →
    Completes (.hartPassthroughSend n none) s [.io, .out] [] fun t =>
      (t.uc n.val).pass = none ∧ (t.uc n.val).hart = .pass k id ∧
      Sends [.hart n.val b.toNat (s.fld Fld.UC_CFG_HART n.val == 1) (b :: fr)] s t)

/-- The service orders for maintenance give what the supervisor's BN_CMD orders give and answer 0 where that is done
and 5 where the present role does not admit it. In Dormant leaving is answered and then a supervisor-ordered reset,
cause 6. The Dormant order is answered 0 where the module may go dormant, and 5 elsewhere. Where a clause rests on a
choice of the model, the choice is in log entries 62, 94. It says of each of these commands, under hypotheses on the
state and the operands alone, that exec answers a next state with its effect: svcMaintEnter, svcMaintLeave,
svcDormant. -/
def Obligations.MaintenanceAndDormant : Prop :=
  (∀ (h : SvcMsg) (s : State),
    (s.sess h.sess.val).open_ = true → s.serving = true → s.svcRefusal h 0x62 2 0 none = none → s.maintEnter.2 = 0 →
    exec (.svcMaintEnter h) s = .next ((s.heard h.sess.val).maintEnter.1.answer h 0x62 0) ∧
    Completes (.svcMaintEnter h) s [.out, .regs, .levels, .boot, .sn, .pw, .bn, .pn, .up] [.SUP_ISLAND, .BN_STATUS, .BN_CMD_RESULT, .PN_DROP] fun t => t.role = 5 ∧
    t.fld Fld.BN_CMD_RESULT_CODE = 0) ∧
  (∀ (h : SvcMsg) (s : State),
    (s.sess h.sess.val).open_ = true → s.serving = true → s.svcRefusal h 0x62 2 0 none = none → s.maintEnter.2 ≠ 0 →
    Completes (.svcMaintEnter h) s [.regs, .levels, .out, .pn] [.BN_CMD_RESULT] fun t =>
      Answers [] h.sess.val (svcOut h.sess.val h.msgId 0x8062 5 []) s t) ∧
  (∀ (h : SvcMsg) (s : State),
    (s.sess h.sess.val).open_ = true → s.serving = true → s.svcRefusal h 0x62 2 0 none = none →
    s.flag Fld.RST_POWER_DORMANT = false → s.maintLeave.2 = 0 →
    exec (.svcMaintLeave h) s = .next ((s.heard h.sess.val).maintLeave.1.answer h 0x62 0) ∧
    Completes (.svcMaintLeave h) s [.out, .regs, .latchHi, .holdLo, .levels, .img, .key, .sn, .mt, .pw, .ln, .le, .la, .bn, .io, .gy, .sx, .pn, .cn, .mb, .lk, .ac, .up, .isl, .pi, .subc, .blk, .mem, .forces] [.SUP_START, .SUP_ISLAND, .RST_CAUSE, .RST_CTL, .RST_WDOG, .RST_POWER, .RST_EV_PEND, .RST_EV_ROUTE, .RST_EV_SUM, .AC_CTL, .AC_SLOT, .AC_FAULT, .AC_FAULT_ADDR_LO, .AC_FAULT_ADDR_HI, .AC_ECC, .AC_SCRUB, .PK_STATUS, .PK_SEQ, .PK_SERIAL_LO, .PK_SERIAL_HI, .UP_STATUS, .UP_PROGRESS, .UP_TRIAL, .SN_STATUS, .SN_NEWEST_LO, .SN_NEWEST_HI, .SN_OLDEST_LO, .SN_OLDEST_HI, .SN_LOST, .SN_SUPPRESSED, .SN_CURSOR_LO, .SN_CURSOR_HI, .SN_WSTAT, .MB_STAT, .MB_DOOR, .MB_ACK, .LK_PAIR, .LK_FAULT, .LK_COUNT, .LK_MISS_LO, .LK_MISS_HI, .LK_CMD, .LK_CMD_RESULT, .MT_FRC_LO, .MT_FRC_HI, .MT_PT_LO, .MT_PT_HI, .MT_BT_LO, .MT_BT_HI, .MT_TB_LO, .MT_TB_HI, .MT_LATCH_FRC_LO, .MT_LATCH_FRC_HI, .MT_LATCH_PT_LO, .MT_LATCH_PT_HI, .MT_LATCH_BT_LO, .MT_LATCH_BT_HI, .MT_LATCH_TB_LO, .MT_LATCH_TB_HI, .MT_STATE, .MT_CTL, .MT_OFFSET, .MT_ERR_EST, .MT_OUTLIERS, .MT_PT_SRC, .MT_TB_CFG, .LN_STATUS, .LN_OVERRUN, .LN_DISCARD, .LN_SUB, .LE_CTL, .LE_CMD, .LE_CMD_VAL, .LE_CMD_RESULT, .LE_OVERRUN, .LE_FAULT, .LE_LOAD, .LE_FDELAY, .LA_STATUS, .LA_SEL, .LA_LOOP, .LA_SLOT, .LA_SURGE, .LA_COUNT, .GY_STATUS, .GY_CH, .GY_COND_LO, .GY_COND_HI, .GY_SET, .GY_CAP, .GY_CMD, .GY_LOST, .BN_STATUS, .BN_LOOP, .BN_EPOCH, .BN_HEALTH, .BN_EQ, .BN_VERIFY, .BN_TAKEOVER, .BN_CMD, .BN_HO_AT_LO, .BN_HO_AT_HI, .BN_CMD_RESULT, .PN_PORT, .PN_DROP, .PN_PTP, .PN_SEL, .PN_SSTAT, .PN_SVC, .CN_CFG, .CN_CTL, .CN_STAT, .CN_ERR, .CN_PROT, .CN_TIMING, .CN_OBJCMD, .CN_OBJRES, .SX_PORT, .SX_LAP, .SX_ERR, .SX_CAR, .SX_EPOCH, .UC_CFG, .UC_STAT, .UC_DIAG, .UC_SLICE, .UC_HART, .DC_CFG, .DC_STAT, .DC_DIAG, .DC_GROUP] fun t => t.role = 0) ∧
  (∀ (h : SvcMsg) (s : State),
    (s.sess h.sess.val).open_ = true → s.serving = true → s.svcRefusal h 0x62 2 0 none = none →
    s.flag Fld.RST_POWER_DORMANT = true → s.powered = true →
    exec (.svcMaintLeave h) s = .next (((s.heard h.sess.val).answer h 0x62 0).resetPowered 6) ∧
    (((s.heard h.sess.val).answer h 0x62 0).resetPowered 6).fld Fld.RST_CAUSE_CAUSE = 6) ∧
  (∀ (h : SvcMsg) (s : State),
    (s.sess h.sess.val).open_ = true → s.serving = true → s.svcRefusal h 0x62 2 1 none = none →
    s.mayDormant = true →
    exec (.svcDormant h) s = .next (((s.heard h.sess.val).answer h 0x62 0).toDormant) ∧
    Completes (.svcDormant h) s [.out, .regs, .levels, .sn, .pw, .ln, .le, .pn] [.RST_POWER, .LN_STATUS, .LE_CTL, .LE_LOAD, .PN_DROP] fun t => t.flag Fld.RST_POWER_DORMANT = true) ∧
  (∀ (h : SvcMsg) (s : State),
    (s.sess h.sess.val).open_ = true → s.serving = true → s.svcRefusal h 0x62 2 1 none = none →
    s.mayDormant = false →
    Completes (.svcDormant h) s [.out, .pn] [] fun t =>
      Answers [] h.sess.val (svcOut h.sess.val h.msgId 0x8062 5 []) s t)

/-- At a plant port that forwards, has its link and whose island lives, a frame with a bad FCS is counted in FCS, a
PTP management frame in MANAGEMENT, a gPTP frame of an untracked domain in UNKNOWN_DOMAIN, a tagged frame of an
undeclared VLAN and a stream frame of neither table in UNDECLARED; a tagged frame of a forwarded VLAN leaves by the
other port where its gate is open. Before forwarding is on, nothing passes. A stream frame longer than declared, or a
third within its period, is policed; a subscribed one that passes is handed to the internal port, and one in transit
goes on by the other port, where its gate is open and its window lets it start. Of control frames, 200,000 in a second
of FRC are forwarded. A gate event that is the entry in force sets the gates of the port; what then waits there waits
for another gate or for a window that it fits, and any other entry does nothing. A link change shows in LINK and
raises the port's source; a lost link loses what waits, and the time bases that hear through it. Where a clause rests
on a choice of the model, the choice is in log entries 54, 55. It says of each of these commands, under hypotheses on
the state and the operands alone, that exec answers a next state with its effect: frameIngress, gateEvent,
portLinkChange. -/
def Obligations.NetworkFrames : Prop :=
  (∀ (p : Fin 2) (s : State),
    s.flag Fld.PN_PORT_FWD (p.val + 1) = true → s.linkUp (p.val + 1) = true → s.alive 4 = true →
    Completes (.frameIngress p .badFcs) s [.regs] [.PN_DROP] fun t =>
      t.fld Fld.PN_DROP_FCS (p.val + 1) = satAdd Fld.PN_DROP_FCS.top (s.fld Fld.PN_DROP_FCS (p.val + 1)) 1 ∧
      InstKept .PN_DROP (p.val + 1) s t) ∧
  (∀ (p : Fin 2) (s : State),
    s.flag Fld.PN_PORT_FWD (p.val + 1) = true → s.linkUp (p.val + 1) = true → s.alive 4 = true →
    Completes (.frameIngress p .ptpManagement) s [.regs] [.PN_PTP] fun t =>
      t.fld Fld.PN_PTP_MANAGEMENT (p.val + 1) = satAdd Fld.PN_PTP_MANAGEMENT.top (s.fld Fld.PN_PTP_MANAGEMENT (p.val + 1)) 1 ∧
      InstKept .PN_PTP (p.val + 1) s t) ∧
  (∀ (p : Fin 2) (d : Nat) (s : State),
    s.flag Fld.PN_PORT_FWD (p.val + 1) = true → s.linkUp (p.val + 1) = true → s.alive 4 = true →
    s.trackedDomain d = false →
    Completes (.frameIngress p (.gptp d)) s [.regs] [.PN_PTP] fun t =>
      t.fld Fld.PN_PTP_UNKNOWN_DOMAIN (p.val + 1) = satAdd Fld.PN_PTP_UNKNOWN_DOMAIN.top (s.fld Fld.PN_PTP_UNKNOWN_DOMAIN (p.val + 1)) 1 ∧
      InstKept .PN_PTP (p.val + 1) s t) ∧
  (∀ (p : Fin 2) (v : Nat) (len : Nat) (s : State),
    s.flag Fld.PN_PORT_FWD (p.val + 1) = true → s.linkUp (p.val + 1) = true → s.alive 4 = true → s.img.vlans = [] →
    Completes (.frameIngress p (.tagged v len)) s [.regs] [.PN_DROP] fun t =>
      t.fld Fld.PN_DROP_UNDECLARED (p.val + 1) = satAdd Fld.PN_DROP_UNDECLARED.top (s.fld Fld.PN_DROP_UNDECLARED (p.val + 1)) 1 ∧
      InstKept .PN_DROP (p.val + 1) s t) ∧
  (∀ (p : Fin 2) (v len : Nat) (c : VlanCfg) (s : State),
    s.flag Fld.PN_PORT_FWD (p.val + 1) = true → s.linkUp (p.val + 1) = true → s.alive 4 = true →
    s.img.vlans.find? (fun x => x.vid == v) = some c → c.forward = true → c.pcp ≠ 6 →
    s.portOpen (otherPort (p.val + 1)) = true → s.gateOpen (otherPort (p.val + 1)) c.pcp = true →
    Completes (.frameIngress p (.tagged v len)) s [.out] [] fun t =>
      Sends [.forwarded (otherPort (p.val + 1)) (.tagged v len)] s t) ∧
  (∀ (p : Fin 2) (b n v len : Nat) (q : BitVec 16) (h : BitVec 256) (rs : List W64) (s : State),
    s.flag Fld.PN_PORT_FWD (p.val + 1) = true → s.linkUp (p.val + 1) = true → s.alive 4 = true →
    s.subIndex b n v = none → s.transitIndex b n v = none →
    Completes (.frameIngress p (.stream b n v len q h rs)) s [.regs] [.PN_DROP] fun t =>
      t.fld Fld.PN_DROP_UNDECLARED (p.val + 1) = satAdd Fld.PN_DROP_UNDECLARED.top (s.fld Fld.PN_DROP_UNDECLARED (p.val + 1)) 1 ∧
      InstKept .PN_DROP (p.val + 1) s t) ∧
  (∀ (p : Fin 2) (b n v len i : Nat) (q : BitVec 16) (h : BitVec 256) (rs : List W64) (s : State),
    s.flag Fld.PN_PORT_FWD (p.val + 1) = true → s.linkUp (p.val + 1) = true → s.alive 4 = true →
    s.subIndex b n v = some i → s.transitIndex b n v = none → (listGet {} s.img.subs i).len < len →
    Completes (.frameIngress p (.stream b n v len q h rs)) s [.regs, .levels, .pn] [.PN_DROP] fun t =>
      t.fld Fld.PN_DROP_POLICED (p.val + 1) = satAdd Fld.PN_DROP_POLICED.top (s.fld Fld.PN_DROP_POLICED (p.val + 1)) 1 ∧
      InstKept .PN_DROP (p.val + 1) s t ∧ t.pn.inbox = s.pn.inbox ∧ Raised 113 t) ∧
  (∀ (p : Fin 2) (b n v len i : Nat) (q : BitVec 16) (h : BitVec 256) (rs : List W64) (c : SubCfg) (s : State),
    s.flag Fld.PN_PORT_FWD (p.val + 1) = true → s.linkUp (p.val + 1) = true → s.alive 4 = true →
    s.subIndex b n v = some i → s.transitIndex b n v = none → s.img.subs[i]? = some c →
    2 ≤ ((Tab.get [] s.pn.arr (i * 4 + (p.val + 1))).filter fun a => Instant.before (s.portTime (p.val + 1) - BitVec.ofNat 64 (Config.period c.cls)) a).length →
    Completes (.frameIngress p (.stream b n v len q h rs)) s [.regs, .levels, .pn] [.PN_DROP] fun t =>
      t.fld Fld.PN_DROP_POLICED (p.val + 1) = satAdd Fld.PN_DROP_POLICED.top (s.fld Fld.PN_DROP_POLICED (p.val + 1)) 1 ∧
      InstKept .PN_DROP (p.val + 1) s t ∧ t.pn.inbox = s.pn.inbox ∧ Raised 113 t) ∧
  (∀ (p : Fin 2) (b n v len i : Nat) (q : BitVec 16) (h : BitVec 256) (rs : List W64) (c : SubCfg) (s : State),
    s.flag Fld.PN_PORT_FWD (p.val + 1) = true → s.linkUp (p.val + 1) = true → s.alive 4 = true →
    s.subIndex b n v = some i → s.transitIndex b n v = none → s.img.subs[i]? = some c → len ≤ c.len →
    Tab.get [] s.pn.arr (i * 4 + (p.val + 1)) = [] → s.pn.inbox.length < 64 →
    Completes (.frameIngress p (.stream b n v len q h rs)) s [.pn] [] fun t =>
      t.pn.inbox = s.pn.inbox ++ [(i, p.val + 1, q.toNat)] ∧
      Tab.get [] t.pn.arr (i * 4 + (p.val + 1)) = [s.portTime (p.val + 1)]) ∧
  (∀ (p : Fin 2) (b n v len j : Nat) (q : BitVec 16) (h : BitVec 256) (rs : List W64) (c : TransitCfg) (s : State),
    s.flag Fld.PN_PORT_FWD (p.val + 1) = true → s.linkUp (p.val + 1) = true → s.alive 4 = true →
    s.subIndex b n v = none → s.transitIndex b n v = some j → s.img.transit[j]? = some c → len ≤ c.len →
    Tab.get [] s.pn.arr (streamKey 2 j * 4 + (p.val + 1)) = [] → c.both = false →
    c.merges.contains (otherPort (p.val + 1)) = false → s.portOpen (otherPort (p.val + 1)) = true →
    s.gateOpen (otherPort (p.val + 1)) 6 = true → s.fitsWindow (otherPort (p.val + 1)) = true →
    Completes (.frameIngress p (.stream b n v len q h rs)) s [.out, .pn] [] fun t =>
      Sends [.forwarded (otherPort (p.val + 1)) (.stream b n v len q h rs)] s t ∧ t.pn.inbox = s.pn.inbox) ∧
  (∀ (p : Fin 2) (v len : Nat) (c : VlanCfg) (s : State),
    s.flag Fld.PN_PORT_FWD (p.val + 1) = true → s.linkUp (p.val + 1) = true → s.alive 4 = true →
    s.img.vlans.find? (fun x => x.vid == v) = some c → c.forward = true →
    s.portOpen (otherPort (p.val + 1)) = true → Tab.get 0 s.pn.ctlSec (p.val + 1) = s.mt.frc.toNat / 1000000000 →
    Tab.get 0 s.pn.ctlCnt (p.val + 1) < 200000 →
    Completes (.frameIngress p (.control v len)) s [.out, .pn] [] fun t =>
      Sends [.forwarded (otherPort (p.val + 1)) (.control v len)] s t ∧
      Tab.get 0 t.pn.ctlCnt (p.val + 1) = Tab.get 0 s.pn.ctlCnt (p.val + 1) + 1) ∧
  (∀ (p : Fin 2) (v len : Nat) (c : VlanCfg) (s : State),
    s.flag Fld.PN_PORT_FWD (p.val + 1) = true → s.linkUp (p.val + 1) = true → s.alive 4 = true →
    s.img.vlans.find? (fun x => x.vid == v) = some c →
    Tab.get 0 s.pn.ctlSec (p.val + 1) = s.mt.frc.toNat / 1000000000 → 200000 ≤ Tab.get 0 s.pn.ctlCnt (p.val + 1) →
    Completes (.frameIngress p (.control v len)) s [.regs, .levels] [.PN_DROP] fun t =>
      t.fld Fld.PN_DROP_POLICED (p.val + 1) = satAdd Fld.PN_DROP_POLICED.top (s.fld Fld.PN_DROP_POLICED (p.val + 1)) 1 ∧
      InstKept .PN_DROP (p.val + 1) s t ∧ Raised 113 t) ∧
  (∀ (p : Fin 2) (f : NetFrame) (s : State),
    s.flag Fld.PN_PORT_FWD (p.val + 1) = false ∨ s.linkUp (p.val + 1) = false ∨ s.alive 4 = false →
    exec (.frameIngress p f) s = .next s) ∧
  (∀ (p : Fin 2) (i : Nat) (e : GateEntry) (s : State),
    (s.gatesOf (p.val + 1))[i]? = some e → s.flag Fld.PN_PORT_GATES (p.val + 1) = true →
    gateNow (s.gatesOf (p.val + 1)) e (cyclePlace (s.portTime (p.val + 1))) = true →
    Completes (.gateEvent p i) s [.regs, .pn, .out] [.PN_DROP] fun t =>
      Tab.get 0x1F#8 t.pn.gates (p.val + 1) = e.gates ∧
      (∀ c, c < 8 → t.gateOpen (p.val + 1) c = (c == 5 || c == 7 || bitAt e.gates c)) ∧
      (Tab.get [] t.pn.wait (p.val + 1)).all (fun f => !t.gateOpen (p.val + 1) f.cls || f.cls == 6) = true) ∧
  (∀ (p : Fin 2) (i : Nat) (s : State),
    (s.gatesOf (p.val + 1))[i]? = none ∨ s.flag Fld.PN_PORT_GATES (p.val + 1) = false →
    exec (.gateEvent p i) s = .next s) ∧
  (∀ (p : Fin 2) (i : Nat) (e : GateEntry) (s : State),
    (s.gatesOf (p.val + 1))[i]? = some e →
    gateNow (s.gatesOf (p.val + 1)) e (cyclePlace (s.portTime (p.val + 1))) = false →
    exec (.gateEvent p i) s = .next s) ∧
  (∀ (p : Fin 2) (s : State),
    s.linkUp (p.val + 1) = false →
    Completes (.portLinkChange p true) s [.regs, .levels] [.PN_PORT] fun t =>
      t.linkUp (p.val + 1) = true ∧ Raised (110 + p.val) t ∧ InstKept .PN_PORT (p.val + 1) s t) ∧
  (∀ (p : Fin 2) (s : State),
    s.linkUp (p.val + 1) = true →
    Completes (.portLinkChange p false) s [.regs, .levels, .mt, .pn] [.PN_PORT, .MT_TB_CFG] fun t =>
      t.linkUp (p.val + 1) = false ∧ t.flag Fld.PN_PORT_PDELAY_OK (p.val + 1) = false ∧
      Tab.get [] t.pn.wait (p.val + 1) = [] ∧ Raised (110 + p.val) t ∧ InstKept .PN_PORT (p.val + 1) s t ∧
      ∀ k, k < 8 → s.fld Fld.MT_TB_CFG_PORT k = p.val + 1 → t.flag Fld.MT_TB_CFG_SYNCED k = false ∧ t.fld Fld.MT_TB_CFG_PORT k = 0)

/-- A subscribed frame of an unreplicated stream, already policed at its port, that arrives at or after its VALID_AT
is discarded as late; one of another length or class is MALFORMED; one of an old epoch is discarded as such; one that
neither an applied instant nor a pending frame bars becomes pending, its records are placed and SEEN is set. At
VALID_AT the pending records become the applied ones and MISSED restarts, unless the stream requires coordination and
the module is COORD_DEGRADED: then, and where an expected instant has come and nothing that applies by it is pending,
the instant is missed. Neither command does anything before the instant. Where a clause rests on a choice of the
model, the choice is in log entries 56. It says of each of these commands, under hypotheses on the state and the
operands alone, that exec answers a next state with its effect: subFrameAccept, validAtApply, expectedInstantMissed. -/
def Obligations.Subscriptions : Prop :=
  (∀ (n : Fin 4096) (p : Fin 2) (q : BitVec 16) (h : BitVec 256) (rs : List W64) (c : SubCfg) (s : State),
    s.img.subs[n.val]? = some c → s.pn.inbox.contains (n.val, p.val + 1, q.toNat) = true →
    Instant.before s.pt (BitVec.ofNat 64 (bits h 255 192)) = false →
    Completes (.subFrameAccept n p q h rs) s [.regs, .levels, .pn] [.LN_DISCARD] fun t =>
      t.fld Fld.LN_DISCARD_LATE_ARRIVAL = satAdd Fld.LN_DISCARD_LATE_ARRIVAL.top (s.fld Fld.LN_DISCARD_LATE_ARRIVAL) 1 ∧
      Raised 97 t ∧ t.subc = s.subc) ∧
  (∀ (n : Fin 4096) (p : Fin 2) (q : BitVec 16) (h : BitVec 256) (rs : List W64) (c : SubCfg) (s : State),
    s.img.subs[n.val]? = some c → s.pn.inbox.contains (n.val, p.val + 1, q.toNat) = true →
    Instant.before s.pt (BitVec.ofNat 64 (bits h 255 192)) = true → c.repl = false →
    bits h 31 24 ≠ c.points.length ∨ rs.length ≠ c.points.length ∨ bits h 17 16 ≠ c.cls →
    Completes (.subFrameAccept n p q h rs) s [.regs, .pn] [.LN_SUB] fun t =>
      t.flag Fld.LN_SUB_MALFORMED n.val = true ∧ InstKept .LN_SUB n.val s t) ∧
  (∀ (n : Fin 4096) (p : Fin 2) (q : BitVec 16) (h : BitVec 256) (rs : List W64) (c : SubCfg) (s : State),
    s.img.subs[n.val]? = some c → s.pn.inbox.contains (n.val, p.val + 1, q.toNat) = true →
    Instant.before s.pt (BitVec.ofNat 64 (bits h 255 192)) = true → c.repl = false →
    bits h 31 24 = c.points.length → rs.length = c.points.length → bits h 17 16 = c.cls →
    bits h 127 96 + 1 < Tab.get 0 s.ln.epochs c.binary →
    Completes (.subFrameAccept n p q h rs) s [.regs, .levels, .pn] [.LN_DISCARD] fun t =>
      t.fld Fld.LN_DISCARD_OLD_EPOCH = satAdd Fld.LN_DISCARD_OLD_EPOCH.top (s.fld Fld.LN_DISCARD_OLD_EPOCH) 1 ∧
      Raised 97 t) ∧
  (∀ (n : Fin 4096) (p : Fin 2) (q : BitVec 16) (h : BitVec 256) (r : W64) (i : Nat) (c : SubCfg) (s : State),
    s.img.subs[n.val]? = some c → s.pn.inbox.contains (n.val, p.val + 1, q.toNat) = true →
    Instant.before s.pt (BitVec.ofNat 64 (bits h 255 192)) = true → c.repl = false → c.points = [i] →
    bits h 31 24 = 1 → bits h 17 16 = c.cls → Tab.get 0 s.ln.epochs c.binary ≤ bits h 127 96 + 1 →
    bitAt h 8 = false → (s.sub n.val).applied = none → (s.sub n.val).pend = none →
    Completes (.subFrameAccept n p q h [r]) s [.regs, .pn, .ln, .subc, .bn] [.LN_SUB] fun t =>
      t.flag Fld.LN_SUB_SEEN n.val = true ∧ t.subPending i = r ∧ t.subApplied i = s.subApplied i ∧
      (t.sub n.val).pend.map (·.validAt) = some (BitVec.ofNat 64 (bits h 255 192)) ∧
      Tab.get 0 t.ln.epochs c.binary = max (Tab.get 0 s.ln.epochs c.binary) (bits h 127 96 + 1)) ∧
  (∀ (n : Fin 4096) (p : Fin 2) (q : BitVec 16) (h : BitVec 256) (rs : List W64) (s : State),
    s.img.subs[n.val]? = none →
    exec (.subFrameAccept n p q h rs) s = .next s ∧ exec (.validAtApply n) s = .next s ∧
    exec (.expectedInstantMissed n) s = .next s) ∧
  (∀ (n : Fin 4096) (c : SubCfg) (i : Nat) (f : PendFrame) (s : State),
    s.img.subs[n.val]? = some c → (s.sub n.val).pend = some f → Instant.atOrBefore f.validAt s.pt = true →
    ((s.sub n.val).grid.all fun g => !Instant.before g f.validAt) = true →
    (c.coord && s.flag Fld.MT_STATE_COORD_DEGRADED) = false → c.points = [i] →
    Completes (.validAtApply n) s [.regs, .levels, .ln, .subc, .bn] [.LN_SUB, .LN_STATUS] fun t =>
      t.subApplied i = s.subPending i ∧ (t.sub n.val).pend = none ∧ (t.sub n.val).applied = some f.validAt ∧
      (t.sub n.val).grid = some (f.validAt.plus (Config.period c.cls)) ∧ t.fld Fld.LN_SUB_MISSED n.val = 0) ∧
  (∀ (n : Fin 4096) (c : SubCfg) (i : Nat) (f : PendFrame) (s : State),
    s.img.subs[n.val]? = some c → (s.sub n.val).pend = some f → Instant.atOrBefore f.validAt s.pt = true →
    ((s.sub n.val).grid.all fun g => !Instant.before g f.validAt) = true → c.coord = true →
    s.flag Fld.MT_STATE_COORD_DEGRADED = true → c.points = [i] →
    Completes (.validAtApply n) s [.regs, .levels, .ln, .subc, .bn] [.LN_SUB, .LN_STATUS] fun t =>
      t.subApplied i = lateRec (s.subCfg i) (s.subApplied i) ∧ (t.sub n.val).pend = none ∧
      t.fld Fld.LN_SUB_MISSED n.val = satAdd Fld.LN_SUB_MISSED.top (s.fld Fld.LN_SUB_MISSED n.val) 1) ∧
  (∀ (n : Fin 4096) (c : SubCfg) (i : Nat) (g : Instant) (s : State),
    s.img.subs[n.val]? = some c → (s.sub n.val).grid = some g → Instant.atOrBefore g s.pt = true →
    (s.sub n.val).dueAt g = false → c.points = [i] →
    Completes (.expectedInstantMissed n) s [.regs, .levels, .ln, .subc, .bn] [.LN_SUB, .LN_STATUS] fun t =>
      t.subApplied i = lateRec (s.subCfg i) (s.subApplied i) ∧
      t.fld Fld.LN_SUB_MISSED n.val = satAdd Fld.LN_SUB_MISSED.top (s.fld Fld.LN_SUB_MISSED n.val) 1 ∧
      (t.sub n.val).grid = some (g.plus (1 * Config.period c.cls))) ∧
  (∀ (n : Fin 4096) (g : Instant) (s : State),
    (s.sub n.val).grid = some g → Instant.atOrBefore g s.pt = false ∨ (s.sub n.val).dueAt g = true →
    exec (.expectedInstantMissed n) s = .next s) ∧
  (∀ (n : Fin 4096) (s : State),
    (s.sub n.val).dueAt s.pt = false →
    exec (.validAtApply n) s = .next s)

/-- VIEW_REBASE, once d of the named view has reached 2^32, gives the named view its present value as BASE and the
present FRC as FRC_BASE, so that the view reads the same before and after, and changes nothing else; the other views
keep all they hold. Before that it does nothing, as log entry 2 has it of marks that the state can judge. It says of
each of these commands, under hypotheses on the state and the operands alone, that exec answers a next state with its
effect: viewRebase. -/
def Obligations.ViewsOfTime : Prop :=
  (∀ s : State,
    4294967296 ≤ (s.mt.frc - s.mt.pt.frcBase).toNat →
    Completes (.viewRebase .pt) s [.mt] [] fun t =>
      t.mt = { s.mt with pt := { base := s.pt, frcBase := s.mt.frc, rate := s.mt.pt.rate } } ∧ t.pt = s.pt ∧
      t.bt = s.bt ∧ ∀ n, t.tbase n = s.tbase n) ∧
  (∀ s : State,
    4294967296 ≤ (s.mt.frc - s.mt.bt.frcBase).toNat →
    Completes (.viewRebase .bt) s [.mt] [] fun t =>
      t.mt = { s.mt with bt := { base := s.bt, frcBase := s.mt.frc, rate := s.mt.bt.rate } } ∧ t.pt = s.pt ∧
      t.bt = s.bt ∧ ∀ n, t.tbase n = s.tbase n) ∧
  (∀ (n : Fin 8) (v : View) (s : State),
    v = Tab.get {} s.mt.tb n.val → 4294967296 ≤ (s.mt.frc - v.frcBase).toNat →
    Completes (.viewRebase (.tb n)) s [.mt] [] fun t =>
      t.mt = { s.mt with tb := Tab.set {} s.mt.tb n.val { base := s.tbase n.val, frcBase := s.mt.frc, rate := v.rate } } ∧
      t.pt = s.pt ∧ t.bt = s.bt ∧ ∀ k, t.tbase k = s.tbase k) ∧
  (∀ (n : Fin 8) (v : View) (s : State),
    v = Tab.get {} s.mt.tb n.val → (s.mt.frc - v.frcBase).toNat < 4294967296 →
    Completes (.viewRebase (.tb n)) s [.mt] [] fun t =>
      ∀ k, t.tbase k = s.tbase k) ∧
  (∀ s : State,
    ((s.mt.frc - s.mt.pt.frcBase).toNat < 4294967296 → exec (.viewRebase .pt) s = .next s) ∧
    ((s.mt.frc - s.mt.bt.frcBase).toNat < 4294967296 → exec (.viewRebase .bt) s = .next s))

/-- MT_LATCH puts FRC, PT, BT and the eight time bases, all of one sample of FRC, into the latch register pairs and
changes nothing else. It says of each of these commands, under hypotheses on the state and the operands alone, that
exec answers a next state with its effect: mtLatch. -/
def Obligations.LatchedViews : Prop :=
  ∀ s : State,
    Completes .mtLatch s [.regs] [.MT_LATCH_FRC_LO, .MT_LATCH_FRC_HI, .MT_LATCH_PT_LO, .MT_LATCH_PT_HI,
      .MT_LATCH_BT_LO, .MT_LATCH_BT_HI, .MT_LATCH_TB_LO, .MT_LATCH_TB_HI] fun t =>
      t.reg .MT_LATCH_FRC_LO = lo32 s.mt.frc ∧ t.reg .MT_LATCH_FRC_HI = hi32 s.mt.frc ∧
      t.reg .MT_LATCH_PT_LO = lo32 s.pt ∧ t.reg .MT_LATCH_PT_HI = hi32 s.pt ∧ t.reg .MT_LATCH_BT_LO = lo32 s.bt ∧
      t.reg .MT_LATCH_BT_HI = hi32 s.bt ∧
      ∀ n, n < 8 → t.reg .MT_LATCH_TB_LO n = lo32 (s.tbase n) ∧ t.reg .MT_LATCH_TB_HI n = hi32 (s.tbase n)

/-- Losing the source in LOCKED leads to HOLDOVER unless the partner serves; an estimate above 1 us sets
COORD_DEGRADED in HOLDOVER. A Sync of an untracked domain is counted and dropped; a Sync of the domain that PT follows
enters the offset history and leaves by the other port with its correction. Peer delay requests are answered and
responses measured; a request sent carries the next sequence number; interval requests within their ranges are taken;
a better master makes its port the slave port, where the image configures none. A PPS edge within 100 ns of its
predicted place counts toward validity, another one clears it; 10 MHz measurements beyond 10 ppm clear theirs; PPS out
gives an edge within 10 ns of a whole second, once in each. A re-epoch is the supervisor's: refused under authority
and in UNSET, else PT steps to the source and BT stays. Where a clause rests on a choice of the model, the choice is
in log entries 49, 50, 51, 52. It says of each of these commands, under hypotheses on the state and the operands
alone, that exec answers a next state with its effect: sourceLost, holdoverErrCross, gptpSyncReceived,
gptpPdelayMessage, pdelayRequestSend, gptpSignaling, gptpAnnounce, ppsEdge, f10mMeasurement, ppsOutPulse, mtReepoch. -/
def Obligations.TimeSourcesAndServo : Prop :=
  (∀ s : State,
    s.fld Fld.MT_STATE_STATE = 1 → s.fld Fld.MT_STATE_SOURCE = 1 → s.partnerTime = false →
    Completes .sourceLost s [.regs, .levels, .sn, .mt] [.MT_STATE, .MT_ERR_EST, .MT_TB_CFG] fun t =>
      t.fld Fld.MT_STATE_STATE = 3 ∧ t.mt.hold.frc = s.mt.frc ∧ t.mt.hold.e0 = 0 ∧
      t.fld Fld.MT_STATE_SOURCE = s.holdOrder ∧ t.flag Fld.MT_STATE_COORD_DEGRADED = false ∧ t.pt = s.pt) ∧
  (∀ s : State,
    s.fld Fld.MT_STATE_STATE = 1 → s.fld Fld.MT_STATE_SOURCE = 1 → s.partnerTime = true →
    Completes .sourceLost s [.regs, .mt, .sn] [.MT_STATE, .MT_TB_CFG] fun t =>
      t.partnerTime = true ∧ t.fld Fld.MT_STATE_STATE = 1 ∧ t.fld Fld.MT_STATE_SOURCE = 2 ∧ Records [0x0001] s t) ∧
  (∀ s : State,
    s.fld Fld.MT_STATE_STATE = 3 → s.flag Fld.MT_STATE_COORD_DEGRADED = false → 1000 < s.errEst →
    Completes .holdoverErrCross s [.regs, .levels, .sn] [.MT_STATE] fun t =>
      t.flag Fld.MT_STATE_COORD_DEGRADED = true ∧ Raised 93 t ∧ Records [0x0001] s t) ∧
  (∀ s : State,
    s.fld Fld.MT_STATE_STATE ≠ 3 ∨ (s.errEst ≤ 1000 ∧ s.flag Fld.MT_STATE_COORD_DEGRADED = false) →
    exec .holdoverErrCross s = .next s) ∧
  (∀ (d : Fin 128) (p : Fin 2) (secs ns : Nat) (c r : Int) (res : Nat) (s : State),
    s.linkUp (p.val + 1) = true → s.trackedDomain d.val = false →
    Completes (.gptpSyncReceived d p secs ns c r res) s [.regs] [.PN_PTP] fun t =>
      t.fld Fld.PN_PTP_UNKNOWN_DOMAIN (p.val + 1) = satAdd Fld.PN_PTP_UNKNOWN_DOMAIN.top (s.fld Fld.PN_PTP_UNKNOWN_DOMAIN (p.val + 1)) 1) ∧
  (∀ (d : Fin 128) (p : Fin 2) (secs ns : Nat) (c r k e : Int) (res : Nat) (s : State),
    s.linkUp (p.val + 1) = true → s.trackedDomain d.val = true → s.slaveAt d.val (p.val + 1) = true →
    s.follows (s.fld Fld.MT_PT_SRC_BASE) d.val = true → s.relays (p.val + 1) = true → s.mt.hist.length < 4 →
    k = cumRate r (Tab.get ({} : Pdelay) s.mt.pdelay (p.val + 1)).rate → e = s.linkDelay (p.val + 1) →
    Completes (.gptpSyncReceived d p secs ns c r res) s [.out, .free, .regs, .levels, .sn, .mt] [.MT_STATE,
      .MT_OFFSET, .MT_ERR_EST, .MT_OUTLIERS, .MT_TB_CFG, .PN_PTP] fun t =>
      t.mt.srcRate = k / 2 ∧ t.mt.hist.length = s.mt.hist.length + 1 ∧
      t.mt.hist.head?.map (·.off) = some (s.pt - (ptOfWire secs ns + BitVec.ofInt 64 (c / 65536 + e + e * k / 2199023255552))).toInt ∧
      t.flag Fld.MT_TB_CFG_SYNCED (s.fld Fld.MT_PT_SRC_BASE) = true ∧ t.pt = s.pt ∧
      Sends [.sync d.val (otherPort (p.val + 1)) secs ns (syncCorr c res e k) k (s.img.twoStep.contains (otherPort (p.val + 1))) (Tab.get (-3) s.mt.logSync (otherPort (p.val + 1)))] s t) ∧
  (∀ (p : Fin 2) (q : Nat) (a b : Nat) (s : State),
    s.linkUp (p.val + 1) = true →
    Completes (.gptpPdelayMessage p (.request q a b)) s [.out] [] fun t =>
      Sends [.pdelayResp (p.val + 1) q a b] s t) ∧
  (∀ (p : Fin 2) (q t1 t2 t3 t4 : Nat) (s : State),
    s.linkUp (p.val + 1) = true → (Tab.get ({} : Pdelay) s.mt.pdelay (p.val + 1)).open_ = true →
    (Tab.get ({} : Pdelay) s.mt.pdelay (p.val + 1)).seq = q →
    Completes (.gptpPdelayMessage p (.response q t1 t2 t3 t4)) s [.regs, .mt] [.PN_PORT] fun t =>
      (Tab.get ({} : Pdelay) t.mt.pdelay (p.val + 1)).delay = ((t4 - t1) - (t3 - t2)) / 2 ∧
      (Tab.get ({} : Pdelay) t.mt.pdelay (p.val + 1)).open_ = false ∧
      (Tab.get ({} : Pdelay) t.mt.pdelay (p.val + 1)).rate = nbrRate (Tab.get ({} : Pdelay) s.mt.pdelay (p.val + 1)) t3 t4 ∧
      t.flag Fld.PN_PORT_PDELAY_OK (p.val + 1) = true) ∧
  (∀ (p : Fin 2) (s : State),
    s.linkUp (p.val + 1) = true →
    Completes (.pdelayRequestSend p) s [.mt, .out] [] fun t =>
      (Tab.get ({} : Pdelay) t.mt.pdelay (p.val + 1)).seq = ((Tab.get ({} : Pdelay) s.mt.pdelay (p.val + 1)).seq + 1) % 65536 ∧
      (Tab.get ({} : Pdelay) t.mt.pdelay (p.val + 1)).open_ = true ∧
      Sends [.pdelayReq (p.val + 1) (((Tab.get ({} : Pdelay) s.mt.pdelay (p.val + 1)).seq + 1) % 65536) (Tab.get 0 s.mt.logPd (p.val + 1))] s t) ∧
  (∀ (p : Fin 2) (a b : Int) (s : State),
    -5 ≤ a → a ≤ 0 → -3 ≤ b → b ≤ 3 →
    Completes (.gptpSignaling p a b) s [.mt] [] fun t =>
      Tab.get (-3) t.mt.logSync (p.val + 1) = a ∧ Tab.get 0 t.mt.logPd (p.val + 1) = b) ∧
  (∀ (p : Fin 2) (a b : Int) (s : State),
    a < -5 ∨ 0 < a → b < -3 ∨ 3 < b →
    exec (.gptpSignaling p a b) s = .next s) ∧
  (∀ (d : Fin 128) (p : Fin 2) (n : Nat) (s : State),
    s.linkUp (p.val + 1) = true → s.trackedDomain d.val = true → s.img.extPorts.lookup d.val = none →
    s.relays (p.val + 1) = true →
    Completes (.gptpAnnounce d p true n) s [.mt, .out] [] fun t =>
      t.slaveAt d.val (p.val + 1) = true ∧ t.slaveAt d.val (otherPort (p.val + 1)) = false ∧
      Sends [.announce d.val (otherPort (p.val + 1)) (n + 1)] s t) ∧
  (∀ (f : W64) (a b : Nat) (e : W64) (s : State),
    s.mt.ppsEdge = some e → s.mt.ppsIval = some b → a = (f - e).toNat → a ≤ b + 100 → b ≤ a + 100 →
    Completes (.ppsEdge f) s [.free, .regs, .levels, .sn, .mt] [.MT_STATE, .MT_TB_CFG] fun t =>
      t.mt.ppsEdge = some f ∧ t.mt.ppsIval = some a ∧ t.mt.ppsRun = s.mt.ppsRun + 1 ∧
      (10 ≤ s.mt.ppsRun + 1 → t.flag Fld.MT_STATE_PPS_VALID = true)) ∧
  (∀ (f : W64) (a b : Nat) (e : W64) (s : State),
    s.mt.ppsEdge = some e → s.mt.ppsIval = some b → a = (f - e).toNat → b + 100 < a ∨ a + 100 < b →
    Completes (.ppsEdge f) s [.free, .regs, .levels, .sn, .mt] [.MT_STATE, .MT_TB_CFG] fun t =>
      t.mt.ppsRun = 0 ∧ t.flag Fld.MT_STATE_PPS_VALID = false) ∧
  (∀ (z : Nat) (s : State),
    9999900 ≤ z → z ≤ 10000100 →
    Completes (.f10mMeasurement z) s [.free, .regs, .levels, .sn, .mt] [.MT_STATE] fun t =>
      t.mt.f10mRun = s.mt.f10mRun + 1 ∧ (10 ≤ s.mt.f10mRun + 1 → t.flag Fld.MT_STATE_F10M_VALID = true) ∧
      (s.mt.f10mRun + 1 < 10 → t.flag Fld.MT_STATE_F10M_VALID = s.flag Fld.MT_STATE_F10M_VALID)) ∧
  (∀ (z : Nat) (s : State),
    z < 9999900 ∨ 10000100 < z →
    Completes (.f10mMeasurement z) s [.free, .regs, .levels, .sn, .mt] [.MT_STATE] fun t =>
      t.mt.f10mRun = 0 ∧ t.flag Fld.MT_STATE_F10M_VALID = false) ∧
  (∀ (n : Nat) (s : State),
    s.fld Fld.MT_STATE_STATE ≠ 0 → (secPhase s.pt).natAbs ≤ 10 → n = (s.pt.toNat + 10) / 1000000000 →
    s.mt.ppsSec ≠ some n →
    Completes .ppsOutPulse s [.out, .mt] [] fun t =>
      Sends [.pps (BitVec.ofNat 64 (n * 1000000000))] s t ∧ t.mt = { s.mt with ppsSec := some n }) ∧
  (∀ s : State,
    s.fld Fld.MT_STATE_STATE = 0 ∨ 10 < (secPhase s.pt).natAbs ∨ s.mt.ppsSec = some ((s.pt.toNat + 10) / 1000000000) →
    exec .ppsOutPulse s = .next s) ∧
  (∀ s : State,
    exec (.mtReepoch .app) s = .next s) ∧
  (∀ s : State,
    s.auth = false → s.fld Fld.MT_STATE_STATE ≠ 0 → (s.reepochSource).isSome = true →
    Completes (.mtReepoch .sup) s [.regs, .levels, .sn, .mt, .pw, .ln, .le, .la, .bn, .io, .gy, .sx, .pi, .subc,
      .blk, .mem] [.SUP_ISLAND, .MT_STATE, .MT_OFFSET, .MT_ERR_EST, .LN_STATUS, .LN_OVERRUN, .LN_SUB, .LE_OVERRUN,
      .LE_FAULT, .LE_LOAD, .LA_STATUS, .LA_SLOT, .LA_COUNT] fun t =>
      t.fld Fld.MT_STATE_REEPOCH_RESULT = 1 ∧ t.fld Fld.MT_STATE_STATE = 1 ∧
      some t.pt = (s.reepochSource).map Prod.snd ∧ t.bt = s.bt ∧ t.flag Fld.MT_STATE_REEPOCHED = true ∧ Raised 95 t) ∧
  (∀ s : State,
    s.auth = true ∨ s.fld Fld.MT_STATE_STATE = 0 →
    Completes (.mtReepoch .sup) s [.regs, .levels] [.MT_STATE] fun t =>
      t.fld Fld.MT_STATE_REEPOCH_RESULT = (if s.auth then 2 else 3) ∧ t.pt = s.pt ∧ t.bt = s.bt ∧ Raised 95 t) ∧
  (∀ (d : Fin 128) (p : Fin 2) (b : Bool) (n k : Nat) (s : State),
    s.linkUp (p.val + 1) = true → s.trackedDomain d.val = true → s.img.extPorts.lookup d.val = some k →
    k ≠ p.val + 1 →
    exec (.gptpAnnounce d p b n) s = .next s)

/-- LAUNCH_ENTRY_HANDOFF, at least 2 us before one of the instants of the entry's phase point and once for each, puts
the entry with its instant at the end of its island's channel; a full channel discards it and counts it in OVERFLOW; a
module that does not act hands on sample entries only. HANDSHAKE_RECEIVE takes the first message of a channel:
strictly before its instant a sample set becomes visible at C, or waits for the group's samples in a fast group, and
an entry or commit values are noted as arrived; at or after it they are not. FAST_SAMPLE_COMPLETE, once nothing of the
cycle is outstanding and before the next S, takes the fast sets of its cycle and launches the loops of the entry that
arrived. COMPUTE_LOOPS at C launches each mapped loop of an entry that arrived, due at the group's K, and abandons the
loops of one that did not; RUN_APPLICATION_TASK starts the entry's task unless it is stopped, or still runs: then the
launch is skipped. A task launched reads what its C found. A task done strictly before K shows its own points at K;
one that overruns K has its points LATE and is counted in its class. Where a clause rests on a choice of the model,
the choice is in log entries 24, 25. It says of each of these commands, under hypotheses on the state and the operands
alone, that exec answers a next state with its effect: launchEntryHandoff, handshakeReceive, fastSampleComplete,
computeLoops, runApplicationTask, taskComplete, taskOverrun. -/
def Obligations.LaunchEntries : Prop :=
  (∀ (e k : Nat) (u : Instant) (d : BitVec 128) (s : State),
    s.entGrp e = some d → s.handsOn (grpClass d) u = true → s.runsAt d 1 u = true → onGrid d 1 u = true →
    Instant.before u (s.pt.plus 2000) = false → s.unhanded e u = true → entAction (s.entry e) = 1 →
    entTargets (s.entry e) = [k] → (Tab.get [] s.ln.chans (8 + k)).length < chanDepth (8 + k) →
    Completes (.launchEntryHandoff e u) s [.ln, .le, .regs] [.LE_LOAD] fun t =>
      Tab.get [] t.ln.chans (8 + k) = Tab.get [] s.ln.chans (8 + k) ++ [.entry e u] ∧
      Tab.get none t.ln.handed e = some u ∧
      (t.ln.expect.any fun x => x.slice == k && x.group == entGroup (s.entry e) && x.c == grpCOfS d u) = true ∧
      ∀ c, c ≠ 8 + k → Tab.get [] t.ln.chans c = Tab.get [] s.ln.chans c) ∧
  (∀ (e k : Nat) (u : Instant) (d : BitVec 128) (s : State),
    s.entGrp e = some d → s.handsOn (grpClass d) u = true → s.runsAt d 1 u = true → onGrid d 1 u = true →
    Instant.before u (s.pt.plus 2000) = false → s.unhanded e u = true → entAction (s.entry e) = 1 →
    entTargets (s.entry e) = [k] → chanDepth (8 + k) ≤ (Tab.get [] s.ln.chans (8 + k)).length → 8 + k < 18 →
    Completes (.launchEntryHandoff e u) s [.ln, .le, .regs] [.SUP_ISLAND, .LE_LOAD] fun t =>
      t.ln.chans = s.ln.chans ∧
      t.fld Fld.SUP_ISLAND_OVERFLOW (8 + k) = satAdd Fld.SUP_ISLAND_OVERFLOW.top (s.fld Fld.SUP_ISLAND_OVERFLOW (8 + k)) 1 ∧
      InstKept .SUP_ISLAND (8 + k) s t) ∧
  (∀ (e : Nat) (u : Instant) (d : BitVec 128) (s : State),
    s.entGrp e = some d → s.handsOn (grpClass d) u = true → s.runsAt d 3 u = true → onGrid d 3 u = true →
    Instant.before u (s.pt.plus 2000) = false → s.unhanded e u = true → s.acting = true →
    entAction (s.entry e) = 3 → (Tab.get [] s.ln.chans 2).length < 512 →
    Completes (.launchEntryHandoff e u) s [.ln, .le, .regs] [.LE_LOAD] fun t =>
      Tab.get [] t.ln.chans 2 = Tab.get [] s.ln.chans 2 ++ [.entry e u] ∧ Tab.get none t.ln.handed e = some u ∧
      t.ln.expect = s.ln.expect) ∧
  (∀ (e : Nat) (u : Instant) (s : State),
    s.acting = false → entAction (s.entry e) ≠ 1 → entAction (s.entry e) ≠ 2 →
    exec (.launchEntryHandoff e u) s = .next s) ∧
  (∀ (e : Nat) (u : Instant) (d : BitVec 128) (s : State),
    s.entGrp e = some d →
    onGrid d (entAction (s.entry e)) u = false ∨ Instant.before u (s.pt.plus 2000) = true ∨ s.unhanded e u = false →
    exec (.launchEntryHandoff e u) s = .next s) ∧
  (∀ (k : Fin 10) (g : Nat) (c : Instant) (rs : List (Nat × W64)) (q : List ChanMsg) (s : State),
    Tab.get [] s.ln.chans (32 + k.val) = .samples g c rs :: q → Instant.before s.pt c = true →
    Completes (.handshakeReceive (.sample k)) s [.ln] [] fun t =>
      Tab.get [] t.ln.chans (32 + k.val) = q ∧
      t.ln.vis = (if (s.group g).map grpClass = some 0 then s.ln.vis else s.ln.vis ++ rs.map (fun r => (c, r.1, r.2))) ∧
      t.ln.sets = (if (s.group g).map grpClass = some 0 then s.ln.sets ++ [(g, c, rs)] else s.ln.sets) ∧
      t.ln.expect = s.ln.expect.filter (fun x => !(x.slice == k.val && x.group == g && x.c == c))) ∧
  (∀ (k : Fin 10) (e : Nat) (u : Instant) (q : List ChanMsg) (s : State),
    Tab.get [] s.ln.chans (48 + k.val) = .commit e u :: q → s.alive (8 + k.val) = true →
    Instant.before s.pt u = false →
    Completes (.handshakeReceive (.commit k)) s [.ln] [] fun t =>
      Tab.get [] t.ln.chans (48 + k.val) = q ∧ t.ln.due = s.ln.due) ∧
  (∀ (k : Fin 10) (e : Nat) (u : Instant) (q : List ChanMsg) (s : State),
    Tab.get [] s.ln.chans (48 + k.val) = .commit e u :: q → s.alive (8 + k.val) = true →
    Instant.before s.pt u = true →
    Completes (.handshakeReceive (.commit k)) s [.ln] [] fun t =>
      Tab.get [] t.ln.chans (48 + k.val) = q ∧ t.ln.due = s.ln.due ++ [(48 + k.val, e, u)]) ∧
  (∀ (i : Fin 18) (e : Nat) (u : Instant) (q : List ChanMsg) (s : State),
    Tab.get [] s.ln.chans i.val = .entry e u :: q → s.alive i.val = true → Instant.before s.pt u = true →
    Completes (.handshakeReceive (.meridian i)) s [.ln] [] fun t =>
      Tab.get [] t.ln.chans i.val = q ∧ t.ln.due = s.ln.due ++ [(i.val, e, u)]) ∧
  (∀ (c : Channel) (s : State),
    s.ln.chans = [] →
    exec (.handshakeReceive c) s = .next s) ∧
  (∀ (g : Nat) (u : Instant) (d : BitVec 128) (s : State),
    s.group g = some d → grpClass d = 0 → s.launching 0 = true → onGrid d 1 u = true → s.reached u = true →
    Instant.before s.pt (u.plus 50000) = true → s.collecting g u = false →
    (s.ln.expect.any fun x => x.group == g && x.c == u.plus 50000) = false → s.acting = false →
    Completes (.fastSampleComplete g u) s [.regs, .levels, .sn, .pw, .ln, .le, .la, .bn, .pi, .subc, .blk,
      .mem] [.SUP_ISLAND, .LN_STATUS, .LN_OVERRUN, .LN_SUB, .LE_OVERRUN, .LE_FAULT, .LE_LOAD, .LA_STATUS, .LA_SLOT,
      .LA_COUNT] fun t =>
      (∀ l, (t.run l).job = (s.run l).job ∨ (t.run l).job = none) ∧
      (t.ln.sets.all fun x => !(x.1 == g && x.2.1 == u.plus 50000)) = true) ∧
  (∀ (g e l : Nat) (u : Instant) (d : BitVec 128) (s : State),
    s.group g = some d → grpClass d = 0 → s.launching 0 = true → onGrid d 1 u = true → s.reached u = true →
    Instant.before s.pt (u.plus 50000) = true → s.collecting g u = false →
    (s.ln.expect.any fun x => x.group == g && x.c == u.plus 50000) = false → s.acting = true →
    s.runsAt d 3 u = true → s.fastDue g u = [e] → entTarget (s.entry e) = l → entCount (s.entry e) = 1 →
    (s.loopAt l).isSome = true →
    Completes (.fastSampleComplete g u) s [.regs, .levels, .sn, .pw, .ln, .le, .la, .bn, .pi, .subc, .blk,
      .mem] [.SUP_ISLAND, .LN_STATUS, .LN_OVERRUN, .LN_SUB, .LE_OVERRUN, .LE_FAULT, .LE_LOAD, .LA_STATUS, .LA_SLOT,
      .LA_COUNT] fun t =>
      (t.run l).job.map (·.due) = some (u.plus 50000) ∧ (t.run l).job.map (·.t) = some s.pt ∧
      (t.run l).job.map (·.sAt) = some u ∧ (t.ln.sets.all fun x => !(x.1 == g && x.2.1 == u.plus 50000)) = true) ∧
  (∀ (g : Nat) (u : Instant) (d : BitVec 128) (s : State),
    s.group g = some d →
    s.collecting g u = true ∨ (s.ln.expect.any fun x => x.group == g && x.c == u.plus 50000) = true ∨ Instant.before s.pt (u.plus 50000) = false →
    exec (.fastSampleComplete g u) s = .next s) ∧
  (∀ (e : Nat) (c : Instant) (d : BitVec 128) (s : State),
    s.entGrp e = some d → s.runsNow e d 3 c = true → grpClass d ≠ 0 → s.acting = true → s.isDue 2 e c = true →
    Completes (.computeLoops e c) s [.regs, .levels, .sn, .pw, .ln, .le, .la, .bn, .pi, .subc, .blk,
      .mem] [.SUP_ISLAND, .LN_STATUS, .LN_OVERRUN, .LN_SUB, .LE_OVERRUN, .LE_FAULT, .LE_LOAD, .LA_STATUS, .LA_SLOT,
      .LA_COUNT] fun t =>
      Tab.get none t.ln.ran e = some c ∧
      ∀ l ∈ entTargets (s.entry e), (s.loopAt l).isSome = true → (t.run l).job.map (·.due) = some (grpKOfC d c) ∧ (t.run l).job.map (·.t) = some c) ∧
  (∀ (e l b : Nat) (c : Instant) (d : BitVec 128) (s : State),
    s.entGrp e = some d → s.runsNow e d 3 c = true → grpClass d ≠ 0 → s.acting = true → s.isDue 2 e c = false →
    entTargets (s.entry e) = [l] → s.loopAt l = some b →
    Completes (.computeLoops e c) s [.regs, .levels, .sn, .pw, .ln, .le, .la, .bn, .pi, .subc, .blk,
      .mem] [.SUP_ISLAND, .LN_STATUS, .LN_OVERRUN, .LN_SUB, .LE_OVERRUN, .LE_FAULT, .LE_LOAD, .LA_STATUS, .LA_SLOT,
      .LA_COUNT] fun t =>
      Tab.get none t.ln.ran e = some c ∧ (t.run l).job = none ∧ Raised 89 t) ∧
  (∀ (e k : Nat) (c : Instant) (d : BitVec 128) (s : State),
    s.entGrp e = some d → s.runsNow e d 4 c = true → s.acting = true → s.isDue 0 e c = true →
    entTarget (s.entry e) = k → (s.task k).running = false → (s.task k).stopped = false →
    Completes (.runApplicationTask e c) s [.regs, .levels, .sn, .pw, .ln, .le, .la, .bn, .pi, .subc, .blk,
      .mem] [.SUP_ISLAND, .LN_STATUS, .LN_OVERRUN, .LN_SUB, .LE_OVERRUN, .LE_FAULT, .LE_LOAD, .LA_STATUS, .LA_SLOT,
      .LA_COUNT] fun t =>
      (t.task k).running = true ∧ (t.task k).late = false ∧ (t.task k).skipped = false ∧
      (t.task k).k = grpKOfC d c ∧ (t.task k).pi = (s.upTo c).pi ∧ (t.task k).subc = (s.upTo c).subc ∧
      Tab.get none t.ln.ran e = some c) ∧
  (∀ (e k : Nat) (c : Instant) (d : BitVec 128) (s : State),
    s.entGrp e = some d → s.runsNow e d 4 c = true → s.acting = true → entTarget (s.entry e) = k →
    (s.task k).running = true →
    Completes (.runApplicationTask e c) s [.regs, .levels, .sn, .pw, .ln, .le, .la, .bn, .pi, .subc, .blk,
      .mem] [.SUP_ISLAND, .LN_STATUS, .LN_OVERRUN, .LN_SUB, .LE_OVERRUN, .LE_FAULT, .LE_LOAD, .LA_STATUS, .LA_SLOT,
      .LA_COUNT] fun t =>
      (t.task k).running = true ∧ (t.task k).skipped = true ∧ (t.task k).k = grpKOfC d c ∧
      Tab.get none t.ln.ran e = some c) ∧
  (∀ (k p : Nat) (v : Word) (s : State),
    (s.task k).running = true → (s.task k).late = false → (s.task k).skipped = false →
    Instant.before s.pt (s.task k).k = true → (s.taskPoints k).contains p = true →
    Completes (.taskComplete k [(p, v)] []) s [.ln] [] fun t =>
      t.ln.vis = s.ln.vis ++ [((s.task k).k, p, freshRec (s.pointCfg p).kind 0 v)] ∧ (t.task k).running = false) ∧
  (∀ (k : Nat) (ps : List (Nat × Word)) (ws : List (Nat × W64)) (s : State),
    (s.task k).running = true → (s.task k).late = false → (s.task k).skipped = false →
    (s.task k).counted ≠ some (s.task k).k → Instant.before s.pt (s.task k).k = false →
    Completes (.taskComplete k ps ws) s [.regs, .levels, .pw, .ln, .bn, .pi, .subc, .blk, .mem] [.LN_STATUS,
      .LN_OVERRUN, .LN_SUB] fun t =>
      t.ln.vis = (s.settle (s.task k).k).ln.vis ∧ (t.task k).running = false ∧
      t.fld Fld.LN_OVERRUN_TASK (s.taskClass k) = satAdd Fld.LN_OVERRUN_TASK.top (s.fld Fld.LN_OVERRUN_TASK (s.taskClass k)) 1 ∧
      ∀ p ∈ s.taskPoints k, recBit (t.piGet p) qLate = true) ∧
  (∀ (k : Nat) (s : State),
    (s.task k).running = true → Instant.before s.pt (s.task k).k = false → (s.task k).counted ≠ some (s.task k).k →
    Completes (.taskOverrun k) s [.regs, .levels, .pw, .ln, .bn, .pi, .subc, .blk, .mem] [.LN_STATUS, .LN_OVERRUN,
      .LN_SUB] fun t =>
      (t.task k).late = true ∧
      t.fld Fld.LN_OVERRUN_TASK (s.taskClass k) = satAdd Fld.LN_OVERRUN_TASK.top (s.fld Fld.LN_OVERRUN_TASK (s.taskClass k)) 1 ∧
      ∀ p ∈ s.taskPoints k, recBit (t.piGet p) qLate = true) ∧
  (∀ (k : Nat) (s : State),
    Instant.before s.pt (s.task k).k = true ∨ ((s.task k).running = false ∧ (s.task k).skipped = false) →
    exec (.taskOverrun k) s = .next s)

/-- COMMIT_OWN_SLICES at K gives each launched universal output of a slice that was reached in time the value of the
record visible at K, ends the slice's hold, and in a Z9B-P sends one side record; a slice that was not reached keeps
its commands and marks its readbacks LATE. PUBLISH_STREAMS at K sends, where the entry arrived in time, through its
open gate and within its window, the frame of each stream of the entries of that K, with its VLAN and redundancy tags,
with the header of R106 and the present records, its SEQUENCE counting every commit instant of the stream. Where a
clause rests on a choice of the model, the choice is in log entries 31, 53. It says of each of these commands, under
hypotheses on the state and the operands alone, that exec answers a next state with its effect: commitOwnSlices,
publishStreams. -/
def Obligations.CommitAndPublish : Prop :=
  (∀ (e k i : Nat) (u : Instant) (d : BitVec 128) (r : W64) (s : State),
    s.entGrp e = some d → s.runsNow e d 5 u = true → s.acting = true → entTargets (s.entry e) = [k] → k < 4 →
    i < 8 → s.commitInTime k e u = true → s.ucOut (8 * k + i) = true →
    s.flag Fld.UC_CFG_OUTKIND (8 * k + i) = false →
    (s.upTo u).ln.rolled.contains (s.ucCfg (8 * k + i)).cmd = false →
    r = (s.upTo u).piGet (s.ucCfg (8 * k + i)).cmd → recKind r = 1 → recBit r qNoAuth = false →
    Completes (.commitOwnSlices e u) s [.out, .regs, .levels, .sn, .pw, .ln, .le, .la, .bn, .io, .pi, .subc, .blk,
      .mem] [.SUP_ISLAND, .LN_STATUS, .LN_OVERRUN, .LN_SUB, .LE_OVERRUN, .LE_FAULT, .LE_LOAD, .LA_STATUS, .LA_SLOT,
      .LA_COUNT, .UC_STAT, .DC_STAT, .DC_GROUP] fun t =>
      (t.uc (8 * k + i)).cmd = some (recVal r) ∧ (t.uc (8 * k + i)).late = false ∧
      (t.uc (8 * k + i)).safed = false ∧ (t.slice k).held = false ∧ (t.slice k).stagesOff = false ∧
      t.flag Fld.UC_STAT_UNASSIGNED (8 * k + i) = false ∧ t.out.length = s.out.length + b2n s.pair) ∧
  (∀ (e k i : Nat) (u : Instant) (d : BitVec 128) (s : State),
    s.entGrp e = some d → s.runsNow e d 5 u = true → s.acting = true → entTargets (s.entry e) = [k] → k < 4 →
    i < 8 → s.commitInTime k e u = false → s.ucOut (8 * k + i) = true →
    s.flag Fld.UC_CFG_OUTKIND (8 * k + i) = false →
    Completes (.commitOwnSlices e u) s [.out, .regs, .levels, .sn, .pw, .ln, .le, .la, .bn, .io, .pi, .subc, .blk,
      .mem] [.SUP_ISLAND, .LN_STATUS, .LN_OVERRUN, .LN_SUB, .LE_OVERRUN, .LE_FAULT, .LE_LOAD, .LA_STATUS, .LA_SLOT,
      .LA_COUNT, .UC_STAT, .DC_STAT, .DC_GROUP] fun t =>
      (t.uc (8 * k + i)).cmd = (s.uc (8 * k + i)).cmd ∧ (t.uc (8 * k + i)).late = true ∧ t.slice k = s.slice k) ∧
  (∀ (e : Nat) (u : Instant) (s : State),
    s.acting = false →
    exec (.commitOwnSlices e u) s = .next s ∧ exec (.publishStreams e u) s = .next s) ∧
  (∀ (e n : Nat) (u : Instant) (d : BitVec 128) (c : PubCfg) (s v : State),
    s.entGrp e = some d → s.runsNow e d 7 u = true → s.acting = true → s.isDue 4 e u = true → s.streamsAt u = [n] →
    s.pubCfg n = some c → c.repl = false → s.epochSendable = true → s.portOpen c.port = true →
    s.gateOpen c.port 6 = true → s.fitsWindow c.port = true → v = s.upTo u →
    Completes (.publishStreams e u) s [.out, .regs, .levels, .sn, .pw, .ln, .le, .la, .bn, .pn, .pi, .subc, .blk,
      .mem] [.SUP_ISLAND, .LN_STATUS, .LN_OVERRUN, .LN_SUB, .LE_OVERRUN, .LE_FAULT, .LE_LOAD, .LA_STATUS, .LA_SLOT,
      .LA_COUNT] fun t =>
      Sends [.stream c.port (streamFrame c.vlan (v.pubHeader n c (pubSeq (Tab.get {} s.ln.pubs n) (Config.period c.cls) u) u) (c.points.map v.pubRec))] s t ∧
      Tab.get {} t.ln.pubs n = { seq := pubSeq (Tab.get {} s.ln.pubs n) (Config.period c.cls) u, started := true, base := u, resumed := false }) ∧
  (∀ (e : Nat) (u : Instant) (d : BitVec 128) (s : State),
    s.entGrp e = some d → s.runsNow e d 7 u = true → s.acting = true → s.isDue 4 e u = false →
    Completes (.publishStreams e u) s [.ln] [] fun t =>
      Tab.get none t.ln.ran e = some u ∧ t.ln.pubs = s.ln.pubs) ∧
  (∀ (p : Pub) (n : Nat) (k : Instant),
    p.started = true → 0 < n → p.base.toNat + n < 2 ^ 64 → k = p.base + BitVec.ofNat 64 n →
    pubSeq p n k = (p.seq + 1) % 4294967296)

/-- A standard or slow loop that completes strictly before its K has its blocks stored, its record set to become
visible at K and its lane freed; one that does not is abandoned: blocks as before but for the overrun count, its
record LATE, counted in its class with source 89. A fast loop that completes before its due instant stores its blocks
and shows its delay in LE_FDELAY; otherwise it is abandoned. A lane is preempted by a ready loop of a higher class. A
lane that fails its test leaves LANE_EN, with source 88, DEGRADED at 7 or 6 lanes and FAILED below 6, where the module
declares itself failed. Where a clause rests on a choice of the model, the choice is in log entries 26, 27, 28, 29. It
says of each of these commands, under hypotheses on the state and the operands alone, that exec answers a next state
with its effect: loopComplete, loopOverrun, fastLoopAbandon, fastLoopComplete, lanePreempt, laneTest. -/
def Obligations.LoopsInTime : Prop :=
  (∀ (l b : Nat) (j : Job) (s v : State),
    (s.run l).job = some j → s.loopAt l = some b → j.fast = false → Instant.before s.pt j.due = true → j.enter = 0 →
    j.badSet = none → j.kind ≠ 2 → v = s.settle s.pt →
    Completes (.loopComplete l) s [.regs, .levels, .sn, .pw, .ln, .le, .la, .bn, .pi, .subc, .blk,
      .mem] [.SUP_ISLAND, .LN_STATUS, .LN_OVERRUN, .LN_SUB, .LE_OVERRUN, .LE_FAULT, .LE_LOAD, .LA_STATUS, .LA_SLOT,
      .LA_COUNT] fun t =>
      (t.run l).job = none ∧ t.blkGet (b + 2) = j.blocks.headD 0 ∧
      (t.ln.vis.any fun x => x.1 == j.due && x.2.1 == ldOut (v.descAt b) % 262144) = true ∧
      t.fld Fld.LE_OVERRUN_LOOPS (ldClass (v.descAt b)) = s.fld Fld.LE_OVERRUN_LOOPS (ldClass (v.descAt b))) ∧
  (∀ (l b : Nat) (j : Job) (s v : State),
    (s.run l).job = some j → s.loopAt l = some b → j.fast = false → Instant.before s.pt j.due = false →
    v = s.settle j.due →
    Completes (.loopOverrun l) s [.regs, .levels, .sn, .pw, .ln, .le, .la, .bn, .pi, .subc, .blk,
      .mem] [.SUP_ISLAND, .LN_STATUS, .LN_OVERRUN, .LN_SUB, .LE_OVERRUN, .LE_FAULT, .LE_LOAD, .LA_STATUS, .LA_SLOT,
      .LA_COUNT] fun t =>
      (t.run l).job = none ∧
      t.fld Fld.LE_OVERRUN_LOOPS (ldClass (v.descAt b)) = satAdd Fld.LE_OVERRUN_LOOPS.top (s.fld Fld.LE_OVERRUN_LOOPS (ldClass (v.descAt b))) 1 ∧
      recBit (t.piGet (ldOut (v.descAt b) % 262144)) qLate = true ∧
      bits (t.blkGet (b + 2)) 119 112 = min 255 (bits (v.blkGet (b + 2)) 119 112 + 1) ∧ Raised 89 t) ∧
  (∀ (l b : Nat) (j : Job) (s : State),
    (s.run l).job = some j → s.loopAt l = some b → j.fast = false → Instant.before s.pt j.due = false →
    exec (.loopComplete l) s = exec (.loopOverrun l) s) ∧
  (∀ (l b : Nat) (j : Job) (s v : State),
    (s.run l).job = some j → s.loopAt l = some b → j.fast = true → Instant.before s.pt j.due = false →
    v = s.settle j.due →
    Completes (.fastLoopAbandon l) s [.regs, .levels, .sn, .pw, .ln, .le, .la, .bn, .pi, .subc, .blk,
      .mem] [.SUP_ISLAND, .LN_STATUS, .LN_OVERRUN, .LN_SUB, .LE_OVERRUN, .LE_FAULT, .LE_LOAD, .LA_STATUS, .LA_SLOT,
      .LA_COUNT] fun t =>
      (t.run l).job = none ∧
      t.fld Fld.LE_OVERRUN_LOOPS (ldClass (v.descAt b)) = satAdd Fld.LE_OVERRUN_LOOPS.top (s.fld Fld.LE_OVERRUN_LOOPS (ldClass (v.descAt b))) 1 ∧
      recBit (t.piGet (ldOut (v.descAt b) % 262144)) qLate = true ∧ Raised 89 t) ∧
  (∀ (l b : Nat) (j : Job) (s v : State),
    (s.run l).job = some j → s.loopAt l = some b → j.fast = true → Instant.before s.pt j.due = true → j.enter = 0 →
    j.badSet = none → j.kind ≠ 2 → v = s.settle s.pt →
    Completes (.fastLoopComplete l) s [.out, .regs, .levels, .sn, .pw, .ln, .le, .la, .bn, .io, .sx, .pi, .subc,
      .blk, .mem] [.SUP_ISLAND, .LN_STATUS, .LN_OVERRUN, .LN_SUB, .LE_OVERRUN, .LE_FAULT, .LE_LOAD, .LE_FDELAY,
      .LA_STATUS, .LA_SLOT, .LA_COUNT, .SX_PORT, .SX_ERR, .UC_STAT, .DC_STAT, .DC_GROUP] fun t =>
      (t.run l).job = none ∧ t.fld Fld.LE_FDELAY_LAST = sat 65535 (s.pt - j.sAt).toNat ∧
      t.fld Fld.LE_FDELAY_MAX = max (sat 65535 (s.pt - j.sAt).toNat) (s.fld Fld.LE_FDELAY_MAX) ∧
      bits (t.blkGet (b + 2)) 223 160 = s.pt.toNat ∧
      bits (t.blkGet (b + 2)) 239 224 = sat 65535 (s.pt - j.sAt).toNat) ∧
  (∀ (l : Nat) (s : State),
    (s.run l).job = none →
    exec (.loopComplete l) s = .next s ∧ exec (.loopOverrun l) s = .next s ∧
    exec (.fastLoopComplete l) s = .next s ∧ exec (.fastLoopAbandon l) s = .next s) ∧
  (∀ (k : Fin 8) (l c : Nat) (q : List Nat) (s : State),
    s.lane k.val = c :: q → s.laneIn k.val = true → s.le.ready.contains l = true → s.loopClass l < s.loopClass c →
    Completes (.lanePreempt k l) s [.le] [] fun t =>
      t.lane k.val = l :: c :: q ∧ t.le.ready = s.le.ready.erase l) ∧
  (∀ (k : Fin 8) (s : State),
    s.laneIn k.val = true → s.lane k.val = [] →
    Completes (.laneTest k false) s [.regs, .levels, .boot, .sn, .pw, .ln, .le, .la, .bn, .up, .pi, .subc, .blk,
      .mem] [.SUP_ISLAND, .LN_STATUS, .LN_OVERRUN, .LN_SUB, .LE_CTL, .LE_OVERRUN, .LE_FAULT, .LE_LOAD, .LA_STATUS,
      .LA_SLOT, .LA_COUNT, .BN_STATUS, .BN_LOOP] fun t =>
      t.fld Fld.LE_CTL_LANE_EN = (putBit (BitVec.ofNat 8 (s.fld Fld.LE_CTL_LANE_EN)) k.val false).toNat ∧
      t.lane k.val = [] ∧ Raised 88 t) ∧
  (∀ (k : Fin 8) (n : Nat) (s : State),
    s.laneIn k.val = true → n = ((List.range 8).filter fun i => i != k.val && s.laneIn i).length →
    Completes (.laneTest k false) s [.regs, .levels, .boot, .sn, .pw, .ln, .le, .la, .bn, .up, .pi, .subc, .blk,
      .mem] [.SUP_ISLAND, .LN_STATUS, .LN_OVERRUN, .LN_SUB, .LE_CTL, .LE_OVERRUN, .LE_FAULT, .LE_LOAD, .LA_STATUS,
      .LA_SLOT, .LA_COUNT, .BN_STATUS, .BN_LOOP] fun t =>
      t.flag Fld.LE_CTL_DEGRADED = (n == 6 || n == 7) ∧ t.flag Fld.LE_CTL_FAILED = decide (n < 6) ∧
      (n < 6 → t.bn.failed = true) ∧ Raised 88 t) ∧
  (∀ (k : Fin 8) (s : State),
    exec (.laneTest k true) s = .next s)

/-- AUTO for a loop not in FAULT, MANUAL for one not in FAULT with a finite value, MANUAL_VALUE for one in MANUAL with
a finite value, RESTART for one in FAULT and SWITCH by the supervisor for a set that is held and passes the checks, or
is the one in use, become the pending command of the loop with the value of LE_CMD_VAL, the result of the writer being
0, or 0x08 where it replaces one. A command that is not accepted leaves its code in the register of its writer and
changes nothing else: 0x01 without such a loop, 0x03 for SWITCH by the application, 0x04 in FAULT, 0x05 for a value
that is not finite, 0x06 and 0x07 for the set of a SWITCH, 0x0A and 0x0B for the wrong mode. Where a clause rests on a
choice of the model, the choice is in log entries 11, 88. It says of each of these commands, under hypotheses on the
state and the operands alone, that exec answers a next state with its effect: loopAuto, loopManual, loopManualValue,
loopRestart, loopSwitch. -/
def Obligations.LoopCommands : Prop :=
  (∀ (w : Writer) (l b : Nat) (d : BitVec 512) (x : LoopWork) (s : State),
    s.loopOf l = some (b, d, x) → x.state ≠ 3 →
    Completes (.loopAuto w l) s [.regs, .le] [.LE_CMD_RESULT] fun t =>
      (t.run l).pend = some { cmd := 1, set := 0, val := s.reg .LE_CMD_VAL (wIdx w) } ∧
      t.fld Fld.LE_CMD_RESULT_CODE (wIdx w) = (if (s.run l).pend.isSome then 8 else 0) ∧
      InstKept .LE_CMD_RESULT (wIdx w) s t ∧ ∀ k, k ≠ l → t.run k = s.run k) ∧
  (∀ (w : Writer) (l b : Nat) (d : BitVec 512) (x : LoopWork) (s : State),
    s.loopOf l = some (b, d, x) → x.state ≠ 3 → (Fl.ofBits (s.reg .LE_CMD_VAL (wIdx w))).finite = true →
    Completes (.loopManual w l) s [.regs, .le] [.LE_CMD_RESULT] fun t =>
      (t.run l).pend = some { cmd := 2, set := 0, val := s.reg .LE_CMD_VAL (wIdx w) } ∧
      t.fld Fld.LE_CMD_RESULT_CODE (wIdx w) = (if (s.run l).pend.isSome then 8 else 0) ∧
      InstKept .LE_CMD_RESULT (wIdx w) s t ∧ ∀ k, k ≠ l → t.run k = s.run k) ∧
  (∀ (w : Writer) (l b : Nat) (d : BitVec 512) (x : LoopWork) (s : State),
    s.loopOf l = some (b, d, x) → x.state = 1 → (Fl.ofBits (s.reg .LE_CMD_VAL (wIdx w))).finite = true →
    Completes (.loopManualValue w l) s [.regs, .le] [.LE_CMD_RESULT] fun t =>
      (t.run l).pend = some { cmd := 3, set := 0, val := s.reg .LE_CMD_VAL (wIdx w) } ∧
      t.fld Fld.LE_CMD_RESULT_CODE (wIdx w) = (if (s.run l).pend.isSome then 8 else 0) ∧
      InstKept .LE_CMD_RESULT (wIdx w) s t ∧ ∀ k, k ≠ l → t.run k = s.run k) ∧
  (∀ (w : Writer) (l b : Nat) (d : BitVec 512) (x : LoopWork) (s : State),
    s.loopOf l = some (b, d, x) → x.state = 3 →
    Completes (.loopRestart w l) s [.regs, .le] [.LE_CMD_RESULT] fun t =>
      (t.run l).pend = some { cmd := 4, set := 0, val := s.reg .LE_CMD_VAL (wIdx w) } ∧
      t.fld Fld.LE_CMD_RESULT_CODE (wIdx w) = (if (s.run l).pend.isSome then 8 else 0) ∧
      InstKept .LE_CMD_RESULT (wIdx w) s t ∧ ∀ k, k ≠ l → t.run k = s.run k) ∧
  (∀ (l b : Nat) (n : Fin 4) (d : BitVec 512) (x : LoopWork) (s : State),
    s.loopOf l = some (b, d, x) → n.val = x.active ∨ (x.held n.val).any (fun c => setValid d c) = true →
    Completes (.loopSwitch .sup l n) s [.regs, .le] [.LE_CMD_RESULT] fun t =>
      (t.run l).pend = some { cmd := 5, set := n.val, val := s.reg .LE_CMD_VAL 1 } ∧
      t.fld Fld.LE_CMD_RESULT_CODE 1 = (if (s.run l).pend.isSome then 8 else 0) ∧ InstKept .LE_CMD_RESULT 1 s t) ∧
  (∀ (l b : Nat) (n : Fin 4) (d : BitVec 512) (x : LoopWork) (s : State),
    s.loopOf l = some (b, d, x) → n.val ≠ x.active →
    (x.held n.val = none → exec (.loopSwitch .sup l n) s = .next (s.setFld Fld.LE_CMD_RESULT_CODE 7 1)) ∧
    ((x.held n.val).any (fun c => !setValid d c) = true → exec (.loopSwitch .sup l n) s = .next (s.setFld Fld.LE_CMD_RESULT_CODE 6 1)) ∧
    exec (.loopSwitch .app l n) s = .next (s.setFld Fld.LE_CMD_RESULT_CODE 3 0)) ∧
  (∀ (w : Writer) (l : Nat) (s : State),
    s.loopOf l = none →
    exec (.loopAuto w l) s = .next (s.setFld Fld.LE_CMD_RESULT_CODE 1 (wIdx w)) ∧
    exec (.loopManual w l) s = exec (.loopAuto w l) s ∧ exec (.loopManualValue w l) s = exec (.loopAuto w l) s ∧
    exec (.loopRestart w l) s = exec (.loopAuto w l) s ∧ ∀ n, exec (.loopSwitch w l n) s = exec (.loopAuto w l) s) ∧
  (∀ (l b : Nat) (n : Fin 4) (d : BitVec 512) (x : LoopWork) (s : State),
    s.loopOf l = some (b, d, x) →
    exec (.loopSwitch .app l n) s = .next (s.setFld Fld.LE_CMD_RESULT_CODE 3 0)) ∧
  (∀ (w : Writer) (l b : Nat) (d : BitVec 512) (x : LoopWork) (s : State),
    s.loopOf l = some (b, d, x) → x.state = 3 →
    exec (.loopAuto w l) s = .next (s.setFld Fld.LE_CMD_RESULT_CODE 4 (wIdx w)) ∧
    exec (.loopManual w l) s = .next (s.setFld Fld.LE_CMD_RESULT_CODE 4 (wIdx w)) ∧
    exec (.loopManualValue w l) s = .next (s.setFld Fld.LE_CMD_RESULT_CODE 4 (wIdx w))) ∧
  (∀ (w : Writer) (l b : Nat) (d : BitVec 512) (x : LoopWork) (s : State),
    s.loopOf l = some (b, d, x) → x.state ≠ 3 → (Fl.ofBits (s.reg .LE_CMD_VAL (wIdx w))).finite = false →
    exec (.loopManual w l) s = .next (s.setFld Fld.LE_CMD_RESULT_CODE 5 (wIdx w)) ∧
    exec (.loopManualValue w l) s = .next (s.setFld Fld.LE_CMD_RESULT_CODE 5 (wIdx w))) ∧
  (∀ (w : Writer) (l b : Nat) (d : BitVec 512) (x : LoopWork) (s : State),
    s.loopOf l = some (b, d, x) → x.state ≠ 3 →
    (exec (.loopRestart w l) s = .next (s.setFld Fld.LE_CMD_RESULT_CODE 11 (wIdx w))) ∧
    (x.state ≠ 1 → (Fl.ofBits (s.reg .LE_CMD_VAL (wIdx w))).finite = true → exec (.loopManualValue w l) s = .next (s.setFld Fld.LE_CMD_RESULT_CODE 10 (wIdx w))))

/-- At S a living, loaded shell that a sample entry of the group reached hands on one sample set with the records of
its channels of the group's class, due at the group's C; a full channel discards it. A digital input's record is its
accepted state, a counter's its count; a universal channel of the group that brings no word keeps its record with
LATE, and one out of service gives 0 with OUT_OF_RANGE, or in an output COMPLIANCE. An unsmoothed sample carries the
value in engineering units, the span's end with OUT_OF_RANGE where the word lies outside it; a filter window of a
digital input that a reload broke leaves the record with LATE. Where a clause rests on a choice of the model, the
choice is in log entries 31, 32, 33. It says of each of these commands, under hypotheses on the state and the operands
alone, that exec answers a next state with its effect: sampleOwnSlices. -/
def Obligations.SamplesOfOwnSlices : Prop :=
  (∀ (k : Fin 10) (g : Nat) (u : Instant) (ws : List (Fin 32 × List (BitVec 24))) (d : BitVec 128) (s v : State),
    s.group g = some d → s.launching (grpClass d) = true → s.alive (8 + k.val) = true →
    (s.slice k.val).loaded = true → s.reached u = true → (s.sampleDue k.val g u).isEmpty = false →
    (Tab.get [] s.ln.chans (32 + k.val)).length < 4 → v = s.settle u →
    Completes (.sampleOwnSlices k g u ws) s [.free, .regs, .levels, .pw, .ln, .bn, .io, .pi, .subc, .blk,
      .mem] [.SUP_ISLAND, .LN_STATUS, .LN_OVERRUN, .LN_SUB, .UC_STAT, .DC_GROUP] fun t =>
      Tab.get [] t.ln.chans (32 + k.val) = Tab.get [] s.ln.chans (32 + k.val) ++ [.samples g (grpCOfS d u) (v.sampleList k.val (grpClass d) u ws (List.range 8)).2] ∧
      (t.sampleDue k.val g u).isEmpty = true ∧ ∀ n, n < 6 → t.fld Fld.DC_GROUP_STATE n = s.fld Fld.DC_GROUP_STATE n) ∧
  (∀ (k : Fin 10) (g : Nat) (u : Instant) (ws : List (Fin 32 × List (BitVec 24))) (d : BitVec 128) (s : State),
    s.group g = some d → s.launching (grpClass d) = true → s.alive (8 + k.val) = true →
    (s.slice k.val).loaded = true → s.reached u = true → (s.sampleDue k.val g u).isEmpty = false →
    4 ≤ (Tab.get [] s.ln.chans (32 + k.val)).length →
    Completes (.sampleOwnSlices k g u ws) s [.free, .regs, .levels, .pw, .ln, .bn, .io, .pi, .subc, .blk,
      .mem] [.SUP_ISLAND, .LN_STATUS, .LN_OVERRUN, .LN_SUB, .UC_STAT, .DC_GROUP] fun t =>
      t.ln.chans = s.ln.chans ∧
      t.fld Fld.SUP_ISLAND_OVERFLOW 1 = satAdd Fld.SUP_ISLAND_OVERFLOW.top (s.fld Fld.SUP_ISLAND_OVERFLOW 1) 1) ∧
  (∀ (k : Fin 10) (g : Nat) (u : Instant) (ws : List (Fin 32 × List (BitVec 24))) (s : State),
    s.alive (8 + k.val) = false ∨ s.sampleDue k.val g u = [] →
    exec (.sampleOwnSlices k g u ws) s = .next s) ∧
  (∀ (m cls : Nat) (u : Instant) (ws : List (Fin 32 × List (BitVec 24))) (s : State),
    m < 48 → s.dcInGroup m cls = true → s.dcMode m = 1 →
    s.windowOver (s.slice (4 + m / 8)).spoiled u (dcFilterNs (s.fld Fld.DC_CFG_FILT m)) = false →
    (s.sampleList (4 + m / 8) cls u ws [m % 8]).2 = [((s.dcCfg m).point, freshRec 4 (s.dcMarks m) (BitVec.ofNat 32 (b2n (s.dc m).state)))]) ∧
  (∀ (m cls : Nat) (u : Instant) (ws : List (Fin 32 × List (BitVec 24))) (s : State),
    m < 48 → s.dcInGroup m cls = true → s.dcMode m = 2 →
    s.windowOver (s.slice (4 + m / 8)).spoiled u (dcFilterNs (s.fld Fld.DC_CFG_FILT m)) = false →
    (s.sampleList (4 + m / 8) cls u ws [m % 8]).2 = [((s.dcCfg m).point, freshRec 3 (s.dcMarks m) (s.dc m).count)]) ∧
  (∀ (m cls : Nat) (u : Instant) (ws : List (Fin 32 × List (BitVec 24))) (s : State) (p : Nat),
    m < 48 → p = (s.dcCfg m).point → s.dcInGroup m cls = true → s.dcMode m ≠ 3 →
    s.windowOver (s.slice (4 + m / 8)).spoiled u (dcFilterNs (s.fld Fld.DC_CFG_FILT m)) = true →
    (s.sampleList (4 + m / 8) cls u ws [m % 8]).2 = [(p, lateRec (s.pointCfg p) (s.piGet p))]) ∧
  (∀ (n cls p : Nat) (u : Instant) (s : State),
    n < 32 → p = (s.ucCfg n).point → s.ucInGroup n cls = true →
    (s.sampleList (n / 8) cls u [] [n % 8]).2 = [(p, lateRec (s.pointCfg p) (s.piGet p))]) ∧
  (∀ (n : Fin 32) (cls : Nat) (u : Instant) (w : Fl) (s : State),
    (s.uc n.val).oos = true →
    (s.ucSample n.val cls u w).1 = s ∧
    (s.ucSample n.val cls u w).2 = freshRec 1 (if s.ucOut n.val then 16 else 32) 0) ∧
  (∀ (n : Fin 32) (cls : Nat) (u : Instant) (w : Fl) (s : State),
    (s.uc n.val).oos = false → (s.ucValue n.val w).2 = true ∨ (s.ucCfg n.val).tauCs = 0 →
    recVal (s.ucSample n.val cls u w).2 = (s.ucValue n.val w).1.toBits ∧ recAge (s.ucSample n.val cls u w).2 = 0 ∧
    recKind (s.ucSample n.val cls u w).2 = 1 ∧ recBit (s.ucSample n.val cls u w).2 qLate = false ∧
    ((s.ucValue n.val w).2 = true → recBit (s.ucSample n.val cls u w).2 qRange = true))

/-- A diagnostic that the channel's mode evaluates and that does not stand raises its live and latched bits, its
record (0x6100 + b, 0x6200 + b) and its slice's source; one that stands changes nothing. A voltage output at its limit
turns off, at a supply after 100 ms, and a retry drives it again unless still limited; RTD excitation stops at a
terminal wired to a supply. FOREIGN names the channel whose switching the terminal followed. Clearing takes the live
bit alone; CAL stays. The cross-check moves to the next channel and judges 0.1 % of span. A thermocouple loop above 20
kΩ is open. A shell above 125 °C turns its stages off, below 115 °C they may return. An element code that does not
serve the mode, or a change, takes the channel out of service. Where a clause rests on a choice of the model, the
choice is in log entries 33, 34. It says of each of these commands, under hypotheses on the state and the operands
alone, that exec answers a next state with its effect: diagRaised, diagCleared, crosscheckRound, tcOpenTest,
voutRetry, shellTempOff, shellTempMeasure, elementCheck. -/
def Obligations.ChannelDiagnostics : Prop :=
  (∀ (n : Fin 32) (b : Fin 16) (cause : DiagCause) (s : State),
    s.ucServes n.val = true → s.ucApplies n.val b.val = true → s.liveUc n.val b.val = false → s.ucMode n.val ≠ 8 →
    b.val ≠ 15 → (s.ucMode n.val ≠ 4 ∨ b.val ≠ 4 ∨ cause ≠ .clamped) → (s.uc n.val).limAt = none →
    s.takesRecord (8 + n.val / 8) →
    Completes (.diagRaised (.uni n) b cause) s [.regs, .levels, .sn] [.UC_STAT, .UC_DIAG] fun t =>
      t.liveUc n.val b.val = true ∧ bitAt (BitVec.ofNat 16 (t.fld Fld.UC_DIAG_LATCH n.val)) b.val = true ∧
      Records [0x6100 + b.val] s t ∧ Raised (66 + n.val / 8) t ∧ InstKept .UC_STAT n.val s t ∧
      InstKept .UC_DIAG n.val s t) ∧
  (∀ (n : Fin 32) (b : Fin 16) (cause : DiagCause) (s : State),
    s.liveUc n.val b.val = true → s.ucMode n.val ≠ 8 → b.val ≠ 15 →
    (s.ucMode n.val ≠ 4 ∨ b.val ≠ 4 ∨ cause ≠ .clamped) → (s.uc n.val).limAt = none →
    exec (.diagRaised (.uni n) b cause) s = .next s) ∧
  (∀ (n : Fin 32) (b : Fin 16) (cause : DiagCause) (s : State),
    s.ucServes n.val = true → s.ucApplies n.val b.val = true → s.ucMode n.val = 8 → b.val = 5 →
    (s.uc n.val).limAt = none →
    Completes (.diagRaised (.uni n) b cause) s [.regs, .levels, .sn, .io] [.UC_STAT, .UC_DIAG, .SUP_ISLAND] fun t =>
      (t.uc n.val).vOff = true ∧ t.flag Fld.UC_STAT_STAGE_ON n.val = false ∧ t.liveUc n.val b.val = true) ∧
  (∀ (n : Fin 32) (b : Fin 16) (cause : DiagCause) (s : State),
    s.ucServes n.val = true → s.ucMode n.val = 8 → b.val = 7 → (s.uc n.val).limAt = none →
    (s.uc n.val).vOff = false →
    Completes (.diagRaised (.uni n) b cause) s [.regs, .levels, .sn, .io] [.UC_STAT, .UC_DIAG, .SUP_ISLAND] fun t =>
      (t.uc n.val).limAt = some s.mt.frc ∧ (t.uc n.val).vOff = false ∧
      t.flag Fld.UC_STAT_STAGE_ON n.val = s.flag Fld.UC_STAT_STAGE_ON n.val ∧ t.liveUc n.val b.val = true) ∧
  (∀ (n : Fin 32) (b : Fin 16) (cause : DiagCause) (f : W64) (s : State),
    (s.uc n.val).limAt = some f → 100000000 ≤ (s.mt.frc - f).toNat → s.ucServes n.val = false →
    Completes (.diagRaised (.uni n) b cause) s [.regs, .io] [.UC_STAT] fun t =>
      (t.uc n.val).vOff = true ∧ (t.uc n.val).limAt = none ∧ t.flag Fld.UC_STAT_STAGE_ON n.val = false) ∧
  (∀ (n : Fin 32) (b : Fin 16) (s : State),
    s.ucServes n.val = true → s.ucMode n.val = 4 → b.val = 4 → (s.uc n.val).limAt = none →
    Completes (.diagRaised (.uni n) b .clamped) s [.regs, .levels, .sn, .io] [.UC_STAT, .UC_DIAG,
      .SUP_ISLAND] fun t =>
      (t.uc n.val).noExc = true ∧ t.flag Fld.UC_STAT_STAGE_ON n.val = false ∧ t.liveUc n.val 4 = true) ∧
  (∀ (m : Fin 48) (b : Fin 16) (cause : DiagCause) (s : State),
    s.dcServes m.val = true → s.dcApplies m.val b.val = true → s.liveDc m.val b.val = false → b.val ≠ 4 →
    s.takesRecord (12 + m.val / 8) →
    Completes (.diagRaised (.dig m) b cause) s [.regs, .levels, .sn] [.DC_STAT, .DC_DIAG] fun t =>
      t.liveDc m.val b.val = true ∧ bitAt (BitVec.ofNat 16 (t.fld Fld.DC_DIAG_LATCH m.val)) b.val = true ∧
      Records [0x6200 + b.val] s t ∧ Raised (70 + m.val / 8) t ∧ InstKept .DC_STAT m.val s t ∧
      InstKept .DC_DIAG m.val s t) ∧
  (∀ (m j : Fin 48) (b : Fin 16) (s : State),
    s.dcServes m.val = true → s.dcApplies m.val b.val = true → b.val = 4 → s.foreignBy m.val j.val = true →
    Completes (.diagRaised (.dig m) b (.foreign j)) s [.regs, .levels, .sn] [.DC_STAT, .DC_DIAG,
      .SUP_ISLAND] fun t =>
      t.liveDc m.val 4 = true ∧ t.liveDc m.val 3 = false ∧ t.fld Fld.DC_STAT_SRC m.val = j.val) ∧
  (∀ (m j : Fin 48) (b : Fin 16) (s : State),
    b.val = 4 → s.foreignBy m.val j.val = false →
    exec (.diagRaised (.dig m) b (.foreign j)) s = .next s) ∧
  (∀ (n : Fin 32) (b : Fin 16) (s : State),
    b.val ≠ 15 → b.val ≠ 7 → (s.ucMode n.val ≠ 4 ∨ b.val ≠ 4) → (s.uc n.val).limAt = none →
    Completes (.diagCleared (.uni n) b) s [.regs] [.UC_STAT] fun t =>
      t.liveUc n.val b.val = false ∧ (∀ c, c < 16 → c ≠ b.val → t.liveUc n.val c = s.liveUc n.val c) ∧
      InstKept .UC_STAT n.val s t) ∧
  (∀ (n : Fin 32) (s : State),
    (s.uc n.val).limAt = none →
    exec (.diagCleared (.uni n) 15) s = .next s) ∧
  (∀ (n : Fin 32) (s : State),
    (s.uc n.val).limAt = none →
    Completes (.diagCleared (.uni n) 7) s [.regs, .io] [.UC_STAT] fun t =>
      t.liveUc n.val 7 = false ∧ InstKept .UC_STAT n.val s t) ∧
  (∀ (m : Fin 48) (b : Fin 16) (s : State),
    Completes (.diagCleared (.dig m) b) s [.regs, .io] [.DC_STAT] fun t =>
      t.liveDc m.val b.val = false ∧ (b.val = 6 → (t.dc m.val).hot = false) ∧ (b.val ≠ 6 → t.io = s.io) ∧
      InstKept .DC_STAT m.val s t) ∧
  (∀ (k : Fin 4) (own check : F32) (i : Nat) (s : State),
    (s.slice k.val).loaded = true → s.alive (8 + k.val) = true → (s.slice k.val).next = i →
    s.ucServes (8 * k.val + i) = true → s.ucApplies (8 * k.val + i) 9 = true →
    Completes (.crosscheckRound k own check) s [.regs, .levels, .sn, .io] [.UC_STAT, .UC_DIAG, .SUP_ISLAND] fun t =>
      (t.slice k.val).next = (i + 1) % 8 ∧
      t.liveUc (8 * k.val + i) 9 = Fl.lt (Fl.div (s.ucWidth (8 * k.val + i)) (Fl.ofNat 1000)) (Fl.sub (Fl.ofBits own) (Fl.ofBits check)).abs) ∧
  (∀ (n : Fin 32) (ohms : Nat) (s : State),
    s.ucServes n.val = true → s.ucMode n.val = 5 → s.shows (8 + n.val / 8) = true →
    Completes (.tcOpenTest n ohms) s [.regs, .levels, .sn] [.UC_STAT, .UC_DIAG, .SUP_ISLAND] fun t =>
      t.liveUc n.val 0 = decide (20000 < ohms)) ∧
  (∀ (n : Fin 32) (x : Bool) (s : State),
    s.ucMode n.val = 8 → (s.uc n.val).vOff = true →
    Completes (.voutRetry n x) s [.regs, .io] [.UC_STAT] fun t =>
      t.uc n.val = { s.uc n.val with vOff := x } ∧ (x = true → t.flag Fld.UC_STAT_STAGE_ON n.val = false) ∧
      InstKept .UC_STAT n.val s t) ∧
  (∀ (k : Fin 10) (c : Int) (s : State),
    125 < c →
    Completes (.shellTempOff k c) s [.regs, .io] [.UC_STAT, .UC_SLICE, .DC_STAT, .DC_GROUP] fun t =>
      (t.slice k.val).tempOff = true ∧
      (∀ i, i < 8 → k.val < 4 → s.ucOut (8 * k.val + i) = true → t.flag Fld.UC_STAT_STAGE_ON (8 * k.val + i) = false) ∧
      (∀ i, i < 8 → 4 ≤ k.val → t.flag Fld.DC_STAT_STAGE_ON (8 * (k.val - 4) + i) = false)) ∧
  (∀ (k : Fin 10) (c : Int) (s : State),
    c < 115 →
    Completes (.shellTempOff k c) s [.regs, .io] [.UC_SLICE, .DC_GROUP] fun t =>
      (t.slice k.val).tempOff = false) ∧
  (∀ (k : Fin 10) (c : Int) (s : State),
    115 ≤ c → c ≤ 125 →
    Completes (.shellTempOff k c) s [.regs] [.UC_SLICE, .DC_GROUP] fun t =>
      (k.val < 4 → t.flag Fld.UC_SLICE_TEMP_WARN k.val = decide (105 < c)) ∧ t.io = s.io) ∧
  (∀ (k : Fin 10) (c : Int) (s : State),
    -128 ≤ c → c ≤ 127 →
    Completes (.shellTempMeasure k c) s [.regs, .free, .io] [.UC_SLICE, .DC_GROUP] fun t =>
      (k.val < 4 → t.fld Fld.UC_SLICE_TEMP k.val = ofSigned 8 c ∧ t.flag Fld.UC_SLICE_TEMP_WARN k.val = decide (105 < c)) ∧
      (4 ≤ k.val → t.fld Fld.DC_GROUP_TEMP (k.val - 4) = ofSigned 8 c) ∧
      (t.slice k.val).tempOff = ((s.slice k.val).tempOff && decide (115 ≤ c))) ∧
  (∀ (n : Fin 32) (e : Nat) (s : State),
    s.ucServes n.val = true → elemServes (s.ucMode n.val) e = false →
    Completes (.elementCheck n e) s [.regs, .levels, .sn, .io] [.UC_STAT, .UC_DIAG, .SUP_ISLAND] fun t =>
      (t.uc n.val).elem = some e ∧ (t.uc n.val).oos = true ∧ t.flag Fld.UC_STAT_CAL_OK n.val = false ∧
      t.flag Fld.UC_STAT_STAGE_ON n.val = false ∧ t.liveUc n.val 15 = true) ∧
  (∀ (n : Fin 32) (e : Nat) (s : State),
    (s.uc n.val).elem = none ∨ (s.uc n.val).elem = some e → elemServes (s.ucMode n.val) e = true →
    Completes (.elementCheck n e) s [.io] [] fun t =>
      t.uc n.val = { s.uc n.val with elem := some e })

/-- On a channel with HART whose shell shows authority and carries no pass-through frame, connecting sends command 0,
shows whether the identity is the declared one and what the reply carries; a scan sends command 9 unless a burst
message serves. A response that serves shows its code and device status, restarts the failure count, clears HART_LOST
and mirrors the malfunction bit. A timeout counts as a failure and raises HART_LOST from the third; a pass-through
frame's timeout is answered. Where a clause rests on a choice of the model, the choice is in log entries 8, 34. It
says of each of these commands, under hypotheses on the state and the operands alone, that exec answers a next state
with its effect: hartConnect, hartPoll, hartResponse, hartTimeout. -/
def Obligations.HartTransactions : Prop :=
  (∀ (n : Fin 32) (i : Nat) (r : HartReply) (s : State),
    s.hartOn n.val = true → s.hartPassing n.val = false → s.shows (8 + n.val / 8) = true → r.malf = false →
    Completes (.hartConnect n (some (i, r))) s [.regs, .out, .io] [.UC_HART, .UC_STAT] fun t =>
      t.flag Fld.UC_HART_CONNECTED n.val = (i == (s.ucCfg n.val).hartId) ∧
      t.fld Fld.UC_HART_RESPONSE n.val = r.code.toNat ∧ t.fld Fld.UC_HART_DEVICE n.val = r.device.toNat ∧
      t.fld Fld.UC_HART_FAILS n.val = 0 ∧ t.liveUc n.val 11 = false ∧ t.flag Fld.UC_HART_BURST_SEEN n.val = false ∧
      (t.uc n.val).hart = .none ∧ Sends [.hart n.val 0 (s.fld Fld.UC_CFG_HART n.val == 1) []] s t ∧
      InstKept .UC_HART n.val s t) ∧
  (∀ (n : Fin 32) (s : State),
    s.hartOn n.val = true → s.hartPassing n.val = false → s.shows (8 + n.val / 8) = true →
    Completes (.hartConnect n none) s [.regs, .out, .io] [.UC_HART] fun t =>
      t.flag Fld.UC_HART_CONNECTED n.val = false ∧ (t.uc n.val).hart = .connect ∧
      Sends [.hart n.val 0 (s.fld Fld.UC_CFG_HART n.val == 1) []] s t) ∧
  (∀ (n : Fin 32) (s : State),
    s.hartOn n.val = true → s.hartPassing n.val = false → s.shows (8 + n.val / 8) = true →
    s.flag Fld.UC_HART_CONNECTED n.val = true → (s.uc n.val).burst = false →
    Completes (.hartPoll n) s [.out, .regs, .levels, .sn, .ln, .bn, .io, .pi, .blk, .mem] [.SUP_ISLAND, .UC_STAT,
      .UC_DIAG, .UC_HART] fun t =>
      (t.uc n.val).hart = .poll ∧ (t.uc n.val).fresh = false ∧
      Sends [.hart n.val 9 (s.fld Fld.UC_CFG_HART n.val == 1) (s.ucCfg n.val).hartVars] s t ∧
      ((s.uc n.val).fresh = false → (s.uc n.val).scan ≠ 0 → ∀ p ∈ (s.ucCfg n.val).hartPts, recBit (t.piGet p) qLate = true)) ∧
  (∀ (n : Fin 32) (s : State),
    s.hartOn n.val = true → (s.uc n.val).hart = .none → s.shows (8 + n.val / 8) = true →
    s.flag Fld.UC_HART_CONNECTED n.val = true → (s.uc n.val).burst = true →
    Completes (.hartPoll n) s [.regs, .levels, .sn, .ln, .bn, .io, .pi, .blk, .mem] [.SUP_ISLAND, .UC_STAT,
      .UC_DIAG, .UC_HART] fun t =>
      (t.uc n.val).hart = (s.uc n.val).hart ∧ (t.uc n.val).burst = false) ∧
  (∀ (n : Fin 32) (r : HartReply) (s : State),
    s.hartOn n.val = false ∨ s.flag Fld.UC_HART_CONNECTED n.val = false →
    exec (.hartResponse n r) s = .next s) ∧
  (∀ (n : Fin 32) (r : HartReply) (s : State),
    s.hartServes n.val r = true → r.burst = false → r.malf = false →
    Completes (.hartResponse n r) s [.regs, .ln, .io] [.UC_STAT, .UC_HART] fun t =>
      t.fld Fld.UC_HART_RESPONSE n.val = r.code.toNat ∧ t.fld Fld.UC_HART_DEVICE n.val = r.device.toNat ∧
      t.flag Fld.UC_HART_MORE_STATUS n.val = r.more ∧ t.fld Fld.UC_HART_FAILS n.val = 0 ∧
      t.liveUc n.val 11 = false ∧ t.liveUc n.val 12 = false ∧ (t.uc n.val).hart = .none ∧ (t.uc n.val).fresh = true) ∧
  (∀ (n : Fin 32) (c : UcChan) (s : State),
    s.uc n.val = c → c.hart = .poll ∨ c.hart = .connect →
    Completes (.hartTimeout n) s [.regs, .levels, .sn, .io] [.UC_STAT, .UC_DIAG, .UC_HART, .SUP_ISLAND] fun t =>
      t.fld Fld.UC_HART_FAILS n.val = satAdd Fld.UC_HART_FAILS.top (s.fld Fld.UC_HART_FAILS n.val) 1 ∧
      (t.uc n.val).hart = .none ∧ (2 ≤ s.fld Fld.UC_HART_FAILS n.val → t.liveUc n.val 11 = true)) ∧
  (∀ (n : Fin 32) (k : Nat) (id : Word) (s : State),
    (s.uc n.val).hart = .pass k id →
    Completes (.hartTimeout n) s [.out, .regs, .levels, .sn, .io, .pn] [.SUP_ISLAND, .PN_DROP, .UC_STAT, .UC_DIAG,
      .UC_HART] fun t =>
      (t.uc n.val).hart = .none ∧ t.flag Fld.UC_HART_PASS_BUSY n.val = false ∧
      t.fld Fld.UC_HART_FAILS n.val = satAdd Fld.UC_HART_FAILS.top (s.fld Fld.UC_HART_FAILS n.val) 1 ∧
      Answers [] k (svcOut k id 0x8050 0 []) s t) ∧
  (∀ (n : Fin 32) (s : State),
    (s.uc n.val).hart = .none → (s.uc n.val).pass = none ∨ s.shows (8 + n.val / 8) = true →
    exec (.hartTimeout n) s = .next s) ∧
  (∀ (n : Fin 32) (k : Nat) (id : Word) (fr : List Byte) (s : State),
    (s.uc n.val).hart = .none → (s.uc n.val).pass = some (k, id, fr) → s.shows (8 + n.val / 8) = false →
    Completes (.hartTimeout n) s [.regs, .io, .out, .pn] [.UC_HART] fun t =>
      (t.uc n.val).pass = none ∧ t.flag Fld.UC_HART_PASS_BUSY n.val = false ∧
      Answers [] k (svcOut k id 0x8050 0 []) s t) ∧
  (∀ (n : Fin 32) (i : Option (Nat × HartReply)) (s : State),
    s.hartOn n.val = false ∨ s.hartPassing n.val = true →
    exec (.hartConnect n i) s = .next s)

/-- An accepted change shows at TERM and becomes the state; after the first commit a counter counts its edge, modulo
2^32. An overloaded output turns off with RETRY and OVERLOAD and is retried while commanded on; a hot junction turns
it off. A supply state follows the thresholds with their hysteresis; its change leaves record 0x6210 + state, and in
OFF every stage of the group is off. The lowest queued output takes its turn. GROUP_OVER stands above 4.4 A with one
record at its rise. In a Z9B-P inputs sink half while the line of the partner is seen. Where a clause rests on a
choice of the model, the choice is in log entries 33, 35, 59. It says of each of these commands, under hypotheses on
the state and the operands alone, that exec answers a next state with its effect: inputChangeAccepted,
outputOverloadOff, outputOverloadRetry, outputOvertempOff, supplyStateChange, reapplyTurn, groupOver, sinkShareChange. -/
def Obligations.DigitalChannels : Prop :=
  (∀ (m : Fin 48) (on : Bool) (s : State),
    s.dcMode m.val = 2 → (s.dc m.val).state ≠ on → s.boot.committed = true → s.flag Fld.RST_POWER_DORMANT = false →
    s.dcCounts m.val on = true →
    Completes (.inputChangeAccepted m on) s [.regs, .io] [.DC_STAT] fun t =>
      (t.dc m.val).count = (s.dc m.val).count + 1 ∧ (t.dc m.val).state = on ∧
      (if on then (t.dc m.val).upAt else (t.dc m.val).downAt) = some s.mt.frc ∧ t.flag Fld.DC_STAT_TERM m.val = on ∧
      InstKept .DC_STAT m.val s t) ∧
  (∀ (m : Fin 48) (on : Bool) (s : State),
    s.dcMode m.val ≠ 2 → (s.dc m.val).state ≠ on → s.flag Fld.RST_POWER_DORMANT = false →
    Completes (.inputChangeAccepted m on) s [.regs, .io] [.DC_STAT] fun t =>
      t.dc m.val = (if on then { s.dc m.val with state := on, upAt := some s.mt.frc } else { s.dc m.val with state := on, downAt := some s.mt.frc }) ∧
      t.flag Fld.DC_STAT_TERM m.val = on ∧ InstKept .DC_STAT m.val s t) ∧
  (∀ (m : Fin 48) (on : Bool) (s : State),
    (s.dc m.val).state = on →
    Completes (.inputChangeAccepted m on) s [.regs] [.DC_STAT] fun t =>
      t.flag Fld.DC_STAT_TERM m.val = on ∧ InstKept .DC_STAT m.val s t) ∧
  (∀ (m : Fin 48) (s : State),
    s.dcMode m.val = 3 → s.flag Fld.DC_STAT_STAGE_ON m.val = true →
    Completes (.outputOverloadOff m) s [.regs, .levels, .sn, .io] [.DC_STAT, .DC_DIAG, .SUP_ISLAND] fun t =>
      t.flag Fld.DC_STAT_STAGE_ON m.val = false ∧ t.flag Fld.DC_STAT_TERM m.val = s.flag Fld.DC_STAT_TERM m.val ∧
      (t.dc m.val).offAt = some s.mt.frc ∧ t.flag Fld.DC_STAT_RETRY m.val = true ∧ t.liveDc m.val 2 = true ∧
      (t.dc m.val).ovl = true) ∧
  (∀ (m : Fin 48) (s : State),
    (s.dc m.val).ovl = true → (s.dc m.val).cmd = some true → s.dcSupply m.val ≠ 3 →
    s.flag Fld.DC_GROUP_REAPPLY (m.val / 8) = false →
    Completes (.outputOverloadRetry m) s [.regs, .io] [.DC_STAT] fun t =>
      (t.dc m.val).ovl = false ∧ t.flag Fld.DC_STAT_RETRY m.val = false ∧
      t.flag Fld.DC_STAT_STAGE_ON m.val = t.dcFree m.val) ∧
  (∀ (m : Fin 48) (s : State),
    (s.dc m.val).ovl = false →
    exec (.outputOverloadRetry m) s = .next s) ∧
  (∀ (m : Fin 48) (s : State),
    s.dcMode m.val = 3 →
    Completes (.outputOvertempOff m) s [.regs, .levels, .sn, .io] [.DC_STAT, .DC_DIAG, .SUP_ISLAND] fun t =>
      t.flag Fld.DC_STAT_STAGE_ON m.val = false ∧ (t.dc m.val).hot = true ∧ t.liveDc m.val 6 = true) ∧
  (∀ (g : Fin 6) (mv st : Nat) (s : State),
    st = supplyNext (s.fld Fld.DC_GROUP_STATE g.val) mv → st ≠ s.fld Fld.DC_GROUP_STATE g.val →
    Completes (.supplyStateChange g mv) s [.regs, .levels, .sn, .io] [.SUP_ISLAND, .DC_STAT, .DC_DIAG,
      .DC_GROUP] fun t =>
      t.fld Fld.DC_GROUP_STATE g.val = st ∧ t.fld Fld.DC_GROUP_VOLTS g.val = min 255 (mv / 200) ∧
      Raised (70 + g.val) t ∧ (st = 3 → ∀ i, i < 8 → t.flag Fld.DC_STAT_STAGE_ON (8 * g.val + i) = false)) ∧
  (∀ (g : Fin 6) (mv : Nat) (s : State),
    supplyNext (s.fld Fld.DC_GROUP_STATE g.val) mv = s.fld Fld.DC_GROUP_STATE g.val →
    Completes (.supplyStateChange g mv) s [.regs] [.DC_GROUP] fun t =>
      t.fld Fld.DC_GROUP_VOLTS g.val = min 255 (mv / 200) ∧
      t.fld Fld.DC_GROUP_STATE g.val = s.fld Fld.DC_GROUP_STATE g.val ∧ InstKept .DC_GROUP g.val s t) ∧
  (∀ (g : Fin 6) (m : Nat) (s : State),
    s.flag Fld.DC_GROUP_REAPPLY g.val = true → s.nextTurn g.val = some m →
    Completes (.reapplyTurn g) s [.regs, .io] [.DC_STAT, .DC_GROUP] fun t =>
      t.flag Fld.DC_STAT_STAGE_ON m = true ∧ t.flag Fld.DC_STAT_QUEUED m = false ∧
      (∀ j, j ≠ m → t.flag Fld.DC_STAT_STAGE_ON j = s.flag Fld.DC_STAT_STAGE_ON j)) ∧
  (∀ (g : Fin 6) (s : State),
    s.flag Fld.DC_GROUP_REAPPLY g.val = true → s.nextTurn g.val = none →
    Completes (.reapplyTurn g) s [.regs] [.DC_GROUP] fun t =>
      t.flag Fld.DC_GROUP_REAPPLY g.val = false ∧ InstKept .DC_GROUP g.val s t) ∧
  (∀ (g : Fin 6) (ma : Nat) (s : State),
    4400 < ma → s.flag Fld.DC_GROUP_GROUP_OVER g.val = false → s.takesRecord (12 + g.val) →
    Completes (.groupOver g ma) s [.regs, .sn] [.DC_GROUP] fun t =>
      t.flag Fld.DC_GROUP_GROUP_OVER g.val = true ∧ t.fld Fld.DC_GROUP_CURRENT g.val = min 255 (ma / 20) ∧
      Records [Config.groupOverCode.toNat] s t ∧ InstKept .DC_GROUP g.val s t) ∧
  (∀ (g : Fin 6) (ma : Nat) (s : State),
    ma ≤ 4400 ∨ s.flag Fld.DC_GROUP_GROUP_OVER g.val = true →
    Completes (.groupOver g ma) s [.regs] [.DC_GROUP] fun t =>
      t.flag Fld.DC_GROUP_GROUP_OVER g.val = decide (4400 < ma) ∧
      t.fld Fld.DC_GROUP_CURRENT g.val = min 255 (ma / 20)) ∧
  (∀ (g : Fin 6) (x : Bool) (s : State),
    s.pair = true →
    Completes (.sinkShareChange g x) s [.regs] [.DC_GROUP, .DC_STAT] fun t =>
      t.flag Fld.DC_GROUP_PARTNER_SINK g.val = x ∧
      ∀ i, i < 8 → (s.dcMode (8 * g.val + i) = 1 ∨ s.dcMode (8 * g.val + i) = 2) → t.flag Fld.DC_STAT_SINK_HALF (8 * g.val + i) = x) ∧
  (∀ (g : Fin 6) (x : Bool) (s : State),
    s.pair = false →
    exec (.sinkShareChange g x) s = .next s)

/-- A test that R153's conditions admit takes the lowest free slot with record 0x5001; where a condition of R156
stands, aborting frees the slot without a candidate, with that reason and record 0x5002, and INTERVAL runs. A test
whose method has run its length, and whose model, for PULSE one that fits its log, fails a test of R157 is rejected
with its reason and record 0x5003; one that passes is recommended with 0x5004, or staged where installation is
allowed. Staging a candidate between two launches begins its probation with record 0x5005 and keeps the set left as
the return set; a loop in MANUAL or FAULT drops it. An IAE beyond the ratio, or oscillation, reverts to the return set
with its reason and 0x5007 and locks the loop out for four intervals; the end of probation, where neither stands,
keeps parameters and model with 0x5006; the lockout ends at its instant. Where a clause rests on a choice of the
model, the choice is in log entries 7, 72, 73, 124. It says of each of these commands, under hypotheses on the state
and the operands alone, that exec answers a next state with its effect: testStart, testAbort, testComplete, setStage,
probationRevert, probationEnd, lockoutEnd. -/
def Obligations.AdaptationOfLoops : Prop :=
  (∀ (l k b : Nat) (relay ordered : Bool) (a : AdaptCfg) (d : BitVec 512) (w : LoopWork) (s : State),
    s.adaptCfg l = some a → s.loopOf l = some (b, d, w) →
    (List.range 16).find? (fun k => !(s.slot k).busy) = some k → s.laOn = true → s.mayIdent l = true →
    (if relay then a.relay else a.pulse) = true → (ordered || a.trigger) = true → (s.adaptRec l).phase = 0 →
    s.calmLoop l a d w = true → s.intervalOver l a = true → s.interacts a = false →
    (s.groupsOf l).all (fun g => s.fld Fld.LA_SURGE_STATE g.g.val == 0) = true →
    Completes (.testStart l relay ordered) s [.regs, .levels, .free, .sn, .la] [.LA_STATUS] fun t =>
      (t.slot k).busy = true ∧ (t.slot k).loop = l ∧ (t.slot k).relay = relay ∧ (t.slot k).start = s.pt ∧
      (t.slot k).div = testDiv ((if relay then a.tMax else 4 * adaptPulse a) / ldPeriod d) ∧
      (t.adaptRec l).phase = 1 ∧ Records [0x5001] s t ∧ Raised 90 t) ∧
  (∀ (l : Nat) (x y : Bool) (s : State),
    s.laOn = false →
    exec (.testStart l x y) s = .next s ∧ exec (.setStage l) s = .next s ∧ exec (.probationRevert l) s = .next s ∧
    exec (.probationEnd l) s = .next s) ∧
  (∀ (k : Fin 16) (r : Nat) (s : State),
    (s.slot k.val).busy = true → s.stopNow (s.slot k.val) = r → r ≠ 0 →
    Completes (.testAbort k) s [.regs, .levels, .sn, .la] [.LA_STATUS, .LA_SLOT, .LA_COUNT] fun t =>
      t.slot k.val = {} ∧ (t.adaptRec (s.slot k.val).loop).phase = 0 ∧ (t.adaptRec (s.slot k.val).loop).reason = r ∧
      (t.adaptRec (s.slot k.val).loop).lastEnd = some s.pt ∧
      t.fld Fld.LA_COUNT_ABORT = satAdd Fld.LA_COUNT_ABORT.top (s.fld Fld.LA_COUNT_ABORT) 1 ∧ Records [0x5002] s t ∧
      Raised 90 t) ∧
  (∀ (k : Fin 16) (s : State),
    (s.slot k.val).busy = false ∨ s.stopNow (s.slot k.val) = 0 →
    exec (.testAbort k) s = .next s) ∧
  (∀ (k : Fin 16) (m : TestModel) (b c : Nat) (a : AdaptCfg) (d : BitVec 512) (w : LoopWork) (x : Found) (kd : Fl) (p : F32 × F32 × F32) (s : State),
    (s.slot k.val).busy = true → s.adaptCfg (s.slot k.val).loop = some a →
    s.loopOf (s.slot k.val).loop = some (b, d, w) → fitOk d (s.slot k.val) m = true →
    methodDone a (s.slot k.val) (ldPeriod d) = true →
    x = findModel a d (s.adaptRec (s.slot k.val).loop) (s.slot k.val) m → kd = afterDir d x.k →
    p = tune a kd x.tau x.theta →
    c = judge a x kd (marginsOf d kd x.tau x.theta (candidate d a p 0 w.secs)) p (s.inUse (s.slot k.val).loop a) (setValid d (candidate d a p 0 w.secs)) →
    c ≠ 0 →
    Completes (.testComplete k m) s [.regs, .levels, .sn, .la] [.LA_STATUS, .LA_SLOT] fun t =>
      t.slot k.val = {} ∧ (t.adaptRec (s.slot k.val).loop).lastEnd = some s.pt ∧
      (t.adaptRec (s.slot k.val).loop).reason = c ∧ (t.adaptRec (s.slot k.val).loop).phase = 0 ∧
      (t.adaptRec (s.slot k.val).loop).staged = (s.adaptRec (s.slot k.val).loop).staged ∧ Records [0x5003] s t ∧
      Raised 90 t) ∧
  (∀ (k : Fin 16) (m : TestModel) (b c : Nat) (a : AdaptCfg) (d : BitVec 512) (w : LoopWork) (x : Found) (kd : Fl) (p : F32 × F32 × F32) (s : State),
    (s.slot k.val).busy = true → s.adaptCfg (s.slot k.val).loop = some a →
    s.loopOf (s.slot k.val).loop = some (b, d, w) → fitOk d (s.slot k.val) m = true →
    methodDone a (s.slot k.val) (ldPeriod d) = true →
    x = findModel a d (s.adaptRec (s.slot k.val).loop) (s.slot k.val) m → kd = afterDir d x.k →
    p = tune a kd x.tau x.theta →
    c = judge a x kd (marginsOf d kd x.tau x.theta (candidate d a p 0 w.secs)) p (s.inUse (s.slot k.val).loop a) (setValid d (candidate d a p 0 w.secs)) →
    Completes (.testComplete k m) s [.regs, .levels, .sn, .la] [.LA_STATUS, .LA_SLOT] fun t =>
      t.slot k.val = {} ∧ (t.adaptRec (s.slot k.val).loop).lastEnd = some s.pt ∧
      (t.adaptRec (s.slot k.val).loop).reason = c ∧
      (t.adaptRec (s.slot k.val).loop).phase = (if c = 0 ∧ s.mayInstall (s.slot k.val).loop = true then 2 else 0) ∧
      (t.adaptRec (s.slot k.val).loop).staged.map Prod.snd = (if c = 0 ∧ s.mayInstall (s.slot k.val).loop = true then some p else (s.adaptRec (s.slot k.val).loop).staged.map Prod.snd) ∧
      (t.adaptRec (s.slot k.val).loop).model = (if c = 0 then some (x.k.toBits, x.tau.toBits, x.theta.toBits) else (s.adaptRec (s.slot k.val).loop).model) ∧
      Records (if c ≠ 0 then [0x5003] else if s.mayInstall (s.slot k.val).loop = true then [] else [0x5004]) s t) ∧
  (∀ (k : Fin 16) (m : TestModel) (b : Nat) (a : AdaptCfg) (d : BitVec 512) (w : LoopWork) (s : State),
    s.adaptCfg (s.slot k.val).loop = some a → s.loopOf (s.slot k.val).loop = some (b, d, w) →
    fitOk d (s.slot k.val) m = false ∨ methodDone a (s.slot k.val) (ldPeriod d) = false →
    exec (.testComplete k m) s = .next s) ∧
  (∀ (l n b : Nat) (p : F32 × F32 × F32) (a : AdaptCfg) (d : BitVec 512) (w : LoopWork) (s : State),
    (s.adaptRec l).staged = some (n, p) → s.adaptCfg l = some a → s.loopOf l = some (b, d, w) → s.laOn = true →
    (s.run l).job = none → n ≠ w.active → (s.run l).pend = none → w.state ≠ 1 → w.state ≠ 3 →
    Completes (.setStage l) s [.regs, .levels, .sn, .le, .la, .bn, .blk] [.LE_CMD_VAL, .LE_CMD_RESULT,
      .LA_COUNT] fun t =>
      (t.adaptRec l).phase = 3 ∧ (t.adaptRec l).staged = none ∧ (t.adaptRec l).ret = w.active ∧
      (t.adaptRec l).set = some n ∧ (t.adaptRec l).cand = some p ∧ (t.adaptRec l).probEnd = s.pt.plus a.probation ∧
      t.fld Fld.LA_COUNT_INSTALL = satAdd Fld.LA_COUNT_INSTALL.top (s.fld Fld.LA_COUNT_INSTALL) 1 ∧
      Records [0x5005] s t ∧ Raised 90 t) ∧
  (∀ (l n b : Nat) (p : F32 × F32 × F32) (a : AdaptCfg) (d : BitVec 512) (w : LoopWork) (s : State),
    (s.adaptRec l).staged = some (n, p) → s.adaptCfg l = some a → s.loopOf l = some (b, d, w) → s.laOn = true →
    (s.run l).job = none → n ≠ w.active → (s.run l).pend = none → w.state = 1 ∨ w.state = 3 →
    Completes (.setStage l) s [.levels, .sn, .la] [] fun t =>
      (t.adaptRec l).phase = 0 ∧ (t.adaptRec l).staged = none ∧ (t.adaptRec l).reason = 0x23 ∧ Records [0x5003] s t) ∧
  (∀ (l c : Nat) (a : AdaptCfg) (s : State),
    s.adaptCfg l = some a → s.laOn = true → (s.adaptRec l).phase = 3 → s.loopState l ≠ 1 → s.loopState l ≠ 3 →
    c = revertReason a (s.adaptRec l) → c ≠ 0 →
    Completes (.probationRevert l) s [.regs, .levels, .sn, .le, .la] [.LE_CMD_VAL, .LE_CMD_RESULT,
      .LA_COUNT] fun t =>
      (t.adaptRec l).phase = 4 ∧ (t.adaptRec l).reason = c ∧ (t.adaptRec l).lockEnd = s.pt.plus (4 * a.interval) ∧
      (t.adaptRec l).cand = (s.adaptRec l).prevPar ∧ (t.adaptRec l).set = some (s.adaptRec l).ret ∧
      t.fld Fld.LA_COUNT_REVERT = satAdd Fld.LA_COUNT_REVERT.top (s.fld Fld.LA_COUNT_REVERT) 1 ∧
      Records [0x5007] s t ∧ Raised 90 t) ∧
  (∀ (l : Nat) (a : AdaptCfg) (s : State),
    s.adaptCfg l = some a → s.laOn = true → (s.adaptRec l).phase = 3 →
    Instant.before s.pt (s.adaptRec l).probEnd = false → revertReason a (s.adaptRec l) = 0 →
    Completes (.probationEnd l) s [.levels, .sn, .la] [] fun t =>
      (t.adaptRec l).phase = 0 ∧
      (t.adaptRec l).passed = some ((s.adaptRec l).cand.getD (0, 0, 0), (s.adaptRec l).model.getD (0, 0, 0)) ∧
      t.la.unsaved.contains l = true ∧ Records [0x5006] s t ∧ Raised 90 t) ∧
  (∀ (l : Nat) (a : AdaptCfg) (s : State),
    s.adaptCfg l = some a → s.laOn = true → (s.adaptRec l).phase = 3 →
    Instant.before s.pt (s.adaptRec l).probEnd = false → revertReason a (s.adaptRec l) ≠ 0 →
    exec (.probationEnd l) s = exec (.probationRevert l) s) ∧
  (∀ (l : Nat) (a : AdaptCfg) (s : State),
    s.adaptCfg l = some a → revertReason a (s.adaptRec l) = 0 ∨ s.loopState l = 1 ∨ s.loopState l = 3 →
    exec (.probationRevert l) s = .next s) ∧
  (∀ (l : Nat) (s : State),
    (s.adaptRec l).phase = 4 → Instant.before s.pt (s.adaptRec l).lockEnd = false →
    Completes (.lockoutEnd l) s [.la] [] fun t =>
      t.adaptRec l = { s.adaptRec l with phase := 0 }) ∧
  (∀ (l : Nat) (s : State),
    Instant.before s.pt (s.adaptRec l).lockEnd = true →
    exec (.lockoutEnd l) s = .next s)

/-- An interval whose margin falls below M_TRIP brings its group to DEFENCE, counted, with record 0x5008 and source
91; one at or above M_ARM leaves it in its normal state. An invalid interval of the flow channel, the tenth or a later
in a row, makes a group that is neither in DEFENCE nor blind and does not switch when blind a blind one with record
0x500B. H_REL after the margin reached M_REL the defence ends with record 0x5009. A forbid is set or lifted, kept and
logged with 0x500E; any forbid aborts a running test, and one of identification or installation cancels a pending
installation. Where a clause rests on a choice of the model, the choice is in log entries 72. It says of each of these
commands, under hypotheses on the state and the operands alone, that exec answers a next state with its effect:
surgeIntervalClose, surgeRelease, adaptForbid, adaptLift. -/
def Obligations.SurgeDefenceAndForbids : Prop :=
  (∀ (g : Fin 32) (c : SurgeCfg) (s : State),
    s.laOn = true → s.img.surge.find? (fun c => c.g == g) = some c →
    (Tab.get ({} : GyFeed) s.la.feed c.qCh.val).bad = false →
    (Tab.get ({} : GyFeed) s.la.feed c.dpCh.val).bad = false → s.fld Fld.LA_SURGE_STATE g.val ≠ 2 →
    Fl.lt (surgeJudge c (Tab.get {} s.la.feed c.qCh.val) (Tab.get {} s.la.feed c.dpCh.val)).1 (Fl.ofBits c.mTrip) = true →
    Completes (.surgeIntervalClose g) s [.regs, .levels, .sn, .le, .la] [.LE_CMD_VAL, .LE_CMD_RESULT, .LA_STATUS,
      .LA_SLOT, .LA_SURGE, .LA_COUNT] fun t =>
      t.fld Fld.LA_SURGE_STATE g.val = 2 ∧
      t.fld Fld.LA_COUNT_SURGE = satAdd Fld.LA_COUNT_SURGE.top (s.fld Fld.LA_COUNT_SURGE) 1 ∧
      (t.sn.raised.any fun r => r.code == 0x5008#16) = true ∧ Raised 91 t ∧ Raised 90 t) ∧
  (∀ (g : Fin 32) (c : SurgeCfg) (s : State),
    s.laOn = true → s.img.surge.find? (fun c => c.g == g) = some c →
    (Tab.get ({} : GyFeed) s.la.feed c.qCh.val).bad = false →
    (Tab.get ({} : GyFeed) s.la.feed c.dpCh.val).bad = false → s.fld Fld.LA_SURGE_STATE g.val ≠ 2 →
    Fl.lt (surgeJudge c (Tab.get {} s.la.feed c.qCh.val) (Tab.get {} s.la.feed c.dpCh.val)).1 (Fl.ofBits c.mTrip) = false →
    Fl.lt (surgeJudge c (Tab.get {} s.la.feed c.qCh.val) (Tab.get {} s.la.feed c.dpCh.val)).1 (Fl.ofBits c.mArm) = false →
    Completes (.surgeIntervalClose g) s [.regs, .levels, .la] [.LA_STATUS, .LA_SURGE] fun t =>
      t.fld Fld.LA_SURGE_STATE g.val = 0 ∧ t.fld Fld.LA_SURGE_COUNT g.val = 0) ∧
  (∀ (g : Fin 32) (c : SurgeCfg) (s : State),
    s.laOn = true → s.img.surge.find? (fun c => c.g == g) = some c →
    (Tab.get ({} : GyFeed) s.la.feed c.qCh.val).bad = true → s.fld Fld.LA_SURGE_STATE g.val ≠ 2 →
    s.fld Fld.LA_SURGE_STATE g.val ≠ 3 → 9 ≤ (Tab.get ({} : SurgeRun) s.la.surge g.val).invalid →
    c.blindSwitch = false →
    Completes (.surgeIntervalClose g) s [.regs, .levels, .sn, .la] [.LA_STATUS, .LA_SURGE] fun t =>
      t.fld Fld.LA_SURGE_STATE g.val = 3 ∧ t.fld Fld.LA_SURGE_COUNT g.val = 0 ∧ Records [0x500B] s t ∧ Raised 91 t) ∧
  (∀ (g : Fin 32) (c : SurgeCfg) (u : Instant) (s : State),
    s.laOn = true → s.img.surge.find? (fun c => c.g == g) = some c →
    (Tab.get ({} : SurgeRun) s.la.surge g.val).relAt = some u → s.fld Fld.LA_SURGE_STATE g.val = 2 →
    Instant.before s.pt (u.plus c.hRel) = false →
    Completes (.surgeRelease g) s [.regs, .levels, .sn, .le, .la] [.LE_CMD_VAL, .LE_CMD_RESULT, .LA_STATUS,
      .LA_SURGE] fun t =>
      t.fld Fld.LA_SURGE_STATE g.val = 0 ∧ t.fld Fld.LA_SURGE_COUNT g.val = 0 ∧
      (c.members = [] → Records [0x5009] s t) ∧ (t.sn.raised.any fun r => r.code == 0x5009#16) = true ∧ Raised 91 t) ∧
  (∀ (g : Fin 32) (s : State),
    (Tab.get ({} : SurgeRun) s.la.surge g.val).relAt = none →
    exec (.surgeRelease g) s = .next s) ∧
  (∀ (h : SvcMsg) (l : Nat) (a b c : Bool) (s : State),
    (s.sess h.sess.val).open_ = true → s.serving = true → s.svcRefusal h 0x61 2 0 none = none →
    (s.loopAt l).isSome = true → s.slotOf l = none → (s.adaptRec l).phase ≠ 2 →
    Completes (.adaptForbid h l a b c) s [.levels, .out, .sn, .la, .pn] [] fun t =>
      (t.adaptRec l).fIdent = (a || (s.adaptRec l).fIdent) ∧
      (t.adaptRec l).fInstall = (b || (s.adaptRec l).fInstall) ∧
      (t.adaptRec l).fSurge = (c || (s.adaptRec l).fSurge) ∧ t.la.unsaved.contains l = true ∧ Records [0x500E] s t ∧
      Answers [] h.sess.val (svcOut h.sess.val h.msgId 0x8061 0 []) s t) ∧
  (∀ (h : SvcMsg) (l k : Nat) (a b c : Bool) (s : State),
    (s.sess h.sess.val).open_ = true → s.serving = true → s.svcRefusal h 0x61 2 0 none = none →
    (s.loopAt l).isSome = true → s.slotOf l = some k → (a || b || c) = true →
    Completes (.adaptForbid h l a b c) s [.out, .regs, .levels, .sn, .la, .pn] [.LA_STATUS, .LA_SLOT, .LA_COUNT,
      .PN_DROP] fun t =>
      t.slot k = {} ∧ (t.adaptRec l).fIdent = (a || (s.adaptRec l).fIdent) ∧ (t.adaptRec l).phase = 0 ∧
      (t.adaptRec l).reason = 8 ∧ Records [0x500E, 0x5002] s t) ∧
  (∀ (h : SvcMsg) (l : Nat) (a b c : Bool) (s : State),
    (s.sess h.sess.val).open_ = true → s.serving = true → s.svcRefusal h 0x61 2 0 none = none →
    (s.loopAt l).isSome = true → s.slotOf l = none → (s.adaptRec l).phase = 2 → (a || b) = true →
    Completes (.adaptForbid h l a b c) s [.levels, .out, .sn, .la, .pn] [] fun t =>
      (t.adaptRec l).phase = 0 ∧ (t.adaptRec l).staged = none ∧ Records [0x500E] s t ∧
      Answers [] h.sess.val (svcOut h.sess.val h.msgId 0x8061 0 []) s t) ∧
  (∀ (h : SvcMsg) (l : Nat) (a b c : Bool) (s : State),
    (s.sess h.sess.val).open_ = true → s.serving = true → s.svcRefusal h 0x61 2 0 none = none →
    (s.loopAt l).isSome = true →
    Completes (.adaptLift h l a b c) s [.levels, .out, .sn, .la, .pn] [] fun t =>
      (t.adaptRec l).fIdent = (!a && (s.adaptRec l).fIdent) ∧
      (t.adaptRec l).fInstall = (!b && (s.adaptRec l).fInstall) ∧
      (t.adaptRec l).fSurge = (!c && (s.adaptRec l).fSurge) ∧ Records [0x500E] s t ∧
      Answers [] h.sess.val (svcOut h.sess.val h.msgId 0x8061 0 []) s t) ∧
  (∀ (h : SvcMsg) (l : Nat) (a b c : Bool) (s : State),
    (s.sess h.sess.val).open_ = true → s.serving = true → s.svcRefusal h 0x61 2 0 none = none → s.loopAt l = none →
    exec (.adaptForbid h l a b c) s = .next ((s.heard h.sess.val).answer h 0x61 7) ∧
    exec (.adaptLift h l a b c) s = .next ((s.heard h.sess.val).answer h 0x61 7))

/-- A channel that is not configured or does not run takes no sample. A RAW channel skips samples that its step passes
over; the sample it stores enters the open block with the next sequence, or a TRIGGERED channel's ring, or the window
that freezes around it; a missing sample, and one to be stored at level 12 with the staging area full, is counted
LOST. Every sample first sets its condition. A place of the base-period grid is taken once, and places passed over
that were to be stored are counted LOST. In the other modes a sample enters the interval of its instant. Where a
clause rests on a choice of the model, the choice is in log entries 65, 66, 68, 128. It says of each of these
commands, under hypotheses on the state and the operands alone, that exec answers a next state with its effect:
captureSample. -/
def Obligations.GeyserCapture : Prop :=
  (∀ (c : Fin 64) (v : GySample) (s : State),
    s.gyCfg c.val = none →
    exec (.captureSample c v) s = .next s ∧ exec (.gyIntervalClose c) s = .next s) ∧
  (∀ (c : Fin 64) (v : GySample) (g : GyChCfg) (s : State),
    s.gyCfg c.val = some g → s.gyRuns g = false →
    exec (.captureSample c v) s = .next s ∧ exec (.gyIntervalClose c) s = .next s) ∧
  (∀ (c : Fin 64) (v : GySample) (g : GyChCfg) (k : CondCfg) (x : GyWord) (s u : State),
    s.gyCfg c.val = some g → s.gyRuns g = true → (s.gy1 c.val).last ≠ some (s.gyIdx g) →
    u = (if 3 ≤ g.source then s.settle s.pt else s) → u.gyWord g v = some x → k.ch = c →
    s.img.gyCond.filter (fun q => q.n == k.n) = [k] →
    Completes (.captureSample c v) s [.free, .regs, .levels, .pw, .ln, .la, .bn, .gy, .pi, .subc, .blk,
      .mem] [.LN_STATUS, .LN_OVERRUN, .LN_SUB, .GY_STATUS, .GY_CH, .GY_COND_LO, .GY_COND_HI, .GY_LOST] fun t =>
      t.gyCond k.n.val = condNow k g.source (s.gyCond k.n.val) (s.gy1 c.val).prev x ∧
      (t.gy1 c.val).last = some (s.gyIdx g)) ∧
  (∀ (c : Fin 64) (v : GySample) (g : GyChCfg) (s : State),
    s.gyCfg c.val = some g → s.gyRuns g = true → (s.gy1 c.val).last ≠ some (s.gyIdx g) → g.mode = 0 →
    (s.gy1 c.val).next.getD (s.gyIdx g) = s.gyIdx g → s.gyTop = true → (s.gy1 c.val).cur = none →
    Completes (.captureSample c v) s [.free, .regs, .levels, .pw, .ln, .la, .bn, .gy, .pi, .subc, .blk,
      .mem] [.LN_STATUS, .LN_OVERRUN, .LN_SUB, .GY_STATUS, .GY_CH, .GY_COND_LO, .GY_COND_HI, .GY_LOST] fun t =>
      (t.gy1 c.val).lost = (s.gy1 c.val).lost + 1 ∧ (t.gy1 c.val).drop = true ∧ (t.gy1 c.val).cur = none ∧
      (t.gy1 c.val).ring = (s.gy1 c.val).ring ∧ (t.gy1 c.val).next = some (s.gyIdx g + gyStep g (s.gyFactor g)) ∧
      t.gy.arch = s.gy.arch) ∧
  (∀ (c : Fin 64) (v : GySample) (g : GyChCfg) (s : State),
    s.gyCfg c.val = some g → s.gyRuns g = true → (s.gy1 c.val).last ≠ some (s.gyIdx g) → g.mode = 0 →
    s.gyIdx g < (s.gy1 c.val).next.getD (s.gyIdx g) →
    Completes (.captureSample c v) s [.free, .regs, .levels, .pw, .ln, .la, .bn, .gy, .pi, .subc, .blk,
      .mem] [.LN_STATUS, .LN_OVERRUN, .LN_SUB, .GY_STATUS, .GY_CH, .GY_COND_LO, .GY_COND_HI, .GY_LOST] fun t =>
      (t.gy1 c.val).next = (s.gy1 c.val).next ∧ (t.gy1 c.val).last = some (s.gyIdx g) ∧
      (t.gy1 c.val).lost = (s.gy1 c.val).lost ∧ (t.gy1 c.val).cur = (s.gy1 c.val).cur ∧
      (t.gy1 c.val).ring = (s.gy1 c.val).ring ∧ t.fld Fld.GY_CH_FACTOR c.val = s.gyFactor g) ∧
  (∀ (c : Fin 64) (v : GySample) (g : GyChCfg) (x : GyWord) (s u : State),
    s.gyCfg c.val = some g → s.gyRuns g = true → (s.gy1 c.val).last ≠ some (s.gyIdx g) →
    u = (if 3 ≤ g.source then s.settle s.pt else s) → g.mode = 0 → (s.gy1 c.val).next.getD (s.gyIdx g) = s.gyIdx g →
    s.gyTop = false → u.gyWord g v = some x → g.triggered = false → (s.gy1 c.val).cur = none →
    Completes (.captureSample c v) s [.free, .regs, .levels, .pw, .ln, .la, .bn, .gy, .pi, .subc, .blk,
      .mem] [.LN_STATUS, .LN_OVERRUN, .LN_SUB, .GY_STATUS, .GY_CH, .GY_COND_LO, .GY_COND_HI, .GY_LOST] fun t =>
      (t.gy1 c.val).next = some (s.gyIdx g + gyStep g (s.gyFactor g)) ∧
      (t.gy1 c.val).seq = ((s.gy1 c.val).seq + 1) % 4294967296 ∧ (t.gy1 c.val).lost = 0 ∧
      ((t.gy1 c.val).cur.map fun b => (b.first, b.seq, b.lost)) = some (s.gyAt g (s.gyIdx g), (s.gy1 c.val).seq, (s.gy1 c.val).lost) ∧
      ((t.gy1 c.val).cur.map fun b => (b.step, b.count, b.factor, b.data)) = some (gyStep g (s.gyFactor g), 1, s.gyFactor g, x.raw) ∧
      t.gy.arch = s.gy.arch) ∧
  (∀ (c : Fin 64) (v : GySample) (g : GyChCfg) (x : GyWord) (b : GyBlk) (s u : State),
    s.gyCfg c.val = some g → s.gyRuns g = true → (s.gy1 c.val).last ≠ some (s.gyIdx g) →
    u = (if 3 ≤ g.source then s.settle s.pt else s) → g.mode = 0 → (s.gy1 c.val).next.getD (s.gyIdx g) = s.gyIdx g →
    s.gyTop = false → u.gyWord g v = some x → g.triggered = false → (s.gy1 c.val).cur = some b →
    (s.gy1 c.val).cut = false → b.step = gyStep g (s.gyFactor g) → b.factor = s.gyFactor g →
    b.count + 1 < 4032 / gyBytes g →
    Completes (.captureSample c v) s [.free, .regs, .levels, .pw, .ln, .la, .bn, .gy, .pi, .subc, .blk,
      .mem] [.LN_STATUS, .LN_OVERRUN, .LN_SUB, .GY_STATUS, .GY_CH, .GY_COND_LO, .GY_COND_HI, .GY_LOST] fun t =>
      (t.gy1 c.val).cur = some { b with count := b.count + 1, data := b.data ++ x.raw } ∧
      (t.gy1 c.val).seq = (s.gy1 c.val).seq ∧ t.gy.arch = s.gy.arch) ∧
  (∀ (c : Fin 64) (v : GySample) (g : GyChCfg) (x : GyWord) (b : GyBlk) (s u : State),
    s.gyCfg c.val = some g → s.gyRuns g = true → (s.gy1 c.val).last ≠ some (s.gyIdx g) →
    u = (if 3 ≤ g.source then s.settle s.pt else s) → g.mode = 0 → (s.gy1 c.val).next.getD (s.gyIdx g) = s.gyIdx g →
    s.gyTop = false → u.gyWord g v = some x → g.triggered = false → (s.gy1 c.val).cur = some b →
    (s.gy1 c.val).cut = false → b.step = gyStep g (s.gyFactor g) → b.factor = s.gyFactor g →
    b.count + 1 = 4032 / gyBytes g → s.gy.stage = [] → s.gy.arch.length + s.gyFrozenBlocks < s.gyCap →
    Completes (.captureSample c v) s [.free, .regs, .levels, .pw, .ln, .la, .bn, .gy, .pi, .subc, .blk,
      .mem] [.LN_STATUS, .LN_OVERRUN, .LN_SUB, .GY_STATUS, .GY_CH, .GY_COND_LO, .GY_COND_HI, .GY_LOST] fun t =>
      (t.gy1 c.val).cur = none ∧
      t.gy.arch = s.gy.arch ++ [(c.val, { b with count := b.count + 1, data := b.data ++ x.raw }, false)]) ∧
  (∀ (c : Fin 64) (v : GySample) (g : GyChCfg) (x : GyWord) (s u : State),
    s.gyCfg c.val = some g → s.gyRuns g = true → (s.gy1 c.val).last ≠ some (s.gyIdx g) →
    u = (if 3 ≤ g.source then s.settle s.pt else s) → g.mode = 0 → (s.gy1 c.val).next.getD (s.gyIdx g) = s.gyIdx g →
    s.gyTop = false → u.gyWord g v = some x → g.triggered = true →
    s.gyTaking c.val { t := s.gyAt g (s.gyIdx g), ts := 0, data := [], step := 0, factor := 0, bad := false, lost := 0 } = none →
    Instant.before (s.gyAt g (s.gyIdx g)) (s.pt - BitVec.ofNat 64 (s.gyHorizon c.val)) = false →
    Completes (.captureSample c v) s [.free, .regs, .levels, .pw, .ln, .la, .bn, .gy, .pi, .subc, .blk,
      .mem] [.LN_STATUS, .LN_OVERRUN, .LN_SUB, .GY_STATUS, .GY_CH, .GY_COND_LO, .GY_COND_HI, .GY_LOST] fun t =>
      ((t.gy1 c.val).ring.getLast?.map fun y => (y.t, y.data, y.factor, y.lost)) = some (s.gyAt g (s.gyIdx g), x.raw, s.gyFactor g, (s.gy1 c.val).lost) ∧
      (t.gy1 c.val).lost = 0 ∧ (t.gy1 c.val).cur = (s.gy1 c.val).cur ∧ t.gy.arch = s.gy.arch) ∧
  (∀ (c : Fin 64) (v : GySample) (g : GyChCfg) (x : GyWord) (i : Nat) (s u : State),
    s.gyCfg c.val = some g → s.gyRuns g = true → (s.gy1 c.val).last ≠ some (s.gyIdx g) →
    u = (if 3 ≤ g.source then s.settle s.pt else s) → g.mode = 0 → (s.gy1 c.val).next.getD (s.gyIdx g) = s.gyIdx g →
    s.gyTop = false → u.gyWord g v = some x → g.triggered = true →
    s.gyTaking c.val { t := s.gyAt g (s.gyIdx g), ts := 0, data := [], step := 0, factor := 0, bad := false, lost := 0 } = some i →
    Completes (.captureSample c v) s [.free, .regs, .levels, .pw, .ln, .la, .bn, .gy, .pi, .subc, .blk,
      .mem] [.LN_STATUS, .LN_OVERRUN, .LN_SUB, .GY_STATUS, .GY_CH, .GY_COND_LO, .GY_COND_HI, .GY_LOST] fun t =>
      ((Tab.get [] (t.gyWin i).part c.val).map fun y => (y.t, y.data, y.factor, y.lost)) = ((Tab.get [] (s.gyWin i).part c.val).map fun y => (y.t, y.data, y.factor, y.lost)) ++ [(s.gyAt g (s.gyIdx g), x.raw, s.gyFactor g, (s.gy1 c.val).lost)] ∧
      (t.gy1 c.val).ring = (s.gy1 c.val).ring ∧ (t.gy1 c.val).lost = 0) ∧
  (∀ (c : Fin 64) (v : GySample) (g : GyChCfg) (s u : State),
    s.gyCfg c.val = some g → s.gyRuns g = true → (s.gy1 c.val).last ≠ some (s.gyIdx g) →
    u = (if 3 ≤ g.source then s.settle s.pt else s) → g.mode = 0 → (s.gy1 c.val).next.getD (s.gyIdx g) = s.gyIdx g →
    s.gyTop = false → u.gyWord g v = none → (s.gy1 c.val).cur = none →
    Completes (.captureSample c v) s [.free, .regs, .levels, .pw, .ln, .la, .bn, .gy, .pi, .subc, .blk,
      .mem] [.LN_STATUS, .LN_OVERRUN, .LN_SUB, .GY_STATUS, .GY_CH, .GY_COND_LO, .GY_COND_HI, .GY_LOST] fun t =>
      (t.gy1 c.val).lost = (s.gy1 c.val).lost + 1 ∧ (t.gy1 c.val).cur = none ∧
      (t.gy1 c.val).ring = (s.gy1 c.val).ring ∧ (t.gy1 c.val).next = some (s.gyIdx g + gyStep g (s.gyFactor g))) ∧
  (∀ (c : Fin 64) (v : GySample) (g : GyChCfg) (n m : Nat) (s : State),
    s.gyCfg c.val = some g → s.gyRuns g = true → (s.gy1 c.val).last ≠ some (s.gyIdx g) → g.mode = 0 → g.source ≤ 2 →
    (s.gy1 c.val).next = some n → m = (s.gyIdx g - n + gyStep g (s.gyFactor g) - 1) / gyStep g (s.gyFactor g) →
    m ≠ 0 → n + m * gyStep g (s.gyFactor g) ≠ s.gyIdx g → (s.gy1 c.val).cur = none → n < s.gyIdx g →
    Completes (.captureSample c v) s [.free, .regs, .levels, .pw, .ln, .la, .bn, .gy, .pi, .subc, .blk,
      .mem] [.LN_STATUS, .LN_OVERRUN, .LN_SUB, .GY_STATUS, .GY_CH, .GY_COND_LO, .GY_COND_HI, .GY_LOST] fun t =>
      (t.gy1 c.val).lost = (s.gy1 c.val).lost + m ∧ (t.gy1 c.val).next = some (n + m * gyStep g (s.gyFactor g)) ∧
      (t.gy1 c.val).cur = none) ∧
  (∀ (c : Fin 64) (v : GySample) (g : GyChCfg) (s u : State),
    s.gyCfg c.val = some g → s.gyRuns g = true → (s.gy1 c.val).last ≠ some (s.gyIdx g) →
    u = (if 3 ≤ g.source then s.settle s.pt else s) → g.mode ≠ 0 →
    ((s.gy1 c.val).iv.all fun w => Instant.before (s.gyAt g (s.gyIdx g)) (w.start.plus (gyIval g (s.gy1 c.val).factor))) = true →
    Completes (.captureSample c v) s [.free, .regs, .levels, .pw, .ln, .la, .bn, .gy, .pi, .subc, .blk,
      .mem] [.LN_STATUS, .LN_OVERRUN, .LN_SUB, .GY_STATUS, .GY_CH, .GY_COND_LO, .GY_COND_HI, .GY_LOST] fun t =>
      (t.gy1 c.val).iv = some (ivTake ((s.gy1 c.val).iv.getD { start := floorTo (s.gyAt g (s.gyIdx g)) (gyIval g (s.gy1 c.val).factor), ts := s.gyTs g (floorTo (s.gyAt g (s.gyIdx g)) (gyIval g (s.gy1 c.val).factor)) }) g.source (u.gyWord g v)) ∧
      (t.gy1 c.val).cur = (s.gy1 c.val).cur ∧ (t.gy1 c.val).ring = (s.gy1 c.val).ring) ∧
  (∀ (c : Fin 64) (v : GySample) (g : GyChCfg) (s : State),
    s.gyCfg c.val = some g → (s.gy1 c.val).last = some (s.gyIdx g) →
    exec (.captureSample c v) s = .next s)

/-- GY_INTERVAL_CLOSE, once the end instant of a channel's interval is reached, gives its reduced sample to the
adaptation layer and to the store and begins the next interval; an interval with samples missing counts as bad.
GY_LEVEL_RISE, with the staging fill of the millisecond above 75 % or the unread share above it for 1 ms, and 1 ms
after the last change, raises the level by one, with record 0x7001 from level 0; GY_LEVEL_FALL, with both fills below
25 % for 100 ms and 100 ms after it, lowers it by one, with 0x7002 on the return to 0; both show the staging fill, and
every RAW channel then shows the factor of the new level. GY_RD_READ and SVC_GY_BLOCK_READ bring the bytes of a block
and mark a continuous one of a RING channel read; SVC_GY_BLOCK_ACK marks one of a LOSSLESS channel; what the archive
does not hold is answered 7. Where a clause rests on a choice of the model, the choice is in log entries 65, 66, 68,
128. It says of each of these commands, under hypotheses on the state and the operands alone, that exec answers a next
state with its effect: gyIntervalClose, gyLevelRise, gyLevelFall, gyRdRead, svcGyBlockRead, svcGyBlockAck. -/
def Obligations.GeyserReductionAndReadout : Prop :=
  (∀ (c : Fin 64) (g : GyChCfg) (v : GyIv) (x : Bool) (r : List Byte × GyFeed) (s : State),
    s.gyCfg c.val = some g → s.gyRuns g = true → g.mode ≠ 0 →
    v = (s.gy1 c.val).iv.getD { start := floorTo s.pt (gyIval g (s.gy1 c.val).factor) - BitVec.ofNat 64 (gyIval g (s.gy1 c.val).factor), ts := s.gyTs g (floorTo s.pt (gyIval g (s.gy1 c.val).factor) - BitVec.ofNat 64 (gyIval g (s.gy1 c.val).factor)), bad := true } →
    Instant.atOrBefore (v.start.plus (gyIval g (s.gy1 c.val).factor)) s.pt = true →
    x = (v.bad || !s.gyAlive g || decide (v.n < s.gyWant g v.start (gyIval g (s.gy1 c.val).factor))) →
    r = s.gyReduced g v x (decide ((s.gy1 c.val).factor ≠ 0)) →
    Completes (.gyIntervalClose c) s [.free, .regs, .levels, .la, .gy] [.GY_STATUS, .GY_CH, .GY_LOST] fun t =>
      Tab.get ({} : GyFeed) t.la.feed c.val = r.2 ∧
      (t.gy1 c.val).iv = some { start := v.start.plus (gyIval g (s.gy1 c.val).factor), ts := s.gyTs g (v.start.plus (gyIval g (s.gy1 c.val).factor)) } ∧
      (s.gyTop = false → g.triggered = false → (s.gy1 c.val).cur = none → s.gyFactor g = (s.gy1 c.val).factor → (t.gy1 c.val).cur.map (·.data) = some r.1) ∧
      t.fld Fld.GY_CH_FACTOR c.val = (if (v.start.plus (gyIval g (s.gy1 c.val).factor)).toNat % gyIval g (s.gyFactor g) = 0 then s.gyFactor g else (s.gy1 c.val).factor)) ∧
  (∀ (c : Fin 64) (g : GyChCfg) (v : GyIv) (s : State),
    s.gyCfg c.val = some g → (s.gy1 c.val).iv = some v →
    Instant.atOrBefore (v.start.plus (gyIval g (s.gy1 c.val).factor)) s.pt = false →
    exec (.gyIntervalClose c) s = .next s) ∧
  (∀ (a : Nat) (s : State),
    (s.img.gyCh.map fun g => g.ch.val).Nodup →
    75 < a ∨ (75 * s.gyCap < 100 * s.gyUnread ∧ s.gy.high.any (fun u => Instant.atOrBefore (u.plus 1000000) s.pt) = true) →
    s.gyMoved 1000000 = true → s.fld Fld.GY_STATUS_LEVEL = 0 →
    Completes (.gyLevelRise a) s [.regs, .levels, .sn, .gy] [.GY_STATUS, .GY_CH, .GY_LOST] fun t =>
      t.fld Fld.GY_STATUS_LEVEL = 1 ∧ t.gy.moved = some s.pt ∧
      (∀ g ∈ s.img.gyCh, g.mode = 0 → t.fld Fld.GY_CH_FACTOR g.ch.val = t.gyFactor g) ∧
      t.fld Fld.GY_STATUS_STAGE_FILL = sat 100 (max a (100 * s.gy.stage.length / stageCap)) ∧
      t.fld Fld.GY_STATUS_FROZEN = s.fld Fld.GY_STATUS_FROZEN ∧ Records [0x7001] s t ∧ Raised 98 t) ∧
  (∀ (a : Nat) (s : State),
    (s.img.gyCh.map fun g => g.ch.val).Nodup →
    75 < a ∨ (75 * s.gyCap < 100 * s.gyUnread ∧ s.gy.high.any (fun u => Instant.atOrBefore (u.plus 1000000) s.pt) = true) →
    s.gyMoved 1000000 = true → s.fld Fld.GY_STATUS_LEVEL ≠ 0 → s.fld Fld.GY_STATUS_LEVEL < 12 →
    Completes (.gyLevelRise a) s [.regs, .levels, .sn, .gy] [.GY_STATUS, .GY_CH, .GY_LOST] fun t =>
      t.fld Fld.GY_STATUS_LEVEL = s.fld Fld.GY_STATUS_LEVEL + 1 ∧ t.gy.moved = some s.pt ∧
      (∀ g ∈ s.img.gyCh, g.mode = 0 → t.fld Fld.GY_CH_FACTOR g.ch.val = t.gyFactor g) ∧
      t.fld Fld.GY_STATUS_STAGE_FILL = sat 100 (max a (100 * s.gy.stage.length / stageCap)) ∧
      t.fld Fld.GY_STATUS_FROZEN = s.fld Fld.GY_STATUS_FROZEN ∧ Records [] s t) ∧
  (∀ (a : Nat) (s : State),
    (a ≤ 75 ∧ (100 * s.gyUnread ≤ 75 * s.gyCap ∨ (s.gy.high.isSome = true ∧ s.gy.high.any (fun u => Instant.atOrBefore (u.plus 1000000) s.pt) = false))) ∨ 12 ≤ s.fld Fld.GY_STATUS_LEVEL ∨ s.gyMoved 1000000 = false →
    Completes (.gyLevelRise a) s [.regs, .gy] [.GY_STATUS] fun t =>
      t.fld Fld.GY_STATUS_LEVEL = s.fld Fld.GY_STATUS_LEVEL ∧
      t.gy = { s.gy with high := t.gy.high, notLow := t.gy.notLow } ∧
      t.fld Fld.GY_STATUS_STAGE_FILL = sat 100 (max a (100 * s.gy.stage.length / stageCap)) ∧
      t.fld Fld.GY_STATUS_ARCH_FILL = sat 100 (100 * s.gyUnread / max 1 s.gyCap) ∧
      t.fld Fld.GY_STATUS_FROZEN = s.fld Fld.GY_STATUS_FROZEN) ∧
  (∀ (a : Nat) (s : State),
    (s.img.gyCh.map fun g => g.ch.val).Nodup → max a (100 * s.gy.stage.length / stageCap) < 25 →
    100 * s.gyUnread < 25 * s.gyCap → s.fld Fld.GY_STATUS_ARCH_FILL < 25 →
    s.gy.notLow.all (fun u => Instant.atOrBefore (u.plus 100000000) s.pt) = true → s.gyMoved 100000000 = true →
    s.fld Fld.GY_STATUS_LEVEL = 1 →
    Completes (.gyLevelFall a) s [.regs, .levels, .sn, .gy] [.GY_STATUS, .GY_CH, .GY_LOST] fun t =>
      t.fld Fld.GY_STATUS_LEVEL = 0 ∧ t.gy.moved = some s.pt ∧
      (∀ g ∈ s.img.gyCh, g.mode = 0 → t.fld Fld.GY_CH_FACTOR g.ch.val = t.gyFactor g) ∧
      t.fld Fld.GY_STATUS_STAGE_FILL = sat 100 (max a (100 * s.gy.stage.length / stageCap)) ∧
      t.fld Fld.GY_STATUS_FROZEN = s.fld Fld.GY_STATUS_FROZEN ∧ Records [0x7002] s t ∧ Raised 98 t) ∧
  (∀ (a : Nat) (s : State),
    (s.img.gyCh.map fun g => g.ch.val).Nodup → max a (100 * s.gy.stage.length / stageCap) < 25 →
    100 * s.gyUnread < 25 * s.gyCap → s.fld Fld.GY_STATUS_ARCH_FILL < 25 →
    s.gy.notLow.all (fun u => Instant.atOrBefore (u.plus 100000000) s.pt) = true → s.gyMoved 100000000 = true →
    1 < s.fld Fld.GY_STATUS_LEVEL →
    Completes (.gyLevelFall a) s [.regs, .levels, .sn, .gy] [.GY_STATUS, .GY_CH, .GY_LOST] fun t =>
      t.fld Fld.GY_STATUS_LEVEL = s.fld Fld.GY_STATUS_LEVEL - 1 ∧ t.gy.moved = some s.pt ∧
      (∀ g ∈ s.img.gyCh, g.mode = 0 → t.fld Fld.GY_CH_FACTOR g.ch.val = t.gyFactor g) ∧
      t.fld Fld.GY_STATUS_STAGE_FILL = sat 100 (max a (100 * s.gy.stage.length / stageCap)) ∧
      t.fld Fld.GY_STATUS_FROZEN = s.fld Fld.GY_STATUS_FROZEN ∧ Records [] s t) ∧
  (∀ (a : Nat) (s : State),
    25 ≤ a ∨ 25 * s.gyCap ≤ 100 * s.gyUnread ∨ s.fld Fld.GY_STATUS_LEVEL = 0 ∨ s.gyMoved 100000000 = false →
    Completes (.gyLevelFall a) s [.regs, .gy] [.GY_STATUS] fun t =>
      t.fld Fld.GY_STATUS_LEVEL = s.fld Fld.GY_STATUS_LEVEL ∧
      t.gy = { s.gy with high := t.gy.high, notLow := t.gy.notLow } ∧
      t.fld Fld.GY_STATUS_STAGE_FILL = sat 100 (max a (100 * s.gy.stage.length / stageCap)) ∧
      t.fld Fld.GY_STATUS_ARCH_FILL = sat 100 (100 * s.gyUnread / max 1 s.gyCap) ∧
      t.fld Fld.GY_STATUS_FROZEN = s.fld Fld.GY_STATUS_FROZEN) ∧
  (∀ (c : Fin 64) (n : Nat) (s : State),
    s.gyKeeps c.val = false → s.gy.stage = [] →
    Completes (.gyRdRead (.seq c n)) s [.regs, .lastBytes, .gy] [.GY_STATUS] fun t =>
      t.lastBytes = (s.gyFind (.seq c n)).getD [] ∧
      t.gy.arch = s.gy.arch.map (fun b => if b.1 == c.val && b.2.1.seq == n then (b.1, b.2.1, true) else b)) ∧
  (∀ (c : Fin 64) (n : Nat) (s : State),
    s.gyKeeps c.val = false →
    Completes (.gyRdRead (.seq c n)) s [.lastBytes, .regs, .levels, .gy] [.GY_STATUS, .GY_LOST] fun t =>
      t.lastBytes = (s.gyFind (.seq c n)).getD []) ∧
  (∀ (q : BlockSel) (s : State),
    (match q with | .seq c _ => s.gyKeeps c.val | .capture _ _ => true) = true →
    Completes (.gyRdRead q) s [.lastBytes] [] fun t =>
      t.lastBytes = (s.gyFind q).getD []) ∧
  (∀ (h : SvcMsg) (q : BlockSel) (b : List Byte) (s : State),
    (s.sess h.sess.val).open_ = true → s.serving = true → s.svcRefusal h 0x30 0 0 none = none →
    s.gyFind q = some b →
    Completes (.svcGyBlockRead h q) s [.out, .regs, .levels, .gy, .pn] [.GY_STATUS, .GY_LOST, .PN_DROP] fun t =>
      t.gy.arch = (s.gyRead q).gy.arch ∧ Answers [] h.sess.val (svcOut h.sess.val h.msgId 0x8030 0 b) s t) ∧
  (∀ (h : SvcMsg) (c : Fin 64) (n : Nat) (b : List Byte) (s : State),
    (s.sess h.sess.val).open_ = true → s.serving = true → s.svcRefusal h 0x30 0 0 none = none →
    s.gyKeeps c.val = false → s.gy.stage = [] → s.gyFind (.seq c n) = some b →
    Completes (.svcGyBlockRead h (.seq c n)) s [.regs, .out, .gy, .pn] [.GY_STATUS] fun t =>
      t.gy.arch = s.gy.arch.map (fun b => if b.1 == c.val && b.2.1.seq == n then (b.1, b.2.1, true) else b) ∧
      Answers [] h.sess.val (svcOut h.sess.val h.msgId 0x8030 0 b) s t) ∧
  (∀ (h : SvcMsg) (c : Fin 64) (n : Nat) (b : GyBlk) (s : State),
    (s.sess h.sess.val).open_ = true → s.serving = true → s.svcRefusal h 0x30 0 0 none = none →
    (c.val, b, false) ∈ s.gy.arch → b.seq = n → s.gy.stage = [] →
    Completes (.svcGyBlockAck h c n) s [.regs, .out, .gy, .pn] [.GY_STATUS] fun t =>
      (c.val, b, true) ∈ t.gy.arch ∧ t.gy.arch.length = s.gy.arch.length ∧
      Answers [] h.sess.val (svcOut h.sess.val h.msgId 0x8030 0 []) s t) ∧
  (∀ (h : SvcMsg) (c : Fin 64) (n : Nat) (s : State),
    (s.sess h.sess.val).open_ = true → s.serving = true → s.svcRefusal h 0x30 0 0 none = none → s.gy.arch = [] →
    s.gySeq c.val n = none →
    exec (.svcGyBlockAck h c n) s = .next ((s.heard h.sess.val).answer h 0x30 7) ∧
    exec (.svcGyBlockRead h (.seq c n)) s = .next ((s.heard h.sess.val).answer h 0x30 7))

/-- The master orders an arm at least ARM_LEAD ahead, with the next arm number; a member arms at that instant, or on
receipt with record 0x7005 when it has passed. A pattern match that has held for QUAL fires the armed set, once: the
window freezes in the lowest free slot with the next capture number and the fire is sent. A fire of another arm is
ignored; a second fire is listed and the earlier stands; a fire with all 16 slots held is refused with record 0x7004
and counted, the set staying armed. After T + POST the window is complete, with record 0x7003; the set waits for the
holdoff when it re-arms, else it is idle; once HOLDOFF has passed the master orders the next arm. A release frees the
slot, and the set of a window that still freezes is idle. Where a clause rests on a choice of the model, the choice is
in log entries 67. It says of each of these commands, under hypotheses on the state and the operands alone, that exec
answers a next state with its effect: patternFire, armOrder, armReceived, armAt, fireReceived, gyWindowComplete,
gyHoldoffExpire, gyRelease, gyFireOrder, svcGyRelease, svcGyFire. -/
def Obligations.GeyserTriggers : Prop :=
  (∀ (u : Fin 8) (t0 : Instant) (p : PatternCfg) (k : GySetCfg) (i : Nat) (s : State),
    s.img.gyPat.find? (fun p => p.u == u) = some p → patFires p.qual s.pt (s.gyPat u.val) = some t0 →
    s.gySetOf p.setK.val = some k → s.gyState k.k.val = 1 → s.gyFree = some i →
    Completes (.patternFire u) s [.out, .regs, .levels, .sn, .gy] [.GY_STATUS, .GY_SET, .GY_CAP, .GY_LOST] fun t =>
      t.gyState k.k.val = 2 ∧ t.flag Fld.GY_CAP_VALID i = true ∧ t.flag Fld.GY_CAP_COMPLETE i = false ∧
      t.fld Fld.GY_CAP_SET i = k.num % 256 ∧ (t.gyWin i).t = t0 ∧ (t.gyWin i).complete = false ∧
      (t.gyWin i).capture = t.gy.nextCap ∧ (t.gyRun k.k.val).slot = some i ∧ (t.gyPat u.val).fired = true ∧
      Sends [.fire k.num t0 s.base.binary s.posB (s.fld Fld.GY_SET_ARMS k.k.val)] s t) ∧
  (∀ (u : Fin 8) (p : PatternCfg) (s : State),
    s.img.gyPat.find? (fun p => p.u == u) = some p →
    patFires p.qual s.pt (s.gyPat u.val) = none ∨ s.gySetOf p.setK.val = none →
    exec (.patternFire u) s = .next s) ∧
  (∀ (u : Fin 8) (t0 : Instant) (p : PatternCfg) (k : GySetCfg) (s : State),
    s.img.gyPat.find? (fun p => p.u == u) = some p → patFires p.qual s.pt (s.gyPat u.val) = some t0 →
    s.gySetOf p.setK.val = some k → s.gyState k.k.val = 0 ∨ s.gyState k.k.val = 3 →
    Completes (.patternFire u) s [.gy] [] fun t =>
      t.gyPat u.val = { s.gyPat u.val with fired := true } ∧ t.gyRun k.k.val = s.gyRun k.k.val) ∧
  (∀ (k : Fin 16) (a : Instant) (c : GySetCfg) (s : State),
    s.gySetOf k.val = some c → s.gyMaster c = true → s.gyState k.val ≠ 2 →
    Instant.atOrBefore (s.pt.plus c.lead) a = true →
    Completes (.armOrder k a) s [.regs, .out, .gy] [.GY_SET] fun t =>
      t.fld Fld.GY_SET_ARMS k.val = (s.fld Fld.GY_SET_ARMS k.val + 1) % 65536 ∧ t.gyState k.val = 0 ∧
      (t.gyRun k.val).armAt = some a ∧ Sends [.arm c.num (t.fld Fld.GY_SET_ARMS k.val) a] s t) ∧
  (∀ (k : Fin 16) (a : Instant) (c : GySetCfg) (s : State),
    s.gySetOf k.val = some c → s.gyMaster c = false ∨ Instant.atOrBefore (s.pt.plus c.lead) a = false →
    exec (.armOrder k a) s = .next s) ∧
  (∀ (k : Fin 16) (n : BitVec 16) (a : Instant) (s : State),
    (s.gySetOf k.val).isSome = true → s.gyState k.val ≠ 2 → Instant.before a s.pt = false →
    Completes (.armReceived k n a) s [.regs, .gy] [.GY_SET] fun t =>
      t.fld Fld.GY_SET_ARMS k.val = n.toNat ∧ t.gyState k.val = 0 ∧ (t.gyRun k.val).armAt = some a) ∧
  (∀ (k : Fin 16) (n : BitVec 16) (a : Instant) (s : State),
    (s.gySetOf k.val).isSome = true → s.gyState k.val ≠ 2 → Instant.before a s.pt = true →
    Completes (.armReceived k n a) s [.regs, .levels, .sn, .gy] [.GY_SET] fun t =>
      t.fld Fld.GY_SET_ARMS k.val = n.toNat ∧ t.gyState k.val = 1 ∧ (t.gyRun k.val).armAt = none ∧
      Records [0x7005] s t ∧ Raised 101 t) ∧
  (∀ (k : Fin 16) (a : Instant) (s : State),
    (s.gyRun k.val).armAt = some a → Instant.atOrBefore a s.pt = true → s.gyState k.val ≠ 2 →
    Completes (.armAt k) s [.regs, .gy] [.GY_SET] fun t =>
      t.gyState k.val = 1 ∧ (t.gyRun k.val).armAt = none ∧ t.fld Fld.GY_SET_ARMS k.val = s.fld Fld.GY_SET_ARMS k.val) ∧
  (∀ (k : Fin 16) (a : Instant) (s : State),
    (s.gyRun k.val).armAt = some a → Instant.atOrBefore a s.pt = false →
    exec (.armAt k) s = .next s) ∧
  (∀ (k : Fin 16) (a : Instant) (b i : Nat) (x : Bool) (n : BitVec 16) (c : GySetCfg) (s : State),
    s.gySetOf k.val = some c → s.fld Fld.GY_SET_ARMS k.val = n.toNat → s.gyState k.val = 1 → s.gyFree = some i →
    Completes (.fireReceived k a b x n) s [.regs, .levels, .sn, .gy] [.GY_STATUS, .GY_SET, .GY_CAP,
      .GY_LOST] fun t =>
      t.gyState k.val = 2 ∧ t.flag Fld.GY_CAP_VALID i = true ∧ (t.gyWin i).t = a ∧ (t.gyWin i).binary = b ∧
      (t.gyWin i).posB = x) ∧
  (∀ (k : Fin 16) (a : Instant) (b : Nat) (x : Bool) (n : BitVec 16) (c : GySetCfg) (s : State),
    s.gySetOf k.val = some c → s.fld Fld.GY_SET_ARMS k.val = n.toNat → s.gyState k.val = 1 → s.gyFree = none →
    Completes (.fireReceived k a b x n) s [.regs, .levels, .sn] [.GY_LOST] fun t =>
      t.fld Fld.GY_LOST_FIRE_REFUSED = satAdd Fld.GY_LOST_FIRE_REFUSED.top (s.fld Fld.GY_LOST_FIRE_REFUSED) 1 ∧
      Records [0x7004] s t ∧ Raised 100 t) ∧
  (∀ (k : Fin 16) (a : Instant) (b i : Nat) (x : Bool) (n : BitVec 16) (c : GySetCfg) (s : State),
    s.gySetOf k.val = some c → s.fld Fld.GY_SET_ARMS k.val = n.toNat → s.gyState k.val = 2 →
    (s.gyRun k.val).slot = some i → (s.gyWin i).complete = false → Instant.before a (s.gyWin i).t = true →
    (s.gyWin i).later = [] →
    Completes (.fireReceived k a b x n) s [.regs, .levels, .sn, .gy] [.GY_STATUS, .GY_SET, .GY_CAP,
      .GY_LOST] fun t =>
      (t.gyWin i).t = a ∧ (t.gyWin i).binary = b ∧ (t.gyWin i).posB = x ∧
      (t.gyWin i).later = [((s.gyWin i).t, (s.gyWin i).binary, (s.gyWin i).posB)] ∧
      t.fld Fld.GY_CAP_LATER i = satAdd 15 (s.fld Fld.GY_CAP_LATER i) 1) ∧
  (∀ (k : Fin 16) (a : Instant) (b : Nat) (x : Bool) (n : BitVec 16) (s : State),
    s.fld Fld.GY_SET_ARMS k.val ≠ n.toNat →
    exec (.fireReceived k a b x n) s = .next s) ∧
  (∀ (j : Fin 16) (k : GySetCfg) (s : State),
    s.gySetOf (s.gyWin j.val).k = some k → k.chans = [] → s.flag Fld.GY_CAP_VALID j.val = true →
    (s.gyWin j.val).complete = false → Instant.atOrBefore ((s.gyWin j.val).t.plus k.post) s.pt = true →
    Completes (.gyWindowComplete j) s [.regs, .levels, .sn, .gy] [.GY_SET, .GY_CAP] fun t =>
      (t.gyWin j.val).complete = true ∧ t.flag Fld.GY_CAP_COMPLETE j.val = true ∧
      t.gyState (s.gyWin j.val).k = (if k.rearm then 3 else 0) ∧ Records [0x7003] s t ∧ Raised 99 t) ∧
  (∀ (j : Fin 16) (k : GySetCfg) (s : State),
    s.gySetOf (s.gyWin j.val).k = some k → s.flag Fld.GY_CAP_VALID j.val = true → (s.gyWin j.val).complete = false →
    Instant.atOrBefore ((s.gyWin j.val).t.plus k.post) s.pt = true →
    Completes (.gyWindowComplete j) s [.regs, .levels, .sn, .gy] [.GY_SET, .GY_CAP, .GY_LOST] fun t =>
      (t.gyWin j.val).complete = true ∧
      (t.gyWin j.val).blocks = (s.gyTakes k (s.gyWin j.val) (k.chans.map fun c => c.val)).2 ∧
      t.gyState (s.gyWin j.val).k = (if k.rearm then 3 else 0)) ∧
  (∀ (j : Fin 16) (k : GySetCfg) (s : State),
    s.gySetOf (s.gyWin j.val).k = some k → Instant.atOrBefore ((s.gyWin j.val).t.plus k.post) s.pt = false →
    exec (.gyWindowComplete j) s = .next s) ∧
  (∀ (k : Fin 16) (c : GySetCfg) (s : State),
    s.gySetOf k.val = some c → s.gyState k.val = 3 → s.gyHeldOff c = true → s.gyMaster c = true →
    Completes (.gyHoldoffExpire k) s [.regs, .out, .gy] [.GY_SET] fun t =>
      t.gyState k.val = 0 ∧ (t.gyRun k.val).armAt = some (s.pt.plus c.lead) ∧
      Sends [.arm c.num ((s.fld Fld.GY_SET_ARMS k.val + 1) % 65536) (s.pt.plus c.lead)] s t) ∧
  (∀ (k : Fin 16) (c : GySetCfg) (s : State),
    s.gySetOf k.val = some c → s.gyState k.val = 3 → s.gyHeldOff c = true → s.gyMaster c = false →
    Completes (.gyHoldoffExpire k) s [.regs] [.GY_SET] fun t =>
      t.gyState k.val = 0) ∧
  (∀ (k : Fin 16) (c : GySetCfg) (s : State),
    s.gySetOf k.val = some c → s.gyState k.val ≠ 3 ∨ s.gyHeldOff c = false →
    exec (.gyHoldoffExpire k) s = .next s) ∧
  (∀ (j : Fin 16) (s : State),
    s.flag Fld.GY_CAP_VALID j.val = true →
    Completes (.gyRelease j) s [.regs, .levels, .gy] [.GY_STATUS, .GY_SET, .GY_CAP, .GY_LOST] fun t =>
      t.reg .GY_CAP j.val = 0 ∧ t.gyWin j.val = {} ∧
      (∀ i, i ≠ j.val → t.gyWin i = s.gyWin i ∧ t.reg .GY_CAP i = s.reg .GY_CAP i) ∧
      t.fld Fld.GY_STATUS_FROZEN = ((List.range 16).filter fun i => i != j.val && s.flag Fld.GY_CAP_VALID i).length ∧
      t.gyState (s.gyWin j.val).k = (if s.gyState (s.gyWin j.val).k = 2 ∧ (s.gyRun (s.gyWin j.val).k).slot = some j.val then 0 else s.gyState (s.gyWin j.val).k)) ∧
  (∀ (j : Fin 16) (s : State),
    s.flag Fld.GY_CAP_VALID j.val = false →
    exec (.gyRelease j) s = .next s) ∧
  (∀ (k : Fin 16) (c : GySetCfg) (i : Nat) (s : State),
    s.gySetOf k.val = some c → s.gyState k.val = 1 → s.gyFree = some i →
    Completes (.gyFireOrder k) s [.out, .regs, .levels, .sn, .gy] [.GY_STATUS, .GY_SET, .GY_CAP, .GY_LOST] fun t =>
      t.gyState k.val = 2 ∧ (t.gyWin i).t = s.pt ∧ t.flag Fld.GY_CAP_VALID i = true ∧
      Sends [.fire c.num s.pt s.base.binary s.posB (s.fld Fld.GY_SET_ARMS k.val)] s t) ∧
  (∀ (k : Fin 16) (c : GySetCfg) (s : State),
    s.gySetOf k.val = some c → s.gyState k.val = 0 ∨ s.gyState k.val = 3 →
    exec (.gyFireOrder k) s = .next s) ∧
  (∀ (h : SvcMsg) (j : Fin 16) (s : State),
    (s.sess h.sess.val).open_ = true → s.serving = true → s.svcRefusal h 0x31 1 0 none = none →
    s.flag Fld.GY_CAP_VALID j.val = true →
    Completes (.svcGyRelease h j) s [.out, .regs, .levels, .gy, .pn] [.GY_STATUS, .GY_SET, .GY_CAP, .GY_LOST,
      .PN_DROP] fun t =>
      t.reg .GY_CAP j.val = 0 ∧ t.gyWin j.val = {} ∧
      Answers [] h.sess.val (svcOut h.sess.val h.msgId 0x8031 0 []) s t) ∧
  (∀ (h : SvcMsg) (j : Fin 16) (s : State),
    (s.sess h.sess.val).open_ = true → s.serving = true → s.svcRefusal h 0x31 1 0 none = none →
    s.flag Fld.GY_CAP_VALID j.val = false →
    exec (.svcGyRelease h j) s = .next ((s.heard h.sess.val).answer h 0x31 7)) ∧
  (∀ (h : SvcMsg) (k : Fin 16) (c : GySetCfg) (i : Nat) (s : State),
    (s.sess h.sess.val).open_ = true → s.serving = true → s.svcRefusal h 0x31 1 0 none = none →
    s.gySetOf k.val = some c → s.gyState k.val = 1 → s.gyFree = some i →
    Completes (.svcGyFire h k) s [.out, .regs, .levels, .sn, .gy, .pn] [.GY_STATUS, .GY_SET, .GY_CAP, .GY_LOST,
      .PN_DROP] fun t =>
      t.gyState k.val = 2 ∧ (t.gyWin i).t = s.pt ∧
      Answers [.fire c.num s.pt s.base.binary s.posB (s.fld Fld.GY_SET_ARMS k.val)] h.sess.val (svcOut h.sess.val h.msgId 0x8031 0 []) s t) ∧
  (∀ (h : SvcMsg) (k : Fin 16) (c : GySetCfg) (s : State),
    (s.sess h.sess.val).open_ = true → s.serving = true → s.svcRefusal h 0x31 1 0 none = none →
    s.gySetOf k.val = some c → s.gyState k.val = 1 → s.gyFree = none →
    Completes (.svcGyFire h k) s [.regs, .levels, .out, .sn, .pn] [.GY_LOST] fun t =>
      Records [0x7004] s t ∧ Answers [] h.sess.val (svcOut h.sess.val h.msgId 0x8031 0x0A []) s t) ∧
  (∀ (h : SvcMsg) (k : Fin 16) (c : GySetCfg) (s : State),
    (s.sess h.sess.val).open_ = true → s.serving = true → s.svcRefusal h 0x31 1 0 none = none →
    s.gySetOf k.val = some c → s.gyState k.val = 0 ∨ s.gyState k.val = 3 →
    exec (.svcGyFire h k) s = .next ((s.heard h.sess.val).answer h 0x31 5))

/-- A COLLECT entry that runs waits for every slice of its carriers and sends its frames, one per slot, on both pairs
of each port whose S + R_MAX has come, the other ports following; one that the island did not get in time, or may not
send, sends nothing and still waits, as does a standby, lagging or not; none runs where it has run, nor before S +
R_MAX of a port. A valid copy that comes back brings its reports and its fresh slots, and a copy with a bad FCS is
counted. When every slot is back, or S + T_IN is reached, the entry is complete: every slice left carries LATE and the
carrier's MISSED advances, or is 0 where nothing was left. A commit entry of carriers that may go sends its frames,
one per slot, on both pairs. TIME frames leave each configured port once a standard cycle only while the module
originates; a copy that came back turned shows WRAP_AT with 0x8001, and both copies unturned show the lap intact with
0x8002. A module that does not originate sends a frame on in its direction, or turns it where its own downstream
segment is down; in a standby the shadow command of a carrier channel follows an IMMEDIATE frame that passes. Where a
clause rests on a choice of the model, the choice is in log entries 81, 84, 85. It says of each of these commands,
under hypotheses on the state and the operands alone, that exec answers a next state with its effect: collectLaunch,
collectReturn, collectComplete, commitScapexCarriers, timeFrameSend, timeFrameReturn, scapexForward,
scapexSegmentDown, scapexSegmentUp. -/
def Obligations.ScapexCycles : Prop :=
  (∀ (e : Nat) (a : Instant) (d : BitVec 128) (s : State),
    s.entGrp e = some d → s.runsNow e d 2 a = true → s.sxPorts (s.entry e) a ≠ [] → s.role = 1 →
    s.sxMay = false ∨ s.isDue 6 e a = false →
    Completes (.collectLaunch e a) s [.ln, .sx] [] fun t =>
      (t.collect e).active = true ∧ (t.collect e).s = a ∧ (t.collect e).sent = s.sxPorts (s.entry e) a ∧
      (t.collect e).left = ((s.entCars (s.entry e)).flatMap fun i => (List.range (s.carCfg i).slices).map fun k => 64 * i + k) ∧
      Tab.get none t.ln.ran e = some a ∧ t.isDue 6 e a = false) ∧
  (∀ (e : Nat) (a : Instant) (d : BitVec 128) (s : State),
    s.entGrp e = some d → s.runsNow e d 2 a = true → s.sxPorts (s.entry e) a ≠ [] → s.role = 2 ∨ s.role = 3 →
    Completes (.collectLaunch e a) s [.ln, .sx] [] fun t =>
      (t.collect e).active = true ∧ (t.collect e).s = a ∧ (t.collect e).sent = s.sxPorts (s.entry e) a ∧
      (t.collect e).left = ((s.entCars (s.entry e)).flatMap fun i => (List.range (s.carCfg i).slices).map fun k => 64 * i + k) ∧
      Tab.get none t.ln.ran e = some a ∧ t.isDue 6 e a = false) ∧
  (∀ (e i : Nat) (a : Instant) (d : BitVec 128) (s : State),
    s.entGrp e = some d → s.runsNow e d 2 a = true → s.sxPorts (s.entry e) a = [i / 32] → s.role = 1 →
    s.sxMay = true → s.isDue 6 e a = true → s.entCars (s.entry e) = [i] → (s.carCfg i).slices ≠ 0 →
    s.sxOn (i / 32) = true → (s.sxP (i / 32)).timed.map Prod.fst = some (s.fld Fld.SX_EPOCH_EPOCH) →
    Completes (.collectLaunch e a) s [.out, .ln, .sx] [] fun t =>
      (t.collect e).active = true ∧ (t.collect e).s = a ∧ (t.collect e).sent = [i / 32] ∧
      Tab.get none t.ln.ran e = some a ∧
      (t.sxP (i / 32)).seq = ((s.sxP (i / 32)).seq + ((s.carCfg i).slices + 23) / 24) % 65536 ∧
      t.out.length = s.out.length + 2 * (((s.carCfg i).slices + 23) / 24) ∧
      (t.sxP (i / 32)).flight.length = (s.sxP (i / 32)).flight.length + 2 * (((s.carCfg i).slices + 23) / 24)) ∧
  (∀ (e : Nat) (a : Instant) (d : BitVec 128) (s : State),
    s.entGrp e = some d →
    ((s.runsNow e d 2 a = false ∨ s.sxPorts (s.entry e) a = [] ∨ (s.role ≠ 1 ∧ s.role ≠ 2 ∧ s.role ≠ 3)) ∧ ((s.collect e).active = false ∨ (s.collect e).s ≠ a) → exec (.collectLaunch e a) s = .next s) ∧
    (s.runsNow e d 6 a = false ∨ s.role ≠ 1 → exec (.commitScapexCarriers e a) s = .next s)) ∧
  (∀ (e : Nat) (a : Instant) (d : BitVec 128) (s : State),
    s.entGrp e = some d → s.runsNow e d 2 a = false → (s.collect e).active = true → (s.collect e).s = a →
    Completes (.collectLaunch e a) s [.out, .regs, .ln, .sx] [.SX_PORT, .SX_ERR] fun t =>
      (t.collect e).active = true ∧ (t.collect e).s = a ∧ (t.collect e).left = (s.collect e).left ∧
      (t.collect e).sent = (s.collect e).sent ++ (s.sxPorts (s.entry e) a).filter (fun p => !(s.collect e).sent.contains p) ∧
      (s.sxMay = false → t.out = s.out)) ∧
  (∀ (p : Fin 8) (f : SxFrame) (s : State),
    s.sxOn p.val = true → s.sxOwn f = true → s.alive 6 = true → sxType f = 2 ∨ sxType f = 3 → f.fcsOk = false →
    Completes (.collectReturn p f) s [.regs, .sx] [.SX_ERR] fun t =>
      t.fld Fld.SX_ERR_FCS_BAD p.val = satAdd Fld.SX_ERR_FCS_BAD.top (s.fld Fld.SX_ERR_FCS_BAD p.val) 1 ∧
      (t.sxP p.val).flight = (s.sxP p.val).flight.filter (fun x => !(x.1 == bits f.hdr 95 80 && x.2.1 == bitAt f.hdr 44)) ∧
      t.sx.collects = s.sx.collects) ∧
  (∀ (p : Fin 8) (f : SxFrame) (h : W64) (s : State),
    s.sxOn p.val = true → s.sxOwn f = true → s.alive 6 = true → sxType f = 3 → f.fcsOk = true → f.payload = [h] →
    slotReports h = true → s.carDeclared (32 * p.val + bits h 63 59) = true → bits h 43 40 = 2 →
    s.fld Fld.SX_CAR_CSTATE (32 * p.val + bits h 63 59) ≠ 2 → bitAt h 39 = false → s.takesRecord 6 →
    Completes (.collectReturn p f) s [.regs, .levels, .sn, .bn, .sx] [.SX_PORT, .SX_CAR] fun t =>
      t.fld Fld.SX_CAR_CSTATE (32 * p.val + bits h 63 59) = 2 ∧
      t.flag Fld.SX_CAR_FAULT (32 * p.val + bits h 63 59) = bitAt h 44 ∧
      (t.sxC (32 * p.val + bits h 63 59)).held = bits h 31 0 ∧ t.bn.heldMax = max s.bn.heldMax (bits h 31 0) ∧
      Records [0x8006] s t ∧ Raised (102 + p.val) t) ∧
  (∀ (p : Fin 8) (f : SxFrame) (h : W64) (ws : List W64) (e i k : Nat) (d : BitVec 128) (s : State),
    s.sxOn p.val = true → s.sxOwn f = true → s.alive 6 = true → sxType f = 2 → f.fcsOk = true →
    f.payload = h :: ws → ws.length = 5 → bits h 52 46 = 1 → bitAt h 45 = true → bitAt h 39 = false →
    bits h 43 40 = 1 → i = 32 * p.val + bits h 63 59 → k = bits h 58 53 → s.carDeclared i = true →
    s.flag Fld.SX_CAR_MISMATCH i = false → s.collectsOf f = [e] → (s.collect e).left.contains (64 * i + k) = true →
    s.entGrp e = some d → grpClass d ≠ 0 →
    Completes (.collectReturn p f) s [.regs, .ln, .bn, .sx] [.SX_PORT, .SX_CAR] fun t =>
      (t.collect e).left = (s.collect e).left.erase (64 * i + k) ∧ t.fld Fld.SX_CAR_CSTATE i = 1 ∧
      t.ln.vis = s.ln.vis ++ (List.range 8).filterMap (fun j => (inPoint (s.carCfg i) (8 * k + j)).map fun q => (grpCOfS d (s.collect e).s, q, blockRec (s.pointCfg q).kind j ws))) ∧
  (∀ (p : Fin 8) (f : SxFrame) (h : W64) (ws : List W64) (e i k : Nat) (d : BitVec 128) (s : State),
    s.sxOn p.val = true → s.sxOwn f = true → s.alive 6 = true → sxType f = 2 → f.fcsOk = true →
    f.payload = h :: ws → ws.length = 5 → bits h 52 46 = 1 → bitAt h 45 = true → bitAt h 39 = false →
    bits h 43 40 = 1 → i = 32 * p.val + bits h 63 59 → k = bits h 58 53 → s.carDeclared i = true →
    s.flag Fld.SX_CAR_MISMATCH i = false → s.collectsOf f = [e] → (s.collect e).left.contains (64 * i + k) = true →
    s.entGrp e = some d → grpClass d = 0 → Instant.before s.pt ((s.collect e).s.plus 50000) = true →
    Completes (.collectReturn p f) s [.regs, .ln, .bn, .sx] [.SX_PORT, .SX_CAR] fun t =>
      (t.collect e).left = (s.collect e).left.erase (64 * i + k) ∧ t.ln.vis = s.ln.vis ∧
      t.ln.sets = s.ln.sets ++ (List.range 8).filterMap (fun j => (inPoint (s.carCfg i) (8 * k + j)).map fun q => (entGroup (s.entry e), (s.collect e).s.plus 50000, [(q, blockRec (s.pointCfg q).kind j ws)]))) ∧
  (∀ (e i : Nat) (s : State),
    (s.collect e).active = true → s.entCars (s.entry e) = [i] → (s.collect e).left = [] →
    Completes (.collectComplete e) s [.regs, .levels, .pw, .ln, .bn, .sx, .pi, .subc, .blk, .mem] [.LN_STATUS,
      .LN_OVERRUN, .LN_SUB, .SX_ERR, .SX_CAR] fun t =>
      t.fld Fld.SX_CAR_MISSED i = 0 ∧ (t.collect e).active = false ∧
      t.fld Fld.SX_ERR_LATE_SLOTS (i / 32) = s.fld Fld.SX_ERR_LATE_SLOTS (i / 32)) ∧
  (∀ (e i : Nat) (d : BitVec 128) (s u : State),
    u = s.settle s.pt → (s.collect e).active = true → s.reached (s.sxBound e (s.collect e).s) = true →
    s.entCars (s.entry e) = [i] → (s.carCfg i).slices = 1 → (s.collect e).left = [64 * i] → s.entGrp e = some d →
    grpClass d ≠ 0 →
    Completes (.collectComplete e) s [.regs, .levels, .pw, .ln, .bn, .sx, .pi, .subc, .blk, .mem] [.LN_STATUS,
      .LN_OVERRUN, .LN_SUB, .SX_ERR, .SX_CAR] fun t =>
      t.fld Fld.SX_CAR_MISSED i = satAdd Fld.SX_CAR_MISSED.top (s.fld Fld.SX_CAR_MISSED i) 1 ∧
      (t.collect e).active = false ∧
      t.fld Fld.SX_ERR_LATE_SLOTS (i / 32) = satAdd Fld.SX_ERR_LATE_SLOTS.top (s.fld Fld.SX_ERR_LATE_SLOTS (i / 32)) 1 ∧
      t.ln.vis = u.ln.vis ++ (List.range 8).filterMap (fun k => (inPoint (s.carCfg i) k).map fun p => (grpCOfS d (s.collect e).s, p, lateRec (s.pointCfg p) (u.piGet p)))) ∧
  (∀ (e : Nat) (s : State),
    (s.collect e).active = false ∨ ((s.collect e).left ≠ [] ∧ s.reached (s.sxBound e (s.collect e).s) = false) →
    exec (.collectComplete e) s = .next s) ∧
  (∀ (e i : Nat) (k : Instant) (d : BitVec 128) (s : State),
    s.entGrp e = some d → s.runsNow e d 6 k = true → s.role = 1 → s.sxMay = true → s.isDue 6 e k = true →
    s.entCars (s.entry e) = [i] → (s.carCfg i).slices ≠ 0 → s.sxOn (i / 32) = true →
    (s.sxP (i / 32)).timed.map Prod.fst = some (s.fld Fld.SX_EPOCH_EPOCH) →
    Completes (.commitScapexCarriers e k) s [.out, .regs, .levels, .sn, .pw, .ln, .le, .la, .bn, .sx, .pi, .subc,
      .blk, .mem] [.SUP_ISLAND, .LN_STATUS, .LN_OVERRUN, .LN_SUB, .LE_OVERRUN, .LE_FAULT, .LE_LOAD, .LA_STATUS,
      .LA_SLOT, .LA_COUNT, .SX_PORT, .SX_ERR] fun t =>
      t.out.length = s.out.length + 2 * (((s.carCfg i).slices + 23) / 24) ∧
      (t.sxP (i / 32)).seq = ((s.sxP (i / 32)).seq + ((s.carCfg i).slices + 23) / 24) % 65536 ∧
      Tab.get none t.ln.ran e = some k) ∧
  (∀ (e : Nat) (k : Instant) (d : BitVec 128) (s : State),
    s.entGrp e = some d → s.runsNow e d 6 k = true → s.role = 1 → s.sxMay = false ∨ s.isDue 6 e k = false →
    Completes (.commitScapexCarriers e k) s [.regs, .levels, .sn, .pw, .ln, .le, .la, .bn, .pi, .subc, .blk,
      .mem] [.SUP_ISLAND, .LN_STATUS, .LN_OVERRUN, .LN_SUB, .LE_OVERRUN, .LE_FAULT, .LE_LOAD, .LA_STATUS, .LA_SLOT,
      .LA_COUNT, .SX_PORT, .SX_ERR] fun t =>
      t.out = s.out ∧ Tab.get none t.ln.ran e = some k) ∧
  (∀ (p : Nat) (s : State),
    s.sxOrigin = true → p < 8 → (∀ q < 8, s.sxOn q = decide (q = p)) → (s.sxP p).timed ≠ some s.sxCycle →
    Completes .timeFrameSend s [.regs, .out, .sx] [.SX_ERR, .SX_PORT] fun t =>
      (t.sxP p).sent = true ∧ (t.sxP p).retE = none ∧ (t.sxP p).retW = none ∧ (t.sxP p).timed = some s.sxCycle ∧
      (t.sxP p).seq = ((s.sxP p).seq + 1) % 65536 ∧ t.out.length = s.out.length + 2) ∧
  (∀ (s : State),
    s.sxOrigin = false ∨ (∀ p < 8, s.sxOn p = true → (s.sxP p).timed = some s.sxCycle) →
    exec .timeFrameSend s = .next s) ∧
  (∀ (p : Fin 8) (f : SxFrame) (l : Nat) (s : State),
    s.sxOn p.val = true → s.sxOwn f = true → s.alive 6 = true → sxType f = 1 → (s.sxP p.val).sent = true →
    f.fcsOk = true → sxWrapped f = false → bitAt f.hdr 44 = true → (s.sxP p.val).retE = some 0 →
    (s.sxP p.val).wrapNow = true → s.takesRecord 6 →
    Completes (.timeFrameReturn p f l) s [.regs, .levels, .sn, .sx] [.SX_PORT, .SX_LAP] fun t =>
      t.flag Fld.SX_PORT_WRAPPED p.val = false ∧ t.flag Fld.SX_PORT_INTACT p.val = true ∧
      (t.sxP p.val).prop = sxProp l f ∧ (t.sxP p.val).wrapNow = false ∧
      t.fld Fld.SX_LAP_LAP p.val = sat 65535 (l / 10) ∧ Records [0x8002] s t ∧ Raised (102 + p.val) t) ∧
  (∀ (p : Fin 8) (f : SxFrame) (l : Nat) (s : State),
    s.sxOn p.val = true → s.sxOwn f = true → s.alive 6 = true → sxType f = 1 → (s.sxP p.val).sent = true →
    f.fcsOk = true → sxWrapped f = true → bitAt f.hdr 44 = false → (s.sxP p.val).wrapNow = false → s.takesRecord 6 →
    Completes (.timeFrameReturn p f l) s [.regs, .levels, .sn, .sx] [.SX_PORT] fun t =>
      t.flag Fld.SX_PORT_WRAPPED p.val = true ∧ t.flag Fld.SX_PORT_INTACT p.val = false ∧
      t.fld Fld.SX_PORT_WRAP_E p.val = bits f.hdr 65 60 ∧
      t.fld Fld.SX_PORT_WRAP_W p.val = s.fld Fld.SX_PORT_WRAP_W p.val ∧ (t.sxP p.val).prop = (s.sxP p.val).prop ∧
      Records [0x8001] s t ∧ Raised (102 + p.val) t) ∧
  (∀ (p : Fin 8) (f : SxFrame) (l : Nat) (s : State),
    s.sxOn p.val = true → s.sxOwn f = true → s.alive 6 = true → sxType f = 1 → (s.sxP p.val).sent = true →
    f.fcsOk = false →
    Completes (.timeFrameReturn p f l) s [.regs, .sx] [.SX_PORT, .SX_ERR] fun t =>
      t.flag Fld.SX_PORT_INTACT p.val = false ∧
      t.fld Fld.SX_ERR_FCS_BAD p.val = satAdd Fld.SX_ERR_FCS_BAD.top (s.fld Fld.SX_ERR_FCS_BAD p.val) 1) ∧
  (∀ (p : Fin 8) (f : SxFrame) (n : Nat) (s : State),
    s.alive 6 = true → s.sxOrigin = false → s.sxOwn f = false → (s.sxP p.val).downE = false →
    (s.sxP p.val).downW = false →
    Completes (.scapexForward p f n) s [.out, .regs, .ln, .bn, .sx] [.SX_PORT, .SX_CAR] fun t =>
      Sends [.scapex p.val (bitAt f.hdr 44 == sxWrapped f) (sxWire (sxPass f n))] s t) ∧
  (∀ (p : Fin 8) (f : SxFrame) (n : Nat) (s : State),
    s.alive 6 = true → s.sxOrigin = false → s.sxOwn f = false → bitAt f.hdr 44 = sxWrapped f →
    (s.sxP p.val).downE = true →
    Completes (.scapexForward p f n) s [.out, .regs, .ln, .bn, .sx] [.SX_PORT, .SX_CAR] fun t =>
      Sends [.scapex p.val false (sxWire { sxPass f n with hdr := putBits (putBit (sxPass f n).hdr 59 true) 65 60 32 })] s t) ∧
  (∀ (p : Fin 8) (f : SxFrame) (n i ch : Nat) (w : W64) (s : State),
    s.alive 6 = true → s.sxOrigin = false → s.sxOwn f = false → s.standing = true → f.fcsOk = true → sxType f = 4 →
    bits f.hdr 58 46 = s.base.binary → bitAt f.hdr 43 = true → f.payload = [w] → i = 32 * p.val + bits w 63 59 →
    ch = bits w 58 50 →
    Completes (.scapexForward p f n) s [.out, .regs, .ln, .bn, .sx] [.SX_PORT, .SX_CAR] fun t =>
      Tab.get none (t.sxC i).cmds ch = (if bits w 39 32 / 2 % 2 = 0 ∧ bits w 39 32 < 128 then some (bits w 39 32, BitVec.ofNat 32 (bits w 31 0)) else Tab.get none (s.sxC i).cmds ch)) ∧
  (∀ (p : Fin 8) (f : SxFrame) (n : Nat) (s : State),
    s.alive 6 = false ∨ s.sxOrigin = true ∨ s.sxOwn f = true →
    exec (.scapexForward p f n) s = .next s) ∧
  (∀ (p : Fin 8) (s : State),
    Completes (.scapexSegmentDown p true) s [.sx] [] fun t =>
      t.sxP p.val = { s.sxP p.val with downE := true } ∧ (∀ q, q ≠ p.val → t.sxP q = s.sxP q)) ∧
  (∀ (p : Fin 8) (s : State),
    Completes (.scapexSegmentDown p false) s [.sx] [] fun t =>
      t.sxP p.val = { s.sxP p.val with downW := true } ∧ (∀ q, q ≠ p.val → t.sxP q = s.sxP q)) ∧
  (∀ (p : Fin 8) (s : State),
    Completes (.scapexSegmentUp p true) s [.sx] [] fun t =>
      t.sxP p.val = { s.sxP p.val with downE := false } ∧ (∀ q, q ≠ p.val → t.sxP q = s.sxP q)) ∧
  (∀ (p : Fin 8) (s : State),
    Completes (.scapexSegmentUp p false) s [.sx] [] fun t =>
      t.sxP p.val = { s.sxP p.val with downW := false } ∧ (∀ q, q ≠ p.val → t.sxP q = s.sxP q))

/-- A SERVICE frame leaves only where the island originates and the receive buffer has room for both its copies; it is
repeated up to 3 times and gone when a valid copy came back or its repeats are used up. A valid copy waits in the
receive buffer, and the first one tells that a carrier's identity has been read, or that its configuration has gone
out, with record 0x8004; a bad one is counted; copies that the lap bound passed count as lost. A carrier's identity is
asked for by a SERVICE frame; once that is back, one whose identity matches is sent its configuration, a mismatch is
shown with 0x8005, an absent one reports CSTATE 0; a module that does not originate configures none. A carrier without
a slot report is lost with record 0x8003. Where a clause rests on a choice of the model, the choice is in log entries
84, 85, 86. It says of each of these commands, under hypotheses on the state and the operands alone, that exec answers
a next state with its effect: serviceFrameLaunch, serviceFrameReturn, serviceFrameTimeout, carrierConfigure,
carrierAppeared, carrierLost. -/
def Obligations.ScapexServiceAndCarriers : Prop :=
  (∀ (p : Fin 8) (x : SxService) (s : State),
    (s.sxP p.val).tx = [x] → x.onRing = 0 → s.sxOn p.val = true → s.sxOrigin = true →
    s.sxRoom p.val x.payload.length = true → (s.sxP p.val).timed.map Prod.fst = some (s.fld Fld.SX_EPOCH_EPOCH) →
    Completes (.serviceFrameLaunch p) s [.out, .sx] [] fun t =>
      (t.sxP p.val).tx = [{ x with tries := x.tries + 1, seq := (s.sxP p.val).seq % 65536, onRing := 2, got := false, sentAt := s.mt.frc }] ∧
      (t.sxP p.val).seq = ((s.sxP p.val).seq + 1) % 65536 ∧ t.out.length = s.out.length + 2) ∧
  (∀ (p : Fin 8) (x : SxService) (s : State),
    (s.sxP p.val).tx = [x] → x.onRing = 0 → s.sxOn p.val = true → s.sxOrigin = true →
    s.sxRoom p.val x.payload.length = true → (s.sxP p.val).timed.map Prod.fst ≠ some (s.fld Fld.SX_EPOCH_EPOCH) →
    Completes (.serviceFrameLaunch p) s [.out, .regs, .sx] [.SX_PORT, .SX_ERR] fun t =>
      (t.sxP p.val).tx = [{ x with tries := x.tries + 1, seq := ((s.sxP p.val).seq + 1) % 65536, onRing := 2, got := false, sentAt := s.mt.frc }] ∧
      (t.sxP p.val).timed = some s.sxCycle ∧ t.out.length = s.out.length + 4) ∧
  (∀ (p : Fin 8) (s : State),
    s.sxOrigin = false ∨ s.sxOn p.val = false ∨ (s.sxP p.val).tx = [] →
    exec (.serviceFrameLaunch p) s = .next s) ∧
  (∀ (p : Fin 8) (f : SxFrame) (x : SxService) (s : State),
    s.sxOn p.val = true → s.sxOwn f = true → s.alive 6 = true → sxType f = 5 → (s.sxP p.val).tx = [x] →
    0 < x.onRing → x.seq = bits f.hdr 95 80 → f.fcsOk = true →
    Completes (.serviceFrameReturn p f) s [.regs, .levels, .sn, .sx] [.SUP_ISLAND, .SX_ERR] fun t =>
      (t.sxP p.val).rx = (s.sxP p.val).rx ++ [f] ∧
      (t.sxP p.val).tx = (if x.onRing = 1 then [] else [{ x with onRing := x.onRing - 1, got := true }])) ∧
  (∀ (p : Fin 8) (f : SxFrame) (x : SxService) (i : Nat) (s : State),
    s.sxOn p.val = true → s.sxOwn f = true → s.alive 6 = true → sxType f = 5 → (s.sxP p.val).tx = [x] →
    0 < x.onRing → x.seq = bits f.hdr 95 80 → f.fcsOk = true → x.got = false → x.ident = some i → x.load = none →
    Completes (.serviceFrameReturn p f) s [.sx] [] fun t =>
      (t.sxC i).answered = true ∧ (t.sxC i).configured = (s.sxC i).configured) ∧
  (∀ (p : Fin 8) (f : SxFrame) (x : SxService) (i : Nat) (s : State),
    s.sxOn p.val = true → s.sxOwn f = true → s.alive 6 = true → sxType f = 5 → (s.sxP p.val).tx = [x] →
    0 < x.onRing → x.seq = bits f.hdr 95 80 → f.fcsOk = true → x.got = false → x.load = some i → s.takesRecord 6 →
    Completes (.serviceFrameReturn p f) s [.levels, .sn, .sx] [] fun t =>
      (t.sxC i).configured = true ∧ Records [0x8004] s t ∧ Raised (102 + p.val) t) ∧
  (∀ (p : Fin 8) (f : SxFrame) (x : SxService) (s : State),
    s.sxOn p.val = true → s.sxOwn f = true → s.alive 6 = true → sxType f = 5 → (s.sxP p.val).tx = [x] →
    0 < x.onRing → x.seq = bits f.hdr 95 80 → f.fcsOk = false →
    Completes (.serviceFrameReturn p f) s [.regs, .sx] [.SX_ERR] fun t =>
      (t.sxP p.val).rx = (s.sxP p.val).rx ∧
      t.fld Fld.SX_ERR_FCS_BAD p.val = satAdd Fld.SX_ERR_FCS_BAD.top (s.fld Fld.SX_ERR_FCS_BAD p.val) 1 ∧
      (t.sxP p.val).tx = (if x.onRing = 1 ∧ (x.got = true ∨ 4 ≤ x.tries) then [] else [{ x with onRing := x.onRing - 1 }])) ∧
  (∀ (p : Fin 8) (x : SxService) (s : State),
    (s.sxP p.val).tx = [x] → s.txLate p.val x = true →
    Completes (.serviceFrameTimeout p) s [.regs, .sx] [.SX_ERR] fun t =>
      t.fld Fld.SX_ERR_LOST p.val = satAdd Fld.SX_ERR_LOST.top (s.fld Fld.SX_ERR_LOST p.val) x.onRing ∧
      (t.sxP p.val).tx = (if x.got = true ∨ 4 ≤ x.tries then [] else [{ x with onRing := 0 }])) ∧
  (∀ (p : Fin 8) (s : State),
    (∀ x ∈ (s.sxP p.val).tx, s.txLate p.val x = false) →
    exec (.serviceFrameTimeout p) s = .next s) ∧
  (∀ (i : Fin 256) (k : Option Nat) (s : State),
    s.sxOn (i.val / 32) = true → s.carDeclared i.val = true → s.sxOrigin = true → 6 ≤ s.phase →
    (s.sxC i.val).answered = false →
    Completes (.carrierConfigure i k) s [.free, .sx] [] fun t =>
      (t.sxP (i.val / 32)).tx = (if s.sxTxRoom (i.val / 32) ((Config.carrierService i.val s.free).take 124).length = true then (s.sxP (i.val / 32)).tx ++ [{ payload := (Config.carrierService i.val s.free).take 124, ident := some i.val }] else (s.sxP (i.val / 32)).tx) ∧
      t.sxC i.val = s.sxC i.val) ∧
  (∀ (i : Fin 256) (k : Option Nat) (s : State),
    s.sxOn (i.val / 32) = true → s.carDeclared i.val = true → s.sxOrigin = true → 6 ≤ s.phase →
    (s.sxC i.val).answered = false →
    Completes (.carrierAppeared i k) s [.free, .sx] [] fun t =>
      (t.sxP (i.val / 32)).tx = (if s.sxTxRoom (i.val / 32) ((Config.carrierService i.val s.free).take 124).length = true then (s.sxP (i.val / 32)).tx ++ [{ payload := (Config.carrierService i.val s.free).take 124, ident := some i.val }] else (s.sxP (i.val / 32)).tx) ∧
      t.sxC i.val = s.sxC i.val) ∧
  (∀ (i : Fin 256) (k : Nat) (s : State),
    s.sxOn (i.val / 32) = true → s.carDeclared i.val = true → s.sxOrigin = true → 6 ≤ s.phase →
    (s.sxC i.val).answered = true → k = (s.carCfg i.val).identity →
    Completes (.carrierConfigure i (some k)) s [.free, .regs, .sx] [.SX_CAR] fun t =>
      t.flag Fld.SX_CAR_MISMATCH i.val = false ∧ (t.sxC i.val).configured = false ∧ (t.sxC i.val).answered = false ∧
      (t.sxC i.val).identity = some k ∧ (t.sxP (i.val / 32)).rx = [] ∧
      (t.sxP (i.val / 32)).tx = (if s.sxTxRoom (i.val / 32) ((Config.carrierService i.val s.free).take 124).length = true then (s.sxP (i.val / 32)).tx ++ [{ payload := (Config.carrierService i.val s.free).take 124, load := some i.val }] else (s.sxP (i.val / 32)).tx)) ∧
  (∀ (i : Fin 256) (k : Nat) (s : State),
    s.sxOn (i.val / 32) = true → s.carDeclared i.val = true → s.sxOrigin = true → 6 ≤ s.phase →
    (s.sxC i.val).answered = true → k ≠ (s.carCfg i.val).identity → s.takesRecord 6 →
    Completes (.carrierAppeared i (some k)) s [.regs, .levels, .sn, .sx] [.SX_CAR, .SX_PORT] fun t =>
      t.flag Fld.SX_CAR_MISMATCH i.val = true ∧ t.fld Fld.SX_CAR_CSTATE i.val = 0 ∧
      (t.sxC i.val).configured = false ∧ Records [0x8005] s t ∧ Raised (102 + i.val / 32) t) ∧
  (∀ (i : Fin 256) (s : State),
    s.sxOn (i.val / 32) = true → s.carDeclared i.val = true → s.sxOrigin = true → 6 ≤ s.phase →
    (s.sxC i.val).answered = true →
    Completes (.carrierAppeared i none) s [.regs, .sx] [.SX_CAR, .SX_PORT] fun t =>
      t.fld Fld.SX_CAR_CSTATE i.val = 0 ∧ (t.sxC i.val).configured = false ∧ (t.sxC i.val).identity = none) ∧
  (∀ (i : Fin 256) (k : Option Nat) (s : State),
    s.sxOrigin = false ∨ s.carDeclared i.val = false →
    exec (.carrierConfigure i k) s = .next s ∧ exec (.carrierAppeared i k) s = .next s) ∧
  (∀ (i : Fin 256) (n : W64) (s : State),
    s.sxOn (i.val / 32) = true → s.carDeclared i.val = true → s.sxOrigin = true → (s.sxC i.val).lost = false →
    (s.sxC i.val).slotAt = some n → 3000000 ≤ (s.mt.frc - n).toNat → s.takesRecord 6 →
    Completes (.carrierLost i) s [.regs, .levels, .sn, .sx] [.SX_PORT] fun t =>
      (t.sxC i.val).lost = true ∧ (t.sxC i.val).slotAt = none ∧
      t.fld Fld.SX_CAR_CSTATE i.val = s.fld Fld.SX_CAR_CSTATE i.val ∧ Records [0x8003] s t ∧
      Raised (102 + i.val / 32) t) ∧
  (∀ (i : Fin 256) (s : State),
    (s.sxC i.val).lost = true ∨ s.sxSilent (s.sxC i.val) = false →
    exec (.carrierLost i) s = .next s)

/-- A frame that an enabled receive object matches is stored with its instant, NEW set, and LOST set and counted where
NEW was still set; any other data frame, and a remote frame, is counted unmatched; an FD frame is a protocol exception
at a port without CAN FD. A frame heard clears ACK_RUN, and ALONE with 0xA005, and lowers REC by one (from above 127
to a free value from 119 to 127). A sent frame clears PENDING and lowers TEC; where SENDs came after its arbitration
began, its own data leave and theirs stay pending; a frame whose request was withdrawn leaves with its own data; a
lost arbitration leaves the request pending with its newest data alone; an unacknowledged one counts its attempt,
raises TEC by 8, and gives the request up with record 0xA006 at its limit; the third in a row sets ALONE with 0xA004.
Bus errors raise TEC by 8 for a transmitter, but for a stuff error in arbitration, and break its run of
acknowledgement errors; they raise REC by 1 or 8 for a receiver. A port that may not transmit sends nothing but a
frame that was on the bus as it lost authority. Recovery begins only from bus-off with 0xA007 and ends error-active
with both counters 0 and 0xA008. A port leaves listen-only when it may send and is not declared listen-only. Where a
clause rests on a choice of the model, the choice is in log entries 75, 76, 130. It says of each of these commands,
under hypotheses on the state and the operands alone, that exec answers a next state with its effect:
canFrameReceived, canRemoteFrame, canProtocolException, canTxSuccess, canTxAckError, canBusError, canArbitrationLost,
canRecover, canRecoveryDone, canLeaveListenOnly. -/
def Obligations.CanFramesAndConfinement : Prop :=
  (∀ (p : Fin 4) (f : CanFrame) (o : Nat) (s : State),
    s.canOn p.val = true → s.fld Fld.CN_STAT_FC p.val = 0 → (f.fdf && !s.flag Fld.CN_CFG_FD p.val) = false →
    s.fld Fld.CN_STAT_REC p.val < 128 → s.fld Fld.CN_STAT_TEC p.val < 128 → s.flag Fld.CN_STAT_ALONE p.val = false →
    s.canMatch p.val f.id.toNat f.ide = some o → (s.canObj p.val o).send = false →
    bitAt (s.canObj p.val o).hdr 38 = false → bitAt (s.canObj p.val o).hdr 41 = f.fdf →
    Completes (.canFrameReceived p f) s [.regs, .cn] [.CN_STAT] fun t =>
      bits (t.canObj p.val o).hdr 127 64 = (s.timeOf (s.fld Fld.CN_CFG_TB p.val)).toNat ∧
      (t.canObj p.val o).dlc = f.dlc % 16 ∧ bitAt (t.canObj p.val o).hdr 38 = true ∧
      bitAt (t.canObj p.val o).hdr 37 = bitAt (s.canObj p.val o).hdr 37 ∧ bitAt (t.canObj p.val o).hdr 40 = f.brs ∧
      bitAt (t.canObj p.val o).hdr 39 = f.esi ∧
      (t.canObj p.val o).data = wordOf 512 (f.data.take (dlcLen f.fdf f.dlc)) ∧
      t.fld Fld.CN_STAT_ACK_RUN p.val = 0 ∧ t.fld Fld.CN_STAT_TEC p.val = s.fld Fld.CN_STAT_TEC p.val ∧
      (s.canListens p.val = false → t.fld Fld.CN_STAT_REC p.val = s.fld Fld.CN_STAT_REC p.val - 1)) ∧
  (∀ (p : Fin 4) (f : CanFrame) (o : Nat) (s : State),
    s.canOn p.val = true → s.fld Fld.CN_STAT_FC p.val = 0 → (f.fdf && !s.flag Fld.CN_CFG_FD p.val) = false →
    s.fld Fld.CN_STAT_REC p.val < 128 → s.fld Fld.CN_STAT_TEC p.val < 128 → s.flag Fld.CN_STAT_ALONE p.val = false →
    s.canMatch p.val f.id.toNat f.ide = some o → (s.canObj p.val o).send = false →
    bitAt (s.canObj p.val o).hdr 38 = true → bitAt (s.canObj p.val o).hdr 41 = f.fdf →
    Completes (.canFrameReceived p f) s [.regs, .cn] [.CN_STAT, .CN_ERR] fun t =>
      bitAt (t.canObj p.val o).hdr 38 = true ∧ bitAt (t.canObj p.val o).hdr 37 = true ∧
      t.fld Fld.CN_ERR_LOST p.val = satAdd Fld.CN_ERR_LOST.top (s.fld Fld.CN_ERR_LOST p.val) 1) ∧
  (∀ (p : Fin 4) (f : CanFrame) (s : State),
    s.canOn p.val = true → s.fld Fld.CN_STAT_FC p.val = 0 → (f.fdf && !s.flag Fld.CN_CFG_FD p.val) = false →
    s.fld Fld.CN_STAT_REC p.val < 128 → s.fld Fld.CN_STAT_TEC p.val < 128 → s.flag Fld.CN_STAT_ALONE p.val = false →
    s.canMatch p.val f.id.toNat f.ide = none →
    Completes (.canFrameReceived p f) s [.regs, .cn] [.CN_STAT, .CN_ERR] fun t =>
      t.fld Fld.CN_ERR_UNMATCHED p.val = satAdd Fld.CN_ERR_UNMATCHED.top (s.fld Fld.CN_ERR_UNMATCHED p.val) 1 ∧
      t.fld Fld.CN_STAT_ACK_RUN p.val = 0 ∧ (∀ o, t.canObj p.val o = s.canObj p.val o)) ∧
  (∀ (p : Fin 4) (f : CanFrame) (s : State),
    s.canOn p.val = true → s.fld Fld.CN_STAT_FC p.val = 0 → (f.fdf && !s.flag Fld.CN_CFG_FD p.val) = false →
    s.fld Fld.CN_STAT_REC p.val < 128 → s.fld Fld.CN_STAT_TEC p.val < 128 → s.flag Fld.CN_STAT_ALONE p.val = true →
    s.takesRecord 7 →
    Completes (.canFrameReceived p f) s [.free, .regs, .levels, .sn, .cn] [.SUP_ISLAND, .CN_STAT, .CN_ERR,
      .CN_PROT] fun t =>
      t.flag Fld.CN_STAT_ALONE p.val = false ∧ t.fld Fld.CN_STAT_ACK_RUN p.val = 0 ∧ Records [0xA005] s t ∧
      Raised (114 + p.val) t) ∧
  (∀ (p : Fin 4) (f : CanFrame) (s : State),
    s.canOn p.val = true → s.fld Fld.CN_STAT_FC p.val < 2 → f.fdf = true → s.flag Fld.CN_CFG_FD p.val = false →
    Completes (.canFrameReceived p f) s [.regs] [.CN_PROT] fun t =>
      t.fld Fld.CN_PROT_LAST p.val = 7 ∧
      t.fld Fld.CN_PROT_ERRORS p.val = satAdd Fld.CN_PROT_ERRORS.top (s.fld Fld.CN_PROT_ERRORS p.val) 1) ∧
  (∀ (p : Fin 4) (s : State),
    s.canOn p.val = true → s.fld Fld.CN_STAT_FC p.val = 0 → s.fld Fld.CN_STAT_TEC p.val < 128 →
    s.fld Fld.CN_STAT_REC p.val < 128 → s.canListens p.val = false → s.flag Fld.CN_STAT_ALONE p.val = false →
    Completes (.canRemoteFrame p) s [.regs, .cn] [.CN_STAT, .CN_ERR] fun t =>
      t.fld Fld.CN_STAT_REC p.val = s.fld Fld.CN_STAT_REC p.val - 1 ∧
      t.fld Fld.CN_STAT_TEC p.val = s.fld Fld.CN_STAT_TEC p.val ∧ t.fld Fld.CN_STAT_FC p.val = 0 ∧
      t.fld Fld.CN_STAT_ACK_RUN p.val = 0 ∧
      t.fld Fld.CN_ERR_UNMATCHED p.val = satAdd Fld.CN_ERR_UNMATCHED.top (s.fld Fld.CN_ERR_UNMATCHED p.val) 1 ∧
      (∀ o, t.canObj p.val o = s.canObj p.val o)) ∧
  (∀ (p : Fin 4) (s : State),
    s.canOn p.val = true → s.fld Fld.CN_STAT_FC p.val = 1 → s.fld Fld.CN_STAT_TEC p.val < 128 →
    127 < s.fld Fld.CN_STAT_REC p.val → s.canListens p.val = false → s.flag Fld.CN_STAT_ALONE p.val = false →
    s.takesRecord 7 →
    Completes (.canRemoteFrame p) s [.free, .regs, .levels, .sn, .cn] [.CN_STAT, .CN_ERR] fun t =>
      119 ≤ t.fld Fld.CN_STAT_REC p.val ∧ t.fld Fld.CN_STAT_REC p.val ≤ 127 ∧ t.fld Fld.CN_STAT_FC p.val = 0 ∧
      t.free = s.free + 1 ∧ Records [0xA002] s t ∧ Raised (114 + p.val) t ∧
      t.fld Fld.CN_ERR_UNMATCHED p.val = satAdd Fld.CN_ERR_UNMATCHED.top (s.fld Fld.CN_ERR_UNMATCHED p.val) 1) ∧
  (∀ (p : Fin 4) (f : CanFrame) (s : State),
    s.canOn p.val = false ∨ 2 ≤ s.fld Fld.CN_STAT_FC p.val →
    exec (.canFrameReceived p f) s = .next s ∧ exec (.canRemoteFrame p) s = .next s) ∧
  (∀ (p : Fin 4) (s : State),
    s.canOn p.val = true → s.fld Fld.CN_STAT_FC p.val < 2 →
    Completes (.canProtocolException p) s [.regs] [.CN_PROT] fun t =>
      t.fld Fld.CN_PROT_LAST p.val = 7 ∧
      t.fld Fld.CN_PROT_ERRORS p.val = satAdd Fld.CN_PROT_ERRORS.top (s.fld Fld.CN_PROT_ERRORS p.val) 1) ∧
  (∀ (p : Fin 4) (o : Fin 128) (s : State),
    s.canSends p.val o.val = true → (s.canObj p.val o.val).pend = true → s.fld Fld.CN_STAT_FC p.val = 0 →
    s.fld Fld.CN_STAT_REC p.val < 128 → s.fld Fld.CN_STAT_TEC p.val < 128 → s.flag Fld.CN_STAT_ALONE p.val = false →
    Completes (.canTxSuccess p o 0) s [.regs, .out, .cn] [.CN_STAT] fun t =>
      (t.canObj p.val o.val).pend = false ∧
      bits (t.canObj p.val o.val).hdr 127 64 = (s.timeOf (s.fld Fld.CN_CFG_TB p.val)).toNat ∧
      bits (t.canObj p.val o.val).hdr 55 48 = 0 ∧ bitAt (t.canObj p.val o.val).hdr 35 = false ∧
      (t.canObj p.val o.val).data = (s.canObj p.val o.val).data ∧
      (s.canListens p.val = false → t.fld Fld.CN_STAT_TEC p.val = s.fld Fld.CN_STAT_TEC p.val - 1) ∧
      Sends [.can p.val o.val (s.canObj p.val o.val).id (bytesOf (s.canObj p.val o.val).data (dlcLen (bitAt (s.canObj p.val o.val).hdr 41) (s.canObj p.val o.val).dlc))] s t) ∧
  (∀ (p : Fin 4) (o : Fin 128) (n : Nat) (s : State),
    s.canSends p.val o.val = true → (s.canObj p.val o.val).pend = true → s.fld Fld.CN_STAT_FC p.val = 0 →
    s.fld Fld.CN_STAT_REC p.val < 128 → s.fld Fld.CN_STAT_TEC p.val < 128 → s.flag Fld.CN_STAT_ALONE p.val = false →
    0 < n → n ≤ (s.canObj p.val o.val).old.length →
    Completes (.canTxSuccess p o n) s [.regs, .out, .cn] [.CN_STAT] fun t =>
      (t.canObj p.val o.val).pend = true ∧ (t.canObj p.val o.val).data = (s.canObj p.val o.val).data ∧
      (t.canObj p.val o.val).dlc = (s.canObj p.val o.val).dlc ∧ (t.canObj p.val o.val).old = [] ∧
      bits (t.canObj p.val o.val).hdr 127 64 = (s.timeOf (s.fld Fld.CN_CFG_TB p.val)).toNat ∧
      ∃ x, (s.canObj p.val o.val).old[n - 1]? = some x ∧ Sends [.can p.val o.val (s.canObj p.val o.val).id (bytesOf x.2 (dlcLen (bitAt (s.canObj p.val o.val).hdr 41) x.1))] s t) ∧
  (∀ (p : Fin 4) (o : Fin 128) (n : Nat) (x : Nat × BitVec 512) (s : State),
    s.canSends p.val o.val = true → (s.canObj p.val o.val).pend = false → (s.canObj p.val o.val).old[n]? = some x →
    Completes (.canTxSuccess p o n) s [.out, .regs, .levels, .sn, .cn] [.SUP_ISLAND, .CN_STAT, .CN_ERR] fun t =>
      (t.canObj p.val o.val).pend = false ∧ (t.canObj p.val o.val).old = [] ∧
      Sends [.can p.val o.val (s.canObj p.val o.val).id (bytesOf x.2 (dlcLen (bitAt (s.canObj p.val o.val).hdr 41) x.1))] s t) ∧
  (∀ (p : Fin 4) (o : Fin 128) (d : Bool) (s : State),
    s.canSends p.val o.val = true → s.canListens p.val = false → s.fld Fld.CN_STAT_FC p.val = 0 →
    s.fld Fld.CN_STAT_REC p.val < 128 → s.fld Fld.CN_STAT_TEC p.val < 120 → s.fld Fld.CN_STAT_ACK_RUN p.val < 2 →
    bits (s.canObj p.val o.val).hdr 63 56 = 0 →
    Completes (.canTxAckError p o d) s [.regs, .cn] [.CN_STAT, .CN_PROT] fun t =>
      t.fld Fld.CN_STAT_TEC p.val = s.fld Fld.CN_STAT_TEC p.val + 8 ∧
      t.fld Fld.CN_STAT_ACK_RUN p.val = s.fld Fld.CN_STAT_ACK_RUN p.val + 1 ∧ t.fld Fld.CN_PROT_LAST p.val = 3 ∧
      bits (t.canObj p.val o.val).hdr 55 48 = satAdd 255 (bits (s.canObj p.val o.val).hdr 55 48) 1 ∧
      (t.canObj p.val o.val).pend = (s.canObj p.val o.val).pend) ∧
  (∀ (p : Fin 4) (o : Fin 128) (d : Bool) (s : State),
    s.canSends p.val o.val = true → s.canListens p.val = false → s.fld Fld.CN_STAT_FC p.val = 0 →
    s.fld Fld.CN_STAT_REC p.val < 128 → s.fld Fld.CN_STAT_TEC p.val < 120 → s.fld Fld.CN_STAT_ACK_RUN p.val = 2 →
    s.flag Fld.CN_STAT_ALONE p.val = false → bits (s.canObj p.val o.val).hdr 63 56 = 1 →
    (s.canObj p.val o.val).pend = true → s.pw.inReset = none →
    (s.sn.raised.filter fun r => r.island == 7).length < 15 →
    Completes (.canTxAckError p o d) s [.regs, .levels, .sn, .cn] [.CN_STAT, .CN_PROT, .CN_ERR] fun t =>
      t.fld Fld.CN_STAT_TEC p.val = s.fld Fld.CN_STAT_TEC p.val + 8 ∧ t.flag Fld.CN_STAT_ALONE p.val = true ∧
      (t.canObj p.val o.val).pend = false ∧ bitAt (t.canObj p.val o.val).hdr 35 = true ∧
      t.fld Fld.CN_ERR_UNACK p.val = satAdd Fld.CN_ERR_UNACK.top (s.fld Fld.CN_ERR_UNACK p.val) 1 ∧
      Records [0xA004, 0xA006] s t ∧ Raised (114 + p.val) t) ∧
  (∀ (p : Fin 4) (o : Fin 128) (s : State),
    s.canSends p.val o.val = true → s.canListens p.val = false → s.fld Fld.CN_STAT_FC p.val = 1 →
    128 ≤ s.fld Fld.CN_STAT_TEC p.val → s.fld Fld.CN_STAT_TEC p.val < 256 → s.fld Fld.CN_STAT_ACK_RUN p.val < 2 →
    bits (s.canObj p.val o.val).hdr 63 56 = 0 →
    Completes (.canTxAckError p o false) s [.regs, .cn] [.CN_STAT, .CN_PROT] fun t =>
      t.fld Fld.CN_STAT_TEC p.val = s.fld Fld.CN_STAT_TEC p.val ∧ t.fld Fld.CN_STAT_FC p.val = 1) ∧
  (∀ (p : Fin 4) (k : Fin 16) (v : Bool) (s : State),
    s.canOn p.val = true → s.canMay p.val = true → k = 1 ∨ k = 2 ∨ k = 4 ∨ k = 5 ∨ k = 6 →
    s.canListens p.val = false → s.fld Fld.CN_STAT_FC p.val = 0 → s.fld Fld.CN_STAT_REC p.val < 128 →
    s.fld Fld.CN_STAT_TEC p.val < 120 →
    Completes (.canBusError p k true v) s [.regs, .cn] [.CN_STAT, .CN_PROT] fun t =>
      t.fld Fld.CN_STAT_TEC p.val = s.fld Fld.CN_STAT_TEC p.val + (if k = 1 ∧ v = false then 0 else 8) ∧
      t.fld Fld.CN_STAT_ACK_RUN p.val = 0 ∧ t.fld Fld.CN_STAT_REC p.val = s.fld Fld.CN_STAT_REC p.val ∧
      t.fld Fld.CN_PROT_LAST p.val = k.val ∧ t.fld Fld.CN_STAT_FC p.val = 0) ∧
  (∀ (p : Fin 4) (k : Fin 16) (v : Bool) (s : State),
    s.canOn p.val = true → s.canMay p.val = true → k ≠ 1 ∨ v = true → k = 1 ∨ k = 2 ∨ k = 4 ∨ k = 5 ∨ k = 6 →
    s.canListens p.val = false → s.fld Fld.CN_STAT_FC p.val = 1 → 248 ≤ s.fld Fld.CN_STAT_TEC p.val →
    s.takesRecord 7 →
    Completes (.canBusError p k true v) s [.regs, .levels, .sn, .cn] [.CN_STAT, .CN_PROT, .CN_ERR] fun t =>
      t.fld Fld.CN_STAT_TEC p.val = sat 511 (s.fld Fld.CN_STAT_TEC p.val + 8) ∧ t.fld Fld.CN_STAT_FC p.val = 2 ∧
      t.fld Fld.CN_ERR_BUS_OFF p.val = satAdd Fld.CN_ERR_BUS_OFF.top (s.fld Fld.CN_ERR_BUS_OFF p.val) 1 ∧
      Records [0xA003] s t ∧ Raised (114 + p.val) t) ∧
  (∀ (p : Fin 4) (k : Fin 16) (v : Bool) (s : State),
    s.canOn p.val = true → k = 1 ∨ k = 2 ∨ k = 4 ∨ k = 5 ∨ k = 6 → s.canListens p.val = false →
    s.fld Fld.CN_STAT_FC p.val = 0 → s.fld Fld.CN_STAT_REC p.val < 120 → s.fld Fld.CN_STAT_TEC p.val < 128 →
    Completes (.canBusError p k false v) s [.regs] [.CN_STAT, .CN_PROT] fun t =>
      t.fld Fld.CN_STAT_REC p.val = s.fld Fld.CN_STAT_REC p.val + (if v then 8 else 1) ∧
      t.fld Fld.CN_STAT_TEC p.val = s.fld Fld.CN_STAT_TEC p.val) ∧
  (∀ (p : Fin 4) (o : Fin 128) (s : State),
    s.canSends p.val o.val = true →
    Completes (.canArbitrationLost p o) s [.cn] [] fun t =>
      t.canObj p.val o.val = { s.canObj p.val o.val with old := [] } ∧
      (∀ q j, 128 * q + j ≠ 128 * p.val + o.val → t.canObj q j = s.canObj q j) ∧ t.cn.win0 = s.cn.win0 ∧
      t.cn.win1 = s.cn.win1) ∧
  (∀ (p : Fin 4) (o : Fin 128) (s : State),
    s.canSends p.val o.val = false →
    exec (.canArbitrationLost p o) s = .next s) ∧
  (∀ (p : Fin 4) (s : State),
    s.fld Fld.CN_STAT_FC p.val = 2 → s.takesRecord 7 →
    Completes (.canRecover p) s [.regs, .levels, .sn] [.CN_STAT] fun t =>
      t.fld Fld.CN_STAT_FC p.val = 3 ∧ t.fld Fld.CN_STAT_TEC p.val = s.fld Fld.CN_STAT_TEC p.val ∧
      Records [0xA007] s t ∧ Raised (114 + p.val) t) ∧
  (∀ (p : Fin 4) (s : State),
    s.fld Fld.CN_STAT_FC p.val ≠ 2 →
    exec (.canRecover p) s = .next s) ∧
  (∀ (p : Fin 4) (s : State),
    s.fld Fld.CN_STAT_FC p.val = 3 → s.takesRecord 7 →
    Completes (.canRecoveryDone p) s [.regs, .levels, .sn] [.CN_STAT] fun t =>
      t.fld Fld.CN_STAT_FC p.val = 0 ∧ t.fld Fld.CN_STAT_TEC p.val = 0 ∧ t.fld Fld.CN_STAT_REC p.val = 0 ∧
      Records [0xA008] s t ∧ Raised (114 + p.val) t) ∧
  (∀ (p : Fin 4) (s : State),
    s.fld Fld.CN_STAT_FC p.val ≠ 3 →
    exec (.canRecoveryDone p) s = .next s) ∧
  (∀ (p : Fin 4) (s : State),
    s.canOn p.val = true → s.flag Fld.CN_STAT_TX_EN p.val = true → s.flag Fld.CN_CFG_LISTEN p.val = false →
    s.canListens p.val = true → s.takesRecord 7 →
    Completes (.canLeaveListenOnly p) s [.regs, .levels, .sn, .cn] [.CN_STAT] fun t =>
      t.flag Fld.CN_STAT_LISTEN p.val = false ∧
      Records (if s.fld Fld.CN_STAT_FC p.val = 0 then [] else [0xA002]) s t ∧ t.fld Fld.CN_STAT_FC p.val = 0 ∧
      t.fld Fld.CN_STAT_TEC p.val = 0 ∧ t.fld Fld.CN_STAT_REC p.val = 0) ∧
  (∀ (p : Fin 4) (s : State),
    s.canOn p.val = false ∨ s.flag Fld.CN_STAT_TX_EN p.val = false ∨ s.flag Fld.CN_CFG_LISTEN p.val = true ∨ s.canListens p.val = false →
    exec (.canLeaveListenOnly p) s = .next s) ∧
  (∀ (p : Fin 4) (o : Fin 128) (n : Nat) (d : Bool) (k : Fin 16) (v : Bool) (s : State),
    s.flag Fld.CN_STAT_TX_EN p.val = false ∨ s.canListens p.val = true → Tab.get false s.cn.finish p.val = false →
    exec (.canTxSuccess p o n) s = .next s ∧ exec (.canTxAckError p o d) s = .next s ∧
    exec (.canBusError p k true v) s = .next s)

/-- SNAP copies an object whole into its writer's window and clears NEW and LOST; SEND takes DLC and data from the
window and makes the object pending, a request still pending being replaced with LOST and code 7; CANCEL clears
PENDING. An object that is not enabled, on a port not configured, answers 1; SEND or CANCEL of a receive object 3; a
port that listens only, or may not send, 4; a Classical object with a DLC above 8 answers 5, and none of these changes
the object. Where a clause rests on a choice of the model, the choice is in log entries 11, 75. It says of each of
these commands, under hypotheses on the state and the operands alone, that exec answers a next state with its effect:
canSnap, canSend, canCancel. -/
def Obligations.CanObjectCommands : Prop :=
  (∀ (w : Writer) (p : Fin 4) (o : Fin 128) (s : State),
    (s.canObj p.val o.val).en = true → s.flag Fld.CN_CFG_EN p.val = true →
    Completes (.canSnap w p o) s [.regs, .cn] [.CN_OBJRES] fun t =>
      t.canWin (wIdx w) = { s.canObj p.val o.val with old := [], at_ := 0 } ∧
      bitAt (t.canObj p.val o.val).hdr 38 = false ∧ bitAt (t.canObj p.val o.val).hdr 37 = false ∧
      (t.canObj p.val o.val).data = (s.canObj p.val o.val).data ∧
      (t.canObj p.val o.val).pend = (s.canObj p.val o.val).pend ∧ t.fld Fld.CN_OBJRES_CODE (wIdx w) = 0 ∧
      t.canWin (1 - wIdx w) = s.canWin (1 - wIdx w)) ∧
  (∀ (w : Writer) (p : Fin 4) (o : Fin 128) (s : State),
    s.canCode (wIdx w) 2 p.val o.val = 0 → (s.canObj p.val o.val).pend = false →
    Completes (.canSend w p o) s [.regs, .cn] [.CN_OBJRES] fun t =>
      (t.canObj p.val o.val).pend = true ∧ (t.canObj p.val o.val).data = (s.canWin (wIdx w)).data ∧
      (t.canObj p.val o.val).dlc = (s.canWin (wIdx w)).dlc ∧ bits (t.canObj p.val o.val).hdr 55 48 = 0 ∧
      bitAt (t.canObj p.val o.val).hdr 35 = false ∧ t.fld Fld.CN_OBJRES_CODE (wIdx w) = 0) ∧
  (∀ (w : Writer) (p : Fin 4) (o : Fin 128) (s : State),
    s.canCode (wIdx w) 2 p.val o.val = 0 → (s.canObj p.val o.val).pend = true →
    Completes (.canSend w p o) s [.regs, .cn] [.CN_OBJRES, .CN_ERR] fun t =>
      (t.canObj p.val o.val).pend = true ∧ (t.canObj p.val o.val).data = (s.canWin (wIdx w)).data ∧
      bitAt (t.canObj p.val o.val).hdr 37 = true ∧
      t.fld Fld.CN_ERR_LOST p.val = satAdd Fld.CN_ERR_LOST.top (s.fld Fld.CN_ERR_LOST p.val) 1 ∧
      t.fld Fld.CN_OBJRES_CODE (wIdx w) = 7) ∧
  (∀ (w : Writer) (p : Fin 4) (o : Fin 128) (s : State),
    s.canCode (wIdx w) 3 p.val o.val = 0 →
    Completes (.canCancel w p o) s [.regs, .cn] [.CN_OBJRES] fun t =>
      (t.canObj p.val o.val).pend = false ∧ (t.canObj p.val o.val).data = (s.canObj p.val o.val).data ∧
      t.fld Fld.CN_OBJRES_CODE (wIdx w) = 0) ∧
  (∀ (w : Writer) (p : Fin 4) (o : Fin 128) (s : State),
    (s.canObj p.val o.val).en = false ∨ s.flag Fld.CN_CFG_EN p.val = false →
    exec (.canSnap w p o) s = .next (s.setFld Fld.CN_OBJRES_CODE 1 (wIdx w)) ∧
    exec (.canSend w p o) s = .next (s.setFld Fld.CN_OBJRES_CODE 1 (wIdx w)) ∧
    exec (.canCancel w p o) s = .next (s.setFld Fld.CN_OBJRES_CODE 1 (wIdx w))) ∧
  (∀ (w : Writer) (p : Fin 4) (o : Fin 128) (s : State),
    (s.canObj p.val o.val).en = true → s.flag Fld.CN_CFG_EN p.val = true → (s.canObj p.val o.val).send = false →
    exec (.canSend w p o) s = .next (s.setFld Fld.CN_OBJRES_CODE 3 (wIdx w)) ∧
    exec (.canCancel w p o) s = .next (s.setFld Fld.CN_OBJRES_CODE 3 (wIdx w))) ∧
  (∀ (w : Writer) (p : Fin 4) (o : Fin 128) (s : State),
    (s.canObj p.val o.val).en = true → s.flag Fld.CN_CFG_EN p.val = true → (s.canObj p.val o.val).send = true →
    s.canListens p.val = true ∨ s.flag Fld.CN_STAT_TX_EN p.val = false →
    exec (.canSend w p o) s = .next (s.setFld Fld.CN_OBJRES_CODE 4 (wIdx w)) ∧
    exec (.canCancel w p o) s = .next (s.setFld Fld.CN_OBJRES_CODE 4 (wIdx w))) ∧
  (∀ (w : Writer) (p : Fin 4) (o : Fin 128) (s : State),
    (s.canObj p.val o.val).en = true → s.flag Fld.CN_CFG_EN p.val = true → (s.canObj p.val o.val).send = true →
    s.canListens p.val = false → s.flag Fld.CN_STAT_TX_EN p.val = true →
    bitAt (s.canObj p.val o.val).hdr 41 = false → 8 < (s.canWin (wIdx w)).dlc →
    exec (.canSend w p o) s = .next (s.setFld Fld.CN_OBJRES_CODE 5 (wIdx w)))

/-- A READY standby that sees the loop unclaimed when a takeover condition holds drives its claim with a new epoch,
the kind of the change, and a resume instant 50 µs ahead; while the partner's claim is present nothing is claimed, and
an isolated standby never claims. What a unit shows of the loop follows from the two claims; another indication
changes nothing. A module becomes active when the loop shows its position while it claims. The CAN island transmits
while it shows the own position, and listens only when it ceases to. Position B withdraws a claim that meets the
partner's, and a start-up claim that loses joins. A claim that does not come back is shown so; an active then sets
LOOP_FAULT with record 0xB00E, ends its tests and releases. The epoch word written to the key ends the wait for its
store. Where a clause rests on a choice of the model, the choice is in log entries 79, 80. It says of each of these
commands, under hypotheses on the state and the operands alone, that exec answers a next state with its effect:
loopIndicationChange, partnerClaimChange, partnerReadyChange, claimReturnTimeout, releaseReceived, epochStored,
takeoverResume. -/
def Obligations.AuthorityLoop : Prop :=
  (∀ (i : Fin 18) (d : Indication) (s : State),
    i.val ≠ 5 → i.val < 7 → d = s.loopShows →
    Completes (.loopIndicationChange i d) s [.bn] [] fun t =>
      Tab.get Indication.unclaimed t.bn.inds i.val = d ∧
      (∀ j, j ≠ i.val → Tab.get Indication.unclaimed t.bn.inds j = Tab.get Indication.unclaimed s.bn.inds j)) ∧
  (∀ (i : Fin 18) (d : Indication) (s : State),
    7 ≤ i.val → d = s.loopShows →
    Completes (.loopIndicationChange i d) s [.regs, .levels, .boot, .sn, .mt, .pw, .ln, .le, .la, .bn, .io, .cn,
      .up, .pi, .blk, .mem] [.SUP_ISLAND, .LE_CTL, .LA_STATUS, .LA_SURGE, .LA_COUNT, .BN_STATUS, .BN_LOOP,
      .CN_STAT, .UC_STAT, .DC_STAT] fun t =>
      Tab.get Indication.unclaimed t.bn.inds i.val = d ∧
      (∀ j, j ≠ i.val → Tab.get Indication.unclaimed t.bn.inds j = Tab.get Indication.unclaimed s.bn.inds j) ∧
      t.role = s.role ∧ t.auth = s.auth) ∧
  (∀ (i : Fin 18) (d : Indication) (s : State),
    d ≠ s.loopShows →
    exec (.loopIndicationChange i d) s = .next s) ∧
  (∀ (d : Indication) (s : State),
    d = s.loopShows → s.shows 7 ≠ decide (d = (if s.posB then Indication.b else Indication.a)) →
    Completes (.loopIndicationChange 7 d) s [.regs, .levels, .boot, .sn, .mt, .pw, .ln, .le, .la, .bn, .io, .cn,
      .up, .pi, .blk, .mem] [.SUP_ISLAND, .LE_CTL, .LA_STATUS, .LA_SURGE, .LA_COUNT, .BN_STATUS, .BN_LOOP,
      .CN_STAT, .UC_STAT, .DC_STAT] fun t =>
      ∀ q, q < 4 → t.flag Fld.CN_STAT_TX_EN q = !s.shows 7 ∧ (s.shows 7 = true → t.canListens q = true)) ∧
  (∀ (d : Indication) (s : State),
    d = s.loopShows → d = .unclaimed ∨ s.bn.claimOut = false →
    Completes (.loopIndicationChange 5 d) s [.regs, .levels, .bn] [.BN_LOOP, .BN_STATUS] fun t =>
      t.flag Fld.BN_LOOP_AUTH_A = (d == .a) ∧ t.flag Fld.BN_LOOP_AUTH_B = (d == .b) ∧
      t.flag Fld.BN_STATUS_AUTH = (d == (if s.posB then Indication.b else Indication.a)) ∧ t.role = s.role ∧
      t.bn.claimOut = s.bn.claimOut) ∧
  (∀ (d : Indication) (s : State),
    d = (if s.posB then Indication.b else Indication.a) → d = s.loopShows → s.bn.claimOut = true → s.role = 0 →
    s.bn.failed = false → s.bn.claiming = 5 → s.boot.committed = false → s.auth = false →
    Completes (.loopIndicationChange 5 d) s [.regs, .levels, .bn, .pw, .boot, .mt, .up, .la] [.BN_LOOP,
      .BN_STATUS] fun t =>
      t.role = 1 ∧ t.auth = true ∧ t.flag Fld.BN_STATUS_READY = false ∧ t.bn.claiming = 0 ∧ t.bn.joining = false ∧
      Raised 81 t) ∧
  (∀ (d : Indication) (s : State),
    d = (if s.posB then Indication.b else Indication.a) → d = s.loopShows → s.bn.claimOut = true → s.role = 2 →
    s.bn.failed = false → s.bn.claiming = 1 → s.pw.inReset = none →
    (s.sn.raised.filter fun r => r.island == 5).length < 16 →
    Completes (.loopIndicationChange 5 d) s [.regs, .levels, .boot, .sn, .mt, .pw, .ln, .le, .la, .bn, .io, .cn,
      .up, .pi, .blk, .mem] [.SUP_ISLAND, .LE_CTL, .LA_STATUS, .LA_SURGE, .LA_COUNT, .BN_STATUS, .BN_LOOP,
      .CN_STAT, .UC_STAT, .DC_STAT] fun t =>
      t.role = 1 ∧ t.auth = true ∧ t.bn.claiming = 0 ∧ t.le.takeovers = s.le.takeovers + 1 ∧ t.le.lag = s.bn.lag ∧
      (t.sn.raised.any fun r => r.code == 0xB001#16) = true ∧ Raised 81 t) ∧
  (∀ (s : State),
    s.pair = false →
    exec (.partnerClaimChange true) s = .next s ∧ exec (.partnerClaimChange false) s = .next s ∧
    exec (.partnerReadyChange true) s = .next s ∧ exec (.partnerReadyChange false) s = .next s) ∧
  (∀ (s : State),
    s.pair = true → s.posB = true → s.bn.claimOut = true → s.role = 0 → s.bn.claiming = 5 →
    Completes (.partnerClaimChange true) s [.regs, .levels, .boot, .sn, .pw, .ln, .le, .bn, .up] [.SUP_ISLAND,
      .BN_STATUS, .BN_LOOP, .BN_EPOCH, .BN_TAKEOVER, .SX_EPOCH] fun t =>
      t.bn.claimOut = false ∧ t.bn.claiming = 0 ∧ t.bn.joining = true ∧ t.role = 0 ∧
      t.flag Fld.BN_LOOP_CLAIM_A = true ∧ t.flag Fld.BN_LOOP_CLAIM_B = false ∧ t.flag Fld.BN_LOOP_CLAIM_RET = false) ∧
  (∀ (s : State),
    s.pair = true → s.posB = false → s.bn.claimOut = true →
    Completes (.partnerClaimChange true) s [.regs] [.BN_LOOP] fun t =>
      t.flag Fld.BN_LOOP_CLAIM_B = true ∧ t.bn.claimOut = true ∧
      t.flag Fld.BN_LOOP_CLAIM_A = s.flag Fld.BN_LOOP_CLAIM_A) ∧
  (∀ (s : State),
    s.pair = true → s.posB = false → s.role = 2 → s.flag Fld.BN_STATUS_READY = true →
    s.flag Fld.BN_LOOP_CLAIM_A = false → s.bn.claimOut = false → s.bn.hoClaim = false → s.arbiter = false →
    s.bn.hbRelease = false → s.bn.hbLost = true →
    Completes (.partnerClaimChange false) s [.regs, .bn, .ln] [.BN_LOOP, .BN_EPOCH, .SX_EPOCH, .BN_STATUS,
      .BN_TAKEOVER] fun t =>
      t.bn.claimOut = true ∧ t.flag Fld.BN_LOOP_CLAIM_A = true ∧ t.flag Fld.BN_LOOP_CLAIM_B = false ∧
      t.bn.claiming = 1 ∧ t.fld Fld.BN_TAKEOVER_KIND = 1 ∧ t.fld Fld.BN_TAKEOVER_LAG = sat 63 s.bn.lag ∧
      t.fld Fld.BN_EPOCH_EPOCH = s.epochNew ∧ t.fld Fld.SX_EPOCH_EPOCH = s.epochNew ∧
      t.flag Fld.BN_STATUS_EPOCH_UNSTORED = !s.keyOk ∧ t.bn.storePend = s.keyOk ∧
      t.ln.resume = some (s.pt.plus 50000) ∧ t.role = 2) ∧
  (∀ (s : State),
    s.pair = true → s.role = 4 →
    Completes (.partnerClaimChange false) s [.regs] [.BN_LOOP] fun t =>
      t.bn.claimOut = s.bn.claimOut ∧ t.partnerClaim = false) ∧
  (∀ (s : State),
    s.pair = true → s.pw.calderaClaim = true →
    Completes (.partnerReadyChange true) s [.regs, .pw, .bn] [.BN_STATUS, .BN_LOOP] fun t =>
      t.flag Fld.BN_STATUS_PARTNER_READY = true ∧ t.flag Fld.BN_LOOP_READY_P = true ∧ t.pw.calderaClaim = false ∧
      t.bn.claimOut = false) ∧
  (∀ (b : Bool) (s : State),
    s.pair = true → s.pw.calderaClaim = false ∨ b = false →
    Completes (.partnerReadyChange b) s [.regs] [.BN_STATUS, .BN_LOOP] fun t =>
      t.flag Fld.BN_STATUS_PARTNER_READY = b ∧ t.flag Fld.BN_LOOP_READY_P = b) ∧
  (∀ (s : State),
    s.role = 1 → s.bn.claimOut = true → s.flag Fld.BN_STATUS_LOOP_FAULT = false → s.takesRecord 5 →
    Completes .claimReturnTimeout s [.regs, .levels, .boot, .sn, .pw, .ln, .le, .la, .bn, .up] [.SUP_ISLAND,
      .LN_STATUS, .LE_CTL, .LE_LOAD, .LA_STATUS, .LA_SLOT, .LA_COUNT, .BN_STATUS, .BN_LOOP] fun t =>
      t.flag Fld.BN_STATUS_LOOP_FAULT = true ∧ t.flag Fld.BN_LOOP_CLAIM_RET = false ∧ t.bn.claimOut = false ∧
      t.role = 0 ∧ t.bn.releasing = true ∧ t.flag Fld.LE_CTL_RUN = false ∧ t.flag Fld.LN_STATUS_FAST_RUN = false ∧
      t.flag Fld.LN_STATUS_STD_RUN = false ∧ t.flag Fld.LN_STATUS_SLOW_RUN = false ∧
      (∀ k, k < 16 → (t.slot k).busy = false) ∧ (t.sn.raised.any fun r => r.code == 0xB00E#16) = true ∧ Raised 86 t) ∧
  (∀ (s : State),
    s.bn.claimOut = false →
    exec .claimReturnTimeout s = .next s) ∧
  (∀ (s : State),
    s.role ≠ 1 → s.bn.claimOut = true →
    Completes .claimReturnTimeout s [.regs] [.BN_LOOP] fun t =>
      t.flag Fld.BN_LOOP_CLAIM_RET = false ∧ t.partnerClaim = s.partnerClaim ∧
      t.flag (if s.posB then Fld.BN_LOOP_CLAIM_B else Fld.BN_LOOP_CLAIM_A) = false) ∧
  (∀ (s : State),
    s.pair = true → s.partnerClaim = false → s.role = 3 → s.flag Fld.BN_STATUS_READY = true → s.unclaimed = true →
    s.bn.claimOut = false → s.bn.hoClaim = false → s.arbiter = false →
    Completes .releaseReceived s [.regs, .bn, .ln] [.BN_LOOP, .BN_EPOCH, .SX_EPOCH, .BN_STATUS,
      .BN_TAKEOVER] fun t =>
      t.bn.claimOut = true ∧ t.bn.claiming = 3 ∧ t.fld Fld.BN_TAKEOVER_KIND = 3 ∧ t.bn.hbRelease = true ∧
      t.ln.resume = some (s.pt.plus 50000)) ∧
  (∀ (s : State),
    s.pair = true → s.partnerClaim = true →
    exec .releaseReceived s = .next s) ∧
  (∀ (s : State),
    s.bn.storePend = true ∨ s.flag Fld.BN_STATUS_EPOCH_UNSTORED = true → s.keyOk = true →
    Completes .epochStored s [.regs, .key, .bn] [.BN_STATUS] fun t =>
      t.keyEpochWord = s.fld Fld.BN_EPOCH_EPOCH ∧ t.bn.stored = s.fld Fld.BN_EPOCH_EPOCH ∧ t.bn.storePend = false ∧
      t.flag Fld.BN_STATUS_EPOCH_UNSTORED = false ∧ (∀ a, a / 8 ≠ Config.keyEpoch / 8 → t.keyUnit a = s.keyUnit a)) ∧
  (∀ (s : State),
    s.keyOk = false →
    exec .epochStored s = .next s) ∧
  (∀ (s : State),
    s.role = 1 → s.bn.taking = true → s.fld Fld.BN_TAKEOVER_KIND ≠ 4 →
    (s.ln.resume.map s.reached).getD true = true →
    Completes .takeoverResume s [.bn] [] fun t =>
      t.bn = { s.bn with taking := false }) ∧
  (∀ (s : State),
    s.role ≠ 1 ∨ s.bn.taking = false ∨ s.fld Fld.BN_TAKEOVER_KIND = 4 ∨ (s.ln.resume.map s.reached = some false) →
    exec .takeoverResume s = .next s)

/-- A heartbeat leaves once in every 10 us of BT on each binary link that is up, each path with its own sequence, and
the one that carries RELEASE is the last; on the plant network each port whose tables are loaded and that has a link
carries it once a millisecond. The partner's heartbeat shows its role, epoch and health; one not of the same binary,
or of the same position, changes nothing. A heartbeat lost for 35 us while the partner's claim is present isolates a
standby with record 0xB005, READY dropped; a heartbeat on a link makes an isolated standby join with 0xB006. A link
that changes leaves 0xB00A or 0xB009 and source 82. GRANT withdrawn releases the active where the partner shows GRANT
and READY, else sets GRANT_CONFLICT; a failed arbiter is recorded with 0xB00D. The health word carries role, LAG and
READY. Where a clause rests on a choice of the model, the choice is in log entries 82, 87. It says of each of these
commands, under hypotheses on the state and the operands alone, that exec answers a next state with its effect:
heartbeatSend, netHeartbeatSend, heartbeatReceived, netHbTimeout, heartbeatTimeout, binaryLinkChange, grantRecognised,
grantWithdrawn, arbiterFail, arbiterReturn, healthWordForm, standbySelftest. -/
def Obligations.HeartbeatsAndLinks : Prop :=
  (∀ (s : State),
    s.pair = true → s.bn.hbRun = true → s.served 0 (s.bt.toNat / 10000) = false → s.bn.releasing = false →
    s.flag Fld.BN_STATUS_LINK0_UP = true → s.flag Fld.BN_STATUS_LINK1_UP = true →
    Completes .heartbeatSend s [.out, .bn] [] fun t =>
      t.served 0 (s.bt.toNat / 10000) = true ∧
      Sends [.heartbeat 0 (s.hbMsg s.bn.seq0), .heartbeat 1 (s.hbMsg s.bn.seq1)] s t ∧
      t.bn.seq0 = (s.bn.seq0 + 1) % 4294967296 ∧ t.bn.seq1 = (s.bn.seq1 + 1) % 4294967296 ∧ t.bn.hbRun = true) ∧
  (∀ (s : State),
    s.pair = true → s.bn.hbRun = true → s.served 0 (s.bt.toNat / 10000) = false → s.bn.releasing = true →
    s.flag Fld.BN_STATUS_LINK0_UP = false → s.flag Fld.BN_STATUS_LINK1_UP = true →
    Completes .heartbeatSend s [.out, .bn] [] fun t =>
      t.served 0 (s.bt.toNat / 10000) = true ∧ Sends [.heartbeat 1 (s.hbMsg s.bn.seq1)] s t ∧
      t.bn.seq0 = s.bn.seq0 ∧ t.bn.hbRun = false ∧ t.bn.releasing = false ∧ bitAt (s.hbMsg s.bn.seq1) 78 = true) ∧
  (∀ (s : State),
    s.pair = false ∨ s.bn.hbRun = false ∨ (s.served 0 (s.bt.toNat / 10000) = true ∧ s.served 1 (s.bt.toNat / 1000000) = true) →
    exec .heartbeatSend s = .next s ∧ exec .netHeartbeatSend s = .next s) ∧
  (∀ (q : Nat) (s : State),
    bits (s.hbMsg q) 255 192 = s.bt.toNat ∧ bits (s.hbMsg q) 191 160 = s.fld Fld.BN_EPOCH_EPOCH ∧
    bits (s.hbMsg q) 159 128 = (s.reg .BN_HEALTH).toNat ∧ bits (s.hbMsg q) 127 96 = q % 4294967296 ∧
    bits (s.hbMsg q) 95 80 = s.base.binary % 65536 ∧ bitAt (s.hbMsg q) 79 = s.posB ∧
    bitAt (s.hbMsg q) 78 = s.bn.releasing ∧ bitAt (s.hbMsg q) 77 = s.flag Fld.BN_STATUS_GRANT ∧
    bits (s.hbMsg q) 63 0 = s.ownTag.toNat) ∧
  (∀ (s : State),
    s.pair = true → s.bn.hbRun = true → s.served 1 (s.bt.toNat / 1000000) = false →
    Completes .netHeartbeatSend s [.out, .bn] [] fun t =>
      Sends ((if s.portOpen 1 = true then [.netHeartbeat 1 (controlFrame (0x035A3A010000 + s.base.binary) s.img.ctlVlan (wordsWire (unitsOf (s.hbMsg s.bn.seqNet) 4).reverse))] else []) ++ (if s.portOpen 2 = true then [.netHeartbeat 2 (controlFrame (0x035A3A010000 + s.base.binary) s.img.ctlVlan (wordsWire (unitsOf (s.hbMsg s.bn.seqNet) 4).reverse))] else [])) s t ∧
      t.bn = { (s.serve 1 (s.bt.toNat / 1000000)).bn with seqNet := (s.bn.seqNet + 1) % 4294967296 }) ∧
  (∀ (m : BitVec 256) (e : Int) (x : Option Int) (l : Option (Fin 2)) (s : State),
    s.pair = false ∨ bits m 95 80 ≠ s.base.binary ∨ bitAt m 79 = s.posB →
    exec (.heartbeatReceived l m e x) s = .next s) ∧
  (∀ (m : BitVec 256) (e : Int) (x : Option Int) (s : State),
    s.pair = true → bits m 95 80 = s.base.binary → bitAt m 79 = !s.posB → s.flag Fld.BN_STATUS_LINK0_UP = true →
    s.role = 1 → s.auth = true → bits m 159 156 ≠ 0 → bitAt m 78 = false →
    Completes (.heartbeatReceived (some 0) m e x) s [.out, .free, .regs, .levels, .boot, .sn, .mt, .pw, .le, .bn,
      .up] [.SUP_ISLAND, .MB_STAT, .MT_STATE, .MT_OFFSET, .MT_ERR_EST, .BN_STATUS, .BN_LOOP, .BN_EPOCH, .BN_HEALTH,
      .BN_TAKEOVER, .SX_EPOCH] fun t =>
      t.fld Fld.BN_STATUS_PARTNER_ROLE = bits m 159 156 ∧ t.fld Fld.BN_HEALTH_WORD 1 = bits m 159 128 ∧
      t.bn.hbEpoch = bits m 191 160 ∧ t.bn.hbRole = bits m 159 156 ∧ t.bn.hbSeen = true ∧ t.bn.hbLost = false ∧
      t.bn.hbBt = s.bt ∧ t.bn.btOff = some e ∧ t.role = 1) ∧
  (∀ (m : BitVec 256) (e : Int) (x : Option Int) (s : State),
    s.pair = true → bits m 95 80 = s.base.binary → bitAt m 79 = !s.posB → s.flag Fld.BN_STATUS_LINK1_UP = true →
    s.role = 4 → s.arbiter = false → bitAt m 78 = false → s.takesRecord 5 →
    Completes (.heartbeatReceived (some 1) m e x) s [.out, .free, .regs, .levels, .boot, .sn, .mt, .pw, .ln, .le,
      .bn, .up] [.SUP_ISLAND, .MB_STAT, .MT_STATE, .MT_OFFSET, .MT_ERR_EST, .BN_STATUS, .BN_LOOP, .BN_EPOCH,
      .BN_HEALTH, .BN_TAKEOVER, .SX_EPOCH] fun t =>
      t.role = 0 ∧ t.bn.joining = true ∧ t.bn.committed = none ∧ t.flag Fld.BN_STATUS_READY = false ∧
      t.bn.hbLost = false ∧ (t.sn.raised.any fun r => r.code == 0xB006#16) = true) ∧
  (∀ (m : BitVec 256) (e : Int) (x : Option Int) (s : State),
    s.pair = true → bits m 95 80 = s.base.binary → bitAt m 79 = !s.posB → s.arbiter = false → s.bn.hbLost = false →
    Completes (.heartbeatReceived none m e x) s [.regs, .bn] [.BN_STATUS] fun t =>
      t.bn = { s.bn with netAt := s.mt.frc } ∧ t.flag Fld.BN_STATUS_NET_HB = true ∧
      t.fld Fld.BN_STATUS_PARTNER_ROLE = s.fld Fld.BN_STATUS_PARTNER_ROLE) ∧
  (∀ (s : State),
    3000000 ≤ (s.mt.frc - s.bn.netAt).toNat →
    Completes .netHbTimeout s [.regs] [.BN_STATUS] fun t =>
      t.flag Fld.BN_STATUS_NET_HB = false ∧ t.role = s.role) ∧
  (∀ (s : State),
    (s.mt.frc - s.bn.netAt).toNat < 3000000 →
    exec .netHbTimeout s = .next s) ∧
  (∀ (s : State),
    s.pair = true → s.bn.hbSeen = false ∨ 35000 ≤ (s.bt - s.bn.hbBt).toNat → s.role = 2 ∨ s.role = 3 →
    s.partnerClaim = true → s.takesRecord 5 →
    Completes .heartbeatTimeout s [.free, .regs, .levels, .boot, .sn, .mt, .pw, .ln, .bn, .up] [.SUP_ISLAND,
      .MT_STATE, .MT_OFFSET, .MT_ERR_EST, .BN_STATUS, .BN_LOOP, .BN_EPOCH, .BN_TAKEOVER, .SX_EPOCH] fun t =>
      t.role = 4 ∧ t.flag Fld.BN_STATUS_READY = false ∧ t.bn.hbLost = true ∧ t.bn.claimOut = s.bn.claimOut ∧
      (t.sn.raised.any fun r => r.code == 0xB005#16) = true ∧ Raised 81 t) ∧
  (∀ (s : State),
    s.pair = true → s.bn.hbSeen = false ∨ 35000 ≤ (s.bt - s.bn.hbBt).toNat → s.role = 1 →
    Completes .heartbeatTimeout s [.free, .regs, .levels, .boot, .sn, .mt, .pw, .ln, .bn, .up] [.SUP_ISLAND,
      .MT_STATE, .MT_OFFSET, .MT_ERR_EST, .BN_STATUS, .BN_LOOP, .BN_EPOCH, .BN_TAKEOVER, .SX_EPOCH] fun t =>
      t.bn = { s.bn with hbLost := true } ∧ t.mt.partner = none ∧ t.role = 1) ∧
  (∀ (s : State),
    s.pair = false ∨ (s.bn.hbSeen = true ∧ (s.bt - s.bn.hbBt).toNat < 35000) →
    exec .heartbeatTimeout s = .next s) ∧
  (∀ (b : Bool) (s : State),
    s.pair = true → s.flag Fld.BN_STATUS_LINK0_UP = !b → s.bn.taking = false ∨ s.fld Fld.BN_TAKEOVER_KIND ≠ 4 →
    s.takesRecord 5 →
    Completes (.binaryLinkChange 0 b) s [.regs, .levels, .sn] [.BN_STATUS] fun t =>
      t.flag Fld.BN_STATUS_LINK0_UP = b ∧ t.flag Fld.BN_STATUS_LINK1_UP = s.flag Fld.BN_STATUS_LINK1_UP ∧
      Records [if b then 0xB00A else 0xB009] s t ∧ Raised 82 t) ∧
  (∀ (s : State),
    s.pair = true → s.flag Fld.BN_STATUS_LINK1_UP = true → s.flag Fld.BN_STATUS_LINK0_UP = false →
    s.bn.taking = true → s.fld Fld.BN_TAKEOVER_KIND = 4 → s.takesRecord 5 →
    Completes (.binaryLinkChange 1 false) s [.regs, .levels, .sn, .ln, .le, .la, .bn, .pi, .blk,
      .mem] [.SUP_ISLAND, .BN_STATUS, .BN_TAKEOVER] fun t =>
      t.flag Fld.BN_STATUS_LINK1_UP = false ∧ t.bn.taking = false ∧ t.ln.resume = some s.pt ∧
      t.le.takeovers = s.le.takeovers + 1 ∧ t.fld Fld.BN_TAKEOVER_LAG = sat 63 (s.passed - 1) ∧
      (t.sn.raised.any fun r => r.code == 0xB009#16) = true) ∧
  (∀ (b : Bool) (s : State),
    s.flag Fld.BN_STATUS_LINK0_UP = b →
    exec (.binaryLinkChange 0 b) s = .next s) ∧
  (∀ (s : State),
    s.pair = true → s.flag Fld.BN_STATUS_MODE = true → s.flag Fld.BN_STATUS_ARB_FAIL = false → s.role = 2 →
    s.flag Fld.BN_STATUS_READY = true → s.unclaimed = true → s.bn.claimOut = false → s.bn.hoClaim = false →
    s.bn.hbRelease = false → s.bn.hbGrant = false →
    Completes .grantRecognised s [.regs, .bn, .ln] [.BN_LOOP, .BN_EPOCH, .SX_EPOCH, .BN_STATUS,
      .BN_TAKEOVER] fun t =>
      t.flag Fld.BN_STATUS_GRANT = true ∧ t.bn.claimOut = true ∧ t.bn.claiming = 2 ∧ t.fld Fld.BN_TAKEOVER_KIND = 2) ∧
  (∀ (s : State),
    s.pair = true → s.flag Fld.BN_STATUS_MODE = true → s.flag Fld.BN_STATUS_ARB_FAIL = false → s.role = 1 →
    s.partnerGranted = true →
    Completes .grantWithdrawn s [.regs, .levels, .boot, .sn, .pw, .ln, .le, .la, .bn, .up] [.SUP_ISLAND,
      .LN_STATUS, .LE_CTL, .LE_LOAD, .LA_STATUS, .LA_SLOT, .LA_COUNT, .BN_STATUS, .BN_LOOP] fun t =>
      t.flag Fld.BN_STATUS_GRANT = false ∧ t.role = 0 ∧ t.bn.claimOut = false ∧ t.bn.releasing = true ∧
      t.flag Fld.BN_STATUS_GRANT_CONFLICT = s.flag Fld.BN_STATUS_GRANT_CONFLICT) ∧
  (∀ (s : State),
    s.pair = true → s.flag Fld.BN_STATUS_MODE = true → s.flag Fld.BN_STATUS_ARB_FAIL = false → s.role = 1 →
    s.partnerGranted = false → s.flag Fld.BN_STATUS_GRANT_CONFLICT = false → s.takesRecord 5 →
    Completes .grantWithdrawn s [.regs, .levels, .sn] [.BN_STATUS] fun t =>
      t.role = 1 ∧ t.bn.claimOut = s.bn.claimOut ∧ t.flag Fld.BN_STATUS_GRANT_CONFLICT = true ∧
      Records [0xB00E] s t ∧ Raised 86 t) ∧
  (∀ (s : State),
    s.flag Fld.BN_STATUS_MODE = true → s.flag Fld.BN_STATUS_ARB_FAIL = false → s.role = 1 → s.takesRecord 5 →
    Completes .arbiterFail s [.regs, .levels, .sn] [.BN_STATUS] fun t =>
      t.flag Fld.BN_STATUS_ARB_FAIL = true ∧ t.role = 1 ∧ t.arbiter = false ∧ Records [0xB00D] s t ∧ Raised 86 t) ∧
  (∀ (s : State),
    s.flag Fld.BN_STATUS_ARB_FAIL = true →
    s.flag Fld.BN_STATUS_GRANT = true ∨ (s.bn.hbGrant = true ∧ s.bn.hbLost = false) → s.takesRecord 5 →
    Completes .arbiterReturn s [.regs, .sn] [.BN_STATUS] fun t =>
      t.flag Fld.BN_STATUS_ARB_FAIL = false ∧ Records [0xB00D] s t) ∧
  (∀ (s : State),
    s.flag Fld.BN_STATUS_ARB_FAIL = false ∨ (s.flag Fld.BN_STATUS_GRANT = false ∧ (s.bn.hbGrant = false ∨ s.bn.hbLost = true)) →
    exec .arbiterReturn s = .next s) ∧
  (∀ (s : State),
    s.img.healthPts = none ∨ s.role ≠ 1 → s.served 2 (s.bt.toNat / 1000000) = false →
    Completes .healthWordForm s [.regs, .bn] [.BN_HEALTH] fun t =>
      t.served 2 (s.bt.toNat / 1000000) = true ∧
      (∀ i, i < 3 → t.yieldSince i = (if t.yields i = true then some ((s.yieldSince i).getD s.bt) else none)) ∧
      bits (t.reg .BN_HEALTH) 31 28 = s.role ∧ bits (t.reg .BN_HEALTH) 27 24 = s.fld Fld.BN_STATUS_LAG % 16 ∧
      bitAt (t.reg .BN_HEALTH) 23 = s.flag Fld.BN_STATUS_READY ∧
      bitAt (t.reg .BN_HEALTH) 21 = s.flag Fld.BN_STATUS_LINK0_UP ∧
      bitAt (t.reg .BN_HEALTH) 20 = s.flag Fld.BN_STATUS_LINK1_UP ∧
      bitAt (t.reg .BN_HEALTH) 13 = s.flag Fld.BN_STATUS_ARB_FAIL ∧ t.reg .BN_HEALTH 1 = s.reg .BN_HEALTH 1) ∧
  (∀ (s : State),
    s.served 2 (s.bt.toNat / 1000000) = true →
    exec .healthWordForm s = .next s) ∧
  (∀ (x : StandbyTest) (s : State),
    s.role = 2 ∨ s.role = 3 → x.memoryBad = false →
    Completes (.standbySelftest x) s [.bn] [] fun t =>
      t.bn = { s.bn with stLockstep := x.lockstepBad, stMemory := false, stReadback := x.readbackBad, stEngine := x.engineBad }) ∧
  (∀ (x : StandbyTest) (s : State),
    s.role = 2 ∨ s.role = 3 → x.memoryBad = true →
    Completes (.standbySelftest x) s [.regs, .levels, .bn, .pw, .up, .le] [.BN_STATUS] fun t =>
      t.bn.stMemory = true ∧ t.role = 0 ∧ t.bn.joining = true ∧ t.bn.committed = none ∧
      t.flag Fld.BN_STATUS_READY = false)

/-- A hand-over order that its conditions admit is scheduled with source 85, else refused with its code; an order of
the application cluster changes nothing. At H − 1 ms an unfit partner moves H on by 1 ms, until after 16 moves it is
cancelled with record 0xB00C. At H the active that joins drops its claim, freezes the snapshot of H and leaves 0xB00B;
the READY standby claims. A yield condition that has held for 1 s orders a hand-over. A join completes as a READY
standby. Maintenance is entered and left with 0xB00F, or refused with its code; the partner is reset only in
maintenance. Where a clause rests on a choice of the model, the choice is in log entries 80, 94. It says of each of
these commands, under hypotheses on the state and the operands alone, that exec answers a next state with its effect:
handoverOrder, handoverCancel, handoverCheck, handoverInstant, yield, joinComplete, enterMaintenance,
leaveMaintenance, partnerReset. -/
def Obligations.HandOverAndMaintenance : Prop :=
  (∀ (a : After) (s : State),
    s.hoCode = 0 →
    Completes (.handoverOrder .sup a) s [.regs, .levels, .bn] [.BN_CMD_RESULT, .BN_STATUS] fun t =>
      t.bn.ho = some { h := s.hoAt, moves := 0, after := a } ∧ t.flag Fld.BN_STATUS_HO_PENDING = true ∧
      t.fld Fld.BN_CMD_RESULT_CODE = 0 ∧ Raised 85 t) ∧
  (∀ (a : After) (s : State),
    s.hoCode ≠ 0 →
    Completes (.handoverOrder .sup a) s [.regs] [.BN_CMD_RESULT] fun t =>
      t.fld Fld.BN_CMD_RESULT_CODE = s.hoCode) ∧
  (∀ (s : State),
    s.pair = false →
    s.hoCode = 1) ∧
  (∀ (s : State),
    s.pair = true → s.taking = false → s.role ≠ 1 →
    s.hoCode = 0x0A) ∧
  (∀ (s : State),
    s.pair = true → s.taking = true →
    s.hoCode = 9) ∧
  (∀ (s : State),
    s.pair = true → s.role = 1 → s.taking = false → s.bn.ho = none → s.flag Fld.BN_STATUS_PARTNER_READY = false →
    s.hoCode = 3) ∧
  (∀ (a : After) (s : State),
    exec (.handoverOrder .app a) s = .next s ∧ exec (.handoverCancel .app) s = .next s ∧
    exec (.enterMaintenance .app) s = .next s ∧ exec (.leaveMaintenance .app) s = .next s ∧
    exec (.partnerReset .app) s = .next s) ∧
  (∀ (x : Handover) (s : State),
    s.pair = true → s.bn.ho = some x → s.takesRecord 5 →
    Completes (.handoverCancel .sup) s [.regs, .levels, .sn, .bn, .ln] [.BN_CMD_RESULT, .BN_STATUS] fun t =>
      t.bn.ho = none ∧ t.flag Fld.BN_STATUS_HO_PENDING = false ∧ t.ln.stopAt = none ∧
      t.fld Fld.BN_CMD_RESULT_CODE = 0 ∧ Records [0xB00C] s t ∧ Raised 85 t) ∧
  (∀ (s : State),
    s.pair = true → s.bn.ho = none →
    exec (.handoverCancel .sup) s = .next (s.setFld Fld.BN_CMD_RESULT_CODE 8)) ∧
  (∀ (x : Handover) (s : State),
    s.bn.ho = some x → s.role = 1 → Instant.atOrBefore (x.h - 1000000#64) s.bt = true → s.rollHolds = false →
    s.partnerFit = false → x.moves < 16 →
    Completes .handoverCheck s [.bn, .ln] [] fun t =>
      t.bn.ho = some { x with h := x.h.plus 1000000, moves := x.moves + 1 } ∧ t.ln.stopAt = none) ∧
  (∀ (x : Handover) (s : State),
    s.bn.ho = some x → s.role = 1 → Instant.atOrBefore (x.h - 1000000#64) s.bt = true → s.rollHolds = false →
    s.partnerFit = false → 16 ≤ x.moves → s.takesRecord 5 →
    Completes .handoverCheck s [.regs, .levels, .sn, .bn, .ln] [.BN_STATUS] fun t =>
      t.bn.ho = none ∧ t.flag Fld.BN_STATUS_HO_PENDING = false ∧ t.role = 1 ∧ Records [0xB00C] s t ∧ Raised 85 t) ∧
  (∀ (x : Handover) (s : State),
    s.bn.ho = some x → s.role = 1 → Instant.atOrBefore (x.h - 1000000#64) s.bt = true → s.rollHolds = false →
    s.partnerFit = true →
    Completes .handoverCheck s [.ln] [] fun t =>
      t.ln.stopAt = some (x.h + (s.pt - s.bt))) ∧
  (∀ (s : State),
    s.bn.ho = none ∨ s.role ≠ 1 →
    exec .handoverCheck s = .next s) ∧
  (∀ (x : Handover) (s : State),
    s.bn.ho = some x → s.role = 1 →
    (Instant.atOrBefore (x.h - 1000000#64) s.bt = false → exec .handoverCheck s = .next s) ∧
    (Instant.atOrBefore x.h s.bt = false → exec .handoverInstant s = .next s)) ∧
  (∀ (x : Handover) (s : State),
    s.bn.ho = some x → s.role = 1 → Instant.atOrBefore x.h s.bt = true →
    s.ln.stopAt.isSome = true ∨ s.partnerFit = true → s.bn.xfer = none → s.bn.frozen = some (x.h - 1000000#64) →
    x.after = .join →
    Completes .handoverInstant s [.out, .free, .regs, .levels, .boot, .sn, .pw, .ln, .le, .la, .bn, .io, .up, .pi,
      .subc, .blk, .mem] [.SUP_ISLAND, .UP_STATUS, .LN_STATUS, .LN_OVERRUN, .LN_SUB, .LE_CTL, .LE_OVERRUN,
      .LE_FAULT, .LE_LOAD, .LA_STATUS, .LA_SLOT, .LA_COUNT, .BN_STATUS, .BN_LOOP, .BN_EPOCH, .BN_EQ, .BN_TAKEOVER,
      .SX_EPOCH] fun t =>
      t.role = 0 ∧ t.bn.claimOut = false ∧ t.bn.joining = true ∧ t.bn.ho = none ∧ t.bn.frozen = some x.h ∧
      t.ln.stopAt = none ∧ t.flag Fld.BN_STATUS_HO_PENDING = false ∧ t.flag Fld.BN_STATUS_READY = false ∧
      t.flag Fld.LE_CTL_RUN = false ∧ (s.takesRecord 5 → (t.sn.raised.any fun r => r.code == 0xB00B#16) = true) ∧
      Raised 85 t) ∧
  (∀ (x : Handover) (s : State),
    s.bn.ho = some x → s.role = 1 → Instant.atOrBefore x.h s.bt = true →
    s.bn.xfer.isSome = true ∨ s.bn.frozen ≠ some (x.h - 1000000#64) ∨ (s.ln.stopAt = none ∧ s.partnerFit = false) →
    x.moves < 16 →
    Completes .handoverInstant s [.bn, .ln] [] fun t =>
      t.bn.ho = some { x with h := x.h.plus 1000000, moves := x.moves + 1 } ∧ t.bn.claimOut = s.bn.claimOut) ∧
  (∀ (s : State),
    s.bn.ho = none → s.role = 2 ∨ s.role = 3 → s.flag Fld.BN_STATUS_READY = true → s.unclaimed = true →
    s.bn.claimOut = false → s.otherImage = false →
    Completes .handoverInstant s [.regs, .bn, .ln, .le] [.BN_LOOP, .BN_EPOCH, .SX_EPOCH, .BN_STATUS,
      .BN_TAKEOVER] fun t =>
      t.bn.claimOut = true ∧ t.bn.claiming = 4 ∧ t.fld Fld.BN_TAKEOVER_KIND = 4 ∧ t.bn.hoAt = floorTo s.bt 1000000 ∧
      (t.bn.taking = false ↔ t.snapH = true) ∧
      t.ln.resume = some (if t.snapH = true then s.pt else s.pt.plus 4611686018427387904) ∧
      t.fld Fld.BN_EPOCH_EPOCH = s.epochNew) ∧
  (∀ (i : Nat) (y : Instant) (s : State),
    i < 3 → s.yields i = true → s.yieldSince i = some y → 1000000000 ≤ (s.bt - y).toNat → s.role = 1 →
    s.partnerFit = true → s.bn.lastYield.all (fun u => decide (60000000000 ≤ (s.bt - u).toNat)) = true →
    s.bn.ho = none → s.taking = false → s.rolling = false →
    Completes .yield s [.regs, .levels, .bn] [.BN_STATUS] fun t =>
      t.bn.lastYield = some s.bt ∧ t.bn.ho = some { h := s.nextHo, moves := 0, after := .join } ∧
      t.flag Fld.BN_STATUS_HO_PENDING = true ∧ Raised 85 t) ∧
  (∀ (s : State),
    s.role ≠ 1 ∨ s.partnerFit = false ∨ (∀ i, i < 3 → s.yields i = false ∨ s.yieldSince i = none) ∨ s.rolling = true ∨ s.bn.ho.isSome = true ∨ s.taking = true →
    exec .yield s = .next s) ∧
  (∀ (e : Int) (b : Instant) (s : State),
    s.pair = true → s.role = 0 → s.bn.joining = true → s.pw.removeClosed = true → s.bn.committed = some b →
    s.bn.btOff = some e → e.natAbs ≤ 20 → 32768 ≤ s.bn.sweep →
    Completes .joinComplete s [.regs, .levels, .boot, .sn, .pw, .bn, .up] [.SUP_ISLAND, .LN_STATUS,
      .BN_STATUS] fun t =>
      t.bn.joining = false ∧ t.flag Fld.BN_STATUS_READY = true ∧ (t.role = 2 ∨ t.role = 3)) ∧
  (∀ (e : Int) (s : State),
    s.pair = false ∨ s.role ≠ 0 ∨ s.bn.committed = none ∨ s.pw.removeClosed = false ∨ (s.bn.btOff = some e ∧ 20 < e.natAbs) →
    exec .joinComplete s = .next s) ∧
  (∀ (s : State),
    s.pair = true → s.taking = false → s.role = 2 ∨ s.role = 3 ∨ s.role = 4 → s.takesRecord 5 →
    Completes (.enterMaintenance .sup) s [.regs, .levels, .sn, .bn, .pw, .up] [.BN_CMD_RESULT, .BN_STATUS] fun t =>
      t.role = 5 ∧ t.flag Fld.BN_STATUS_READY = false ∧ t.fld Fld.BN_CMD_RESULT_CODE = 0 ∧ t.bn.committed = none ∧
      t.bn.journal = [] ∧ Records [0xB00F] s t) ∧
  (∀ (s : State),
    s.pair = false →
    exec (.enterMaintenance .sup) s = .next (s.setFld Fld.BN_CMD_RESULT_CODE 1) ∧
    exec (.leaveMaintenance .sup) s = .next (s.setFld Fld.BN_CMD_RESULT_CODE 1) ∧
    exec (.handoverCancel .sup) s = .next (s.setFld Fld.BN_CMD_RESULT_CODE 1) ∧
    exec (.partnerReset .sup) s = .next (s.setFld Fld.BN_CMD_RESULT_CODE 1)) ∧
  (∀ (s : State),
    s.pair = true → s.taking = true →
    exec (.enterMaintenance .sup) s = .next (s.setFld Fld.BN_CMD_RESULT_CODE 9)) ∧
  (∀ (s : State),
    s.pair = true → s.taking = false → s.role = 1 ∨ s.role = 5 →
    exec (.enterMaintenance .sup) s = .next (s.setFld Fld.BN_CMD_RESULT_CODE 0x0A)) ∧
  (∀ (s : State),
    s.pair = true → s.role = 5 → s.takesRecord 5 →
    Completes (.leaveMaintenance .sup) s [.regs, .levels, .sn, .bn, .pw, .up, .le] [.BN_CMD_RESULT,
      .BN_STATUS] fun t =>
      t.role = 0 ∧ t.bn.joining = true ∧ t.fld Fld.BN_CMD_RESULT_CODE = 0 ∧ Records [0xB00F] s t) ∧
  (∀ (s : State),
    s.pair = true → s.role ≠ 5 →
    exec (.leaveMaintenance .sup) s = .next (s.setFld Fld.BN_CMD_RESULT_CODE 0x0A)) ∧
  (∀ (s : State),
    s.pair = true → s.fld Fld.BN_STATUS_PARTNER_ROLE = 5 →
    Completes (.partnerReset .sup) s [.regs, .out] [.BN_CMD_RESULT] fun t =>
      t.fld Fld.BN_CMD_RESULT_CODE = 0 ∧ Sends [.partnerReset] s t) ∧
  (∀ (s : State),
    s.pair = true → s.fld Fld.BN_STATUS_PARTNER_ROLE ≠ 5 →
    exec (.partnerReset .sup) s = .next (s.setFld Fld.BN_CMD_RESULT_CODE 6))

/-- Once at a standard boundary, unless a hand-over comes there, the active whose partner takes equalization freezes a
snapshot with the next number and clears its dirty marks; with nothing dirty it sends its samples and END. A transfer
that goes on into another cycle is counted once in STRETCHED. The CRCs of the next 1,024 tracked blocks leave in
rotation. A receiver keeps block records until a snapshot whose byte count and CRC fit them commits them; another
discards them. Two boundaries after the committed snapshot a standby lags with record 0xB003. A difference found in a
block that somebody reads is a divergence with 0xB008, else latent with 0xB007, and a clean run advances the sweep.
The active marks a block that its standby found different whole, so that the next snapshot recopies it, and records a
divergence with 0xB008 too; that the finding comes to it as the standby's CRCs is the model's choice (log entry 116).
Committed values become shadow commands; a fast record with a bad CRC is counted and discarded, and a fast cycle with
one that came late or not at all is counted once. Where a clause rests on a choice of the model, the choice is in log
entries 24, 82, 83. It says of each of these commands, under hypotheses on the state and the operands alone, that exec
answers a next state with its effect: snapshotFreeze, verifyCrcSend, blockRecordReceived, snapshotCommit,
standbyBoundary, verifyCrcReceived, sideRecordReceived, fastRecordReceived. -/
def Obligations.Equalization : Prop :=
  (∀ (s : State),
    s.bn.xfer = none → s.served 3 (s.bt.toNat / 1000000) = false → s.hoNow = false →
    s.role ≠ 1 ∨ s.partnerTakes = false →
    Completes .snapshotFreeze s [.bn] [] fun t =>
      t.bn = (s.serve 3 (s.bt.toNat / 1000000)).bn) ∧
  (∀ (s u : State),
    u = ((s.serve 3 (s.bt.toNat / 1000000)).sendSamples.serve 3 ((floorTo s.bt 1000000).toNat / 1000000)).upTo (floorTo s.bt 1000000 + (s.pt - s.bt)) →
    s.bn.xfer = none → s.served 3 (s.bt.toNat / 1000000) = false → s.hoNow = false → s.role = 1 →
    s.partnerTakes = true → s.mapOf = none → u.dirtyBlocks = [] → endBytes u.snapItems ≤ 500000 →
    Completes .snapshotFreeze s [.out, .free, .regs, .levels, .sn, .pw, .ln, .le, .la, .bn, .io, .pi, .subc, .blk,
      .mem] [.SUP_ISLAND, .LN_STATUS, .LN_OVERRUN, .LN_SUB, .LE_OVERRUN, .LE_FAULT, .LE_LOAD, .LA_STATUS, .LA_SLOT,
      .LA_COUNT, .BN_EQ] fun t =>
      t.bn.snapNum = (s.bn.snapNum + 1) % 65536 ∧ t.bn.xfer = none ∧ t.bn.dirty = [] ∧
      t.bn.frozen = some (floorTo s.bt 1000000) ∧ t.fld Fld.BN_EQ_LAST_SIZE = 0 ∧
      t.out = s.sendSamples.out ++ [.snapEnd (if s.flag Fld.BN_STATUS_LINK0_UP = true then 0 else 1) ((s.bn.snapNum + 1) % 65536) (floorTo s.bt 1000000) 0 0 u.snapItems]) ∧
  (∀ (s u : State),
    u = ((s.serve 3 (s.bt.toNat / 1000000)).sendSamples.serve 3 ((floorTo s.bt 1000000).toNat / 1000000)).upTo (floorTo s.bt 1000000 + (s.pt - s.bt)) →
    s.bn.xfer = none → s.served 3 (s.bt.toNat / 1000000) = false → s.hoNow = false → s.role = 1 →
    s.partnerTakes = true → s.mapOf = none →
    Completes .snapshotFreeze s [.out, .regs, .levels, .sn, .pw, .ln, .le, .la, .bn, .io, .pi, .subc, .blk,
      .mem] [.SUP_ISLAND, .LN_STATUS, .LN_OVERRUN, .LN_SUB, .LE_OVERRUN, .LE_FAULT, .LE_LOAD, .LA_STATUS, .LA_SLOT,
      .LA_COUNT, .BN_EQ] fun t =>
      t.bn.snapNum = (s.bn.snapNum + 1) % 65536 ∧ t.bn.dirty = [] ∧ t.bn.allDirty = false ∧
      t.bn.frozen = some (floorTo s.bt 1000000) ∧
      (∀ x, t.bn.xfer = some x → x.num = (s.bn.snapNum + 1) % 65536 ∧ x.b = floorTo s.bt 1000000 ∧ x.items = u.snapItems)) ∧
  (∀ (x : Xfer) (s : State),
    s.bn.xfer = some x → s.served 3 (s.bt.toNat / 1000000) = false → s.hoNow = false → s.anyLink = true →
    x.spans = false → x.left = [] → endBytes x.items ≤ 500000 →
    Completes .snapshotFreeze s [.out, .regs, .bn, .io] [.BN_EQ] fun t =>
      t.fld Fld.BN_EQ_STRETCHED = satAdd Fld.BN_EQ_STRETCHED.top (s.fld Fld.BN_EQ_STRETCHED) 1 ∧ t.bn.xfer = none ∧
      t.out = (if s.role = 1 ∧ s.partnerTakes = true then s.sendSamples.out else s.out) ++ [.snapEnd (if s.flag Fld.BN_STATUS_LINK0_UP = true then 0 else 1) x.num x.b x.bytes (BitVec.ofNat 32 (x.crc ^^^ 0xFFFFFFFF)) x.items] ∧
      t.fld Fld.BN_EQ_LAST_SIZE = sat 65535 (x.bytes / 1024)) ∧
  (∀ (x : Xfer) (s : State),
    s.bn.xfer = some x → s.served 3 (s.bt.toNat / 1000000) = false → s.hoNow = false → s.anyLink = true →
    x.spans = true → x.left = [] → endBytes x.items ≤ 500000 →
    Completes .snapshotFreeze s [.out, .regs, .bn, .io] [.BN_EQ] fun t =>
      t.fld Fld.BN_EQ_STRETCHED = s.fld Fld.BN_EQ_STRETCHED ∧ t.bn.xfer = none ∧
      t.out = (if s.role = 1 ∧ s.partnerTakes = true then s.sendSamples.out else s.out) ++ [.snapEnd (if s.flag Fld.BN_STATUS_LINK0_UP = true then 0 else 1) x.num x.b x.bytes (BitVec.ofNat 32 (x.crc ^^^ 0xFFFFFFFF)) x.items]) ∧
  (∀ (x : Xfer) (s : State),
    s.bn.xfer = some x → s.served 3 (s.bt.toNat / 1000000) = false → s.hoNow = false → s.anyLink = false →
    Completes .snapshotFreeze s [.bn] [] fun t =>
      t.bn = (s.serve 3 (s.bt.toNat / 1000000)).bn) ∧
  (∀ (s : State),
    s.served 3 (s.bt.toNat / 1000000) = true ∨ s.hoNow = true →
    exec .snapshotFreeze s = .next s) ∧
  (∀ (s : State),
    s.role = 1 → s.partnerTakes = true → s.served 4 (s.bt.toNat / 1000000) = false →
    Completes .verifyCrcSend s [.out, .bn] [] fun t =>
      t.bn = { (s.serve 4 (s.bt.toNat / 1000000)).bn with rota := (s.bn.rota + 1024) % 32768 } ∧
      Sends [.verifyCrcs s.bn.rota ((List.range 1024).map fun i => crc32c (wordBytes ((List.range 32).map fun j => s.committedWord (32 * (s.bn.rota + i) + j))))] s t) ∧
  (∀ (s : State),
    s.role ≠ 1 ∨ s.partnerTakes = false ∨ s.served 4 (s.bt.toNat / 1000000) = true →
    exec .verifyCrcSend s = .next s) ∧
  (∀ (h : BitVec 128) (ws : List W64) (s : State),
    s.takesEq = true →
    Completes (.blockRecordReceived h ws) s [.bn] [] fun t =>
      t.bn = { s.bn with journal := s.bn.journal ++ [{ hdr := h, words := ws }] }) ∧
  (∀ (h : BitVec 128) (ws : List W64) (n m : Nat) (b : Instant) (c : Word) (x : SnapItems) (r : SideRecord) (l : Nat) (d : BitVec 256) (ss : List (F32 × F32)) (v : W64) (s : State),
    s.takesEq = false →
    exec (.blockRecordReceived h ws) s = .next s ∧ exec (.snapshotCommit n b m c x) s = .next s ∧
    exec (.verifyCrcReceived n []) s = .next s ∧ exec (.sideRecordReceived r) s = .next s ∧
    exec (.fastRecordReceived l d ss v c) s = .next s) ∧
  (∀ (n m : Nat) (b : Instant) (c : Word) (x : SnapItems) (s : State),
    s.takesEq = true → snapSum (s.bn.journal.filter fun r => hdrSnap r.hdr == n % 65536) ≠ (m, c) →
    Completes (.snapshotCommit n b m c x) s [.bn] [] fun t =>
      t.bn = { s.bn with journal := [] }) ∧
  (∀ (n : Nat) (b : Instant) (x : SnapItems) (s : State),
    s.takesEq = true → s.role = 2 → s.bn.journal = [] → s.bn.failed = false →
    Completes (.snapshotCommit n b 0 (crc32c []) x) s [.regs, .levels, .boot, .sn, .pw, .ln, .le, .la, .bn, .up,
      .pi, .blk, .mem] [.SUP_ISLAND, .LN_STATUS, .LE_CTL, .LE_LOAD, .LA_STATUS, .LA_SLOT, .LA_SURGE, .LA_COUNT,
      .BN_STATUS, .BN_LOOP, .BN_VERIFY] fun t =>
      t.bn.committed = some b ∧ t.bn.journal = [] ∧ t.bn.lag = 0 ∧ t.fld Fld.BN_STATUS_LAG = 0 ∧ t.role = 2 ∧
      t.pi = s.pi) ∧
  (∀ (n k m : Nat) (b : Instant) (w : W64) (c : Word) (s : State),
    s.takesEq = true → s.role = 2 → k < 8192 →
    s.bn.journal = [{ hdr := blockHdr 0 1 (n % 65536) k, words := [w] }] →
    snapSum [{ hdr := blockHdr 0 1 (n % 65536) k, words := [w] }] = (m, c) → s.otherImage = true → s.mapOf = none →
    s.bn.failed = false →
    Completes (.snapshotCommit n b m c {}) s [.regs, .levels, .boot, .sn, .pw, .ln, .le, .la, .bn, .up, .pi, .blk,
      .mem] [.SUP_ISLAND, .LN_STATUS, .LE_CTL, .LE_LOAD, .LA_STATUS, .LA_SLOT, .LA_SURGE, .LA_COUNT, .BN_STATUS,
      .BN_LOOP, .BN_VERIFY] fun t =>
      t.twGet (32 * k) = w ∧ t.bn.committed = some b ∧ t.bn.journal = []) ∧
  (∀ (s : State),
    s.role = 2 → 2 ≤ s.passed → s.takesRecord 5 →
    Completes .standbyBoundary s [.regs, .levels, .sn, .bn, .pw, .boot, .up] [.BN_STATUS, .BN_EQ] fun t =>
      t.role = 3 ∧ t.bn.lag = s.passed - 1 ∧ t.fld Fld.BN_STATUS_LAG = sat 15 (s.passed - 1) ∧
      Records [0xB003] s t ∧ Raised 83 t ∧ Raised 81 t) ∧
  (∀ (s : State),
    s.role = 3 →
    Completes .standbyBoundary s [.regs, .bn] [.BN_STATUS, .BN_EQ] fun t =>
      t.role = 3 ∧ t.bn.lag = s.passed - 1 ∧ t.fld Fld.BN_STATUS_LAG = sat 15 (s.passed - 1)) ∧
  (∀ (s : State),
    s.role ≠ 2 → s.role ≠ 3 →
    exec .standbyBoundary s = .next s) ∧
  (∀ (b : Nat) (cs : List Word) (s : State),
    s.takesEq = true → s.bn.committed.isSome = true → s.otherImage = false → (s.verifyBlocks b cs).2 = true →
    Completes (.verifyCrcReceived b cs) s [.bn] [] fun t =>
      t.bn = { s.bn with sweep := s.bn.sweep + cs.length }) ∧
  (∀ (b : Nat) (c : Word) (s : State),
    s.takesEq = true → s.bn.committed.isSome = true → s.otherImage = false → b < 32768 →
    s.img.fastBlocks.contains b = false → s.blockCrc b ≠ c → s.img.readMap.contains b = false → s.takesRecord 5 →
    Completes (.verifyCrcReceived b [c]) s [.regs, .levels, .sn, .bn] [.BN_VERIFY] fun t =>
      t.bn.sweep = 0 ∧ t.bn.latAt = some s.bt ∧ t.fld Fld.BN_VERIFY_BLOCK = b ∧
      t.fld Fld.BN_VERIFY_LATENT = satAdd Fld.BN_VERIFY_LATENT.top (s.fld Fld.BN_VERIFY_LATENT) 1 ∧
      t.role = s.role ∧ Records [0xB007] s t ∧ Raised 84 t) ∧
  (∀ (b : Nat) (c : Word) (s : State),
    s.takesEq = true → s.bn.committed.isSome = true → s.otherImage = false → b < 32768 →
    s.img.fastBlocks.contains b = false → s.blockCrc b ≠ c → s.img.readMap.contains b = true → s.bn.divAt = [] →
    s.takesRecord 5 →
    Completes (.verifyCrcReceived b [c]) s [.regs, .levels, .sn, .bn] [.BN_VERIFY] fun t =>
      t.bn.sweep = 0 ∧ t.bn.divAt = [s.bt] ∧
      t.fld Fld.BN_VERIFY_DIVERGE = satAdd Fld.BN_VERIFY_DIVERGE.top (s.fld Fld.BN_VERIFY_DIVERGE) 1 ∧
      t.role = s.role ∧ Records [0xB008] s t ∧ Raised 84 t) ∧
  (∀ (b : Nat) (c : Word) (s : State),
    s.takesEq = true → s.bn.committed.isSome = true → s.otherImage = false → b < 32768 →
    s.img.fastBlocks.contains b = false → s.blockCrc b ≠ c → s.img.readMap.contains b = true →
    s.bn.divAt = [s.bt, s.bt, s.bt] → s.bn.failed = false →
    Completes (.verifyCrcReceived b [c]) s [.regs, .levels, .boot, .sn, .pw, .ln, .le, .la, .bn, .up] [.SUP_ISLAND,
      .LN_STATUS, .LE_CTL, .LE_LOAD, .LA_STATUS, .LA_SLOT, .LA_COUNT, .BN_STATUS, .BN_LOOP, .BN_VERIFY] fun t =>
      t.role = 6 ∧ t.bn.failed = true ∧ t.bn.hbRun = false) ∧
  (∀ (b : Nat) (c : Word) (s : State),
    s.role = 1 → s.bn.taking = false → s.partnerTakes = true → s.otherImage = false → b < 32768 →
    s.img.fastBlocks.contains b = false → s.committedCrc b ≠ c → s.img.readMap.contains b = true → s.takesRecord 5 →
    Completes (.verifyCrcReceived b [c]) s [.sn, .bn] [] fun t =>
      t.bn = { s.bn with dirty := Tab.set 0 s.bn.dirty b 0xFFFFFFFF } ∧ Records [0xB008] s t) ∧
  (∀ (b : Nat) (c : Word) (s : State),
    s.role = 1 → s.bn.taking = false → s.partnerTakes = true → s.otherImage = false → b < 32768 →
    s.img.fastBlocks.contains b = false → s.committedCrc b ≠ c → s.img.readMap.contains b = false →
    Completes (.verifyCrcReceived b [c]) s [.bn] [] fun t =>
      t.bn = { s.bn with dirty := Tab.set 0 s.bn.dirty b 0xFFFFFFFF }) ∧
  (∀ (b : Nat) (c : Word) (s : State),
    s.role = 1 → s.bn.taking = false → s.partnerTakes = true → s.otherImage = false → s.committedCrc b = c →
    exec (.verifyCrcReceived b [c]) s = .next s) ∧
  (∀ (n : Fin 32) (v : Word) (vs : List (Chan × Word)) (s : State),
    s.takesEq = true → s.role ≠ 1 →
    Completes (.sideRecordReceived (.commits (vs ++ [(.uni n, v)]))) s [.io] [] fun t =>
      (t.uc n.val).shadow = some v) ∧
  (∀ (m : Fin 48) (v : Word) (vs : List (Chan × Word)) (s : State),
    s.takesEq = true → s.role ≠ 1 →
    Completes (.sideRecordReceived (.commits (vs ++ [(.dig m, v)]))) s [.io] [] fun t =>
      (t.dc m.val).shadow = some (v != 0)) ∧
  (∀ (m : Fin 48) (u : Instant) (c : Word) (o : Word × Bool) (b : Bool) (s : State),
    s.takesEq = true → s.role ≠ 1 → s.otherImage = true → s.dcMode m.val = 2 → (s.dc m.val).hist.lookup u = some o →
    Completes (.sideRecordReceived (.samples [] [(m, [(u, c, b)])])) s [.io] [] fun t =>
      (t.dc m.val).count = (s.dc m.val).count + (c - o.1) ∧
      (t.dc m.val).hist = (s.dc m.val).hist.map (fun x => (x.1, x.2.1 + (c - o.1), x.2.2))) ∧
  (∀ (l : Nat) (d : BitVec 256) (ss : List (F32 × F32)) (v : W64) (c : Word) (s : State),
    s.takesEq = true → fastCrc d ss v ≠ c →
    Completes (.fastRecordReceived l d ss v c) s [.regs, .bn] [.BN_EQ] fun t =>
      t.fld Fld.BN_EQ_FAST_LATE = (if s.bn.fastBad.contains (s.fastCycle l).1 = true then s.fld Fld.BN_EQ_FAST_LATE else satAdd Fld.BN_EQ_FAST_LATE.top (s.fld Fld.BN_EQ_FAST_LATE) 1) ∧
      t.bn.fastBad.contains (s.fastCycle l).1 = true) ∧
  (∀ (l b : Nat) (d : BitVec 256) (ss : List (F32 × F32)) (v : W64) (s : State),
    s.takesEq = true → s.mapOf = none → s.loopAt l = some b →
    Completes (.fastRecordReceived l d ss v (fastCrc d ss v)) s [.regs, .bn, .io, .pi, .blk, .mem] [.BN_EQ] fun t =>
      t.twGet (ldOut (s.descAt b) % 262144) = v ∧ t.blkGet (b + 2) = d) ∧
  (∀ (l : Nat) (d : BitVec 256) (ss : List (F32 × F32)) (v : W64) (s : State),
    s.takesEq = true → s.mapOf = none → s.loopAt l = none → s.fastBound < (s.fastCycle l).2 →
    Completes (.fastRecordReceived l d ss v (fastCrc d ss v)) s [.regs, .bn] [.BN_EQ] fun t =>
      t.fld Fld.BN_EQ_FAST_LATE = (if s.bn.fastBad.contains (s.fastCycle l).1 = true then s.fld Fld.BN_EQ_FAST_LATE else satAdd Fld.BN_EQ_FAST_LATE.top (s.fld Fld.BN_EQ_FAST_LATE) 1) ∧
      t.bn.fastBad.contains (s.fastCycle l).1 = true ∧ t.bn.fastGot = s.bn.fastGot) ∧
  (∀ (l : Nat) (d : BitVec 256) (ss : List (F32 × F32)) (v : W64) (s : State),
    s.takesEq = true → s.mapOf = none → s.loopAt l = none → (s.fastCycle l).2 ≤ s.fastBound →
    Completes (.fastRecordReceived l d ss v (fastCrc d ss v)) s [.bn] [] fun t =>
      t.bn = { s.bn with fastGot := ((s.fastCycle l).1, l) :: s.bn.fastGot }) ∧
  (∀ (k : Nat) (s : State),
    s.role = 2 ∨ s.role = 3 → s.bn.fastNext = some k → s.pt.toNat / 50000 = k + 3 →
    s.bn.fastBad.contains k = false → (s.fastLoops.all fun l => s.bn.fastGot.contains (k, l)) = false →
    Completes .standbyBoundary s [.regs, .levels, .boot, .sn, .pw, .bn, .up] [.SUP_ISLAND, .BN_STATUS,
      .BN_EQ] fun t =>
      t.fld Fld.BN_EQ_FAST_LATE = satAdd Fld.BN_EQ_FAST_LATE.top (s.fld Fld.BN_EQ_FAST_LATE) 1 ∧
      t.bn.fastNext = some (k + 1))

/-- A mismatch that a comparator in service flags discards the window's held stores and starts a rerun; a clean rerun
is a transient with record 0xC001 and the pair compares 4,096 writes; the ninth within 1 s, and a rerun that
mismatches again at the same place, are fatal: before the first commit start-up is refused with 0x0C, after it the
module is declared failed. After its compared writes a pair enters SIGNATURE once the first commit is made and, after
a rejoin, its injection test has passed. An injection test that fails on one comparator takes it out of service with
0xC004; on both it is fatal. An equal window releases its stores and spends its replay value; a difference shows in
LK_MISS. Where a clause rests on a choice of the model, the choice is in log entries 21, 77. It says of each of these
commands, under hypotheses on the state and the operands alone, that exec answers a next state with its effect:
lockstepMismatch, rerunComplete, compareCountDone, comparatorInjection, signatureWindowClose. -/
def Obligations.LockstepMismatches : Prop :=
  (∀ (i j : Fin 5) (x y : Bool) (w : Nat) (s : State),
    s.lkJoined i.val = true → s.lkMode i.val ≠ 3 → (x && s.xIn i.val) = true → (y && s.yIn i.val) = true → w ≠ 0 →
    Completes (.lockstepMismatch i x y j w) s [.regs, .lk] [.LK_PAIR, .LK_COUNT] fun t =>
      t.lkMode i.val = 3 ∧ (t.pairOf i.val).held = [] ∧
      (t.pairOf i.val).loc = (if s.lkMode i.val = 2 ∨ s.lkMode i.val = 4 then none else some (w, j.val)) ∧
      (t.pairOf i.val).disag = false ∧ (t.pairOf i.val).reruns = 0 ∧
      t.fld Fld.LK_COUNT_PARITY i.val = (if j = 0 then s.fld Fld.LK_COUNT_PARITY i.val else satAdd Fld.LK_COUNT_PARITY.top (s.fld Fld.LK_COUNT_PARITY i.val) 1) ∧
      (∀ k, k ≠ i.val → t.pairOf k = s.pairOf k)) ∧
  (∀ (i j : Fin 5) (x y : Bool) (w : Nat) (s : State),
    s.lkJoined i.val = true → s.lkMode i.val ≠ 3 → s.xIn i.val = true → s.yIn i.val = true → x ≠ y → j = 0 →
    Completes (.lockstepMismatch i x y j w) s [.regs, .lk] [.LK_PAIR] fun t =>
      t.lkMode i.val = 3 ∧ (t.pairOf i.val).held = [] ∧ (t.pairOf i.val).loc = none ∧ (t.pairOf i.val).disag = true) ∧
  (∀ (i j : Fin 5) (x y : Bool) (w : Nat) (s : State),
    s.lkJoined i.val = false ∨ s.lkMode i.val = 3 ∨ (x = false ∧ y = false) →
    exec (.lockstepMismatch i x y j w) s = .next s) ∧
  (∀ (i : Fin 5) (s : State),
    s.lkMode i.val = 3 → (s.pairOf i.val).disag = false → (s.pairOf i.val).trans = [] →
    (s.pairOf i.val).draining = false → (s.pairOf i.val).haltReq = false → s.takesRecord (lkIsland i.val) →
    Completes (.rerunComplete i .clean) s [.regs, .levels, .sn, .lk] [.LK_PAIR, .LK_FAULT, .LK_COUNT] fun t =>
      t.lkMode i.val = 1 ∧ t.fld Fld.LK_PAIR_WRITES_LEFT i.val = 4096 ∧ t.fld Fld.LK_FAULT_CLASS i.val = 1 ∧
      t.fld Fld.LK_COUNT_TRANSIENT i.val = satAdd Fld.LK_COUNT_TRANSIENT.top (s.fld Fld.LK_COUNT_TRANSIENT i.val) 1 ∧
      (t.pairOf i.val).trans = [s.mt.frc] ∧ (t.pairOf i.val).loc = none ∧ Records [0xC001] s t ∧
      Raised (76 + i.val) t) ∧
  (∀ (i : Fin 5) (s : State),
    s.lkMode i.val = 3 → (s.pairOf i.val).disag = false →
    8 ≤ (s.recentFrc 1000000000 (s.pairOf i.val).trans).length → s.boot.committed = true → s.bn.failed = false →
    Completes (.rerunComplete i .clean) s [.regs, .levels, .boot, .sn, .pw, .ln, .le, .la, .bn, .lk,
      .up] [.SUP_START, .SUP_ISLAND, .UP_STATUS, .LK_PAIR, .LK_FAULT, .LK_COUNT, .LK_CMD_RESULT, .LN_STATUS,
      .LE_CTL, .LE_LOAD, .LA_STATUS, .LA_SLOT, .LA_COUNT, .BN_STATUS, .BN_LOOP] fun t =>
      t.lkMode i.val = 8 ∧ t.fld Fld.LK_FAULT_CLASS i.val = 2 ∧ t.role = 6 ∧ t.bn.failed = true ∧
      t.bn.hbRun = false ∧ t.flag Fld.LE_CTL_RUN = false ∧ t.flag Fld.BN_STATUS_READY = false ∧
      (t.pairOf i.val).held = []) ∧
  (∀ (i : Fin 5) (w st : Nat) (s : State),
    s.lkMode i.val = 3 → (s.pairOf i.val).disag = false ∨ (s.pairOf i.val).inj = none → s.xIn i.val = true →
    s.yIn i.val = true → st ≤ 4 → w < 512 → (s.pairOf i.val).loc = some (w, st) → s.boot.committed = true →
    s.bn.failed = false →
    Completes (.rerunComplete i (.mismatch w st true true)) s [.regs, .levels, .boot, .sn, .pw, .ln, .le, .la, .bn,
      .lk, .up] [.SUP_START, .SUP_ISLAND, .UP_STATUS, .LK_PAIR, .LK_FAULT, .LK_COUNT, .LK_CMD_RESULT, .LN_STATUS,
      .LE_CTL, .LE_LOAD, .LA_STATUS, .LA_SLOT, .LA_COUNT, .BN_STATUS, .BN_LOOP] fun t =>
      t.lkMode i.val = 8 ∧ t.fld Fld.LK_FAULT_CLASS i.val = (if st = 0 then 3 else 4) ∧
      t.fld Fld.LK_FAULT_STAGE i.val = st ∧ t.fld Fld.LK_FAULT_WRITE i.val = w ∧ t.role = 6 ∧ t.bn.failed = true) ∧
  (∀ (i : Fin 5) (w st : Nat) (s : State),
    s.lkMode i.val = 3 → (s.pairOf i.val).disag = false ∨ (s.pairOf i.val).inj = none → s.xIn i.val = true →
    s.yIn i.val = true → st ≤ 4 → w < 512 → (s.pairOf i.val).loc = some (w, st) → s.boot.committed = false →
    s.flag Fld.SUP_START_REFUSAL = false →
    Completes (.rerunComplete i (.mismatch w st true true)) s [.regs, .levels, .boot, .sn, .pw, .ln, .le, .la, .bn,
      .lk, .up] [.SUP_START, .SUP_ISLAND, .UP_STATUS, .LK_PAIR, .LK_FAULT, .LK_COUNT, .LK_CMD_RESULT, .LN_STATUS,
      .LE_CTL, .LE_LOAD, .LA_STATUS, .LA_SLOT, .LA_COUNT, .BN_STATUS, .BN_LOOP] fun t =>
      t.lkMode i.val = 8 ∧ t.fld Fld.SUP_START_REFUSAL = 0x0C ∧ t.role = 6 ∧ t.phase = 0xF) ∧
  (∀ (i : Fin 5) (w st : Nat) (s : State),
    s.lkMode i.val = 3 → (s.pairOf i.val).disag = false ∨ (s.pairOf i.val).inj = none → s.xIn i.val = true →
    s.yIn i.val = true → st ≤ 4 → w < 512 → (s.pairOf i.val).loc = none → (s.pairOf i.val).reruns < 2 →
    Completes (.rerunComplete i (.mismatch w st true true)) s [.regs, .lk] [.LK_COUNT] fun t =>
      (t.pairOf i.val).loc = some (w, st) ∧ (t.pairOf i.val).reruns = (s.pairOf i.val).reruns + 1 ∧
      t.lkMode i.val = 3) ∧
  (∀ (i : Fin 5) (r : Rerun) (s : State),
    s.lkMode i.val ≠ 3 →
    exec (.rerunComplete i r) s = .next s) ∧
  (∀ (i : Fin 5) (s : State),
    s.lkMode i.val = 1 → s.boot.committed = true → (s.pairOf i.val).untested = false →
    Completes (.compareCountDone i) s [.regs] [.LK_PAIR] fun t =>
      t.lkMode i.val = 2 ∧ t.fld Fld.LK_PAIR_WRITES_LEFT i.val = 0) ∧
  (∀ (i : Fin 5) (s : State),
    s.lkMode i.val = 6 ∨ (s.lkMode i.val = 1 ∧ (s.boot.committed = false ∨ (s.pairOf i.val).untested = true)) →
    Completes (.compareCountDone i) s [.regs] [.LK_PAIR] fun t =>
      t.lkMode i.val = s.lkMode i.val ∧ t.fld Fld.LK_PAIR_WRITES_LEFT i.val = 0) ∧
  (∀ (i : Fin 5) (s : State),
    s.lkJoined i.val = true → s.lkMode i.val ≠ 3 → s.xIn i.val = true → s.yIn i.val = true →
    s.flag Fld.LK_PAIR_SINGLE i.val = false → s.lkMode i.val ≠ 6 →
    s.lkMode i.val ≠ 1 ∨ (s.pairOf i.val).untested = false →
    Completes (.comparatorInjection i true true) s [.regs] [.LK_PAIR] fun t =>
      t.flag Fld.LK_PAIR_CMP_X_OK i.val = true ∧ t.flag Fld.LK_PAIR_CMP_Y_OK i.val = true ∧
      t.lkMode i.val = s.lkMode i.val) ∧
  (∀ (i : Fin 5) (s : State),
    s.lkMode i.val = 6 ∨ (s.lkMode i.val = 1 ∧ s.boot.committed = true) → (s.pairOf i.val).untested = true →
    s.fld Fld.LK_PAIR_WRITES_LEFT i.val = 0 → s.xIn i.val = true → s.yIn i.val = true →
    Completes (.comparatorInjection i true true) s [.regs, .lk] [.LK_PAIR] fun t =>
      t.lkMode i.val = 2 ∧ (t.pairOf i.val).untested = false) ∧
  (∀ (i : Fin 5) (s : State),
    s.lkJoined i.val = true → s.lkMode i.val = 2 → s.flag Fld.LK_PAIR_SINGLE i.val = false →
    s.takesRecord (lkIsland i.val) →
    Completes (.comparatorInjection i false true) s [.regs, .levels, .sn] [.LK_PAIR, .LK_FAULT] fun t =>
      t.flag Fld.LK_PAIR_CMP_X_OK i.val = false ∧ t.flag Fld.LK_PAIR_CMP_Y_OK i.val = true ∧
      t.flag Fld.LK_PAIR_SINGLE i.val = true ∧ t.fld Fld.LK_FAULT_CLASS i.val = 5 ∧ t.lkMode i.val = 2 ∧
      Records [0xC004] s t ∧ Raised (76 + i.val) t) ∧
  (∀ (i : Fin 5) (s : State),
    s.lkMode i.val = 2 → s.flag Fld.LK_PAIR_SINGLE i.val = false → s.boot.committed = true → s.bn.failed = false →
    Completes (.comparatorInjection i false false) s [.regs, .levels, .boot, .sn, .pw, .ln, .le, .la, .bn, .lk,
      .up] [.SUP_START, .SUP_ISLAND, .UP_STATUS, .LK_PAIR, .LK_FAULT, .LK_COUNT, .LK_CMD_RESULT, .LN_STATUS,
      .LE_CTL, .LE_LOAD, .LA_STATUS, .LA_SLOT, .LA_COUNT, .BN_STATUS, .BN_LOOP] fun t =>
      t.fld Fld.LK_FAULT_CLASS i.val = 8 ∧ t.lkMode i.val = 8 ∧ t.role = 6) ∧
  (∀ (i : Fin 5) (n : Nat) (a b : W64) (x y : Bool) (s : State),
    s.lkMode i.val = 2 → ((x && s.xIn i.val) || (y && s.yIn i.val)) = true →
    Completes (.signatureWindowClose i a b x y n) s [.regs, .lk] [.LK_MISS_LO, .LK_MISS_HI, .LK_PAIR,
      .LK_COUNT] fun t =>
      t.fld Fld.LK_COUNT_PARITY i.val = (if n = 0 then s.fld Fld.LK_COUNT_PARITY i.val else satAdd Fld.LK_COUNT_PARITY.top (s.fld Fld.LK_COUNT_PARITY i.val) n) ∧
      (t.reg .LK_MISS_LO i.val).toNat + 4294967296 * (t.reg .LK_MISS_HI i.val).toNat = (a ^^^ b).toNat ∧
      t.lkMode i.val = 3 ∧ (t.pairOf i.val).held = []) ∧
  (∀ (i : Fin 5) (n : Nat) (a b : W64) (s : State),
    s.lkMode i.val = 2 → (∀ j ∈ [1, 2, 3], (s.pairOf j).close = false) → (s.pairOf i.val).held = [] →
    (s.pairOf i.val).haltReq = false →
    Completes (.signatureWindowClose i a b false false n) s [.regs, .lk] [.LK_COUNT] fun t =>
      t.fld Fld.LK_COUNT_PARITY i.val = (if n = 0 then s.fld Fld.LK_COUNT_PARITY i.val else satAdd Fld.LK_COUNT_PARITY.top (s.fld Fld.LK_COUNT_PARITY i.val) n) ∧
      t.pairOf i.val = { s.pairOf i.val with replay := none, close := false }) ∧
  (∀ (i : Fin 5) (n : Nat) (a b : W64) (v : Byte) (k : Nat) (s : State),
    s.lkMode i.val = 2 → (∀ j ∈ [1, 2, 3], (s.pairOf j).close = false) → k < 0xC0000 →
    (s.pairOf i.val).held = [{ addr := 0x1D40000 + k, data := [v], cls := .rt }] →
    (s.pairOf i.val).haltReq = false →
    Completes (.signatureWindowClose i a b false false n) s [.out, .free, .regs, .latchHi, .holdLo, .levels, .img,
      .boot, .key, .sn, .mt, .pw, .ln, .le, .la, .bn, .io, .gy, .sx, .pn, .cn, .mb, .lk, .ac, .up, .isl, .pi,
      .subc, .blk, .mem, .forces] [.SUP_START, .SUP_ISLAND, .RST_CAUSE, .RST_CTL, .RST_WDOG, .RST_POWER,
      .RST_EV_PEND, .RST_EV_ROUTE, .RST_EV_SUM, .AC_CTL, .AC_SLOT, .AC_FAULT, .AC_FAULT_ADDR_LO, .AC_FAULT_ADDR_HI,
      .AC_ECC, .AC_SCRUB, .PK_STATUS, .PK_SEQ, .PK_SERIAL_LO, .PK_SERIAL_HI, .UP_STATUS, .UP_PROGRESS, .UP_TRIAL,
      .SN_STATUS, .SN_NEWEST_LO, .SN_NEWEST_HI, .SN_OLDEST_LO, .SN_OLDEST_HI, .SN_LOST, .SN_SUPPRESSED,
      .SN_CURSOR_LO, .SN_CURSOR_HI, .SN_WSTAT, .MB_STAT, .MB_DOOR, .MB_ACK, .LK_PAIR, .LK_FAULT, .LK_COUNT,
      .LK_MISS_LO, .LK_MISS_HI, .LK_CMD, .LK_CMD_RESULT, .MT_FRC_LO, .MT_FRC_HI, .MT_PT_LO, .MT_PT_HI, .MT_BT_LO,
      .MT_BT_HI, .MT_TB_LO, .MT_TB_HI, .MT_LATCH_FRC_LO, .MT_LATCH_FRC_HI, .MT_LATCH_PT_LO, .MT_LATCH_PT_HI,
      .MT_LATCH_BT_LO, .MT_LATCH_BT_HI, .MT_LATCH_TB_LO, .MT_LATCH_TB_HI, .MT_STATE, .MT_CTL, .MT_OFFSET,
      .MT_ERR_EST, .MT_OUTLIERS, .MT_PT_SRC, .MT_TB_CFG, .LN_STATUS, .LN_OVERRUN, .LN_DISCARD, .LN_SUB, .LE_CTL,
      .LE_CMD, .LE_CMD_VAL, .LE_CMD_RESULT, .LE_OVERRUN, .LE_FAULT, .LE_LOAD, .LE_FDELAY, .LA_STATUS, .LA_SEL,
      .LA_LOOP, .LA_SLOT, .LA_SURGE, .LA_COUNT, .GY_STATUS, .GY_CH, .GY_COND_LO, .GY_COND_HI, .GY_SET, .GY_CAP,
      .GY_CMD, .GY_LOST, .BN_STATUS, .BN_LOOP, .BN_EPOCH, .BN_HEALTH, .BN_EQ, .BN_VERIFY, .BN_TAKEOVER, .BN_CMD,
      .BN_HO_AT_LO, .BN_HO_AT_HI, .BN_CMD_RESULT, .PN_PORT, .PN_DROP, .PN_PTP, .PN_SEL, .PN_SSTAT, .PN_SVC,
      .CN_CFG, .CN_CTL, .CN_STAT, .CN_ERR, .CN_PROT, .CN_TIMING, .CN_OBJCMD, .CN_OBJRES, .SX_PORT, .SX_LAP,
      .SX_ERR, .SX_CAR, .SX_EPOCH, .UC_CFG, .UC_STAT, .UC_DIAG, .UC_SLICE, .UC_HART, .DC_CFG, .DC_STAT, .DC_DIAG,
      .DC_GROUP] fun t =>
      t.fld Fld.LK_COUNT_PARITY i.val = (if n = 0 then s.fld Fld.LK_COUNT_PARITY i.val else satAdd Fld.LK_COUNT_PARITY.top (s.fld Fld.LK_COUNT_PARITY i.val) n) ∧
      t.byteGet (0x1D40000 + k) = v ∧ (∀ z, z ≠ 0x1D40000 + k → t.byteGet z = s.byteGet z) ∧
      (t.pairOf i.val).held = []) ∧
  (∀ (i : Fin 5) (n : Nat) (a b : W64) (s : State),
    s.lkMode i.val = 2 → (∀ j ∈ [1, 2, 3], (s.pairOf j).close = false) → (s.pairOf i.val).held = [] →
    (s.pairOf i.val).haltReq = true →
    Completes (.signatureWindowClose i a b false false n) s [.regs, .lk] [.LK_PAIR, .LK_COUNT,
      .LK_CMD_RESULT] fun t =>
      t.fld Fld.LK_COUNT_PARITY i.val = (if n = 0 then s.fld Fld.LK_COUNT_PARITY i.val else satAdd Fld.LK_COUNT_PARITY.top (s.fld Fld.LK_COUNT_PARITY i.val) n) ∧
      t.lkMode i.val = 7 ∧ (t.pairOf i.val).haltReq = false) ∧
  (∀ (i : Fin 5) (n : Nat) (a b : W64) (x y : Bool) (s : State),
    s.lkMode i.val = 0 ∨ s.lkMode i.val = 5 ∨ s.lkMode i.val = 7 ∨ s.lkMode i.val = 8 →
    exec (.signatureWindowClose i a b x y n) s = .next s) ∧
  (∀ (i : Fin 5) (n : Nat) (a b : W64) (x y : Bool) (s : State),
    s.lkMode i.val = 1 ∨ s.lkMode i.val = 6 →
    Completes (.signatureWindowClose i a b x y n) s [.regs, .lk] [.LK_COUNT] fun t =>
      t.pairOf i.val = { s.pairOf i.val with replay := none } ∧ t.lkMode i.val = s.lkMode i.val)

/-- An order finds its writer's result busy and answers 7; a pair that may not split 1; one in rerun, halted or failed
6; one in the wrong mode 4. A split closes the open window and drains first; it splits with record 0xC008 when its
buffer is empty, the checkpoint area written and the entry addresses of the image taken, or stays joined with 0xC00A
and code 5. A rejoin stops both cores and compares 4,096 writes in Rejoining with 0xC009, its test outstanding. An
injection order is the supervisor's. A debug halt is refused with 0xC00B while the module shows authority, else it
stops the pair, an order of the pair ending with code 6; a halted pair resumes into WRITE_COMPARE. Where a clause
rests on a choice of the model, the choice is in log entries 14, 21, 77, 91, 131. It says of each of these commands,
under hypotheses on the state and the operands alone, that exec answers a next state with its effect: lkSplit,
splitDrainDone, splitDrainTimeout, lkRejoin, rejoinStop, lkInject, debugHaltRequest, debugResume. -/
def Obligations.LockstepOrders : Prop :=
  (∀ (w : Writer) (i : Fin 8) (s : State),
    (∀ j ∈ [1, 2, 3], (s.pairOf j).close = false) → s.flag Fld.LK_CMD_RESULT_BUSY (wIdx w) = true →
    exec (.lkSplit w i) s = .next (s.setFld Fld.LK_CMD_RESULT_CODE 7 (wIdx w)) ∧
    exec (.lkRejoin w i) s = .next (s.setFld Fld.LK_CMD_RESULT_CODE 7 (wIdx w)) ∧
    exec (.lkInject w i true true) s = .next (s.setFld Fld.LK_CMD_RESULT_CODE 7 (wIdx w))) ∧
  (∀ (w : Writer) (i : Fin 8) (s : State),
    (∀ j ∈ [1, 2, 3], (s.pairOf j).close = false) → s.flag Fld.LK_CMD_RESULT_BUSY (wIdx w) = false →
    5 ≤ i.val ∨ s.flag Fld.LK_PAIR_SPLITTABLE i.val = false →
    Completes (.lkSplit w i) s [.regs] [.LK_CMD_RESULT] fun t =>
      t.fld Fld.LK_CMD_RESULT_CODE (wIdx w) = 1 ∧ t.flag Fld.LK_CMD_RESULT_BUSY (wIdx w) = false) ∧
  (∀ (w : Writer) (i : Fin 8) (s : State),
    (∀ j ∈ [1, 2, 3], (s.pairOf j).close = false) → s.flag Fld.LK_CMD_RESULT_BUSY (wIdx w) = false → i.val < 5 →
    s.flag Fld.LK_PAIR_SPLITTABLE i.val = true → s.lkMode i.val = 3 ∨ s.lkMode i.val = 7 ∨ s.lkMode i.val = 8 →
    Completes (.lkSplit w i) s [.regs] [.LK_CMD_RESULT] fun t =>
      t.fld Fld.LK_CMD_RESULT_CODE (wIdx w) = 6) ∧
  (∀ (w : Writer) (i : Fin 8) (s : State),
    (∀ j ∈ [1, 2, 3], (s.pairOf j).close = false) → s.flag Fld.LK_CMD_RESULT_BUSY (wIdx w) = false → i.val < 5 →
    s.flag Fld.LK_PAIR_SPLITTABLE i.val = true → s.lkMode i.val = 5 ∨ s.lkMode i.val = 1 →
    Completes (.lkSplit w i) s [.regs] [.LK_CMD_RESULT] fun t =>
      t.fld Fld.LK_CMD_RESULT_CODE (wIdx w) = 4) ∧
  (∀ (w : Writer) (i : Fin 8) (s : State),
    (∀ j ∈ [1, 2, 3], (s.pairOf j).close = false) → s.flag Fld.LK_CMD_RESULT_BUSY (wIdx w) = false → i.val < 5 →
    s.flag Fld.LK_PAIR_SPLITTABLE i.val = true → s.lkMode i.val = 2 → (s.pairOf i.val).held = [] →
    Completes (.lkSplit w i) s [.regs, .lk] [.LK_PAIR, .LK_CMD_RESULT] fun t =>
      t.lkMode i.val = 4 ∧ t.flag Fld.LK_CMD_RESULT_BUSY (wIdx w) = true ∧
      t.fld Fld.LK_CMD_RESULT_CODE (wIdx w) = 0 ∧ (t.pairOf i.val).draining = true ∧
      (t.pairOf i.val).writer = wIdx w ∧ (t.pairOf i.val).held = []) ∧
  (∀ (w : Writer) (i : Fin 8) (v : Byte) (k : Nat) (s : State),
    (∀ j ∈ [1, 2, 3], (s.pairOf j).close = false) → s.flag Fld.LK_CMD_RESULT_BUSY (wIdx w) = false →
    i.val = 1 ∨ i.val = 2 ∨ i.val = 3 → s.flag Fld.LK_PAIR_SPLITTABLE i.val = true → s.lkMode i.val = 2 →
    k < 0xC0000 → (s.pairOf i.val).held = [{ addr := 0x1D40000 + k, data := [v], cls := .rt }] →
    Completes (.lkSplit w i) s [.out, .free, .regs, .latchHi, .holdLo, .levels, .img, .boot, .key, .sn, .mt, .pw,
      .ln, .le, .la, .bn, .io, .gy, .sx, .pn, .cn, .mb, .lk, .ac, .up, .isl, .pi, .subc, .blk, .mem,
      .forces] [.SUP_START, .SUP_ISLAND, .RST_CAUSE, .RST_CTL, .RST_WDOG, .RST_POWER, .RST_EV_PEND, .RST_EV_ROUTE,
      .RST_EV_SUM, .AC_CTL, .AC_SLOT, .AC_FAULT, .AC_FAULT_ADDR_LO, .AC_FAULT_ADDR_HI, .AC_ECC, .AC_SCRUB,
      .PK_STATUS, .PK_SEQ, .PK_SERIAL_LO, .PK_SERIAL_HI, .UP_STATUS, .UP_PROGRESS, .UP_TRIAL, .SN_STATUS,
      .SN_NEWEST_LO, .SN_NEWEST_HI, .SN_OLDEST_LO, .SN_OLDEST_HI, .SN_LOST, .SN_SUPPRESSED, .SN_CURSOR_LO,
      .SN_CURSOR_HI, .SN_WSTAT, .MB_STAT, .MB_DOOR, .MB_ACK, .LK_PAIR, .LK_FAULT, .LK_COUNT, .LK_MISS_LO,
      .LK_MISS_HI, .LK_CMD, .LK_CMD_RESULT, .MT_FRC_LO, .MT_FRC_HI, .MT_PT_LO, .MT_PT_HI, .MT_BT_LO, .MT_BT_HI,
      .MT_TB_LO, .MT_TB_HI, .MT_LATCH_FRC_LO, .MT_LATCH_FRC_HI, .MT_LATCH_PT_LO, .MT_LATCH_PT_HI, .MT_LATCH_BT_LO,
      .MT_LATCH_BT_HI, .MT_LATCH_TB_LO, .MT_LATCH_TB_HI, .MT_STATE, .MT_CTL, .MT_OFFSET, .MT_ERR_EST, .MT_OUTLIERS,
      .MT_PT_SRC, .MT_TB_CFG, .LN_STATUS, .LN_OVERRUN, .LN_DISCARD, .LN_SUB, .LE_CTL, .LE_CMD, .LE_CMD_VAL,
      .LE_CMD_RESULT, .LE_OVERRUN, .LE_FAULT, .LE_LOAD, .LE_FDELAY, .LA_STATUS, .LA_SEL, .LA_LOOP, .LA_SLOT,
      .LA_SURGE, .LA_COUNT, .GY_STATUS, .GY_CH, .GY_COND_LO, .GY_COND_HI, .GY_SET, .GY_CAP, .GY_CMD, .GY_LOST,
      .BN_STATUS, .BN_LOOP, .BN_EPOCH, .BN_HEALTH, .BN_EQ, .BN_VERIFY, .BN_TAKEOVER, .BN_CMD, .BN_HO_AT_LO,
      .BN_HO_AT_HI, .BN_CMD_RESULT, .PN_PORT, .PN_DROP, .PN_PTP, .PN_SEL, .PN_SSTAT, .PN_SVC, .CN_CFG, .CN_CTL,
      .CN_STAT, .CN_ERR, .CN_PROT, .CN_TIMING, .CN_OBJCMD, .CN_OBJRES, .SX_PORT, .SX_LAP, .SX_ERR, .SX_CAR,
      .SX_EPOCH, .UC_CFG, .UC_STAT, .UC_DIAG, .UC_SLICE, .UC_HART, .DC_CFG, .DC_STAT, .DC_DIAG, .DC_GROUP] fun t =>
      t.lkMode i.val = 4 ∧ (t.pairOf i.val).draining = true ∧ (t.pairOf i.val).held = [] ∧
      t.byteGet (0x1D40000 + k) = v ∧ (∀ z, z ≠ 0x1D40000 + k → t.byteGet z = s.byteGet z)) ∧
  (∀ (i : Fin 5) (s : State),
    s.lkMode i.val = 4 → (s.pairOf i.val).held = [] → s.img.checkpoints.find? (fun x => x.1 == i.val) = none →
    s.takesRecord (lkIsland i.val) →
    Completes (.splitDrainDone i) s [.regs, .levels, .sn, .lk] [.LK_PAIR, .LK_COUNT, .LK_CMD_RESULT] fun t =>
      t.lkMode i.val = 5 ∧ (t.pairOf i.val).draining = false ∧
      ((t.pairOf i.val).pc0, (t.pairOf i.val).pc1) = splitEntryOf s.img i.val ∧ (t.pairOf i.val).stop0 = false ∧
      (t.pairOf i.val).stop1 = false ∧
      t.fld Fld.LK_COUNT_SPLITS i.val = satAdd Fld.LK_COUNT_SPLITS.top (s.fld Fld.LK_COUNT_SPLITS i.val) 1 ∧
      t.fld Fld.LK_CMD_RESULT_CODE (s.pairOf i.val).writer = 0 ∧
      t.flag Fld.LK_CMD_RESULT_BUSY (s.pairOf i.val).writer = false ∧ Records [0xC008] s t ∧ Raised (76 + i.val) t) ∧
  (∀ (i : Fin 5) (a n k : Nat) (s : State),
    s.lkMode i.val = 4 → (s.pairOf i.val).held = [] →
    s.img.checkpoints.find? (fun x => x.1 == i.val) = some (i.val, a, n) → k < n →
    Completes (.splitDrainDone i) s [.free, .regs, .levels, .sn, .bn, .lk, .mem] [.SUP_ISLAND, .LK_PAIR, .LK_COUNT,
      .LK_CMD_RESULT] fun t =>
      t.lkMode i.val = 5 ∧ t.byteGet (a + k) = Config.bufByte (a + k) s.free ∧
      (∀ z, z < a ∨ a + n ≤ z → t.byteGet z = s.byteGet z) ∧ t.free = s.free + 1) ∧
  (∀ (i : Fin 5) (s : State),
    s.lkMode i.val ≠ 4 →
    exec (.splitDrainDone i) s = .next s ∧ exec (.splitDrainTimeout i) s = .next s) ∧
  (∀ (i : Fin 5) (s : State),
    s.lkMode i.val = 4 → s.lkOverdue i.val = true → s.takesRecord (lkIsland i.val) →
    Completes (.splitDrainTimeout i) s [.regs, .sn, .lk] [.LK_PAIR, .LK_CMD_RESULT] fun t =>
      t.lkMode i.val = 2 ∧ (t.pairOf i.val).draining = false ∧
      t.fld Fld.LK_CMD_RESULT_CODE (s.pairOf i.val).writer = 5 ∧
      t.flag Fld.LK_CMD_RESULT_BUSY (s.pairOf i.val).writer = false ∧ Records [0xC00A] s t) ∧
  (∀ (i : Fin 5) (s : State),
    s.lkOverdue i.val = false →
    exec (.splitDrainTimeout i) s = .next s ∧ exec (.rejoinStop i true) s = .next s) ∧
  (∀ (w : Writer) (i : Fin 8) (s : State),
    s.flag Fld.LK_CMD_RESULT_BUSY (wIdx w) = false → i.val < 5 → s.flag Fld.LK_PAIR_SPLITTABLE i.val = true →
    s.lkMode i.val = 5 →
    Completes (.lkRejoin w i) s [.regs, .lk] [.LK_CMD_RESULT] fun t =>
      t.lkMode i.val = 5 ∧ (t.pairOf i.val).rejoin = true ∧ (t.pairOf i.val).writer = wIdx w ∧
      t.flag Fld.LK_CMD_RESULT_BUSY (wIdx w) = true) ∧
  (∀ (w : Writer) (i : Fin 8) (s : State),
    s.flag Fld.LK_CMD_RESULT_BUSY (wIdx w) = false → i.val < 5 → s.flag Fld.LK_PAIR_SPLITTABLE i.val = true →
    s.lkMode i.val = 2 →
    Completes (.lkRejoin w i) s [.regs] [.LK_CMD_RESULT] fun t =>
      t.fld Fld.LK_CMD_RESULT_CODE (wIdx w) = 4) ∧
  (∀ (i : Fin 5) (s : State),
    s.lkMode i.val = 5 → (s.pairOf i.val).rejoin = true → s.takesRecord (lkIsland i.val) →
    Completes (.rejoinStop i false) s [.regs, .levels, .sn, .lk] [.LK_PAIR, .LK_CMD_RESULT] fun t =>
      t.lkMode i.val = 6 ∧ t.fld Fld.LK_PAIR_WRITES_LEFT i.val = 4096 ∧ (t.pairOf i.val).rejoin = false ∧
      (t.pairOf i.val).untested = true ∧ t.fld Fld.LK_CMD_RESULT_CODE (s.pairOf i.val).writer = 0 ∧
      t.flag Fld.LK_CMD_RESULT_BUSY (s.pairOf i.val).writer = false ∧ Records [0xC009] s t ∧ Raised (76 + i.val) t) ∧
  (∀ (i : Fin 5) (b : Bool) (s : State),
    (s.pairOf i.val).rejoin = false →
    exec (.rejoinStop i b) s = .next s) ∧
  (∀ (i : Fin 8) (x y : Bool) (s : State),
    s.flag Fld.LK_CMD_RESULT_BUSY = false →
    Completes (.lkInject .app i x y) s [.regs] [.LK_CMD_RESULT] fun t =>
      t.fld Fld.LK_CMD_RESULT_CODE = 3) ∧
  (∀ (i : Fin 8) (s : State),
    s.flag Fld.LK_CMD_RESULT_BUSY 1 = false → i.val < 5 → s.lkMode i.val = 2 → s.xIn i.val = true →
    s.yIn i.val = true →
    Completes (.lkInject .sup i true true) s [.regs] [.LK_CMD_RESULT, .LK_PAIR] fun t =>
      t.fld Fld.LK_CMD_RESULT_CODE 1 = 0 ∧ t.flag Fld.LK_PAIR_CMP_X_OK i.val = true ∧
      t.flag Fld.LK_PAIR_CMP_Y_OK i.val = true ∧ t.lkMode i.val = 2) ∧
  (∀ (i : Fin 8) (x y : Bool) (s : State),
    s.flag Fld.LK_CMD_RESULT_BUSY 1 = false → 5 ≤ i.val →
    Completes (.lkInject .sup i x y) s [.regs] [.LK_CMD_RESULT] fun t =>
      t.fld Fld.LK_CMD_RESULT_CODE 1 = 1) ∧
  (∀ (i : Fin 5) (s : State),
    s.auth = true → s.takesRecord (lkIsland i.val) →
    Completes (.debugHaltRequest i) s [.sn] [] fun t =>
      Records [0xC00B] s t) ∧
  (∀ (i : Fin 5) (s : State),
    s.auth = false → s.lkMode i.val = 2 →
    Completes (.debugHaltRequest i) s [.lk] [] fun t =>
      t.pairOf i.val = { s.pairOf i.val with haltReq := true }) ∧
  (∀ (i : Fin 5) (s : State),
    s.auth = false → s.lkMode i.val = 1 ∨ s.lkMode i.val = 5 ∨ s.lkMode i.val = 6 →
    Completes (.debugHaltRequest i) s [.regs, .lk] [.LK_PAIR, .LK_CMD_RESULT] fun t =>
      t.lkMode i.val = 7 ∧
      t.pairOf i.val = { s.pairOf i.val with haltReq := false, draining := false, rejoin := false } ∧
      ((s.pairOf i.val).draining = true ∨ (s.pairOf i.val).rejoin = true → t.fld Fld.LK_CMD_RESULT_CODE (s.pairOf i.val).writer = 6 ∧ t.flag Fld.LK_CMD_RESULT_BUSY (s.pairOf i.val).writer = false)) ∧
  (∀ (i : Fin 5) (s : State),
    s.lkMode i.val = 7 →
    Completes (.debugResume i) s [.regs] [.LK_PAIR] fun t =>
      t.lkMode i.val = 1 ∧ t.fld Fld.LK_PAIR_WRITES_LEFT i.val = 4096) ∧
  (∀ (i : Fin 5) (s : State),
    s.lkMode i.val ≠ 7 →
    exec (.debugResume i) s = .next s)

/-- A core that does not execute makes no access. A read that passes returns the bytes of memory, to a task under way
the records as its C found them, and changes nothing; one that finds an uncorrectable error returns zeros, counted; a
store that is compared at once changes the bytes it names and no other; in SIGNATURE it is held. An access that fails
leaves memory as it was and is recorded in AC_FAULT of its pair with class, reason, size and address, with source 118;
the supervisor's or the runtime's failure declares the module failed with record 0xE001, a task's ends its execution.
A debug master finds the owner-lock contact closed and gets zeros with record 0xE002; with the contact open it reads
what is not locked, writes nothing locked, and nothing while the module shows authority. An access sees everything
that has become visible by then, and every byte it does not name stays as that left it. The permissions of the cores
are those of R366. Where a clause rests on a choice of the model, the choice is in log entries 17, 18, 19, 20, 21, 23.
It says of each of these commands, under hypotheses on the state and the operands alone, that exec answers a next
state with its effect: coreAccess, debugAccess. -/
def Obligations.AccessPermissions : Prop :=
  (∀ (a : Access) (s : State),
    s.coreRuns a = false →
    exec (.coreAccess a) s = .next s) ∧
  (∀ (a : Access) (s v : State),
    v = s.settle s.pt → (∀ j ∈ [1, 2, 3], (s.pairOf j).close = false) → s.coreRuns a = true → a.ecc = [] →
    a.cls = .usr → a.data = none → 0x1D40000 ≤ a.addr → a.addr + a.size ≤ 0x2000000 →
    (s.pairOf a.pair.val).held = [] →
    Completes (.coreAccess a) s [.regs, .levels, .pw, .ln, .bn, .pi, .subc, .blk, .mem, .free, .lastRead,
      .lastBytes] [.LN_STATUS, .LN_OVERRUN, .LN_SUB] fun t =>
      Touches [.free, .lastRead, .lastBytes] v t ∧ RegsKept [] v t ∧
      t.lastBytes = (List.range a.size).map (fun i => v.byteGet (a.addr + i))) ∧
  (∀ (a : Access) (i : Nat) (s v : State),
    v = s.settle s.pt → (∀ j ∈ [1, 2, 3], (s.pairOf j).close = false) → s.coreRuns a = true → a.ecc = [] →
    (a.cls = .usr ∧ (v.task a.task).running = false) ∨ a.cls = .rt → a.data = none → i < 262144 →
    a.addr = 0x1000000 + 8 * i → a.size = 8 → (s.pairOf a.pair.val).held = [] →
    Completes (.coreAccess a) s [.regs, .levels, .pw, .ln, .bn, .pi, .subc, .blk, .mem, .free, .lastRead,
      .lastBytes] [.LN_STATUS, .LN_OVERRUN, .LN_SUB] fun t =>
      Touches [.free, .lastRead, .lastBytes] v t ∧ RegsKept [] v t ∧ t.lastBytes = bytesOf (v.piGet i) 8) ∧
  (∀ (a : Access) (i : Nat) (s v : State),
    v = s.settle s.pt → (∀ j ∈ [1, 2, 3], (s.pairOf j).close = false) → s.coreRuns a = true → a.ecc = [] →
    a.cls = .usr → (v.task a.task).running = true → a.data = none → i < 262144 → a.addr = 0x1000000 + 8 * i →
    a.size = 8 → (s.pairOf a.pair.val).held = [] →
    Completes (.coreAccess a) s [.regs, .levels, .pw, .ln, .bn, .pi, .subc, .blk, .mem, .free, .lastRead,
      .lastBytes] [.LN_STATUS, .LN_OVERRUN, .LN_SUB] fun t =>
      Touches [.free, .lastRead, .lastBytes] v t ∧ RegsKept [] v t ∧
      t.lastBytes = bytesOf (({ v with pi := (v.task a.task).pi } : State).piGet i) 8) ∧
  (∀ (a : Access) (s v : State),
    v = s.settle s.pt → (∀ j ∈ [1, 2, 3], (s.pairOf j).close = false) → s.coreRuns a = true →
    a.ecc = [.uncorrectable] → a.cls = .rt → a.data = none → 0x1D40000 ≤ a.addr → a.addr + a.size ≤ 0x2000000 →
    0 < a.size → (s.pairOf a.pair.val).held = [] →
    Completes (.coreAccess a) s [.out, .lastRead, .lastBytes, .free, .regs, .latchHi, .holdLo, .levels, .img,
      .boot, .key, .sn, .mt, .pw, .ln, .le, .la, .bn, .io, .gy, .sx, .pn, .cn, .mb, .lk, .ac, .up, .isl, .pi,
      .subc, .blk, .mem, .forces] [.SUP_START, .SUP_ISLAND, .RST_CAUSE, .RST_CTL, .RST_WDOG, .RST_POWER,
      .RST_EV_PEND, .RST_EV_ROUTE, .RST_EV_SUM, .AC_CTL, .AC_SLOT, .AC_FAULT, .AC_FAULT_ADDR_LO, .AC_FAULT_ADDR_HI,
      .AC_ECC, .AC_SCRUB, .PK_STATUS, .PK_SEQ, .PK_SERIAL_LO, .PK_SERIAL_HI, .UP_STATUS, .UP_PROGRESS, .UP_TRIAL,
      .SN_STATUS, .SN_NEWEST_LO, .SN_NEWEST_HI, .SN_OLDEST_LO, .SN_OLDEST_HI, .SN_LOST, .SN_SUPPRESSED,
      .SN_CURSOR_LO, .SN_CURSOR_HI, .SN_WSTAT, .MB_STAT, .MB_DOOR, .MB_ACK, .LK_PAIR, .LK_FAULT, .LK_COUNT,
      .LK_MISS_LO, .LK_MISS_HI, .LK_CMD, .LK_CMD_RESULT, .MT_FRC_LO, .MT_FRC_HI, .MT_PT_LO, .MT_PT_HI, .MT_BT_LO,
      .MT_BT_HI, .MT_TB_LO, .MT_TB_HI, .MT_LATCH_FRC_LO, .MT_LATCH_FRC_HI, .MT_LATCH_PT_LO, .MT_LATCH_PT_HI,
      .MT_LATCH_BT_LO, .MT_LATCH_BT_HI, .MT_LATCH_TB_LO, .MT_LATCH_TB_HI, .MT_STATE, .MT_CTL, .MT_OFFSET,
      .MT_ERR_EST, .MT_OUTLIERS, .MT_PT_SRC, .MT_TB_CFG, .LN_STATUS, .LN_OVERRUN, .LN_DISCARD, .LN_SUB, .LE_CTL,
      .LE_CMD, .LE_CMD_VAL, .LE_CMD_RESULT, .LE_OVERRUN, .LE_FAULT, .LE_LOAD, .LE_FDELAY, .LA_STATUS, .LA_SEL,
      .LA_LOOP, .LA_SLOT, .LA_SURGE, .LA_COUNT, .GY_STATUS, .GY_CH, .GY_COND_LO, .GY_COND_HI, .GY_SET, .GY_CAP,
      .GY_CMD, .GY_LOST, .BN_STATUS, .BN_LOOP, .BN_EPOCH, .BN_HEALTH, .BN_EQ, .BN_VERIFY, .BN_TAKEOVER, .BN_CMD,
      .BN_HO_AT_LO, .BN_HO_AT_HI, .BN_CMD_RESULT, .PN_PORT, .PN_DROP, .PN_PTP, .PN_SEL, .PN_SSTAT, .PN_SVC,
      .CN_CFG, .CN_CTL, .CN_STAT, .CN_ERR, .CN_PROT, .CN_TIMING, .CN_OBJCMD, .CN_OBJRES, .SX_PORT, .SX_LAP,
      .SX_ERR, .SX_CAR, .SX_EPOCH, .UC_CFG, .UC_STAT, .UC_DIAG, .UC_SLICE, .UC_HART, .DC_CFG, .DC_STAT, .DC_DIAG,
      .DC_GROUP] fun t =>
      t.lastBytes = List.replicate a.size 0 ∧
      t.fld Fld.AC_ECC_UNCORR_SRAM = satAdd Fld.AC_ECC_UNCORR_SRAM.top (v.fld Fld.AC_ECC_UNCORR_SRAM) 1 ∧
      t.mem = v.mem) ∧
  (∀ (a : Access) (bs : List Byte) (s v : State),
    v = s.settle s.pt → (∀ j ∈ [1, 2, 3], (s.pairOf j).close = false) → s.coreRuns a = true → a.ecc = [] →
    a.cls = .usr ∨ a.cls = .rt → a.data = some bs → a.size = bs.length → 0x1D40000 ≤ a.addr →
    a.addr + a.size ≤ 0x2000000 → s.lkMode a.pair.val = 1 ∨ s.lkMode a.pair.val = 6 →
    Completes (.coreAccess a) s [.regs, .levels, .pw, .ln, .bn, .pi, .subc, .blk, .mem] [.LN_STATUS, .LN_OVERRUN,
      .LN_SUB] fun t =>
      Touches [.bn, .mem] v t ∧ RegsKept [] v t ∧ (∀ k < bs.length, t.byteGet (a.addr + k) = bs.getD k 0) ∧
      (∀ z, z < a.addr ∨ a.addr + bs.length ≤ z → t.byteGet z = v.byteGet z)) ∧
  (∀ (a : Access) (i : Nat) (v : W64) (s x : State),
    x = s.settle s.pt → (∀ j ∈ [1, 2, 3], (s.pairOf j).close = false) → s.coreRuns a = true → a.ecc = [] →
    a.cls = .rt → i < 262144 → a.addr = 0x1000000 + 8 * i → a.size = 8 → a.data = some (bytesOf v 8) →
    s.lkMode a.pair.val = 1 →
    Completes (.coreAccess a) s [.regs, .levels, .pw, .ln, .bn, .pi, .subc, .blk, .mem] [.LN_STATUS, .LN_OVERRUN,
      .LN_SUB] fun t =>
      Touches [.bn, .pi] x t ∧ RegsKept [] x t ∧ t.piGet i = v ∧ (∀ j, j ≠ i → t.piGet j = x.piGet j)) ∧
  (∀ (a : Access) (bs : List Byte) (s v : State),
    v = s.settle s.pt → (∀ j ∈ [1, 2, 3], (s.pairOf j).close = false) → s.coreRuns a = true →
    a.cls = .usr ∨ a.cls = .rt → a.data = some bs → a.size = bs.length → 0x1D40000 ≤ a.addr →
    a.addr + a.size ≤ 0x2000000 → s.lkMode a.pair.val = 2 ∨ s.lkMode a.pair.val = 4 →
    (s.pairOf a.pair.val).held.length < 63 →
    Completes (.coreAccess a) s [.regs, .levels, .pw, .ln, .bn, .pi, .subc, .blk, .mem, .lk] [.LN_STATUS,
      .LN_OVERRUN, .LN_SUB] fun t =>
      Touches [.lk] v t ∧ RegsKept [] v t ∧
      t.pairOf a.pair.val = { v.pairOf a.pair.val with held := (v.pairOf a.pair.val).held ++ [{ addr := a.addr, data := bs, cls := a.cls, ecc := a.ecc }] }) ∧
  (∀ (a : Access) (bs : List Byte) (s v : State),
    v = s.settle s.pt → (∀ j ∈ [1, 2, 3], (s.pairOf j).close = false) → s.coreRuns a = true → a.cls = .usr →
    a.data = some bs → a.size = bs.length → 0 < a.size → 0x1000000 ≤ a.addr → a.addr + a.size ≤ 0x1200000 →
    (s.pairOf a.pair.val).held = [] → s.flag Fld.AC_FAULT_VALID a.pair.val = false →
    (s.task a.task).running = false → a.size < 256 → a.addr < 18446744073709551616 →
    Completes (.coreAccess a) s [.regs, .levels, .pw, .ln, .bn, .pi, .subc, .blk, .mem, .lk] [.LN_STATUS,
      .LN_OVERRUN, .LN_SUB, .AC_FAULT, .AC_FAULT_ADDR_LO, .AC_FAULT_ADDR_HI] fun t =>
      Touches [.regs, .levels, .lk] v t ∧ RegsKept [.AC_FAULT, .AC_FAULT_ADDR_LO, .AC_FAULT_ADDR_HI] v t ∧
      t.flag Fld.AC_FAULT_VALID a.pair.val = true ∧ t.fld Fld.AC_FAULT_CLASS a.pair.val = 2 ∧
      t.flag Fld.AC_FAULT_WRITE a.pair.val = true ∧ t.flag Fld.AC_FAULT_PARTS a.pair.val = false ∧
      t.fld Fld.AC_FAULT_REASON0 a.pair.val = 2 ∧ t.fld Fld.AC_FAULT_SIZE a.pair.val = a.size ∧
      t.fld Fld.AC_FAULT_COUNT a.pair.val = satAdd 255 (v.fld Fld.AC_FAULT_COUNT a.pair.val) 1 ∧
      t.reg .AC_FAULT_ADDR_LO a.pair.val = BitVec.ofNat 32 a.addr ∧ Raised 118 t) ∧
  (∀ (a : Access) (s v : State),
    v = s.settle s.pt → (∀ j ∈ [1, 2, 3], (s.pairOf j).close = false) → s.coreRuns a = true →
    a.cls = .rt ∨ a.cls = .sup → a.data = none → a.size = 4 → a.addr = 0x120000 → (s.pairOf a.pair.val).held = [] →
    s.bn.failed = false → s.flag Fld.AC_FAULT_VALID a.pair.val = false →
    Completes (.coreAccess a) s [.out, .lastRead, .lastBytes, .free, .regs, .latchHi, .holdLo, .levels, .img,
      .boot, .sn, .mt, .pw, .ln, .le, .la, .bn, .sx, .pn, .lk, .ac, .up, .isl, .pi, .subc, .blk, .mem,
      .forces] [.SUP_START, .SUP_ISLAND, .RST_CAUSE, .RST_CTL, .RST_WDOG, .RST_POWER, .RST_EV_PEND, .RST_EV_ROUTE,
      .RST_EV_SUM, .AC_CTL, .AC_SLOT, .AC_FAULT, .AC_FAULT_ADDR_LO, .AC_FAULT_ADDR_HI, .AC_ECC, .AC_SCRUB,
      .PK_STATUS, .PK_SEQ, .PK_SERIAL_LO, .PK_SERIAL_HI, .UP_STATUS, .UP_PROGRESS, .UP_TRIAL, .SN_STATUS,
      .SN_NEWEST_LO, .SN_NEWEST_HI, .SN_OLDEST_LO, .SN_OLDEST_HI, .SN_LOST, .SN_SUPPRESSED, .SN_CURSOR_LO,
      .SN_CURSOR_HI, .SN_WSTAT, .MB_STAT, .MB_DOOR, .MB_ACK, .LK_PAIR, .LK_FAULT, .LK_COUNT, .LK_MISS_LO,
      .LK_MISS_HI, .LK_CMD, .LK_CMD_RESULT, .MT_FRC_LO, .MT_FRC_HI, .MT_PT_LO, .MT_PT_HI, .MT_BT_LO, .MT_BT_HI,
      .MT_TB_LO, .MT_TB_HI, .MT_LATCH_FRC_LO, .MT_LATCH_FRC_HI, .MT_LATCH_PT_LO, .MT_LATCH_PT_HI, .MT_LATCH_BT_LO,
      .MT_LATCH_BT_HI, .MT_LATCH_TB_LO, .MT_LATCH_TB_HI, .MT_STATE, .MT_CTL, .MT_OFFSET, .MT_ERR_EST, .MT_OUTLIERS,
      .MT_PT_SRC, .MT_TB_CFG, .LN_STATUS, .LN_OVERRUN, .LN_DISCARD, .LN_SUB, .LE_CTL, .LE_CMD, .LE_CMD_VAL,
      .LE_CMD_RESULT, .LE_OVERRUN, .LE_FAULT, .LE_LOAD, .LE_FDELAY, .LA_STATUS, .LA_SEL, .LA_LOOP, .LA_SLOT,
      .LA_SURGE, .LA_COUNT, .GY_STATUS, .GY_CH, .GY_COND_LO, .GY_COND_HI, .GY_SET, .GY_CAP, .GY_CMD, .GY_LOST,
      .BN_STATUS, .BN_LOOP, .BN_EPOCH, .BN_HEALTH, .BN_EQ, .BN_VERIFY, .BN_TAKEOVER, .BN_CMD, .BN_HO_AT_LO,
      .BN_HO_AT_HI, .BN_CMD_RESULT, .PN_PORT, .PN_DROP, .PN_PTP, .PN_SEL, .PN_SSTAT, .PN_SVC, .CN_CFG, .CN_CTL,
      .CN_STAT, .CN_ERR, .CN_PROT, .CN_TIMING, .CN_OBJCMD, .CN_OBJRES, .SX_PORT, .SX_LAP, .SX_ERR, .SX_CAR,
      .SX_EPOCH, .UC_CFG, .UC_STAT, .UC_DIAG, .UC_SLICE, .UC_HART, .DC_CFG, .DC_STAT, .DC_DIAG, .DC_GROUP] fun t =>
      t.mem = v.mem ∧ t.pi = v.pi ∧ t.blk = v.blk ∧ t.subc = v.subc ∧ t.lastBytes = [0, 0, 0, 0] ∧
      t.fld Fld.AC_FAULT_REASON0 a.pair.val = 4 ∧ t.role = 6 ∧ t.bn.failed = true ∧
      (t.sn.raised.any fun r => r.code == 0xE001#16) = true ∧ Raised 118 t) ∧
  (∀ (a : Access) (s : State),
    s.pw.contactOpen = false →
    Completes (.debugAccess a) s [.lastRead, .lastBytes, .sn] [] fun t =>
      t.lastBytes = List.replicate a.size 0 ∧ Records [0xE002] s t) ∧
  (∀ (a : Access) (i : Nat) (s v : State),
    v = s.settle s.pt → s.pw.contactOpen = true → a.ecc = [] → a.data = none → i < 262144 →
    a.addr = 0x1000000 + 8 * i → a.size = 8 →
    Completes (.debugAccess a) s [.regs, .levels, .pw, .ln, .bn, .pi, .subc, .blk, .mem, .free, .lastRead,
      .lastBytes] [.LN_STATUS, .LN_OVERRUN, .LN_SUB, .AC_CTL] fun t =>
      Touches [.free, .lastRead, .lastBytes, .regs] v t ∧ RegsKept [.AC_CTL] v t ∧
      t.lastBytes = bytesOf (v.piGet i) 8 ∧ t.flag Fld.AC_CTL_DEBUG_ON = true) ∧
  (∀ (a : Access) (bs : List Byte) (s v : State),
    v = s.settle s.pt → s.pw.contactOpen = true → s.auth = true → a.cls = .debug → a.data = some bs →
    a.size = bs.length → 0 < a.size → 0x1000000 ≤ a.addr → a.addr + a.size ≤ 0x1200000 →
    s.flag Fld.AC_FAULT_VALID 5 = false →
    Completes (.debugAccess a) s [.regs, .levels, .pw, .ln, .bn, .pi, .subc, .blk, .mem, .sn] [.LN_STATUS,
      .LN_OVERRUN, .LN_SUB, .AC_CTL, .AC_FAULT, .AC_FAULT_ADDR_LO, .AC_FAULT_ADDR_HI] fun t =>
      Touches [.regs, .levels, .sn] v t ∧ RegsKept [.AC_CTL, .AC_FAULT, .AC_FAULT_ADDR_LO, .AC_FAULT_ADDR_HI] v t ∧
      t.fld Fld.AC_FAULT_REASON0 5 = 5 ∧ t.fld Fld.AC_FAULT_CLASS 5 = 4 ∧ Records [0xE002] v t ∧ Raised 118 t) ∧
  (∀ (a : Access) (bs : List Byte) (s v : State),
    v = s.settle s.pt → s.pw.contactOpen = true → s.auth = false → a.cls = .debug → a.data = some bs →
    a.size = bs.length → 0 < a.size → 0x1C40000 ≤ a.addr → a.addr + a.size ≤ 0x1D40000 →
    s.flag Fld.AC_FAULT_VALID 5 = false →
    Completes (.debugAccess a) s [.regs, .levels, .pw, .ln, .bn, .pi, .subc, .blk, .mem, .sn] [.LN_STATUS,
      .LN_OVERRUN, .LN_SUB, .AC_CTL, .AC_FAULT, .AC_FAULT_ADDR_LO, .AC_FAULT_ADDR_HI] fun t =>
      Touches [.regs, .levels, .sn] v t ∧ RegsKept [.AC_CTL, .AC_FAULT, .AC_FAULT_ADDR_LO, .AC_FAULT_ADDR_HI] v t ∧
      t.fld Fld.AC_FAULT_REASON0 5 = 3 ∧ Records [0xE002] v t) ∧
  (∀ (w : Bool) (s : State),
    s.coreReason .usr w .tcm = 0 ∧ s.coreReason .usr w .image = (if w then 2 else 0) ∧
    s.coreReason .usr w .loops = (if w then 2 else 0) ∧ s.coreReason .usr w .supMem = 2 ∧
    s.coreReason .usr w .keyWin = 2 ∧ s.coreReason .rt w .image = 0 ∧ s.coreReason .rt w .tcm = 0 ∧
    s.coreReason .rt w .supMem = 2 ∧ s.coreReason .rt w .keyWin = 2 ∧
    s.coreReason .rt w .programs = (if w && s.boot.committed then 2 else 0) ∧ s.coreReason .sup w .supMem = 0 ∧
    s.coreReason .sup w .keyWin = 0 ∧ s.coreReason .sup w .tcm = (if w then 2 else 0) ∧
    s.coreReason .sup w .bootRom = (if w then 2 else 0) ∧ s.coreReason .split w .splitArea = 0 ∧
    s.coreReason .split w .image = (if w then 2 else 0) ∧ s.coreReason .split w .tcm = 2 ∧
    s.coreReason .split w .programs = 2) ∧
  (∀ (c : Cls) (w : Bool) (s : State),
    s.coreReason c w .reserved = 4 ∧ s.debugReason w .reserved = 4)

/-- AC_LOCK fixes the slot table, with record 0xE006 the first time. A corrected error is counted, and the 65th within
an hour raises record 0xE003 and source 120. An uncorrectable one is counted, recorded with 0xE004 and source 119: a
point of the process image becomes STALE, firmware memory of an active module declares it failed, and a tracked block
of a standby makes it join again. The scrubber's sweep ends at the last word of its memory. Where a clause rests on a
choice of the model, the choice is in log entries 23, 42. It says of each of these commands, under hypotheses on the
state and the operands alone, that exec answers a next state with its effect: acLock, scrubRead. -/
def Obligations.MemoryProtection : Prop :=
  (∀ (s : State),
    s.flag Fld.AC_CTL_LOCK = false →
    Completes .acLock s [.regs, .sn] [.AC_CTL] fun t =>
      t.flag Fld.AC_CTL_LOCK = true ∧ t.flag Fld.AC_CTL_DEBUG_ON = s.flag Fld.AC_CTL_DEBUG_ON ∧ Records [0xE006] s t) ∧
  (∀ (s : State),
    s.flag Fld.AC_CTL_LOCK = true →
    exec .acLock s = .next s) ∧
  (∀ (a : Nat) (e : Ecc) (s : State),
    inSram a = false → inDram a = false →
    exec (.scrubRead a e) s = .next s) ∧
  (∀ (a : Nat) (s : State),
    inSram a = true → a / 8 ≠ 0x01FFFFF8 / 8 →
    exec (.scrubRead a .clean) s = .next s) ∧
  (∀ (s : State),
    Completes (.scrubRead 0x01FFFFF8 .clean) s [.regs] [.AC_SCRUB] fun t =>
      t.fld Fld.AC_SCRUB_SRAM_SWEEPS = (s.fld Fld.AC_SCRUB_SRAM_SWEEPS + 1) % 65536) ∧
  (∀ (s : State),
    Completes (.scrubRead 0x1FFFFFFF8 .clean) s [.regs] [.AC_SCRUB] fun t =>
      t.fld Fld.AC_SCRUB_DRAM_SWEEPS = (s.fld Fld.AC_SCRUB_DRAM_SWEEPS + 1) % 256 ∧
      t.fld Fld.AC_SCRUB_DRAM_PROGRESS = 0) ∧
  (∀ (a : Nat) (s : State),
    inSram a = true → a / 8 ≠ 0x01FFFFF8 / 8 → (s.recentFrc 3600000000000 s.ac.corrected).length < 64 →
    Completes (.scrubRead a .corrected) s [.regs, .ac] [.AC_ECC] fun t =>
      t.fld Fld.AC_ECC_CORRECTED = satAdd Fld.AC_ECC_CORRECTED.top (s.fld Fld.AC_ECC_CORRECTED) 1 ∧
      t.ac.corrected = s.mt.frc :: s.recentFrc 3600000000000 s.ac.corrected) ∧
  (∀ (a : Nat) (s : State),
    inSram a = true → a / 8 ≠ 0x01FFFFF8 / 8 → (s.recentFrc 3600000000000 s.ac.corrected).length = 64 →
    Completes (.scrubRead a .corrected) s [.regs, .levels, .sn, .bn, .ac] [.AC_ECC] fun t =>
      t.bn.stMemory = true ∧ Records [0xE003] s t ∧ Raised 120 t) ∧
  (∀ (i : Nat) (s : State),
    i < 262144 → s.role = 1 →
    Completes (.scrubRead (0x1000000 + 8 * i) .uncorrectable) s [.regs, .levels, .sn, .bn, .pi] [.AC_ECC] fun t =>
      t.fld Fld.AC_ECC_UNCORR_SRAM = satAdd Fld.AC_ECC_UNCORR_SRAM.top (s.fld Fld.AC_ECC_UNCORR_SRAM) 1 ∧
      t.piGet i = mkRec 0xFFFF (s.pointCfg i).kind (2 ^ qStale) 0 ∧ (∀ j, j ≠ i → t.piGet j = s.piGet j) ∧
      t.bn.stMemory = true ∧ Records [0xE004] s t ∧ Raised 119 t) ∧
  (∀ (a : Nat) (s : State),
    0x100000000 ≤ a → a < 0x110000000 → s.role = 1 → s.bn.failed = false →
    Completes (.scrubRead a .uncorrectable) s [.regs, .levels, .boot, .sn, .pw, .ln, .le, .la, .bn, .ac,
      .up] [.SUP_ISLAND, .AC_ECC, .AC_SCRUB, .LN_STATUS, .LE_CTL, .LE_FAULT, .LE_LOAD, .LA_STATUS, .LA_SLOT,
      .LA_COUNT, .BN_STATUS, .BN_LOOP, .PN_DROP, .SX_ERR] fun t =>
      t.role = 6 ∧ t.bn.failed = true ∧
      t.fld Fld.AC_ECC_UNCORR_DRAM = satAdd Fld.AC_ECC_UNCORR_DRAM.top (s.fld Fld.AC_ECC_UNCORR_DRAM) 1 ∧
      (t.sn.raised.any fun r => r.code == 0xE004#16) = true ∧ Raised 119 t) ∧
  (∀ (i : Nat) (s : State),
    i < 262144 → s.role = 2 → s.img.fastBlocks.contains (i / 32) = false →
    Completes (.scrubRead (0x1000000 + 8 * i) .uncorrectable) s [.regs, .levels, .sn, .bn, .pw, .up, .le] [.AC_ECC,
      .BN_STATUS] fun t =>
      t.role = 0 ∧ t.bn.joining = true ∧ t.bn.committed = none ∧ t.pi = s.pi ∧ Records [0xE004] s t ∧ Raised 119 t)

/-- A doorbell of the sender makes an EMPTY mailbox PENDING with RINGS 1, counts one more ring of a PENDING one, and
takes an uncollected acknowledge with it into ACK_LOST; each raises the receiver's source, and a message for the
partner goes over a working link; the one the partner sends is taken once the firmware runs. An acknowledge of the
receiver makes it ACKED with its code, or is STRAY; the sender's read of it empties the mailbox. A message written
while PENDING collides. Cancelling empties a PENDING mailbox. What the other party writes is ignored. The service
protocol serves mailboxes 24 to 31, others being answered 7. Where a clause rests on a choice of the model, the choice
is in log entries 63. It says of each of these commands, under hypotheses on the state and the operands alone, that
exec answers a next state with its effect: mbRing, mbCancel, mbAckWrite, mbAckRead, mbMessageWrite, mbLinkDeliver,
mbLinkAck, svcMbPost, svcMbStatus, svcMbCancel. -/
def Obligations.Mailboxes : Prop :=
  (∀ (n : Fin 32) (s : State),
    n.val < 16 ∨ 20 ≤ n.val → s.mbState n.val = 0 →
    Completes (.mbRing n .sender) s [.regs, .levels, .mb] [.MB_STAT] fun t =>
      t.mbState n.val = 1 ∧ t.fld Fld.MB_STAT_RINGS n.val = 1 ∧ t.flag Fld.MB_STAT_COLLISION n.val = false ∧
      t.flag Fld.MB_STAT_DELIVERED n.val = false ∧ t.mbMsg n.val = s.mbMsg n.val ∧ Raised (16 + n.val) t) ∧
  (∀ (n : Fin 32) (s : State),
    n.val < 16 ∨ 20 ≤ n.val → s.mbState n.val = 1 →
    Completes (.mbRing n .sender) s [.regs, .levels] [.MB_STAT] fun t =>
      t.mbState n.val = 1 ∧
      t.fld Fld.MB_STAT_RINGS n.val = satAdd Fld.MB_STAT_RINGS.top (s.fld Fld.MB_STAT_RINGS n.val) 1 ∧
      Raised (16 + n.val) t) ∧
  (∀ (n : Fin 32) (s : State),
    n.val < 16 ∨ 20 ≤ n.val → s.mbState n.val = 2 →
    Completes (.mbRing n .sender) s [.regs, .levels, .mb] [.MB_STAT, .MB_ACK] fun t =>
      t.mbState n.val = 1 ∧ t.fld Fld.MB_STAT_RINGS n.val = 1 ∧ t.flag Fld.MB_STAT_ACK_LOST n.val = true ∧
      t.reg .MB_ACK n.val = 0 ∧ Raised (16 + n.val) t) ∧
  (∀ (n : Fin 32) (s : State),
    16 ≤ n.val → n.val < 20 → s.mbState n.val = 0 → s.partnerHeard = true →
    Completes (.mbRing n .sender) s [.regs, .levels, .out, .mb] [.MB_STAT] fun t =>
      t.mbState n.val = 1 ∧ t.flag Fld.MB_STAT_DELIVERED n.val = true ∧
      Sends [.linkMailbox (n.val - 16) (bytesOf (s.mbMsg n.val) 256)] s t) ∧
  (∀ (n : Fin 32) (s : State),
    16 ≤ n.val → n.val < 20 → s.mbState n.val = 0 → s.partnerHeard = false →
    Completes (.mbRing n .sender) s [.regs, .levels, .mb] [.MB_STAT] fun t =>
      t.mbState n.val = 1 ∧ t.flag Fld.MB_STAT_DELIVERED n.val = false) ∧
  (∀ (n : Fin 32) (s : State),
    16 ≤ n.val → n.val < 20 → s.mbState n.val = 1 → s.partnerHeard = true →
    Completes (.mbRing n .sender) s [.regs, .levels, .out] [.MB_STAT] fun t =>
      t.mbState n.val = 1 ∧
      t.fld Fld.MB_STAT_RINGS n.val = satAdd Fld.MB_STAT_RINGS.top (s.fld Fld.MB_STAT_RINGS n.val) 1 ∧
      t.flag Fld.MB_STAT_DELIVERED n.val = true ∧
      Sends [.linkMailbox (n.val - 16) (bytesOf (s.mbMsg n.val) 256)] s t ∧ Raised (16 + n.val) t) ∧
  (∀ (n : Fin 32) (s : State),
    16 ≤ n.val → n.val < 20 → s.mbState n.val = 1 → s.partnerHeard = false →
    Completes (.mbRing n .sender) s [.regs, .levels] [.MB_STAT] fun t =>
      t.mbState n.val = 1 ∧
      t.fld Fld.MB_STAT_RINGS n.val = satAdd Fld.MB_STAT_RINGS.top (s.fld Fld.MB_STAT_RINGS n.val) 1 ∧
      t.flag Fld.MB_STAT_DELIVERED n.val = false ∧ Raised (16 + n.val) t) ∧
  (∀ (n : Fin 32) (s : State),
    16 ≤ n.val → n.val < 20 → s.mbState n.val = 2 → s.partnerHeard = true →
    Completes (.mbRing n .sender) s [.regs, .levels, .out, .mb] [.MB_STAT, .MB_ACK] fun t =>
      t.mbState n.val = 1 ∧ t.fld Fld.MB_STAT_RINGS n.val = 1 ∧ t.flag Fld.MB_STAT_ACK_LOST n.val = true ∧
      t.reg .MB_ACK n.val = 0 ∧ Sends [.linkMailbox (n.val - 16) (bytesOf (s.mbMsg n.val) 256)] s t ∧
      Raised (16 + n.val) t) ∧
  (∀ (n : Fin 32) (s : State),
    16 ≤ n.val → n.val < 20 → s.mbState n.val = 2 → s.partnerHeard = false →
    Completes (.mbRing n .sender) s [.regs, .levels, .mb] [.MB_STAT, .MB_ACK] fun t =>
      t.mbState n.val = 1 ∧ t.fld Fld.MB_STAT_RINGS n.val = 1 ∧ t.flag Fld.MB_STAT_ACK_LOST n.val = true ∧
      t.flag Fld.MB_STAT_DELIVERED n.val = false ∧ t.reg .MB_ACK n.val = 0 ∧ Raised (16 + n.val) t) ∧
  (∀ (n : Fin 32) (k : Nat) (bs : List Byte) (c : BitVec 16) (s : State),
    exec (.mbRing n .receiver) s = .next s ∧ exec (.mbCancel n .receiver) s = .next s ∧
    exec (.mbMessageWrite n .receiver k bs) s = .next s ∧ exec (.mbAckWrite n .sender c) s = .next s) ∧
  (∀ (n : Fin 32) (s : State),
    s.mbState n.val = 1 →
    Completes (.mbCancel n .sender) s [.regs] [.MB_STAT] fun t =>
      t.mbState n.val = 0 ∧ t.fld Fld.MB_STAT_RINGS n.val = 0 ∧ t.flag Fld.MB_STAT_COLLISION n.val = false) ∧
  (∀ (n : Fin 32) (s : State),
    s.mbState n.val ≠ 1 →
    exec (.mbCancel n .sender) s = .next s) ∧
  (∀ (n : Fin 32) (c : BitVec 16) (s : State),
    n.val < 20 ∨ 24 ≤ n.val → s.mbState n.val = 1 →
    Completes (.mbAckWrite n .receiver c) s [.regs, .levels] [.MB_STAT, .MB_ACK] fun t =>
      t.mbState n.val = 2 ∧ t.flag Fld.MB_ACK_DONE n.val = true ∧
      t.flag Fld.MB_ACK_COLLIDED n.val = s.flag Fld.MB_STAT_COLLISION n.val ∧
      t.fld Fld.MB_ACK_CODE n.val = c.toNat ∧ Raised (16 + n.val) t) ∧
  (∀ (n : Fin 32) (c : BitVec 16) (s : State),
    20 ≤ n.val → n.val < 24 → s.mbState n.val = 1 →
    Completes (.mbAckWrite n .receiver c) s [.regs, .levels, .out] [.MB_STAT, .MB_ACK] fun t =>
      t.mbState n.val = 2 ∧ t.fld Fld.MB_ACK_CODE n.val = c.toNat ∧
      Sends [.linkAck (n.val - 20) c.toNat (s.flag Fld.MB_STAT_COLLISION n.val)] s t) ∧
  (∀ (n : Fin 32) (c : BitVec 16) (s : State),
    s.mbState n.val ≠ 1 →
    Completes (.mbAckWrite n .receiver c) s [.regs] [.MB_STAT] fun t =>
      t.flag Fld.MB_STAT_STRAY n.val = true ∧ t.mbState n.val = s.mbState n.val ∧
      t.fld Fld.MB_STAT_RINGS n.val = s.fld Fld.MB_STAT_RINGS n.val) ∧
  (∀ (n : Fin 32) (s : State),
    s.mbState n.val = 2 →
    Completes (.mbAckRead n .sender) s [.lastRead, .regs] [.MB_STAT, .MB_ACK] fun t =>
      t.lastRead = s.reg .MB_ACK n.val ∧ t.mbState n.val = 0 ∧ t.flag Fld.MB_ACK_DONE n.val = false ∧
      t.flag Fld.MB_ACK_COLLIDED n.val = false ∧ t.fld Fld.MB_ACK_CODE n.val = s.fld Fld.MB_ACK_CODE n.val ∧
      t.fld Fld.MB_STAT_RINGS n.val = 0) ∧
  (∀ (n : Fin 32) (s : State),
    Completes (.mbAckRead n .receiver) s [.lastRead] [] fun t =>
      t.lastRead = s.reg .MB_ACK n.val) ∧
  (∀ (n : Fin 32) (k : Nat) (bs : List Byte) (s : State),
    s.mbState n.val = 1 →
    Completes (.mbMessageWrite n .sender k bs) s [.regs, .mb] [.MB_STAT] fun t =>
      t.mbMsg n.val = msgPut (s.mbMsg n.val) k bs ∧ (∀ j, j ≠ n.val → t.mbMsg j = s.mbMsg j) ∧
      t.flag Fld.MB_STAT_COLLISION n.val = true ∧ t.mbState n.val = 1) ∧
  (∀ (n : Fin 32) (k : Nat) (bs : List Byte) (s : State),
    s.mbState n.val ≠ 1 →
    Completes (.mbMessageWrite n .sender k bs) s [.mb] [] fun t =>
      t.mbMsg n.val = msgPut (s.mbMsg n.val) k bs ∧ (∀ j, j ≠ n.val → t.mbMsg j = s.mbMsg j)) ∧
  (∀ (k : Fin 4) (m : List Byte) (s : State),
    s.pair = true → s.boot.fwRunning = true → s.mbState (20 + k.val) = 0 →
    Completes (.mbLinkDeliver k m) s [.regs, .levels, .mb] [.MB_STAT] fun t =>
      t.mbState (20 + k.val) = 1 ∧ t.fld Fld.MB_STAT_RINGS (20 + k.val) = 1 ∧
      t.mbMsg (20 + k.val) = msgPut (s.mbMsg (20 + k.val)) 0 m ∧ Raised (36 + k.val) t) ∧
  (∀ (k : Fin 4) (m : List Byte) (s : State),
    s.boot.fwRunning = false →
    exec (.mbLinkDeliver k m) s = .next s) ∧
  (∀ (k : Fin 4) (c : BitVec 16) (b : Bool) (s : State),
    s.pair = true → s.mbState (16 + k.val) = 1 →
    Completes (.mbLinkAck k c b) s [.regs, .levels] [.MB_STAT, .MB_ACK] fun t =>
      t.mbState (16 + k.val) = 2 ∧ t.fld Fld.MB_ACK_CODE (16 + k.val) = c.toNat ∧
      t.flag Fld.MB_ACK_COLLIDED (16 + k.val) = (b || s.flag Fld.MB_STAT_COLLISION (16 + k.val)) ∧
      Raised (32 + k.val) t) ∧
  (∀ (k : Fin 4) (m : List Byte) (c : BitVec 16) (b : Bool) (s : State),
    s.pair = false →
    exec (.mbLinkDeliver k m) s = .next s ∧ exec (.mbLinkAck k c b) s = .next s) ∧
  (∀ (h : SvcMsg) (n : Nat) (m : List Byte) (s : State),
    (s.sess h.sess.val).open_ = true → s.serving = true → s.svcRefusal h 0x02 1 0 (some 260) = none → 24 ≤ n →
    n ≤ 31 → s.mbState n = 0 → m.length = 256 →
    Completes (.svcMbPost h n m) s [.regs, .levels, .out, .mb, .pn] [.MB_STAT] fun t =>
      t.mbState n = 1 ∧ t.mbMsg n = msgPut (s.mbMsg n) 0 m ∧ Raised (16 + n) t ∧
      Answers [] h.sess.val (svcOut h.sess.val h.msgId 0x8002 0 (t.mbBody n)) s t) ∧
  (∀ (h : SvcMsg) (n : Nat) (s : State),
    (s.sess h.sess.val).open_ = true → s.serving = true → s.svcRefusal h 0x02 1 0 (some 4) = none → 24 ≤ n →
    n ≤ 31 → s.mbState n = 2 →
    Completes (.svcMbStatus h n) s [.regs, .out, .pn] [.MB_STAT, .MB_ACK] fun t =>
      t.mbState n = 0 ∧ t.flag Fld.MB_ACK_DONE n = false ∧
      Answers [] h.sess.val (svcOut h.sess.val h.msgId 0x8002 0 (s.mbBody n)) s t) ∧
  (∀ (h : SvcMsg) (n : Nat) (s : State),
    (s.sess h.sess.val).open_ = true → s.serving = true → s.svcRefusal h 0x02 1 0 (some 4) = none → 24 ≤ n →
    n ≤ 31 → s.mbState n ≠ 2 →
    Completes (.svcMbStatus h n) s [.out, .pn] [] fun t =>
      Answers [] h.sess.val (svcOut h.sess.val h.msgId 0x8002 0 (s.mbBody n)) s t) ∧
  (∀ (h : SvcMsg) (n : Nat) (s : State),
    (s.sess h.sess.val).open_ = true → s.serving = true → s.svcRefusal h 0x02 1 0 (some 4) = none → 24 ≤ n →
    n ≤ 31 → s.mbState n = 1 →
    Completes (.svcMbCancel h n) s [.regs, .out, .pn] [.MB_STAT] fun t =>
      t.mbState n = 0 ∧ Answers [] h.sess.val (svcOut h.sess.val h.msgId 0x8002 0 (t.mbBody n)) s t) ∧
  (∀ (h : SvcMsg) (n : Nat) (s : State),
    (s.sess h.sess.val).open_ = true → s.serving = true → s.svcRefusal h 0x02 1 0 (some 4) = none →
    n < 24 ∨ 31 < n →
    exec (.svcMbStatus h n) s = .next ((s.heard h.sess.val).answer h 2 7) ∧
    exec (.svcMbCancel h n) s = .next ((s.heard h.sess.val).answer h 2 7))

/-- A service request for the summary is answered with its 4,096 bytes, as does mailbox 0 with FUNCTION 1 and LENGTH
4, which fills the window and acknowledges; each production is counted. A wrong LENGTH is acknowledged 4, and an
unknown FUNCTION below 0x8000 with 2; a FUNCTION of the application is left pending. The summary is 1,024 words, the
last being the CRC of the others. Where a clause rests on a choice of the model, the choice is in log entries 64. It
says of each of these commands, under hypotheses on the state and the operands alone, that exec answers a next state
with its effect: svcFullSummary, fullSummaryRequest. -/
def Obligations.FullSummary : Prop :=
  (∀ (h : SvcMsg) (s : State),
    (s.sess h.sess.val).open_ = true → s.serving = true → s.svcRefusal h 0x01 0 0 (some 0) = none →
    Completes (.svcFullSummary h) s [.out, .mb, .pn] [] fun t =>
      t.mb.made = (s.mb.made + 1) % 4294967296 ∧
      Answers [] h.sess.val (svcOut h.sess.val h.msgId 0x8001 0 (wireBytes s.summary)) s t) ∧
  (∀ (s : State),
    s.mbState 0 = 1 → s.boot.fwRunning = true → bits (s.mbMsg 0) 15 0 = 1 → bits (s.mbMsg 0) 31 16 = 4 →
    Completes .fullSummaryRequest s [.regs, .levels, .mb] [.MB_STAT, .MB_ACK] fun t =>
      t.mb.window = s.summary ∧ t.mb.made = (s.mb.made + 1) % 4294967296 ∧ t.mbState 0 = 2 ∧
      t.fld Fld.MB_ACK_CODE = 0 ∧ Raised 16 t) ∧
  (∀ (s : State),
    s.mbState 0 = 1 → s.boot.fwRunning = true → bits (s.mbMsg 0) 15 0 = 1 → bits (s.mbMsg 0) 31 16 ≠ 4 →
    Completes .fullSummaryRequest s [.regs, .levels] [.MB_STAT, .MB_ACK] fun t =>
      t.mbState 0 = 2 ∧ t.fld Fld.MB_ACK_CODE = 4) ∧
  (∀ (s : State),
    s.mbState 0 = 1 → s.boot.fwRunning = true → bits (s.mbMsg 0) 15 0 ≠ 1 → bits (s.mbMsg 0) 15 0 < 32768 →
    Completes .fullSummaryRequest s [.regs, .levels] [.MB_STAT, .MB_ACK] fun t =>
      t.mbState 0 = 2 ∧ t.fld Fld.MB_ACK_CODE = 2) ∧
  (∀ (s : State),
    s.mbState 0 ≠ 1 ∨ 32768 ≤ bits (s.mbMsg 0) 15 0 →
    exec .fullSummaryRequest s = .next s) ∧
  (∀ (s : State),
    s.summary.length = 1024 ∧ s.summary.take 1023 = s.sumWords ∧
    s.summary.getLast? = some (crc32c (wireBytes s.sumWords)))

/-- A raised record waits until the newest record is located; then it takes the next SEQUENCE and joins the queue, or
is suppressed where its code has no token, or is lost where the queue has no room. A record committed leaves the
queue, lies in the slot its SEQUENCE names, and is the newest. A loss record follows the first cycle without a refusal
and clears the counts; a cycle with a refusal only forgets it. The search numbers on from the newest valid record and
admits the start-up anchor and the reset record. Setting the cursor loads the window, and reading its last word moves
the cursor on by what was loaded and loads it again (code 1 where the cursor lay before the oldest record, 2 where it
lies past the newest); without the key its code is 3. Where a clause rests on a choice of the model, the choice is in
log entries 57, 58, 59, 60. It says of each of these commands, under hypotheses on the state and the operands alone,
that exec answers a next state with its effect: sinterAdmit, sinterCommit, lossRecord, suppressionSummary,
sinterSearch, snCursorSet, snWindowAdvance. -/
def Obligations.SinterRecords : Prop :=
  (∀ (s : State),
    s.sn.located = false ∨ s.sn.raised = [] →
    exec .sinterAdmit s = .next s) ∧
  (∀ (r : RawRec) (s : State),
    s.sn.located = true → s.sn.raised = [r] → codeClass r.code ≠ 0 → s.token r.code = true →
    s.recentCount < 100000 → s.roomFor r.code = true → s.anchorDue = false → s.sn.queue.length < 1791 →
    Completes .sinterAdmit s [.regs, .sn] [.SN_STATUS] fun t =>
      t.sn.raised = [] ∧ t.sn.next = s.sn.next + 1 ∧ t.sn.queue.length = s.sn.queue.length + 1 ∧
      (t.sn.queue.getLast?.map fun x => (recSeq x, recCode x)) = some (s.sn.next % 2 ^ 48, r.code.toNat) ∧
      t.fld Fld.SN_STATUS_OCCUPANCY = s.sn.queue.length + 1 ∧
      t.fld Fld.SN_SUPPRESSED_COUNT = s.fld Fld.SN_SUPPRESSED_COUNT) ∧
  (∀ (r : RawRec) (s : State),
    s.sn.located = true → s.sn.raised = [r] → codeClass r.code ≠ 0 → s.token r.code = false → s.sn.supp = [] →
    Completes .sinterAdmit s [.regs, .levels, .sn] [.SN_SUPPRESSED] fun t =>
      t.sn.raised = [] ∧ t.sn.queue = s.sn.queue ∧ t.sn.next = s.sn.next ∧
      t.fld Fld.SN_SUPPRESSED_COUNT = satAdd Fld.SN_SUPPRESSED_COUNT.top (s.fld Fld.SN_SUPPRESSED_COUNT) 1 ∧
      (t.sn.supp.map fun e => (e.code, e.count)) = [(r.code, 1)] ∧ Raised 122 t) ∧
  (∀ (r : RawRec) (s : State),
    s.sn.located = true → s.sn.raised = [r] → codeClass r.code = 0 → s.roomFor r.code = false →
    Completes .sinterAdmit s [.regs, .levels, .sn] [.SN_LOST] fun t =>
      t.sn.raised = [] ∧ t.sn.queue = s.sn.queue ∧ t.sn.next = s.sn.next ∧ t.sn.refused = true ∧
      t.fld Fld.SN_LOST_FAULT = satAdd Fld.SN_LOST_FAULT.top (s.fld Fld.SN_LOST_FAULT) 1 ∧
      t.fld Fld.SN_LOST_OTHER = s.fld Fld.SN_LOST_OTHER ∧ Raised 122 t) ∧
  (∀ (r : BitVec 512) (s : State),
    s.sn.queue = [r] → s.snMay = true → s.sn.supp = [] → s.sn.spill = none → recSeq r < 2 ^ 48 →
    Completes .sinterCommit s [.regs, .key, .sn] [.SN_STATUS, .SN_NEWEST_LO, .SN_NEWEST_HI, .SN_OLDEST_LO,
      .SN_OLDEST_HI] fun t =>
      t.sn.queue = [] ∧ t.slotRec (recSeq r % Config.sinterSlots) = r ∧ t.newest = recSeq r ∧
      t.fld Fld.SN_STATUS_OCCUPANCY = 0) ∧
  (∀ (s : State),
    s.sn.queue = [] ∨ s.snMay = false →
    exec .sinterCommit s = .next s) ∧
  (∀ (s : State),
    s.sn.refused = true →
    Completes .lossRecord s [.sn] [] fun t =>
      t.sn = { s.sn with refused := false }) ∧
  (∀ (s : State),
    s.sn.refused = false → s.sn.located = true → s.sn.lossFault ≠ 0 ∨ s.sn.lossOther ≠ 0 → s.roomFor 3 = true →
    s.anchorDue = false → s.sn.queue.length < 1791 →
    Completes .lossRecord s [.regs, .sn] [.SN_STATUS] fun t =>
      t.sn.lossFault = 0 ∧ t.sn.lossOther = 0 ∧ t.sn.next = s.sn.next + 1 ∧
      (t.sn.queue.getLast?.map recCode) = some 3) ∧
  (∀ (s : State),
    s.sn.refused = false → s.sn.lossFault = 0 → s.sn.lossOther = 0 →
    exec .lossRecord s = .next s) ∧
  (∀ (c : BitVec 16) (e : Supp) (s : State),
    s.sn.located = true → s.sn.supp = [e] → s.sn.spill = none → e.code = c → e.mark.toNat ≤ s.mt.frc.toNat →
    e.count ≠ 0 → s.roomFor 2 = true → s.anchorDue = false → s.sn.queue.length < 1791 →
    Completes (.suppressionSummary c) s [.regs, .sn] [.SN_STATUS] fun t =>
      (t.sn.supp.map fun x => (x.code, x.count)) = [(c, 0)] ∧ t.sn.next = s.sn.next + 1 ∧
      (t.sn.queue.getLast?.map recCode) = some 2) ∧
  (∀ (c : BitVec 16) (e : Supp) (s : State),
    s.sn.located = true → s.sn.supp = [e] → s.sn.spill = none → e.code = c → e.mark.toNat ≤ s.mt.frc.toNat →
    e.count = 0 →
    Completes (.suppressionSummary c) s [.sn] [] fun t =>
      t.sn.supp = [] ∧ t.sn.queue = s.sn.queue) ∧
  (∀ (c : BitVec 16) (s : State),
    s.sn.located = false →
    exec (.suppressionSummary c) s = .next s) ∧
  (∀ (s : State),
    s.sn.located = false → s.flag Fld.PK_STATUS_SERIAL_OK = true → s.pw.inReset = none → 2 ≤ s.phase →
    s.usedSlots = [] → s.sn.queue = [] → s.sn.recent = [] → s.sn.buckets = [] → s.img.rates = [] →
    s.img.anchorPeriod = 100000000 → s.pw.lkfPending = false →
    Completes .sinterSearch s [.regs, .sn] [.SN_STATUS, .SN_NEWEST_LO, .SN_NEWEST_HI, .SN_OLDEST_LO,
      .SN_OLDEST_HI] fun t =>
      t.sn.located = true ∧ t.newest = 0 ∧ t.oldest = 0 ∧ t.sn.next = 3 ∧
      (t.sn.queue.map fun x => (recSeq x, recCode x)) = [(1, 1), (2, 0xF000 + s.fld Fld.RST_CAUSE_CAUSE)]) ∧
  (∀ (s : State),
    s.sn.located = true ∨ s.flag Fld.PK_STATUS_SERIAL_OK = false →
    exec .sinterSearch s = .next s) ∧
  (∀ (w : Writer) (v : Word) (s : State),
    s.sn.located = false →
    Completes (.snCursorSet w v) s [.regs, .sn] [.SN_CURSOR_LO, .SN_CURSOR_HI, .SN_WSTAT] fun t =>
      t.fld Fld.SN_WSTAT_CODE (wIdx w) = 3 ∧ t.fld Fld.SN_WSTAT_LOADED (wIdx w) = 0 ∧ t.window (wIdx w) = [] ∧
      t.cursor (wIdx w) = bits v 15 0 * 4294967296 + (s.heldLo .SN_CURSOR_LO (wIdx w)).toNat) ∧
  (∀ (w : Writer) (v : Word) (s : State),
    s.sn.located = true → s.flag Fld.PK_STATUS_PRESENT = true → s.flag Fld.PK_STATUS_SERIAL_OK = true →
    s.newest = 0 →
    Completes (.snCursorSet w v) s [.regs, .sn] [.SN_CURSOR_LO, .SN_CURSOR_HI, .SN_WSTAT] fun t =>
      t.fld Fld.SN_WSTAT_CODE (wIdx w) = 2 ∧ t.window (wIdx w) = [] ∧ t.window (1 - wIdx w) = s.window (1 - wIdx w)) ∧
  (∀ (w : Writer) (v : Word) (c : Nat) (r : BitVec 512) (s : State),
    s.sn.located = true → s.flag Fld.PK_STATUS_PRESENT = true → s.flag Fld.PK_STATUS_SERIAL_OK = true →
    bits v 15 0 * 4294967296 + (s.heldLo .SN_CURSOR_LO (wIdx w)).toNat = c → c ≤ s.newest → 0 < s.newest →
    s.oldest = s.newest → s.seqRec s.newest = some r →
    Completes (.snCursorSet w v) s [.regs, .sn] [.SN_CURSOR_LO, .SN_CURSOR_HI, .SN_WSTAT] fun t =>
      t.window (wIdx w) = [r] ∧ t.fld Fld.SN_WSTAT_LOADED (wIdx w) = 1 ∧ t.fld Fld.SN_WSTAT_BAD (wIdx w) = 0 ∧
      t.fld Fld.SN_WSTAT_CODE (wIdx w) = (if c < s.oldest then 1 else 0) ∧
      t.flag Fld.SN_WSTAT_BUSY (wIdx w) = false ∧ t.cursor (wIdx w) = c ∧
      t.window (1 - wIdx w) = s.window (1 - wIdx w)) ∧
  (∀ (w : Writer) (s : State),
    s.sn.located = false →
    Completes (.snWindowAdvance w) s [.lastRead, .regs, .sn] [.SN_CURSOR_LO, .SN_CURSOR_HI, .SN_WSTAT] fun t =>
      t.lastRead = BitVec.ofNat 32 (bits (listGet 0 (s.window (wIdx w)) 7) 511 480) ∧
      t.cursor (wIdx w) = (s.cursor (wIdx w) + s.fld Fld.SN_WSTAT_LOADED (wIdx w)) % 2 ^ 48 ∧
      t.fld Fld.SN_WSTAT_CODE (wIdx w) = 3) ∧
  (∀ (w : Writer) (c : Nat) (r : BitVec 512) (s : State),
    s.sn.located = true → s.flag Fld.PK_STATUS_PRESENT = true → s.flag Fld.PK_STATUS_SERIAL_OK = true →
    s.cursor (wIdx w) + s.fld Fld.SN_WSTAT_LOADED (wIdx w) = c → c ≤ s.newest → 0 < s.newest → s.oldest = s.newest →
    s.seqRec s.newest = some r →
    Completes (.snWindowAdvance w) s [.lastRead, .regs, .sn] [.SN_CURSOR_LO, .SN_CURSOR_HI, .SN_WSTAT] fun t =>
      t.lastRead = BitVec.ofNat 32 (bits (listGet 0 (s.window (wIdx w)) 7) 511 480) ∧ t.window (wIdx w) = [r] ∧
      t.fld Fld.SN_WSTAT_LOADED (wIdx w) = 1 ∧ t.fld Fld.SN_WSTAT_BAD (wIdx w) = 0 ∧
      t.fld Fld.SN_WSTAT_CODE (wIdx w) = (if c < s.oldest then 1 else 0) ∧
      t.flag Fld.SN_WSTAT_BUSY (wIdx w) = false ∧ t.cursor (wIdx w) = c ∧
      t.window (1 - wIdx w) = s.window (1 - wIdx w))

/-- With the owner lock closed a download and a verification are refused with 0x0101, kept in LAST_CODE and in record
0x400D. A block for an EMPTY record opens a download: record 0x4001, the progress record DOWNLOADING with the block's
tag and TOTAL, and the block's units in the target bank; where TOTAL is 1 the record is DOWNLOADED and record 0x4002
follows. A read-back that differs answers 0x000A and leaves the bit clear; another tag is refused with 0x0109, an
ill-formed block with 0x0108. VERIFY sets VERIFYING; its end sets VERIFIED with record 0x4003 or FAILED with 0x4004
and the code. CANCEL empties a record. VERIFY, CANCEL and CONFIRM that the active takes go to its partner over the
links; there the same order, taken from the link, has the same effect under the same conditions but the role's, and
its code goes back. STATUS answers with the status words and the bitmap. Where a clause rests on a choice of the
model, the choice is in log entries 69, 70, 117. It says of each of these commands, under hypotheses on the state and
the operands alone, that exec answers a next state with its effect: imageDownloadBlock, updateVerify, verifyComplete,
updateCancel, updateStatus. -/
def Obligations.UpdateDownloadAndVerify : Prop :=
  (∀ (h : SvcMsg) (m : BitVec 512) (us : List W64) (b : Bool) (s : State),
    (s.sess h.sess.val).open_ = true → s.serving = true →
    s.svcRefusal h 0x10 2 0 (some (64 + bits m 383 352)) = none → s.pw.contactOpen = false →
    Completes (.imageDownloadBlock h m us b) s [.regs, .levels, .out, .sn, .pn] [.UP_STATUS] fun t =>
      t.fld Fld.UP_STATUS_LAST_CODE = 0x0101 ∧ Records [0x400D] s t ∧
      Answers [] h.sess.val (svcOut h.sess.val h.msgId 0x8010 0x0101 []) s t) ∧
  (∀ (h : SvcMsg) (k : BitVec 8) (s : State),
    (s.sess h.sess.val).open_ = true → s.serving = true → s.svcRefusal h 0x11 2 1 (some 16) = none →
    s.pw.contactOpen = false →
    Completes (.updateVerify h k false) s [.regs, .levels, .out, .sn, .pn] [.UP_STATUS] fun t =>
      t.fld Fld.UP_STATUS_LAST_CODE = 0x0101 ∧ Records [0x400D] s t ∧ t.up = s.up ∧
      Answers [] h.sess.val (svcOut h.sess.val h.msgId 0x8011 0x0101 (wireBytes [t.upStatus, t.reg .PK_STATUS])) s t) ∧
  (∀ (h : SvcMsg) (m : BitVec 512) (us : List W64) (s : State),
    (s.sess h.sess.val).open_ = true → s.serving = true →
    s.svcRefusal h 0x10 2 0 (some (64 + bits m 383 352)) = none → s.upRefusal 0 = 0 →
    us.length * 8 = bits m 383 352 → blkOk m (us.flatMap fun u => bytesOf u 8) = true → s.iazebin = false →
    s.keyOk = true → s.progLive (blkKind m) = false → 2 ≤ bits m 399 384 →
    Completes (.imageDownloadBlock h m us true) s [.regs, .levels, .out, .sn, .key, .pn] [.UP_STATUS,
      .UP_PROGRESS] fun t =>
      t.progState (blkKind m) = 1 ∧ t.progTotal (blkKind m) = bits m 399 384 ∧
      t.progTag (blkKind m) = BitVec.ofNat 64 (bits m 511 448) ∧
      bitAt (t.progMap (blkKind m)) (bits m 415 400) = true ∧ t.fld Fld.UP_PROGRESS_STATE (blkKind m) = 1 ∧
      Records [0x4001] s t ∧ Answers [] h.sess.val (svcOut h.sess.val h.msgId 0x8010 0 []) s t ∧
      ∀ j, j < us.length → t.keyUnit (State.bankAddr (blkKind m) (s.targetBank (blkKind m)) + bits m 415 400 * 65536 + 8 * j) = us.getD j 0) ∧
  (∀ (h : SvcMsg) (m : BitVec 512) (us : List W64) (s : State),
    (s.sess h.sess.val).open_ = true → s.serving = true →
    s.svcRefusal h 0x10 2 0 (some (64 + bits m 383 352)) = none → s.upRefusal 0 = 0 →
    us.length * 8 = bits m 383 352 → blkOk m (us.flatMap fun u => bytesOf u 8) = true → s.iazebin = false →
    s.keyOk = true → s.progLive (blkKind m) = false → bits m 399 384 = 1 →
    Completes (.imageDownloadBlock h m us true) s [.regs, .levels, .out, .sn, .key, .pn] [.UP_STATUS,
      .UP_PROGRESS] fun t =>
      t.progState (blkKind m) = 2 ∧ t.progDone (blkKind m) = 1 ∧ Records [0x4001, 0x4002] s t ∧
      Answers [] h.sess.val (svcOut h.sess.val h.msgId 0x8010 0 []) s t) ∧
  (∀ (h : SvcMsg) (m : BitVec 512) (us : List W64) (s : State),
    (s.sess h.sess.val).open_ = true → s.serving = true →
    s.svcRefusal h 0x10 2 0 (some (64 + bits m 383 352)) = none → s.upRefusal 0 = 0 →
    us.length * 8 = bits m 383 352 → blkOk m (us.flatMap fun u => bytesOf u 8) = true → s.iazebin = false →
    s.keyOk = true → s.progState (blkKind m) = 1 → s.progLive (blkKind m) = true →
    s.progTag (blkKind m) = BitVec.ofNat 64 (bits m 511 448) → s.progTotal (blkKind m) = bits m 399 384 →
    Completes (.imageDownloadBlock h m us false) s [.regs, .levels, .out, .sn, .key, .pn] [.UP_STATUS,
      .UP_PROGRESS] fun t =>
      bitAt (t.progMap (blkKind m)) (bits m 415 400) = false ∧ t.fld Fld.UP_STATUS_LAST_CODE = 0x000A ∧
      Records [0x400D] s t ∧ Answers [] h.sess.val (svcOut h.sess.val h.msgId 0x8010 0x000A []) s t) ∧
  (∀ (h : SvcMsg) (m : BitVec 512) (us : List W64) (b : Bool) (s : State),
    (s.sess h.sess.val).open_ = true → s.serving = true →
    s.svcRefusal h 0x10 2 0 (some (64 + bits m 383 352)) = none → s.upRefusal 0 = 0 →
    us.length * 8 = bits m 383 352 → blkOk m (us.flatMap fun u => bytesOf u 8) = true → s.iazebin = false →
    s.keyOk = true → s.progLive (blkKind m) = true → s.progTag (blkKind m) ≠ BitVec.ofNat 64 (bits m 511 448) →
    Completes (.imageDownloadBlock h m us b) s [.regs, .levels, .out, .sn, .pn] [.UP_STATUS] fun t =>
      t.fld Fld.UP_STATUS_LAST_CODE = 0x0109 ∧ Records [0x400D] s t ∧
      Answers [] h.sess.val (svcOut h.sess.val h.msgId 0x8010 0x0109 []) s t) ∧
  (∀ (h : SvcMsg) (m : BitVec 512) (us : List W64) (b : Bool) (s : State),
    (s.sess h.sess.val).open_ = true → s.serving = true →
    s.svcRefusal h 0x10 2 0 (some (64 + bits m 383 352)) = none → s.upRefusal 0 = 0 →
    us.length * 8 = bits m 383 352 → blkOk m (us.flatMap fun u => bytesOf u 8) = false →
    Completes (.imageDownloadBlock h m us b) s [.regs, .levels, .out, .sn, .pn] [.UP_STATUS] fun t =>
      t.fld Fld.UP_STATUS_LAST_CODE = 0x0108 ∧ Records [0x400D] s t ∧
      Answers [] h.sess.val (svcOut h.sess.val h.msgId 0x8010 0x0108 []) s t) ∧
  (∀ (h : SvcMsg) (s : State),
    (s.sess h.sess.val).open_ = true → s.serving = true → s.svcRefusal h 0x11 2 1 (some 16) = none →
    s.upRefusal 1 = 0 → s.keyOk = true → s.progState 1 = 2 →
    Completes (.updateVerify h 2 false) s [.regs, .levels, .out, .key, .up, .pn] [.UP_STATUS, .UP_PROGRESS] fun t =>
      t.progState 1 = 3 ∧ t.up.verifying = s.up.verifying ||| 2 ∧ t.fld Fld.UP_PROGRESS_STATE 1 = 3 ∧
      Answers (if s.role = 1 ∧ s.partnerHeard = true then [.linkUpdate 1 2] else []) h.sess.val (svcOut h.sess.val h.msgId 0x8011 0 (wireBytes [t.upStatus, t.reg .PK_STATUS])) s t) ∧
  (∀ (h : SvcMsg) (s : State),
    (s.sess h.sess.val).open_ = true → s.serving = true → s.svcRefusal h 0x11 2 1 (some 16) = none →
    s.upRefusal 1 = 0 → s.progState 0 ≠ 2 → s.progState 0 < 3 ∨ s.progState 0 = 5 →
    Completes (.updateVerify h 1 false) s [.regs, .levels, .out, .sn, .pn] [.UP_STATUS] fun t =>
      t.fld Fld.UP_STATUS_LAST_CODE = 0x010A ∧ Records [0x400D] s t ∧ t.up = s.up ∧
      Answers [] h.sess.val (svcOut h.sess.val h.msgId 0x8011 0x010A (wireBytes [t.upStatus, t.reg .PK_STATUS])) s t) ∧
  (∀ (x : Option PlantImage) (b : Bool) (e : Nat) (s : State),
    s.up.verifying = 1 → s.keyOk = true → s.progState 0 = 3 →
    e = s.verifyCode 0 (b && x.any fun i => i.baseKind == (if s.pair then 2 else 1) && imageFits i) →
    Completes (.verifyComplete x b) s [.regs, .levels, .sn, .key, .up] [.UP_STATUS, .UP_PROGRESS] fun t =>
      t.progState 0 = (if e = 0 then 4 else 6) ∧ t.up.verifying = 0 ∧ t.up.hasMap = x.any s.mapsRunning ∧
      Records [if e = 0 then 0x4003 else 0x4004] s t ∧ (e ≠ 0 → t.fld Fld.UP_STATUS_LAST_CODE = e)) ∧
  (∀ (x : Option PlantImage) (b : Bool) (e : Nat) (s : State),
    s.up.verifying = 2 → s.keyOk = true → s.progState 1 = 3 → e = s.verifyCode 1 true →
    Completes (.verifyComplete x b) s [.regs, .levels, .sn, .key, .up] [.UP_STATUS, .UP_PROGRESS] fun t =>
      t.progState 1 = (if e = 0 then 4 else 6) ∧ t.up.verifying = 0 ∧
      Records [if e = 0 then 0x4003 else 0x4004] s t ∧ (e ≠ 0 → t.fld Fld.UP_STATUS_LAST_CODE = e)) ∧
  (∀ (x : Option PlantImage) (b : Bool) (s : State),
    s.up.verifying = 0 ∨ s.keyOk = false →
    exec (.verifyComplete x b) s = .next s) ∧
  (∀ (k : Nat) (c : Bool) (s : State),
    s.bankValid k (bits (s.prog k) 64 64) = false ∨ hdrTag (s.bankHdr k (bits (s.prog k) 64 64)) ≠ s.progTag k →
    s.verifyCode k c = 0x010B) ∧
  (∀ (h : SvcMsg) (s : State),
    (s.sess h.sess.val).open_ = true → s.serving = true → s.svcRefusal h 0x11 2 6 (some 16) = none →
    s.upRefusal 6 = 0 → s.keyOk = true → s.up.roll = none → s.progState 0 = 2 →
    Completes (.updateCancel h 1 false) s [.regs, .levels, .out, .key, .pn] [.UP_STATUS, .UP_PROGRESS] fun t =>
      t.progState 0 = 0 ∧ t.reg .UP_PROGRESS 0 = 0 ∧
      Answers (if s.role = 1 ∧ s.partnerHeard = true then [.linkUpdate 6 1] else []) h.sess.val (svcOut h.sess.val h.msgId 0x8011 0 (wireBytes [t.upStatus, t.reg .PK_STATUS])) s t) ∧
  (∀ (h : SvcMsg) (s : State),
    (s.sess h.sess.val).open_ = true → s.serving = true → s.svcRefusal h 0x11 2 7 (some 16) = none →
    s.upRefusal 7 = 0 →
    Completes (.updateStatus h 1) s [.out, .pn] [] fun t =>
      Answers [] h.sess.val (svcOut h.sess.val h.msgId 0x8011 0 (wireBytes [s.upStatus, s.reg .PK_STATUS] ++ bytesOf (s.progMap 0) 96)) s t) ∧
  (∀ (h : SvcMsg) (s : State),
    (s.sess h.sess.val).open_ = true → s.serving = true → s.svcRefusal h 0x11 2 7 (some 16) = none →
    s.upRefusal 7 = 0 →
    Completes (.updateStatus h 2) s [.out, .pn] [] fun t =>
      Answers [] h.sess.val (svcOut h.sess.val h.msgId 0x8011 0 (wireBytes [s.upStatus, s.reg .PK_STATUS] ++ bytesOf (s.progMap 1) 96)) s t) ∧
  (∀ (h : SvcMsg) (s : State),
    s.partnerHeard = true → s.role ≠ 1 → s.refusedUp = false → s.upRefusal 1 = 0 ∨ s.upRefusal 1 = 0x0111 →
    s.keyOk = true → s.progState 1 = 2 → s.iazebin = false →
    Completes (.updateVerify h 2 true) s [.regs, .levels, .out, .key, .up] [.UP_STATUS, .UP_PROGRESS] fun t =>
      t.progState 1 = 3 ∧ t.up.verifying = s.up.verifying ||| 2 ∧ Sends [.linkUpdateDone 1 0] s t) ∧
  (∀ (h : SvcMsg) (s : State),
    s.partnerHeard = true → s.role ≠ 1 → s.refusedUp = false → s.upRefusal 6 = 0 → s.keyOk = true →
    s.up.roll = none → s.progState 0 = 2 →
    Completes (.updateCancel h 1 true) s [.regs, .levels, .out, .key] [.UP_STATUS, .UP_PROGRESS] fun t =>
      t.progState 0 = 0 ∧ Sends [.linkUpdateDone 6 0] s t) ∧
  (∀ (h : SvcMsg) (k : BitVec 8) (s : State),
    s.partnerHeard = true → s.role ≠ 1 → s.refusedUp = false → s.upRefusal 1 = 0x0101 →
    Completes (.updateVerify h k true) s [.regs, .levels, .out, .sn] [.UP_STATUS] fun t =>
      t.up = s.up ∧ t.fld Fld.UP_STATUS_LAST_CODE = 0x0101 ∧ Records [0x400D] s t ∧
      Sends [.linkUpdateDone 1 0x0101] s t) ∧
  (∀ (h : SvcMsg) (k : BitVec 8) (b : Bool) (s : State),
    s.partnerHeard = false ∨ s.role = 1 ∨ s.refusedUp = true →
    exec (.updateVerify h k true) s = .next s ∧ exec (.updateCancel h k true) s = .next s ∧
    exec (.updateConfirm h b true) s = .next s)

/-- An activation at once writes a selection with the other bank of each kind on trial and counters 0, and the module
restarts; one at AT waits, is checked 1 ms before, and runs at AT, its check made up for where it has not passed.
CONFIRM in a Z9B-S writes a selection with the trial flags and counters clear; REVERT in a Z9B-S begins the wait for a
revert restart, which runs when the hold-up store and the transition point allow it. TRIAL_RUN is written every 60 s
of the roles that count, and an expired trial reverts, in a pair's active by a revert roll. The recovery ROM's
ACTIVATE restarts the module. Where a clause rests on a choice of the model, the choice is in log entries 69, 70. It
says of each of these commands, under hypotheses on the state and the operands alone, that exec answers a next state
with its effect: updateActivate, activateCheck, activateAt, updateConfirm, updateRevert, trialRunWrite,
trialRevertRestart, iazebinActivate. -/
def Obligations.UpdateTrials : Prop :=
  (∀ (h : SvcMsg) (s : State),
    (s.sess h.sess.val).open_ = true → s.serving = true → s.svcRefusal h 0x11 2 2 (some 16) = none →
    s.upRefusal 2 = 0 → s.iazebin = false → s.progState 0 = 4 → s.keyOk = true → s.powered = true →
    (s.activate 1).fld Fld.PK_SEQ_SEQUENCE ≠ s.fld Fld.PK_SEQ_SEQUENCE →
    Completes (.updateActivate h 1 0) s [.out, .regs, .latchHi, .holdLo, .levels, .img, .boot, .key, .sn, .mt, .pw,
      .ln, .le, .la, .bn, .io, .gy, .sx, .pn, .cn, .mb, .lk, .ac, .up, .isl, .pi, .subc, .blk, .mem,
      .forces] [.SUP_START, .SUP_ISLAND, .RST_CAUSE, .RST_CTL, .RST_WDOG, .RST_POWER, .RST_EV_PEND, .RST_EV_ROUTE,
      .RST_EV_SUM, .AC_CTL, .AC_SLOT, .AC_FAULT, .AC_FAULT_ADDR_LO, .AC_FAULT_ADDR_HI, .AC_ECC, .AC_SCRUB,
      .PK_STATUS, .PK_SEQ, .PK_SERIAL_LO, .PK_SERIAL_HI, .UP_STATUS, .UP_PROGRESS, .UP_TRIAL, .SN_STATUS,
      .SN_NEWEST_LO, .SN_NEWEST_HI, .SN_OLDEST_LO, .SN_OLDEST_HI, .SN_LOST, .SN_SUPPRESSED, .SN_CURSOR_LO,
      .SN_CURSOR_HI, .SN_WSTAT, .MB_STAT, .MB_DOOR, .MB_ACK, .LK_PAIR, .LK_FAULT, .LK_COUNT, .LK_MISS_LO,
      .LK_MISS_HI, .LK_CMD, .LK_CMD_RESULT, .MT_FRC_LO, .MT_FRC_HI, .MT_PT_LO, .MT_PT_HI, .MT_BT_LO, .MT_BT_HI,
      .MT_TB_LO, .MT_TB_HI, .MT_LATCH_FRC_LO, .MT_LATCH_FRC_HI, .MT_LATCH_PT_LO, .MT_LATCH_PT_HI, .MT_LATCH_BT_LO,
      .MT_LATCH_BT_HI, .MT_LATCH_TB_LO, .MT_LATCH_TB_HI, .MT_STATE, .MT_CTL, .MT_OFFSET, .MT_ERR_EST, .MT_OUTLIERS,
      .MT_PT_SRC, .MT_TB_CFG, .LN_STATUS, .LN_OVERRUN, .LN_DISCARD, .LN_SUB, .LE_CTL, .LE_CMD, .LE_CMD_VAL,
      .LE_CMD_RESULT, .LE_OVERRUN, .LE_FAULT, .LE_LOAD, .LE_FDELAY, .LA_STATUS, .LA_SEL, .LA_LOOP, .LA_SLOT,
      .LA_SURGE, .LA_COUNT, .GY_STATUS, .GY_CH, .GY_COND_LO, .GY_COND_HI, .GY_SET, .GY_CAP, .GY_CMD, .GY_LOST,
      .BN_STATUS, .BN_LOOP, .BN_EPOCH, .BN_HEALTH, .BN_EQ, .BN_VERIFY, .BN_TAKEOVER, .BN_CMD, .BN_HO_AT_LO,
      .BN_HO_AT_HI, .BN_CMD_RESULT, .PN_PORT, .PN_DROP, .PN_PTP, .PN_SEL, .PN_SSTAT, .PN_SVC, .CN_CFG, .CN_CTL,
      .CN_STAT, .CN_ERR, .CN_PROT, .CN_TIMING, .CN_OBJCMD, .CN_OBJRES, .SX_PORT, .SX_LAP, .SX_ERR, .SX_CAR,
      .SX_EPOCH, .UC_CFG, .UC_STAT, .UC_DIAG, .UC_SLICE, .UC_HART, .DC_CFG, .DC_STAT, .DC_DIAG, .DC_GROUP] fun t =>
      t.pw.inReset = some 6 ∧ t.fld Fld.RST_CAUSE_CAUSE = 6 ∧ t.role = 0 ∧ t.ln.tasks = []) ∧
  (∀ (s : State),
    s.selPick.isSome = true → s.fld Fld.PK_STATUS_SEL_COPY = 0 → s.progState 0 = 4 →
    (s.activate 1).sel 0 = s.sel 0 ∧ bits ((s.activate 1).sel 1) 72 72 = 1 - bits (s.sel 0) 72 72 ∧
    bits ((s.activate 1).sel 1) 73 73 = bits (s.sel 0) 73 73 ∧ bitAt ((s.activate 1).sel 1) 74 = true ∧
    bits ((s.activate 1).sel 1) 87 80 = 0 ∧ bits ((s.activate 1).sel 1) 127 96 = 0 ∧
    (s.activate 1).fld Fld.PK_STATUS_SEL_COPY = 1 ∧ (s.activate 1).flag Fld.UP_STATUS_CFG_TRIAL = true ∧
    (s.activate 1).progState 0 = 5) ∧
  (∀ (h : SvcMsg) (k : BitVec 8) (w : Instant) (s : State),
    (s.sess h.sess.val).open_ = true → s.serving = true → s.svcRefusal h 0x11 2 2 (some 16) = none →
    s.upRefusal 2 = 0 → s.iazebin = false → allKinds (k.toNat % 4) (fun j => s.progState j == 4) = true → w ≠ 0 →
    2000000 ≤ w.diff s.pt → w.diff s.pt ≤ 86400000000000 →
    Completes (.updateActivate h k w) s [.out, .up, .pn] [] fun t =>
      t.up = { s.up with act := some (k.toNat % 4, w), actOk := false } ∧
      Answers [] h.sess.val (svcOut h.sess.val h.msgId 0x8011 0 (wireBytes [t.upStatus, t.reg .PK_STATUS])) s t) ∧
  (∀ (h : SvcMsg) (k : BitVec 8) (w : Instant) (s : State),
    (s.sess h.sess.val).open_ = true → s.serving = true → s.svcRefusal h 0x11 2 2 (some 16) = none →
    s.upRefusal 2 = 0x0102 →
    Completes (.updateActivate h k w) s [.regs, .levels, .out, .sn, .pn] [.UP_STATUS] fun t =>
      t.fld Fld.UP_STATUS_LAST_CODE = 0x0102 ∧ Records [0x400D] s t ∧ t.up = s.up) ∧
  (∀ (a : Nat × Instant) (s : State),
    s.up.act = some a → Instant.before s.pt (a.2 - 1000000) = false → s.actCode a.1 = 0 →
    Completes .activateCheck s [.up] [] fun t =>
      t.up = { s.up with actOk := true }) ∧
  (∀ (a : Nat × Instant) (s : State),
    s.up.act = some a → Instant.before s.pt (a.2 - 1000000) = false → s.actCode a.1 ≠ 0 →
    Completes .activateCheck s [.regs, .levels, .up] [.UP_STATUS] fun t =>
      t.up = { s.up with act := none } ∧ t.fld Fld.UP_STATUS_LAST_CODE = s.actCode a.1 % 65536) ∧
  (∀ (a : Nat × Instant) (s : State),
    s.up.act = some a →
    (Instant.before s.pt (a.2 - 1000000) = true → exec .activateCheck s = .next s) ∧
    (Instant.before s.pt a.2 = true → exec .activateAt s = .next s)) ∧
  (∀ (a : Nat × Instant) (s : State),
    s.up.act = some a → Instant.before s.pt a.2 = false → s.up.actOk = true ∨ s.actCode a.1 = 0 → s.keyOk = true →
    s.powered = true → s.pw.inReset = none →
    Completes .activateAt s [.regs, .latchHi, .holdLo, .levels, .img, .boot, .key, .sn, .mt, .pw, .ln, .le, .la,
      .bn, .io, .gy, .sx, .pn, .cn, .mb, .lk, .ac, .up, .isl, .pi, .subc, .blk, .mem, .forces] [.SUP_START,
      .SUP_ISLAND, .RST_CAUSE, .RST_CTL, .RST_WDOG, .RST_POWER, .RST_EV_PEND, .RST_EV_ROUTE, .RST_EV_SUM, .AC_CTL,
      .AC_SLOT, .AC_FAULT, .AC_FAULT_ADDR_LO, .AC_FAULT_ADDR_HI, .AC_ECC, .AC_SCRUB, .PK_STATUS, .PK_SEQ,
      .PK_SERIAL_LO, .PK_SERIAL_HI, .UP_STATUS, .UP_PROGRESS, .UP_TRIAL, .SN_STATUS, .SN_NEWEST_LO, .SN_NEWEST_HI,
      .SN_OLDEST_LO, .SN_OLDEST_HI, .SN_LOST, .SN_SUPPRESSED, .SN_CURSOR_LO, .SN_CURSOR_HI, .SN_WSTAT, .MB_STAT,
      .MB_DOOR, .MB_ACK, .LK_PAIR, .LK_FAULT, .LK_COUNT, .LK_MISS_LO, .LK_MISS_HI, .LK_CMD, .LK_CMD_RESULT,
      .MT_FRC_LO, .MT_FRC_HI, .MT_PT_LO, .MT_PT_HI, .MT_BT_LO, .MT_BT_HI, .MT_TB_LO, .MT_TB_HI, .MT_LATCH_FRC_LO,
      .MT_LATCH_FRC_HI, .MT_LATCH_PT_LO, .MT_LATCH_PT_HI, .MT_LATCH_BT_LO, .MT_LATCH_BT_HI, .MT_LATCH_TB_LO,
      .MT_LATCH_TB_HI, .MT_STATE, .MT_CTL, .MT_OFFSET, .MT_ERR_EST, .MT_OUTLIERS, .MT_PT_SRC, .MT_TB_CFG,
      .LN_STATUS, .LN_OVERRUN, .LN_DISCARD, .LN_SUB, .LE_CTL, .LE_CMD, .LE_CMD_VAL, .LE_CMD_RESULT, .LE_OVERRUN,
      .LE_FAULT, .LE_LOAD, .LE_FDELAY, .LA_STATUS, .LA_SEL, .LA_LOOP, .LA_SLOT, .LA_SURGE, .LA_COUNT, .GY_STATUS,
      .GY_CH, .GY_COND_LO, .GY_COND_HI, .GY_SET, .GY_CAP, .GY_CMD, .GY_LOST, .BN_STATUS, .BN_LOOP, .BN_EPOCH,
      .BN_HEALTH, .BN_EQ, .BN_VERIFY, .BN_TAKEOVER, .BN_CMD, .BN_HO_AT_LO, .BN_HO_AT_HI, .BN_CMD_RESULT, .PN_PORT,
      .PN_DROP, .PN_PTP, .PN_SEL, .PN_SSTAT, .PN_SVC, .CN_CFG, .CN_CTL, .CN_STAT, .CN_ERR, .CN_PROT, .CN_TIMING,
      .CN_OBJCMD, .CN_OBJRES, .SX_PORT, .SX_LAP, .SX_ERR, .SX_CAR, .SX_EPOCH, .UC_CFG, .UC_STAT, .UC_DIAG,
      .UC_SLICE, .UC_HART, .DC_CFG, .DC_STAT, .DC_DIAG, .DC_GROUP] fun t =>
      t.pw.inReset = some 6 ∧ t.fld Fld.RST_CAUSE_CAUSE = 6 ∧ t.up = {}) ∧
  (∀ (a : Nat × Instant) (s : State),
    s.up.act = some a → Instant.before s.pt a.2 = false → s.up.actOk = false → s.actCode a.1 ≠ 0 →
    Completes .activateAt s [.regs, .levels, .up] [.UP_STATUS] fun t =>
      t.up = { s.up with act := none } ∧ t.fld Fld.UP_STATUS_LAST_CODE = s.actCode a.1 % 65536) ∧
  (∀ (h : SvcMsg) (b : Bool) (s : State),
    (s.sess h.sess.val).open_ = true → s.serving = true → s.svcRefusal h 0x11 2 4 (some 16) = none →
    s.upRefusal 4 = 0 → s.onTrial = true → s.pair = false → s.keyOk = true → s.selPick.isSome = true →
    s.fld Fld.PK_STATUS_SEL_COPY = 0 →
    Completes (.updateConfirm h b false) s [.regs, .levels, .out, .sn, .key, .pn] [.UP_STATUS, .UP_TRIAL,
      .UP_PROGRESS, .PK_STATUS, .PK_SEQ] fun t =>
      t.onTrial = false ∧ bitAt (t.sel 1) 74 = false ∧ bitAt (t.sel 1) 75 = false ∧
      bits (t.sel 1) 73 72 = bits (s.sel 0) 73 72 ∧ t.fld Fld.UP_TRIAL_BOOTS = 0 ∧ t.fld Fld.UP_TRIAL_RUN = 0 ∧
      t.progState 0 = 0 ∧ t.progState 1 = 0 ∧ Records [0x4007] s t) ∧
  (∀ (h : SvcMsg) (b : Bool) (s : State),
    s.partnerHeard = true → s.role ≠ 1 → s.refusedUp = false → s.upRefusal 4 = 0 ∨ s.upRefusal 4 = 0x0111 →
    s.onTrial = true → s.keyOk = true → s.selPick.isSome = true → s.fld Fld.PK_STATUS_SEL_COPY = 0 →
    Completes (.updateConfirm h b true) s [.regs, .levels, .out, .sn, .key] [.UP_STATUS, .UP_TRIAL, .UP_PROGRESS,
      .PK_STATUS, .PK_SEQ] fun t =>
      t.onTrial = false ∧ bitAt (t.sel 1) 74 = false ∧ bitAt (t.sel 1) 75 = false ∧ t.progState 0 = 0 ∧
      t.progState 1 = 0 ∧ Records [0x4007] s t ∧ Sends [.linkUpdateDone 4 0] s t) ∧
  (∀ (h : SvcMsg) (b : Bool) (s : State),
    (s.sess h.sess.val).open_ = true → s.serving = true → s.svcRefusal h 0x11 2 4 (some 16) = none →
    s.upRefusal 4 = 0 → s.onTrial = false →
    Completes (.updateConfirm h b false) s [.regs, .levels, .out, .sn, .pn] [.UP_STATUS] fun t =>
      t.fld Fld.UP_STATUS_LAST_CODE = 0x010F ∧ Records [0x400D] s t) ∧
  (∀ (h : SvcMsg) (s : State),
    (s.sess h.sess.val).open_ = true → s.serving = true → s.svcRefusal h 0x11 2 5 (some 16) = none →
    s.upRefusal 5 = 0 → s.onTrial = true → s.pair = false →
    Completes (.updateRevert h) s [.regs, .levels, .out, .up, .pn] [.UP_STATUS] fun t =>
      t.up = { s.up with revert := some 3 } ∧
      Answers [] h.sess.val (svcOut h.sess.val h.msgId 0x8011 0 (wireBytes [t.upStatus, t.reg .PK_STATUS])) s t) ∧
  (∀ (s : State),
    s.onTrial = true → s.keyOk = true → 60000000000 ≤ s.runNow → s.selPick.isSome = true →
    s.fld Fld.PK_STATUS_SEL_COPY = 0 →
    Completes .trialRunWrite s [.regs, .key, .up] [.UP_STATUS, .UP_TRIAL, .PK_STATUS, .PK_SEQ] fun t =>
      bits (t.sel 1) 127 96 = sat 4294967295 s.trialRun ∧ bits (t.sel 1) 75 72 = bits (s.sel 0) 75 72 ∧
      t.fld Fld.UP_TRIAL_RUN = sat 4095 s.trialRun ∧ t.up.runNs = s.runNow % 1000000000) ∧
  (∀ (s : State),
    s.onTrial = false →
    exec .trialRunWrite s = .next s ∧ exec .trialExpire s = .next s ∧ exec .revertRollStart s = .next s) ∧
  (∀ (s : State),
    (s.runNow < 60000000000 → exec .trialRunWrite s = .next s) ∧ (s.trialRun < 1800 → exec .trialExpire s = .next s)) ∧
  (∀ (n : Nat) (s : State),
    s.up.revert = some n → s.keyOk = true → s.flag Fld.RST_POWER_HOLDUP_OK = true → s.transition = false →
    s.powered = true → s.pw.inReset = none →
    Completes .trialRevertRestart s [.regs, .latchHi, .holdLo, .levels, .img, .boot, .key, .sn, .mt, .pw, .ln, .le,
      .la, .bn, .io, .gy, .sx, .pn, .cn, .mb, .lk, .ac, .up, .isl, .pi, .subc, .blk, .mem, .forces] [.SUP_START,
      .SUP_ISLAND, .RST_CAUSE, .RST_CTL, .RST_WDOG, .RST_POWER, .RST_EV_PEND, .RST_EV_ROUTE, .RST_EV_SUM, .AC_CTL,
      .AC_SLOT, .AC_FAULT, .AC_FAULT_ADDR_LO, .AC_FAULT_ADDR_HI, .AC_ECC, .AC_SCRUB, .PK_STATUS, .PK_SEQ,
      .PK_SERIAL_LO, .PK_SERIAL_HI, .UP_STATUS, .UP_PROGRESS, .UP_TRIAL, .SN_STATUS, .SN_NEWEST_LO, .SN_NEWEST_HI,
      .SN_OLDEST_LO, .SN_OLDEST_HI, .SN_LOST, .SN_SUPPRESSED, .SN_CURSOR_LO, .SN_CURSOR_HI, .SN_WSTAT, .MB_STAT,
      .MB_DOOR, .MB_ACK, .LK_PAIR, .LK_FAULT, .LK_COUNT, .LK_MISS_LO, .LK_MISS_HI, .LK_CMD, .LK_CMD_RESULT,
      .MT_FRC_LO, .MT_FRC_HI, .MT_PT_LO, .MT_PT_HI, .MT_BT_LO, .MT_BT_HI, .MT_TB_LO, .MT_TB_HI, .MT_LATCH_FRC_LO,
      .MT_LATCH_FRC_HI, .MT_LATCH_PT_LO, .MT_LATCH_PT_HI, .MT_LATCH_BT_LO, .MT_LATCH_BT_HI, .MT_LATCH_TB_LO,
      .MT_LATCH_TB_HI, .MT_STATE, .MT_CTL, .MT_OFFSET, .MT_ERR_EST, .MT_OUTLIERS, .MT_PT_SRC, .MT_TB_CFG,
      .LN_STATUS, .LN_OVERRUN, .LN_DISCARD, .LN_SUB, .LE_CTL, .LE_CMD, .LE_CMD_VAL, .LE_CMD_RESULT, .LE_OVERRUN,
      .LE_FAULT, .LE_LOAD, .LE_FDELAY, .LA_STATUS, .LA_SEL, .LA_LOOP, .LA_SLOT, .LA_SURGE, .LA_COUNT, .GY_STATUS,
      .GY_CH, .GY_COND_LO, .GY_COND_HI, .GY_SET, .GY_CAP, .GY_CMD, .GY_LOST, .BN_STATUS, .BN_LOOP, .BN_EPOCH,
      .BN_HEALTH, .BN_EQ, .BN_VERIFY, .BN_TAKEOVER, .BN_CMD, .BN_HO_AT_LO, .BN_HO_AT_HI, .BN_CMD_RESULT, .PN_PORT,
      .PN_DROP, .PN_PTP, .PN_SEL, .PN_SSTAT, .PN_SVC, .CN_CFG, .CN_CTL, .CN_STAT, .CN_ERR, .CN_PROT, .CN_TIMING,
      .CN_OBJCMD, .CN_OBJRES, .SX_PORT, .SX_LAP, .SX_ERR, .SX_CAR, .SX_EPOCH, .UC_CFG, .UC_STAT, .UC_DIAG,
      .UC_SLICE, .UC_HART, .DC_CFG, .DC_STAT, .DC_DIAG, .DC_GROUP] fun t =>
      t.pw.inReset = some 6 ∧ t.fld Fld.RST_CAUSE_CAUSE = 6 ∧ t.up = {}) ∧
  (∀ (s : State),
    s.up.revert = none ∨ (s.refusedUp = false ∧ s.transition = true) →
    exec .trialRevertRestart s = .next s) ∧
  (∀ (h : SvcMsg) (k : BitVec 8) (s : State),
    s.iazebin = false →
    exec (.iazebinActivate h k) s = .next s) ∧
  (∀ (h : SvcMsg) (k : BitVec 8) (b : Nat) (s : State),
    (s.sess h.sess.val).open_ = true → s.serving = true → s.svcRefusal h 0x11 2 2 (some 16) = none →
    s.upRefusal 2 = 0 → s.iazebin = true → s.iazBank = some b → s.keyOk = true → s.powered = true →
    (s.iazActivate 0).2.fld Fld.PK_SEQ_SEQUENCE ≠ s.fld Fld.PK_SEQ_SEQUENCE →
    Completes (.iazebinActivate h k) s [.out, .regs, .latchHi, .holdLo, .levels, .img, .boot, .key, .sn, .mt, .pw,
      .ln, .le, .la, .bn, .io, .gy, .sx, .pn, .cn, .mb, .lk, .ac, .up, .isl, .pi, .subc, .blk, .mem,
      .forces] [.SUP_START, .SUP_ISLAND, .RST_CAUSE, .RST_CTL, .RST_WDOG, .RST_POWER, .RST_EV_PEND, .RST_EV_ROUTE,
      .RST_EV_SUM, .AC_CTL, .AC_SLOT, .AC_FAULT, .AC_FAULT_ADDR_LO, .AC_FAULT_ADDR_HI, .AC_ECC, .AC_SCRUB,
      .PK_STATUS, .PK_SEQ, .PK_SERIAL_LO, .PK_SERIAL_HI, .UP_STATUS, .UP_PROGRESS, .UP_TRIAL, .SN_STATUS,
      .SN_NEWEST_LO, .SN_NEWEST_HI, .SN_OLDEST_LO, .SN_OLDEST_HI, .SN_LOST, .SN_SUPPRESSED, .SN_CURSOR_LO,
      .SN_CURSOR_HI, .SN_WSTAT, .MB_STAT, .MB_DOOR, .MB_ACK, .LK_PAIR, .LK_FAULT, .LK_COUNT, .LK_MISS_LO,
      .LK_MISS_HI, .LK_CMD, .LK_CMD_RESULT, .MT_FRC_LO, .MT_FRC_HI, .MT_PT_LO, .MT_PT_HI, .MT_BT_LO, .MT_BT_HI,
      .MT_TB_LO, .MT_TB_HI, .MT_LATCH_FRC_LO, .MT_LATCH_FRC_HI, .MT_LATCH_PT_LO, .MT_LATCH_PT_HI, .MT_LATCH_BT_LO,
      .MT_LATCH_BT_HI, .MT_LATCH_TB_LO, .MT_LATCH_TB_HI, .MT_STATE, .MT_CTL, .MT_OFFSET, .MT_ERR_EST, .MT_OUTLIERS,
      .MT_PT_SRC, .MT_TB_CFG, .LN_STATUS, .LN_OVERRUN, .LN_DISCARD, .LN_SUB, .LE_CTL, .LE_CMD, .LE_CMD_VAL,
      .LE_CMD_RESULT, .LE_OVERRUN, .LE_FAULT, .LE_LOAD, .LE_FDELAY, .LA_STATUS, .LA_SEL, .LA_LOOP, .LA_SLOT,
      .LA_SURGE, .LA_COUNT, .GY_STATUS, .GY_CH, .GY_COND_LO, .GY_COND_HI, .GY_SET, .GY_CAP, .GY_CMD, .GY_LOST,
      .BN_STATUS, .BN_LOOP, .BN_EPOCH, .BN_HEALTH, .BN_EQ, .BN_VERIFY, .BN_TAKEOVER, .BN_CMD, .BN_HO_AT_LO,
      .BN_HO_AT_HI, .BN_CMD_RESULT, .PN_PORT, .PN_DROP, .PN_PTP, .PN_SEL, .PN_SSTAT, .PN_SVC, .CN_CFG, .CN_CTL,
      .CN_STAT, .CN_ERR, .CN_PROT, .CN_TIMING, .CN_OBJCMD, .CN_OBJRES, .SX_PORT, .SX_LAP, .SX_ERR, .SX_CAR,
      .SX_EPOCH, .UC_CFG, .UC_STAT, .UC_DIAG, .UC_SLICE, .UC_HART, .DC_CFG, .DC_STAT, .DC_DIAG, .DC_GROUP] fun t =>
      t.pw.inReset = some 6 ∧ t.fld Fld.RST_CAUSE_CAUSE = 6)

/-- A roll starts at step 1 with record 0x4009, goes to step 2 with 0x400A, orders its hand-over through steps 3 and
4, and ends with step 6 and record 0x400B; without a state map its order is refused with 0x010D. In step 2 the
standby, with the kinds that the active names, in step 5 the former active restarts. A wait too long abandons a
forward roll with record 0x400C and no revert roll. A module on trial beside another selection starts a revert roll as
the active, and restarts as a standby whose partner's health word shows no UPDATE. Where a clause rests on a choice of
the model, the choice is in log entries 69, 70. It says of each of these commands, under hypotheses on the state and
the operands alone, that exec answers a next state with its effect: trialExpire, updateRoll, rollPartnerActivate,
rollPartnerReady, rollFormerActivate, rollComplete, rollWaitExpire, revertRollStart. -/
def Obligations.UpdateRolls : Prop :=
  (∀ (s : State),
    s.onTrial = true → 1800 ≤ s.trialRun → s.role = 1 → s.pair = false → s.up.roll = none → s.up.revert = none →
    Completes .trialExpire s [.regs, .levels, .up] [.UP_STATUS] fun t =>
      t.up = { s.up with revert := some 1 }) ∧
  (∀ (s : State),
    s.onTrial = true → 1800 ≤ s.trialRun → s.role = 1 → s.pair = true → s.up.roll = none → s.up.revert = none →
    Completes .trialExpire s [.regs, .levels, .up, .sn] [.UP_STATUS] fun t =>
      (t.up.roll.map fun r => (r.revert, r.reason, r.kinds)) = some (true, 1, s.trialKinds) ∧
      t.fld Fld.UP_STATUS_STEP = 1 ∧ Records [0x4009] s t) ∧
  (∀ (h : SvcMsg) (w : Instant) (s : State),
    (s.sess h.sess.val).open_ = true → s.serving = true → s.svcRefusal h 0x11 2 3 (some 16) = none →
    s.upRefusal 3 = 0 → s.pair = true → s.progState 0 = 4 → s.up.hasMap = true →
    Completes (.updateRoll h 1 w) s [.regs, .levels, .out, .sn, .up, .pn] [.UP_STATUS] fun t =>
      t.up.roll = some { kinds := 1, at_ := w, since := s.mt.frc } ∧ t.fld Fld.UP_STATUS_STEP = 1 ∧
      Records [0x4009] s t ∧
      Answers [] h.sess.val (svcOut h.sess.val h.msgId 0x8011 0 (wireBytes [t.upStatus, t.reg .PK_STATUS])) s t) ∧
  (∀ (h : SvcMsg) (w : Instant) (s : State),
    (s.sess h.sess.val).open_ = true → s.serving = true → s.svcRefusal h 0x11 2 3 (some 16) = none →
    s.upRefusal 3 = 0 → s.pair = true → s.progState 0 = 4 → s.up.hasMap = false →
    Completes (.updateRoll h 1 w) s [.regs, .levels, .out, .sn, .pn] [.UP_STATUS] fun t =>
      t.up = s.up ∧ t.fld Fld.UP_STATUS_LAST_CODE = 0x010D ∧ Records [0x400D] s t) ∧
  (∀ (k : BitVec 8) (r : Roll) (s : State),
    s.role = 1 → s.up.roll = some r → s.fld Fld.UP_STATUS_STEP = 1 → s.rollCode r.revert = 0 →
    Completes (.rollPartnerActivate k) s [.regs, .sn] [.UP_STATUS] fun t =>
      t.fld Fld.UP_STATUS_STEP = 2 ∧ t.up = s.up ∧ Records [0x400A] s t) ∧
  (∀ (k : BitVec 8) (s : State),
    s.role = 2 → s.pair = true → s.keyOk = true → s.onTrial = false →
    allKinds k.toNat (fun j => s.progState j == 4) = true → s.powered = true → s.pw.inReset = none →
    Completes (.rollPartnerActivate k) s [.regs, .latchHi, .holdLo, .levels, .img, .boot, .key, .sn, .mt, .pw, .ln,
      .le, .la, .bn, .io, .gy, .sx, .pn, .cn, .mb, .lk, .ac, .up, .isl, .pi, .subc, .blk, .mem,
      .forces] [.SUP_START, .SUP_ISLAND, .RST_CAUSE, .RST_CTL, .RST_WDOG, .RST_POWER, .RST_EV_PEND, .RST_EV_ROUTE,
      .RST_EV_SUM, .AC_CTL, .AC_SLOT, .AC_FAULT, .AC_FAULT_ADDR_LO, .AC_FAULT_ADDR_HI, .AC_ECC, .AC_SCRUB,
      .PK_STATUS, .PK_SEQ, .PK_SERIAL_LO, .PK_SERIAL_HI, .UP_STATUS, .UP_PROGRESS, .UP_TRIAL, .SN_STATUS,
      .SN_NEWEST_LO, .SN_NEWEST_HI, .SN_OLDEST_LO, .SN_OLDEST_HI, .SN_LOST, .SN_SUPPRESSED, .SN_CURSOR_LO,
      .SN_CURSOR_HI, .SN_WSTAT, .MB_STAT, .MB_DOOR, .MB_ACK, .LK_PAIR, .LK_FAULT, .LK_COUNT, .LK_MISS_LO,
      .LK_MISS_HI, .LK_CMD, .LK_CMD_RESULT, .MT_FRC_LO, .MT_FRC_HI, .MT_PT_LO, .MT_PT_HI, .MT_BT_LO, .MT_BT_HI,
      .MT_TB_LO, .MT_TB_HI, .MT_LATCH_FRC_LO, .MT_LATCH_FRC_HI, .MT_LATCH_PT_LO, .MT_LATCH_PT_HI, .MT_LATCH_BT_LO,
      .MT_LATCH_BT_HI, .MT_LATCH_TB_LO, .MT_LATCH_TB_HI, .MT_STATE, .MT_CTL, .MT_OFFSET, .MT_ERR_EST, .MT_OUTLIERS,
      .MT_PT_SRC, .MT_TB_CFG, .LN_STATUS, .LN_OVERRUN, .LN_DISCARD, .LN_SUB, .LE_CTL, .LE_CMD, .LE_CMD_VAL,
      .LE_CMD_RESULT, .LE_OVERRUN, .LE_FAULT, .LE_LOAD, .LE_FDELAY, .LA_STATUS, .LA_SEL, .LA_LOOP, .LA_SLOT,
      .LA_SURGE, .LA_COUNT, .GY_STATUS, .GY_CH, .GY_COND_LO, .GY_COND_HI, .GY_SET, .GY_CAP, .GY_CMD, .GY_LOST,
      .BN_STATUS, .BN_LOOP, .BN_EPOCH, .BN_HEALTH, .BN_EQ, .BN_VERIFY, .BN_TAKEOVER, .BN_CMD, .BN_HO_AT_LO,
      .BN_HO_AT_HI, .BN_CMD_RESULT, .PN_PORT, .PN_DROP, .PN_PTP, .PN_SEL, .PN_SSTAT, .PN_SVC, .CN_CFG, .CN_CTL,
      .CN_STAT, .CN_ERR, .CN_PROT, .CN_TIMING, .CN_OBJCMD, .CN_OBJRES, .SX_PORT, .SX_LAP, .SX_ERR, .SX_CAR,
      .SX_EPOCH, .UC_CFG, .UC_STAT, .UC_DIAG, .UC_SLICE, .UC_HART, .DC_CFG, .DC_STAT, .DC_DIAG, .DC_GROUP] fun t =>
      t.pw.inReset = some 6 ∧ t.fld Fld.RST_CAUSE_CAUSE = 6 ∧ t.flag Fld.BN_STATUS_READY = false) ∧
  (∀ (r : Roll) (s : State),
    s.role = 1 → s.up.roll = some r → s.fld Fld.UP_STATUS_STEP = 2 → s.bn.ho = none → s.taking = false →
    s.partnerFit = true → s.rollCode r.revert = 0 → r.at_ = 0 →
    Completes .rollPartnerReady s [.regs, .levels, .bn, .sn] [.UP_STATUS, .BN_STATUS] fun t =>
      t.fld Fld.UP_STATUS_STEP = 4 ∧ (t.bn.ho.map fun x => x.h) = some s.nextHo ∧
      t.flag Fld.BN_STATUS_HO_PENDING = true ∧ Records [0x400A, 0x400A] s t) ∧
  (∀ (r : Roll) (s : State),
    s.up.roll = some r → s.role = 0 → s.fld Fld.UP_STATUS_STEP = 5 → s.keyOk = true → s.pw.contactOpen = true →
    s.flag Fld.RST_POWER_HOLDUP_OK = true → s.transition = false → s.onTrial = false → r.kinds ≠ 0 →
    s.powered = true → s.pw.inReset = none →
    Completes .rollFormerActivate s [.regs, .latchHi, .holdLo, .levels, .img, .boot, .key, .sn, .mt, .pw, .ln, .le,
      .la, .bn, .io, .gy, .sx, .pn, .cn, .mb, .lk, .ac, .up, .isl, .pi, .subc, .blk, .mem, .forces] [.SUP_START,
      .SUP_ISLAND, .RST_CAUSE, .RST_CTL, .RST_WDOG, .RST_POWER, .RST_EV_PEND, .RST_EV_ROUTE, .RST_EV_SUM, .AC_CTL,
      .AC_SLOT, .AC_FAULT, .AC_FAULT_ADDR_LO, .AC_FAULT_ADDR_HI, .AC_ECC, .AC_SCRUB, .PK_STATUS, .PK_SEQ,
      .PK_SERIAL_LO, .PK_SERIAL_HI, .UP_STATUS, .UP_PROGRESS, .UP_TRIAL, .SN_STATUS, .SN_NEWEST_LO, .SN_NEWEST_HI,
      .SN_OLDEST_LO, .SN_OLDEST_HI, .SN_LOST, .SN_SUPPRESSED, .SN_CURSOR_LO, .SN_CURSOR_HI, .SN_WSTAT, .MB_STAT,
      .MB_DOOR, .MB_ACK, .LK_PAIR, .LK_FAULT, .LK_COUNT, .LK_MISS_LO, .LK_MISS_HI, .LK_CMD, .LK_CMD_RESULT,
      .MT_FRC_LO, .MT_FRC_HI, .MT_PT_LO, .MT_PT_HI, .MT_BT_LO, .MT_BT_HI, .MT_TB_LO, .MT_TB_HI, .MT_LATCH_FRC_LO,
      .MT_LATCH_FRC_HI, .MT_LATCH_PT_LO, .MT_LATCH_PT_HI, .MT_LATCH_BT_LO, .MT_LATCH_BT_HI, .MT_LATCH_TB_LO,
      .MT_LATCH_TB_HI, .MT_STATE, .MT_CTL, .MT_OFFSET, .MT_ERR_EST, .MT_OUTLIERS, .MT_PT_SRC, .MT_TB_CFG,
      .LN_STATUS, .LN_OVERRUN, .LN_DISCARD, .LN_SUB, .LE_CTL, .LE_CMD, .LE_CMD_VAL, .LE_CMD_RESULT, .LE_OVERRUN,
      .LE_FAULT, .LE_LOAD, .LE_FDELAY, .LA_STATUS, .LA_SEL, .LA_LOOP, .LA_SLOT, .LA_SURGE, .LA_COUNT, .GY_STATUS,
      .GY_CH, .GY_COND_LO, .GY_COND_HI, .GY_SET, .GY_CAP, .GY_CMD, .GY_LOST, .BN_STATUS, .BN_LOOP, .BN_EPOCH,
      .BN_HEALTH, .BN_EQ, .BN_VERIFY, .BN_TAKEOVER, .BN_CMD, .BN_HO_AT_LO, .BN_HO_AT_HI, .BN_CMD_RESULT, .PN_PORT,
      .PN_DROP, .PN_PTP, .PN_SEL, .PN_SSTAT, .PN_SVC, .CN_CFG, .CN_CTL, .CN_STAT, .CN_ERR, .CN_PROT, .CN_TIMING,
      .CN_OBJCMD, .CN_OBJRES, .SX_PORT, .SX_LAP, .SX_ERR, .SX_CAR, .SX_EPOCH, .UC_CFG, .UC_STAT, .UC_DIAG,
      .UC_SLICE, .UC_HART, .DC_CFG, .DC_STAT, .DC_DIAG, .DC_GROUP] fun t =>
      t.pw.inReset = some 6 ∧ t.fld Fld.RST_CAUSE_CAUSE = 6 ∧ t.up = {}) ∧
  (∀ (r : Roll) (s : State),
    s.up.roll = some r → s.role = 1 → s.partnerStands = true → s.fld Fld.UP_STATUS_STEP = 5 →
    Completes .rollComplete s [.regs, .levels, .sn, .up] [.UP_STATUS] fun t =>
      t.up = { s.up with roll := none } ∧ t.fld Fld.UP_STATUS_STEP = 0 ∧ Records [0x400A, 0x400B] s t) ∧
  (∀ (r : Roll) (s : State),
    s.up.roll = some r → r.revert = false → s.img.rollWait < (s.mt.frc - r.since).toNat → s.bn.ho = none →
    Completes .rollWaitExpire s [.regs, .levels, .sn, .up] [.UP_STATUS] fun t =>
      t.up = { s.up with roll := none } ∧ t.fld Fld.UP_STATUS_STEP = 0 ∧ Records [0x400C] s t) ∧
  (∀ (r : Roll) (s : State),
    s.up.roll = some r → r.revert = true ∨ (s.mt.frc - r.since).toNat ≤ s.img.rollWait →
    exec .rollWaitExpire s = .next s) ∧
  (∀ (s : State),
    s.pair = true → s.onTrial = true → s.bn.hbLost = false → s.bn.hbSeen = true → s.bn.hbTag ≠ s.ownTag →
    s.keyOk = true → s.role = 1 → s.up.roll = none →
    Completes .revertRollStart s [.regs, .levels, .sn, .up] [.UP_STATUS] fun t =>
      (t.up.roll.map fun r => (r.revert, r.kinds)) = some (true, s.trialKinds) ∧ t.fld Fld.UP_STATUS_STEP = 1 ∧
      Records [0x4009] s t) ∧
  (∀ (s : State),
    s.pair = true → s.onTrial = true → s.bn.hbLost = false → s.bn.hbSeen = true → s.bn.hbTag ≠ s.ownTag →
    s.keyOk = true → s.role = 2 → s.fld Fld.UP_STATUS_STEP = 0 → bitAt (s.reg .BN_HEALTH 1) 1 = false →
    s.powered = true → s.pw.inReset = none →
    Completes .revertRollStart s [.regs, .latchHi, .holdLo, .levels, .img, .boot, .key, .sn, .mt, .pw, .ln, .le,
      .la, .bn, .io, .gy, .sx, .pn, .cn, .mb, .lk, .ac, .up, .isl, .pi, .subc, .blk, .mem, .forces] [.SUP_START,
      .SUP_ISLAND, .RST_CAUSE, .RST_CTL, .RST_WDOG, .RST_POWER, .RST_EV_PEND, .RST_EV_ROUTE, .RST_EV_SUM, .AC_CTL,
      .AC_SLOT, .AC_FAULT, .AC_FAULT_ADDR_LO, .AC_FAULT_ADDR_HI, .AC_ECC, .AC_SCRUB, .PK_STATUS, .PK_SEQ,
      .PK_SERIAL_LO, .PK_SERIAL_HI, .UP_STATUS, .UP_PROGRESS, .UP_TRIAL, .SN_STATUS, .SN_NEWEST_LO, .SN_NEWEST_HI,
      .SN_OLDEST_LO, .SN_OLDEST_HI, .SN_LOST, .SN_SUPPRESSED, .SN_CURSOR_LO, .SN_CURSOR_HI, .SN_WSTAT, .MB_STAT,
      .MB_DOOR, .MB_ACK, .LK_PAIR, .LK_FAULT, .LK_COUNT, .LK_MISS_LO, .LK_MISS_HI, .LK_CMD, .LK_CMD_RESULT,
      .MT_FRC_LO, .MT_FRC_HI, .MT_PT_LO, .MT_PT_HI, .MT_BT_LO, .MT_BT_HI, .MT_TB_LO, .MT_TB_HI, .MT_LATCH_FRC_LO,
      .MT_LATCH_FRC_HI, .MT_LATCH_PT_LO, .MT_LATCH_PT_HI, .MT_LATCH_BT_LO, .MT_LATCH_BT_HI, .MT_LATCH_TB_LO,
      .MT_LATCH_TB_HI, .MT_STATE, .MT_CTL, .MT_OFFSET, .MT_ERR_EST, .MT_OUTLIERS, .MT_PT_SRC, .MT_TB_CFG,
      .LN_STATUS, .LN_OVERRUN, .LN_DISCARD, .LN_SUB, .LE_CTL, .LE_CMD, .LE_CMD_VAL, .LE_CMD_RESULT, .LE_OVERRUN,
      .LE_FAULT, .LE_LOAD, .LE_FDELAY, .LA_STATUS, .LA_SEL, .LA_LOOP, .LA_SLOT, .LA_SURGE, .LA_COUNT, .GY_STATUS,
      .GY_CH, .GY_COND_LO, .GY_COND_HI, .GY_SET, .GY_CAP, .GY_CMD, .GY_LOST, .BN_STATUS, .BN_LOOP, .BN_EPOCH,
      .BN_HEALTH, .BN_EQ, .BN_VERIFY, .BN_TAKEOVER, .BN_CMD, .BN_HO_AT_LO, .BN_HO_AT_HI, .BN_CMD_RESULT, .PN_PORT,
      .PN_DROP, .PN_PTP, .PN_SEL, .PN_SSTAT, .PN_SVC, .CN_CFG, .CN_CTL, .CN_STAT, .CN_ERR, .CN_PROT, .CN_TIMING,
      .CN_OBJCMD, .CN_OBJRES, .SX_PORT, .SX_LAP, .SX_ERR, .SX_CAR, .SX_EPOCH, .UC_CFG, .UC_STAT, .UC_DIAG,
      .UC_SLICE, .UC_HART, .DC_CFG, .DC_STAT, .DC_DIAG, .DC_GROUP] fun t =>
      t.pw.inReset = some 6 ∧ t.fld Fld.RST_CAUSE_CAUSE = 6 ∧ t.flag Fld.BN_STATUS_READY = false)

/-- A powered reset of code 3 to 7 shows its code in RST_CAUSE, counts POWERED, asserts RESET_OUT, stops every
lockstep pair, keeps FRC and the fault registers of the lockstep and access-control units, and leaves no role, no
session, no mailbox state, no process image and no launch under way; within a reset's duration a further one only sets
MULTI. The duration ends 2 ms after the reset, of code 3 after its contact returned; the watchdog warns 2.5 ms and
resets 5 ms after the last kick; a lockstep-fatal reset follows the declared failure by 100 µs. The claim of a module
that held one drops where its partner was a standby, else Caldera holds it and CALDERA shows it. A kick of 0x5A39
alone restarts the watchdog. The end of a duration releases RESET_OUT and sets the pairs comparing. Where a clause
rests on a choice of the model, the choice is in log entries 36, 37. It says of each of these commands, under
hypotheses on the state and the operands alone, that exec answers a next state with its effect: resetContact,
resetContactRelease, watchdogReset, watchdogWarning, wdogKick, lockstepFatalReset, supervisorReset,
partnerResetReceived, resetDurationEnd. -/
def Obligations.PoweredResets : Prop :=
  (∀ (s : State),
    s.powered = true → s.pw.inReset = none →
    Completes .resetContact s [.regs, .latchHi, .holdLo, .levels, .img, .boot, .key, .sn, .mt, .pw, .ln, .le, .la,
      .bn, .io, .gy, .sx, .pn, .cn, .mb, .lk, .ac, .up, .isl, .pi, .subc, .blk, .mem, .forces] [.SUP_START,
      .SUP_ISLAND, .RST_CAUSE, .RST_CTL, .RST_WDOG, .RST_POWER, .RST_EV_PEND, .RST_EV_ROUTE, .RST_EV_SUM, .AC_CTL,
      .AC_SLOT, .AC_FAULT, .AC_FAULT_ADDR_LO, .AC_FAULT_ADDR_HI, .AC_ECC, .AC_SCRUB, .PK_STATUS, .PK_SEQ,
      .PK_SERIAL_LO, .PK_SERIAL_HI, .UP_STATUS, .UP_PROGRESS, .UP_TRIAL, .SN_STATUS, .SN_NEWEST_LO, .SN_NEWEST_HI,
      .SN_OLDEST_LO, .SN_OLDEST_HI, .SN_LOST, .SN_SUPPRESSED, .SN_CURSOR_LO, .SN_CURSOR_HI, .SN_WSTAT, .MB_STAT,
      .MB_DOOR, .MB_ACK, .LK_PAIR, .LK_FAULT, .LK_COUNT, .LK_MISS_LO, .LK_MISS_HI, .LK_CMD, .LK_CMD_RESULT,
      .MT_FRC_LO, .MT_FRC_HI, .MT_PT_LO, .MT_PT_HI, .MT_BT_LO, .MT_BT_HI, .MT_TB_LO, .MT_TB_HI, .MT_LATCH_FRC_LO,
      .MT_LATCH_FRC_HI, .MT_LATCH_PT_LO, .MT_LATCH_PT_HI, .MT_LATCH_BT_LO, .MT_LATCH_BT_HI, .MT_LATCH_TB_LO,
      .MT_LATCH_TB_HI, .MT_STATE, .MT_CTL, .MT_OFFSET, .MT_ERR_EST, .MT_OUTLIERS, .MT_PT_SRC, .MT_TB_CFG,
      .LN_STATUS, .LN_OVERRUN, .LN_DISCARD, .LN_SUB, .LE_CTL, .LE_CMD, .LE_CMD_VAL, .LE_CMD_RESULT, .LE_OVERRUN,
      .LE_FAULT, .LE_LOAD, .LE_FDELAY, .LA_STATUS, .LA_SEL, .LA_LOOP, .LA_SLOT, .LA_SURGE, .LA_COUNT, .GY_STATUS,
      .GY_CH, .GY_COND_LO, .GY_COND_HI, .GY_SET, .GY_CAP, .GY_CMD, .GY_LOST, .BN_STATUS, .BN_LOOP, .BN_EPOCH,
      .BN_HEALTH, .BN_EQ, .BN_VERIFY, .BN_TAKEOVER, .BN_CMD, .BN_HO_AT_LO, .BN_HO_AT_HI, .BN_CMD_RESULT, .PN_PORT,
      .PN_DROP, .PN_PTP, .PN_SEL, .PN_SSTAT, .PN_SVC, .CN_CFG, .CN_CTL, .CN_STAT, .CN_ERR, .CN_PROT, .CN_TIMING,
      .CN_OBJCMD, .CN_OBJRES, .SX_PORT, .SX_LAP, .SX_ERR, .SX_CAR, .SX_EPOCH, .UC_CFG, .UC_STAT, .UC_DIAG,
      .UC_SLICE, .UC_HART, .DC_CFG, .DC_STAT, .DC_DIAG, .DC_GROUP] fun t =>
      t.pw.inReset = some 3 ∧ t.pw.resetOut = true ∧ t.pw.resetIn = true ∧ t.fld Fld.RST_CAUSE_CAUSE = 3 ∧
      t.flag Fld.RST_CAUSE_MULTI = false ∧
      t.fld Fld.RST_CAUSE_POWERED = satAdd 255 (s.fld Fld.RST_CAUSE_POWERED) 1 ∧ t.mt.frc = s.mt.frc ∧ t.role = 0 ∧
      t.pn.sess = [] ∧ t.mb = {} ∧ t.ln = {} ∧ t.pi = [] ∧ t.up = {} ∧ t.flag Fld.LN_STATUS_FAST_RUN = false) ∧
  (∀ (i : Nat) (s : State),
    s.powered = true → s.pw.inReset = none →
    Completes .resetContact s [.regs, .latchHi, .holdLo, .levels, .img, .boot, .key, .sn, .mt, .pw, .ln, .le, .la,
      .bn, .io, .gy, .sx, .pn, .cn, .mb, .lk, .ac, .up, .isl, .pi, .subc, .blk, .mem, .forces] [.SUP_START,
      .SUP_ISLAND, .RST_CAUSE, .RST_CTL, .RST_WDOG, .RST_POWER, .RST_EV_PEND, .RST_EV_ROUTE, .RST_EV_SUM, .AC_CTL,
      .AC_SLOT, .AC_FAULT, .AC_FAULT_ADDR_LO, .AC_FAULT_ADDR_HI, .AC_ECC, .AC_SCRUB, .PK_STATUS, .PK_SEQ,
      .PK_SERIAL_LO, .PK_SERIAL_HI, .UP_STATUS, .UP_PROGRESS, .UP_TRIAL, .SN_STATUS, .SN_NEWEST_LO, .SN_NEWEST_HI,
      .SN_OLDEST_LO, .SN_OLDEST_HI, .SN_LOST, .SN_SUPPRESSED, .SN_CURSOR_LO, .SN_CURSOR_HI, .SN_WSTAT, .MB_STAT,
      .MB_DOOR, .MB_ACK, .LK_PAIR, .LK_FAULT, .LK_COUNT, .LK_MISS_LO, .LK_MISS_HI, .LK_CMD, .LK_CMD_RESULT,
      .MT_FRC_LO, .MT_FRC_HI, .MT_PT_LO, .MT_PT_HI, .MT_BT_LO, .MT_BT_HI, .MT_TB_LO, .MT_TB_HI, .MT_LATCH_FRC_LO,
      .MT_LATCH_FRC_HI, .MT_LATCH_PT_LO, .MT_LATCH_PT_HI, .MT_LATCH_BT_LO, .MT_LATCH_BT_HI, .MT_LATCH_TB_LO,
      .MT_LATCH_TB_HI, .MT_STATE, .MT_CTL, .MT_OFFSET, .MT_ERR_EST, .MT_OUTLIERS, .MT_PT_SRC, .MT_TB_CFG,
      .LN_STATUS, .LN_OVERRUN, .LN_DISCARD, .LN_SUB, .LE_CTL, .LE_CMD, .LE_CMD_VAL, .LE_CMD_RESULT, .LE_OVERRUN,
      .LE_FAULT, .LE_LOAD, .LE_FDELAY, .LA_STATUS, .LA_SEL, .LA_LOOP, .LA_SLOT, .LA_SURGE, .LA_COUNT, .GY_STATUS,
      .GY_CH, .GY_COND_LO, .GY_COND_HI, .GY_SET, .GY_CAP, .GY_CMD, .GY_LOST, .BN_STATUS, .BN_LOOP, .BN_EPOCH,
      .BN_HEALTH, .BN_EQ, .BN_VERIFY, .BN_TAKEOVER, .BN_CMD, .BN_HO_AT_LO, .BN_HO_AT_HI, .BN_CMD_RESULT, .PN_PORT,
      .PN_DROP, .PN_PTP, .PN_SEL, .PN_SSTAT, .PN_SVC, .CN_CFG, .CN_CTL, .CN_STAT, .CN_ERR, .CN_PROT, .CN_TIMING,
      .CN_OBJCMD, .CN_OBJRES, .SX_PORT, .SX_LAP, .SX_ERR, .SX_CAR, .SX_EPOCH, .UC_CFG, .UC_STAT, .UC_DIAG,
      .UC_SLICE, .UC_HART, .DC_CFG, .DC_STAT, .DC_DIAG, .DC_GROUP] fun t =>
      (i < 5 → t.lkMode i = 0) ∧ t.reg .LK_FAULT i = s.reg .LK_FAULT i ∧ t.reg .AC_FAULT i = s.reg .AC_FAULT i ∧
      t.reg .AC_FAULT_ADDR_LO i = s.reg .AC_FAULT_ADDR_LO i ∧ t.reg .AC_FAULT_ADDR_HI i = s.reg .AC_FAULT_ADDR_HI i) ∧
  (∀ (c : Nat) (s : State),
    s.powered = true → s.pw.inReset = some c →
    Completes .resetContact s [.regs, .pw] [.RST_CAUSE] fun t =>
      t.pw.inReset = some c ∧ t.flag Fld.RST_CAUSE_MULTI = true ∧
      t.fld Fld.RST_CAUSE_CAUSE = s.fld Fld.RST_CAUSE_CAUSE ∧ t.pw.resetIn = true) ∧
  (∀ (s : State),
    s.powered = false →
    exec .resetContact s = .next s) ∧
  (∀ (s : State),
    Completes .resetContactRelease s [.pw] [] fun t =>
      t.pw = { s.pw with resetIn := false, rstFrc := if s.pw.resetIn then s.mt.frc else s.pw.rstFrc }) ∧
  (∀ (s : State),
    s.powered = true → s.pw.inReset = none → s.bn.claimOut = true → s.partnerStandby = false →
    Completes .resetContact s [.regs, .latchHi, .holdLo, .levels, .img, .boot, .key, .sn, .mt, .pw, .ln, .le, .la,
      .bn, .io, .gy, .sx, .pn, .cn, .mb, .lk, .ac, .up, .isl, .pi, .subc, .blk, .mem, .forces] [.SUP_START,
      .SUP_ISLAND, .RST_CAUSE, .RST_CTL, .RST_WDOG, .RST_POWER, .RST_EV_PEND, .RST_EV_ROUTE, .RST_EV_SUM, .AC_CTL,
      .AC_SLOT, .AC_FAULT, .AC_FAULT_ADDR_LO, .AC_FAULT_ADDR_HI, .AC_ECC, .AC_SCRUB, .PK_STATUS, .PK_SEQ,
      .PK_SERIAL_LO, .PK_SERIAL_HI, .UP_STATUS, .UP_PROGRESS, .UP_TRIAL, .SN_STATUS, .SN_NEWEST_LO, .SN_NEWEST_HI,
      .SN_OLDEST_LO, .SN_OLDEST_HI, .SN_LOST, .SN_SUPPRESSED, .SN_CURSOR_LO, .SN_CURSOR_HI, .SN_WSTAT, .MB_STAT,
      .MB_DOOR, .MB_ACK, .LK_PAIR, .LK_FAULT, .LK_COUNT, .LK_MISS_LO, .LK_MISS_HI, .LK_CMD, .LK_CMD_RESULT,
      .MT_FRC_LO, .MT_FRC_HI, .MT_PT_LO, .MT_PT_HI, .MT_BT_LO, .MT_BT_HI, .MT_TB_LO, .MT_TB_HI, .MT_LATCH_FRC_LO,
      .MT_LATCH_FRC_HI, .MT_LATCH_PT_LO, .MT_LATCH_PT_HI, .MT_LATCH_BT_LO, .MT_LATCH_BT_HI, .MT_LATCH_TB_LO,
      .MT_LATCH_TB_HI, .MT_STATE, .MT_CTL, .MT_OFFSET, .MT_ERR_EST, .MT_OUTLIERS, .MT_PT_SRC, .MT_TB_CFG,
      .LN_STATUS, .LN_OVERRUN, .LN_DISCARD, .LN_SUB, .LE_CTL, .LE_CMD, .LE_CMD_VAL, .LE_CMD_RESULT, .LE_OVERRUN,
      .LE_FAULT, .LE_LOAD, .LE_FDELAY, .LA_STATUS, .LA_SEL, .LA_LOOP, .LA_SLOT, .LA_SURGE, .LA_COUNT, .GY_STATUS,
      .GY_CH, .GY_COND_LO, .GY_COND_HI, .GY_SET, .GY_CAP, .GY_CMD, .GY_LOST, .BN_STATUS, .BN_LOOP, .BN_EPOCH,
      .BN_HEALTH, .BN_EQ, .BN_VERIFY, .BN_TAKEOVER, .BN_CMD, .BN_HO_AT_LO, .BN_HO_AT_HI, .BN_CMD_RESULT, .PN_PORT,
      .PN_DROP, .PN_PTP, .PN_SEL, .PN_SSTAT, .PN_SVC, .CN_CFG, .CN_CTL, .CN_STAT, .CN_ERR, .CN_PROT, .CN_TIMING,
      .CN_OBJCMD, .CN_OBJRES, .SX_PORT, .SX_LAP, .SX_ERR, .SX_CAR, .SX_EPOCH, .UC_CFG, .UC_STAT, .UC_DIAG,
      .UC_SLICE, .UC_HART, .DC_CFG, .DC_STAT, .DC_DIAG, .DC_GROUP] fun t =>
      t.pw.calderaClaim = true ∧ t.bn.claimOut = true ∧ t.flag Fld.RST_CAUSE_CALDERA = true ∧
      t.flag Fld.BN_LOOP_CLAIM_RET = true ∧ t.role = 0) ∧
  (∀ (s : State),
    s.powered = true → s.pw.inReset = none → s.bn.claimOut = true → s.partnerStandby = true →
    Completes .resetContact s [.regs, .latchHi, .holdLo, .levels, .img, .boot, .key, .sn, .mt, .pw, .ln, .le, .la,
      .bn, .io, .gy, .sx, .pn, .cn, .mb, .lk, .ac, .up, .isl, .pi, .subc, .blk, .mem, .forces] [.SUP_START,
      .SUP_ISLAND, .RST_CAUSE, .RST_CTL, .RST_WDOG, .RST_POWER, .RST_EV_PEND, .RST_EV_ROUTE, .RST_EV_SUM, .AC_CTL,
      .AC_SLOT, .AC_FAULT, .AC_FAULT_ADDR_LO, .AC_FAULT_ADDR_HI, .AC_ECC, .AC_SCRUB, .PK_STATUS, .PK_SEQ,
      .PK_SERIAL_LO, .PK_SERIAL_HI, .UP_STATUS, .UP_PROGRESS, .UP_TRIAL, .SN_STATUS, .SN_NEWEST_LO, .SN_NEWEST_HI,
      .SN_OLDEST_LO, .SN_OLDEST_HI, .SN_LOST, .SN_SUPPRESSED, .SN_CURSOR_LO, .SN_CURSOR_HI, .SN_WSTAT, .MB_STAT,
      .MB_DOOR, .MB_ACK, .LK_PAIR, .LK_FAULT, .LK_COUNT, .LK_MISS_LO, .LK_MISS_HI, .LK_CMD, .LK_CMD_RESULT,
      .MT_FRC_LO, .MT_FRC_HI, .MT_PT_LO, .MT_PT_HI, .MT_BT_LO, .MT_BT_HI, .MT_TB_LO, .MT_TB_HI, .MT_LATCH_FRC_LO,
      .MT_LATCH_FRC_HI, .MT_LATCH_PT_LO, .MT_LATCH_PT_HI, .MT_LATCH_BT_LO, .MT_LATCH_BT_HI, .MT_LATCH_TB_LO,
      .MT_LATCH_TB_HI, .MT_STATE, .MT_CTL, .MT_OFFSET, .MT_ERR_EST, .MT_OUTLIERS, .MT_PT_SRC, .MT_TB_CFG,
      .LN_STATUS, .LN_OVERRUN, .LN_DISCARD, .LN_SUB, .LE_CTL, .LE_CMD, .LE_CMD_VAL, .LE_CMD_RESULT, .LE_OVERRUN,
      .LE_FAULT, .LE_LOAD, .LE_FDELAY, .LA_STATUS, .LA_SEL, .LA_LOOP, .LA_SLOT, .LA_SURGE, .LA_COUNT, .GY_STATUS,
      .GY_CH, .GY_COND_LO, .GY_COND_HI, .GY_SET, .GY_CAP, .GY_CMD, .GY_LOST, .BN_STATUS, .BN_LOOP, .BN_EPOCH,
      .BN_HEALTH, .BN_EQ, .BN_VERIFY, .BN_TAKEOVER, .BN_CMD, .BN_HO_AT_LO, .BN_HO_AT_HI, .BN_CMD_RESULT, .PN_PORT,
      .PN_DROP, .PN_PTP, .PN_SEL, .PN_SSTAT, .PN_SVC, .CN_CFG, .CN_CTL, .CN_STAT, .CN_ERR, .CN_PROT, .CN_TIMING,
      .CN_OBJCMD, .CN_OBJRES, .SX_PORT, .SX_LAP, .SX_ERR, .SX_CAR, .SX_EPOCH, .UC_CFG, .UC_STAT, .UC_DIAG,
      .UC_SLICE, .UC_HART, .DC_CFG, .DC_STAT, .DC_DIAG, .DC_GROUP] fun t =>
      t.pw.calderaClaim = false ∧ t.bn.claimOut = false ∧ t.flag Fld.BN_LOOP_CLAIM_RET = false) ∧
  (∀ (s : State),
    s.unkicked 5000000 = true → s.powered = true → s.pw.inReset = none →
    Completes .watchdogReset s [.regs, .latchHi, .holdLo, .levels, .img, .boot, .key, .sn, .mt, .pw, .ln, .le, .la,
      .bn, .io, .gy, .sx, .pn, .cn, .mb, .lk, .ac, .up, .isl, .pi, .subc, .blk, .mem, .forces] [.SUP_START,
      .SUP_ISLAND, .RST_CAUSE, .RST_CTL, .RST_WDOG, .RST_POWER, .RST_EV_PEND, .RST_EV_ROUTE, .RST_EV_SUM, .AC_CTL,
      .AC_SLOT, .AC_FAULT, .AC_FAULT_ADDR_LO, .AC_FAULT_ADDR_HI, .AC_ECC, .AC_SCRUB, .PK_STATUS, .PK_SEQ,
      .PK_SERIAL_LO, .PK_SERIAL_HI, .UP_STATUS, .UP_PROGRESS, .UP_TRIAL, .SN_STATUS, .SN_NEWEST_LO, .SN_NEWEST_HI,
      .SN_OLDEST_LO, .SN_OLDEST_HI, .SN_LOST, .SN_SUPPRESSED, .SN_CURSOR_LO, .SN_CURSOR_HI, .SN_WSTAT, .MB_STAT,
      .MB_DOOR, .MB_ACK, .LK_PAIR, .LK_FAULT, .LK_COUNT, .LK_MISS_LO, .LK_MISS_HI, .LK_CMD, .LK_CMD_RESULT,
      .MT_FRC_LO, .MT_FRC_HI, .MT_PT_LO, .MT_PT_HI, .MT_BT_LO, .MT_BT_HI, .MT_TB_LO, .MT_TB_HI, .MT_LATCH_FRC_LO,
      .MT_LATCH_FRC_HI, .MT_LATCH_PT_LO, .MT_LATCH_PT_HI, .MT_LATCH_BT_LO, .MT_LATCH_BT_HI, .MT_LATCH_TB_LO,
      .MT_LATCH_TB_HI, .MT_STATE, .MT_CTL, .MT_OFFSET, .MT_ERR_EST, .MT_OUTLIERS, .MT_PT_SRC, .MT_TB_CFG,
      .LN_STATUS, .LN_OVERRUN, .LN_DISCARD, .LN_SUB, .LE_CTL, .LE_CMD, .LE_CMD_VAL, .LE_CMD_RESULT, .LE_OVERRUN,
      .LE_FAULT, .LE_LOAD, .LE_FDELAY, .LA_STATUS, .LA_SEL, .LA_LOOP, .LA_SLOT, .LA_SURGE, .LA_COUNT, .GY_STATUS,
      .GY_CH, .GY_COND_LO, .GY_COND_HI, .GY_SET, .GY_CAP, .GY_CMD, .GY_LOST, .BN_STATUS, .BN_LOOP, .BN_EPOCH,
      .BN_HEALTH, .BN_EQ, .BN_VERIFY, .BN_TAKEOVER, .BN_CMD, .BN_HO_AT_LO, .BN_HO_AT_HI, .BN_CMD_RESULT, .PN_PORT,
      .PN_DROP, .PN_PTP, .PN_SEL, .PN_SSTAT, .PN_SVC, .CN_CFG, .CN_CTL, .CN_STAT, .CN_ERR, .CN_PROT, .CN_TIMING,
      .CN_OBJCMD, .CN_OBJRES, .SX_PORT, .SX_LAP, .SX_ERR, .SX_CAR, .SX_EPOCH, .UC_CFG, .UC_STAT, .UC_DIAG,
      .UC_SLICE, .UC_HART, .DC_CFG, .DC_STAT, .DC_DIAG, .DC_GROUP] fun t =>
      t.pw.inReset = some 4 ∧ t.fld Fld.RST_CAUSE_CAUSE = 4 ∧ t.mt.frc = s.mt.frc ∧ t.role = 0 ∧
      t.pw.wdogRun = false) ∧
  (∀ (s : State),
    s.unkicked 2500000 = true →
    Completes .watchdogWarning s [.levels] [] fun t =>
      Raised 7 t) ∧
  (∀ (s : State),
    (s.unkicked 2500000 = false → exec .watchdogWarning s = .next s) ∧
    (s.unkicked 5000000 = false → exec .watchdogReset s = .next s)) ∧
  (∀ (s : State),
    s.pw.wdogRun = true →
    Completes (.wdogKick 0x5A39) s [.pw] [] fun t =>
      t.pw = { s.pw with kickFrc := s.mt.frc }) ∧
  (∀ (v : BitVec 16) (s : State),
    v ≠ 0x5A39 →
    exec (.wdogKick v) s = .next s) ∧
  (∀ (i : Fin 5) (s : State),
    s.bn.failed = true → s.lkMode i.val = 8 → 100000 ≤ (s.mt.frc - s.bn.failAt).toNat → s.powered = true →
    s.pw.inReset = none →
    Completes .lockstepFatalReset s [.regs, .latchHi, .holdLo, .levels, .img, .boot, .key, .sn, .mt, .pw, .ln, .le,
      .la, .bn, .io, .gy, .sx, .pn, .cn, .mb, .lk, .ac, .up, .isl, .pi, .subc, .blk, .mem, .forces] [.SUP_START,
      .SUP_ISLAND, .RST_CAUSE, .RST_CTL, .RST_WDOG, .RST_POWER, .RST_EV_PEND, .RST_EV_ROUTE, .RST_EV_SUM, .AC_CTL,
      .AC_SLOT, .AC_FAULT, .AC_FAULT_ADDR_LO, .AC_FAULT_ADDR_HI, .AC_ECC, .AC_SCRUB, .PK_STATUS, .PK_SEQ,
      .PK_SERIAL_LO, .PK_SERIAL_HI, .UP_STATUS, .UP_PROGRESS, .UP_TRIAL, .SN_STATUS, .SN_NEWEST_LO, .SN_NEWEST_HI,
      .SN_OLDEST_LO, .SN_OLDEST_HI, .SN_LOST, .SN_SUPPRESSED, .SN_CURSOR_LO, .SN_CURSOR_HI, .SN_WSTAT, .MB_STAT,
      .MB_DOOR, .MB_ACK, .LK_PAIR, .LK_FAULT, .LK_COUNT, .LK_MISS_LO, .LK_MISS_HI, .LK_CMD, .LK_CMD_RESULT,
      .MT_FRC_LO, .MT_FRC_HI, .MT_PT_LO, .MT_PT_HI, .MT_BT_LO, .MT_BT_HI, .MT_TB_LO, .MT_TB_HI, .MT_LATCH_FRC_LO,
      .MT_LATCH_FRC_HI, .MT_LATCH_PT_LO, .MT_LATCH_PT_HI, .MT_LATCH_BT_LO, .MT_LATCH_BT_HI, .MT_LATCH_TB_LO,
      .MT_LATCH_TB_HI, .MT_STATE, .MT_CTL, .MT_OFFSET, .MT_ERR_EST, .MT_OUTLIERS, .MT_PT_SRC, .MT_TB_CFG,
      .LN_STATUS, .LN_OVERRUN, .LN_DISCARD, .LN_SUB, .LE_CTL, .LE_CMD, .LE_CMD_VAL, .LE_CMD_RESULT, .LE_OVERRUN,
      .LE_FAULT, .LE_LOAD, .LE_FDELAY, .LA_STATUS, .LA_SEL, .LA_LOOP, .LA_SLOT, .LA_SURGE, .LA_COUNT, .GY_STATUS,
      .GY_CH, .GY_COND_LO, .GY_COND_HI, .GY_SET, .GY_CAP, .GY_CMD, .GY_LOST, .BN_STATUS, .BN_LOOP, .BN_EPOCH,
      .BN_HEALTH, .BN_EQ, .BN_VERIFY, .BN_TAKEOVER, .BN_CMD, .BN_HO_AT_LO, .BN_HO_AT_HI, .BN_CMD_RESULT, .PN_PORT,
      .PN_DROP, .PN_PTP, .PN_SEL, .PN_SSTAT, .PN_SVC, .CN_CFG, .CN_CTL, .CN_STAT, .CN_ERR, .CN_PROT, .CN_TIMING,
      .CN_OBJCMD, .CN_OBJRES, .SX_PORT, .SX_LAP, .SX_ERR, .SX_CAR, .SX_EPOCH, .UC_CFG, .UC_STAT, .UC_DIAG,
      .UC_SLICE, .UC_HART, .DC_CFG, .DC_STAT, .DC_DIAG, .DC_GROUP] fun t =>
      t.pw.inReset = some 5 ∧ t.fld Fld.RST_CAUSE_CAUSE = 5 ∧ t.bn.failed = false ∧ t.role = 0) ∧
  (∀ (s : State),
    s.bn.failed = false ∨ (s.mt.frc - s.bn.failAt).toNat < 100000 →
    exec .lockstepFatalReset s = .next s) ∧
  (∀ (s : State),
    s.boot.fwRunning = true → s.powered = true → s.pw.inReset = none →
    Completes .supervisorReset s [.regs, .latchHi, .holdLo, .levels, .img, .boot, .key, .sn, .mt, .pw, .ln, .le,
      .la, .bn, .io, .gy, .sx, .pn, .cn, .mb, .lk, .ac, .up, .isl, .pi, .subc, .blk, .mem, .forces] [.SUP_START,
      .SUP_ISLAND, .RST_CAUSE, .RST_CTL, .RST_WDOG, .RST_POWER, .RST_EV_PEND, .RST_EV_ROUTE, .RST_EV_SUM, .AC_CTL,
      .AC_SLOT, .AC_FAULT, .AC_FAULT_ADDR_LO, .AC_FAULT_ADDR_HI, .AC_ECC, .AC_SCRUB, .PK_STATUS, .PK_SEQ,
      .PK_SERIAL_LO, .PK_SERIAL_HI, .UP_STATUS, .UP_PROGRESS, .UP_TRIAL, .SN_STATUS, .SN_NEWEST_LO, .SN_NEWEST_HI,
      .SN_OLDEST_LO, .SN_OLDEST_HI, .SN_LOST, .SN_SUPPRESSED, .SN_CURSOR_LO, .SN_CURSOR_HI, .SN_WSTAT, .MB_STAT,
      .MB_DOOR, .MB_ACK, .LK_PAIR, .LK_FAULT, .LK_COUNT, .LK_MISS_LO, .LK_MISS_HI, .LK_CMD, .LK_CMD_RESULT,
      .MT_FRC_LO, .MT_FRC_HI, .MT_PT_LO, .MT_PT_HI, .MT_BT_LO, .MT_BT_HI, .MT_TB_LO, .MT_TB_HI, .MT_LATCH_FRC_LO,
      .MT_LATCH_FRC_HI, .MT_LATCH_PT_LO, .MT_LATCH_PT_HI, .MT_LATCH_BT_LO, .MT_LATCH_BT_HI, .MT_LATCH_TB_LO,
      .MT_LATCH_TB_HI, .MT_STATE, .MT_CTL, .MT_OFFSET, .MT_ERR_EST, .MT_OUTLIERS, .MT_PT_SRC, .MT_TB_CFG,
      .LN_STATUS, .LN_OVERRUN, .LN_DISCARD, .LN_SUB, .LE_CTL, .LE_CMD, .LE_CMD_VAL, .LE_CMD_RESULT, .LE_OVERRUN,
      .LE_FAULT, .LE_LOAD, .LE_FDELAY, .LA_STATUS, .LA_SEL, .LA_LOOP, .LA_SLOT, .LA_SURGE, .LA_COUNT, .GY_STATUS,
      .GY_CH, .GY_COND_LO, .GY_COND_HI, .GY_SET, .GY_CAP, .GY_CMD, .GY_LOST, .BN_STATUS, .BN_LOOP, .BN_EPOCH,
      .BN_HEALTH, .BN_EQ, .BN_VERIFY, .BN_TAKEOVER, .BN_CMD, .BN_HO_AT_LO, .BN_HO_AT_HI, .BN_CMD_RESULT, .PN_PORT,
      .PN_DROP, .PN_PTP, .PN_SEL, .PN_SSTAT, .PN_SVC, .CN_CFG, .CN_CTL, .CN_STAT, .CN_ERR, .CN_PROT, .CN_TIMING,
      .CN_OBJCMD, .CN_OBJRES, .SX_PORT, .SX_LAP, .SX_ERR, .SX_CAR, .SX_EPOCH, .UC_CFG, .UC_STAT, .UC_DIAG,
      .UC_SLICE, .UC_HART, .DC_CFG, .DC_STAT, .DC_DIAG, .DC_GROUP] fun t =>
      t.pw.inReset = some 6 ∧ t.fld Fld.RST_CAUSE_CAUSE = 6 ∧ t.flag Fld.RST_POWER_DORMANT = false ∧
      t.boot.fwRunning = false) ∧
  (∀ (s : State),
    s.role = 5 → s.powered = true → s.pw.inReset = none →
    Completes .partnerResetReceived s [.regs, .latchHi, .holdLo, .levels, .img, .boot, .key, .sn, .mt, .pw, .ln,
      .le, .la, .bn, .io, .gy, .sx, .pn, .cn, .mb, .lk, .ac, .up, .isl, .pi, .subc, .blk, .mem,
      .forces] [.SUP_START, .SUP_ISLAND, .RST_CAUSE, .RST_CTL, .RST_WDOG, .RST_POWER, .RST_EV_PEND, .RST_EV_ROUTE,
      .RST_EV_SUM, .AC_CTL, .AC_SLOT, .AC_FAULT, .AC_FAULT_ADDR_LO, .AC_FAULT_ADDR_HI, .AC_ECC, .AC_SCRUB,
      .PK_STATUS, .PK_SEQ, .PK_SERIAL_LO, .PK_SERIAL_HI, .UP_STATUS, .UP_PROGRESS, .UP_TRIAL, .SN_STATUS,
      .SN_NEWEST_LO, .SN_NEWEST_HI, .SN_OLDEST_LO, .SN_OLDEST_HI, .SN_LOST, .SN_SUPPRESSED, .SN_CURSOR_LO,
      .SN_CURSOR_HI, .SN_WSTAT, .MB_STAT, .MB_DOOR, .MB_ACK, .LK_PAIR, .LK_FAULT, .LK_COUNT, .LK_MISS_LO,
      .LK_MISS_HI, .LK_CMD, .LK_CMD_RESULT, .MT_FRC_LO, .MT_FRC_HI, .MT_PT_LO, .MT_PT_HI, .MT_BT_LO, .MT_BT_HI,
      .MT_TB_LO, .MT_TB_HI, .MT_LATCH_FRC_LO, .MT_LATCH_FRC_HI, .MT_LATCH_PT_LO, .MT_LATCH_PT_HI, .MT_LATCH_BT_LO,
      .MT_LATCH_BT_HI, .MT_LATCH_TB_LO, .MT_LATCH_TB_HI, .MT_STATE, .MT_CTL, .MT_OFFSET, .MT_ERR_EST, .MT_OUTLIERS,
      .MT_PT_SRC, .MT_TB_CFG, .LN_STATUS, .LN_OVERRUN, .LN_DISCARD, .LN_SUB, .LE_CTL, .LE_CMD, .LE_CMD_VAL,
      .LE_CMD_RESULT, .LE_OVERRUN, .LE_FAULT, .LE_LOAD, .LE_FDELAY, .LA_STATUS, .LA_SEL, .LA_LOOP, .LA_SLOT,
      .LA_SURGE, .LA_COUNT, .GY_STATUS, .GY_CH, .GY_COND_LO, .GY_COND_HI, .GY_SET, .GY_CAP, .GY_CMD, .GY_LOST,
      .BN_STATUS, .BN_LOOP, .BN_EPOCH, .BN_HEALTH, .BN_EQ, .BN_VERIFY, .BN_TAKEOVER, .BN_CMD, .BN_HO_AT_LO,
      .BN_HO_AT_HI, .BN_CMD_RESULT, .PN_PORT, .PN_DROP, .PN_PTP, .PN_SEL, .PN_SSTAT, .PN_SVC, .CN_CFG, .CN_CTL,
      .CN_STAT, .CN_ERR, .CN_PROT, .CN_TIMING, .CN_OBJCMD, .CN_OBJRES, .SX_PORT, .SX_LAP, .SX_ERR, .SX_CAR,
      .SX_EPOCH, .UC_CFG, .UC_STAT, .UC_DIAG, .UC_SLICE, .UC_HART, .DC_CFG, .DC_STAT, .DC_DIAG, .DC_GROUP] fun t =>
      t.pw.inReset = some 7 ∧ t.fld Fld.RST_CAUSE_CAUSE = 7 ∧ t.role = 0) ∧
  (∀ (s : State),
    s.role ≠ 5 →
    exec .partnerResetReceived s = .next s) ∧
  (∀ (c : Nat) (s : State),
    s.pw.inReset = some c → 3 ≤ c → c ≤ 7 → s.pw.resetIn = false → 2000000 ≤ (s.mt.frc - s.pw.rstFrc).toNat →
    Completes .resetDurationEnd s [.regs, .pw] [.LK_PAIR] fun t =>
      t.pw = { s.pw with inReset := none, resetOut := false, pgFrc := s.mt.frc - 20000000#64 } ∧
      ∀ i, i < 5 → t.lkMode i = 1 ∧ t.fld Fld.LK_PAIR_WRITES_LEFT i = 4096) ∧
  (∀ (s : State),
    s.pw.inReset = none ∨ s.pw.resetIn = true ∨ (s.mt.frc - s.pw.rstFrc).toNat < 2000000 →
    exec .resetDurationEnd s = .next s)

/-- The unpowered resets, codes 1, 2 and 8, show their code, restart FRC and keep the key; the brown-out latch is set
by an internal rail that falls and loses its state without power. The insertion reset ends 50 ms after INSERTED
closed. At the end of a hold each universal output takes its safe state: de-energized, held, or at its declared value.
Dormant, where it may be ordered, stops launching, sets its bit, and leaves record 0xF00D and source 10. Where a
clause rests on a choice of the model, the choice is in log entries 36, 37. It says of each of these commands, under
hypotheses on the state and the operands alone, that exec answers a next state with its effect: powerOnReset,
brownOutReset, brownOutLatchExpire, insertionResetEnd, calderaHoldExpire, enterDormant. -/
def Obligations.UnpoweredResetsAndHolds : Prop :=
  (∀ (s : State),
    s.powered = false → s.pw.boLatch = false → s.pw.inserted = true →
    Completes (.powerOnReset .a) s [.regs, .latchHi, .holdLo, .levels, .img, .boot, .sn, .mt, .pw, .ln, .le, .la,
      .bn, .io, .gy, .sx, .pn, .cn, .mb, .lk, .ac, .up, .isl, .pi, .subc, .blk, .mem, .forces] [.SUP_START,
      .SUP_ISLAND, .RST_CAUSE, .RST_CTL, .RST_WDOG, .RST_POWER, .RST_EV_PEND, .RST_EV_ROUTE, .RST_EV_SUM, .AC_CTL,
      .AC_SLOT, .AC_FAULT, .AC_FAULT_ADDR_LO, .AC_FAULT_ADDR_HI, .AC_ECC, .AC_SCRUB, .PK_STATUS, .PK_SEQ,
      .PK_SERIAL_LO, .PK_SERIAL_HI, .UP_STATUS, .UP_PROGRESS, .UP_TRIAL, .SN_STATUS, .SN_NEWEST_LO, .SN_NEWEST_HI,
      .SN_OLDEST_LO, .SN_OLDEST_HI, .SN_LOST, .SN_SUPPRESSED, .SN_CURSOR_LO, .SN_CURSOR_HI, .SN_WSTAT, .MB_STAT,
      .MB_DOOR, .MB_ACK, .LK_PAIR, .LK_FAULT, .LK_COUNT, .LK_MISS_LO, .LK_MISS_HI, .LK_CMD, .LK_CMD_RESULT,
      .MT_FRC_LO, .MT_FRC_HI, .MT_PT_LO, .MT_PT_HI, .MT_BT_LO, .MT_BT_HI, .MT_TB_LO, .MT_TB_HI, .MT_LATCH_FRC_LO,
      .MT_LATCH_FRC_HI, .MT_LATCH_PT_LO, .MT_LATCH_PT_HI, .MT_LATCH_BT_LO, .MT_LATCH_BT_HI, .MT_LATCH_TB_LO,
      .MT_LATCH_TB_HI, .MT_STATE, .MT_CTL, .MT_OFFSET, .MT_ERR_EST, .MT_OUTLIERS, .MT_PT_SRC, .MT_TB_CFG,
      .LN_STATUS, .LN_OVERRUN, .LN_DISCARD, .LN_SUB, .LE_CTL, .LE_CMD, .LE_CMD_VAL, .LE_CMD_RESULT, .LE_OVERRUN,
      .LE_FAULT, .LE_LOAD, .LE_FDELAY, .LA_STATUS, .LA_SEL, .LA_LOOP, .LA_SLOT, .LA_SURGE, .LA_COUNT, .GY_STATUS,
      .GY_CH, .GY_COND_LO, .GY_COND_HI, .GY_SET, .GY_CAP, .GY_CMD, .GY_LOST, .BN_STATUS, .BN_LOOP, .BN_EPOCH,
      .BN_HEALTH, .BN_EQ, .BN_VERIFY, .BN_TAKEOVER, .BN_CMD, .BN_HO_AT_LO, .BN_HO_AT_HI, .BN_CMD_RESULT, .PN_PORT,
      .PN_DROP, .PN_PTP, .PN_SEL, .PN_SSTAT, .PN_SVC, .CN_CFG, .CN_CTL, .CN_STAT, .CN_ERR, .CN_PROT, .CN_TIMING,
      .CN_OBJCMD, .CN_OBJRES, .SX_PORT, .SX_LAP, .SX_ERR, .SX_CAR, .SX_EPOCH, .UC_CFG, .UC_STAT, .UC_DIAG,
      .UC_SLICE, .UC_HART, .DC_CFG, .DC_STAT, .DC_DIAG, .DC_GROUP] fun t =>
      t.pw.inReset = some 1 ∧ t.fld Fld.RST_CAUSE_CAUSE = 1 ∧ t.fld Fld.RST_CAUSE_POWERED = 0 ∧
      t.flag Fld.RST_POWER_FEED_A = true ∧ t.flag Fld.RST_POWER_FEED_B = false ∧ t.mt.frc = 0 ∧ t.mem = [] ∧
      t.key = s.key) ∧
  (∀ (s : State),
    s.powered = false → s.pw.boLatch = false → s.pw.inserted = false →
    Completes (.powerOnReset .b) s [.regs, .latchHi, .holdLo, .levels, .img, .boot, .sn, .mt, .pw, .ln, .le, .la,
      .bn, .io, .gy, .sx, .pn, .cn, .mb, .lk, .ac, .up, .isl, .pi, .subc, .blk, .mem, .forces] [.SUP_START,
      .SUP_ISLAND, .RST_CAUSE, .RST_CTL, .RST_WDOG, .RST_POWER, .RST_EV_PEND, .RST_EV_ROUTE, .RST_EV_SUM, .AC_CTL,
      .AC_SLOT, .AC_FAULT, .AC_FAULT_ADDR_LO, .AC_FAULT_ADDR_HI, .AC_ECC, .AC_SCRUB, .PK_STATUS, .PK_SEQ,
      .PK_SERIAL_LO, .PK_SERIAL_HI, .UP_STATUS, .UP_PROGRESS, .UP_TRIAL, .SN_STATUS, .SN_NEWEST_LO, .SN_NEWEST_HI,
      .SN_OLDEST_LO, .SN_OLDEST_HI, .SN_LOST, .SN_SUPPRESSED, .SN_CURSOR_LO, .SN_CURSOR_HI, .SN_WSTAT, .MB_STAT,
      .MB_DOOR, .MB_ACK, .LK_PAIR, .LK_FAULT, .LK_COUNT, .LK_MISS_LO, .LK_MISS_HI, .LK_CMD, .LK_CMD_RESULT,
      .MT_FRC_LO, .MT_FRC_HI, .MT_PT_LO, .MT_PT_HI, .MT_BT_LO, .MT_BT_HI, .MT_TB_LO, .MT_TB_HI, .MT_LATCH_FRC_LO,
      .MT_LATCH_FRC_HI, .MT_LATCH_PT_LO, .MT_LATCH_PT_HI, .MT_LATCH_BT_LO, .MT_LATCH_BT_HI, .MT_LATCH_TB_LO,
      .MT_LATCH_TB_HI, .MT_STATE, .MT_CTL, .MT_OFFSET, .MT_ERR_EST, .MT_OUTLIERS, .MT_PT_SRC, .MT_TB_CFG,
      .LN_STATUS, .LN_OVERRUN, .LN_DISCARD, .LN_SUB, .LE_CTL, .LE_CMD, .LE_CMD_VAL, .LE_CMD_RESULT, .LE_OVERRUN,
      .LE_FAULT, .LE_LOAD, .LE_FDELAY, .LA_STATUS, .LA_SEL, .LA_LOOP, .LA_SLOT, .LA_SURGE, .LA_COUNT, .GY_STATUS,
      .GY_CH, .GY_COND_LO, .GY_COND_HI, .GY_SET, .GY_CAP, .GY_CMD, .GY_LOST, .BN_STATUS, .BN_LOOP, .BN_EPOCH,
      .BN_HEALTH, .BN_EQ, .BN_VERIFY, .BN_TAKEOVER, .BN_CMD, .BN_HO_AT_LO, .BN_HO_AT_HI, .BN_CMD_RESULT, .PN_PORT,
      .PN_DROP, .PN_PTP, .PN_SEL, .PN_SSTAT, .PN_SVC, .CN_CFG, .CN_CTL, .CN_STAT, .CN_ERR, .CN_PROT, .CN_TIMING,
      .CN_OBJCMD, .CN_OBJRES, .SX_PORT, .SX_LAP, .SX_ERR, .SX_CAR, .SX_EPOCH, .UC_CFG, .UC_STAT, .UC_DIAG,
      .UC_SLICE, .UC_HART, .DC_CFG, .DC_STAT, .DC_DIAG, .DC_GROUP] fun t =>
      t.pw.inReset = some 8 ∧ t.fld Fld.RST_CAUSE_CAUSE = 8 ∧ t.flag Fld.RST_POWER_FEED_B = true ∧
      t.pw.inserted = false) ∧
  (∀ (f : Feed) (s : State),
    s.powered = true ∨ s.pw.boLatch = true →
    exec (.powerOnReset f) s = .next s) ∧
  (∀ (s : State),
    Completes .brownOutReset s [.out, .regs, .latchHi, .holdLo, .levels, .img, .boot, .sn, .mt, .pw, .ln, .le, .la,
      .bn, .io, .gy, .sx, .pn, .cn, .mb, .lk, .ac, .up, .isl, .pi, .subc, .blk, .mem, .forces] [.SUP_START,
      .SUP_ISLAND, .RST_CAUSE, .RST_CTL, .RST_WDOG, .RST_POWER, .RST_EV_PEND, .RST_EV_ROUTE, .RST_EV_SUM, .AC_CTL,
      .AC_SLOT, .AC_FAULT, .AC_FAULT_ADDR_LO, .AC_FAULT_ADDR_HI, .AC_ECC, .AC_SCRUB, .PK_STATUS, .PK_SEQ,
      .PK_SERIAL_LO, .PK_SERIAL_HI, .UP_STATUS, .UP_PROGRESS, .UP_TRIAL, .SN_STATUS, .SN_NEWEST_LO, .SN_NEWEST_HI,
      .SN_OLDEST_LO, .SN_OLDEST_HI, .SN_LOST, .SN_SUPPRESSED, .SN_CURSOR_LO, .SN_CURSOR_HI, .SN_WSTAT, .MB_STAT,
      .MB_DOOR, .MB_ACK, .LK_PAIR, .LK_FAULT, .LK_COUNT, .LK_MISS_LO, .LK_MISS_HI, .LK_CMD, .LK_CMD_RESULT,
      .MT_FRC_LO, .MT_FRC_HI, .MT_PT_LO, .MT_PT_HI, .MT_BT_LO, .MT_BT_HI, .MT_TB_LO, .MT_TB_HI, .MT_LATCH_FRC_LO,
      .MT_LATCH_FRC_HI, .MT_LATCH_PT_LO, .MT_LATCH_PT_HI, .MT_LATCH_BT_LO, .MT_LATCH_BT_HI, .MT_LATCH_TB_LO,
      .MT_LATCH_TB_HI, .MT_STATE, .MT_CTL, .MT_OFFSET, .MT_ERR_EST, .MT_OUTLIERS, .MT_PT_SRC, .MT_TB_CFG,
      .LN_STATUS, .LN_OVERRUN, .LN_DISCARD, .LN_SUB, .LE_CTL, .LE_CMD, .LE_CMD_VAL, .LE_CMD_RESULT, .LE_OVERRUN,
      .LE_FAULT, .LE_LOAD, .LE_FDELAY, .LA_STATUS, .LA_SEL, .LA_LOOP, .LA_SLOT, .LA_SURGE, .LA_COUNT, .GY_STATUS,
      .GY_CH, .GY_COND_LO, .GY_COND_HI, .GY_SET, .GY_CAP, .GY_CMD, .GY_LOST, .BN_STATUS, .BN_LOOP, .BN_EPOCH,
      .BN_HEALTH, .BN_EQ, .BN_VERIFY, .BN_TAKEOVER, .BN_CMD, .BN_HO_AT_LO, .BN_HO_AT_HI, .BN_CMD_RESULT, .PN_PORT,
      .PN_DROP, .PN_PTP, .PN_SEL, .PN_SSTAT, .PN_SVC, .CN_CFG, .CN_CTL, .CN_STAT, .CN_ERR, .CN_PROT, .CN_TIMING,
      .CN_OBJCMD, .CN_OBJRES, .SX_PORT, .SX_LAP, .SX_ERR, .SX_CAR, .SX_EPOCH, .UC_CFG, .UC_STAT, .UC_DIAG,
      .UC_SLICE, .UC_HART, .DC_CFG, .DC_STAT, .DC_DIAG, .DC_GROUP] fun t =>
      t.pw.inReset = some 2 ∧ t.fld Fld.RST_CAUSE_CAUSE = 2 ∧ t.pw.boLatch = true ∧
      t.flag Fld.RST_CAUSE_BO_LATCH = true ∧ t.mt.frc = 0 ∧ t.io = {} ∧ t.mem = [] ∧ t.key = s.key ∧ t.role = 0) ∧
  (∀ (s : State),
    s.powered = false →
    Completes .brownOutLatchExpire s [.pw] [] fun t =>
      t.pw = { s.pw with boLatch := false }) ∧
  (∀ (s : State),
    s.pw.inReset = some 8 → s.pw.inserted = true → 50000000 ≤ (s.mt.frc - s.pw.insFrc).toNat →
    Completes .insertionResetEnd s [.regs, .pw] [.LK_PAIR] fun t =>
      t.pw = { s.pw with inReset := none, pgFrc := s.mt.frc } ∧
      ∀ i, i < 5 → t.lkMode i = 1 ∧ t.fld Fld.LK_PAIR_WRITES_LEFT i = 4096) ∧
  (∀ (s : State),
    s.pw.inReset ≠ some 8 ∨ s.pw.inserted = false ∨ (s.mt.frc - s.pw.insFrc).toNat < 50000000 →
    exec .insertionResetEnd s = .next s) ∧
  (∀ (n : Fin 32) (s : State),
    s.pw.calderaHold = true → Instant.atOrBefore s.pw.holdEnd s.mt.frc = true → s.ucOut n.val = true →
    (s.uc n.val).safe = 0 →
    Completes .calderaHoldExpire s [.regs, .pw, .io] [.UC_STAT, .DC_STAT] fun t =>
      (t.uc n.val).safed = true ∧ t.flag Fld.UC_STAT_STAGE_ON n.val = false ∧ t.pw.calderaHold = false) ∧
  (∀ (n : Fin 32) (s : State),
    s.pw.calderaHold = true → Instant.atOrBefore s.pw.holdEnd s.mt.frc = true → s.ucOut n.val = true →
    (s.uc n.val).safe = 1 →
    Completes .calderaHoldExpire s [.regs, .pw, .io] [.UC_STAT, .DC_STAT] fun t =>
      t.uc n.val = s.uc n.val ∧ t.flag Fld.UC_STAT_STAGE_ON n.val = s.flag Fld.UC_STAT_STAGE_ON n.val) ∧
  (∀ (n : Fin 32) (s : State),
    s.pw.calderaHold = true → Instant.atOrBefore s.pw.holdEnd s.mt.frc = true → s.ucOut n.val = true →
    (s.uc n.val).safe = 2 →
    Completes .calderaHoldExpire s [.regs, .pw, .io] [.UC_STAT, .DC_STAT] fun t =>
      (t.uc n.val).elec = (s.uc n.val).safeTo) ∧
  (∀ (s : State),
    s.pw.calderaHold = false ∨ Instant.atOrBefore s.pw.holdEnd s.mt.frc = false →
    exec .calderaHoldExpire s = .next s) ∧
  (∀ (s : State),
    s.mayDormant = true → s.softwareRuns = true →
    Completes .enterDormant s [.regs, .levels, .sn, .pw, .ln, .le] [.RST_POWER, .LN_STATUS, .LE_CTL,
      .LE_LOAD] fun t =>
      t.flag Fld.RST_POWER_DORMANT = true ∧ t.flag Fld.LN_STATUS_FAST_RUN = false ∧
      t.flag Fld.LN_STATUS_STD_RUN = false ∧ t.flag Fld.LN_STATUS_SLOW_RUN = false ∧ t.flag Fld.LE_CTL_RUN = false ∧
      t.pw.healthy = false ∧ Records [0xF00D] s t ∧ Raised 10 t) ∧
  (∀ (s : State),
    s.mayDormant = false →
    exec .enterDormant s = .next s)

/-- A feed lost clears its bit, leaves record 0xF009 and its source; the second one lost sets H0 and SN_STATUS.FLUSH.
A feed that returns shows its voltage, saturating at 255, with record 0xF00A. Hold-up, 50 µs after H0, sets its bit
with record 0xF00B (which, as every record waiting, a located Sinter then commits at once) and source 3, and an active
whose partner is READY releases. The end of key writes, 18 ms after H0, commits the retained variables and closes the
key. Hold-up ends with record 0xF00C once a feed has held for 10 ms: a module that kept its role, or that starts up,
goes on, one that released is reset with code 6. HOLDUP_OK follows 90 % of charge unless the store has lost
capacitance, which leaves record 0xF010. Above 95 °C source 9 stands, and above 115 °C for 1 s the module declares
itself failed with record 0xF00F. Where a clause rests on a choice of the model, the choice is in log entries 33, 38.
It says of each of these commands, under hypotheses on the state and the operands alone, that exec answers a next
state with its effect: feedLost, feedOvervoltage, feedReturn, holdupEnter, holdupKeyWritesEnd, retainedCommit,
holdupEnd, holdupChargeCross, holdupCapMeasure, tempCheck. -/
def Obligations.SupplyAndHoldUp : Prop :=
  (∀ (s : State),
    s.flag Fld.RST_POWER_FEED_A = true → s.flag Fld.RST_POWER_FEED_B = true →
    Completes (.feedLost .a) s [.regs, .levels, .free, .sn] [.RST_POWER] fun t =>
      t.flag Fld.RST_POWER_FEED_A = false ∧ t.flag Fld.RST_POWER_FEED_B = true ∧
      t.fld Fld.RST_POWER_VOLTS_B = s.fld Fld.RST_POWER_VOLTS_B ∧ Records [0xF009] s t ∧ Raised 0 t) ∧
  (∀ (s : State),
    s.flag Fld.RST_POWER_FEED_A = false → s.flag Fld.RST_POWER_FEED_B = true → s.pw.h0 = none →
    Completes (.feedLost .b) s [.regs, .levels, .free, .sn, .pw] [.RST_POWER, .SN_STATUS] fun t =>
      t.flag Fld.RST_POWER_FEED_B = false ∧ t.pw = { s.pw with h0 := some s.mt.frc } ∧
      t.flag Fld.SN_STATUS_FLUSH = true ∧ t.flag Fld.RST_POWER_HOLDUP = s.flag Fld.RST_POWER_HOLDUP ∧
      Records [0xF009] s t ∧ Raised 1 t) ∧
  (∀ (s : State),
    s.flag Fld.RST_POWER_FEED_A = true → s.flag Fld.RST_POWER_FEED_B = false → s.pw.h0 = none →
    Completes (.feedOvervoltage .a) s [.regs, .levels, .free, .sn, .pw] [.RST_POWER, .SN_STATUS] fun t =>
      t.flag Fld.RST_POWER_FEED_A = false ∧ t.pw = { s.pw with h0 := some s.mt.frc } ∧
      t.flag Fld.SN_STATUS_FLUSH = true ∧ Records [0xF009] s t ∧ Raised 0 t) ∧
  (∀ (s : State),
    s.flag Fld.RST_POWER_FEED_A = false →
    exec (.feedLost .a) s = .next s ∧ exec (.feedOvervoltage .a) s = .next s) ∧
  (∀ (v : Nat) (s : State),
    s.flag Fld.RST_POWER_FEED_B = true → s.flag Fld.RST_POWER_FEED_A = false →
    Completes (.feedReturn .a v) s [.regs, .levels, .sn] [.RST_POWER] fun t =>
      t.flag Fld.RST_POWER_FEED_A = true ∧ t.fld Fld.RST_POWER_VOLTS_A = sat 255 (v / 200) ∧
      t.flag Fld.RST_POWER_FEED_B = true ∧ Records [0xF00A] s t ∧ Raised 0 t) ∧
  (∀ (v : Nat) (s : State),
    s.flag Fld.RST_POWER_FEED_B = true →
    Completes (.feedReturn .b v) s [.regs] [.RST_POWER] fun t =>
      t.fld Fld.RST_POWER_VOLTS_B = sat 255 (v / 200) ∧ t.fld Fld.RST_POWER_VOLTS_A = s.fld Fld.RST_POWER_VOLTS_A ∧
      t.flag Fld.RST_POWER_FEED_B = true) ∧
  (∀ (v : Nat) (f : Feed) (s : State),
    s.powered = false →
    exec (.feedReturn f v) s = .next s) ∧
  (∀ (s : State),
    s.sinceH0 50000 = true → s.flag Fld.RST_POWER_FEED_A = false → s.flag Fld.RST_POWER_FEED_B = false →
    s.flag Fld.RST_POWER_HOLDUP = false → s.role = 1 → s.partnerReady = false →
    Completes .holdupEnter s [.regs, .levels, .boot, .key, .sn, .pw, .ln, .le, .la, .bn, .up] [.SUP_ISLAND,
      .RST_POWER, .SN_STATUS, .SN_NEWEST_LO, .SN_NEWEST_HI, .SN_OLDEST_LO, .SN_OLDEST_HI, .SN_LOST, .SN_SUPPRESSED,
      .LN_STATUS, .LE_CTL, .LE_LOAD, .LA_STATUS, .LA_SLOT, .LA_COUNT, .BN_STATUS, .BN_LOOP] fun t =>
      t.flag Fld.RST_POWER_HOLDUP = true ∧ t.role = 1 ∧ (s.sn.located = false → Records [0xF00B] s t) ∧ Raised 3 t) ∧
  (∀ (s : State),
    s.sinceH0 50000 = true → s.flag Fld.RST_POWER_FEED_A = false → s.flag Fld.RST_POWER_FEED_B = false →
    s.flag Fld.RST_POWER_HOLDUP = false → s.role = 1 → s.partnerReady = true →
    Completes .holdupEnter s [.regs, .levels, .boot, .key, .sn, .pw, .ln, .le, .la, .bn, .up] [.SUP_ISLAND,
      .RST_POWER, .SN_STATUS, .SN_NEWEST_LO, .SN_NEWEST_HI, .SN_OLDEST_LO, .SN_OLDEST_HI, .SN_LOST, .SN_SUPPRESSED,
      .LN_STATUS, .LE_CTL, .LE_LOAD, .LA_STATUS, .LA_SLOT, .LA_COUNT, .BN_STATUS, .BN_LOOP] fun t =>
      t.flag Fld.RST_POWER_HOLDUP = true ∧ t.role = 0 ∧ t.bn.claimOut = false ∧ t.bn.releasing = true ∧
      t.pw.released = true ∧ t.flag Fld.LN_STATUS_STD_RUN = false ∧
      (s.sn.located = false → (t.sn.raised.any fun r => r.code == 0xF00B#16) = true) ∧ Raised 3 t) ∧
  (∀ (s : State),
    s.sinceH0 50000 = false ∨ s.flag Fld.RST_POWER_FEED_A = true →
    exec .holdupEnter s = .next s) ∧
  (∀ (u : Nat) (v : W64) (s : State),
    s.sinceH0 18000000 = true → s.pw.retained = [(u, v)] → s.keyOk = true → s.sn.queue = [] → s.la.unsaved = [] →
    Completes .holdupKeyWritesEnd s [.regs, .levels, .key, .sn, .pw, .la, .bn] [.SN_STATUS, .SN_NEWEST_LO,
      .SN_NEWEST_HI, .SN_OLDEST_LO, .SN_OLDEST_HI, .BN_STATUS] fun t =>
      t.keyUnit (8 * u) = v ∧ t.pw.retained = [] ∧ t.pw.keyEnd = true ∧ t.keyOk = false ∧
      t.flag Fld.SN_STATUS_KEY_OK = false) ∧
  (∀ (s : State),
    s.sinceH0 18000000 = false →
    exec .holdupKeyWritesEnd s = .next s) ∧
  (∀ (u : Nat) (v : W64) (s : State),
    s.pw.retained = [(u, v)] → s.keyOk = true → s.la.unsaved = [] →
    Completes .retainedCommit s [.key, .pw, .la] [] fun t =>
      t.keyUnit (8 * u) = v ∧ t.pw = { s.pw with retained := [] } ∧
      (∀ w, w ≠ u → t.keyUnit (8 * w) = s.keyUnit (8 * w))) ∧
  (∀ (s : State),
    s.keyOk = false →
    exec .retainedCommit s = .next s) ∧
  (∀ (s : State),
    s.flag Fld.RST_POWER_HOLDUP = true → 10000000 ≤ (s.mt.frc - s.pw.feedFrc).toNat →
    s.flag Fld.RST_POWER_FEED_B = true → s.role = 1 → s.pw.released = false →
    Completes .holdupEnd s [.regs, .latchHi, .holdLo, .levels, .img, .boot, .key, .sn, .mt, .pw, .ln, .le, .la,
      .bn, .io, .gy, .sx, .pn, .cn, .mb, .lk, .ac, .up, .isl, .pi, .subc, .blk, .mem, .forces] [.SUP_START,
      .SUP_ISLAND, .RST_CAUSE, .RST_CTL, .RST_WDOG, .RST_POWER, .RST_EV_PEND, .RST_EV_ROUTE, .RST_EV_SUM, .AC_CTL,
      .AC_SLOT, .AC_FAULT, .AC_FAULT_ADDR_LO, .AC_FAULT_ADDR_HI, .AC_ECC, .AC_SCRUB, .PK_STATUS, .PK_SEQ,
      .PK_SERIAL_LO, .PK_SERIAL_HI, .UP_STATUS, .UP_PROGRESS, .UP_TRIAL, .SN_STATUS, .SN_NEWEST_LO, .SN_NEWEST_HI,
      .SN_OLDEST_LO, .SN_OLDEST_HI, .SN_LOST, .SN_SUPPRESSED, .SN_CURSOR_LO, .SN_CURSOR_HI, .SN_WSTAT, .MB_STAT,
      .MB_DOOR, .MB_ACK, .LK_PAIR, .LK_FAULT, .LK_COUNT, .LK_MISS_LO, .LK_MISS_HI, .LK_CMD, .LK_CMD_RESULT,
      .MT_FRC_LO, .MT_FRC_HI, .MT_PT_LO, .MT_PT_HI, .MT_BT_LO, .MT_BT_HI, .MT_TB_LO, .MT_TB_HI, .MT_LATCH_FRC_LO,
      .MT_LATCH_FRC_HI, .MT_LATCH_PT_LO, .MT_LATCH_PT_HI, .MT_LATCH_BT_LO, .MT_LATCH_BT_HI, .MT_LATCH_TB_LO,
      .MT_LATCH_TB_HI, .MT_STATE, .MT_CTL, .MT_OFFSET, .MT_ERR_EST, .MT_OUTLIERS, .MT_PT_SRC, .MT_TB_CFG,
      .LN_STATUS, .LN_OVERRUN, .LN_DISCARD, .LN_SUB, .LE_CTL, .LE_CMD, .LE_CMD_VAL, .LE_CMD_RESULT, .LE_OVERRUN,
      .LE_FAULT, .LE_LOAD, .LE_FDELAY, .LA_STATUS, .LA_SEL, .LA_LOOP, .LA_SLOT, .LA_SURGE, .LA_COUNT, .GY_STATUS,
      .GY_CH, .GY_COND_LO, .GY_COND_HI, .GY_SET, .GY_CAP, .GY_CMD, .GY_LOST, .BN_STATUS, .BN_LOOP, .BN_EPOCH,
      .BN_HEALTH, .BN_EQ, .BN_VERIFY, .BN_TAKEOVER, .BN_CMD, .BN_HO_AT_LO, .BN_HO_AT_HI, .BN_CMD_RESULT, .PN_PORT,
      .PN_DROP, .PN_PTP, .PN_SEL, .PN_SSTAT, .PN_SVC, .CN_CFG, .CN_CTL, .CN_STAT, .CN_ERR, .CN_PROT, .CN_TIMING,
      .CN_OBJCMD, .CN_OBJRES, .SX_PORT, .SX_LAP, .SX_ERR, .SX_CAR, .SX_EPOCH, .UC_CFG, .UC_STAT, .UC_DIAG,
      .UC_SLICE, .UC_HART, .DC_CFG, .DC_STAT, .DC_DIAG, .DC_GROUP] fun t =>
      t.flag Fld.RST_POWER_HOLDUP = false ∧ t.flag Fld.SN_STATUS_FLUSH = false ∧ t.pw.h0 = none ∧ t.role = 1 ∧
      t.pw.inReset = s.pw.inReset ∧ (s.sn.located = false → Records [0xF00C] s t) ∧ Raised 3 t) ∧
  (∀ (s : State),
    s.flag Fld.RST_POWER_HOLDUP = true → 10000000 ≤ (s.mt.frc - s.pw.feedFrc).toNat →
    s.flag Fld.RST_POWER_FEED_A = true → s.pw.released = true → s.pw.inReset = none →
    Completes .holdupEnd s [.regs, .latchHi, .holdLo, .levels, .img, .boot, .key, .sn, .mt, .pw, .ln, .le, .la,
      .bn, .io, .gy, .sx, .pn, .cn, .mb, .lk, .ac, .up, .isl, .pi, .subc, .blk, .mem, .forces] [.SUP_START,
      .SUP_ISLAND, .RST_CAUSE, .RST_CTL, .RST_WDOG, .RST_POWER, .RST_EV_PEND, .RST_EV_ROUTE, .RST_EV_SUM, .AC_CTL,
      .AC_SLOT, .AC_FAULT, .AC_FAULT_ADDR_LO, .AC_FAULT_ADDR_HI, .AC_ECC, .AC_SCRUB, .PK_STATUS, .PK_SEQ,
      .PK_SERIAL_LO, .PK_SERIAL_HI, .UP_STATUS, .UP_PROGRESS, .UP_TRIAL, .SN_STATUS, .SN_NEWEST_LO, .SN_NEWEST_HI,
      .SN_OLDEST_LO, .SN_OLDEST_HI, .SN_LOST, .SN_SUPPRESSED, .SN_CURSOR_LO, .SN_CURSOR_HI, .SN_WSTAT, .MB_STAT,
      .MB_DOOR, .MB_ACK, .LK_PAIR, .LK_FAULT, .LK_COUNT, .LK_MISS_LO, .LK_MISS_HI, .LK_CMD, .LK_CMD_RESULT,
      .MT_FRC_LO, .MT_FRC_HI, .MT_PT_LO, .MT_PT_HI, .MT_BT_LO, .MT_BT_HI, .MT_TB_LO, .MT_TB_HI, .MT_LATCH_FRC_LO,
      .MT_LATCH_FRC_HI, .MT_LATCH_PT_LO, .MT_LATCH_PT_HI, .MT_LATCH_BT_LO, .MT_LATCH_BT_HI, .MT_LATCH_TB_LO,
      .MT_LATCH_TB_HI, .MT_STATE, .MT_CTL, .MT_OFFSET, .MT_ERR_EST, .MT_OUTLIERS, .MT_PT_SRC, .MT_TB_CFG,
      .LN_STATUS, .LN_OVERRUN, .LN_DISCARD, .LN_SUB, .LE_CTL, .LE_CMD, .LE_CMD_VAL, .LE_CMD_RESULT, .LE_OVERRUN,
      .LE_FAULT, .LE_LOAD, .LE_FDELAY, .LA_STATUS, .LA_SEL, .LA_LOOP, .LA_SLOT, .LA_SURGE, .LA_COUNT, .GY_STATUS,
      .GY_CH, .GY_COND_LO, .GY_COND_HI, .GY_SET, .GY_CAP, .GY_CMD, .GY_LOST, .BN_STATUS, .BN_LOOP, .BN_EPOCH,
      .BN_HEALTH, .BN_EQ, .BN_VERIFY, .BN_TAKEOVER, .BN_CMD, .BN_HO_AT_LO, .BN_HO_AT_HI, .BN_CMD_RESULT, .PN_PORT,
      .PN_DROP, .PN_PTP, .PN_SEL, .PN_SSTAT, .PN_SVC, .CN_CFG, .CN_CTL, .CN_STAT, .CN_ERR, .CN_PROT, .CN_TIMING,
      .CN_OBJCMD, .CN_OBJRES, .SX_PORT, .SX_LAP, .SX_ERR, .SX_CAR, .SX_EPOCH, .UC_CFG, .UC_STAT, .UC_DIAG,
      .UC_SLICE, .UC_HART, .DC_CFG, .DC_STAT, .DC_DIAG, .DC_GROUP] fun t =>
      t.pw.inReset = some 6 ∧ t.fld Fld.RST_CAUSE_CAUSE = 6 ∧ t.flag Fld.RST_POWER_HOLDUP = false ∧
      t.pw.released = false) ∧
  (∀ (s : State),
    s.flag Fld.RST_POWER_HOLDUP = true → 10000000 ≤ (s.mt.frc - s.pw.feedFrc).toNat →
    s.flag Fld.RST_POWER_FEED_A = true → s.role = 0 → s.phase < 8 → s.pw.released = false →
    Completes .holdupEnd s [.regs, .latchHi, .holdLo, .levels, .img, .boot, .key, .sn, .mt, .pw, .ln, .le, .la,
      .bn, .io, .gy, .sx, .pn, .cn, .mb, .lk, .ac, .up, .isl, .pi, .subc, .blk, .mem, .forces] [.SUP_START,
      .SUP_ISLAND, .RST_CAUSE, .RST_CTL, .RST_WDOG, .RST_POWER, .RST_EV_PEND, .RST_EV_ROUTE, .RST_EV_SUM, .AC_CTL,
      .AC_SLOT, .AC_FAULT, .AC_FAULT_ADDR_LO, .AC_FAULT_ADDR_HI, .AC_ECC, .AC_SCRUB, .PK_STATUS, .PK_SEQ,
      .PK_SERIAL_LO, .PK_SERIAL_HI, .UP_STATUS, .UP_PROGRESS, .UP_TRIAL, .SN_STATUS, .SN_NEWEST_LO, .SN_NEWEST_HI,
      .SN_OLDEST_LO, .SN_OLDEST_HI, .SN_LOST, .SN_SUPPRESSED, .SN_CURSOR_LO, .SN_CURSOR_HI, .SN_WSTAT, .MB_STAT,
      .MB_DOOR, .MB_ACK, .LK_PAIR, .LK_FAULT, .LK_COUNT, .LK_MISS_LO, .LK_MISS_HI, .LK_CMD, .LK_CMD_RESULT,
      .MT_FRC_LO, .MT_FRC_HI, .MT_PT_LO, .MT_PT_HI, .MT_BT_LO, .MT_BT_HI, .MT_TB_LO, .MT_TB_HI, .MT_LATCH_FRC_LO,
      .MT_LATCH_FRC_HI, .MT_LATCH_PT_LO, .MT_LATCH_PT_HI, .MT_LATCH_BT_LO, .MT_LATCH_BT_HI, .MT_LATCH_TB_LO,
      .MT_LATCH_TB_HI, .MT_STATE, .MT_CTL, .MT_OFFSET, .MT_ERR_EST, .MT_OUTLIERS, .MT_PT_SRC, .MT_TB_CFG,
      .LN_STATUS, .LN_OVERRUN, .LN_DISCARD, .LN_SUB, .LE_CTL, .LE_CMD, .LE_CMD_VAL, .LE_CMD_RESULT, .LE_OVERRUN,
      .LE_FAULT, .LE_LOAD, .LE_FDELAY, .LA_STATUS, .LA_SEL, .LA_LOOP, .LA_SLOT, .LA_SURGE, .LA_COUNT, .GY_STATUS,
      .GY_CH, .GY_COND_LO, .GY_COND_HI, .GY_SET, .GY_CAP, .GY_CMD, .GY_LOST, .BN_STATUS, .BN_LOOP, .BN_EPOCH,
      .BN_HEALTH, .BN_EQ, .BN_VERIFY, .BN_TAKEOVER, .BN_CMD, .BN_HO_AT_LO, .BN_HO_AT_HI, .BN_CMD_RESULT, .PN_PORT,
      .PN_DROP, .PN_PTP, .PN_SEL, .PN_SSTAT, .PN_SVC, .CN_CFG, .CN_CTL, .CN_STAT, .CN_ERR, .CN_PROT, .CN_TIMING,
      .CN_OBJCMD, .CN_OBJRES, .SX_PORT, .SX_LAP, .SX_ERR, .SX_CAR, .SX_EPOCH, .UC_CFG, .UC_STAT, .UC_DIAG,
      .UC_SLICE, .UC_HART, .DC_CFG, .DC_STAT, .DC_DIAG, .DC_GROUP] fun t =>
      t.flag Fld.RST_POWER_HOLDUP = false ∧ t.pw.h0 = none ∧ t.pw.inReset = s.pw.inReset ∧ t.phase = s.phase ∧
      Raised 3 t) ∧
  (∀ (s : State),
    s.flag Fld.RST_POWER_HOLDUP = false ∨ (s.mt.frc - s.pw.feedFrc).toNat < 10000000 →
    exec .holdupEnd s = .next s) ∧
  (∀ (p : Nat) (s : State),
    s.fld Fld.RST_POWER_CHARGE < 90 → 90 ≤ p → s.pw.capBad = false →
    Completes (.holdupChargeCross p) s [.regs, .levels, .sn] [.RST_POWER] fun t =>
      t.flag Fld.RST_POWER_HOLDUP_OK = true ∧ t.fld Fld.RST_POWER_CHARGE = sat 100 p ∧ Records [0xF00E] s t ∧
      Raised 2 t) ∧
  (∀ (p : Nat) (s : State),
    90 ≤ s.fld Fld.RST_POWER_CHARGE → p < 90 →
    Completes (.holdupChargeCross p) s [.regs, .levels, .sn] [.RST_POWER] fun t =>
      t.flag Fld.RST_POWER_HOLDUP_OK = false ∧ t.fld Fld.RST_POWER_CHARGE = p ∧ Records [0xF00E] s t ∧ Raised 2 t) ∧
  (∀ (n : Nat) (s : State),
    150 < n → s.pw.capBad = false →
    Completes (.holdupCapMeasure n) s [.regs, .levels, .sn, .pw] [.RST_POWER] fun t =>
      t.pw = { s.pw with capBad := true } ∧ t.flag Fld.RST_POWER_HOLDUP_OK = false ∧ Records [0xF010] s t ∧
      Raised 2 t) ∧
  (∀ (n : Nat) (s : State),
    n ≤ 150 →
    exec (.holdupCapMeasure n) s = .next s) ∧
  (∀ (p : Nat) (s : State),
    s.pw.capBad = true → 90 ≤ s.fld Fld.RST_POWER_CHARGE → 90 ≤ p →
    Completes (.holdupChargeCross p) s [.regs] [.RST_POWER] fun t =>
      t.flag Fld.RST_POWER_HOLDUP_OK = false ∧ t.fld Fld.RST_POWER_CHARGE = sat 100 p) ∧
  (∀ (n : Int) (s : State),
    95 < n → n ≤ 115 →
    Completes (.tempCheck n) s [.levels, .pw] [] fun t =>
      Raised 9 t ∧ t.pw = { s.pw with hotFrc := none }) ∧
  (∀ (n : Int) (s : State),
    n ≤ 95 →
    Completes (.tempCheck n) s [.pw] [] fun t =>
      t.pw = { s.pw with hotFrc := none }) ∧
  (∀ (n : Int) (u : W64) (s : State),
    115 < n → s.pw.hotFrc = some u → 1000000000 ≤ (s.mt.frc - u).toNat → s.bn.failed = false →
    s.bn.claimOut = false →
    Completes (.tempCheck n) s [.regs, .levels, .boot, .sn, .pw, .ln, .le, .la, .bn, .up] [.SUP_ISLAND, .LN_STATUS,
      .LE_CTL, .LE_LOAD, .LA_STATUS, .LA_SLOT, .LA_COUNT, .BN_STATUS, .BN_LOOP] fun t =>
      Raised 9 t ∧ (t.sn.raised.any fun r => r.code == 0xF00F#16) = true ∧ t.bn.failed = true ∧ t.role = 6 ∧
      t.flag Fld.BN_STATUS_READY = false ∧ t.bn.healthyOut = false ∧ t.bn.hbRun = false ∧
      t.flag Fld.LN_STATUS_STD_RUN = false) ∧
  (∀ (n : Int) (s : State),
    115 < n → s.pw.hotFrc = none →
    Completes (.tempCheck n) s [.levels, .pw] [] fun t =>
      Raised 9 t ∧ t.pw = { s.pw with hotFrc := some s.mt.frc })

/-- REMOVE opening raises source 6; an active whose partner is READY releases, one without keeps authority with
REMOVE_REFUSED, and a standby drops READY and holds no role. Closing again, a module that released is reset with code
6, and another joins. INSERTED opening ends key writes and any hold of Caldera; its closing begins the insertion time.
A source raised is latched once and its level drops; a source routed to the application pairs alone clears as one that
executes takes it at the boundary of its window, which closes and releases its stores, and a source with neither route
only latches. Where a clause rests on a choice of the model, the choice is in log entries 39, 40. It says of each of
these commands, under hypotheses on the state and the operands alone, that exec answers a next state with its effect:
removeOpen, removeClose, insertedOpen, insertedClose, eventLatch, appInterruptTake. -/
def Obligations.ContactsAndEvents : Prop :=
  (∀ (s : State),
    s.pw.removeClosed = true → s.role = 1 → s.partnerReady = true →
    Completes .removeOpen s [.regs, .levels, .boot, .sn, .pw, .ln, .le, .la, .bn, .up] [.SUP_ISLAND, .LN_STATUS,
      .LE_CTL, .LE_LOAD, .LA_STATUS, .LA_SLOT, .LA_COUNT, .BN_STATUS, .BN_LOOP] fun t =>
      t.role = 0 ∧ t.bn.claimOut = false ∧ t.bn.releasing = true ∧ t.pw.removeClosed = false ∧
      t.pw.removedRelease = true ∧ t.flag Fld.LN_STATUS_STD_RUN = false ∧ t.flag Fld.LE_CTL_RUN = false ∧ Raised 6 t) ∧
  (∀ (s : State),
    s.pw.removeClosed = true → s.role = 1 → s.pair = true → s.partnerReady = false →
    s.flag Fld.BN_STATUS_REMOVE_REFUSED = false → s.takesRecord 5 →
    Completes .removeOpen s [.regs, .levels, .pw, .sn] [.BN_STATUS] fun t =>
      t.role = 1 ∧ t.flag Fld.BN_STATUS_REMOVE_REFUSED = true ∧ Records [0xB00E] s t ∧
      t.pw = { s.pw with removeClosed := false } ∧ Raised 6 t ∧ Raised 86 t) ∧
  (∀ (s : State),
    s.pw.removeClosed = true → s.role = 2 →
    Completes .removeOpen s [.regs, .levels, .pw, .bn, .up, .le] [.BN_STATUS] fun t =>
      t.role = 0 ∧ t.flag Fld.BN_STATUS_READY = false ∧ t.bn.joining = false ∧ t.pw.removeClosed = false ∧
      Raised 6 t) ∧
  (∀ (s : State),
    s.pw.removeClosed = false →
    exec .removeOpen s = .next s) ∧
  (∀ (s : State),
    s.pw.removeClosed = false → s.pw.removedRelease = true → s.powered = true → s.pw.inReset = none →
    Completes .removeClose s [.regs, .latchHi, .holdLo, .levels, .img, .boot, .key, .sn, .mt, .pw, .ln, .le, .la,
      .bn, .io, .gy, .sx, .pn, .cn, .mb, .lk, .ac, .up, .isl, .pi, .subc, .blk, .mem, .forces] [.SUP_START,
      .SUP_ISLAND, .RST_CAUSE, .RST_CTL, .RST_WDOG, .RST_POWER, .RST_EV_PEND, .RST_EV_ROUTE, .RST_EV_SUM, .AC_CTL,
      .AC_SLOT, .AC_FAULT, .AC_FAULT_ADDR_LO, .AC_FAULT_ADDR_HI, .AC_ECC, .AC_SCRUB, .PK_STATUS, .PK_SEQ,
      .PK_SERIAL_LO, .PK_SERIAL_HI, .UP_STATUS, .UP_PROGRESS, .UP_TRIAL, .SN_STATUS, .SN_NEWEST_LO, .SN_NEWEST_HI,
      .SN_OLDEST_LO, .SN_OLDEST_HI, .SN_LOST, .SN_SUPPRESSED, .SN_CURSOR_LO, .SN_CURSOR_HI, .SN_WSTAT, .MB_STAT,
      .MB_DOOR, .MB_ACK, .LK_PAIR, .LK_FAULT, .LK_COUNT, .LK_MISS_LO, .LK_MISS_HI, .LK_CMD, .LK_CMD_RESULT,
      .MT_FRC_LO, .MT_FRC_HI, .MT_PT_LO, .MT_PT_HI, .MT_BT_LO, .MT_BT_HI, .MT_TB_LO, .MT_TB_HI, .MT_LATCH_FRC_LO,
      .MT_LATCH_FRC_HI, .MT_LATCH_PT_LO, .MT_LATCH_PT_HI, .MT_LATCH_BT_LO, .MT_LATCH_BT_HI, .MT_LATCH_TB_LO,
      .MT_LATCH_TB_HI, .MT_STATE, .MT_CTL, .MT_OFFSET, .MT_ERR_EST, .MT_OUTLIERS, .MT_PT_SRC, .MT_TB_CFG,
      .LN_STATUS, .LN_OVERRUN, .LN_DISCARD, .LN_SUB, .LE_CTL, .LE_CMD, .LE_CMD_VAL, .LE_CMD_RESULT, .LE_OVERRUN,
      .LE_FAULT, .LE_LOAD, .LE_FDELAY, .LA_STATUS, .LA_SEL, .LA_LOOP, .LA_SLOT, .LA_SURGE, .LA_COUNT, .GY_STATUS,
      .GY_CH, .GY_COND_LO, .GY_COND_HI, .GY_SET, .GY_CAP, .GY_CMD, .GY_LOST, .BN_STATUS, .BN_LOOP, .BN_EPOCH,
      .BN_HEALTH, .BN_EQ, .BN_VERIFY, .BN_TAKEOVER, .BN_CMD, .BN_HO_AT_LO, .BN_HO_AT_HI, .BN_CMD_RESULT, .PN_PORT,
      .PN_DROP, .PN_PTP, .PN_SEL, .PN_SSTAT, .PN_SVC, .CN_CFG, .CN_CTL, .CN_STAT, .CN_ERR, .CN_PROT, .CN_TIMING,
      .CN_OBJCMD, .CN_OBJRES, .SX_PORT, .SX_LAP, .SX_ERR, .SX_CAR, .SX_EPOCH, .UC_CFG, .UC_STAT, .UC_DIAG,
      .UC_SLICE, .UC_HART, .DC_CFG, .DC_STAT, .DC_DIAG, .DC_GROUP] fun t =>
      t.pw.inReset = some 6 ∧ t.fld Fld.RST_CAUSE_CAUSE = 6 ∧ t.pw.removeClosed = true ∧ t.pw.removedRelease = false) ∧
  (∀ (s : State),
    s.pw.removeClosed = false → s.pw.removedRelease = false → s.pair = true → s.role = 0 → s.phase = 8 →
    Completes .removeClose s [.regs, .levels, .pw, .bn, .up, .le] [.BN_STATUS] fun t =>
      t.pw.removeClosed = true ∧ t.bn.joining = true ∧ t.role = 0) ∧
  (∀ (s : State),
    s.pw.removeClosed = true →
    exec .removeClose s = .next s) ∧
  (∀ (s : State),
    s.pw.inserted = true → s.pw.removeClosed = false → s.pw.calderaClaim = true →
    Completes .insertedOpen s [.out, .regs, .levels, .boot, .key, .sn, .mt, .pw, .ln, .le, .la, .bn, .io, .cn, .up,
      .pi, .blk, .mem] [.SUP_ISLAND, .SN_STATUS, .SN_NEWEST_LO, .SN_NEWEST_HI, .SN_OLDEST_LO, .SN_OLDEST_HI,
      .SN_LOST, .SN_SUPPRESSED, .LN_STATUS, .LE_CTL, .LE_LOAD, .LA_STATUS, .LA_SLOT, .LA_SURGE, .LA_COUNT,
      .BN_STATUS, .BN_LOOP, .CN_STAT, .UC_STAT, .DC_STAT] fun t =>
      t.pw.inserted = false ∧ t.pw.keyEnd = true ∧ t.keyOk = false ∧ t.pw.calderaClaim = false ∧
      t.pw.calderaHold = false ∧ t.bn.claimOut = false ∧ t.role = s.role) ∧
  (∀ (s : State),
    s.pw.inserted = true → s.pw.removeClosed = true → s.role = 2 →
    Completes .insertedOpen s [.out, .regs, .levels, .boot, .key, .sn, .mt, .pw, .ln, .le, .la, .bn, .io, .cn, .up,
      .pi, .blk, .mem] [.SUP_ISLAND, .SN_STATUS, .SN_NEWEST_LO, .SN_NEWEST_HI, .SN_OLDEST_LO, .SN_OLDEST_HI,
      .SN_LOST, .SN_SUPPRESSED, .LN_STATUS, .LE_CTL, .LE_LOAD, .LA_STATUS, .LA_SLOT, .LA_SURGE, .LA_COUNT,
      .BN_STATUS, .BN_LOOP, .CN_STAT, .UC_STAT, .DC_STAT] fun t =>
      t.role = 0 ∧ t.flag Fld.BN_STATUS_READY = false ∧ t.pw.inserted = false ∧ t.keyOk = false ∧ Raised 6 t) ∧
  (∀ (s : State),
    s.pw.inserted = false →
    exec .insertedOpen s = .next s) ∧
  (∀ (s : State),
    s.pw.inserted = false → s.pw.h0 = none →
    Completes .insertedClose s [.pw] [] fun t =>
      t.pw = { s.pw with inserted := true, insFrc := s.mt.frc, keyEnd := false }) ∧
  (∀ (s : State),
    s.pw.inserted = true →
    exec .insertedClose s = .next s) ∧
  (∀ (n : Fin 128) (s : State),
    n.val ∈ s.levels →
    Completes (.eventLatch n) s [.regs, .levels] [.RST_EV_PEND] fun t =>
      t.levels = s.levels.erase n.val ∧ bitAt (t.reg .RST_EV_PEND (n.val / 16)) (n.val % 16) = true ∧
      (∀ j, j < 16 → j ≠ n.val % 16 → bitAt (t.reg .RST_EV_PEND (n.val / 16)) j = bitAt (s.reg .RST_EV_PEND (n.val / 16)) j) ∧
      (∀ g, g < 8 → g ≠ n.val / 16 → t.reg .RST_EV_PEND g = s.reg .RST_EV_PEND g)) ∧
  (∀ (n : Fin 128) (s : State),
    n.val ∉ s.levels →
    exec (.eventLatch n) s = .next s) ∧
  (∀ (n : Fin 128) (i : Fin 4) (s : State),
    n.val < 16 ∨ 48 ≤ n.val → bitAt (s.reg .RST_EV_ROUTE (n.val / 16)) (16 + n.val % 16) = true →
    bitAt (s.reg .RST_EV_ROUTE (n.val / 16)) (n.val % 16) = false →
    s.lkMode i.val = 1 ∨ s.lkMode i.val = 2 ∨ s.lkMode i.val = 4 ∨ s.lkMode i.val = 5 ∨ s.lkMode i.val = 6 →
    (∀ j ∈ [1, 2, 3], (s.pairOf j).close = false) → (s.pairOf i.val).held = [] →
    Completes (.appInterruptTake n i) s [.regs, .lk] [.RST_EV_PEND] fun t =>
      bitAt (t.reg .RST_EV_PEND (n.val / 16)) (n.val % 16) = false ∧
      (∀ j, j < 16 → j ≠ n.val % 16 → bitAt (t.reg .RST_EV_PEND (n.val / 16)) j = bitAt (s.reg .RST_EV_PEND (n.val / 16)) j) ∧
      t.pairOf i.val = { s.pairOf i.val with replay := none, close := false }) ∧
  (∀ (n : Fin 128) (i : Fin 4) (s : State),
    n.val < 16 ∨ 48 ≤ n.val →
    bitAt (s.reg .RST_EV_ROUTE (n.val / 16)) (16 + n.val % 16) = false ∨ bitAt (s.reg .RST_EV_ROUTE (n.val / 16)) (n.val % 16) = true →
    exec (.appInterruptTake n i) s = .next s) ∧
  (∀ (n : Fin 128) (i : Fin 4) (s : State),
    24 ≤ n.val → n.val < 32 → s.mbState (n.val - 16) = 1 →
    s.lkMode i.val = 1 ∨ s.lkMode i.val = 2 ∨ s.lkMode i.val = 4 ∨ s.lkMode i.val = 5 ∨ s.lkMode i.val = 6 →
    (∀ j ∈ [1, 2, 3], (s.pairOf j).close = false) → (s.pairOf i.val).held = [] →
    Completes (.appInterruptTake n i) s [.regs, .lk] [.RST_EV_PEND] fun t =>
      bitAt (t.reg .RST_EV_PEND (n.val / 16)) (n.val % 16) = false ∧
      t.pairOf i.val = { s.pairOf i.val with replay := none, close := false }) ∧
  (∀ (n : Fin 128) (i : Fin 4) (v : Byte) (k : Nat) (s : State),
    n.val < 16 ∨ 48 ≤ n.val → bitAt (s.reg .RST_EV_ROUTE (n.val / 16)) (16 + n.val % 16) = true →
    bitAt (s.reg .RST_EV_ROUTE (n.val / 16)) (n.val % 16) = false → s.lkMode i.val = 2 →
    (∀ j ∈ [1, 2, 3], (s.pairOf j).close = false) → k < 0xC0000 →
    (s.pairOf i.val).held = [{ addr := 0x1D40000 + k, data := [v], cls := .rt }] →
    Completes (.appInterruptTake n i) s [.out, .free, .regs, .latchHi, .holdLo, .levels, .img, .boot, .key, .sn,
      .mt, .pw, .ln, .le, .la, .bn, .io, .gy, .sx, .pn, .cn, .mb, .lk, .ac, .up, .isl, .pi, .subc, .blk, .mem,
      .forces] [.SUP_START, .SUP_ISLAND, .RST_CAUSE, .RST_CTL, .RST_WDOG, .RST_POWER, .RST_EV_PEND, .RST_EV_ROUTE,
      .RST_EV_SUM, .AC_CTL, .AC_SLOT, .AC_FAULT, .AC_FAULT_ADDR_LO, .AC_FAULT_ADDR_HI, .AC_ECC, .AC_SCRUB,
      .PK_STATUS, .PK_SEQ, .PK_SERIAL_LO, .PK_SERIAL_HI, .UP_STATUS, .UP_PROGRESS, .UP_TRIAL, .SN_STATUS,
      .SN_NEWEST_LO, .SN_NEWEST_HI, .SN_OLDEST_LO, .SN_OLDEST_HI, .SN_LOST, .SN_SUPPRESSED, .SN_CURSOR_LO,
      .SN_CURSOR_HI, .SN_WSTAT, .MB_STAT, .MB_DOOR, .MB_ACK, .LK_PAIR, .LK_FAULT, .LK_COUNT, .LK_MISS_LO,
      .LK_MISS_HI, .LK_CMD, .LK_CMD_RESULT, .MT_FRC_LO, .MT_FRC_HI, .MT_PT_LO, .MT_PT_HI, .MT_BT_LO, .MT_BT_HI,
      .MT_TB_LO, .MT_TB_HI, .MT_LATCH_FRC_LO, .MT_LATCH_FRC_HI, .MT_LATCH_PT_LO, .MT_LATCH_PT_HI, .MT_LATCH_BT_LO,
      .MT_LATCH_BT_HI, .MT_LATCH_TB_LO, .MT_LATCH_TB_HI, .MT_STATE, .MT_CTL, .MT_OFFSET, .MT_ERR_EST, .MT_OUTLIERS,
      .MT_PT_SRC, .MT_TB_CFG, .LN_STATUS, .LN_OVERRUN, .LN_DISCARD, .LN_SUB, .LE_CTL, .LE_CMD, .LE_CMD_VAL,
      .LE_CMD_RESULT, .LE_OVERRUN, .LE_FAULT, .LE_LOAD, .LE_FDELAY, .LA_STATUS, .LA_SEL, .LA_LOOP, .LA_SLOT,
      .LA_SURGE, .LA_COUNT, .GY_STATUS, .GY_CH, .GY_COND_LO, .GY_COND_HI, .GY_SET, .GY_CAP, .GY_CMD, .GY_LOST,
      .BN_STATUS, .BN_LOOP, .BN_EPOCH, .BN_HEALTH, .BN_EQ, .BN_VERIFY, .BN_TAKEOVER, .BN_CMD, .BN_HO_AT_LO,
      .BN_HO_AT_HI, .BN_CMD_RESULT, .PN_PORT, .PN_DROP, .PN_PTP, .PN_SEL, .PN_SSTAT, .PN_SVC, .CN_CFG, .CN_CTL,
      .CN_STAT, .CN_ERR, .CN_PROT, .CN_TIMING, .CN_OBJCMD, .CN_OBJRES, .SX_PORT, .SX_LAP, .SX_ERR, .SX_CAR,
      .SX_EPOCH, .UC_CFG, .UC_STAT, .UC_DIAG, .UC_SLICE, .UC_HART, .DC_CFG, .DC_STAT, .DC_DIAG, .DC_GROUP] fun t =>
      bitAt (t.reg .RST_EV_PEND (n.val / 16)) (n.val % 16) = false ∧ (t.pairOf i.val).held = [] ∧
      t.byteGet (0x1D40000 + k) = v ∧ (∀ z, z ≠ 0x1D40000 + k → t.byteGet z = s.byteGet z)) ∧
  (∀ (n : Fin 128) (i : Fin 4) (s : State),
    s.lkMode i.val = 0 ∨ s.lkMode i.val = 3 ∨ 7 ≤ s.lkMode i.val →
    exec (.appInterruptTake n i) s = .next s)

/-- A connection accepted by a running module takes the role of its client certificate. In an open session of a module
that serves, a message whose type needs a higher role than the session's (the least roles of the table of service
message types: Operator 1, Engineer 2, Owner 3) is answered with return code 3 and changes nothing else. It says of
each of these commands, under hypotheses on the state and the operands alone, that exec answers a next state with its
effect: svcConnect. -/
def Obligations.SessionRoles : Prop :=
  (∀ (m : Handshake) (k : Nat) (s : State),
    s.serving = true → s.iazebin = false → s.reaches m.basePort m.port = true → s.freeSess = some k →
    m.suiteOk = true → m.anchorOk = true → m.recovery = !s.accepted →
    Completes (.svcConnect m) s [.regs, .levels, .pn] [.PN_SVC] fun t =>
      (t.sess k).role = m.role ∧ (t.sess k).open_ = true ∧ (∀ j, j ≠ k → t.sess j = s.sess j)) ∧
  (∀ (h : SvcMsg) (n : Nat) (m : List Byte) (f : Fin 16) (g : Fin 16) (s : State),
    (s.sess h.sess.val).open_ = true → s.serving = true → (s.sess h.sess.val).role < 1 →
    exec (.svcMbPost h n m) s = .next ((s.heard h.sess.val).answer h 0x02 3) ∧
    exec (.svcMbStatus h n) s = .next ((s.heard h.sess.val).answer h 0x02 3) ∧
    exec (.svcMbCancel h n) s = .next ((s.heard h.sess.val).answer h 0x02 3) ∧
    exec (.svcGyRelease h f) s = .next ((s.heard h.sess.val).answer h 0x31 3) ∧
    exec (.svcGyFire h g) s = .next ((s.heard h.sess.val).answer h 0x31 3)) ∧
  (∀ (h : SvcMsg) (k : BitVec 8) (w : Instant) (b : Bool) (s : State),
    (s.sess h.sess.val).open_ = true → s.serving = true → (s.sess h.sess.val).role < 2 →
    exec (.updateVerify h k false) s = .next ((s.heard h.sess.val).answer h 0x11 3) ∧
    exec (.updateActivate h k w) s = .next ((s.heard h.sess.val).answer h 0x11 3) ∧
    exec (.updateRoll h k w) s = .next ((s.heard h.sess.val).answer h 0x11 3) ∧
    exec (.updateConfirm h b false) s = .next ((s.heard h.sess.val).answer h 0x11 3) ∧
    exec (.updateRevert h) s = .next ((s.heard h.sess.val).answer h 0x11 3) ∧
    exec (.updateCancel h k false) s = .next ((s.heard h.sess.val).answer h 0x11 3) ∧
    exec (.updateStatus h k) s = .next ((s.heard h.sess.val).answer h 0x11 3)) ∧
  (∀ (h : SvcMsg) (m : BitVec 512) (us : List W64) (b : Bool) (s : State),
    (s.sess h.sess.val).open_ = true → s.serving = true → (s.sess h.sess.val).role < 2 →
    exec (.imageDownloadBlock h m us b) s = .next ((s.heard h.sess.val).answer h 0x10 3) ∧
    exec (.svcMaintEnter h) s = .next ((s.heard h.sess.val).answer h 0x62 3) ∧
    exec (.svcMaintLeave h) s = .next ((s.heard h.sess.val).answer h 0x62 3) ∧
    exec (.svcDormant h) s = .next ((s.heard h.sess.val).answer h 0x62 3)) ∧
  (∀ (h : SvcMsg) (l p : Nat) (a b c : Bool) (v : Word) (n : Fin 32) (m : List Byte) (s : State),
    (s.sess h.sess.val).open_ = true → s.serving = true → (s.sess h.sess.val).role < 2 →
    exec (.adaptForbid h l a b c) s = .next ((s.heard h.sess.val).answer h 0x61 3) ∧
    exec (.adaptLift h l a b c) s = .next ((s.heard h.sess.val).answer h 0x61 3) ∧
    exec (.forcePoint h p v) s = .next ((s.heard h.sess.val).answer h 0x40 3) ∧
    exec (.forceRelease h p) s = .next ((s.heard h.sess.val).answer h 0x40 3) ∧
    exec (.hartPassthrough h n m) s = .next ((s.heard h.sess.val).answer h 0x50 3)) ∧
  (∀ (h : SvcMsg) (x : BitVec 768) (y : BitVec 384) (n : Nat) (s : State),
    (s.sess h.sess.val).open_ = true → s.serving = true → (s.sess h.sess.val).role < 3 →
    exec (.sinterClear h) s = .next ((s.heard h.sess.val).answer h 0x21 3) ∧
    exec (.ownerEnrolment h x y n) s = .next ((s.heard h.sess.val).answer h 0x70 3) ∧
    exec (.reepochOrder h) s = .next ((s.heard h.sess.val).answer h 0x60 3))

/-- A consumer treats a record as missing exactly where its KIND is unassigned (0), reserved (7 and above) or not the
declared kind, whatever its quality byte. An input record is usable exactly where its KIND is Analogue (1) and the
declared one, and either GOOD is set, or ACC_SUBST and SUBSTITUTED are set and OUT_OF_RANGE and NO_AUTHORITY clear;
the engine finds a value at a reference exactly where the record it names is usable, and none at a reference of SRC
0b11. -/
def Obligations.UsableInputs : Prop :=
  (∀ (r : W64) (d : Nat),
    kindMissing r d = true ↔ bits r 47 40 = 0 ∨ 7 ≤ bits r 47 40 ∨ bits r 47 40 ≠ d) ∧
  (∀ (r : W64) (d q : Nat),
    kindMissing (putBits r 39 32 q) d = kindMissing r d) ∧
  (∀ (r : W64) (d : Nat) (a : Bool),
    recUsable r d a = true ↔ bits r 47 40 = 1 ∧ d = 1 ∧
    (bitAt r 32 = true ∨ (a = true ∧ bitAt r 35 = true ∧ bitAt r 37 = false ∧ bitAt r 39 = false))) ∧
  (∀ (f : Nat) (a : Bool) (s : State),
    f < 262144 →
    s.usable f a = (if recUsable (s.piGet f) (s.pointCfg f).kind a then some (Fl.ofBits (recVal (s.piGet f))) else none)) ∧
  (∀ (f : Nat) (a : Bool) (s : State),
    f / 262144 = 3 →
    s.usable f a = none)
end

