-- ==== Sys2Proof/Laws/Bits.lean ====
section
/-! SUPPORT. Bit fields: what a field reads after it, or another field, is written. -/

namespace Sys2Proof

theorem bits_eq_extract {n : Nat} (w : BitVec n) (hi lo : Nat) : bits w hi lo = (w.extractLsb' lo (hi + 1 - lo)).toNat := by
  simp [bits, BitVec.extractLsb', Nat.shiftRight_eq_div_pow]

theorem getLsbD_fieldMask (n hi lo i : Nat) (hle : lo ≤ hi + 1) :
    (fieldMask n hi lo).getLsbD i = (decide (i < n) && decide (lo ≤ i) && decide (i ≤ hi)) := by
  unfold fieldMask
  rw [BitVec.getLsbD_shiftLeft]
  by_cases hn : i < n
  · by_cases hl : i < lo
    · have : ¬ lo ≤ i := by omega
      simp [hn, hl, this]
    · have h1 : lo ≤ i := by omega
      simp only [hn, hl, h1, decide_true, decide_false, Bool.not_false, Bool.true_and]
      rw [BitVec.getLsbD_ofNat, Nat.testBit_two_pow_sub_one]
      have : i - lo < n := by omega
      simp only [this, decide_true, Bool.true_and]
      by_cases h : i ≤ hi
      · have : i - lo < hi + 1 - lo := by omega
        simp [h, this]
      · have : ¬ i - lo < hi + 1 - lo := by omega
        simp [h, this]
  · simp [hn]

theorem getLsbD_putBits {n : Nat} (w : BitVec n) (hi lo v i : Nat) (hle : lo ≤ hi + 1) :
    (putBits w hi lo v).getLsbD i =
      if i < n ∧ lo ≤ i ∧ i ≤ hi then v.testBit (i - lo) else w.getLsbD i := by
  unfold putBits
  rw [BitVec.getLsbD_or, BitVec.getLsbD_and, BitVec.getLsbD_and, BitVec.getLsbD_not, BitVec.getLsbD_shiftLeft,
    getLsbD_fieldMask n hi lo i hle, BitVec.getLsbD_ofNat]
  by_cases hn : i < n
  · by_cases h1 : lo ≤ i
    · have h3 : ¬ i < lo := by omega
      have h4 : i - lo < n := by omega
      by_cases h2 : i ≤ hi
      · simp [hn, h1, h2, h3, h4]
      · simp [hn, h1, h2]
    · simp [hn, h1]
  · have : w.getLsbD i = false := BitVec.getLsbD_of_ge w i (by omega)
    simp [hn, this]

/-- A field written reads as what was written, cut to its width. -/
theorem bits_putBits_same {n : Nat} (w : BitVec n) (hi lo v : Nat) (hh : hi < n) (hl : lo ≤ hi) :
    bits (putBits w hi lo v) hi lo = v % 2 ^ (hi + 1 - lo) := by
  rw [bits_eq_extract]
  apply Nat.eq_of_testBit_eq
  intro i
  rw [BitVec.testBit_toNat, BitVec.getLsbD_extractLsb', getLsbD_putBits _ _ _ _ _ (by omega), Nat.testBit_mod_two_pow]
  by_cases h : i < hi + 1 - lo
  · have h1 : lo + i < n := by omega
    have h2 : lo + i ≤ hi := by omega
    simp [h, h1, h2]
  · simp [h]

/-- A field that lies apart from the field written reads as before. -/
theorem bits_putBits_apart {n : Nat} (w : BitVec n) (hi lo v hi' lo' : Nat) (hl : lo ≤ hi) (h : hi < lo' ∨ hi' < lo) :
    bits (putBits w hi lo v) hi' lo' = bits w hi' lo' := by
  rw [bits_eq_extract, bits_eq_extract]
  apply Nat.eq_of_testBit_eq
  intro i
  rw [BitVec.testBit_toNat, BitVec.testBit_toNat, BitVec.getLsbD_extractLsb', BitVec.getLsbD_extractLsb',
    getLsbD_putBits _ _ _ _ _ (by omega)]
  by_cases hi2 : i < hi' + 1 - lo'
  · have : ¬ (lo + 0 ≤ lo' + i ∧ lo' + i ≤ hi) := by omega
    have h3 : ¬ (lo' + i < n ∧ lo ≤ lo' + i ∧ lo' + i ≤ hi) := by omega
    simp [hi2, h3]
  · simp [hi2]

/-- The value of a field is below two to its width. -/
theorem bits_lt {n : Nat} (w : BitVec n) (hi lo : Nat) : bits w hi lo < 2 ^ (hi + 1 - lo) :=
  Nat.mod_lt _ (Nat.two_pow_pos _)

theorem satAdd_le (top a b : Nat) : satAdd top a b ≤ top := Nat.min_le_left _ _

@[simp] theorem b2n_ne_zero (b : Bool) : (b2n b != 0) = b := by cases b <;> rfl

theorem b2n_lt (b : Bool) : b2n b < 2 := by cases b <;> decide

end Sys2Proof
end

