-- ==== Sys2Proof/Laws/Fields.lean ====
section
/-! SUPPORT. The register of each field, and the numbering of registers by name. -/

namespace Sys2Proof

/-- Registers of different names have different numbers. -/
theorem ctorIdx_inj {m n : RegName} (h : m.ctorIdx = n.ctorIdx) : m = n := by
  rw [← RegName.ofNat_ctorIdx m, ← RegName.ofNat_ctorIdx n, h]

@[simp] theorem ctorIdx_eq {m n : RegName} : m.ctorIdx = n.ctorIdx ↔ m = n := ⟨ctorIdx_inj, fun h => by rw [h]⟩

@[simp] theorem Fld.SUP_START_REFUSAL_reg : Fld.SUP_START_REFUSAL.reg = .SUP_START := Eq.trans rfl rfl
@[simp] theorem Fld.SUP_START_PHASE_reg : Fld.SUP_START_PHASE.reg = .SUP_START := Eq.trans rfl rfl
@[simp] theorem Fld.SUP_START_KEY_CHANGED_reg : Fld.SUP_START_KEY_CHANGED.reg = .SUP_START := Eq.trans rfl rfl
@[simp] theorem Fld.SUP_START_FW_FALLBACK_reg : Fld.SUP_START_FW_FALLBACK.reg = .SUP_START := Eq.trans rfl rfl
@[simp] theorem Fld.SUP_START_FW_BANK_reg : Fld.SUP_START_FW_BANK.reg = .SUP_START := Eq.trans rfl rfl
@[simp] theorem Fld.SUP_START_CFG_BANK_reg : Fld.SUP_START_CFG_BANK.reg = .SUP_START := Eq.trans rfl rfl
@[simp] theorem Fld.SUP_ISLAND_ALIVE_reg : Fld.SUP_ISLAND_ALIVE.reg = .SUP_ISLAND := Eq.trans rfl rfl
@[simp] theorem Fld.SUP_ISLAND_STALL_reg : Fld.SUP_ISLAND_STALL.reg = .SUP_ISLAND := Eq.trans rfl rfl
@[simp] theorem Fld.SUP_ISLAND_CLOCK_BAD_reg : Fld.SUP_ISLAND_CLOCK_BAD.reg = .SUP_ISLAND := Eq.trans rfl rfl
@[simp] theorem Fld.SUP_ISLAND_RESTARTS_reg : Fld.SUP_ISLAND_RESTARTS.reg = .SUP_ISLAND := Eq.trans rfl rfl
@[simp] theorem Fld.SUP_ISLAND_ACC_TIMEOUT_reg : Fld.SUP_ISLAND_ACC_TIMEOUT.reg = .SUP_ISLAND := Eq.trans rfl rfl
@[simp] theorem Fld.SUP_ISLAND_OVERFLOW_reg : Fld.SUP_ISLAND_OVERFLOW.reg = .SUP_ISLAND := Eq.trans rfl rfl
@[simp] theorem Fld.RST_CAUSE_CAUSE_reg : Fld.RST_CAUSE_CAUSE.reg = .RST_CAUSE := Eq.trans rfl rfl
@[simp] theorem Fld.RST_CAUSE_MULTI_reg : Fld.RST_CAUSE_MULTI.reg = .RST_CAUSE := Eq.trans rfl rfl
@[simp] theorem Fld.RST_CAUSE_CALDERA_reg : Fld.RST_CAUSE_CALDERA.reg = .RST_CAUSE := Eq.trans rfl rfl
@[simp] theorem Fld.RST_CAUSE_BO_LATCH_reg : Fld.RST_CAUSE_BO_LATCH.reg = .RST_CAUSE := Eq.trans rfl rfl
@[simp] theorem Fld.RST_CAUSE_LKF_1H_reg : Fld.RST_CAUSE_LKF_1H.reg = .RST_CAUSE := Eq.trans rfl rfl
@[simp] theorem Fld.RST_CAUSE_POWERED_reg : Fld.RST_CAUSE_POWERED.reg = .RST_CAUSE := Eq.trans rfl rfl
@[simp] theorem Fld.RST_CTL_ORDER_reg : Fld.RST_CTL_ORDER.reg = .RST_CTL := Eq.trans rfl rfl
@[simp] theorem Fld.RST_WDOG_KICK_reg : Fld.RST_WDOG_KICK.reg = .RST_WDOG := Eq.trans rfl rfl
@[simp] theorem Fld.RST_WDOG_REMAIN_reg : Fld.RST_WDOG_REMAIN.reg = .RST_WDOG := Eq.trans rfl rfl
@[simp] theorem Fld.RST_POWER_FEED_A_reg : Fld.RST_POWER_FEED_A.reg = .RST_POWER := Eq.trans rfl rfl
@[simp] theorem Fld.RST_POWER_FEED_B_reg : Fld.RST_POWER_FEED_B.reg = .RST_POWER := Eq.trans rfl rfl
@[simp] theorem Fld.RST_POWER_HOLDUP_reg : Fld.RST_POWER_HOLDUP.reg = .RST_POWER := Eq.trans rfl rfl
@[simp] theorem Fld.RST_POWER_DORMANT_reg : Fld.RST_POWER_DORMANT.reg = .RST_POWER := Eq.trans rfl rfl
@[simp] theorem Fld.RST_POWER_HOLDUP_OK_reg : Fld.RST_POWER_HOLDUP_OK.reg = .RST_POWER := Eq.trans rfl rfl
@[simp] theorem Fld.RST_POWER_CHARGE_reg : Fld.RST_POWER_CHARGE.reg = .RST_POWER := Eq.trans rfl rfl
@[simp] theorem Fld.RST_POWER_VOLTS_A_reg : Fld.RST_POWER_VOLTS_A.reg = .RST_POWER := Eq.trans rfl rfl
@[simp] theorem Fld.RST_POWER_VOLTS_B_reg : Fld.RST_POWER_VOLTS_B.reg = .RST_POWER := Eq.trans rfl rfl
@[simp] theorem Fld.RST_EV_PEND_PEND_reg : Fld.RST_EV_PEND_PEND.reg = .RST_EV_PEND := Eq.trans rfl rfl
@[simp] theorem Fld.RST_EV_ROUTE_APP_reg : Fld.RST_EV_ROUTE_APP.reg = .RST_EV_ROUTE := Eq.trans rfl rfl
@[simp] theorem Fld.RST_EV_ROUTE_SUP_reg : Fld.RST_EV_ROUTE_SUP.reg = .RST_EV_ROUTE := Eq.trans rfl rfl
@[simp] theorem Fld.RST_EV_SUM_GROUP_reg : Fld.RST_EV_SUM_GROUP.reg = .RST_EV_SUM := Eq.trans rfl rfl
@[simp] theorem Fld.AC_CTL_LIFE_reg : Fld.AC_CTL_LIFE.reg = .AC_CTL := Eq.trans rfl rfl
@[simp] theorem Fld.AC_CTL_DEBUG_EN_reg : Fld.AC_CTL_DEBUG_EN.reg = .AC_CTL := Eq.trans rfl rfl
@[simp] theorem Fld.AC_CTL_DEBUG_ON_reg : Fld.AC_CTL_DEBUG_ON.reg = .AC_CTL := Eq.trans rfl rfl
@[simp] theorem Fld.AC_CTL_LOCK_reg : Fld.AC_CTL_LOCK.reg = .AC_CTL := Eq.trans rfl rfl
@[simp] theorem Fld.AC_SLOT_EN_reg : Fld.AC_SLOT_EN.reg = .AC_SLOT := Eq.trans rfl rfl
@[simp] theorem Fld.AC_SLOT_LOCKED_reg : Fld.AC_SLOT_LOCKED.reg = .AC_SLOT := Eq.trans rfl rfl
@[simp] theorem Fld.AC_SLOT_RT_R_reg : Fld.AC_SLOT_RT_R.reg = .AC_SLOT := Eq.trans rfl rfl
@[simp] theorem Fld.AC_SLOT_RT_W_reg : Fld.AC_SLOT_RT_W.reg = .AC_SLOT := Eq.trans rfl rfl
@[simp] theorem Fld.AC_SLOT_USR_R_reg : Fld.AC_SLOT_USR_R.reg = .AC_SLOT := Eq.trans rfl rfl
@[simp] theorem Fld.AC_SLOT_USR_W_reg : Fld.AC_SLOT_USR_W.reg = .AC_SLOT := Eq.trans rfl rfl
@[simp] theorem Fld.AC_SLOT_SPL_R_reg : Fld.AC_SLOT_SPL_R.reg = .AC_SLOT := Eq.trans rfl rfl
@[simp] theorem Fld.AC_SLOT_DBG_R_reg : Fld.AC_SLOT_DBG_R.reg = .AC_SLOT := Eq.trans rfl rfl
@[simp] theorem Fld.AC_SLOT_DBG_W_reg : Fld.AC_SLOT_DBG_W.reg = .AC_SLOT := Eq.trans rfl rfl
@[simp] theorem Fld.AC_FAULT_VALID_reg : Fld.AC_FAULT_VALID.reg = .AC_FAULT := Eq.trans rfl rfl
@[simp] theorem Fld.AC_FAULT_OVERRUN_reg : Fld.AC_FAULT_OVERRUN.reg = .AC_FAULT := Eq.trans rfl rfl
@[simp] theorem Fld.AC_FAULT_CLASS_reg : Fld.AC_FAULT_CLASS.reg = .AC_FAULT := Eq.trans rfl rfl
@[simp] theorem Fld.AC_FAULT_CORE_reg : Fld.AC_FAULT_CORE.reg = .AC_FAULT := Eq.trans rfl rfl
@[simp] theorem Fld.AC_FAULT_WRITE_reg : Fld.AC_FAULT_WRITE.reg = .AC_FAULT := Eq.trans rfl rfl
@[simp] theorem Fld.AC_FAULT_PARTS_reg : Fld.AC_FAULT_PARTS.reg = .AC_FAULT := Eq.trans rfl rfl
@[simp] theorem Fld.AC_FAULT_REASON0_reg : Fld.AC_FAULT_REASON0.reg = .AC_FAULT := Eq.trans rfl rfl
@[simp] theorem Fld.AC_FAULT_REASON1_reg : Fld.AC_FAULT_REASON1.reg = .AC_FAULT := Eq.trans rfl rfl
@[simp] theorem Fld.AC_FAULT_SIZE_reg : Fld.AC_FAULT_SIZE.reg = .AC_FAULT := Eq.trans rfl rfl
@[simp] theorem Fld.AC_FAULT_COUNT_reg : Fld.AC_FAULT_COUNT.reg = .AC_FAULT := Eq.trans rfl rfl
@[simp] theorem Fld.AC_FAULT_ADDR_LO_ADDR_reg : Fld.AC_FAULT_ADDR_LO_ADDR.reg = .AC_FAULT_ADDR_LO := Eq.trans rfl rfl
@[simp] theorem Fld.AC_FAULT_ADDR_HI_ADDR_reg : Fld.AC_FAULT_ADDR_HI_ADDR.reg = .AC_FAULT_ADDR_HI := Eq.trans rfl rfl
@[simp] theorem Fld.AC_ECC_UNCORR_SRAM_reg : Fld.AC_ECC_UNCORR_SRAM.reg = .AC_ECC := Eq.trans rfl rfl
@[simp] theorem Fld.AC_ECC_UNCORR_DRAM_reg : Fld.AC_ECC_UNCORR_DRAM.reg = .AC_ECC := Eq.trans rfl rfl
@[simp] theorem Fld.AC_ECC_CORRECTED_reg : Fld.AC_ECC_CORRECTED.reg = .AC_ECC := Eq.trans rfl rfl
@[simp] theorem Fld.AC_SCRUB_SRAM_SWEEPS_reg : Fld.AC_SCRUB_SRAM_SWEEPS.reg = .AC_SCRUB := Eq.trans rfl rfl
@[simp] theorem Fld.AC_SCRUB_DRAM_PROGRESS_reg : Fld.AC_SCRUB_DRAM_PROGRESS.reg = .AC_SCRUB := Eq.trans rfl rfl
@[simp] theorem Fld.AC_SCRUB_DRAM_SWEEPS_reg : Fld.AC_SCRUB_DRAM_SWEEPS.reg = .AC_SCRUB := Eq.trans rfl rfl
@[simp] theorem Fld.PK_STATUS_PRESENT_reg : Fld.PK_STATUS_PRESENT.reg = .PK_STATUS := Eq.trans rfl rfl
@[simp] theorem Fld.PK_STATUS_SERIAL_OK_reg : Fld.PK_STATUS_SERIAL_OK.reg = .PK_STATUS := Eq.trans rfl rfl
@[simp] theorem Fld.PK_STATUS_WRITABLE_reg : Fld.PK_STATUS_WRITABLE.reg = .PK_STATUS := Eq.trans rfl rfl
@[simp] theorem Fld.PK_STATUS_HEADER_OK_reg : Fld.PK_STATUS_HEADER_OK.reg = .PK_STATUS := Eq.trans rfl rfl
@[simp] theorem Fld.PK_STATUS_SEL_COPY_reg : Fld.PK_STATUS_SEL_COPY.reg = .PK_STATUS := Eq.trans rfl rfl
@[simp] theorem Fld.PK_STATUS_COPIES_DIFFER_reg : Fld.PK_STATUS_COPIES_DIFFER.reg = .PK_STATUS := Eq.trans rfl rfl
@[simp] theorem Fld.PK_STATUS_VALID_COPIES_reg : Fld.PK_STATUS_VALID_COPIES.reg = .PK_STATUS := Eq.trans rfl rfl
@[simp] theorem Fld.PK_SEQ_SEQUENCE_reg : Fld.PK_SEQ_SEQUENCE.reg = .PK_SEQ := Eq.trans rfl rfl
@[simp] theorem Fld.PK_SERIAL_LO_SERIAL_reg : Fld.PK_SERIAL_LO_SERIAL.reg = .PK_SERIAL_LO := Eq.trans rfl rfl
@[simp] theorem Fld.PK_SERIAL_HI_SERIAL_reg : Fld.PK_SERIAL_HI_SERIAL.reg = .PK_SERIAL_HI := Eq.trans rfl rfl
@[simp] theorem Fld.UP_STATUS_PHASE_reg : Fld.UP_STATUS_PHASE.reg = .UP_STATUS := Eq.trans rfl rfl
@[simp] theorem Fld.UP_STATUS_STEP_reg : Fld.UP_STATUS_STEP.reg = .UP_STATUS := Eq.trans rfl rfl
@[simp] theorem Fld.UP_STATUS_LOCKED_reg : Fld.UP_STATUS_LOCKED.reg = .UP_STATUS := Eq.trans rfl rfl
@[simp] theorem Fld.UP_STATUS_HOLDUP_OK_reg : Fld.UP_STATUS_HOLDUP_OK.reg = .UP_STATUS := Eq.trans rfl rfl
@[simp] theorem Fld.UP_STATUS_TRANSITION_reg : Fld.UP_STATUS_TRANSITION.reg = .UP_STATUS := Eq.trans rfl rfl
@[simp] theorem Fld.UP_STATUS_INTERRUPT_reg : Fld.UP_STATUS_INTERRUPT.reg = .UP_STATUS := Eq.trans rfl rfl
@[simp] theorem Fld.UP_STATUS_FW_TRIAL_reg : Fld.UP_STATUS_FW_TRIAL.reg = .UP_STATUS := Eq.trans rfl rfl
@[simp] theorem Fld.UP_STATUS_CFG_TRIAL_reg : Fld.UP_STATUS_CFG_TRIAL.reg = .UP_STATUS := Eq.trans rfl rfl
@[simp] theorem Fld.UP_STATUS_LAST_CODE_reg : Fld.UP_STATUS_LAST_CODE.reg = .UP_STATUS := Eq.trans rfl rfl
@[simp] theorem Fld.UP_PROGRESS_STATE_reg : Fld.UP_PROGRESS_STATE.reg = .UP_PROGRESS := Eq.trans rfl rfl
@[simp] theorem Fld.UP_PROGRESS_BANK_reg : Fld.UP_PROGRESS_BANK.reg = .UP_PROGRESS := Eq.trans rfl rfl
@[simp] theorem Fld.UP_PROGRESS_CONFIRMED_reg : Fld.UP_PROGRESS_CONFIRMED.reg = .UP_PROGRESS := Eq.trans rfl rfl
@[simp] theorem Fld.UP_PROGRESS_TOTAL_reg : Fld.UP_PROGRESS_TOTAL.reg = .UP_PROGRESS := Eq.trans rfl rfl
@[simp] theorem Fld.UP_TRIAL_BOOTS_reg : Fld.UP_TRIAL_BOOTS.reg = .UP_TRIAL := Eq.trans rfl rfl
@[simp] theorem Fld.UP_TRIAL_RUN_reg : Fld.UP_TRIAL_RUN.reg = .UP_TRIAL := Eq.trans rfl rfl
@[simp] theorem Fld.SN_STATUS_KEY_OK_reg : Fld.SN_STATUS_KEY_OK.reg = .SN_STATUS := Eq.trans rfl rfl
@[simp] theorem Fld.SN_STATUS_FLUSH_reg : Fld.SN_STATUS_FLUSH.reg = .SN_STATUS := Eq.trans rfl rfl
@[simp] theorem Fld.SN_STATUS_RESERVE_reg : Fld.SN_STATUS_RESERVE.reg = .SN_STATUS := Eq.trans rfl rfl
@[simp] theorem Fld.SN_STATUS_OCCUPANCY_reg : Fld.SN_STATUS_OCCUPANCY.reg = .SN_STATUS := Eq.trans rfl rfl
@[simp] theorem Fld.SN_NEWEST_LO_SEQ_reg : Fld.SN_NEWEST_LO_SEQ.reg = .SN_NEWEST_LO := Eq.trans rfl rfl
@[simp] theorem Fld.SN_NEWEST_HI_SEQ_reg : Fld.SN_NEWEST_HI_SEQ.reg = .SN_NEWEST_HI := Eq.trans rfl rfl
@[simp] theorem Fld.SN_OLDEST_LO_SEQ_reg : Fld.SN_OLDEST_LO_SEQ.reg = .SN_OLDEST_LO := Eq.trans rfl rfl
@[simp] theorem Fld.SN_OLDEST_HI_SEQ_reg : Fld.SN_OLDEST_HI_SEQ.reg = .SN_OLDEST_HI := Eq.trans rfl rfl
@[simp] theorem Fld.SN_LOST_OTHER_reg : Fld.SN_LOST_OTHER.reg = .SN_LOST := Eq.trans rfl rfl
@[simp] theorem Fld.SN_LOST_FAULT_reg : Fld.SN_LOST_FAULT.reg = .SN_LOST := Eq.trans rfl rfl
@[simp] theorem Fld.SN_SUPPRESSED_COUNT_reg : Fld.SN_SUPPRESSED_COUNT.reg = .SN_SUPPRESSED := Eq.trans rfl rfl
@[simp] theorem Fld.SN_CURSOR_LO_SEQ_reg : Fld.SN_CURSOR_LO_SEQ.reg = .SN_CURSOR_LO := Eq.trans rfl rfl
@[simp] theorem Fld.SN_CURSOR_HI_SEQ_reg : Fld.SN_CURSOR_HI_SEQ.reg = .SN_CURSOR_HI := Eq.trans rfl rfl
@[simp] theorem Fld.SN_WSTAT_BUSY_reg : Fld.SN_WSTAT_BUSY.reg = .SN_WSTAT := Eq.trans rfl rfl
@[simp] theorem Fld.SN_WSTAT_LOADED_reg : Fld.SN_WSTAT_LOADED.reg = .SN_WSTAT := Eq.trans rfl rfl
@[simp] theorem Fld.SN_WSTAT_BAD_reg : Fld.SN_WSTAT_BAD.reg = .SN_WSTAT := Eq.trans rfl rfl
@[simp] theorem Fld.SN_WSTAT_CODE_reg : Fld.SN_WSTAT_CODE.reg = .SN_WSTAT := Eq.trans rfl rfl
@[simp] theorem Fld.MB_STAT_STATE_reg : Fld.MB_STAT_STATE.reg = .MB_STAT := Eq.trans rfl rfl
@[simp] theorem Fld.MB_STAT_COLLISION_reg : Fld.MB_STAT_COLLISION.reg = .MB_STAT := Eq.trans rfl rfl
@[simp] theorem Fld.MB_STAT_ACK_LOST_reg : Fld.MB_STAT_ACK_LOST.reg = .MB_STAT := Eq.trans rfl rfl
@[simp] theorem Fld.MB_STAT_STRAY_reg : Fld.MB_STAT_STRAY.reg = .MB_STAT := Eq.trans rfl rfl
@[simp] theorem Fld.MB_STAT_DELIVERED_reg : Fld.MB_STAT_DELIVERED.reg = .MB_STAT := Eq.trans rfl rfl
@[simp] theorem Fld.MB_STAT_KIND_reg : Fld.MB_STAT_KIND.reg = .MB_STAT := Eq.trans rfl rfl
@[simp] theorem Fld.MB_STAT_RINGS_reg : Fld.MB_STAT_RINGS.reg = .MB_STAT := Eq.trans rfl rfl
@[simp] theorem Fld.MB_STAT_WAIT_reg : Fld.MB_STAT_WAIT.reg = .MB_STAT := Eq.trans rfl rfl
@[simp] theorem Fld.MB_DOOR_RING_reg : Fld.MB_DOOR_RING.reg = .MB_DOOR := Eq.trans rfl rfl
@[simp] theorem Fld.MB_DOOR_CANCEL_reg : Fld.MB_DOOR_CANCEL.reg = .MB_DOOR := Eq.trans rfl rfl
@[simp] theorem Fld.MB_ACK_DONE_reg : Fld.MB_ACK_DONE.reg = .MB_ACK := Eq.trans rfl rfl
@[simp] theorem Fld.MB_ACK_COLLIDED_reg : Fld.MB_ACK_COLLIDED.reg = .MB_ACK := Eq.trans rfl rfl
@[simp] theorem Fld.MB_ACK_CODE_reg : Fld.MB_ACK_CODE.reg = .MB_ACK := Eq.trans rfl rfl
@[simp] theorem Fld.LK_PAIR_MODE_reg : Fld.LK_PAIR_MODE.reg = .LK_PAIR := Eq.trans rfl rfl
@[simp] theorem Fld.LK_PAIR_SPLITTABLE_reg : Fld.LK_PAIR_SPLITTABLE.reg = .LK_PAIR := Eq.trans rfl rfl
@[simp] theorem Fld.LK_PAIR_SINGLE_reg : Fld.LK_PAIR_SINGLE.reg = .LK_PAIR := Eq.trans rfl rfl
@[simp] theorem Fld.LK_PAIR_CMP_X_OK_reg : Fld.LK_PAIR_CMP_X_OK.reg = .LK_PAIR := Eq.trans rfl rfl
@[simp] theorem Fld.LK_PAIR_CMP_Y_OK_reg : Fld.LK_PAIR_CMP_Y_OK.reg = .LK_PAIR := Eq.trans rfl rfl
@[simp] theorem Fld.LK_PAIR_WRITES_LEFT_reg : Fld.LK_PAIR_WRITES_LEFT.reg = .LK_PAIR := Eq.trans rfl rfl
@[simp] theorem Fld.LK_FAULT_CLASS_reg : Fld.LK_FAULT_CLASS.reg = .LK_FAULT := Eq.trans rfl rfl
@[simp] theorem Fld.LK_FAULT_STAGE_reg : Fld.LK_FAULT_STAGE.reg = .LK_FAULT := Eq.trans rfl rfl
@[simp] theorem Fld.LK_FAULT_WRITE_reg : Fld.LK_FAULT_WRITE.reg = .LK_FAULT := Eq.trans rfl rfl
@[simp] theorem Fld.LK_COUNT_TRANSIENT_reg : Fld.LK_COUNT_TRANSIENT.reg = .LK_COUNT := Eq.trans rfl rfl
@[simp] theorem Fld.LK_COUNT_DISAGREE_reg : Fld.LK_COUNT_DISAGREE.reg = .LK_COUNT := Eq.trans rfl rfl
@[simp] theorem Fld.LK_COUNT_PARITY_reg : Fld.LK_COUNT_PARITY.reg = .LK_COUNT := Eq.trans rfl rfl
@[simp] theorem Fld.LK_COUNT_SPLITS_reg : Fld.LK_COUNT_SPLITS.reg = .LK_COUNT := Eq.trans rfl rfl
@[simp] theorem Fld.LK_MISS_LO_DIFF_reg : Fld.LK_MISS_LO_DIFF.reg = .LK_MISS_LO := Eq.trans rfl rfl
@[simp] theorem Fld.LK_MISS_HI_DIFF_reg : Fld.LK_MISS_HI_DIFF.reg = .LK_MISS_HI := Eq.trans rfl rfl
@[simp] theorem Fld.LK_CMD_CMD_reg : Fld.LK_CMD_CMD.reg = .LK_CMD := Eq.trans rfl rfl
@[simp] theorem Fld.LK_CMD_PAIR_reg : Fld.LK_CMD_PAIR.reg = .LK_CMD := Eq.trans rfl rfl
@[simp] theorem Fld.LK_CMD_RESULT_BUSY_reg : Fld.LK_CMD_RESULT_BUSY.reg = .LK_CMD_RESULT := Eq.trans rfl rfl
@[simp] theorem Fld.LK_CMD_RESULT_CODE_reg : Fld.LK_CMD_RESULT_CODE.reg = .LK_CMD_RESULT := Eq.trans rfl rfl
@[simp] theorem Fld.MT_STATE_REEPOCH_RESULT_reg : Fld.MT_STATE_REEPOCH_RESULT.reg = .MT_STATE := Eq.trans rfl rfl
@[simp] theorem Fld.MT_STATE_PPS_VALID_reg : Fld.MT_STATE_PPS_VALID.reg = .MT_STATE := Eq.trans rfl rfl
@[simp] theorem Fld.MT_STATE_F10M_VALID_reg : Fld.MT_STATE_F10M_VALID.reg = .MT_STATE := Eq.trans rfl rfl
@[simp] theorem Fld.MT_STATE_COORD_DEGRADED_reg : Fld.MT_STATE_COORD_DEGRADED.reg = .MT_STATE := Eq.trans rfl rfl
@[simp] theorem Fld.MT_STATE_REEPOCHED_reg : Fld.MT_STATE_REEPOCHED.reg = .MT_STATE := Eq.trans rfl rfl
@[simp] theorem Fld.MT_STATE_SOURCE_reg : Fld.MT_STATE_SOURCE.reg = .MT_STATE := Eq.trans rfl rfl
@[simp] theorem Fld.MT_STATE_STATE_reg : Fld.MT_STATE_STATE.reg = .MT_STATE := Eq.trans rfl rfl
@[simp] theorem Fld.MT_CTL_REEPOCH_reg : Fld.MT_CTL_REEPOCH.reg = .MT_CTL := Eq.trans rfl rfl
@[simp] theorem Fld.MT_CTL_LATCH_reg : Fld.MT_CTL_LATCH.reg = .MT_CTL := Eq.trans rfl rfl
@[simp] theorem Fld.MT_OFFSET_OFFSET_reg : Fld.MT_OFFSET_OFFSET.reg = .MT_OFFSET := Eq.trans rfl rfl
@[simp] theorem Fld.MT_ERR_EST_ERR_EST_reg : Fld.MT_ERR_EST_ERR_EST.reg = .MT_ERR_EST := Eq.trans rfl rfl
@[simp] theorem Fld.MT_OUTLIERS_COUNT_reg : Fld.MT_OUTLIERS_COUNT.reg = .MT_OUTLIERS := Eq.trans rfl rfl
@[simp] theorem Fld.MT_PT_SRC_BASE_reg : Fld.MT_PT_SRC_BASE.reg = .MT_PT_SRC := Eq.trans rfl rfl
@[simp] theorem Fld.MT_TB_CFG_EN_reg : Fld.MT_TB_CFG_EN.reg = .MT_TB_CFG := Eq.trans rfl rfl
@[simp] theorem Fld.MT_TB_CFG_DOMAIN_reg : Fld.MT_TB_CFG_DOMAIN.reg = .MT_TB_CFG := Eq.trans rfl rfl
@[simp] theorem Fld.MT_TB_CFG_SOURCE_reg : Fld.MT_TB_CFG_SOURCE.reg = .MT_TB_CFG := Eq.trans rfl rfl
@[simp] theorem Fld.MT_TB_CFG_STEPPED_reg : Fld.MT_TB_CFG_STEPPED.reg = .MT_TB_CFG := Eq.trans rfl rfl
@[simp] theorem Fld.MT_TB_CFG_SYNCED_reg : Fld.MT_TB_CFG_SYNCED.reg = .MT_TB_CFG := Eq.trans rfl rfl
@[simp] theorem Fld.MT_TB_CFG_PORT_reg : Fld.MT_TB_CFG_PORT.reg = .MT_TB_CFG := Eq.trans rfl rfl
@[simp] theorem Fld.LN_STATUS_GROUPS_reg : Fld.LN_STATUS_GROUPS.reg = .LN_STATUS := Eq.trans rfl rfl
@[simp] theorem Fld.LN_STATUS_INPUT_LATE_reg : Fld.LN_STATUS_INPUT_LATE.reg = .LN_STATUS := Eq.trans rfl rfl
@[simp] theorem Fld.LN_STATUS_SLOW_RUN_reg : Fld.LN_STATUS_SLOW_RUN.reg = .LN_STATUS := Eq.trans rfl rfl
@[simp] theorem Fld.LN_STATUS_STD_RUN_reg : Fld.LN_STATUS_STD_RUN.reg = .LN_STATUS := Eq.trans rfl rfl
@[simp] theorem Fld.LN_STATUS_FAST_RUN_reg : Fld.LN_STATUS_FAST_RUN.reg = .LN_STATUS := Eq.trans rfl rfl
@[simp] theorem Fld.LN_OVERRUN_TASK_reg : Fld.LN_OVERRUN_TASK.reg = .LN_OVERRUN := Eq.trans rfl rfl
@[simp] theorem Fld.LN_OVERRUN_SAMPLE_reg : Fld.LN_OVERRUN_SAMPLE.reg = .LN_OVERRUN := Eq.trans rfl rfl
@[simp] theorem Fld.LN_DISCARD_LATE_ARRIVAL_reg : Fld.LN_DISCARD_LATE_ARRIVAL.reg = .LN_DISCARD := Eq.trans rfl rfl
@[simp] theorem Fld.LN_DISCARD_OLD_EPOCH_reg : Fld.LN_DISCARD_OLD_EPOCH.reg = .LN_DISCARD := Eq.trans rfl rfl
@[simp] theorem Fld.LN_SUB_SEEN_reg : Fld.LN_SUB_SEEN.reg = .LN_SUB := Eq.trans rfl rfl
@[simp] theorem Fld.LN_SUB_DEGRADED_SEEN_reg : Fld.LN_SUB_DEGRADED_SEEN.reg = .LN_SUB := Eq.trans rfl rfl
@[simp] theorem Fld.LN_SUB_COORD_REQUIRED_reg : Fld.LN_SUB_COORD_REQUIRED.reg = .LN_SUB := Eq.trans rfl rfl
@[simp] theorem Fld.LN_SUB_CLASH_reg : Fld.LN_SUB_CLASH.reg = .LN_SUB := Eq.trans rfl rfl
@[simp] theorem Fld.LN_SUB_MALFORMED_reg : Fld.LN_SUB_MALFORMED.reg = .LN_SUB := Eq.trans rfl rfl
@[simp] theorem Fld.LN_SUB_MISSED_reg : Fld.LN_SUB_MISSED.reg = .LN_SUB := Eq.trans rfl rfl
@[simp] theorem Fld.LE_CTL_LANE_EN_reg : Fld.LE_CTL_LANE_EN.reg = .LE_CTL := Eq.trans rfl rfl
@[simp] theorem Fld.LE_CTL_FAILED_reg : Fld.LE_CTL_FAILED.reg = .LE_CTL := Eq.trans rfl rfl
@[simp] theorem Fld.LE_CTL_DEGRADED_reg : Fld.LE_CTL_DEGRADED.reg = .LE_CTL := Eq.trans rfl rfl
@[simp] theorem Fld.LE_CTL_RUN_reg : Fld.LE_CTL_RUN.reg = .LE_CTL := Eq.trans rfl rfl
@[simp] theorem Fld.LE_CMD_CMD_reg : Fld.LE_CMD_CMD.reg = .LE_CMD := Eq.trans rfl rfl
@[simp] theorem Fld.LE_CMD_SET_reg : Fld.LE_CMD_SET.reg = .LE_CMD := Eq.trans rfl rfl
@[simp] theorem Fld.LE_CMD_LOOP_reg : Fld.LE_CMD_LOOP.reg = .LE_CMD := Eq.trans rfl rfl
@[simp] theorem Fld.LE_CMD_VAL_VALUE_reg : Fld.LE_CMD_VAL_VALUE.reg = .LE_CMD_VAL := Eq.trans rfl rfl
@[simp] theorem Fld.LE_CMD_RESULT_BUSY_reg : Fld.LE_CMD_RESULT_BUSY.reg = .LE_CMD_RESULT := Eq.trans rfl rfl
@[simp] theorem Fld.LE_CMD_RESULT_CODE_reg : Fld.LE_CMD_RESULT_CODE.reg = .LE_CMD_RESULT := Eq.trans rfl rfl
@[simp] theorem Fld.LE_OVERRUN_LOOPS_reg : Fld.LE_OVERRUN_LOOPS.reg = .LE_OVERRUN := Eq.trans rfl rfl
@[simp] theorem Fld.LE_FAULT_CAUSE_reg : Fld.LE_FAULT_CAUSE.reg = .LE_FAULT := Eq.trans rfl rfl
@[simp] theorem Fld.LE_FAULT_COUNT_reg : Fld.LE_FAULT_COUNT.reg = .LE_FAULT := Eq.trans rfl rfl
@[simp] theorem Fld.LE_FAULT_LOOP_reg : Fld.LE_FAULT_LOOP.reg = .LE_FAULT := Eq.trans rfl rfl
@[simp] theorem Fld.LE_LOAD_PEAK_reg : Fld.LE_LOAD_PEAK.reg = .LE_LOAD := Eq.trans rfl rfl
@[simp] theorem Fld.LE_FDELAY_MAX_reg : Fld.LE_FDELAY_MAX.reg = .LE_FDELAY := Eq.trans rfl rfl
@[simp] theorem Fld.LE_FDELAY_LAST_reg : Fld.LE_FDELAY_LAST.reg = .LE_FDELAY := Eq.trans rfl rfl
@[simp] theorem Fld.LA_STATUS_SURGE_ON_reg : Fld.LA_STATUS_SURGE_ON.reg = .LA_STATUS := Eq.trans rfl rfl
@[simp] theorem Fld.LA_STATUS_TESTS_reg : Fld.LA_STATUS_TESTS.reg = .LA_STATUS := Eq.trans rfl rfl
@[simp] theorem Fld.LA_STATUS_EN_reg : Fld.LA_STATUS_EN.reg = .LA_STATUS := Eq.trans rfl rfl
@[simp] theorem Fld.LA_SEL_LOOP_reg : Fld.LA_SEL_LOOP.reg = .LA_SEL := Eq.trans rfl rfl
@[simp] theorem Fld.LA_LOOP_P_IDENT_reg : Fld.LA_LOOP_P_IDENT.reg = .LA_LOOP := Eq.trans rfl rfl
@[simp] theorem Fld.LA_LOOP_P_INSTALL_reg : Fld.LA_LOOP_P_INSTALL.reg = .LA_LOOP := Eq.trans rfl rfl
@[simp] theorem Fld.LA_LOOP_P_SURGE_reg : Fld.LA_LOOP_P_SURGE.reg = .LA_LOOP := Eq.trans rfl rfl
@[simp] theorem Fld.LA_LOOP_F_IDENT_reg : Fld.LA_LOOP_F_IDENT.reg = .LA_LOOP := Eq.trans rfl rfl
@[simp] theorem Fld.LA_LOOP_F_INSTALL_reg : Fld.LA_LOOP_F_INSTALL.reg = .LA_LOOP := Eq.trans rfl rfl
@[simp] theorem Fld.LA_LOOP_F_SURGE_reg : Fld.LA_LOOP_F_SURGE.reg = .LA_LOOP := Eq.trans rfl rfl
@[simp] theorem Fld.LA_LOOP_PHASE_reg : Fld.LA_LOOP_PHASE.reg = .LA_LOOP := Eq.trans rfl rfl
@[simp] theorem Fld.LA_LOOP_RETURN_SET_reg : Fld.LA_LOOP_RETURN_SET.reg = .LA_LOOP := Eq.trans rfl rfl
@[simp] theorem Fld.LA_LOOP_LAST_REASON_reg : Fld.LA_LOOP_LAST_REASON.reg = .LA_LOOP := Eq.trans rfl rfl
@[simp] theorem Fld.LA_SLOT_BUSY_reg : Fld.LA_SLOT_BUSY.reg = .LA_SLOT := Eq.trans rfl rfl
@[simp] theorem Fld.LA_SLOT_METHOD_reg : Fld.LA_SLOT_METHOD.reg = .LA_SLOT := Eq.trans rfl rfl
@[simp] theorem Fld.LA_SLOT_ELAPSED_reg : Fld.LA_SLOT_ELAPSED.reg = .LA_SLOT := Eq.trans rfl rfl
@[simp] theorem Fld.LA_SLOT_LOOP_reg : Fld.LA_SLOT_LOOP.reg = .LA_SLOT := Eq.trans rfl rfl
@[simp] theorem Fld.LA_SURGE_STATE_reg : Fld.LA_SURGE_STATE.reg = .LA_SURGE := Eq.trans rfl rfl
@[simp] theorem Fld.LA_SURGE_COUNT_reg : Fld.LA_SURGE_COUNT.reg = .LA_SURGE := Eq.trans rfl rfl
@[simp] theorem Fld.LA_SURGE_MARGIN_reg : Fld.LA_SURGE_MARGIN.reg = .LA_SURGE := Eq.trans rfl rfl
@[simp] theorem Fld.LA_COUNT_SURGE_reg : Fld.LA_COUNT_SURGE.reg = .LA_COUNT := Eq.trans rfl rfl
@[simp] theorem Fld.LA_COUNT_REVERT_reg : Fld.LA_COUNT_REVERT.reg = .LA_COUNT := Eq.trans rfl rfl
@[simp] theorem Fld.LA_COUNT_INSTALL_reg : Fld.LA_COUNT_INSTALL.reg = .LA_COUNT := Eq.trans rfl rfl
@[simp] theorem Fld.LA_COUNT_ABORT_reg : Fld.LA_COUNT_ABORT.reg = .LA_COUNT := Eq.trans rfl rfl
@[simp] theorem Fld.GY_STATUS_LEVEL_reg : Fld.GY_STATUS_LEVEL.reg = .GY_STATUS := Eq.trans rfl rfl
@[simp] theorem Fld.GY_STATUS_STAGE_FILL_reg : Fld.GY_STATUS_STAGE_FILL.reg = .GY_STATUS := Eq.trans rfl rfl
@[simp] theorem Fld.GY_STATUS_ARCH_FILL_reg : Fld.GY_STATUS_ARCH_FILL.reg = .GY_STATUS := Eq.trans rfl rfl
@[simp] theorem Fld.GY_STATUS_FROZEN_reg : Fld.GY_STATUS_FROZEN.reg = .GY_STATUS := Eq.trans rfl rfl
@[simp] theorem Fld.GY_CH_EN_reg : Fld.GY_CH_EN.reg = .GY_CH := Eq.trans rfl rfl
@[simp] theorem Fld.GY_CH_TRIGGERED_reg : Fld.GY_CH_TRIGGERED.reg = .GY_CH := Eq.trans rfl rfl
@[simp] theorem Fld.GY_CH_LOSSLESS_reg : Fld.GY_CH_LOSSLESS.reg = .GY_CH := Eq.trans rfl rfl
@[simp] theorem Fld.GY_CH_PRIO_reg : Fld.GY_CH_PRIO.reg = .GY_CH := Eq.trans rfl rfl
@[simp] theorem Fld.GY_CH_MODE_reg : Fld.GY_CH_MODE.reg = .GY_CH := Eq.trans rfl rfl
@[simp] theorem Fld.GY_CH_SOURCE_reg : Fld.GY_CH_SOURCE.reg = .GY_CH := Eq.trans rfl rfl
@[simp] theorem Fld.GY_CH_FACTOR_reg : Fld.GY_CH_FACTOR.reg = .GY_CH := Eq.trans rfl rfl
@[simp] theorem Fld.GY_COND_LO_STATE_reg : Fld.GY_COND_LO_STATE.reg = .GY_COND_LO := Eq.trans rfl rfl
@[simp] theorem Fld.GY_COND_HI_STATE_reg : Fld.GY_COND_HI_STATE.reg = .GY_COND_HI := Eq.trans rfl rfl
@[simp] theorem Fld.GY_SET_STATE_reg : Fld.GY_SET_STATE.reg = .GY_SET := Eq.trans rfl rfl
@[simp] theorem Fld.GY_SET_MASTER_reg : Fld.GY_SET_MASTER.reg = .GY_SET := Eq.trans rfl rfl
@[simp] theorem Fld.GY_SET_SET_reg : Fld.GY_SET_SET.reg = .GY_SET := Eq.trans rfl rfl
@[simp] theorem Fld.GY_SET_ARMS_reg : Fld.GY_SET_ARMS.reg = .GY_SET := Eq.trans rfl rfl
@[simp] theorem Fld.GY_CAP_VALID_reg : Fld.GY_CAP_VALID.reg = .GY_CAP := Eq.trans rfl rfl
@[simp] theorem Fld.GY_CAP_COMPLETE_reg : Fld.GY_CAP_COMPLETE.reg = .GY_CAP := Eq.trans rfl rfl
@[simp] theorem Fld.GY_CAP_LATER_reg : Fld.GY_CAP_LATER.reg = .GY_CAP := Eq.trans rfl rfl
@[simp] theorem Fld.GY_CAP_SET_reg : Fld.GY_CAP_SET.reg = .GY_CAP := Eq.trans rfl rfl
@[simp] theorem Fld.GY_CAP_CAPTURE_reg : Fld.GY_CAP_CAPTURE.reg = .GY_CAP := Eq.trans rfl rfl
@[simp] theorem Fld.GY_CMD_CMD_reg : Fld.GY_CMD_CMD.reg = .GY_CMD := Eq.trans rfl rfl
@[simp] theorem Fld.GY_CMD_SLOT_reg : Fld.GY_CMD_SLOT.reg = .GY_CMD := Eq.trans rfl rfl
@[simp] theorem Fld.GY_CMD_SETK_reg : Fld.GY_CMD_SETK.reg = .GY_CMD := Eq.trans rfl rfl
@[simp] theorem Fld.GY_LOST_OVERWRITTEN_reg : Fld.GY_LOST_OVERWRITTEN.reg = .GY_LOST := Eq.trans rfl rfl
@[simp] theorem Fld.GY_LOST_FIRE_REFUSED_reg : Fld.GY_LOST_FIRE_REFUSED.reg = .GY_LOST := Eq.trans rfl rfl
@[simp] theorem Fld.GY_LOST_DROPS_reg : Fld.GY_LOST_DROPS.reg = .GY_LOST := Eq.trans rfl rfl
@[simp] theorem Fld.BN_STATUS_ROLE_reg : Fld.BN_STATUS_ROLE.reg = .BN_STATUS := Eq.trans rfl rfl
@[simp] theorem Fld.BN_STATUS_PARTNER_ROLE_reg : Fld.BN_STATUS_PARTNER_ROLE.reg = .BN_STATUS := Eq.trans rfl rfl
@[simp] theorem Fld.BN_STATUS_LAG_reg : Fld.BN_STATUS_LAG.reg = .BN_STATUS := Eq.trans rfl rfl
@[simp] theorem Fld.BN_STATUS_POS_reg : Fld.BN_STATUS_POS.reg = .BN_STATUS := Eq.trans rfl rfl
@[simp] theorem Fld.BN_STATUS_PAIR_reg : Fld.BN_STATUS_PAIR.reg = .BN_STATUS := Eq.trans rfl rfl
@[simp] theorem Fld.BN_STATUS_MODE_reg : Fld.BN_STATUS_MODE.reg = .BN_STATUS := Eq.trans rfl rfl
@[simp] theorem Fld.BN_STATUS_AUTH_reg : Fld.BN_STATUS_AUTH.reg = .BN_STATUS := Eq.trans rfl rfl
@[simp] theorem Fld.BN_STATUS_READY_reg : Fld.BN_STATUS_READY.reg = .BN_STATUS := Eq.trans rfl rfl
@[simp] theorem Fld.BN_STATUS_PARTNER_READY_reg : Fld.BN_STATUS_PARTNER_READY.reg = .BN_STATUS := Eq.trans rfl rfl
@[simp] theorem Fld.BN_STATUS_LINK0_UP_reg : Fld.BN_STATUS_LINK0_UP.reg = .BN_STATUS := Eq.trans rfl rfl
@[simp] theorem Fld.BN_STATUS_LINK1_UP_reg : Fld.BN_STATUS_LINK1_UP.reg = .BN_STATUS := Eq.trans rfl rfl
@[simp] theorem Fld.BN_STATUS_NET_HB_reg : Fld.BN_STATUS_NET_HB.reg = .BN_STATUS := Eq.trans rfl rfl
@[simp] theorem Fld.BN_STATUS_ARB_FAIL_reg : Fld.BN_STATUS_ARB_FAIL.reg = .BN_STATUS := Eq.trans rfl rfl
@[simp] theorem Fld.BN_STATUS_GRANT_reg : Fld.BN_STATUS_GRANT.reg = .BN_STATUS := Eq.trans rfl rfl
@[simp] theorem Fld.BN_STATUS_GRANT_CONFLICT_reg : Fld.BN_STATUS_GRANT_CONFLICT.reg = .BN_STATUS := Eq.trans rfl rfl
@[simp] theorem Fld.BN_STATUS_LOOP_FAULT_reg : Fld.BN_STATUS_LOOP_FAULT.reg = .BN_STATUS := Eq.trans rfl rfl
@[simp] theorem Fld.BN_STATUS_REMOVE_REFUSED_reg : Fld.BN_STATUS_REMOVE_REFUSED.reg = .BN_STATUS := Eq.trans rfl rfl
@[simp] theorem Fld.BN_STATUS_HO_PENDING_reg : Fld.BN_STATUS_HO_PENDING.reg = .BN_STATUS := Eq.trans rfl rfl
@[simp] theorem Fld.BN_STATUS_EPOCH_UNSTORED_reg : Fld.BN_STATUS_EPOCH_UNSTORED.reg = .BN_STATUS := Eq.trans rfl rfl
@[simp] theorem Fld.BN_LOOP_HEALTHY_OUT_reg : Fld.BN_LOOP_HEALTHY_OUT.reg = .BN_LOOP := Eq.trans rfl rfl
@[simp] theorem Fld.BN_LOOP_CLAIM_RET_reg : Fld.BN_LOOP_CLAIM_RET.reg = .BN_LOOP := Eq.trans rfl rfl
@[simp] theorem Fld.BN_LOOP_READY_P_reg : Fld.BN_LOOP_READY_P.reg = .BN_LOOP := Eq.trans rfl rfl
@[simp] theorem Fld.BN_LOOP_CLAIM_B_reg : Fld.BN_LOOP_CLAIM_B.reg = .BN_LOOP := Eq.trans rfl rfl
@[simp] theorem Fld.BN_LOOP_CLAIM_A_reg : Fld.BN_LOOP_CLAIM_A.reg = .BN_LOOP := Eq.trans rfl rfl
@[simp] theorem Fld.BN_LOOP_AUTH_B_reg : Fld.BN_LOOP_AUTH_B.reg = .BN_LOOP := Eq.trans rfl rfl
@[simp] theorem Fld.BN_LOOP_AUTH_A_reg : Fld.BN_LOOP_AUTH_A.reg = .BN_LOOP := Eq.trans rfl rfl
@[simp] theorem Fld.BN_EPOCH_EPOCH_reg : Fld.BN_EPOCH_EPOCH.reg = .BN_EPOCH := Eq.trans rfl rfl
@[simp] theorem Fld.BN_HEALTH_WORD_reg : Fld.BN_HEALTH_WORD.reg = .BN_HEALTH := Eq.trans rfl rfl
@[simp] theorem Fld.BN_EQ_LAST_SIZE_reg : Fld.BN_EQ_LAST_SIZE.reg = .BN_EQ := Eq.trans rfl rfl
@[simp] theorem Fld.BN_EQ_STRETCHED_reg : Fld.BN_EQ_STRETCHED.reg = .BN_EQ := Eq.trans rfl rfl
@[simp] theorem Fld.BN_EQ_FAST_LATE_reg : Fld.BN_EQ_FAST_LATE.reg = .BN_EQ := Eq.trans rfl rfl
@[simp] theorem Fld.BN_VERIFY_LATENT_reg : Fld.BN_VERIFY_LATENT.reg = .BN_VERIFY := Eq.trans rfl rfl
@[simp] theorem Fld.BN_VERIFY_DIVERGE_reg : Fld.BN_VERIFY_DIVERGE.reg = .BN_VERIFY := Eq.trans rfl rfl
@[simp] theorem Fld.BN_VERIFY_BLOCK_reg : Fld.BN_VERIFY_BLOCK.reg = .BN_VERIFY := Eq.trans rfl rfl
@[simp] theorem Fld.BN_TAKEOVER_KIND_reg : Fld.BN_TAKEOVER_KIND.reg = .BN_TAKEOVER := Eq.trans rfl rfl
@[simp] theorem Fld.BN_TAKEOVER_LAG_reg : Fld.BN_TAKEOVER_LAG.reg = .BN_TAKEOVER := Eq.trans rfl rfl
@[simp] theorem Fld.BN_TAKEOVER_DETECT_reg : Fld.BN_TAKEOVER_DETECT.reg = .BN_TAKEOVER := Eq.trans rfl rfl
@[simp] theorem Fld.BN_CMD_CMD_reg : Fld.BN_CMD_CMD.reg = .BN_CMD := Eq.trans rfl rfl
@[simp] theorem Fld.BN_HO_AT_LO_AT_reg : Fld.BN_HO_AT_LO_AT.reg = .BN_HO_AT_LO := Eq.trans rfl rfl
@[simp] theorem Fld.BN_HO_AT_HI_AT_reg : Fld.BN_HO_AT_HI_AT.reg = .BN_HO_AT_HI := Eq.trans rfl rfl
@[simp] theorem Fld.BN_CMD_RESULT_BUSY_reg : Fld.BN_CMD_RESULT_BUSY.reg = .BN_CMD_RESULT := Eq.trans rfl rfl
@[simp] theorem Fld.BN_CMD_RESULT_CODE_reg : Fld.BN_CMD_RESULT_CODE.reg = .BN_CMD_RESULT := Eq.trans rfl rfl
@[simp] theorem Fld.PN_PORT_LINK_reg : Fld.PN_PORT_LINK.reg = .PN_PORT := Eq.trans rfl rfl
@[simp] theorem Fld.PN_PORT_GATES_reg : Fld.PN_PORT_GATES.reg = .PN_PORT := Eq.trans rfl rfl
@[simp] theorem Fld.PN_PORT_FWD_reg : Fld.PN_PORT_FWD.reg = .PN_PORT := Eq.trans rfl rfl
@[simp] theorem Fld.PN_PORT_PATH_SILENT_reg : Fld.PN_PORT_PATH_SILENT.reg = .PN_PORT := Eq.trans rfl rfl
@[simp] theorem Fld.PN_PORT_TB_reg : Fld.PN_PORT_TB.reg = .PN_PORT := Eq.trans rfl rfl
@[simp] theorem Fld.PN_PORT_PEERS_reg : Fld.PN_PORT_PEERS.reg = .PN_PORT := Eq.trans rfl rfl
@[simp] theorem Fld.PN_PORT_PDELAY_OK_reg : Fld.PN_PORT_PDELAY_OK.reg = .PN_PORT := Eq.trans rfl rfl
@[simp] theorem Fld.PN_DROP_UNDECLARED_reg : Fld.PN_DROP_UNDECLARED.reg = .PN_DROP := Eq.trans rfl rfl
@[simp] theorem Fld.PN_DROP_POLICED_reg : Fld.PN_DROP_POLICED.reg = .PN_DROP := Eq.trans rfl rfl
@[simp] theorem Fld.PN_DROP_WINDOW_reg : Fld.PN_DROP_WINDOW.reg = .PN_DROP := Eq.trans rfl rfl
@[simp] theorem Fld.PN_DROP_FCS_reg : Fld.PN_DROP_FCS.reg = .PN_DROP := Eq.trans rfl rfl
@[simp] theorem Fld.PN_PTP_UNKNOWN_DOMAIN_reg : Fld.PN_PTP_UNKNOWN_DOMAIN.reg = .PN_PTP := Eq.trans rfl rfl
@[simp] theorem Fld.PN_PTP_MANAGEMENT_reg : Fld.PN_PTP_MANAGEMENT.reg = .PN_PTP := Eq.trans rfl rfl
@[simp] theorem Fld.PN_SEL_TABLE_reg : Fld.PN_SEL_TABLE.reg = .PN_SEL := Eq.trans rfl rfl
@[simp] theorem Fld.PN_SEL_INDEX_reg : Fld.PN_SEL_INDEX.reg = .PN_SEL := Eq.trans rfl rfl
@[simp] theorem Fld.PN_SSTAT_POLICED_reg : Fld.PN_SSTAT_POLICED.reg = .PN_SSTAT := Eq.trans rfl rfl
@[simp] theorem Fld.PN_SSTAT_ELIMINATED_reg : Fld.PN_SSTAT_ELIMINATED.reg = .PN_SSTAT := Eq.trans rfl rfl
@[simp] theorem Fld.PN_SVC_SESSIONS_reg : Fld.PN_SVC_SESSIONS.reg = .PN_SVC := Eq.trans rfl rfl
@[simp] theorem Fld.PN_SVC_AUTH_FAIL_reg : Fld.PN_SVC_AUTH_FAIL.reg = .PN_SVC := Eq.trans rfl rfl
@[simp] theorem Fld.PN_SVC_REFUSED_reg : Fld.PN_SVC_REFUSED.reg = .PN_SVC := Eq.trans rfl rfl
@[simp] theorem Fld.CN_CFG_EN_reg : Fld.CN_CFG_EN.reg = .CN_CFG := Eq.trans rfl rfl
@[simp] theorem Fld.CN_CFG_LISTEN_reg : Fld.CN_CFG_LISTEN.reg = .CN_CFG := Eq.trans rfl rfl
@[simp] theorem Fld.CN_CFG_FD_reg : Fld.CN_CFG_FD.reg = .CN_CFG := Eq.trans rfl rfl
@[simp] theorem Fld.CN_CFG_TDC_reg : Fld.CN_CFG_TDC.reg = .CN_CFG := Eq.trans rfl rfl
@[simp] theorem Fld.CN_CFG_NBR_reg : Fld.CN_CFG_NBR.reg = .CN_CFG := Eq.trans rfl rfl
@[simp] theorem Fld.CN_CFG_DBR_reg : Fld.CN_CFG_DBR.reg = .CN_CFG := Eq.trans rfl rfl
@[simp] theorem Fld.CN_CFG_TB_reg : Fld.CN_CFG_TB.reg = .CN_CFG := Eq.trans rfl rfl
@[simp] theorem Fld.CN_CTL_RECOVER_reg : Fld.CN_CTL_RECOVER.reg = .CN_CTL := Eq.trans rfl rfl
@[simp] theorem Fld.CN_STAT_FC_reg : Fld.CN_STAT_FC.reg = .CN_STAT := Eq.trans rfl rfl
@[simp] theorem Fld.CN_STAT_ALONE_reg : Fld.CN_STAT_ALONE.reg = .CN_STAT := Eq.trans rfl rfl
@[simp] theorem Fld.CN_STAT_LISTEN_reg : Fld.CN_STAT_LISTEN.reg = .CN_STAT := Eq.trans rfl rfl
@[simp] theorem Fld.CN_STAT_TX_EN_reg : Fld.CN_STAT_TX_EN.reg = .CN_STAT := Eq.trans rfl rfl
@[simp] theorem Fld.CN_STAT_TEC_reg : Fld.CN_STAT_TEC.reg = .CN_STAT := Eq.trans rfl rfl
@[simp] theorem Fld.CN_STAT_REC_reg : Fld.CN_STAT_REC.reg = .CN_STAT := Eq.trans rfl rfl
@[simp] theorem Fld.CN_STAT_ACK_RUN_reg : Fld.CN_STAT_ACK_RUN.reg = .CN_STAT := Eq.trans rfl rfl
@[simp] theorem Fld.CN_ERR_BUS_OFF_reg : Fld.CN_ERR_BUS_OFF.reg = .CN_ERR := Eq.trans rfl rfl
@[simp] theorem Fld.CN_ERR_UNACK_reg : Fld.CN_ERR_UNACK.reg = .CN_ERR := Eq.trans rfl rfl
@[simp] theorem Fld.CN_ERR_UNMATCHED_reg : Fld.CN_ERR_UNMATCHED.reg = .CN_ERR := Eq.trans rfl rfl
@[simp] theorem Fld.CN_ERR_LOST_reg : Fld.CN_ERR_LOST.reg = .CN_ERR := Eq.trans rfl rfl
@[simp] theorem Fld.CN_PROT_LAST_reg : Fld.CN_PROT_LAST.reg = .CN_PROT := Eq.trans rfl rfl
@[simp] theorem Fld.CN_PROT_ERRORS_reg : Fld.CN_PROT_ERRORS.reg = .CN_PROT := Eq.trans rfl rfl
@[simp] theorem Fld.CN_TIMING_NSP_reg : Fld.CN_TIMING_NSP.reg = .CN_TIMING := Eq.trans rfl rfl
@[simp] theorem Fld.CN_TIMING_DSP_reg : Fld.CN_TIMING_DSP.reg = .CN_TIMING := Eq.trans rfl rfl
@[simp] theorem Fld.CN_OBJCMD_CMD_reg : Fld.CN_OBJCMD_CMD.reg = .CN_OBJCMD := Eq.trans rfl rfl
@[simp] theorem Fld.CN_OBJCMD_PORT_reg : Fld.CN_OBJCMD_PORT.reg = .CN_OBJCMD := Eq.trans rfl rfl
@[simp] theorem Fld.CN_OBJCMD_OBJ_reg : Fld.CN_OBJCMD_OBJ.reg = .CN_OBJCMD := Eq.trans rfl rfl
@[simp] theorem Fld.CN_OBJRES_BUSY_reg : Fld.CN_OBJRES_BUSY.reg = .CN_OBJRES := Eq.trans rfl rfl
@[simp] theorem Fld.CN_OBJRES_CODE_reg : Fld.CN_OBJRES_CODE.reg = .CN_OBJRES := Eq.trans rfl rfl
@[simp] theorem Fld.SX_PORT_EN_reg : Fld.SX_PORT_EN.reg = .SX_PORT := Eq.trans rfl rfl
@[simp] theorem Fld.SX_PORT_ORIGIN_reg : Fld.SX_PORT_ORIGIN.reg = .SX_PORT := Eq.trans rfl rfl
@[simp] theorem Fld.SX_PORT_INTACT_reg : Fld.SX_PORT_INTACT.reg = .SX_PORT := Eq.trans rfl rfl
@[simp] theorem Fld.SX_PORT_WRAPPED_reg : Fld.SX_PORT_WRAPPED.reg = .SX_PORT := Eq.trans rfl rfl
@[simp] theorem Fld.SX_PORT_WRAP_E_reg : Fld.SX_PORT_WRAP_E.reg = .SX_PORT := Eq.trans rfl rfl
@[simp] theorem Fld.SX_PORT_WRAP_W_reg : Fld.SX_PORT_WRAP_W.reg = .SX_PORT := Eq.trans rfl rfl
@[simp] theorem Fld.SX_PORT_DECLARED_reg : Fld.SX_PORT_DECLARED.reg = .SX_PORT := Eq.trans rfl rfl
@[simp] theorem Fld.SX_PORT_RUNNING_reg : Fld.SX_PORT_RUNNING.reg = .SX_PORT := Eq.trans rfl rfl
@[simp] theorem Fld.SX_LAP_D_OUT_reg : Fld.SX_LAP_D_OUT.reg = .SX_LAP := Eq.trans rfl rfl
@[simp] theorem Fld.SX_LAP_LAP_reg : Fld.SX_LAP_LAP.reg = .SX_LAP := Eq.trans rfl rfl
@[simp] theorem Fld.SX_ERR_FCS_BAD_reg : Fld.SX_ERR_FCS_BAD.reg = .SX_ERR := Eq.trans rfl rfl
@[simp] theorem Fld.SX_ERR_LOST_reg : Fld.SX_ERR_LOST.reg = .SX_ERR := Eq.trans rfl rfl
@[simp] theorem Fld.SX_ERR_LATE_SLOTS_reg : Fld.SX_ERR_LATE_SLOTS.reg = .SX_ERR := Eq.trans rfl rfl
@[simp] theorem Fld.SX_ERR_REFUSED_reg : Fld.SX_ERR_REFUSED.reg = .SX_ERR := Eq.trans rfl rfl
@[simp] theorem Fld.SX_CAR_CSTATE_reg : Fld.SX_CAR_CSTATE.reg = .SX_CAR := Eq.trans rfl rfl
@[simp] theorem Fld.SX_CAR_DECLARED_reg : Fld.SX_CAR_DECLARED.reg = .SX_CAR := Eq.trans rfl rfl
@[simp] theorem Fld.SX_CAR_SEEN_reg : Fld.SX_CAR_SEEN.reg = .SX_CAR := Eq.trans rfl rfl
@[simp] theorem Fld.SX_CAR_FAULT_reg : Fld.SX_CAR_FAULT.reg = .SX_CAR := Eq.trans rfl rfl
@[simp] theorem Fld.SX_CAR_MISMATCH_reg : Fld.SX_CAR_MISMATCH.reg = .SX_CAR := Eq.trans rfl rfl
@[simp] theorem Fld.SX_CAR_MISSED_reg : Fld.SX_CAR_MISSED.reg = .SX_CAR := Eq.trans rfl rfl
@[simp] theorem Fld.SX_CAR_EPOCH_OK_reg : Fld.SX_CAR_EPOCH_OK.reg = .SX_CAR := Eq.trans rfl rfl
@[simp] theorem Fld.SX_EPOCH_EPOCH_reg : Fld.SX_EPOCH_EPOCH.reg = .SX_EPOCH := Eq.trans rfl rfl
@[simp] theorem Fld.UC_CFG_MODE_reg : Fld.UC_CFG_MODE.reg = .UC_CFG := Eq.trans rfl rfl
@[simp] theorem Fld.UC_CFG_RANGE_reg : Fld.UC_CFG_RANGE.reg = .UC_CFG := Eq.trans rfl rfl
@[simp] theorem Fld.UC_CFG_FILT_reg : Fld.UC_CFG_FILT.reg = .UC_CFG := Eq.trans rfl rfl
@[simp] theorem Fld.UC_CFG_WIRES_reg : Fld.UC_CFG_WIRES.reg = .UC_CFG := Eq.trans rfl rfl
@[simp] theorem Fld.UC_CFG_TC_reg : Fld.UC_CFG_TC.reg = .UC_CFG := Eq.trans rfl rfl
@[simp] theorem Fld.UC_CFG_HART_reg : Fld.UC_CFG_HART.reg = .UC_CFG := Eq.trans rfl rfl
@[simp] theorem Fld.UC_CFG_NE43_reg : Fld.UC_CFG_NE43.reg = .UC_CFG := Eq.trans rfl rfl
@[simp] theorem Fld.UC_CFG_OUTKIND_reg : Fld.UC_CFG_OUTKIND.reg = .UC_CFG := Eq.trans rfl rfl
@[simp] theorem Fld.UC_CFG_SAFE_reg : Fld.UC_CFG_SAFE.reg = .UC_CFG := Eq.trans rfl rfl
@[simp] theorem Fld.UC_CFG_VCMAX_reg : Fld.UC_CFG_VCMAX.reg = .UC_CFG := Eq.trans rfl rfl
@[simp] theorem Fld.UC_STAT_LIVE_reg : Fld.UC_STAT_LIVE.reg = .UC_STAT := Eq.trans rfl rfl
@[simp] theorem Fld.UC_STAT_HEADROOM_reg : Fld.UC_STAT_HEADROOM.reg = .UC_STAT := Eq.trans rfl rfl
@[simp] theorem Fld.UC_STAT_CAL_OK_reg : Fld.UC_STAT_CAL_OK.reg = .UC_STAT := Eq.trans rfl rfl
@[simp] theorem Fld.UC_STAT_UNASSIGNED_reg : Fld.UC_STAT_UNASSIGNED.reg = .UC_STAT := Eq.trans rfl rfl
@[simp] theorem Fld.UC_STAT_STAGE_ON_reg : Fld.UC_STAT_STAGE_ON.reg = .UC_STAT := Eq.trans rfl rfl
@[simp] theorem Fld.UC_STAT_IN_SERVICE_reg : Fld.UC_STAT_IN_SERVICE.reg = .UC_STAT := Eq.trans rfl rfl
@[simp] theorem Fld.UC_DIAG_LATCH_reg : Fld.UC_DIAG_LATCH.reg = .UC_DIAG := Eq.trans rfl rfl
@[simp] theorem Fld.UC_SLICE_ALIVE_reg : Fld.UC_SLICE_ALIVE.reg = .UC_SLICE := Eq.trans rfl rfl
@[simp] theorem Fld.UC_SLICE_TEMP_WARN_reg : Fld.UC_SLICE_TEMP_WARN.reg = .UC_SLICE := Eq.trans rfl rfl
@[simp] theorem Fld.UC_SLICE_TEMP_OFF_reg : Fld.UC_SLICE_TEMP_OFF.reg = .UC_SLICE := Eq.trans rfl rfl
@[simp] theorem Fld.UC_SLICE_ISO_LOW_reg : Fld.UC_SLICE_ISO_LOW.reg = .UC_SLICE := Eq.trans rfl rfl
@[simp] theorem Fld.UC_SLICE_TEMP_reg : Fld.UC_SLICE_TEMP.reg = .UC_SLICE := Eq.trans rfl rfl
@[simp] theorem Fld.UC_SLICE_POWER_reg : Fld.UC_SLICE_POWER.reg = .UC_SLICE := Eq.trans rfl rfl
@[simp] theorem Fld.UC_HART_RESPONSE_reg : Fld.UC_HART_RESPONSE.reg = .UC_HART := Eq.trans rfl rfl
@[simp] theorem Fld.UC_HART_DEVICE_reg : Fld.UC_HART_DEVICE.reg = .UC_HART := Eq.trans rfl rfl
@[simp] theorem Fld.UC_HART_FAILS_reg : Fld.UC_HART_FAILS.reg = .UC_HART := Eq.trans rfl rfl
@[simp] theorem Fld.UC_HART_PASS_BUSY_reg : Fld.UC_HART_PASS_BUSY.reg = .UC_HART := Eq.trans rfl rfl
@[simp] theorem Fld.UC_HART_BURST_SEEN_reg : Fld.UC_HART_BURST_SEEN.reg = .UC_HART := Eq.trans rfl rfl
@[simp] theorem Fld.UC_HART_MORE_STATUS_reg : Fld.UC_HART_MORE_STATUS.reg = .UC_HART := Eq.trans rfl rfl
@[simp] theorem Fld.UC_HART_CONNECTED_reg : Fld.UC_HART_CONNECTED.reg = .UC_HART := Eq.trans rfl rfl
@[simp] theorem Fld.DC_CFG_MODE_reg : Fld.DC_CFG_MODE.reg = .DC_CFG := Eq.trans rfl rfl
@[simp] theorem Fld.DC_CFG_TYPE_reg : Fld.DC_CFG_TYPE.reg = .DC_CFG := Eq.trans rfl rfl
@[simp] theorem Fld.DC_CFG_FILT_reg : Fld.DC_CFG_FILT.reg = .DC_CFG := Eq.trans rfl rfl
@[simp] theorem Fld.DC_CFG_EDGE_reg : Fld.DC_CFG_EDGE.reg = .DC_CFG := Eq.trans rfl rfl
@[simp] theorem Fld.DC_CFG_OUTKIND_reg : Fld.DC_CFG_OUTKIND.reg = .DC_CFG := Eq.trans rfl rfl
@[simp] theorem Fld.DC_CFG_SAFE_reg : Fld.DC_CFG_SAFE.reg = .DC_CFG := Eq.trans rfl rfl
@[simp] theorem Fld.DC_CFG_SAFE_ON_reg : Fld.DC_CFG_SAFE_ON.reg = .DC_CFG := Eq.trans rfl rfl
@[simp] theorem Fld.DC_CFG_OPEN_DET_reg : Fld.DC_CFG_OPEN_DET.reg = .DC_CFG := Eq.trans rfl rfl
@[simp] theorem Fld.DC_CFG_OFF_TEST_reg : Fld.DC_CFG_OFF_TEST.reg = .DC_CFG := Eq.trans rfl rfl
@[simp] theorem Fld.DC_CFG_BREAK_DET_reg : Fld.DC_CFG_BREAK_DET.reg = .DC_CFG := Eq.trans rfl rfl
@[simp] theorem Fld.DC_STAT_LIVE_reg : Fld.DC_STAT_LIVE.reg = .DC_STAT := Eq.trans rfl rfl
@[simp] theorem Fld.DC_STAT_SRC_reg : Fld.DC_STAT_SRC.reg = .DC_STAT := Eq.trans rfl rfl
@[simp] theorem Fld.DC_STAT_TERM_reg : Fld.DC_STAT_TERM.reg = .DC_STAT := Eq.trans rfl rfl
@[simp] theorem Fld.DC_STAT_SINK_HALF_reg : Fld.DC_STAT_SINK_HALF.reg = .DC_STAT := Eq.trans rfl rfl
@[simp] theorem Fld.DC_STAT_QUEUED_reg : Fld.DC_STAT_QUEUED.reg = .DC_STAT := Eq.trans rfl rfl
@[simp] theorem Fld.DC_STAT_RETRY_reg : Fld.DC_STAT_RETRY.reg = .DC_STAT := Eq.trans rfl rfl
@[simp] theorem Fld.DC_STAT_UNASSIGNED_reg : Fld.DC_STAT_UNASSIGNED.reg = .DC_STAT := Eq.trans rfl rfl
@[simp] theorem Fld.DC_STAT_STAGE_ON_reg : Fld.DC_STAT_STAGE_ON.reg = .DC_STAT := Eq.trans rfl rfl
@[simp] theorem Fld.DC_STAT_IN_SERVICE_reg : Fld.DC_STAT_IN_SERVICE.reg = .DC_STAT := Eq.trans rfl rfl
@[simp] theorem Fld.DC_DIAG_LATCH_reg : Fld.DC_DIAG_LATCH.reg = .DC_DIAG := Eq.trans rfl rfl
@[simp] theorem Fld.DC_GROUP_STATE_reg : Fld.DC_GROUP_STATE.reg = .DC_GROUP := Eq.trans rfl rfl
@[simp] theorem Fld.DC_GROUP_ALIVE_reg : Fld.DC_GROUP_ALIVE.reg = .DC_GROUP := Eq.trans rfl rfl
@[simp] theorem Fld.DC_GROUP_TEMP_WARN_reg : Fld.DC_GROUP_TEMP_WARN.reg = .DC_GROUP := Eq.trans rfl rfl
@[simp] theorem Fld.DC_GROUP_GROUP_OVER_reg : Fld.DC_GROUP_GROUP_OVER.reg = .DC_GROUP := Eq.trans rfl rfl
@[simp] theorem Fld.DC_GROUP_REAPPLY_reg : Fld.DC_GROUP_REAPPLY.reg = .DC_GROUP := Eq.trans rfl rfl
@[simp] theorem Fld.DC_GROUP_PARTNER_SINK_reg : Fld.DC_GROUP_PARTNER_SINK.reg = .DC_GROUP := Eq.trans rfl rfl
@[simp] theorem Fld.DC_GROUP_TEMP_reg : Fld.DC_GROUP_TEMP.reg = .DC_GROUP := Eq.trans rfl rfl
@[simp] theorem Fld.DC_GROUP_VOLTS_reg : Fld.DC_GROUP_VOLTS.reg = .DC_GROUP := Eq.trans rfl rfl
@[simp] theorem Fld.DC_GROUP_CURRENT_reg : Fld.DC_GROUP_CURRENT.reg = .DC_GROUP := Eq.trans rfl rfl

end Sys2Proof
end

