-- ==== Sys2Proof/Laws/Tab.lean ====
section
/-! SUPPORT. Sparse tables: what a table reads after a write, and that a write keeps the canonical form; the byte memory
among them. -/

namespace Sys2Proof

theorem Tab.get_insert_same {α : Type} (d : α) (t : Tab α) (k : Nat) (v : α) : Tab.get d (Tab.insert t k v) k = v := by
  induction t with
  | nil => simp [Tab.insert, Tab.get]
  | cons h t ih =>
    obtain ⟨j, w⟩ := h
    simp only [Tab.insert]
    split
    · simp [Tab.get]
    · split
      · simp [Tab.get]
      · rename_i h1 h2
        have : j ≠ k := fun e => h2 e.symm
        simp [Tab.get, this, ih]

theorem Tab.get_insert_ne {α : Type} (d : α) (t : Tab α) (k j : Nat) (v : α) (h : j ≠ k) :
    Tab.get d (Tab.insert t k v) j = Tab.get d t j := by
  induction t with
  | nil => simp [Tab.insert, Tab.get, h.symm]
  | cons x t ih =>
    obtain ⟨i, w⟩ := x
    simp only [Tab.insert]
    split
    · simp [Tab.get, h.symm]
    · split
      · rename_i h1 h2
        subst h2
        simp [Tab.get, h.symm]
      · simp [Tab.get, ih]

theorem Tab.get_erase_same {α : Type} (d : α) (t : Tab α) (k : Nat) : Tab.get d (Tab.erase t k) k = d := by
  induction t with
  | nil => rfl
  | cons x t ih =>
    obtain ⟨i, w⟩ := x
    simp only [Tab.erase]
    split
    · exact ih
    · rename_i h
      simp [Tab.get, h, ih]

theorem Tab.get_erase_ne {α : Type} (d : α) (t : Tab α) (k j : Nat) (h : j ≠ k) :
    Tab.get d (Tab.erase t k) j = Tab.get d t j := by
  induction t with
  | nil => rfl
  | cons x t ih =>
    obtain ⟨i, w⟩ := x
    simp only [Tab.erase]
    split
    · rename_i e
      subst e
      simp [Tab.get, h.symm, ih]
    · simp [Tab.get, ih]

/-- What a table reads after a write. -/
theorem Tab.get_set {α : Type} [DecidableEq α] (d : α) (t : Tab α) (k j : Nat) (v : α) :
    Tab.get d (Tab.set d t k v) j = if j = k then v else Tab.get d t j := by
  unfold Tab.set
  by_cases hv : v = d
  · by_cases hj : j = k
    · subst hj; simp [hv, Tab.get_erase_same]
    · simp [hv, hj, Tab.get_erase_ne]
  · by_cases hj : j = k
    · subst hj; simp [hv, Tab.get_insert_same]
    · simp [hv, hj, Tab.get_insert_ne]

@[simp] theorem Tab.get_set_same {α : Type} [DecidableEq α] (d : α) (t : Tab α) (k : Nat) (v : α) :
    Tab.get d (Tab.set d t k v) k = v := by simp [Tab.get_set]

theorem Tab.get_set_ne {α : Type} [DecidableEq α] (d : α) (t : Tab α) (k j : Nat) (v : α) (h : j ≠ k) :
    Tab.get d (Tab.set d t k v) j = Tab.get d t j := by simp [Tab.get_set, h]

/-! ## The canonical form -/

theorem Tab.above_erase {α : Type} [DecidableEq α] (d : Nat → α) (k : Nat) (t : Tab α) (n : Nat)
    (h : Tab.above n t = true) (hw : Tab.wf d t = true) : Tab.above n (Tab.erase t k) = true := by
  induction t generalizing n with
  | nil => rfl
  | cons x t ih =>
    obtain ⟨j, v⟩ := x
    simp only [Tab.above, decide_eq_true_eq] at h
    simp only [Tab.wf, Bool.and_eq_true] at hw
    simp only [Tab.erase]
    split
    · apply ih n _ hw.2
      revert hw
      cases t with
      | nil => intro _; rfl
      | cons y t =>
        obtain ⟨i, w⟩ := y
        intro hw
        simp only [Tab.above, decide_eq_true_eq] at hw ⊢
        omega
    · simpa [Tab.above] using h

theorem Tab.wf_erase {α : Type} [DecidableEq α] (d : Nat → α) (t : Tab α) (k : Nat) (hw : Tab.wf d t = true) :
    Tab.wf d (Tab.erase t k) = true := by
  induction t with
  | nil => rfl
  | cons x t ih =>
    obtain ⟨j, v⟩ := x
    have hw' := hw
    simp only [Tab.wf, Bool.and_eq_true] at hw
    simp only [Tab.erase]
    split
    · exact ih hw.2
    · simp only [Tab.wf, Bool.and_eq_true]
      exact ⟨⟨Tab.above_erase d k t j hw.1.1 hw.2, hw.1.2⟩, ih hw.2⟩

theorem Tab.above_insert {α : Type} (n k : Nat) (v : α) (t : Tab α) (h : Tab.above n t = true) (hk : n < k) :
    Tab.above n (Tab.insert t k v) = true := by
  cases t with
  | nil => simpa [Tab.insert, Tab.above] using hk
  | cons x t =>
    obtain ⟨j, w⟩ := x
    simp only [Tab.above, decide_eq_true_eq] at h
    simp only [Tab.insert]
    split
    · simpa [Tab.above] using hk
    · split
      · simpa [Tab.above] using hk
      · simpa [Tab.above] using h

theorem Tab.wf_insert {α : Type} [DecidableEq α] (d : Nat → α) (t : Tab α) (k : Nat) (v : α) (hv : v ≠ d k)
    (hw : Tab.wf d t = true) : Tab.wf d (Tab.insert t k v) = true := by
  induction t with
  | nil => simp [Tab.insert, Tab.wf, Tab.above, hv]
  | cons x t ih =>
    obtain ⟨j, w⟩ := x
    have hw' := hw
    simp only [Tab.wf, Bool.and_eq_true] at hw
    simp only [Tab.insert]
    split
    · rename_i h
      simp only [Tab.wf, Bool.and_eq_true, Tab.above, decide_eq_true_eq]
      exact ⟨⟨h, by simp [hv]⟩, hw⟩
    · split
      · rename_i h1 h2
        subst h2
        simp only [Tab.wf, Bool.and_eq_true]
        exact ⟨⟨hw.1.1, by simp [hv]⟩, hw.2⟩
      · rename_i h1 h2
        simp only [Tab.wf, Bool.and_eq_true]
        exact ⟨⟨Tab.above_insert j k v t hw.1.1 (by omega), hw.1.2⟩, ih hw.2⟩

/-- A write keeps the canonical form. -/
theorem Tab.wf_set {α : Type} [DecidableEq α] (d : α) (t : Tab α) (k : Nat) (v : α)
    (hw : Tab.wf (fun _ => d) t = true) : Tab.wf (fun _ => d) (Tab.set d t k v) = true := by
  unfold Tab.set
  split
  · exact Tab.wf_erase _ t k hw
  · rename_i h
    exact Tab.wf_insert _ t k v h hw

namespace Machine

/-! ## The byte memory -/

theorem byteGet_bytePut (s : State) (a b : Nat) (v : Byte) :
    (s.bytePut a v).byteGet b = if b = a then v else s.byteGet b := by
  simp only [State.bytePut, State.byteGet, Tab.get_set]

/-- A byte write keeps the canonical form of memory. -/
theorem bytePut_wf (s : State) (a : Nat) (v : Byte) (h : Memory.wf s.mem = true) : Memory.wf (s.bytePut a v).mem = true :=
  Tab.wf_set _ _ _ _ h

theorem bytesPut_wf (bs : List Byte) (s : State) (a : Nat) (h : Memory.wf s.mem = true) :
    Memory.wf (s.bytesPut a bs).mem = true := by
  induction bs generalizing s a with
  | nil => exact h
  | cons b bs ih => exact ih _ _ (bytePut_wf s a b h)

@[simp] theorem markDirty_mem (s : State) (w : Nat) : (s.markDirty w).mem = s.mem := by
  unfold State.markDirty; dsimp only; split <;> rfl

/-- Writing a tracked word keeps the canonical form of memory. -/
theorem twPut_wf (s : State) (w : Nat) (v : W64) (h : Memory.wf s.mem = true) : Memory.wf (s.twPut w v).mem = true := by
  unfold State.twPut
  split
  · exact h
  · split
    · exact h
    · exact bytesPut_wf _ s _ h

theorem twWrite_wf (s : State) (w : Nat) (v : W64) (h : Memory.wf s.mem = true) : Memory.wf (s.twWrite w v).mem = true :=
  twPut_wf _ w v (by simpa using h)

end Machine

end Sys2Proof
end

