-- ==== Sys2Proof/Laws/State.lean ====
section
/-! SUPPORT. What the state reads after each basic update: registers and fields after a register write, and every part of the
state that an update leaves alone. -/

namespace Sys2Proof

/-- Two fields that share no bit. -/
def Field.apart (f g : Field) : Bool := f.reg != g.reg || decide (f.hi < g.lo) || decide (g.hi < f.lo)

/-- A field that lies in its register. -/
def Field.ok (f : Field) : Bool := decide (f.lo ≤ f.hi) && decide (f.hi < 32)

end Sys2Proof

namespace Sys2Proof.Machine

/-! ## Registers and fields -/

/-- A register after a register write. -/
theorem reg_setReg (s : State) (n m : RegName) (i j : Nat) (w : Word) :
    (s.setReg n i w).reg m j = if m = n ∧ j = i then w else s.reg m j := by
  by_cases h : m = n
  · subst h
    simp only [State.setReg, State.reg, Tab.get_set, true_and, if_true]
    by_cases hj : j = i
    · subst hj; simp
    · have : Tab.get (RegName.reset m j) (Tab.set (RegName.reset m i) (Tab.get [] s.regs m.ctorIdx) i w) j =
          Tab.get (RegName.reset m j) (Tab.get [] s.regs m.ctorIdx) j := by
        unfold Tab.set
        split
        · rw [Tab.get_erase_ne _ _ _ _ hj]
        · rw [Tab.get_insert_ne _ _ _ _ _ hj]
      simp [this, hj]
  · have h' : m.ctorIdx ≠ n.ctorIdx := fun e => h (ctorIdx_inj e)
    simp [State.setReg, State.reg, Tab.get_set, h, h']

@[simp] theorem reg_setReg_same (s : State) (n : RegName) (i : Nat) (w : Word) : (s.setReg n i w).reg n i = w := by
  simp [reg_setReg]

theorem reg_setFld (s : State) (f : Field) (v i : Nat) (m : RegName) (j : Nat) :
    (s.setFld f v i).reg m j = if m = f.reg ∧ j = i then putBits (s.reg f.reg i) f.hi f.lo v else s.reg m j :=
  reg_setReg ..

theorem reg_setFlag (s : State) (f : Field) (b : Bool) (i : Nat) (m : RegName) (j : Nat) :
    (s.setFlag f b i).reg m j = if m = f.reg ∧ j = i then putBits (s.reg f.reg i) f.hi f.lo (b2n b) else s.reg m j :=
  reg_setReg ..

theorem reg_bump (s : State) (f : Field) (i n : Nat) (m : RegName) (j : Nat) :
    (s.bump f i n).reg m j =
      if m = f.reg ∧ j = i then putBits (s.reg f.reg i) f.hi f.lo (satAdd f.top (s.fld f i) n) else s.reg m j :=
  reg_setReg ..

/-- A field written reads as what was written, cut to its width. -/
theorem fld_setFld_same (s : State) (f : Field) (v i : Nat) (h : f.ok = true) :
    (s.setFld f v i).fld f i = v % 2 ^ (f.hi + 1 - f.lo) := by
  simp only [Field.ok, Bool.and_eq_true, decide_eq_true_eq] at h
  simp [State.fld, reg_setFld, bits_putBits_same _ _ _ _ h.2 h.1]

/-- A field of another register, of another register of the same name, or apart from the field written, reads as before. -/
theorem fld_setFld_apart (s : State) (f g : Field) (v i j : Nat) (h : f.ok = true) (ha : f.apart g = true ∨ j ≠ i) :
    (s.setFld f v i).fld g j = s.fld g j := by
  simp only [Field.ok, Bool.and_eq_true, decide_eq_true_eq] at h
  simp only [State.fld, reg_setFld]
  split
  · rename_i e
    obtain ⟨e1, e2⟩ := e
    subst e2
    simp only [Field.apart, Bool.or_eq_true, bne_iff_ne, ne_eq, decide_eq_true_eq, not_true_eq_false, or_false] at ha
    rw [e1]
    exact bits_putBits_apart _ _ _ _ _ _ h.1 (by rcases ha with (ha | ha) | ha <;> simp_all)
  · rfl

theorem flag_setFlag_same (s : State) (f : Field) (b : Bool) (i : Nat) (h : f.ok = true) :
    (s.setFlag f b i).flag f i = b := by
  have := fld_setFld_same s f (b2n b) i h
  simp only [Field.ok, Bool.and_eq_true, decide_eq_true_eq] at h
  have hb : b2n b < 2 ^ (f.hi + 1 - f.lo) :=
    Nat.lt_of_lt_of_le (b2n_lt b) (Nat.le_self_pow (by omega) 2)
  simp only [State.flag, State.setFlag, this, Nat.mod_eq_of_lt hb, b2n_ne_zero]

theorem flag_setFlag_apart (s : State) (f g : Field) (b : Bool) (i j : Nat) (h : f.ok = true)
    (ha : f.apart g = true ∨ j ≠ i) : (s.setFlag f b i).flag g j = s.flag g j := by
  simp only [State.flag, State.setFlag, fld_setFld_apart s f g _ i j h ha]

theorem fld_setFlag_apart (s : State) (f g : Field) (b : Bool) (i j : Nat) (h : f.ok = true)
    (ha : f.apart g = true ∨ j ≠ i) : (s.setFlag f b i).fld g j = s.fld g j := fld_setFld_apart s f g _ i j h ha

theorem flag_setFld_apart (s : State) (f g : Field) (v i j : Nat) (h : f.ok = true)
    (ha : f.apart g = true ∨ j ≠ i) : (s.setFld f v i).flag g j = s.flag g j := by
  simp only [State.flag, fld_setFld_apart s f g _ i j h ha]

/-- A counter after an advance: it saturates. -/
theorem fld_bump_same (s : State) (f : Field) (i n : Nat) (h : f.ok = true) :
    (s.bump f i n).fld f i = satAdd f.top (s.fld f i) n := by
  rw [State.bump, fld_setFld_same s f _ i h]
  apply Nat.mod_eq_of_lt
  have := satAdd_le f.top (s.fld f i) n
  have h1 : 1 ≤ 2 ^ (f.hi + 1 - f.lo) := Nat.one_le_two_pow
  simp only [Field.top] at this ⊢
  omega

theorem fld_bump_apart (s : State) (f g : Field) (i n j : Nat) (h : f.ok = true) (ha : f.apart g = true ∨ j ≠ i) :
    (s.bump f i n).fld g j = s.fld g j := fld_setFld_apart s f g _ i j h ha

theorem flag_bump_apart (s : State) (f g : Field) (i n j : Nat) (h : f.ok = true) (ha : f.apart g = true ∨ j ≠ i) :
    (s.bump f i n).flag g j = s.flag g j := flag_setFld_apart s f g _ i j h ha

/-- A state of the same registers reads the same. -/
theorem reg_congr {s t : State} (h : t.regs = s.regs) (n : RegName) (i : Nat) : t.reg n i = s.reg n i := by
  simp only [State.reg, h]

theorem fld_congr {s t : State} (h : t.regs = s.regs) (f : Field) (i : Nat) : t.fld f i = s.fld f i := by
  simp only [State.fld, reg_congr h]

theorem flag_congr {s t : State} (h : t.regs = s.regs) (f : Field) (i : Nat) : t.flag f i = s.flag f i := by
  simp only [State.flag, fld_congr h]

@[simp] theorem reg_mk (s : State) (n : RegName) (i : Nat) x0 x1 x2 x3 x4 x6 x7 x8 x9 x10 x11 x12 x13 x14 x15 x16 x17
    x18 x19 x20 x21 x22 x23 x24 x25 x26 x27 x28 x29 x30 x31 x32 x33 x34 : State.reg (State.mk x0 x1 x2 x3 x4 s.regs
    x6 x7 x8 x9 x10 x11 x12 x13 x14 x15 x16 x17 x18 x19 x20 x21 x22 x23 x24 x25 x26 x27 x28 x29 x30 x31 x32 x33 x34)
    n i = s.reg n i := Eq.trans rfl rfl
@[simp] theorem fld_mk (s : State) (f : Field) (i : Nat) x0 x1 x2 x3 x4 x6 x7 x8 x9 x10 x11 x12 x13 x14 x15 x16 x17
    x18 x19 x20 x21 x22 x23 x24 x25 x26 x27 x28 x29 x30 x31 x32 x33 x34 : State.fld (State.mk x0 x1 x2 x3 x4 s.regs
    x6 x7 x8 x9 x10 x11 x12 x13 x14 x15 x16 x17 x18 x19 x20 x21 x22 x23 x24 x25 x26 x27 x28 x29 x30 x31 x32 x33 x34)
    f i = s.fld f i := Eq.trans rfl rfl
@[simp] theorem flag_mk (s : State) (f : Field) (i : Nat) x0 x1 x2 x3 x4 x6 x7 x8 x9 x10 x11 x12 x13 x14 x15 x16 x17
    x18 x19 x20 x21 x22 x23 x24 x25 x26 x27 x28 x29 x30 x31 x32 x33 x34 : State.flag (State.mk x0 x1 x2 x3 x4 s.regs
    x6 x7 x8 x9 x10 x11 x12 x13 x14 x15 x16 x17 x18 x19 x20 x21 x22 x23 x24 x25 x26 x27 x28 x29 x30 x31 x32 x33 x34)
    f i = s.flag f i := Eq.trans rfl rfl

/-! ## What each update leaves alone -/

@[simp] theorem setReg_pending (s : State) (n : RegName) (i : Nat) (w : Word) : (s.setReg n i w).pending = s.pending := Eq.trans rfl rfl
@[simp] theorem setReg_out (s : State) (n : RegName) (i : Nat) (w : Word) : (s.setReg n i w).out = s.out := Eq.trans rfl rfl
@[simp] theorem setReg_lastRead (s : State) (n : RegName) (i : Nat) (w : Word) : (s.setReg n i w).lastRead = s.lastRead := Eq.trans rfl rfl
@[simp] theorem setReg_lastBytes (s : State) (n : RegName) (i : Nat) (w : Word) : (s.setReg n i w).lastBytes = s.lastBytes := Eq.trans rfl rfl
@[simp] theorem setReg_free (s : State) (n : RegName) (i : Nat) (w : Word) : (s.setReg n i w).free = s.free := Eq.trans rfl rfl
@[simp] theorem setReg_latchHi (s : State) (n : RegName) (i : Nat) (w : Word) : (s.setReg n i w).latchHi = s.latchHi := Eq.trans rfl rfl
@[simp] theorem setReg_holdLo (s : State) (n : RegName) (i : Nat) (w : Word) : (s.setReg n i w).holdLo = s.holdLo := Eq.trans rfl rfl
@[simp] theorem setReg_levels (s : State) (n : RegName) (i : Nat) (w : Word) : (s.setReg n i w).levels = s.levels := Eq.trans rfl rfl
@[simp] theorem setReg_img (s : State) (n : RegName) (i : Nat) (w : Word) : (s.setReg n i w).img = s.img := Eq.trans rfl rfl
@[simp] theorem setReg_boot (s : State) (n : RegName) (i : Nat) (w : Word) : (s.setReg n i w).boot = s.boot := Eq.trans rfl rfl
@[simp] theorem setReg_base (s : State) (n : RegName) (i : Nat) (w : Word) : (s.setReg n i w).base = s.base := Eq.trans rfl rfl
@[simp] theorem setReg_key (s : State) (n : RegName) (i : Nat) (w : Word) : (s.setReg n i w).key = s.key := Eq.trans rfl rfl
@[simp] theorem setReg_sn (s : State) (n : RegName) (i : Nat) (w : Word) : (s.setReg n i w).sn = s.sn := Eq.trans rfl rfl
@[simp] theorem setReg_mt (s : State) (n : RegName) (i : Nat) (w : Word) : (s.setReg n i w).mt = s.mt := Eq.trans rfl rfl
@[simp] theorem setReg_pw (s : State) (n : RegName) (i : Nat) (w : Word) : (s.setReg n i w).pw = s.pw := Eq.trans rfl rfl
@[simp] theorem setReg_ln (s : State) (n : RegName) (i : Nat) (w : Word) : (s.setReg n i w).ln = s.ln := Eq.trans rfl rfl
@[simp] theorem setReg_le (s : State) (n : RegName) (i : Nat) (w : Word) : (s.setReg n i w).le = s.le := Eq.trans rfl rfl
@[simp] theorem setReg_la (s : State) (n : RegName) (i : Nat) (w : Word) : (s.setReg n i w).la = s.la := Eq.trans rfl rfl
@[simp] theorem setReg_bn (s : State) (n : RegName) (i : Nat) (w : Word) : (s.setReg n i w).bn = s.bn := Eq.trans rfl rfl
@[simp] theorem setReg_io (s : State) (n : RegName) (i : Nat) (w : Word) : (s.setReg n i w).io = s.io := Eq.trans rfl rfl
@[simp] theorem setReg_gy (s : State) (n : RegName) (i : Nat) (w : Word) : (s.setReg n i w).gy = s.gy := Eq.trans rfl rfl
@[simp] theorem setReg_sx (s : State) (n : RegName) (i : Nat) (w : Word) : (s.setReg n i w).sx = s.sx := Eq.trans rfl rfl
@[simp] theorem setReg_pn (s : State) (n : RegName) (i : Nat) (w : Word) : (s.setReg n i w).pn = s.pn := Eq.trans rfl rfl
@[simp] theorem setReg_cn (s : State) (n : RegName) (i : Nat) (w : Word) : (s.setReg n i w).cn = s.cn := Eq.trans rfl rfl
@[simp] theorem setReg_mb (s : State) (n : RegName) (i : Nat) (w : Word) : (s.setReg n i w).mb = s.mb := Eq.trans rfl rfl
@[simp] theorem setReg_lk (s : State) (n : RegName) (i : Nat) (w : Word) : (s.setReg n i w).lk = s.lk := Eq.trans rfl rfl
@[simp] theorem setReg_ac (s : State) (n : RegName) (i : Nat) (w : Word) : (s.setReg n i w).ac = s.ac := Eq.trans rfl rfl
@[simp] theorem setReg_up (s : State) (n : RegName) (i : Nat) (w : Word) : (s.setReg n i w).up = s.up := Eq.trans rfl rfl
@[simp] theorem setReg_isl (s : State) (n : RegName) (i : Nat) (w : Word) : (s.setReg n i w).isl = s.isl := Eq.trans rfl rfl
@[simp] theorem setReg_pi (s : State) (n : RegName) (i : Nat) (w : Word) : (s.setReg n i w).pi = s.pi := Eq.trans rfl rfl
@[simp] theorem setReg_subc (s : State) (n : RegName) (i : Nat) (w : Word) : (s.setReg n i w).subc = s.subc := Eq.trans rfl rfl
@[simp] theorem setReg_blk (s : State) (n : RegName) (i : Nat) (w : Word) : (s.setReg n i w).blk = s.blk := Eq.trans rfl rfl
@[simp] theorem setReg_mem (s : State) (n : RegName) (i : Nat) (w : Word) : (s.setReg n i w).mem = s.mem := Eq.trans rfl rfl
@[simp] theorem setReg_forces (s : State) (n : RegName) (i : Nat) (w : Word) : (s.setReg n i w).forces = s.forces := Eq.trans rfl rfl
@[simp] theorem setFld_pending (s : State) (f : Field) (v i : Nat) : (s.setFld f v i).pending = s.pending := Eq.trans rfl rfl
@[simp] theorem setFld_out (s : State) (f : Field) (v i : Nat) : (s.setFld f v i).out = s.out := Eq.trans rfl rfl
@[simp] theorem setFld_lastRead (s : State) (f : Field) (v i : Nat) : (s.setFld f v i).lastRead = s.lastRead := Eq.trans rfl rfl
@[simp] theorem setFld_lastBytes (s : State) (f : Field) (v i : Nat) : (s.setFld f v i).lastBytes = s.lastBytes := Eq.trans rfl rfl
@[simp] theorem setFld_free (s : State) (f : Field) (v i : Nat) : (s.setFld f v i).free = s.free := Eq.trans rfl rfl
@[simp] theorem setFld_latchHi (s : State) (f : Field) (v i : Nat) : (s.setFld f v i).latchHi = s.latchHi := Eq.trans rfl rfl
@[simp] theorem setFld_holdLo (s : State) (f : Field) (v i : Nat) : (s.setFld f v i).holdLo = s.holdLo := Eq.trans rfl rfl
@[simp] theorem setFld_levels (s : State) (f : Field) (v i : Nat) : (s.setFld f v i).levels = s.levels := Eq.trans rfl rfl
@[simp] theorem setFld_img (s : State) (f : Field) (v i : Nat) : (s.setFld f v i).img = s.img := Eq.trans rfl rfl
@[simp] theorem setFld_boot (s : State) (f : Field) (v i : Nat) : (s.setFld f v i).boot = s.boot := Eq.trans rfl rfl
@[simp] theorem setFld_base (s : State) (f : Field) (v i : Nat) : (s.setFld f v i).base = s.base := Eq.trans rfl rfl
@[simp] theorem setFld_key (s : State) (f : Field) (v i : Nat) : (s.setFld f v i).key = s.key := Eq.trans rfl rfl
@[simp] theorem setFld_sn (s : State) (f : Field) (v i : Nat) : (s.setFld f v i).sn = s.sn := Eq.trans rfl rfl
@[simp] theorem setFld_mt (s : State) (f : Field) (v i : Nat) : (s.setFld f v i).mt = s.mt := Eq.trans rfl rfl
@[simp] theorem setFld_pw (s : State) (f : Field) (v i : Nat) : (s.setFld f v i).pw = s.pw := Eq.trans rfl rfl
@[simp] theorem setFld_ln (s : State) (f : Field) (v i : Nat) : (s.setFld f v i).ln = s.ln := Eq.trans rfl rfl
@[simp] theorem setFld_le (s : State) (f : Field) (v i : Nat) : (s.setFld f v i).le = s.le := Eq.trans rfl rfl
@[simp] theorem setFld_la (s : State) (f : Field) (v i : Nat) : (s.setFld f v i).la = s.la := Eq.trans rfl rfl
@[simp] theorem setFld_bn (s : State) (f : Field) (v i : Nat) : (s.setFld f v i).bn = s.bn := Eq.trans rfl rfl
@[simp] theorem setFld_io (s : State) (f : Field) (v i : Nat) : (s.setFld f v i).io = s.io := Eq.trans rfl rfl
@[simp] theorem setFld_gy (s : State) (f : Field) (v i : Nat) : (s.setFld f v i).gy = s.gy := Eq.trans rfl rfl
@[simp] theorem setFld_sx (s : State) (f : Field) (v i : Nat) : (s.setFld f v i).sx = s.sx := Eq.trans rfl rfl
@[simp] theorem setFld_pn (s : State) (f : Field) (v i : Nat) : (s.setFld f v i).pn = s.pn := Eq.trans rfl rfl
@[simp] theorem setFld_cn (s : State) (f : Field) (v i : Nat) : (s.setFld f v i).cn = s.cn := Eq.trans rfl rfl
@[simp] theorem setFld_mb (s : State) (f : Field) (v i : Nat) : (s.setFld f v i).mb = s.mb := Eq.trans rfl rfl
@[simp] theorem setFld_lk (s : State) (f : Field) (v i : Nat) : (s.setFld f v i).lk = s.lk := Eq.trans rfl rfl
@[simp] theorem setFld_ac (s : State) (f : Field) (v i : Nat) : (s.setFld f v i).ac = s.ac := Eq.trans rfl rfl
@[simp] theorem setFld_up (s : State) (f : Field) (v i : Nat) : (s.setFld f v i).up = s.up := Eq.trans rfl rfl
@[simp] theorem setFld_isl (s : State) (f : Field) (v i : Nat) : (s.setFld f v i).isl = s.isl := Eq.trans rfl rfl
@[simp] theorem setFld_pi (s : State) (f : Field) (v i : Nat) : (s.setFld f v i).pi = s.pi := Eq.trans rfl rfl
@[simp] theorem setFld_subc (s : State) (f : Field) (v i : Nat) : (s.setFld f v i).subc = s.subc := Eq.trans rfl rfl
@[simp] theorem setFld_blk (s : State) (f : Field) (v i : Nat) : (s.setFld f v i).blk = s.blk := Eq.trans rfl rfl
@[simp] theorem setFld_mem (s : State) (f : Field) (v i : Nat) : (s.setFld f v i).mem = s.mem := Eq.trans rfl rfl
@[simp] theorem setFld_forces (s : State) (f : Field) (v i : Nat) : (s.setFld f v i).forces = s.forces := Eq.trans rfl rfl
@[simp] theorem setFlag_pending (s : State) (f : Field) (b : Bool) (i : Nat) : (s.setFlag f b i).pending = s.pending := Eq.trans rfl rfl
@[simp] theorem setFlag_out (s : State) (f : Field) (b : Bool) (i : Nat) : (s.setFlag f b i).out = s.out := Eq.trans rfl rfl
@[simp] theorem setFlag_lastRead (s : State) (f : Field) (b : Bool) (i : Nat) : (s.setFlag f b i).lastRead = s.lastRead := Eq.trans rfl rfl
@[simp] theorem setFlag_lastBytes (s : State) (f : Field) (b : Bool) (i : Nat) : (s.setFlag f b i).lastBytes = s.lastBytes := Eq.trans rfl rfl
@[simp] theorem setFlag_free (s : State) (f : Field) (b : Bool) (i : Nat) : (s.setFlag f b i).free = s.free := Eq.trans rfl rfl
@[simp] theorem setFlag_latchHi (s : State) (f : Field) (b : Bool) (i : Nat) : (s.setFlag f b i).latchHi = s.latchHi := Eq.trans rfl rfl
@[simp] theorem setFlag_holdLo (s : State) (f : Field) (b : Bool) (i : Nat) : (s.setFlag f b i).holdLo = s.holdLo := Eq.trans rfl rfl
@[simp] theorem setFlag_levels (s : State) (f : Field) (b : Bool) (i : Nat) : (s.setFlag f b i).levels = s.levels := Eq.trans rfl rfl
@[simp] theorem setFlag_img (s : State) (f : Field) (b : Bool) (i : Nat) : (s.setFlag f b i).img = s.img := Eq.trans rfl rfl
@[simp] theorem setFlag_boot (s : State) (f : Field) (b : Bool) (i : Nat) : (s.setFlag f b i).boot = s.boot := Eq.trans rfl rfl
@[simp] theorem setFlag_base (s : State) (f : Field) (b : Bool) (i : Nat) : (s.setFlag f b i).base = s.base := Eq.trans rfl rfl
@[simp] theorem setFlag_key (s : State) (f : Field) (b : Bool) (i : Nat) : (s.setFlag f b i).key = s.key := Eq.trans rfl rfl
@[simp] theorem setFlag_sn (s : State) (f : Field) (b : Bool) (i : Nat) : (s.setFlag f b i).sn = s.sn := Eq.trans rfl rfl
@[simp] theorem setFlag_mt (s : State) (f : Field) (b : Bool) (i : Nat) : (s.setFlag f b i).mt = s.mt := Eq.trans rfl rfl
@[simp] theorem setFlag_pw (s : State) (f : Field) (b : Bool) (i : Nat) : (s.setFlag f b i).pw = s.pw := Eq.trans rfl rfl
@[simp] theorem setFlag_ln (s : State) (f : Field) (b : Bool) (i : Nat) : (s.setFlag f b i).ln = s.ln := Eq.trans rfl rfl
@[simp] theorem setFlag_le (s : State) (f : Field) (b : Bool) (i : Nat) : (s.setFlag f b i).le = s.le := Eq.trans rfl rfl
@[simp] theorem setFlag_la (s : State) (f : Field) (b : Bool) (i : Nat) : (s.setFlag f b i).la = s.la := Eq.trans rfl rfl
@[simp] theorem setFlag_bn (s : State) (f : Field) (b : Bool) (i : Nat) : (s.setFlag f b i).bn = s.bn := Eq.trans rfl rfl
@[simp] theorem setFlag_io (s : State) (f : Field) (b : Bool) (i : Nat) : (s.setFlag f b i).io = s.io := Eq.trans rfl rfl
@[simp] theorem setFlag_gy (s : State) (f : Field) (b : Bool) (i : Nat) : (s.setFlag f b i).gy = s.gy := Eq.trans rfl rfl
@[simp] theorem setFlag_sx (s : State) (f : Field) (b : Bool) (i : Nat) : (s.setFlag f b i).sx = s.sx := Eq.trans rfl rfl
@[simp] theorem setFlag_pn (s : State) (f : Field) (b : Bool) (i : Nat) : (s.setFlag f b i).pn = s.pn := Eq.trans rfl rfl
@[simp] theorem setFlag_cn (s : State) (f : Field) (b : Bool) (i : Nat) : (s.setFlag f b i).cn = s.cn := Eq.trans rfl rfl
@[simp] theorem setFlag_mb (s : State) (f : Field) (b : Bool) (i : Nat) : (s.setFlag f b i).mb = s.mb := Eq.trans rfl rfl
@[simp] theorem setFlag_lk (s : State) (f : Field) (b : Bool) (i : Nat) : (s.setFlag f b i).lk = s.lk := Eq.trans rfl rfl
@[simp] theorem setFlag_ac (s : State) (f : Field) (b : Bool) (i : Nat) : (s.setFlag f b i).ac = s.ac := Eq.trans rfl rfl
@[simp] theorem setFlag_up (s : State) (f : Field) (b : Bool) (i : Nat) : (s.setFlag f b i).up = s.up := Eq.trans rfl rfl
@[simp] theorem setFlag_isl (s : State) (f : Field) (b : Bool) (i : Nat) : (s.setFlag f b i).isl = s.isl := Eq.trans rfl rfl
@[simp] theorem setFlag_pi (s : State) (f : Field) (b : Bool) (i : Nat) : (s.setFlag f b i).pi = s.pi := Eq.trans rfl rfl
@[simp] theorem setFlag_subc (s : State) (f : Field) (b : Bool) (i : Nat) : (s.setFlag f b i).subc = s.subc := Eq.trans rfl rfl
@[simp] theorem setFlag_blk (s : State) (f : Field) (b : Bool) (i : Nat) : (s.setFlag f b i).blk = s.blk := Eq.trans rfl rfl
@[simp] theorem setFlag_mem (s : State) (f : Field) (b : Bool) (i : Nat) : (s.setFlag f b i).mem = s.mem := Eq.trans rfl rfl
@[simp] theorem setFlag_forces (s : State) (f : Field) (b : Bool) (i : Nat) : (s.setFlag f b i).forces = s.forces := Eq.trans rfl rfl
@[simp] theorem bump_pending (s : State) (f : Field) (i n : Nat) : (s.bump f i n).pending = s.pending := Eq.trans rfl rfl
@[simp] theorem bump_out (s : State) (f : Field) (i n : Nat) : (s.bump f i n).out = s.out := Eq.trans rfl rfl
@[simp] theorem bump_lastRead (s : State) (f : Field) (i n : Nat) : (s.bump f i n).lastRead = s.lastRead := Eq.trans rfl rfl
@[simp] theorem bump_lastBytes (s : State) (f : Field) (i n : Nat) : (s.bump f i n).lastBytes = s.lastBytes := Eq.trans rfl rfl
@[simp] theorem bump_free (s : State) (f : Field) (i n : Nat) : (s.bump f i n).free = s.free := Eq.trans rfl rfl
@[simp] theorem bump_latchHi (s : State) (f : Field) (i n : Nat) : (s.bump f i n).latchHi = s.latchHi := Eq.trans rfl rfl
@[simp] theorem bump_holdLo (s : State) (f : Field) (i n : Nat) : (s.bump f i n).holdLo = s.holdLo := Eq.trans rfl rfl
@[simp] theorem bump_levels (s : State) (f : Field) (i n : Nat) : (s.bump f i n).levels = s.levels := Eq.trans rfl rfl
@[simp] theorem bump_img (s : State) (f : Field) (i n : Nat) : (s.bump f i n).img = s.img := Eq.trans rfl rfl
@[simp] theorem bump_boot (s : State) (f : Field) (i n : Nat) : (s.bump f i n).boot = s.boot := Eq.trans rfl rfl
@[simp] theorem bump_base (s : State) (f : Field) (i n : Nat) : (s.bump f i n).base = s.base := Eq.trans rfl rfl
@[simp] theorem bump_key (s : State) (f : Field) (i n : Nat) : (s.bump f i n).key = s.key := Eq.trans rfl rfl
@[simp] theorem bump_sn (s : State) (f : Field) (i n : Nat) : (s.bump f i n).sn = s.sn := Eq.trans rfl rfl
@[simp] theorem bump_mt (s : State) (f : Field) (i n : Nat) : (s.bump f i n).mt = s.mt := Eq.trans rfl rfl
@[simp] theorem bump_pw (s : State) (f : Field) (i n : Nat) : (s.bump f i n).pw = s.pw := Eq.trans rfl rfl
@[simp] theorem bump_ln (s : State) (f : Field) (i n : Nat) : (s.bump f i n).ln = s.ln := Eq.trans rfl rfl
@[simp] theorem bump_le (s : State) (f : Field) (i n : Nat) : (s.bump f i n).le = s.le := Eq.trans rfl rfl
@[simp] theorem bump_la (s : State) (f : Field) (i n : Nat) : (s.bump f i n).la = s.la := Eq.trans rfl rfl
@[simp] theorem bump_bn (s : State) (f : Field) (i n : Nat) : (s.bump f i n).bn = s.bn := Eq.trans rfl rfl
@[simp] theorem bump_io (s : State) (f : Field) (i n : Nat) : (s.bump f i n).io = s.io := Eq.trans rfl rfl
@[simp] theorem bump_gy (s : State) (f : Field) (i n : Nat) : (s.bump f i n).gy = s.gy := Eq.trans rfl rfl
@[simp] theorem bump_sx (s : State) (f : Field) (i n : Nat) : (s.bump f i n).sx = s.sx := Eq.trans rfl rfl
@[simp] theorem bump_pn (s : State) (f : Field) (i n : Nat) : (s.bump f i n).pn = s.pn := Eq.trans rfl rfl
@[simp] theorem bump_cn (s : State) (f : Field) (i n : Nat) : (s.bump f i n).cn = s.cn := Eq.trans rfl rfl
@[simp] theorem bump_mb (s : State) (f : Field) (i n : Nat) : (s.bump f i n).mb = s.mb := Eq.trans rfl rfl
@[simp] theorem bump_lk (s : State) (f : Field) (i n : Nat) : (s.bump f i n).lk = s.lk := Eq.trans rfl rfl
@[simp] theorem bump_ac (s : State) (f : Field) (i n : Nat) : (s.bump f i n).ac = s.ac := Eq.trans rfl rfl
@[simp] theorem bump_up (s : State) (f : Field) (i n : Nat) : (s.bump f i n).up = s.up := Eq.trans rfl rfl
@[simp] theorem bump_isl (s : State) (f : Field) (i n : Nat) : (s.bump f i n).isl = s.isl := Eq.trans rfl rfl
@[simp] theorem bump_pi (s : State) (f : Field) (i n : Nat) : (s.bump f i n).pi = s.pi := Eq.trans rfl rfl
@[simp] theorem bump_subc (s : State) (f : Field) (i n : Nat) : (s.bump f i n).subc = s.subc := Eq.trans rfl rfl
@[simp] theorem bump_blk (s : State) (f : Field) (i n : Nat) : (s.bump f i n).blk = s.blk := Eq.trans rfl rfl
@[simp] theorem bump_mem (s : State) (f : Field) (i n : Nat) : (s.bump f i n).mem = s.mem := Eq.trans rfl rfl
@[simp] theorem bump_forces (s : State) (f : Field) (i n : Nat) : (s.bump f i n).forces = s.forces := Eq.trans rfl rfl
@[simp] theorem emit_pending (s : State) (o : Output) : (s.emit o).pending = s.pending := Eq.trans rfl rfl
@[simp] theorem emit_lastRead (s : State) (o : Output) : (s.emit o).lastRead = s.lastRead := Eq.trans rfl rfl
@[simp] theorem emit_lastBytes (s : State) (o : Output) : (s.emit o).lastBytes = s.lastBytes := Eq.trans rfl rfl
@[simp] theorem emit_free (s : State) (o : Output) : (s.emit o).free = s.free := Eq.trans rfl rfl
@[simp] theorem emit_regs (s : State) (o : Output) : (s.emit o).regs = s.regs := Eq.trans rfl rfl
@[simp] theorem emit_latchHi (s : State) (o : Output) : (s.emit o).latchHi = s.latchHi := Eq.trans rfl rfl
@[simp] theorem emit_holdLo (s : State) (o : Output) : (s.emit o).holdLo = s.holdLo := Eq.trans rfl rfl
@[simp] theorem emit_levels (s : State) (o : Output) : (s.emit o).levels = s.levels := Eq.trans rfl rfl
@[simp] theorem emit_img (s : State) (o : Output) : (s.emit o).img = s.img := Eq.trans rfl rfl
@[simp] theorem emit_boot (s : State) (o : Output) : (s.emit o).boot = s.boot := Eq.trans rfl rfl
@[simp] theorem emit_base (s : State) (o : Output) : (s.emit o).base = s.base := Eq.trans rfl rfl
@[simp] theorem emit_key (s : State) (o : Output) : (s.emit o).key = s.key := Eq.trans rfl rfl
@[simp] theorem emit_sn (s : State) (o : Output) : (s.emit o).sn = s.sn := Eq.trans rfl rfl
@[simp] theorem emit_mt (s : State) (o : Output) : (s.emit o).mt = s.mt := Eq.trans rfl rfl
@[simp] theorem emit_pw (s : State) (o : Output) : (s.emit o).pw = s.pw := Eq.trans rfl rfl
@[simp] theorem emit_ln (s : State) (o : Output) : (s.emit o).ln = s.ln := Eq.trans rfl rfl
@[simp] theorem emit_le (s : State) (o : Output) : (s.emit o).le = s.le := Eq.trans rfl rfl
@[simp] theorem emit_la (s : State) (o : Output) : (s.emit o).la = s.la := Eq.trans rfl rfl
@[simp] theorem emit_bn (s : State) (o : Output) : (s.emit o).bn = s.bn := Eq.trans rfl rfl
@[simp] theorem emit_io (s : State) (o : Output) : (s.emit o).io = s.io := Eq.trans rfl rfl
@[simp] theorem emit_gy (s : State) (o : Output) : (s.emit o).gy = s.gy := Eq.trans rfl rfl
@[simp] theorem emit_sx (s : State) (o : Output) : (s.emit o).sx = s.sx := Eq.trans rfl rfl
@[simp] theorem emit_pn (s : State) (o : Output) : (s.emit o).pn = s.pn := Eq.trans rfl rfl
@[simp] theorem emit_cn (s : State) (o : Output) : (s.emit o).cn = s.cn := Eq.trans rfl rfl
@[simp] theorem emit_mb (s : State) (o : Output) : (s.emit o).mb = s.mb := Eq.trans rfl rfl
@[simp] theorem emit_lk (s : State) (o : Output) : (s.emit o).lk = s.lk := Eq.trans rfl rfl
@[simp] theorem emit_ac (s : State) (o : Output) : (s.emit o).ac = s.ac := Eq.trans rfl rfl
@[simp] theorem emit_up (s : State) (o : Output) : (s.emit o).up = s.up := Eq.trans rfl rfl
@[simp] theorem emit_isl (s : State) (o : Output) : (s.emit o).isl = s.isl := Eq.trans rfl rfl
@[simp] theorem emit_pi (s : State) (o : Output) : (s.emit o).pi = s.pi := Eq.trans rfl rfl
@[simp] theorem emit_subc (s : State) (o : Output) : (s.emit o).subc = s.subc := Eq.trans rfl rfl
@[simp] theorem emit_blk (s : State) (o : Output) : (s.emit o).blk = s.blk := Eq.trans rfl rfl
@[simp] theorem emit_mem (s : State) (o : Output) : (s.emit o).mem = s.mem := Eq.trans rfl rfl
@[simp] theorem emit_forces (s : State) (o : Output) : (s.emit o).forces = s.forces := Eq.trans rfl rfl
@[simp] theorem reg_emit (s : State) (o : Output) (m : RegName) (j : Nat) : (s.emit o).reg m j = s.reg m j := reg_congr (emit_regs ..) m j
@[simp] theorem fld_emit (s : State) (o : Output) (g : Field) (j : Nat) : (s.emit o).fld g j = s.fld g j := fld_congr (emit_regs ..) g j
@[simp] theorem flag_emit (s : State) (o : Output) (g : Field) (j : Nat) : (s.emit o).flag g j = s.flag g j := flag_congr (emit_regs ..) g j
@[simp] theorem draw_pending (s : State) : s.draw.pending = s.pending := Eq.trans rfl rfl
@[simp] theorem draw_out (s : State) : s.draw.out = s.out := Eq.trans rfl rfl
@[simp] theorem draw_lastRead (s : State) : s.draw.lastRead = s.lastRead := Eq.trans rfl rfl
@[simp] theorem draw_lastBytes (s : State) : s.draw.lastBytes = s.lastBytes := Eq.trans rfl rfl
@[simp] theorem draw_regs (s : State) : s.draw.regs = s.regs := Eq.trans rfl rfl
@[simp] theorem draw_latchHi (s : State) : s.draw.latchHi = s.latchHi := Eq.trans rfl rfl
@[simp] theorem draw_holdLo (s : State) : s.draw.holdLo = s.holdLo := Eq.trans rfl rfl
@[simp] theorem draw_levels (s : State) : s.draw.levels = s.levels := Eq.trans rfl rfl
@[simp] theorem draw_img (s : State) : s.draw.img = s.img := Eq.trans rfl rfl
@[simp] theorem draw_boot (s : State) : s.draw.boot = s.boot := Eq.trans rfl rfl
@[simp] theorem draw_base (s : State) : s.draw.base = s.base := Eq.trans rfl rfl
@[simp] theorem draw_key (s : State) : s.draw.key = s.key := Eq.trans rfl rfl
@[simp] theorem draw_sn (s : State) : s.draw.sn = s.sn := Eq.trans rfl rfl
@[simp] theorem draw_mt (s : State) : s.draw.mt = s.mt := Eq.trans rfl rfl
@[simp] theorem draw_pw (s : State) : s.draw.pw = s.pw := Eq.trans rfl rfl
@[simp] theorem draw_ln (s : State) : s.draw.ln = s.ln := Eq.trans rfl rfl
@[simp] theorem draw_le (s : State) : s.draw.le = s.le := Eq.trans rfl rfl
@[simp] theorem draw_la (s : State) : s.draw.la = s.la := Eq.trans rfl rfl
@[simp] theorem draw_bn (s : State) : s.draw.bn = s.bn := Eq.trans rfl rfl
@[simp] theorem draw_io (s : State) : s.draw.io = s.io := Eq.trans rfl rfl
@[simp] theorem draw_gy (s : State) : s.draw.gy = s.gy := Eq.trans rfl rfl
@[simp] theorem draw_sx (s : State) : s.draw.sx = s.sx := Eq.trans rfl rfl
@[simp] theorem draw_pn (s : State) : s.draw.pn = s.pn := Eq.trans rfl rfl
@[simp] theorem draw_cn (s : State) : s.draw.cn = s.cn := Eq.trans rfl rfl
@[simp] theorem draw_mb (s : State) : s.draw.mb = s.mb := Eq.trans rfl rfl
@[simp] theorem draw_lk (s : State) : s.draw.lk = s.lk := Eq.trans rfl rfl
@[simp] theorem draw_ac (s : State) : s.draw.ac = s.ac := Eq.trans rfl rfl
@[simp] theorem draw_up (s : State) : s.draw.up = s.up := Eq.trans rfl rfl
@[simp] theorem draw_isl (s : State) : s.draw.isl = s.isl := Eq.trans rfl rfl
@[simp] theorem draw_pi (s : State) : s.draw.pi = s.pi := Eq.trans rfl rfl
@[simp] theorem draw_subc (s : State) : s.draw.subc = s.subc := Eq.trans rfl rfl
@[simp] theorem draw_blk (s : State) : s.draw.blk = s.blk := Eq.trans rfl rfl
@[simp] theorem draw_mem (s : State) : s.draw.mem = s.mem := Eq.trans rfl rfl
@[simp] theorem draw_forces (s : State) : s.draw.forces = s.forces := Eq.trans rfl rfl
@[simp] theorem reg_draw (s : State) (m : RegName) (j : Nat) : s.draw.reg m j = s.reg m j := reg_congr (draw_regs ..) m j
@[simp] theorem fld_draw (s : State) (g : Field) (j : Nat) : s.draw.fld g j = s.fld g j := fld_congr (draw_regs ..) g j
@[simp] theorem flag_draw (s : State) (g : Field) (j : Nat) : s.draw.flag g j = s.flag g j := flag_congr (draw_regs ..) g j
@[simp] theorem ev_pending (s : State) (n : Nat) : (s.ev n).pending = s.pending := by unfold State.ev; split <;> rfl
@[simp] theorem ev_out (s : State) (n : Nat) : (s.ev n).out = s.out := by unfold State.ev; split <;> rfl
@[simp] theorem ev_lastRead (s : State) (n : Nat) : (s.ev n).lastRead = s.lastRead := by unfold State.ev; split <;> rfl
@[simp] theorem ev_lastBytes (s : State) (n : Nat) : (s.ev n).lastBytes = s.lastBytes := by unfold State.ev; split <;> rfl
@[simp] theorem ev_free (s : State) (n : Nat) : (s.ev n).free = s.free := by unfold State.ev; split <;> rfl
@[simp] theorem ev_regs (s : State) (n : Nat) : (s.ev n).regs = s.regs := by unfold State.ev; split <;> rfl
@[simp] theorem ev_latchHi (s : State) (n : Nat) : (s.ev n).latchHi = s.latchHi := by unfold State.ev; split <;> rfl
@[simp] theorem ev_holdLo (s : State) (n : Nat) : (s.ev n).holdLo = s.holdLo := by unfold State.ev; split <;> rfl
@[simp] theorem ev_img (s : State) (n : Nat) : (s.ev n).img = s.img := by unfold State.ev; split <;> rfl
@[simp] theorem ev_boot (s : State) (n : Nat) : (s.ev n).boot = s.boot := by unfold State.ev; split <;> rfl
@[simp] theorem ev_base (s : State) (n : Nat) : (s.ev n).base = s.base := by unfold State.ev; split <;> rfl
@[simp] theorem ev_key (s : State) (n : Nat) : (s.ev n).key = s.key := by unfold State.ev; split <;> rfl
@[simp] theorem ev_sn (s : State) (n : Nat) : (s.ev n).sn = s.sn := by unfold State.ev; split <;> rfl
@[simp] theorem ev_mt (s : State) (n : Nat) : (s.ev n).mt = s.mt := by unfold State.ev; split <;> rfl
@[simp] theorem ev_pw (s : State) (n : Nat) : (s.ev n).pw = s.pw := by unfold State.ev; split <;> rfl
@[simp] theorem ev_ln (s : State) (n : Nat) : (s.ev n).ln = s.ln := by unfold State.ev; split <;> rfl
@[simp] theorem ev_le (s : State) (n : Nat) : (s.ev n).le = s.le := by unfold State.ev; split <;> rfl
@[simp] theorem ev_la (s : State) (n : Nat) : (s.ev n).la = s.la := by unfold State.ev; split <;> rfl
@[simp] theorem ev_bn (s : State) (n : Nat) : (s.ev n).bn = s.bn := by unfold State.ev; split <;> rfl
@[simp] theorem ev_io (s : State) (n : Nat) : (s.ev n).io = s.io := by unfold State.ev; split <;> rfl
@[simp] theorem ev_gy (s : State) (n : Nat) : (s.ev n).gy = s.gy := by unfold State.ev; split <;> rfl
@[simp] theorem ev_sx (s : State) (n : Nat) : (s.ev n).sx = s.sx := by unfold State.ev; split <;> rfl
@[simp] theorem ev_pn (s : State) (n : Nat) : (s.ev n).pn = s.pn := by unfold State.ev; split <;> rfl
@[simp] theorem ev_cn (s : State) (n : Nat) : (s.ev n).cn = s.cn := by unfold State.ev; split <;> rfl
@[simp] theorem ev_mb (s : State) (n : Nat) : (s.ev n).mb = s.mb := by unfold State.ev; split <;> rfl
@[simp] theorem ev_lk (s : State) (n : Nat) : (s.ev n).lk = s.lk := by unfold State.ev; split <;> rfl
@[simp] theorem ev_ac (s : State) (n : Nat) : (s.ev n).ac = s.ac := by unfold State.ev; split <;> rfl
@[simp] theorem ev_up (s : State) (n : Nat) : (s.ev n).up = s.up := by unfold State.ev; split <;> rfl
@[simp] theorem ev_isl (s : State) (n : Nat) : (s.ev n).isl = s.isl := by unfold State.ev; split <;> rfl
@[simp] theorem ev_pi (s : State) (n : Nat) : (s.ev n).pi = s.pi := by unfold State.ev; split <;> rfl
@[simp] theorem ev_subc (s : State) (n : Nat) : (s.ev n).subc = s.subc := by unfold State.ev; split <;> rfl
@[simp] theorem ev_blk (s : State) (n : Nat) : (s.ev n).blk = s.blk := by unfold State.ev; split <;> rfl
@[simp] theorem ev_mem (s : State) (n : Nat) : (s.ev n).mem = s.mem := by unfold State.ev; split <;> rfl
@[simp] theorem ev_forces (s : State) (n : Nat) : (s.ev n).forces = s.forces := by unfold State.ev; split <;> rfl
@[simp] theorem reg_ev (s : State) (n : Nat) (m : RegName) (j : Nat) : (s.ev n).reg m j = s.reg m j := reg_congr (ev_regs ..) m j
@[simp] theorem fld_ev (s : State) (n : Nat) (g : Field) (j : Nat) : (s.ev n).fld g j = s.fld g j := fld_congr (ev_regs ..) g j
@[simp] theorem flag_ev (s : State) (n : Nat) (g : Field) (j : Nat) : (s.ev n).flag g j = s.flag g j := flag_congr (ev_regs ..) g j
@[simp] theorem raise_pending (s : State) (i c : Nat) (p : Payload) : (s.raise i c p).pending = s.pending := by unfold State.raise; (repeat' split) <;> rfl
@[simp] theorem raise_out (s : State) (i c : Nat) (p : Payload) : (s.raise i c p).out = s.out := by unfold State.raise; (repeat' split) <;> rfl
@[simp] theorem raise_lastRead (s : State) (i c : Nat) (p : Payload) : (s.raise i c p).lastRead = s.lastRead := by unfold State.raise; (repeat' split) <;> rfl
@[simp] theorem raise_lastBytes (s : State) (i c : Nat) (p : Payload) : (s.raise i c p).lastBytes = s.lastBytes := by unfold State.raise; (repeat' split) <;> rfl
@[simp] theorem raise_free (s : State) (i c : Nat) (p : Payload) : (s.raise i c p).free = s.free := by unfold State.raise; (repeat' split) <;> rfl
@[simp] theorem raise_latchHi (s : State) (i c : Nat) (p : Payload) : (s.raise i c p).latchHi = s.latchHi := by unfold State.raise; (repeat' split) <;> rfl
@[simp] theorem raise_holdLo (s : State) (i c : Nat) (p : Payload) : (s.raise i c p).holdLo = s.holdLo := by unfold State.raise; (repeat' split) <;> rfl
@[simp] theorem raise_levels (s : State) (i c : Nat) (p : Payload) : (s.raise i c p).levels = s.levels := by unfold State.raise; (repeat' split) <;> rfl
@[simp] theorem raise_img (s : State) (i c : Nat) (p : Payload) : (s.raise i c p).img = s.img := by unfold State.raise; (repeat' split) <;> rfl
@[simp] theorem raise_boot (s : State) (i c : Nat) (p : Payload) : (s.raise i c p).boot = s.boot := by unfold State.raise; (repeat' split) <;> rfl
@[simp] theorem raise_base (s : State) (i c : Nat) (p : Payload) : (s.raise i c p).base = s.base := by unfold State.raise; (repeat' split) <;> rfl
@[simp] theorem raise_key (s : State) (i c : Nat) (p : Payload) : (s.raise i c p).key = s.key := by unfold State.raise; (repeat' split) <;> rfl
@[simp] theorem raise_mt (s : State) (i c : Nat) (p : Payload) : (s.raise i c p).mt = s.mt := by unfold State.raise; (repeat' split) <;> rfl
@[simp] theorem raise_pw (s : State) (i c : Nat) (p : Payload) : (s.raise i c p).pw = s.pw := by unfold State.raise; (repeat' split) <;> rfl
@[simp] theorem raise_ln (s : State) (i c : Nat) (p : Payload) : (s.raise i c p).ln = s.ln := by unfold State.raise; (repeat' split) <;> rfl
@[simp] theorem raise_le (s : State) (i c : Nat) (p : Payload) : (s.raise i c p).le = s.le := by unfold State.raise; (repeat' split) <;> rfl
@[simp] theorem raise_la (s : State) (i c : Nat) (p : Payload) : (s.raise i c p).la = s.la := by unfold State.raise; (repeat' split) <;> rfl
@[simp] theorem raise_bn (s : State) (i c : Nat) (p : Payload) : (s.raise i c p).bn = s.bn := by unfold State.raise; (repeat' split) <;> rfl
@[simp] theorem raise_io (s : State) (i c : Nat) (p : Payload) : (s.raise i c p).io = s.io := by unfold State.raise; (repeat' split) <;> rfl
@[simp] theorem raise_gy (s : State) (i c : Nat) (p : Payload) : (s.raise i c p).gy = s.gy := by unfold State.raise; (repeat' split) <;> rfl
@[simp] theorem raise_sx (s : State) (i c : Nat) (p : Payload) : (s.raise i c p).sx = s.sx := by unfold State.raise; (repeat' split) <;> rfl
@[simp] theorem raise_pn (s : State) (i c : Nat) (p : Payload) : (s.raise i c p).pn = s.pn := by unfold State.raise; (repeat' split) <;> rfl
@[simp] theorem raise_cn (s : State) (i c : Nat) (p : Payload) : (s.raise i c p).cn = s.cn := by unfold State.raise; (repeat' split) <;> rfl
@[simp] theorem raise_mb (s : State) (i c : Nat) (p : Payload) : (s.raise i c p).mb = s.mb := by unfold State.raise; (repeat' split) <;> rfl
@[simp] theorem raise_lk (s : State) (i c : Nat) (p : Payload) : (s.raise i c p).lk = s.lk := by unfold State.raise; (repeat' split) <;> rfl
@[simp] theorem raise_ac (s : State) (i c : Nat) (p : Payload) : (s.raise i c p).ac = s.ac := by unfold State.raise; (repeat' split) <;> rfl
@[simp] theorem raise_up (s : State) (i c : Nat) (p : Payload) : (s.raise i c p).up = s.up := by unfold State.raise; (repeat' split) <;> rfl
@[simp] theorem raise_isl (s : State) (i c : Nat) (p : Payload) : (s.raise i c p).isl = s.isl := by unfold State.raise; (repeat' split) <;> rfl
@[simp] theorem raise_pi (s : State) (i c : Nat) (p : Payload) : (s.raise i c p).pi = s.pi := by unfold State.raise; (repeat' split) <;> rfl
@[simp] theorem raise_subc (s : State) (i c : Nat) (p : Payload) : (s.raise i c p).subc = s.subc := by unfold State.raise; (repeat' split) <;> rfl
@[simp] theorem raise_blk (s : State) (i c : Nat) (p : Payload) : (s.raise i c p).blk = s.blk := by unfold State.raise; (repeat' split) <;> rfl
@[simp] theorem raise_mem (s : State) (i c : Nat) (p : Payload) : (s.raise i c p).mem = s.mem := by unfold State.raise; (repeat' split) <;> rfl
@[simp] theorem raise_forces (s : State) (i c : Nat) (p : Payload) : (s.raise i c p).forces = s.forces := by unfold State.raise; (repeat' split) <;> rfl
@[simp] theorem note_pending (s : State) (i c : Nat) (xs : List Nat) : (s.note i c xs).pending = s.pending := raise_pending ..
@[simp] theorem note_out (s : State) (i c : Nat) (xs : List Nat) : (s.note i c xs).out = s.out := raise_out ..
@[simp] theorem note_lastRead (s : State) (i c : Nat) (xs : List Nat) : (s.note i c xs).lastRead = s.lastRead := raise_lastRead ..
@[simp] theorem note_lastBytes (s : State) (i c : Nat) (xs : List Nat) : (s.note i c xs).lastBytes = s.lastBytes := raise_lastBytes ..
@[simp] theorem note_free (s : State) (i c : Nat) (xs : List Nat) : (s.note i c xs).free = s.free := raise_free ..
@[simp] theorem note_latchHi (s : State) (i c : Nat) (xs : List Nat) : (s.note i c xs).latchHi = s.latchHi := raise_latchHi ..
@[simp] theorem note_holdLo (s : State) (i c : Nat) (xs : List Nat) : (s.note i c xs).holdLo = s.holdLo := raise_holdLo ..
@[simp] theorem note_levels (s : State) (i c : Nat) (xs : List Nat) : (s.note i c xs).levels = s.levels := raise_levels ..
@[simp] theorem note_img (s : State) (i c : Nat) (xs : List Nat) : (s.note i c xs).img = s.img := raise_img ..
@[simp] theorem note_boot (s : State) (i c : Nat) (xs : List Nat) : (s.note i c xs).boot = s.boot := raise_boot ..
@[simp] theorem note_base (s : State) (i c : Nat) (xs : List Nat) : (s.note i c xs).base = s.base := raise_base ..
@[simp] theorem note_key (s : State) (i c : Nat) (xs : List Nat) : (s.note i c xs).key = s.key := raise_key ..
@[simp] theorem note_mt (s : State) (i c : Nat) (xs : List Nat) : (s.note i c xs).mt = s.mt := raise_mt ..
@[simp] theorem note_pw (s : State) (i c : Nat) (xs : List Nat) : (s.note i c xs).pw = s.pw := raise_pw ..
@[simp] theorem note_ln (s : State) (i c : Nat) (xs : List Nat) : (s.note i c xs).ln = s.ln := raise_ln ..
@[simp] theorem note_le (s : State) (i c : Nat) (xs : List Nat) : (s.note i c xs).le = s.le := raise_le ..
@[simp] theorem note_la (s : State) (i c : Nat) (xs : List Nat) : (s.note i c xs).la = s.la := raise_la ..
@[simp] theorem note_bn (s : State) (i c : Nat) (xs : List Nat) : (s.note i c xs).bn = s.bn := raise_bn ..
@[simp] theorem note_io (s : State) (i c : Nat) (xs : List Nat) : (s.note i c xs).io = s.io := raise_io ..
@[simp] theorem note_gy (s : State) (i c : Nat) (xs : List Nat) : (s.note i c xs).gy = s.gy := raise_gy ..
@[simp] theorem note_sx (s : State) (i c : Nat) (xs : List Nat) : (s.note i c xs).sx = s.sx := raise_sx ..
@[simp] theorem note_pn (s : State) (i c : Nat) (xs : List Nat) : (s.note i c xs).pn = s.pn := raise_pn ..
@[simp] theorem note_cn (s : State) (i c : Nat) (xs : List Nat) : (s.note i c xs).cn = s.cn := raise_cn ..
@[simp] theorem note_mb (s : State) (i c : Nat) (xs : List Nat) : (s.note i c xs).mb = s.mb := raise_mb ..
@[simp] theorem note_lk (s : State) (i c : Nat) (xs : List Nat) : (s.note i c xs).lk = s.lk := raise_lk ..
@[simp] theorem note_ac (s : State) (i c : Nat) (xs : List Nat) : (s.note i c xs).ac = s.ac := raise_ac ..
@[simp] theorem note_up (s : State) (i c : Nat) (xs : List Nat) : (s.note i c xs).up = s.up := raise_up ..
@[simp] theorem note_isl (s : State) (i c : Nat) (xs : List Nat) : (s.note i c xs).isl = s.isl := raise_isl ..
@[simp] theorem note_pi (s : State) (i c : Nat) (xs : List Nat) : (s.note i c xs).pi = s.pi := raise_pi ..
@[simp] theorem note_subc (s : State) (i c : Nat) (xs : List Nat) : (s.note i c xs).subc = s.subc := raise_subc ..
@[simp] theorem note_blk (s : State) (i c : Nat) (xs : List Nat) : (s.note i c xs).blk = s.blk := raise_blk ..
@[simp] theorem note_mem (s : State) (i c : Nat) (xs : List Nat) : (s.note i c xs).mem = s.mem := raise_mem ..
@[simp] theorem note_forces (s : State) (i c : Nat) (xs : List Nat) : (s.note i c xs).forces = s.forces := raise_forces ..
@[simp] theorem anchor_pending (s : State) (c : Nat) : (s.anchor c).pending = s.pending := raise_pending ..
@[simp] theorem anchor_out (s : State) (c : Nat) : (s.anchor c).out = s.out := raise_out ..
@[simp] theorem anchor_lastRead (s : State) (c : Nat) : (s.anchor c).lastRead = s.lastRead := raise_lastRead ..
@[simp] theorem anchor_lastBytes (s : State) (c : Nat) : (s.anchor c).lastBytes = s.lastBytes := raise_lastBytes ..
@[simp] theorem anchor_free (s : State) (c : Nat) : (s.anchor c).free = s.free := raise_free ..
@[simp] theorem anchor_latchHi (s : State) (c : Nat) : (s.anchor c).latchHi = s.latchHi := raise_latchHi ..
@[simp] theorem anchor_holdLo (s : State) (c : Nat) : (s.anchor c).holdLo = s.holdLo := raise_holdLo ..
@[simp] theorem anchor_levels (s : State) (c : Nat) : (s.anchor c).levels = s.levels := raise_levels ..
@[simp] theorem anchor_img (s : State) (c : Nat) : (s.anchor c).img = s.img := raise_img ..
@[simp] theorem anchor_boot (s : State) (c : Nat) : (s.anchor c).boot = s.boot := raise_boot ..
@[simp] theorem anchor_base (s : State) (c : Nat) : (s.anchor c).base = s.base := raise_base ..
@[simp] theorem anchor_key (s : State) (c : Nat) : (s.anchor c).key = s.key := raise_key ..
@[simp] theorem anchor_mt (s : State) (c : Nat) : (s.anchor c).mt = s.mt := raise_mt ..
@[simp] theorem anchor_pw (s : State) (c : Nat) : (s.anchor c).pw = s.pw := raise_pw ..
@[simp] theorem anchor_ln (s : State) (c : Nat) : (s.anchor c).ln = s.ln := raise_ln ..
@[simp] theorem anchor_le (s : State) (c : Nat) : (s.anchor c).le = s.le := raise_le ..
@[simp] theorem anchor_la (s : State) (c : Nat) : (s.anchor c).la = s.la := raise_la ..
@[simp] theorem anchor_bn (s : State) (c : Nat) : (s.anchor c).bn = s.bn := raise_bn ..
@[simp] theorem anchor_io (s : State) (c : Nat) : (s.anchor c).io = s.io := raise_io ..
@[simp] theorem anchor_gy (s : State) (c : Nat) : (s.anchor c).gy = s.gy := raise_gy ..
@[simp] theorem anchor_sx (s : State) (c : Nat) : (s.anchor c).sx = s.sx := raise_sx ..
@[simp] theorem anchor_pn (s : State) (c : Nat) : (s.anchor c).pn = s.pn := raise_pn ..
@[simp] theorem anchor_cn (s : State) (c : Nat) : (s.anchor c).cn = s.cn := raise_cn ..
@[simp] theorem anchor_mb (s : State) (c : Nat) : (s.anchor c).mb = s.mb := raise_mb ..
@[simp] theorem anchor_lk (s : State) (c : Nat) : (s.anchor c).lk = s.lk := raise_lk ..
@[simp] theorem anchor_ac (s : State) (c : Nat) : (s.anchor c).ac = s.ac := raise_ac ..
@[simp] theorem anchor_up (s : State) (c : Nat) : (s.anchor c).up = s.up := raise_up ..
@[simp] theorem anchor_isl (s : State) (c : Nat) : (s.anchor c).isl = s.isl := raise_isl ..
@[simp] theorem anchor_pi (s : State) (c : Nat) : (s.anchor c).pi = s.pi := raise_pi ..
@[simp] theorem anchor_subc (s : State) (c : Nat) : (s.anchor c).subc = s.subc := raise_subc ..
@[simp] theorem anchor_blk (s : State) (c : Nat) : (s.anchor c).blk = s.blk := raise_blk ..
@[simp] theorem anchor_mem (s : State) (c : Nat) : (s.anchor c).mem = s.mem := raise_mem ..
@[simp] theorem anchor_forces (s : State) (c : Nat) : (s.anchor c).forces = s.forces := raise_forces ..
@[simp] theorem relay_pending (s : State) : s.relay.pending = s.pending := Eq.trans rfl rfl
@[simp] theorem relay_out (s : State) : s.relay.out = s.out := Eq.trans rfl rfl
@[simp] theorem relay_lastRead (s : State) : s.relay.lastRead = s.lastRead := Eq.trans rfl rfl
@[simp] theorem relay_lastBytes (s : State) : s.relay.lastBytes = s.lastBytes := Eq.trans rfl rfl
@[simp] theorem relay_free (s : State) : s.relay.free = s.free := Eq.trans rfl rfl
@[simp] theorem relay_regs (s : State) : s.relay.regs = s.regs := Eq.trans rfl rfl
@[simp] theorem relay_latchHi (s : State) : s.relay.latchHi = s.latchHi := Eq.trans rfl rfl
@[simp] theorem relay_holdLo (s : State) : s.relay.holdLo = s.holdLo := Eq.trans rfl rfl
@[simp] theorem relay_levels (s : State) : s.relay.levels = s.levels := Eq.trans rfl rfl
@[simp] theorem relay_img (s : State) : s.relay.img = s.img := Eq.trans rfl rfl
@[simp] theorem relay_boot (s : State) : s.relay.boot = s.boot := Eq.trans rfl rfl
@[simp] theorem relay_base (s : State) : s.relay.base = s.base := Eq.trans rfl rfl
@[simp] theorem relay_key (s : State) : s.relay.key = s.key := Eq.trans rfl rfl
@[simp] theorem relay_sn (s : State) : s.relay.sn = s.sn := Eq.trans rfl rfl
@[simp] theorem relay_mt (s : State) : s.relay.mt = s.mt := Eq.trans rfl rfl
@[simp] theorem relay_ln (s : State) : s.relay.ln = s.ln := Eq.trans rfl rfl
@[simp] theorem relay_le (s : State) : s.relay.le = s.le := Eq.trans rfl rfl
@[simp] theorem relay_la (s : State) : s.relay.la = s.la := Eq.trans rfl rfl
@[simp] theorem relay_bn (s : State) : s.relay.bn = s.bn := Eq.trans rfl rfl
@[simp] theorem relay_io (s : State) : s.relay.io = s.io := Eq.trans rfl rfl
@[simp] theorem relay_gy (s : State) : s.relay.gy = s.gy := Eq.trans rfl rfl
@[simp] theorem relay_sx (s : State) : s.relay.sx = s.sx := Eq.trans rfl rfl
@[simp] theorem relay_pn (s : State) : s.relay.pn = s.pn := Eq.trans rfl rfl
@[simp] theorem relay_cn (s : State) : s.relay.cn = s.cn := Eq.trans rfl rfl
@[simp] theorem relay_mb (s : State) : s.relay.mb = s.mb := Eq.trans rfl rfl
@[simp] theorem relay_lk (s : State) : s.relay.lk = s.lk := Eq.trans rfl rfl
@[simp] theorem relay_ac (s : State) : s.relay.ac = s.ac := Eq.trans rfl rfl
@[simp] theorem relay_up (s : State) : s.relay.up = s.up := Eq.trans rfl rfl
@[simp] theorem relay_isl (s : State) : s.relay.isl = s.isl := Eq.trans rfl rfl
@[simp] theorem relay_pi (s : State) : s.relay.pi = s.pi := Eq.trans rfl rfl
@[simp] theorem relay_subc (s : State) : s.relay.subc = s.subc := Eq.trans rfl rfl
@[simp] theorem relay_blk (s : State) : s.relay.blk = s.blk := Eq.trans rfl rfl
@[simp] theorem relay_mem (s : State) : s.relay.mem = s.mem := Eq.trans rfl rfl
@[simp] theorem relay_forces (s : State) : s.relay.forces = s.forces := Eq.trans rfl rfl
@[simp] theorem reg_relay (s : State) (m : RegName) (j : Nat) : s.relay.reg m j = s.reg m j := reg_congr (relay_regs ..) m j
@[simp] theorem fld_relay (s : State) (g : Field) (j : Nat) : s.relay.fld g j = s.fld g j := fld_congr (relay_regs ..) g j
@[simp] theorem flag_relay (s : State) (g : Field) (j : Nat) : s.relay.flag g j = s.flag g j := flag_congr (relay_regs ..) g j
@[simp] theorem keyPut_pending (s : State) (a : Nat) (v : W64) : (s.keyPut a v).pending = s.pending := Eq.trans rfl rfl
@[simp] theorem keyPut_out (s : State) (a : Nat) (v : W64) : (s.keyPut a v).out = s.out := Eq.trans rfl rfl
@[simp] theorem keyPut_lastRead (s : State) (a : Nat) (v : W64) : (s.keyPut a v).lastRead = s.lastRead := Eq.trans rfl rfl
@[simp] theorem keyPut_lastBytes (s : State) (a : Nat) (v : W64) : (s.keyPut a v).lastBytes = s.lastBytes := Eq.trans rfl rfl
@[simp] theorem keyPut_free (s : State) (a : Nat) (v : W64) : (s.keyPut a v).free = s.free := Eq.trans rfl rfl
@[simp] theorem keyPut_regs (s : State) (a : Nat) (v : W64) : (s.keyPut a v).regs = s.regs := Eq.trans rfl rfl
@[simp] theorem keyPut_latchHi (s : State) (a : Nat) (v : W64) : (s.keyPut a v).latchHi = s.latchHi := Eq.trans rfl rfl
@[simp] theorem keyPut_holdLo (s : State) (a : Nat) (v : W64) : (s.keyPut a v).holdLo = s.holdLo := Eq.trans rfl rfl
@[simp] theorem keyPut_levels (s : State) (a : Nat) (v : W64) : (s.keyPut a v).levels = s.levels := Eq.trans rfl rfl
@[simp] theorem keyPut_img (s : State) (a : Nat) (v : W64) : (s.keyPut a v).img = s.img := Eq.trans rfl rfl
@[simp] theorem keyPut_boot (s : State) (a : Nat) (v : W64) : (s.keyPut a v).boot = s.boot := Eq.trans rfl rfl
@[simp] theorem keyPut_base (s : State) (a : Nat) (v : W64) : (s.keyPut a v).base = s.base := Eq.trans rfl rfl
@[simp] theorem keyPut_sn (s : State) (a : Nat) (v : W64) : (s.keyPut a v).sn = s.sn := Eq.trans rfl rfl
@[simp] theorem keyPut_mt (s : State) (a : Nat) (v : W64) : (s.keyPut a v).mt = s.mt := Eq.trans rfl rfl
@[simp] theorem keyPut_pw (s : State) (a : Nat) (v : W64) : (s.keyPut a v).pw = s.pw := Eq.trans rfl rfl
@[simp] theorem keyPut_ln (s : State) (a : Nat) (v : W64) : (s.keyPut a v).ln = s.ln := Eq.trans rfl rfl
@[simp] theorem keyPut_le (s : State) (a : Nat) (v : W64) : (s.keyPut a v).le = s.le := Eq.trans rfl rfl
@[simp] theorem keyPut_la (s : State) (a : Nat) (v : W64) : (s.keyPut a v).la = s.la := Eq.trans rfl rfl
@[simp] theorem keyPut_bn (s : State) (a : Nat) (v : W64) : (s.keyPut a v).bn = s.bn := Eq.trans rfl rfl
@[simp] theorem keyPut_io (s : State) (a : Nat) (v : W64) : (s.keyPut a v).io = s.io := Eq.trans rfl rfl
@[simp] theorem keyPut_gy (s : State) (a : Nat) (v : W64) : (s.keyPut a v).gy = s.gy := Eq.trans rfl rfl
@[simp] theorem keyPut_sx (s : State) (a : Nat) (v : W64) : (s.keyPut a v).sx = s.sx := Eq.trans rfl rfl
@[simp] theorem keyPut_pn (s : State) (a : Nat) (v : W64) : (s.keyPut a v).pn = s.pn := Eq.trans rfl rfl
@[simp] theorem keyPut_cn (s : State) (a : Nat) (v : W64) : (s.keyPut a v).cn = s.cn := Eq.trans rfl rfl
@[simp] theorem keyPut_mb (s : State) (a : Nat) (v : W64) : (s.keyPut a v).mb = s.mb := Eq.trans rfl rfl
@[simp] theorem keyPut_lk (s : State) (a : Nat) (v : W64) : (s.keyPut a v).lk = s.lk := Eq.trans rfl rfl
@[simp] theorem keyPut_ac (s : State) (a : Nat) (v : W64) : (s.keyPut a v).ac = s.ac := Eq.trans rfl rfl
@[simp] theorem keyPut_up (s : State) (a : Nat) (v : W64) : (s.keyPut a v).up = s.up := Eq.trans rfl rfl
@[simp] theorem keyPut_isl (s : State) (a : Nat) (v : W64) : (s.keyPut a v).isl = s.isl := Eq.trans rfl rfl
@[simp] theorem keyPut_pi (s : State) (a : Nat) (v : W64) : (s.keyPut a v).pi = s.pi := Eq.trans rfl rfl
@[simp] theorem keyPut_subc (s : State) (a : Nat) (v : W64) : (s.keyPut a v).subc = s.subc := Eq.trans rfl rfl
@[simp] theorem keyPut_blk (s : State) (a : Nat) (v : W64) : (s.keyPut a v).blk = s.blk := Eq.trans rfl rfl
@[simp] theorem keyPut_mem (s : State) (a : Nat) (v : W64) : (s.keyPut a v).mem = s.mem := Eq.trans rfl rfl
@[simp] theorem keyPut_forces (s : State) (a : Nat) (v : W64) : (s.keyPut a v).forces = s.forces := Eq.trans rfl rfl
@[simp] theorem reg_keyPut (s : State) (a : Nat) (v : W64) (m : RegName) (j : Nat) : (s.keyPut a v).reg m j = s.reg m j := reg_congr (keyPut_regs ..) m j
@[simp] theorem fld_keyPut (s : State) (a : Nat) (v : W64) (g : Field) (j : Nat) : (s.keyPut a v).fld g j = s.fld g j := fld_congr (keyPut_regs ..) g j
@[simp] theorem flag_keyPut (s : State) (a : Nat) (v : W64) (g : Field) (j : Nat) : (s.keyPut a v).flag g j = s.flag g j := flag_congr (keyPut_regs ..) g j
@[simp] theorem tick_pending (s : State) : s.tick.pending = s.pending := Eq.trans rfl rfl
@[simp] theorem tick_out (s : State) : s.tick.out = s.out := Eq.trans rfl rfl
@[simp] theorem tick_lastRead (s : State) : s.tick.lastRead = s.lastRead := Eq.trans rfl rfl
@[simp] theorem tick_lastBytes (s : State) : s.tick.lastBytes = s.lastBytes := Eq.trans rfl rfl
@[simp] theorem tick_free (s : State) : s.tick.free = s.free := Eq.trans rfl rfl
@[simp] theorem tick_regs (s : State) : s.tick.regs = s.regs := Eq.trans rfl rfl
@[simp] theorem tick_latchHi (s : State) : s.tick.latchHi = s.latchHi := Eq.trans rfl rfl
@[simp] theorem tick_holdLo (s : State) : s.tick.holdLo = s.holdLo := Eq.trans rfl rfl
@[simp] theorem tick_levels (s : State) : s.tick.levels = s.levels := Eq.trans rfl rfl
@[simp] theorem tick_img (s : State) : s.tick.img = s.img := Eq.trans rfl rfl
@[simp] theorem tick_boot (s : State) : s.tick.boot = s.boot := Eq.trans rfl rfl
@[simp] theorem tick_base (s : State) : s.tick.base = s.base := Eq.trans rfl rfl
@[simp] theorem tick_key (s : State) : s.tick.key = s.key := Eq.trans rfl rfl
@[simp] theorem tick_sn (s : State) : s.tick.sn = s.sn := Eq.trans rfl rfl
@[simp] theorem tick_pw (s : State) : s.tick.pw = s.pw := Eq.trans rfl rfl
@[simp] theorem tick_ln (s : State) : s.tick.ln = s.ln := Eq.trans rfl rfl
@[simp] theorem tick_le (s : State) : s.tick.le = s.le := Eq.trans rfl rfl
@[simp] theorem tick_la (s : State) : s.tick.la = s.la := Eq.trans rfl rfl
@[simp] theorem tick_bn (s : State) : s.tick.bn = s.bn := Eq.trans rfl rfl
@[simp] theorem tick_io (s : State) : s.tick.io = s.io := Eq.trans rfl rfl
@[simp] theorem tick_gy (s : State) : s.tick.gy = s.gy := Eq.trans rfl rfl
@[simp] theorem tick_sx (s : State) : s.tick.sx = s.sx := Eq.trans rfl rfl
@[simp] theorem tick_pn (s : State) : s.tick.pn = s.pn := Eq.trans rfl rfl
@[simp] theorem tick_cn (s : State) : s.tick.cn = s.cn := Eq.trans rfl rfl
@[simp] theorem tick_mb (s : State) : s.tick.mb = s.mb := Eq.trans rfl rfl
@[simp] theorem tick_lk (s : State) : s.tick.lk = s.lk := Eq.trans rfl rfl
@[simp] theorem tick_ac (s : State) : s.tick.ac = s.ac := Eq.trans rfl rfl
@[simp] theorem tick_up (s : State) : s.tick.up = s.up := Eq.trans rfl rfl
@[simp] theorem tick_isl (s : State) : s.tick.isl = s.isl := Eq.trans rfl rfl
@[simp] theorem tick_pi (s : State) : s.tick.pi = s.pi := Eq.trans rfl rfl
@[simp] theorem tick_subc (s : State) : s.tick.subc = s.subc := Eq.trans rfl rfl
@[simp] theorem tick_blk (s : State) : s.tick.blk = s.blk := Eq.trans rfl rfl
@[simp] theorem tick_mem (s : State) : s.tick.mem = s.mem := Eq.trans rfl rfl
@[simp] theorem tick_forces (s : State) : s.tick.forces = s.forces := Eq.trans rfl rfl
@[simp] theorem reg_tick (s : State) (m : RegName) (j : Nat) : s.tick.reg m j = s.reg m j := reg_congr (tick_regs ..) m j
@[simp] theorem fld_tick (s : State) (g : Field) (j : Nat) : s.tick.fld g j = s.fld g j := fld_congr (tick_regs ..) g j
@[simp] theorem flag_tick (s : State) (g : Field) (j : Nat) : s.tick.flag g j = s.flag g j := flag_congr (tick_regs ..) g j

/-! ## Event sources and records -/

/-- A source raised stands raised, unless it is a reserved one. -/
theorem mem_ev (s : State) (n : Nat) (h : reservedSource n = false) : n ∈ (s.ev n).levels := by
  unfold State.ev
  split
  · rename_i hc
    simpa [h] using hc
  · simp

/-- A source that stands raised stays raised. -/
theorem mem_ev_of_mem (s : State) (n m : Nat) (h : m ∈ s.levels) : m ∈ (s.ev n).levels := by
  unfold State.ev
  split
  · exact h
  · simp [h]

/-- A record of the supervisor's own is admitted. -/
@[simp] theorem raise_sup_sn (s : State) (c : Nat) (p : Payload) : (s.raise islSup c p).sn =
    { s.sn with raised := s.sn.raised ++ [{ island := islSup, code := BitVec.ofNat 16 c, payload := p, frc := s.mt.frc }] } := by
  simp [State.raise, islSup]

@[simp] theorem raise_sup_regs (s : State) (c : Nat) (p : Payload) : (s.raise islSup c p).regs = s.regs := by
  simp [State.raise, islSup]

@[simp] theorem note_sup_sn (s : State) (c : Nat) (xs : List Nat) : (s.note islSup c xs).sn =
    { s.sn with raised := s.sn.raised ++
      [{ island := islSup, code := BitVec.ofNat 16 c, payload := .items xs, frc := s.mt.frc }] } := raise_sup_sn ..

@[simp] theorem note_sup_regs (s : State) (c : Nat) (xs : List Nat) : (s.note islSup c xs).regs = s.regs :=
  raise_sup_regs ..

@[simp] theorem anchor_regs (s : State) (c : Nat) : (s.anchor c).regs = s.regs := raise_sup_regs ..

@[simp] theorem reg_raise_sup (s : State) (c : Nat) (p : Payload) (m : RegName) (j : Nat) : (s.raise islSup c p).reg m j = s.reg m j := reg_congr (raise_sup_regs ..) m j
@[simp] theorem reg_note_sup (s : State) (c : Nat) (xs : List Nat) (m : RegName) (j : Nat) : (s.note islSup c xs).reg m j = s.reg m j := reg_congr (note_sup_regs ..) m j
@[simp] theorem reg_anchor (s : State) (c : Nat) (m : RegName) (j : Nat) : (s.anchor c).reg m j = s.reg m j := reg_congr (anchor_regs ..) m j
@[simp] theorem fld_raise_sup (s : State) (c : Nat) (p : Payload) (g : Field) (j : Nat) : (s.raise islSup c p).fld g j = s.fld g j := fld_congr (raise_sup_regs ..) g j
@[simp] theorem fld_note_sup (s : State) (c : Nat) (xs : List Nat) (g : Field) (j : Nat) : (s.note islSup c xs).fld g j = s.fld g j := fld_congr (note_sup_regs ..) g j
@[simp] theorem fld_anchor (s : State) (c : Nat) (g : Field) (j : Nat) : (s.anchor c).fld g j = s.fld g j := fld_congr (anchor_regs ..) g j
@[simp] theorem flag_raise_sup (s : State) (c : Nat) (p : Payload) (g : Field) (j : Nat) : (s.raise islSup c p).flag g j = s.flag g j := flag_congr (raise_sup_regs ..) g j
@[simp] theorem flag_note_sup (s : State) (c : Nat) (xs : List Nat) (g : Field) (j : Nat) : (s.note islSup c xs).flag g j = s.flag g j := flag_congr (note_sup_regs ..) g j
@[simp] theorem flag_anchor (s : State) (c : Nat) (g : Field) (j : Nat) : (s.anchor c).flag g j = s.flag g j := flag_congr (anchor_regs ..) g j

end Sys2Proof.Machine
end

