-- ==== Sys2Proof/Laws/Frame.lean ====
section
/-! SUPPORT. Frames: which parts of the state and which registers a function may change, as bit masks over the parts and the
register names; how frames combine; the frames of the operations over the register file and of record updates. -/

namespace Sys2Proof.Machine

/-- From `s` to `t` only the parts of mask `P` and the registers of mask `W` may have changed. -/
def Fr (P W : Nat) (s t : State) : Prop :=
  (∀ p : Part, P &&& 2 ^ p.ctorIdx = 0 → Part.same s t p) ∧
  ∀ n i, W &&& 2 ^ n.ctorIdx = 0 → t.reg n i = s.reg n i

/-- The same of an outcome that is a next state. -/
def FrO (P W : Nat) (s : State) : Res → Prop
  | .next t => Fr P W s t
  | _ => True

theorem land_sub {P p k : Nat} (h : P &&& p = p) (hk : P &&& k = 0) : p &&& k = 0 := by
  rw [← h, Nat.and_assoc, Nat.and_comm, Nat.and_assoc, Nat.and_comm k P, hk, Nat.and_zero]

theorem land_trans {P p k : Nat} (h : P &&& p = p) (hk : p &&& k = k) : P &&& k = k := by
  rw [← hk, ← Nat.and_assoc, h]

theorem Part.same_trans {s t u : State} {p : Part} (h : Part.same s t p) (g : Part.same t u p) : Part.same s u p := by
  cases p <;> exact Eq.trans g h

theorem Part.same_symm {s t : State} {p : Part} (h : Part.same s t p) : Part.same t s p := by
  cases p <;> exact Eq.symm h

@[simp] theorem Fr.rfl' (P W : Nat) (s : State) : Fr P W s s ↔ True :=
  ⟨fun _ => trivial, fun _ => ⟨fun p _ => by cases p <;> exact Eq.refl _, fun _ _ _ => Eq.refl _⟩⟩

/-- What changes only `p` and `w` does not show outside `P` and `W`. -/
theorem Fr.iff {p w P W : Nat} {b s t : State} (h : Fr p w s t) (hP : P &&& p = p) (hW : W &&& w = w) :
    Fr P W b t ↔ Fr P W b s := by
  refine ⟨fun g => ⟨fun q hq => ?_, fun n i hn => ?_⟩, fun g => ⟨fun q hq => ?_, fun n i hn => ?_⟩⟩
  · exact Part.same_trans (g.1 q hq) (Part.same_symm (h.1 q (land_sub hP hq)))
  · rw [← g.2 n i hn, h.2 n i (land_sub hW hn)]
  · exact Part.same_trans (g.1 q hq) (h.1 q (land_sub hP hq))
  · rw [h.2 n i (land_sub hW hn), g.2 n i hn]

theorem Fr.mono {p w P W : Nat} {s t : State} (h : Fr p w s t) (hP : P &&& p = p) (hW : W &&& w = w) : Fr P W s t :=
  (Fr.iff h hP hW).2 (by simp)

theorem FrO.mono {p w P W : Nat} {s : State} {o : Res} (h : FrO p w s o) (hP : P &&& p = p) (hW : W &&& w = w) :
    FrO P W s o := by
  cases o with
  | next t => exact Fr.mono h hP hW
  | _ => trivial

@[simp] theorem frO_next (P W : Nat) (s t : State) : FrO P W s (.next t) ↔ Fr P W s t := Iff.rfl
@[simp] theorem frO_fault (P W : Nat) (s : State) (f : Fault) : FrO P W s (.fault f) ↔ True := Iff.rfl
@[simp] theorem frO_refused (P W : Nat) (s : State) (f : Refusal) : FrO P W s (.refused f) ↔ True := Iff.rfl

theorem fr_ite (P W : Nat) (b x y : State) (c : Prop) [Decidable c] (hx : c → Fr P W b x) (hy : ¬c → Fr P W b y) :
    Fr P W b (if c then x else y) := by split <;> simp_all

@[simp] theorem fr_ite_iff (P W : Nat) (b x y : State) (c : Prop) [Decidable c] :
    Fr P W b (if c then x else y) ↔ (c → Fr P W b x) ∧ (¬c → Fr P W b y) := by split <;> simp_all
@[simp] theorem frO_ite_iff (P W : Nat) (b : State) (x y : Res) (c : Prop) [Decidable c] :
    FrO P W b (if c then x else y) ↔ (c → FrO P W b x) ∧ (¬c → FrO P W b y) := by split <;> simp_all
@[simp] theorem fr_ite_fst {α : Type} (P W : Nat) (b : State) (x y : State × α) (c : Prop) [Decidable c] :
    Fr P W b (if c then x else y).1 ↔ (c → Fr P W b x.1) ∧ (¬c → Fr P W b y.1) := by split <;> simp_all
@[simp] theorem fr_ite_snd {α : Type} (P W : Nat) (b : State) (x y : α × State) (c : Prop) [Decidable c] :
    Fr P W b (if c then x else y).2 ↔ (c → Fr P W b x.2) ∧ (¬c → Fr P W b y.2) := by split <;> simp_all

@[simp] theorem fr_foldl {α : Type} {P W : Nat} (g : State → α → State) (h : ∀ s a, Fr P W s (g s a)) (b : State) (l : List α)
    (s : State) : Fr P W b (l.foldl g s) ↔ Fr P W b s := by
  induction l generalizing s with
  | nil => simp
  | cons a l ih => rw [List.foldl_cons, ih, Fr.iff (h s a) (Nat.and_self P) (Nat.and_self W)]

/-! ## Frames as lists -/

/-- The mask of a list of parts. -/
def pmask (ps : List Part) : Nat := ps.foldr (fun p m => 2 ^ p.ctorIdx ||| m) 0

/-- The mask of a list of register names. -/
def rmask (ws : List RegName) : Nat := ws.foldr (fun n m => 2 ^ n.ctorIdx ||| m) 0

theorem two_pow_land {i j : Nat} (h : i ≠ j) : 2 ^ i &&& 2 ^ j = 0 := by
  apply Nat.eq_of_testBit_eq
  intro k
  simp only [Nat.testBit_and, Nat.testBit_two_pow, Nat.zero_testBit, Bool.and_eq_false_imp, decide_eq_true_eq,
    decide_eq_false_iff_not]
  omega

theorem Part.ctorIdx_inj {p q : Part} (h : p.ctorIdx = q.ctorIdx) : p = q := by
  rw [← Part.ofNat_ctorIdx p, ← Part.ofNat_ctorIdx q, h]

theorem pmask_out (ps : List Part) (p : Part) (h : p ∉ ps) : pmask ps &&& 2 ^ p.ctorIdx = 0 := by
  induction ps with
  | nil => simp [pmask]
  | cons q ps ih =>
    simp only [List.mem_cons, not_or] at h
    simp only [pmask, List.foldr_cons, Nat.and_or_distrib_right]
    rw [two_pow_land fun e => h.1 (Part.ctorIdx_inj e.symm), Nat.zero_or]
    exact ih h.2

theorem rmask_out (ws : List RegName) (n : RegName) (h : n ∉ ws) : rmask ws &&& 2 ^ n.ctorIdx = 0 := by
  induction ws with
  | nil => simp [rmask]
  | cons m ws ih =>
    simp only [List.mem_cons, not_or] at h
    simp only [rmask, List.foldr_cons, Nat.and_or_distrib_right]
    rw [two_pow_land fun e => h.1 (ctorIdx_inj e.symm), Nat.zero_or]
    exact ih h.2

/-- A frame as the claims state it. -/
theorem Fr.touches {P W : Nat} {s t : State} (h : Fr P W s t) {ps : List Part} (hp : pmask ps &&& P = P) :
    Touches ps s t := fun p hn => h.1 p (land_sub hp (pmask_out ps p hn))

theorem Fr.regsKept {P W : Nat} {s t : State} (h : Fr P W s t) {ws : List RegName} (hw : rmask ws &&& W = W) :
    RegsKept ws s t := fun n i hn => h.2 n i (land_sub hw (rmask_out ws n hn))

/-- A frame of an outcome, at its next state. -/
theorem FrO.next {P W : Nat} {s t : State} {o : Res} (h : FrO P W s o) (e : o = .next t) : Fr P W s t := by
  subst e; exact h

/-! ## The register file -/

/-- The bit of a register name in a mask. -/
def rb (n : RegName) : Nat := 2 ^ n.ctorIdx

@[simp] theorem rb_SUP_START : rb .SUP_START = 0x1 := Eq.trans rfl rfl
@[simp] theorem rb_SUP_ISLAND : rb .SUP_ISLAND = 0x2 := Eq.trans rfl rfl
@[simp] theorem rb_RST_CAUSE : rb .RST_CAUSE = 0x4 := Eq.trans rfl rfl
@[simp] theorem rb_RST_CTL : rb .RST_CTL = 0x8 := Eq.trans rfl rfl
@[simp] theorem rb_RST_WDOG : rb .RST_WDOG = 0x10 := Eq.trans rfl rfl
@[simp] theorem rb_RST_POWER : rb .RST_POWER = 0x20 := Eq.trans rfl rfl
@[simp] theorem rb_RST_EV_PEND : rb .RST_EV_PEND = 0x40 := Eq.trans rfl rfl
@[simp] theorem rb_RST_EV_ROUTE : rb .RST_EV_ROUTE = 0x80 := Eq.trans rfl rfl
@[simp] theorem rb_RST_EV_SUM : rb .RST_EV_SUM = 0x100 := Eq.trans rfl rfl
@[simp] theorem rb_AC_CTL : rb .AC_CTL = 0x200 := Eq.trans rfl rfl
@[simp] theorem rb_AC_SLOT : rb .AC_SLOT = 0x400 := Eq.trans rfl rfl
@[simp] theorem rb_AC_FAULT : rb .AC_FAULT = 0x800 := Eq.trans rfl rfl
@[simp] theorem rb_AC_FAULT_ADDR_LO : rb .AC_FAULT_ADDR_LO = 0x1000 := Eq.trans rfl rfl
@[simp] theorem rb_AC_FAULT_ADDR_HI : rb .AC_FAULT_ADDR_HI = 0x2000 := Eq.trans rfl rfl
@[simp] theorem rb_AC_ECC : rb .AC_ECC = 0x4000 := Eq.trans rfl rfl
@[simp] theorem rb_AC_SCRUB : rb .AC_SCRUB = 0x8000 := Eq.trans rfl rfl
@[simp] theorem rb_PK_STATUS : rb .PK_STATUS = 0x10000 := Eq.trans rfl rfl
@[simp] theorem rb_PK_SEQ : rb .PK_SEQ = 0x20000 := Eq.trans rfl rfl
@[simp] theorem rb_PK_SERIAL_LO : rb .PK_SERIAL_LO = 0x40000 := Eq.trans rfl rfl
@[simp] theorem rb_PK_SERIAL_HI : rb .PK_SERIAL_HI = 0x80000 := Eq.trans rfl rfl
@[simp] theorem rb_UP_STATUS : rb .UP_STATUS = 0x100000 := Eq.trans rfl rfl
@[simp] theorem rb_UP_PROGRESS : rb .UP_PROGRESS = 0x200000 := Eq.trans rfl rfl
@[simp] theorem rb_UP_TRIAL : rb .UP_TRIAL = 0x400000 := Eq.trans rfl rfl
@[simp] theorem rb_SN_STATUS : rb .SN_STATUS = 0x800000 := Eq.trans rfl rfl
@[simp] theorem rb_SN_NEWEST_LO : rb .SN_NEWEST_LO = 0x1000000 := Eq.trans rfl rfl
@[simp] theorem rb_SN_NEWEST_HI : rb .SN_NEWEST_HI = 0x2000000 := Eq.trans rfl rfl
@[simp] theorem rb_SN_OLDEST_LO : rb .SN_OLDEST_LO = 0x4000000 := Eq.trans rfl rfl
@[simp] theorem rb_SN_OLDEST_HI : rb .SN_OLDEST_HI = 0x8000000 := Eq.trans rfl rfl
@[simp] theorem rb_SN_LOST : rb .SN_LOST = 0x10000000 := Eq.trans rfl rfl
@[simp] theorem rb_SN_SUPPRESSED : rb .SN_SUPPRESSED = 0x20000000 := Eq.trans rfl rfl
@[simp] theorem rb_SN_CURSOR_LO : rb .SN_CURSOR_LO = 0x40000000 := Eq.trans rfl rfl
@[simp] theorem rb_SN_CURSOR_HI : rb .SN_CURSOR_HI = 0x80000000 := Eq.trans rfl rfl
@[simp] theorem rb_SN_WSTAT : rb .SN_WSTAT = 0x100000000 := Eq.trans rfl rfl
@[simp] theorem rb_MB_STAT : rb .MB_STAT = 0x200000000 := Eq.trans rfl rfl
@[simp] theorem rb_MB_DOOR : rb .MB_DOOR = 0x400000000 := Eq.trans rfl rfl
@[simp] theorem rb_MB_ACK : rb .MB_ACK = 0x800000000 := Eq.trans rfl rfl
@[simp] theorem rb_LK_PAIR : rb .LK_PAIR = 0x1000000000 := Eq.trans rfl rfl
@[simp] theorem rb_LK_FAULT : rb .LK_FAULT = 0x2000000000 := Eq.trans rfl rfl
@[simp] theorem rb_LK_COUNT : rb .LK_COUNT = 0x4000000000 := Eq.trans rfl rfl
@[simp] theorem rb_LK_MISS_LO : rb .LK_MISS_LO = 0x8000000000 := Eq.trans rfl rfl
@[simp] theorem rb_LK_MISS_HI : rb .LK_MISS_HI = 0x10000000000 := Eq.trans rfl rfl
@[simp] theorem rb_LK_CMD : rb .LK_CMD = 0x20000000000 := Eq.trans rfl rfl
@[simp] theorem rb_LK_CMD_RESULT : rb .LK_CMD_RESULT = 0x40000000000 := Eq.trans rfl rfl
@[simp] theorem rb_MT_FRC_LO : rb .MT_FRC_LO = 0x80000000000 := Eq.trans rfl rfl
@[simp] theorem rb_MT_FRC_HI : rb .MT_FRC_HI = 0x100000000000 := Eq.trans rfl rfl
@[simp] theorem rb_MT_PT_LO : rb .MT_PT_LO = 0x200000000000 := Eq.trans rfl rfl
@[simp] theorem rb_MT_PT_HI : rb .MT_PT_HI = 0x400000000000 := Eq.trans rfl rfl
@[simp] theorem rb_MT_BT_LO : rb .MT_BT_LO = 0x800000000000 := Eq.trans rfl rfl
@[simp] theorem rb_MT_BT_HI : rb .MT_BT_HI = 0x1000000000000 := Eq.trans rfl rfl
@[simp] theorem rb_MT_TB_LO : rb .MT_TB_LO = 0x2000000000000 := Eq.trans rfl rfl
@[simp] theorem rb_MT_TB_HI : rb .MT_TB_HI = 0x4000000000000 := Eq.trans rfl rfl
@[simp] theorem rb_MT_LATCH_FRC_LO : rb .MT_LATCH_FRC_LO = 0x8000000000000 := Eq.trans rfl rfl
@[simp] theorem rb_MT_LATCH_FRC_HI : rb .MT_LATCH_FRC_HI = 0x10000000000000 := Eq.trans rfl rfl
@[simp] theorem rb_MT_LATCH_PT_LO : rb .MT_LATCH_PT_LO = 0x20000000000000 := Eq.trans rfl rfl
@[simp] theorem rb_MT_LATCH_PT_HI : rb .MT_LATCH_PT_HI = 0x40000000000000 := Eq.trans rfl rfl
@[simp] theorem rb_MT_LATCH_BT_LO : rb .MT_LATCH_BT_LO = 0x80000000000000 := Eq.trans rfl rfl
@[simp] theorem rb_MT_LATCH_BT_HI : rb .MT_LATCH_BT_HI = 0x100000000000000 := Eq.trans rfl rfl
@[simp] theorem rb_MT_LATCH_TB_LO : rb .MT_LATCH_TB_LO = 0x200000000000000 := Eq.trans rfl rfl
@[simp] theorem rb_MT_LATCH_TB_HI : rb .MT_LATCH_TB_HI = 0x400000000000000 := Eq.trans rfl rfl
@[simp] theorem rb_MT_STATE : rb .MT_STATE = 0x800000000000000 := Eq.trans rfl rfl
@[simp] theorem rb_MT_CTL : rb .MT_CTL = 0x1000000000000000 := Eq.trans rfl rfl
@[simp] theorem rb_MT_OFFSET : rb .MT_OFFSET = 0x2000000000000000 := Eq.trans rfl rfl
@[simp] theorem rb_MT_ERR_EST : rb .MT_ERR_EST = 0x4000000000000000 := Eq.trans rfl rfl
@[simp] theorem rb_MT_OUTLIERS : rb .MT_OUTLIERS = 0x8000000000000000 := Eq.trans rfl rfl
@[simp] theorem rb_MT_PT_SRC : rb .MT_PT_SRC = 0x10000000000000000 := Eq.trans rfl rfl
@[simp] theorem rb_MT_TB_CFG : rb .MT_TB_CFG = 0x20000000000000000 := Eq.trans rfl rfl
@[simp] theorem rb_LN_STATUS : rb .LN_STATUS = 0x40000000000000000 := Eq.trans rfl rfl
@[simp] theorem rb_LN_OVERRUN : rb .LN_OVERRUN = 0x80000000000000000 := Eq.trans rfl rfl
@[simp] theorem rb_LN_DISCARD : rb .LN_DISCARD = 0x100000000000000000 := Eq.trans rfl rfl
@[simp] theorem rb_LN_SUB : rb .LN_SUB = 0x200000000000000000 := Eq.trans rfl rfl
@[simp] theorem rb_LE_CTL : rb .LE_CTL = 0x400000000000000000 := Eq.trans rfl rfl
@[simp] theorem rb_LE_CMD : rb .LE_CMD = 0x800000000000000000 := Eq.trans rfl rfl
@[simp] theorem rb_LE_CMD_VAL : rb .LE_CMD_VAL = 0x1000000000000000000 := Eq.trans rfl rfl
@[simp] theorem rb_LE_CMD_RESULT : rb .LE_CMD_RESULT = 0x2000000000000000000 := Eq.trans rfl rfl
@[simp] theorem rb_LE_OVERRUN : rb .LE_OVERRUN = 0x4000000000000000000 := Eq.trans rfl rfl
@[simp] theorem rb_LE_FAULT : rb .LE_FAULT = 0x8000000000000000000 := Eq.trans rfl rfl
@[simp] theorem rb_LE_LOAD : rb .LE_LOAD = 0x10000000000000000000 := Eq.trans rfl rfl
@[simp] theorem rb_LE_FDELAY : rb .LE_FDELAY = 0x20000000000000000000 := Eq.trans rfl rfl
@[simp] theorem rb_LA_STATUS : rb .LA_STATUS = 0x40000000000000000000 := Eq.trans rfl rfl
@[simp] theorem rb_LA_SEL : rb .LA_SEL = 0x80000000000000000000 := Eq.trans rfl rfl
@[simp] theorem rb_LA_LOOP : rb .LA_LOOP = 0x100000000000000000000 := Eq.trans rfl rfl
@[simp] theorem rb_LA_SLOT : rb .LA_SLOT = 0x200000000000000000000 := Eq.trans rfl rfl
@[simp] theorem rb_LA_SURGE : rb .LA_SURGE = 0x400000000000000000000 := Eq.trans rfl rfl
@[simp] theorem rb_LA_COUNT : rb .LA_COUNT = 0x800000000000000000000 := Eq.trans rfl rfl
@[simp] theorem rb_GY_STATUS : rb .GY_STATUS = 0x1000000000000000000000 := Eq.trans rfl rfl
@[simp] theorem rb_GY_CH : rb .GY_CH = 0x2000000000000000000000 := Eq.trans rfl rfl
@[simp] theorem rb_GY_COND_LO : rb .GY_COND_LO = 0x4000000000000000000000 := Eq.trans rfl rfl
@[simp] theorem rb_GY_COND_HI : rb .GY_COND_HI = 0x8000000000000000000000 := Eq.trans rfl rfl
@[simp] theorem rb_GY_SET : rb .GY_SET = 0x10000000000000000000000 := Eq.trans rfl rfl
@[simp] theorem rb_GY_CAP : rb .GY_CAP = 0x20000000000000000000000 := Eq.trans rfl rfl
@[simp] theorem rb_GY_CMD : rb .GY_CMD = 0x40000000000000000000000 := Eq.trans rfl rfl
@[simp] theorem rb_GY_LOST : rb .GY_LOST = 0x80000000000000000000000 := Eq.trans rfl rfl
@[simp] theorem rb_BN_STATUS : rb .BN_STATUS = 0x100000000000000000000000 := Eq.trans rfl rfl
@[simp] theorem rb_BN_LOOP : rb .BN_LOOP = 0x200000000000000000000000 := Eq.trans rfl rfl
@[simp] theorem rb_BN_EPOCH : rb .BN_EPOCH = 0x400000000000000000000000 := Eq.trans rfl rfl
@[simp] theorem rb_BN_HEALTH : rb .BN_HEALTH = 0x800000000000000000000000 := Eq.trans rfl rfl
@[simp] theorem rb_BN_EQ : rb .BN_EQ = 0x1000000000000000000000000 := Eq.trans rfl rfl
@[simp] theorem rb_BN_VERIFY : rb .BN_VERIFY = 0x2000000000000000000000000 := Eq.trans rfl rfl
@[simp] theorem rb_BN_TAKEOVER : rb .BN_TAKEOVER = 0x4000000000000000000000000 := Eq.trans rfl rfl
@[simp] theorem rb_BN_CMD : rb .BN_CMD = 0x8000000000000000000000000 := Eq.trans rfl rfl
@[simp] theorem rb_BN_HO_AT_LO : rb .BN_HO_AT_LO = 0x10000000000000000000000000 := Eq.trans rfl rfl
@[simp] theorem rb_BN_HO_AT_HI : rb .BN_HO_AT_HI = 0x20000000000000000000000000 := Eq.trans rfl rfl
@[simp] theorem rb_BN_CMD_RESULT : rb .BN_CMD_RESULT = 0x40000000000000000000000000 := Eq.trans rfl rfl
@[simp] theorem rb_PN_PORT : rb .PN_PORT = 0x80000000000000000000000000 := Eq.trans rfl rfl
@[simp] theorem rb_PN_DROP : rb .PN_DROP = 0x100000000000000000000000000 := Eq.trans rfl rfl
@[simp] theorem rb_PN_PTP : rb .PN_PTP = 0x200000000000000000000000000 := Eq.trans rfl rfl
@[simp] theorem rb_PN_SEL : rb .PN_SEL = 0x400000000000000000000000000 := Eq.trans rfl rfl
@[simp] theorem rb_PN_SSTAT : rb .PN_SSTAT = 0x800000000000000000000000000 := Eq.trans rfl rfl
@[simp] theorem rb_PN_SVC : rb .PN_SVC = 0x1000000000000000000000000000 := Eq.trans rfl rfl
@[simp] theorem rb_CN_CFG : rb .CN_CFG = 0x2000000000000000000000000000 := Eq.trans rfl rfl
@[simp] theorem rb_CN_CTL : rb .CN_CTL = 0x4000000000000000000000000000 := Eq.trans rfl rfl
@[simp] theorem rb_CN_STAT : rb .CN_STAT = 0x8000000000000000000000000000 := Eq.trans rfl rfl
@[simp] theorem rb_CN_ERR : rb .CN_ERR = 0x10000000000000000000000000000 := Eq.trans rfl rfl
@[simp] theorem rb_CN_PROT : rb .CN_PROT = 0x20000000000000000000000000000 := Eq.trans rfl rfl
@[simp] theorem rb_CN_TIMING : rb .CN_TIMING = 0x40000000000000000000000000000 := Eq.trans rfl rfl
@[simp] theorem rb_CN_OBJCMD : rb .CN_OBJCMD = 0x80000000000000000000000000000 := Eq.trans rfl rfl
@[simp] theorem rb_CN_OBJRES : rb .CN_OBJRES = 0x100000000000000000000000000000 := Eq.trans rfl rfl
@[simp] theorem rb_SX_PORT : rb .SX_PORT = 0x200000000000000000000000000000 := Eq.trans rfl rfl
@[simp] theorem rb_SX_LAP : rb .SX_LAP = 0x400000000000000000000000000000 := Eq.trans rfl rfl
@[simp] theorem rb_SX_ERR : rb .SX_ERR = 0x800000000000000000000000000000 := Eq.trans rfl rfl
@[simp] theorem rb_SX_CAR : rb .SX_CAR = 0x1000000000000000000000000000000 := Eq.trans rfl rfl
@[simp] theorem rb_SX_EPOCH : rb .SX_EPOCH = 0x2000000000000000000000000000000 := Eq.trans rfl rfl
@[simp] theorem rb_UC_CFG : rb .UC_CFG = 0x4000000000000000000000000000000 := Eq.trans rfl rfl
@[simp] theorem rb_UC_STAT : rb .UC_STAT = 0x8000000000000000000000000000000 := Eq.trans rfl rfl
@[simp] theorem rb_UC_DIAG : rb .UC_DIAG = 0x10000000000000000000000000000000 := Eq.trans rfl rfl
@[simp] theorem rb_UC_SLICE : rb .UC_SLICE = 0x20000000000000000000000000000000 := Eq.trans rfl rfl
@[simp] theorem rb_UC_HART : rb .UC_HART = 0x40000000000000000000000000000000 := Eq.trans rfl rfl
@[simp] theorem rb_DC_CFG : rb .DC_CFG = 0x80000000000000000000000000000000 := Eq.trans rfl rfl
@[simp] theorem rb_DC_STAT : rb .DC_STAT = 0x100000000000000000000000000000000 := Eq.trans rfl rfl
@[simp] theorem rb_DC_DIAG : rb .DC_DIAG = 0x200000000000000000000000000000000 := Eq.trans rfl rfl
@[simp] theorem rb_DC_GROUP : rb .DC_GROUP = 0x400000000000000000000000000000000 := Eq.trans rfl rfl

theorem tg_setReg (s : State) (n : RegName) (i : Nat) (w : Word) : Fr 32 (rb n) s (s.setReg n i w) := by
  refine ⟨fun p hp => ?_, fun m j hm => ?_⟩
  · cases p
    case regs => exact absurd hp (by decide)
    all_goals exact Eq.refl _
  · rw [reg_setReg]
    have : m ≠ n := by
      rintro e
      subst e
      rw [rb, Nat.and_self] at hm
      exact absurd hm (Nat.pos_iff_ne_zero.1 (Nat.two_pow_pos _))
    simp [this]

@[simp] theorem fr_setReg {P W : Nat} (b s : State) (n : RegName) (i : Nat) (w : Word) (hP : P &&& 32 = 32)
    (hW : W &&& rb n = rb n) : Fr P W b (s.setReg n i w) ↔ Fr P W b s := Fr.iff (tg_setReg s n i w) hP hW
@[simp] theorem fr_setFld {P W : Nat} (b s : State) (f : Field) (v i : Nat) (hP : P &&& 32 = 32)
    (hW : W &&& rb f.reg = rb f.reg) : Fr P W b (s.setFld f v i) ↔ Fr P W b s := Fr.iff (tg_setReg ..) hP hW
@[simp] theorem fr_setFlag {P W : Nat} (b s : State) (f : Field) (v : Bool) (i : Nat) (hP : P &&& 32 = 32)
    (hW : W &&& rb f.reg = rb f.reg) : Fr P W b (s.setFlag f v i) ↔ Fr P W b s := Fr.iff (tg_setReg ..) hP hW
@[simp] theorem fr_bump {P W : Nat} (b s : State) (f : Field) (i n : Nat) (hP : P &&& 32 = 32)
    (hW : W &&& rb f.reg = rb f.reg) : Fr P W b (s.bump f i n) ↔ Fr P W b s := Fr.iff (tg_setReg ..) hP hW

/-! ## Record updates -/

@[simp] theorem fr_mk {P W : Nat} (b s : State) x0 x1 x2 x3 x4 x6 x7 x8 x9 x10 x11 x12 x13 x14 x15 x16 x17 x18 x19 x20 x21 x22 x23 x24 x25 x26 x27 x28 x29 x30 x31 x32 x33 x34
    (h0 : x0 = s.pending ∨ P &&& 0x1 = 0x1)
    (h1 : x1 = s.out ∨ P &&& 0x2 = 0x2)
    (h2 : x2 = s.lastRead ∨ P &&& 0x4 = 0x4)
    (h3 : x3 = s.lastBytes ∨ P &&& 0x8 = 0x8)
    (h4 : x4 = s.free ∨ P &&& 0x10 = 0x10)
    (h6 : x6 = s.latchHi ∨ P &&& 0x40 = 0x40)
    (h7 : x7 = s.holdLo ∨ P &&& 0x80 = 0x80)
    (h8 : x8 = s.levels ∨ P &&& 0x100 = 0x100)
    (h9 : x9 = s.img ∨ P &&& 0x200 = 0x200)
    (h10 : x10 = s.boot ∨ P &&& 0x400 = 0x400)
    (h11 : x11 = s.base ∨ P &&& 0x800 = 0x800)
    (h12 : x12 = s.key ∨ P &&& 0x1000 = 0x1000)
    (h13 : x13 = s.sn ∨ P &&& 0x2000 = 0x2000)
    (h14 : x14 = s.mt ∨ P &&& 0x4000 = 0x4000)
    (h15 : x15 = s.pw ∨ P &&& 0x8000 = 0x8000)
    (h16 : x16 = s.ln ∨ P &&& 0x10000 = 0x10000)
    (h17 : x17 = s.le ∨ P &&& 0x20000 = 0x20000)
    (h18 : x18 = s.la ∨ P &&& 0x40000 = 0x40000)
    (h19 : x19 = s.bn ∨ P &&& 0x80000 = 0x80000)
    (h20 : x20 = s.io ∨ P &&& 0x100000 = 0x100000)
    (h21 : x21 = s.gy ∨ P &&& 0x200000 = 0x200000)
    (h22 : x22 = s.sx ∨ P &&& 0x400000 = 0x400000)
    (h23 : x23 = s.pn ∨ P &&& 0x800000 = 0x800000)
    (h24 : x24 = s.cn ∨ P &&& 0x1000000 = 0x1000000)
    (h25 : x25 = s.mb ∨ P &&& 0x2000000 = 0x2000000)
    (h26 : x26 = s.lk ∨ P &&& 0x4000000 = 0x4000000)
    (h27 : x27 = s.ac ∨ P &&& 0x8000000 = 0x8000000)
    (h28 : x28 = s.up ∨ P &&& 0x10000000 = 0x10000000)
    (h29 : x29 = s.isl ∨ P &&& 0x20000000 = 0x20000000)
    (h30 : x30 = s.pi ∨ P &&& 0x40000000 = 0x40000000)
    (h31 : x31 = s.subc ∨ P &&& 0x80000000 = 0x80000000)
    (h32 : x32 = s.blk ∨ P &&& 0x100000000 = 0x100000000)
    (h33 : x33 = s.mem ∨ P &&& 0x200000000 = 0x200000000)
    (h34 : x34 = s.forces ∨ P &&& 0x400000000 = 0x400000000)
    (h35 : x15.fuseSealed = s.pw.fuseSealed ∨ P &&& 0x800000000 = 0x800000000) :
    Fr P W b (State.mk x0 x1 x2 x3 x4 s.regs x6 x7 x8 x9 x10 x11 x12 x13 x14 x15 x16 x17 x18 x19 x20 x21 x22 x23 x24 x25 x26 x27 x28 x29 x30 x31 x32 x33 x34) ↔
      Fr P W b s := by
  have key : Fr P W s (State.mk x0 x1 x2 x3 x4 s.regs x6 x7 x8 x9 x10 x11 x12 x13 x14 x15 x16 x17 x18 x19 x20 x21 x22 x23 x24 x25 x26 x27 x28 x29 x30 x31 x32 x33 x34) := by
    refine ⟨fun p hp => ?_, fun n i _ => Eq.refl _⟩
    cases p
    case regs => exact Eq.refl _
    case pending => exact h0.resolve_right fun e => absurd (e.symm.trans hp) (by decide)
    case out => exact h1.resolve_right fun e => absurd (e.symm.trans hp) (by decide)
    case lastRead => exact h2.resolve_right fun e => absurd (e.symm.trans hp) (by decide)
    case lastBytes => exact h3.resolve_right fun e => absurd (e.symm.trans hp) (by decide)
    case free => exact h4.resolve_right fun e => absurd (e.symm.trans hp) (by decide)
    case latchHi => exact h6.resolve_right fun e => absurd (e.symm.trans hp) (by decide)
    case holdLo => exact h7.resolve_right fun e => absurd (e.symm.trans hp) (by decide)
    case levels => exact h8.resolve_right fun e => absurd (e.symm.trans hp) (by decide)
    case img => exact h9.resolve_right fun e => absurd (e.symm.trans hp) (by decide)
    case boot => exact h10.resolve_right fun e => absurd (e.symm.trans hp) (by decide)
    case base => exact h11.resolve_right fun e => absurd (e.symm.trans hp) (by decide)
    case key => exact h12.resolve_right fun e => absurd (e.symm.trans hp) (by decide)
    case sn => exact h13.resolve_right fun e => absurd (e.symm.trans hp) (by decide)
    case mt => exact h14.resolve_right fun e => absurd (e.symm.trans hp) (by decide)
    case pw => exact h15.resolve_right fun e => absurd (e.symm.trans hp) (by decide)
    case ln => exact h16.resolve_right fun e => absurd (e.symm.trans hp) (by decide)
    case le => exact h17.resolve_right fun e => absurd (e.symm.trans hp) (by decide)
    case la => exact h18.resolve_right fun e => absurd (e.symm.trans hp) (by decide)
    case bn => exact h19.resolve_right fun e => absurd (e.symm.trans hp) (by decide)
    case io => exact h20.resolve_right fun e => absurd (e.symm.trans hp) (by decide)
    case gy => exact h21.resolve_right fun e => absurd (e.symm.trans hp) (by decide)
    case sx => exact h22.resolve_right fun e => absurd (e.symm.trans hp) (by decide)
    case pn => exact h23.resolve_right fun e => absurd (e.symm.trans hp) (by decide)
    case cn => exact h24.resolve_right fun e => absurd (e.symm.trans hp) (by decide)
    case mb => exact h25.resolve_right fun e => absurd (e.symm.trans hp) (by decide)
    case lk => exact h26.resolve_right fun e => absurd (e.symm.trans hp) (by decide)
    case ac => exact h27.resolve_right fun e => absurd (e.symm.trans hp) (by decide)
    case up => exact h28.resolve_right fun e => absurd (e.symm.trans hp) (by decide)
    case isl => exact h29.resolve_right fun e => absurd (e.symm.trans hp) (by decide)
    case pi => exact h30.resolve_right fun e => absurd (e.symm.trans hp) (by decide)
    case subc => exact h31.resolve_right fun e => absurd (e.symm.trans hp) (by decide)
    case blk => exact h32.resolve_right fun e => absurd (e.symm.trans hp) (by decide)
    case mem => exact h33.resolve_right fun e => absurd (e.symm.trans hp) (by decide)
    case forces => exact h34.resolve_right fun e => absurd (e.symm.trans hp) (by decide)
    case fuse => exact h35.resolve_right fun e => absurd (e.symm.trans hp) (by decide)
  exact Fr.iff (p := P) (w := W) key (Nat.and_self P) (Nat.and_self W)

end Sys2Proof.Machine
end

