-- ==== Sys2Proof/Laws/FrameOps.lean ====
section
/-! SUPPORT. What the functions of Machine/Ops.lean may change: for each, as bit masks, the parts of the state and the registers. -/

namespace Sys2Proof.Machine

@[simp] theorem fr_emit {P W : Nat} (b_ : State) (s : State) (o : Output)
    (hP : P &&& 0x2 = 0x2) (hW : W &&& 0x0 = 0x0) :
    Fr P W b_ (State.emit s o) ↔ Fr P W b_ s := Fr.iff (p := 0x2) (w := 0x0) (by
  unfold State.emit; simp) hP hW

@[simp] theorem fr_ev {P W : Nat} (b_ : State) (s : State) (n : Nat)
    (hP : P &&& 0x100 = 0x100) (hW : W &&& 0x0 = 0x0) :
    Fr P W b_ (State.ev s n) ↔ Fr P W b_ s := Fr.iff (p := 0x100) (w := 0x0) (by
  unfold State.ev; simp) hP hW

@[simp] theorem fr_raise {P W : Nat} (b_ s : State) (island code : Nat) (p : Payload) (hP : P &&& 0x2020 = 0x2020) (hW
    : W &&& 0x2 = 0x2) :
    Fr P W b_ (s.raise island code p) ↔ Fr P W b_ s := Fr.iff (p := 0x2020) (w := 0x2) (by
  clear hP hW; unfold State.raise; simp) hP hW

@[simp high] theorem fr_raise_sup {P W : Nat} (b_ s : State) (code : Nat) (p : Payload) (hP : P &&& 0x2000 = 0x2000) :
    Fr P W b_ (s.raise islSup code p) ↔ Fr P W b_ s := Fr.iff (p := 0x2000) (w := 0) (by
  clear hP; unfold State.raise; simp [islSup]) hP (Nat.and_zero W)

@[simp] theorem fr_note {P W : Nat} (b_ s : State) (island code : Nat) (xs : List Nat) (hP : P &&& 0x2020 = 0x2020) (hW
    : W &&& 0x2 = 0x2) :
    Fr P W b_ (s.note island code xs) ↔ Fr P W b_ s := fr_raise b_ s island code (.items xs) hP hW

@[simp high] theorem fr_note_sup {P W : Nat} (b_ s : State) (code : Nat) (xs : List Nat) (hP : P &&& 0x2000 = 0x2000) :
    Fr P W b_ (s.note islSup code xs) ↔ Fr P W b_ s := fr_raise_sup b_ s code (.items xs) hP

@[simp] theorem fr_anchor {P W : Nat} (b_ : State) (s : State) (reason : Nat)
    (hP : P &&& 0x2000 = 0x2000) (hW : W &&& 0x0 = 0x0) :
    Fr P W b_ (State.anchor s reason) ↔ Fr P W b_ s := Fr.iff (p := 0x2000) (w := 0x0) (by
  unfold State.anchor; simp) hP hW

@[simp] theorem fr_draw {P W : Nat} (b_ : State) (s : State)
    (hP : P &&& 0x10 = 0x10) (hW : W &&& 0x0 = 0x0) :
    Fr P W b_ (State.draw s) ↔ Fr P W b_ s := Fr.iff (p := 0x10) (w := 0x0) (by
  unfold State.draw; simp) hP hW

@[simp] theorem fr_slotPut {P W : Nat} (b_ : State) (s : State) (n : Nat) (w : Word)
    (hP : P &&& 0x20 = 0x20) (hW : W &&& 0x400 = 0x400) :
    Fr P W b_ (State.slotPut s n w) ↔ Fr P W b_ s := Fr.iff (p := 0x20) (w := 0x400) (by
  unfold State.slotPut; simp) hP hW

@[simp] theorem fr_lockSlots {P W : Nat} (b_ : State) (s : State)
    (hP : P &&& 0x2020 = 0x2020) (hW : W &&& 0x200 = 0x200) :
    Fr P W b_ (State.lockSlots s) ↔ Fr P W b_ s := Fr.iff (p := 0x2020) (w := 0x200) (by
  unfold State.lockSlots; simp) hP hW

@[simp] theorem fr_routePut {P W : Nat} (b_ : State) (s : State) (g : Nat) (w : Word)
    (hP : P &&& 0x20 = 0x20) (hW : W &&& 0x80 = 0x80) :
    Fr P W b_ (State.routePut s g w) ↔ Fr P W b_ s := Fr.iff (p := 0x20) (w := 0x80) (by
  unfold State.routePut; simp) hP hW

@[simp] theorem fr_tick {P W : Nat} (b_ : State) (s : State)
    (hP : P &&& 0x4000 = 0x4000) (hW : W &&& 0x0 = 0x0) :
    Fr P W b_ (State.tick s) ↔ Fr P W b_ s := Fr.iff (p := 0x4000) (w := 0x0) (by
  unfold State.tick; simp) hP hW

@[simp] theorem fr_setPhase {P W : Nat} (b_ : State) (s : State) (p : Nat)
    (hP : P &&& 0x120 = 0x120) (hW : W &&& 0x1 = 0x1) :
    Fr P W b_ (State.setPhase s p) ↔ Fr P W b_ s := Fr.iff (p := 0x120) (w := 0x1) (by
  unfold State.setPhase; simp) hP hW

@[simp] theorem fr_bnNote {P W : Nat} (b_ : State) (s : State) (code : Nat) (xs : List Nat := [])
    (hP : P &&& 0x2020 = 0x2020) (hW : W &&& 0x2 = 0x2) :
    Fr P W b_ (State.bnNote s code xs) ↔ Fr P W b_ s := Fr.iff (p := 0x2020) (w := 0x2) (by
  unfold State.bnNote; simp) hP hW

@[simp] theorem fr_relay {P W : Nat} (b_ : State) (s : State)
    (hP : P &&& 0x8000 = 0x8000) (hW : W &&& 0x0 = 0x0) :
    Fr P W b_ (State.relay s) ↔ Fr P W b_ s := Fr.iff (p := 0x8000) (w := 0x0) (by
  unfold State.relay; simp) hP hW

@[simp] theorem fr_takeRole {P W : Nat} (b_ : State) (s : State) (r : Nat)
    (hP : P &&& 0x400 = 0x400) (hW : W &&& 0x0 = 0x0) :
    Fr P W b_ (State.takeRole s r) ↔ Fr P W b_ s := Fr.iff (p := 0x400) (w := 0x0) (by
  unfold State.takeRole; simp) hP hW

@[simp] theorem fr_runRole {P W : Nat} (b_ : State) (s : State) (r : Nat)
    (hP : P &&& 0x10000000 = 0x10000000) (hW : W &&& 0x0 = 0x0) :
    Fr P W b_ (State.runRole s r) ↔ Fr P W b_ s := Fr.iff (p := 0x10000000) (w := 0x0) (by
  unfold State.runRole; simp) hP hW

@[simp] theorem fr_roleLeft {P W : Nat} (b_ : State) (s : State)
    (hP : P &&& 0x2120 = 0x2120) (hW : W &&& 0x2 = 0x2) :
    Fr P W b_ (State.roleLeft s) ↔ Fr P W b_ s := Fr.iff (p := 0x2120) (w := 0x2) (by
  unfold State.roleLeft; (repeat' split) <;> simp) hP hW

@[simp] theorem fr_setRole {P W : Nat} (b_ : State) (s : State) (r : Nat)
    (hP : P &&& 0x1000a520 = 0x1000a520) (hW : W &&& 0x100000000000000000000002 = 0x100000000000000000000002) :
    Fr P W b_ (State.setRole s r) ↔ Fr P W b_ s := Fr.iff (p := 0x1000a520) (w := 0x100000000000000000000002) (by
  unfold State.setRole; simp) hP hW

@[simp] theorem fr_setCoord {P W : Nat} (b_ : State) (s : State) (b : Bool)
    (hP : P &&& 0x2120 = 0x2120) (hW : W &&& 0x800000000000000 = 0x800000000000000) :
    Fr P W b_ (State.setCoord s b) ↔ Fr P W b_ s := Fr.iff (p := 0x2120) (w := 0x800000000000000) (by
  unfold State.setCoord; simp) hP hW

@[simp] theorem fr_setTimeState {P W : Nat} (b_ : State) (s : State) (st : Nat)
    (hP : P &&& 0x2120 = 0x2120) (hW : W &&& 0x800000000000000 = 0x800000000000000) :
    Fr P W b_ (State.setTimeState s st) ↔ Fr P W b_ s := Fr.iff (p := 0x2120) (w := 0x800000000000000) (by
  unfold State.setTimeState; simp) hP hW

@[simp] theorem fr_setTimeSource {P W : Nat} (b_ : State) (s : State) (o : Nat)
    (hP : P &&& 0x2020 = 0x2020) (hW : W &&& 0x800000000000000 = 0x800000000000000) :
    Fr P W b_ (State.setTimeSource s o) ↔ Fr P W b_ s := Fr.iff (p := 0x2020) (w := 0x800000000000000) (by
  unfold State.setTimeSource; simp) hP hW

@[simp] theorem fr_setUpPhase {P W : Nat} (b_ : State) (s : State) (p : Nat)
    (hP : P &&& 0x120 = 0x120) (hW : W &&& 0x100000 = 0x100000) :
    Fr P W b_ (State.setUpPhase s p) ↔ Fr P W b_ s := Fr.iff (p := 0x120) (w := 0x100000) (by
  unfold State.setUpPhase; simp) hP hW

@[simp] theorem fr_setUpCode {P W : Nat} (b_ : State) (s : State) (c : Nat)
    (hP : P &&& 0x120 = 0x120) (hW : W &&& 0x100000 = 0x100000) :
    Fr P W b_ (State.setUpCode s c) ↔ Fr P W b_ s := Fr.iff (p := 0x120) (w := 0x100000) (by
  unfold State.setUpCode; simp) hP hW

@[simp] theorem fr_setLane {P W : Nat} (b_ : State) (s : State) (k : Nat) (xs : List Nat)
    (hP : P &&& 0x20000 = 0x20000) (hW : W &&& 0x0 = 0x0) :
    Fr P W b_ (State.setLane s k xs) ↔ Fr P W b_ s := Fr.iff (p := 0x20000) (w := 0x0) (by
  unfold State.setLane; simp) hP hW

@[simp] theorem fr_loadSeen {P W : Nat} (b_ : State) (s : State)
    (hP : P &&& 0x20020 = 0x20020) (hW : W &&& 0x10000000000000000000 = 0x10000000000000000000) :
    Fr P W b_ (State.loadSeen s) ↔ Fr P W b_ s := Fr.iff (p := 0x20020) (w := 0x10000000000000000000) (by
  unfold State.loadSeen; simp) hP hW

@[simp] theorem fr_openWin {P W : Nat} (b_ : State) (s : State) (cls g : Nat) (a b : Instant)
    (hP : P &&& 0x20020 = 0x20020) (hW : W &&& 0x10000000000000000000 = 0x10000000000000000000) :
    Fr P W b_ (State.openWin s cls g a b) ↔ Fr P W b_ s := Fr.iff (p := 0x20020) (w := 0x10000000000000000000) (by
  unfold State.openWin; simp) hP hW

@[simp] theorem fr_stopEngine {P W : Nat} (b_ : State) (s : State)
    (hP : P &&& 0x20020 = 0x20020) (hW : W &&& 0x10000000000000000000 = 0x10000000000000000000) :
    Fr P W b_ (State.stopEngine s) ↔ Fr P W b_ s := Fr.iff (p := 0x20020) (w := 0x10000000000000000000) (by
  unfold State.stopEngine; simp) hP hW

@[simp] theorem fr_stopLaunch {P W : Nat} (b_ : State) (s : State)
    (hP : P &&& 0x30020 = 0x30020) (hW : W &&& 0x10440000000000000000 = 0x10440000000000000000) :
    Fr P W b_ (State.stopLaunch s) ↔ Fr P W b_ s := Fr.iff (p := 0x30020) (w := 0x10440000000000000000) (by
  unfold State.stopLaunch; simp) hP hW

@[simp] theorem fr_startLaunch {P W : Nat} (b_ : State) (s : State)
    (hP : P &&& 0x20 = 0x20) (hW : W &&& 0x40000000000000000 = 0x40000000000000000) :
    Fr P W b_ (State.startLaunch s) ↔ Fr P W b_ s := Fr.iff (p := 0x20) (w := 0x40000000000000000) (by
  unfold State.startLaunch; simp) hP hW

@[simp] theorem fr_keyPut {P W : Nat} (b_ : State) (s : State) (a : Nat) (v : W64)
    (hP : P &&& 0x1000 = 0x1000) (hW : W &&& 0x0 = 0x0) :
    Fr P W b_ (State.keyPut s a v) ↔ Fr P W b_ s := Fr.iff (p := 0x1000) (w := 0x0) (by
  unfold State.keyPut; simp) hP hW

@[simp] theorem fr_keyPuts {P W : Nat} (b_ : State) (s : State) (a : Nat) (x0 : List W64)
    (hP : P &&& 0x1000 = 0x1000) (hW : W &&& 0x0 = 0x0) :
    Fr P W b_ (State.keyPuts s a x0) ↔ Fr P W b_ s := Fr.iff (p := 0x1000) (w := 0x0) (by
  clear hP hW
  have key : ∀ c_, Fr 0x1000 0x0 c_ (State.keyPuts s a x0) ↔ Fr 0x1000 0x0 c_ s := by
    induction x0 generalizing s a with
    | nil => intro c_; unfold State.keyPuts; simp
    | cons y_ ys_ ih => intro c_; unfold State.keyPuts; simp [ih]
  exact (key _).2 (by simp)) hP hW

@[simp] theorem fr_keyPutRec {P W : Nat} (b_ : State) (s : State) {n : Nat} (a : Nat) (w : BitVec n)
    (hP : P &&& 0x1000 = 0x1000) (hW : W &&& 0x0 = 0x0) :
    Fr P W b_ (State.keyPutRec s a w) ↔ Fr P W b_ s := Fr.iff (p := 0x1000) (w := 0x0) (by
  unfold State.keyPutRec; simp) hP hW

@[simp] theorem fr_showTrial {P W : Nat} (b_ : State) (s : State)
    (hP : P &&& 0x20 = 0x20) (hW : W &&& 0x530000 = 0x530000) :
    Fr P W b_ (State.showTrial s) ↔ Fr P W b_ s := Fr.iff (p := 0x20) (w := 0x530000) (by
  unfold State.showTrial; simp) hP hW

@[simp] theorem fr_selWrite {P W : Nat} (b_ : State) (s : State) (f : BitVec 512 → BitVec 512)
    (hP : P &&& 0x1020 = 0x1020) (hW : W &&& 0x530000 = 0x530000) :
    Fr P W b_ (State.selWrite s f) ↔ Fr P W b_ s := Fr.iff (p := 0x1020) (w := 0x530000) (by
  unfold State.selWrite; simp; (repeat' split) <;> simp) hP hW

@[simp] theorem fr_startNote {P W : Nat} (b_ : State) (s : State) (code refusal : Nat) (tag : W64) (version : Nat := 0)
    (hP : P &&& 0x2000 = 0x2000) (hW : W &&& 0x0 = 0x0) :
    Fr P W b_ (State.startNote s code refusal tag version) ↔ Fr P W b_ s := Fr.iff (p := 0x2000) (w := 0x0) (by
  unfold State.startNote; simp) hP hW

@[simp] theorem fr_dropReady {P W : Nat} (b_ : State) (s : State)
    (hP : P &&& 0x8020 = 0x8020) (hW : W &&& 0x100000000000000000000000 = 0x100000000000000000000000) :
    Fr P W b_ (State.dropReady s) ↔ Fr P W b_ s := Fr.iff (p := 0x8020) (w := 0x100000000000000000000000) (by
  unfold State.dropReady; simp) hP hW

@[simp] theorem fr_refuse {P W : Nat} (b_ : State) (s : State) (code : Nat)
    (hP : P &&& 0x1008a520 = 0x1008a520) (hW : W &&& 0x300000000000000000100003 = 0x300000000000000000100003) :
    Fr P W b_ (State.refuse s code) ↔ Fr P W b_ s := Fr.iff (p := 0x1008a520) (w := 0x300000000000000000100003) (by
  unfold State.refuse; simp) hP hW

end Sys2Proof.Machine
end

