-- ==== Sys2Proof/Laws/FramePoints.lean ====
section
/-! SUPPORT. What the functions of Machine/Points.lean may change: for each, as bit masks, the parts of the state and the registers. -/

namespace Sys2Proof.Machine

@[simp] theorem fr_setSub {P W : Nat} (b_ : State) (s : State) (k : Nat) (r : W64)
    (hP : P &&& 0x80000000 = 0x80000000) (hW : W &&& 0x0 = 0x0) :
    Fr P W b_ (State.setSub s k r) ↔ Fr P W b_ s := Fr.iff (p := 0x80000000) (w := 0x0) (by
  unfold State.setSub; simp) hP hW

@[simp] theorem fr_bytePut {P W : Nat} (b_ : State) (s : State) (a : Nat) (b : Byte)
    (hP : P &&& 0x200000000 = 0x200000000) (hW : W &&& 0x0 = 0x0) :
    Fr P W b_ (State.bytePut s a b) ↔ Fr P W b_ s := Fr.iff (p := 0x200000000) (w := 0x0) (by
  unfold State.bytePut; simp) hP hW

@[simp] theorem fr_bytesPut {P W : Nat} (b_ : State) (s : State) (a : Nat) (x0 : List Byte)
    (hP : P &&& 0x200000000 = 0x200000000) (hW : W &&& 0x0 = 0x0) :
    Fr P W b_ (State.bytesPut s a x0) ↔ Fr P W b_ s := Fr.iff (p := 0x200000000) (w := 0x0) (by
  clear hP hW
  have key : ∀ c_, Fr 0x200000000 0x0 c_ (State.bytesPut s a x0) ↔ Fr 0x200000000 0x0 c_ s := by
    induction x0 generalizing s a with
    | nil => intro c_; unfold State.bytesPut; simp
    | cons y_ ys_ ih => intro c_; unfold State.bytesPut; simp [ih]
  exact (key _).2 (by simp)) hP hW

@[simp] theorem fr_twPut {P W : Nat} (b_ : State) (s : State) (w : Nat) (v : W64)
    (hP : P &&& 0x340000000 = 0x340000000) (hW : W &&& 0x0 = 0x0) :
    Fr P W b_ (State.twPut s w v) ↔ Fr P W b_ s := Fr.iff (p := 0x340000000) (w := 0x0) (by
  unfold State.twPut; simp) hP hW

@[simp] theorem fr_markDirty {P W : Nat} (b_ : State) (s : State) (w : Nat)
    (hP : P &&& 0x80000 = 0x80000) (hW : W &&& 0x0 = 0x0) :
    Fr P W b_ (State.markDirty s w) ↔ Fr P W b_ s := Fr.iff (p := 0x80000) (w := 0x0) (by
  unfold State.markDirty; simp) hP hW

@[simp] theorem fr_twWrite {P W : Nat} (b_ : State) (s : State) (w : Nat) (v : W64)
    (hP : P &&& 0x340080000 = 0x340080000) (hW : W &&& 0x0 = 0x0) :
    Fr P W b_ (State.twWrite s w v) ↔ Fr P W b_ s := Fr.iff (p := 0x340080000) (w := 0x0) (by
  unfold State.twWrite; simp) hP hW

@[simp] theorem fr_piPut {P W : Nat} (b_ : State) (s : State) (i : Nat) (r : W64)
    (hP : P &&& 0x340080000 = 0x340080000) (hW : W &&& 0x0 = 0x0) :
    Fr P W b_ (State.piPut s i r) ↔ Fr P W b_ s := Fr.iff (p := 0x340080000) (w := 0x0) (by
  unfold State.piPut; simp) hP hW

@[simp] theorem fr_made {P W : Nat} (b_ : State) (s : State) (i : Nat) (r : W64)
    (hP : P &&& 0x10000 = 0x10000) (hW : W &&& 0x0 = 0x0) :
    Fr P W b_ (State.made s i r) ↔ Fr P W b_ s := Fr.iff (p := 0x10000) (w := 0x0) (by
  unfold State.made; simp) hP hW

@[simp] theorem fr_produce {P W : Nat} (b_ : State) (s : State) (i : Nat) (r : W64)
    (hP : P &&& 0x340090000 = 0x340090000) (hW : W &&& 0x0 = 0x0) :
    Fr P W b_ (State.produce s i r) ↔ Fr P W b_ s := Fr.iff (p := 0x340090000) (w := 0x0) (by
  clear hP hW; unfold State.produce; (repeat' split) <;> (try simp) <;> (repeat' split) <;> simp_all) hP hW

@[simp] theorem fr_blkPut {P W : Nat} (b_ : State) (s : State) (b : Nat) (v : BitVec 256)
    (hP : P &&& 0x100080000 = 0x100080000) (hW : W &&& 0x0 = 0x0) :
    Fr P W b_ (State.blkPut s b v) ↔ Fr P W b_ s := Fr.iff (p := 0x100080000) (w := 0x0) (by
  unfold State.blkPut; simp) hP hW

@[simp] theorem fr_blksPut {P W : Nat} (b_ : State) (s : State) (b : Nat) (x0 : List (BitVec 256))
    (hP : P &&& 0x100080000 = 0x100080000) (hW : W &&& 0x0 = 0x0) :
    Fr P W b_ (State.blksPut s b x0) ↔ Fr P W b_ s := Fr.iff (p := 0x100080000) (w := 0x0) (by
  clear hP hW
  have key : ∀ c_, Fr 0x100080000 0x0 c_ (State.blksPut s b x0) ↔ Fr 0x100080000 0x0 c_ s := by
    induction x0 generalizing s b with
    | nil => intro c_; unfold State.blksPut; simp
    | cons y_ ys_ ih => intro c_; unfold State.blksPut; simp [ih]
  exact (key _).2 (by simp)) hP hW

@[simp] theorem fr_showAt {P W : Nat} (b_ : State) (s : State) (t : Instant) (i : Nat) (r : W64)
    (hP : P &&& 0x10000 = 0x10000) (hW : W &&& 0x0 = 0x0) :
    Fr P W b_ (State.showAt s t i r) ↔ Fr P W b_ s := Fr.iff (p := 0x10000) (w := 0x0) (by
  unfold State.showAt; simp) hP hW

@[simp] theorem fr_retain {P W : Nat} (b_ : State) (s : State) (w : Nat) (v : W64)
    (hP : P &&& 0x8000 = 0x8000) (hW : W &&& 0x0 = 0x0) :
    Fr P W b_ (State.retain s w v) ↔ Fr P W b_ s := Fr.iff (p := 0x8000) (w := 0x0) (by
  unfold State.retain; simp; (repeat' split) <;> simp) hP hW

@[simp] theorem fr_takeVis {P W : Nat} (b_ : State) (s : State) (t : Instant) (x0 : List (Instant × Nat × W64))
    (hP : P &&& 0x340098000 = 0x340098000) (hW : W &&& 0x0 = 0x0) :
    Fr P W b_ (State.takeVis s t x0) ↔ Fr P W b_ s := Fr.iff (p := 0x340098000) (w := 0x0) (by
  clear hP hW
  have key : ∀ c_, Fr 0x340098000 0x0 c_ (State.takeVis s t x0) ↔ Fr 0x340098000 0x0 c_ s := by
    induction x0 generalizing s t with
    | nil => intro c_; unfold State.takeVis; simp
    | cons y_ ys_ ih => intro c_; unfold State.takeVis; (repeat' split) <;> simp [ih]
  exact (key _).2 (by simp)) hP hW

@[simp] theorem fr_takeSets {P W : Nat} (b_ : State) (s : State) (t : Instant) (x0 : List (Nat × Instant × List (Nat ×
    W64)))
    (hP : P &&& 0x340090000 = 0x340090000) (hW : W &&& 0x0 = 0x0) :
    Fr P W b_ (State.takeSets s t x0) ↔ Fr P W b_ s := Fr.iff (p := 0x340090000) (w := 0x0) (by
  clear hP hW
  have key : ∀ c_, Fr 0x340090000 0x0 c_ (State.takeSets s t x0) ↔ Fr 0x340090000 0x0 c_ s := by
    induction x0 generalizing s t with
    | nil => intro c_; unfold State.takeSets; simp
    | cons y_ ys_ ih => intro c_; unfold State.takeSets; (repeat' split) <;> simp [ih]
  exact (key _).2 (by simp)) hP hW

@[simp] theorem fr_lates {P W : Nat} (b_ : State) (s : State) (x0 : List Nat)
    (hP : P &&& 0x340090000 = 0x340090000) (hW : W &&& 0x0 = 0x0) :
    Fr P W b_ (State.lates s x0) ↔ Fr P W b_ s := Fr.iff (p := 0x340090000) (w := 0x0) (by
  clear hP hW
  have key : ∀ c_, Fr 0x340090000 0x0 c_ (State.lates s x0) ↔ Fr 0x340090000 0x0 c_ s := by
    induction x0 generalizing s with
    | nil => intro c_; unfold State.lates; simp
    | cons y_ ys_ ih => intro c_; unfold State.lates; simp [ih]
  exact (key _).2 (by simp)) hP hW

@[simp] theorem fr_lateSets {P W : Nat} (b_ : State) (s : State) (t : Instant) (x0 : List Expect)
    (hP : P &&& 0x340090020 = 0x340090020) (hW : W &&& 0x80000000000000000 = 0x80000000000000000) :
    Fr P W b_ (State.lateSets s t x0) ↔ Fr P W b_ s := Fr.iff (p := 0x340090020) (w := 0x80000000000000000) (by
  clear hP hW
  have key : ∀ c_, Fr 0x340090020 0x80000000000000000 c_ (State.lateSets s t x0) ↔ Fr 0x340090020 0x80000000000000000
      c_ s := by
    induction x0 generalizing s t with
    | nil => intro c_; unfold State.lateSets; simp
    | cons y_ ys_ ih => intro c_; unfold State.lateSets; (repeat' split) <;> simp [ih]
  exact (key _).2 (by simp)) hP hW

@[simp] theorem fr_setSubSt {P W : Nat} (b_ : State) (s : State) (n : Nat) (x : Sub)
    (hP : P &&& 0x10000 = 0x10000) (hW : W &&& 0x0 = 0x0) :
    Fr P W b_ (State.setSubSt s n x) ↔ Fr P W b_ s := Fr.iff (p := 0x10000) (w := 0x0) (by
  unfold State.setSubSt; simp) hP hW

@[simp] theorem fr_applySub {P W : Nat} (b_ : State) (s : State) (x0 : List Nat)
    (hP : P &&& 0x80000000 = 0x80000000) (hW : W &&& 0x0 = 0x0) :
    Fr P W b_ (State.applySub s x0) ↔ Fr P W b_ s := Fr.iff (p := 0x80000000) (w := 0x0) (by
  clear hP hW
  have key : ∀ c_, Fr 0x80000000 0x0 c_ (State.applySub s x0) ↔ Fr 0x80000000 0x0 c_ s := by
    induction x0 generalizing s with
    | nil => intro c_; unfold State.applySub; simp
    | cons y_ ys_ ih => intro c_; unfold State.applySub; simp [ih]
  exact (key _).2 (by simp)) hP hW

@[simp] theorem fr_missSub {P W : Nat} (b_ : State) (s : State) (k : Nat) (x0 : List Nat)
    (hP : P &&& 0x80000000 = 0x80000000) (hW : W &&& 0x0 = 0x0) :
    Fr P W b_ (State.missSub s k x0) ↔ Fr P W b_ s := Fr.iff (p := 0x80000000) (w := 0x0) (by
  clear hP hW
  have key : ∀ c_, Fr 0x80000000 0x0 c_ (State.missSub s k x0) ↔ Fr 0x80000000 0x0 c_ s := by
    induction x0 generalizing s k with
    | nil => intro c_; unfold State.missSub; simp
    | cons y_ ys_ ih => intro c_; unfold State.missSub; simp [ih]
  exact (key _).2 (by simp)) hP hW

@[simp] theorem fr_inputLate {P W : Nat} (b_ : State) (s : State)
    (hP : P &&& 0x120 = 0x120) (hW : W &&& 0x40000000000000000 = 0x40000000000000000) :
    Fr P W b_ (State.inputLate s) ↔ Fr P W b_ s := Fr.iff (p := 0x120) (w := 0x40000000000000000) (by
  unfold State.inputLate; simp) hP hW

@[simp] theorem fr_missAt {P W : Nat} (b_ : State) (s : State) (n : Nat) (c : SubCfg) (g : Instant) (k : Nat)
    (hP : P &&& 0x80010120 = 0x80010120) (hW : W &&& 0x240000000000000000 = 0x240000000000000000) :
    Fr P W b_ (State.missAt s n c g k) ↔ Fr P W b_ s := Fr.iff (p := 0x80010120) (w := 0x240000000000000000) (by
  unfold State.missAt; simp) hP hW

@[simp] theorem fr_fallDue {P W : Nat} (b_ : State) (s : State) (n : Nat)
    (hP : P &&& 0x80010120 = 0x80010120) (hW : W &&& 0x240000000000000000 = 0x240000000000000000) :
    Fr P W b_ (State.fallDue s n) ↔ Fr P W b_ s := Fr.iff (p := 0x80010120) (w := 0x240000000000000000) (by
  unfold State.fallDue; simp; (repeat' split) <;> simp) hP hW

@[simp] theorem fr_missDue {P W : Nat} (b_ : State) (s : State) (t : Instant) (n : Nat)
    (hP : P &&& 0x80010120 = 0x80010120) (hW : W &&& 0x240000000000000000 = 0x240000000000000000) :
    Fr P W b_ (State.missDue s t n) ↔ Fr P W b_ s := Fr.iff (p := 0x80010120) (w := 0x240000000000000000) (by
  unfold State.missDue; simp; (repeat' split) <;> simp) hP hW

@[simp] theorem fr_subsAt {P W : Nat} (b_ : State) (s : State) (t : Instant) (x0 : List (Nat × Sub))
    (hP : P &&& 0x80010120 = 0x80010120) (hW : W &&& 0x240000000000000000 = 0x240000000000000000) :
    Fr P W b_ (State.subsAt s t x0) ↔ Fr P W b_ s := Fr.iff (p := 0x80010120) (w := 0x240000000000000000) (by
  clear hP hW
  have key : ∀ c_, Fr 0x80010120 0x240000000000000000 c_ (State.subsAt s t x0) ↔ Fr 0x80010120 0x240000000000000000 c_
      s := by
    induction x0 generalizing s t with
    | nil => intro c_; unfold State.subsAt; simp
    | cons y_ ys_ ih => intro c_; unfold State.subsAt; (repeat' split) <;> simp [ih]
  exact (key _).2 (by simp)) hP hW

@[simp] theorem fr_settle {P W : Nat} (b_ : State) (s : State) (t : Instant)
    (hP : P &&& 0x3c0098120 = 0x3c0098120) (hW : W &&& 0x2c0000000000000000 = 0x2c0000000000000000) :
    Fr P W b_ (State.settle s t) ↔ Fr P W b_ s := Fr.iff (p := 0x3c0098120) (w := 0x2c0000000000000000) (by
  unfold State.settle; simp) hP hW

end Sys2Proof.Machine
end

