-- ==== Sys2Proof/Laws/FrameAdaptCore.lean ====
section
/-! SUPPORT. What the functions of Machine/AdaptCore.lean may change: for each, as bit masks, the parts of the state and the registers. -/

namespace Sys2Proof.Machine

@[simp] theorem fr_setAdapt {P W : Nat} (b_ : State) (s : State) (l : Nat) (r : AdaptRec)
    (hP : P &&& 0x40000 = 0x40000) (hW : W &&& 0x0 = 0x0) :
    Fr P W b_ (State.setAdapt s l r) ↔ Fr P W b_ s := Fr.iff (p := 0x40000) (w := 0x0) (by
  unfold State.setAdapt; simp) hP hW

@[simp] theorem fr_adaptNote {P W : Nat} (b_ : State) (s : State) (code l : Nat) (n : AdaptNote)
    (hP : P &&& 0x2100 = 0x2100) (hW : W &&& 0x0 = 0x0) :
    Fr P W b_ (State.adaptNote s code l n) ↔ Fr P W b_ s := Fr.iff (p := 0x2100) (w := 0x0) (by
  unfold State.adaptNote; simp) hP hW

@[simp] theorem fr_showTests {P W : Nat} (b_ : State) (s : State)
    (hP : P &&& 0x20 = 0x20) (hW : W &&& 0x40000000000000000000 = 0x40000000000000000000) :
    Fr P W b_ (State.showTests s) ↔ Fr P W b_ s := Fr.iff (p := 0x20) (w := 0x40000000000000000000) (by
  unfold State.showTests; simp) hP hW

@[simp] theorem fr_showSurge {P W : Nat} (b_ : State) (s : State)
    (hP : P &&& 0x20 = 0x20) (hW : W &&& 0x40000000000000000000 = 0x40000000000000000000) :
    Fr P W b_ (State.showSurge s) ↔ Fr P W b_ s := Fr.iff (p := 0x20) (w := 0x40000000000000000000) (by
  unfold State.showSurge; simp) hP hW

@[simp] theorem fr_freeSlot {P W : Nat} (b_ : State) (s : State) (k : Nat)
    (hP : P &&& 0x40020 = 0x40020) (hW : W &&& 0x240000000000000000000 = 0x240000000000000000000) :
    Fr P W b_ (State.freeSlot s k) ↔ Fr P W b_ s := Fr.iff (p := 0x40020) (w := 0x240000000000000000000) (by
  unfold State.freeSlot; simp) hP hW

@[simp] theorem fr_abortTest {P W : Nat} (b_ : State) (s : State) (k reason : Nat)
    (hP : P &&& 0x42120 = 0x42120) (hW : W &&& 0xa40000000000000000000 = 0xa40000000000000000000) :
    Fr P W b_ (State.abortTest s k reason) ↔ Fr P W b_ s := Fr.iff (p := 0x42120) (w := 0xa40000000000000000000) (by
  unfold State.abortTest; simp) hP hW

@[simp] theorem fr_abortTests {P W : Nat} (b_ : State) (s : State) (reason : Nat)
    (hP : P &&& 0x42120 = 0x42120) (hW : W &&& 0xa40000000000000000000 = 0xa40000000000000000000) :
    Fr P W b_ (State.abortTests s reason) ↔ Fr P W b_ s := Fr.iff (p := 0x42120) (w := 0xa40000000000000000000) (by
  unfold State.abortTests; simp) hP hW

@[simp] theorem fr_lockout {P W : Nat} (b_ : State) (s : State) (l reason : Nat)
    (hP : P &&& 0x40000 = 0x40000) (hW : W &&& 0x0 = 0x0) :
    Fr P W b_ (State.lockout s l reason) ↔ Fr P W b_ s := Fr.iff (p := 0x40000) (w := 0x0) (by
  unfold State.lockout; simp) hP hW

@[simp] theorem fr_toKeep {P W : Nat} (b_ : State) (s : State) (l : Nat)
    (hP : P &&& 0x40000 = 0x40000) (hW : W &&& 0x0 = 0x0) :
    Fr P W b_ (State.toKeep s l) ↔ Fr P W b_ s := Fr.iff (p := 0x40000) (w := 0x0) (by
  unfold State.toKeep; simp) hP hW

@[simp] theorem fr_abortLoop {P W : Nat} (b_ : State) (s : State) (l reason : Nat)
    (hP : P &&& 0x42120 = 0x42120) (hW : W &&& 0xa40000000000000000000 = 0xa40000000000000000000) :
    Fr P W b_ (State.abortLoop s l reason) ↔ Fr P W b_ s := Fr.iff (p := 0x42120) (w := 0xa40000000000000000000) (by
  unfold State.abortLoop; (repeat' split) <;> simp) hP hW

@[simp] theorem fr_adaptFault {P W : Nat} (b_ : State) (s : State) (l set : Nat)
    (hP : P &&& 0x42120 = 0x42120) (hW : W &&& 0xa40000000000000000000 = 0xa40000000000000000000) :
    Fr P W b_ (State.adaptFault s l set) ↔ Fr P W b_ s := Fr.iff (p := 0x42120) (w := 0xa40000000000000000000) (by
  unfold State.adaptFault; simp) hP hW

end Sys2Proof.Machine
end

