-- ==== Sys2Proof/Laws/FrameAuthority.lean ====
section
/-! SUPPORT. What the functions of Machine/Authority.lean may change: for each, as bit masks, the parts of the state and the registers. -/

namespace Sys2Proof.Machine

@[simp] theorem fr_driveClaim {P W : Nat} (b_ : State) (s : State) (b : Bool)
    (hP : P &&& 0x80020 = 0x80020) (hW : W &&& 0x200000000000000000000000 = 0x200000000000000000000000) :
    Fr P W b_ (State.driveClaim s b) ↔ Fr P W b_ s := Fr.iff (p := 0x80020) (w := 0x200000000000000000000000) (by
  unfold State.driveClaim; simp) hP hW

@[simp] theorem fr_driveReady {P W : Nat} (b_ : State) (s : State) (b : Bool)
    (hP : P &&& 0x8020 = 0x8020) (hW : W &&& 0x100000000000000000000000 = 0x100000000000000000000000) :
    Fr P W b_ (State.driveReady s b) ↔ Fr P W b_ s := Fr.iff (p := 0x8020) (w := 0x100000000000000000000000) (by
  unfold State.driveReady; simp) hP hW

@[simp] theorem fr_driveHealthy {P W : Nat} (b_ : State) (s : State) (b : Bool)
    (hP : P &&& 0x80020 = 0x80020) (hW : W &&& 0x200000000000000000000000 = 0x200000000000000000000000) :
    Fr P W b_ (State.driveHealthy s b) ↔ Fr P W b_ s := Fr.iff (p := 0x80020) (w := 0x200000000000000000000000) (by
  unfold State.driveHealthy; simp) hP hW

@[simp] theorem fr_takeEpoch {P W : Nat} (b_ : State) (s : State)
    (hP : P &&& 0x80020 = 0x80020) (hW : W &&& 0x2000000500000000000000000000000 = 0x2000000500000000000000000000000) :
    Fr P W b_ (State.takeEpoch s) ↔ Fr P W b_ s := Fr.iff (p := 0x80020) (w := 0x2000000500000000000000000000000) (by
  clear hP hW; unfold State.takeEpoch; (repeat' split) <;> (try simp) <;> (repeat' split) <;> simp_all) hP hW

@[simp] theorem fr_epochHolds {P W : Nat} (b_ : State) (s : State)
    (hP : P &&& 0x80020 = 0x80020) (hW : W &&& 0x100000000000000000000000 = 0x100000000000000000000000) :
    Fr P W b_ (State.epochHolds s) ↔ Fr P W b_ s := Fr.iff (p := 0x80020) (w := 0x100000000000000000000000) (by
  unfold State.epochHolds; simp) hP hW

@[simp] theorem fr_serve {P W : Nat} (b_ : State) (s : State) (k n : Nat)
    (hP : P &&& 0x80000 = 0x80000) (hW : W &&& 0x0 = 0x0) :
    Fr P W b_ (State.serve s k n) ↔ Fr P W b_ s := Fr.iff (p := 0x80000) (w := 0x0) (by
  unfold State.serve; simp) hP hW

@[simp] theorem fr_claim {P W : Nat} (b_ : State) (s : State) (kind detect : Nat)
    (hP : P &&& 0x90020 = 0x90020) (hW : W &&& 0x2000004700000000000000000000000 = 0x2000004700000000000000000000000) :
    Fr P W b_ (State.claim s kind detect) ↔ Fr P W b_ s := Fr.iff (p := 0x90020) (w :=
        0x2000004700000000000000000000000) (by
  clear hP hW; unfold State.claim; (repeat' split) <;> (try simp) <;> (repeat' split) <;> simp_all) hP hW

@[simp] theorem fr_dropPends {P W : Nat} (b_ : State) (s : State)
    (hP : P &&& 0x20000 = 0x20000) (hW : W &&& 0x0 = 0x0) :
    Fr P W b_ (State.dropPends s) ↔ Fr P W b_ s := Fr.iff (p := 0x20000) (w := 0x0) (by
  unfold State.dropPends; simp) hP hW

@[simp] theorem fr_lateAll {P W : Nat} (b_ : State) (s : State) (n : Nat) (x0 : List Nat)
    (hP : P &&& 0x340080000 = 0x340080000) (hW : W &&& 0x0 = 0x0) :
    Fr P W b_ (State.lateAll s n x0) ↔ Fr P W b_ s := Fr.iff (p := 0x340080000) (w := 0x0) (by
  clear hP hW
  have key : ∀ c_, Fr 0x340080000 0x0 c_ (State.lateAll s n x0) ↔ Fr 0x340080000 0x0 c_ s := by
    induction x0 generalizing s n with
    | nil => intro c_; unfold State.lateAll; simp
    | cons y_ ys_ ih => intro c_; unfold State.lateAll; simp [ih]
  exact (key _).2 (by simp)) hP hW

@[simp] theorem fr_rollRecords {P W : Nat} (b_ : State) (s : State)
    (hP : P &&& 0x340090000 = 0x340090000) (hW : W &&& 0x0 = 0x0) :
    Fr P W b_ (State.rollRecords s) ↔ Fr P W b_ s := Fr.iff (p := 0x340090000) (w := 0x0) (by
  unfold State.rollRecords; simp) hP hW

@[simp] theorem fr_takeoverAbort {P W : Nat} (b_ : State) (s : State) (l : Nat)
    (hP : P &&& 0x42120 = 0x42120) (hW : W &&& 0x800000000000000000000 = 0x800000000000000000000) :
    Fr P W b_ (State.takeoverAbort s l) ↔ Fr P W b_ s := Fr.iff (p := 0x42120) (w := 0x800000000000000000000) (by
  unfold State.takeoverAbort; simp) hP hW

@[simp] theorem fr_adaptTakeover {P W : Nat} (b_ : State) (s : State)
    (hP : P &&& 0x42120 = 0x42120) (hW : W &&& 0xc40000000000000000000 = 0xc40000000000000000000) :
    Fr P W b_ (State.adaptTakeover s) ↔ Fr P W b_ s := Fr.iff (p := 0x42120) (w := 0xc40000000000000000000) (by
  unfold State.adaptTakeover; simp) hP hW

@[simp] theorem fr_becomeActive {P W : Nat} (b_ : State) (s : State)
    (hP : P &&& 0x3500fe520 = 0x3500fe520) (hW : W &&& 0x100c40400000000000000002 = 0x100c40400000000000000002) :
    Fr P W b_ (State.becomeActive s) ↔ Fr P W b_ s := Fr.iff (p := 0x3500fe520) (w := 0x100c40400000000000000002) (by
  unfold State.becomeActive; (repeat' split) <;> simp) hP hW

@[simp] theorem fr_release {P W : Nat} (b_ : State) (s : State)
    (hP : P &&& 0x100fa520 = 0x100fa520) (hW : W &&& 0x300a50440000000000000002 = 0x300a50440000000000000002) :
    Fr P W b_ (State.release s) ↔ Fr P W b_ s := Fr.iff (p := 0x100fa520) (w := 0x300a50440000000000000002) (by
  unfold State.release; simp) hP hW

@[simp] theorem fr_joinAgain {P W : Nat} (b_ : State) (s : State)
    (hP : P &&& 0x100aa520 = 0x100aa520) (hW : W &&& 0x100000000000000000000002 = 0x100000000000000000000002) :
    Fr P W b_ (State.joinAgain s) ↔ Fr P W b_ s := Fr.iff (p := 0x100aa520) (w := 0x100000000000000000000002) (by
  unfold State.joinAgain; simp) hP hW

@[simp] theorem fr_declareFailed {P W : Nat} (b_ : State) (s : State)
    (hP : P &&& 0x100fa520 = 0x100fa520) (hW : W &&& 0x300a50440000000000000002 = 0x300a50440000000000000002) :
    Fr P W b_ (State.declareFailed s) ↔ Fr P W b_ s := Fr.iff (p := 0x100fa520) (w := 0x300a50440000000000000002) (by
  unfold State.declareFailed; simp) hP hW

@[simp] theorem fr_conflict {P W : Nat} (b_ : State) (s : State) (f : Field) (what : Nat) (hP : P &&& 0x2120 = 0x2120)
    (hW : W &&& 0x2 = 0x2) (hF : W &&& rb f.reg = rb f.reg) :
    Fr P W b_ (s.conflict f what) ↔ Fr P W b_ s := Fr.iff (p := P) (w := W) (by
  unfold State.conflict
  split
  · simp
  · refine (fr_ev _ _ _ (land_trans hP rfl) (land_trans hW rfl)).2 ((fr_bnNote _ _ _ _ (land_trans hP rfl) (land_trans
      hW rfl)).2 ((fr_setFlag _ _ _ _ _ (land_trans hP rfl) hF).2 (by simp)))) (Nat.and_self P) (Nat.and_self W)

end Sys2Proof.Machine
end

