-- ==== Sys2Proof/Laws/FrameDrive.lean ====
section
/-! SUPPORT. What the functions of Machine/Drive.lean may change: for each, as bit masks, the parts of the state and the registers. -/

namespace Sys2Proof.Machine

@[simp] theorem fr_push {P W : Nat} (b_ : State) (s : State) (c : Nat) (m : ChanMsg)
    (hP : P &&& 0x10020 = 0x10020) (hW : W &&& 0x2 = 0x2) :
    Fr P W b_ (State.push s c m) ↔ Fr P W b_ s := Fr.iff (p := 0x10020) (w := 0x2) (by
  unfold State.push; simp) hP hW

@[simp] theorem fr_setUc {P W : Nat} (b_ : State) (s : State) (n : Nat) (c : UcChan)
    (hP : P &&& 0x100000 = 0x100000) (hW : W &&& 0x0 = 0x0) :
    Fr P W b_ (State.setUc s n c) ↔ Fr P W b_ s := Fr.iff (p := 0x100000) (w := 0x0) (by
  unfold State.setUc; simp) hP hW

@[simp] theorem fr_setSlice {P W : Nat} (b_ : State) (s : State) (k : Nat) (c : Slice)
    (hP : P &&& 0x100000 = 0x100000) (hW : W &&& 0x0 = 0x0) :
    Fr P W b_ (State.setSlice s k c) ↔ Fr P W b_ s := Fr.iff (p := 0x100000) (w := 0x0) (by
  unfold State.setSlice; simp) hP hW

@[simp] theorem fr_ucOff {P W : Nat} (b_ : State) (s : State) (n : Nat)
    (hP : P &&& 0x20 = 0x20) (hW : W &&& 0x8000000000000000000000000000000 = 0x8000000000000000000000000000000) :
    Fr P W b_ (State.ucOff s n) ↔ Fr P W b_ s := Fr.iff (p := 0x20) (w := 0x8000000000000000000000000000000) (by
  unfold State.ucOff; simp) hP hW

@[simp] theorem fr_ucStage {P W : Nat} (b_ : State) (s : State) (n : Nat)
    (hP : P &&& 0x20 = 0x20) (hW : W &&& 0x8000000000000000000000000000000 = 0x8000000000000000000000000000000) :
    Fr P W b_ (State.ucStage s n) ↔ Fr P W b_ s := Fr.iff (p := 0x20) (w := 0x8000000000000000000000000000000) (by
  unfold State.ucStage; simp) hP hW

@[simp] theorem fr_ucTake {P W : Nat} (b_ : State) (s : State) (n : Nat) (r : W64)
    (hP : P &&& 0x100020 = 0x100020) (hW : W &&& 0x8000000000000000000000000000000 = 0x8000000000000000000000000000000) :
    Fr P W b_ (State.ucTake s n r) ↔ Fr P W b_ s := Fr.iff (p := 0x100020) (w := 0x8000000000000000000000000000000) (by
  unfold State.ucTake; simp) hP hW

@[simp] theorem fr_setDc {P W : Nat} (b_ : State) (s : State) (m : Nat) (c : DcChan)
    (hP : P &&& 0x100000 = 0x100000) (hW : W &&& 0x0 = 0x0) :
    Fr P W b_ (State.setDc s m c) ↔ Fr P W b_ s := Fr.iff (p := 0x100000) (w := 0x0) (by
  unfold State.setDc; simp) hP hW

@[simp] theorem fr_dcSwitch {P W : Nat} (b_ : State) (s : State) (m : Nat) (on : Bool)
    (hP : P &&& 0x100020 = 0x100020) (hW : W &&& 0x100000000000000000000000000000000 =
        0x100000000000000000000000000000000) :
    Fr P W b_ (State.dcSwitch s m on) ↔ Fr P W b_ s := Fr.iff (p := 0x100020) (w := 0x100000000000000000000000000000000) (by
  unfold State.dcSwitch; simp) hP hW

@[simp] theorem fr_dcStage {P W : Nat} (b_ : State) (s : State) (m : Nat)
    (hP : P &&& 0x100020 = 0x100020) (hW : W &&& 0x100000000000000000000000000000000 =
        0x100000000000000000000000000000000) :
    Fr P W b_ (State.dcStage s m) ↔ Fr P W b_ s := Fr.iff (p := 0x100020) (w := 0x100000000000000000000000000000000) (by
  unfold State.dcStage; simp) hP hW

@[simp] theorem fr_turnsEnd {P W : Nat} (b_ : State) (s : State) (g : Nat)
    (hP : P &&& 0x20 = 0x20) (hW : W &&& 0x400000000000000000000000000000000 = 0x400000000000000000000000000000000) :
    Fr P W b_ (State.turnsEnd s g) ↔ Fr P W b_ s := Fr.iff (p := 0x20) (w := 0x400000000000000000000000000000000) (by
  unfold State.turnsEnd; simp) hP hW

@[simp] theorem fr_dcCommand {P W : Nat} (b_ : State) (s : State) (m : Nat) (on : Bool)
    (hP : P &&& 0x100020 = 0x100020) (hW : W &&& 0x100000000000000000000000000000000 =
        0x100000000000000000000000000000000) :
    Fr P W b_ (State.dcCommand s m on) ↔ Fr P W b_ s := Fr.iff (p := 0x100020) (w :=
        0x100000000000000000000000000000000) (by
  unfold State.dcCommand; simp) hP hW

@[simp] theorem fr_dcTake {P W : Nat} (b_ : State) (s : State) (m : Nat) (r : W64)
    (hP : P &&& 0x100020 = 0x100020) (hW : W &&& 0x100000000000000000000000000000000 =
        0x100000000000000000000000000000000) :
    Fr P W b_ (State.dcTake s m r) ↔ Fr P W b_ s := Fr.iff (p := 0x100020) (w := 0x100000000000000000000000000000000) (by
  unfold State.dcTake; simp; (repeat' split) <;> simp) hP hW

@[simp] theorem fr_ucResume {P W : Nat} (b_ : State) (s : State) (n : Nat)
    (hP : P &&& 0x100020 = 0x100020) (hW : W &&& 0x8000000000000000000000000000000 = 0x8000000000000000000000000000000) :
    Fr P W b_ (State.ucResume s n) ↔ Fr P W b_ s := Fr.iff (p := 0x100020) (w := 0x8000000000000000000000000000000) (by
  unfold State.ucResume; simp; (repeat' split) <;> simp) hP hW

@[simp] theorem fr_dcResume {P W : Nat} (b_ : State) (s : State) (m : Nat)
    (hP : P &&& 0x100020 = 0x100020) (hW : W &&& 0x100000000000000000000000000000000 =
        0x100000000000000000000000000000000) :
    Fr P W b_ (State.dcResume s m) ↔ Fr P W b_ s := Fr.iff (p := 0x100020) (w := 0x100000000000000000000000000000000) (by
  unfold State.dcResume; simp; (repeat' split) <;> simp) hP hW

@[simp] theorem fr_hartLose {P W : Nat} (b_ : State) (s : State) (n : Nat)
    (hP : P &&& 0x100000 = 0x100000) (hW : W &&& 0x0 = 0x0) :
    Fr P W b_ (State.hartLose s n) ↔ Fr P W b_ s := Fr.iff (p := 0x100000) (w := 0x0) (by
  unfold State.hartLose; simp; (repeat' split) <;> simp) hP hW

@[simp] theorem fr_ucExcite {P W : Nat} (b_ : State) (s : State) (n : Nat) (on : Bool)
    (hP : P &&& 0x20 = 0x20) (hW : W &&& 0x8000000000000000000000000000000 = 0x8000000000000000000000000000000) :
    Fr P W b_ (State.ucExcite s n on) ↔ Fr P W b_ s := Fr.iff (p := 0x20) (w := 0x8000000000000000000000000000000) (by
  unfold State.ucExcite; simp) hP hW

@[simp] theorem fr_sliceAuthority {P W : Nat} (b_ : State) (s : State) (k : Nat) (on : Bool)
    (hP : P &&& 0x100020 = 0x100020) (hW : W &&& 0x108000000000000000000000000000000 =
        0x108000000000000000000000000000000) :
    Fr P W b_ (State.sliceAuthority s k on) ↔ Fr P W b_ s := Fr.iff (p := 0x100020) (w :=
        0x108000000000000000000000000000000) (by
  unfold State.sliceAuthority; simp) hP hW

@[simp] theorem fr_setSxP {P W : Nat} (b_ : State) (s : State) (p : Nat) (x : SxP)
    (hP : P &&& 0x400000 = 0x400000) (hW : W &&& 0x0 = 0x0) :
    Fr P W b_ (State.setSxP s p x) ↔ Fr P W b_ s := Fr.iff (p := 0x400000) (w := 0x0) (by
  unfold State.setSxP; simp) hP hW

@[simp] theorem fr_setSxC {P W : Nat} (b_ : State) (s : State) (i : Nat) (x : SxC)
    (hP : P &&& 0x400000 = 0x400000) (hW : W &&& 0x0 = 0x0) :
    Fr P W b_ (State.setSxC s i x) ↔ Fr P W b_ s := Fr.iff (p := 0x400000) (w := 0x0) (by
  unfold State.setSxC; simp) hP hW

@[simp] theorem fr_sxLaunch {P W : Nat} (b_ : State) (s : State) (p : Nat) (instant : Instant) (group type : Nat)
    (payload : List W64)
    (hP : P &&& 0x400002 = 0x400002) (hW : W &&& 0x0 = 0x0) :
    Fr P W b_ (State.sxLaunch s p instant group type payload) ↔ Fr P W b_ s := Fr.iff (p := 0x400002) (w := 0x0) (by
  unfold State.sxLaunch; simp) hP hW

@[simp] theorem fr_sxJudge {P W : Nat} (b_ : State) (s : State) (p : Nat)
    (hP : P &&& 0x400020 = 0x400020) (hW : W &&& 0xa00000000000000000000000000000 = 0xa00000000000000000000000000000) :
    Fr P W b_ (State.sxJudge s p) ↔ Fr P W b_ s := Fr.iff (p := 0x400020) (w := 0xa00000000000000000000000000000) (by
  unfold State.sxJudge; simp) hP hW

@[simp] theorem fr_sxTime {P W : Nat} (b_ : State) (s : State) (p : Nat)
    (hP : P &&& 0x400022 = 0x400022) (hW : W &&& 0xa00000000000000000000000000000 = 0xa00000000000000000000000000000) :
    Fr P W b_ (State.sxTime s p) ↔ Fr P W b_ s := Fr.iff (p := 0x400022) (w := 0xa00000000000000000000000000000) (by
  unfold State.sxTime; simp) hP hW

@[simp] theorem fr_sxSend {P W : Nat} (b_ : State) (s : State) (p : Nat) (instant : Instant) (group type : Nat)
    (payload : List W64)
    (hP : P &&& 0x400022 = 0x400022) (hW : W &&& 0xa00000000000000000000000000000 = 0xa00000000000000000000000000000) :
    Fr P W b_ (State.sxSend s p instant group type payload) ↔ Fr P W b_ s := Fr.iff (p := 0x400022) (w :=
        0xa00000000000000000000000000000) (by
  unfold State.sxSend; simp) hP hW

@[simp] theorem fr_sxKeep {P W : Nat} (b_ : State) (s : State) (i ch q : Nat) (v : Word)
    (hP : P &&& 0x400000 = 0x400000) (hW : W &&& 0x0 = 0x0) :
    Fr P W b_ (State.sxKeep s i ch q v) ↔ Fr P W b_ s := Fr.iff (p := 0x400000) (w := 0x0) (by
  unfold State.sxKeep; simp) hP hW

@[simp] theorem fr_sxCommand {P W : Nat} (b_ : State) (s : State) (i ch : Nat) (ok : Bool) (r : W64)
    (hP : P &&& 0x400000 = 0x400000) (hW : W &&& 0x0 = 0x0) :
    Fr P W b_ (State.sxCommand s i ch ok r).1 ↔ Fr P W b_ s := Fr.iff (p := 0x400000) (w := 0x0) (by
  unfold State.sxCommand; simp) hP hW

@[simp] theorem fr_sxImmediate {P W : Nat} (b_ : State) (s : State) (i ch : Nat) (r : W64) (cc : Instant)
    (hP : P &&& 0x400022 = 0x400022) (hW : W &&& 0xa00000000000000000000000000000 = 0xa00000000000000000000000000000) :
    Fr P W b_ (State.sxImmediate s i ch r cc) ↔ Fr P W b_ s := Fr.iff (p := 0x400022) (w :=
        0xa00000000000000000000000000000) (by
  unfold State.sxImmediate; simp) hP hW

@[simp] theorem fr_driveImmediate {P W : Nat} (b_ : State) (s : State) (point : Nat) (r : W64) (cc : Instant)
    (hP : P &&& 0x510022 = 0x510022) (hW : W &&& 0x508a00000000000000000000000000002 =
        0x508a00000000000000000000000000002) :
    Fr P W b_ (State.driveImmediate s point r cc) ↔ Fr P W b_ s := Fr.iff (p := 0x510022) (w :=
        0x508a00000000000000000000000000002) (by
  unfold State.driveImmediate; simp; (repeat' split) <;> simp) hP hW

end Sys2Proof.Machine
end

