-- ==== Sys2Proof/Laws/FrameTable.lean ====
section
/-! SUPPORT. What the functions of Machine/Table.lean may change: for each, as bit masks, the parts of the state and the registers. -/

namespace Sys2Proof.Machine

@[simp] theorem fr_ranAt {P W : Nat} (b_ : State) (s : State) (e : Nat) (t : Instant)
    (hP : P &&& 0x10000 = 0x10000) (hW : W &&& 0x0 = 0x0) :
    Fr P W b_ (State.ranAt s e t) ↔ Fr P W b_ s := Fr.iff (p := 0x10000) (w := 0x0) (by
  unfold State.ranAt; simp) hP hW

@[simp] theorem fr_putDue {P W : Nat} (b_ : State) (s : State) (c e : Nat) (t : Instant)
    (hP : P &&& 0x10000 = 0x10000) (hW : W &&& 0x0 = 0x0) :
    Fr P W b_ (State.putDue s c e t) ↔ Fr P W b_ s := Fr.iff (p := 0x10000) (w := 0x0) (by
  unfold State.putDue; simp) hP hW

@[simp] theorem fr_setTask {P W : Nat} (b_ : State) (s : State) (k : Nat) (t : Task)
    (hP : P &&& 0x10000 = 0x10000) (hW : W &&& 0x0 = 0x0) :
    Fr P W b_ (State.setTask s k t) ↔ Fr P W b_ s := Fr.iff (p := 0x10000) (w := 0x0) (by
  unfold State.setTask; simp) hP hW

@[simp] theorem fr_taskMiss {P W : Nat} (b_ : State) (s : State) (k cls : Nat)
    (hP : P &&& 0x340090020 = 0x340090020) (hW : W &&& 0x80000000000000000 = 0x80000000000000000) :
    Fr P W b_ (State.taskMiss s k cls) ↔ Fr P W b_ s := Fr.iff (p := 0x340090020) (w := 0x80000000000000000) (by
  unfold State.taskMiss; simp) hP hW

@[simp] theorem fr_taskLate {P W : Nat} (b_ : State) (s : State) (k : Nat)
    (hP : P &&& 0x340090020 = 0x340090020) (hW : W &&& 0x80000000000000000 = 0x80000000000000000) :
    Fr P W b_ (State.taskLate s k) ↔ Fr P W b_ s := Fr.iff (p := 0x340090020) (w := 0x80000000000000000) (by
  unfold State.taskLate; simp) hP hW

@[simp] theorem fr_takeDue {P W : Nat} (b_ : State) (s : State) (c e : Nat) (t : Instant)
    (hP : P &&& 0x10000 = 0x10000) (hW : W &&& 0x0 = 0x0) :
    Fr P W b_ (State.takeDue s c e t) ↔ Fr P W b_ s := Fr.iff (p := 0x10000) (w := 0x0) (by
  unfold State.takeDue; simp) hP hW

end Sys2Proof.Machine
end

