-- ==== Sys2Proof/Laws/FrameNetCore.lean ====
section
/-! SUPPORT. What the functions of Machine/NetCore.lean may change: for each, as bit masks, the parts of the state and the registers. -/

namespace Sys2Proof.Machine

@[simp] theorem fr_netOut {P W : Nat} (b_ : State) (s : State) (p : Nat) (f : NetWait)
    (hP : P &&& 0x2 = 0x2) (hW : W &&& 0x0 = 0x0) :
    Fr P W b_ (State.netOut s p f) ↔ Fr P W b_ s := Fr.iff (p := 0x2) (w := 0x0) (by
  unfold State.netOut; (repeat' split) <;> simp) hP hW

@[simp] theorem fr_streamOut {P W : Nat} (b_ : State) (s : State) (p : Nat) (f : NetWait)
    (hP : P &&& 0x800002 = 0x800002) (hW : W &&& 0x0 = 0x0) :
    Fr P W b_ (State.streamOut s p f) ↔ Fr P W b_ s := Fr.iff (p := 0x800002) (w := 0x0) (by
  unfold State.streamOut; simp) hP hW

@[simp] theorem fr_netWait {P W : Nat} (b_ : State) (s : State) (p : Nat) (f : NetWait)
    (hP : P &&& 0x800000 = 0x800000) (hW : W &&& 0x0 = 0x0) :
    Fr P W b_ (State.netWait s p f) ↔ Fr P W b_ s := Fr.iff (p := 0x800000) (w := 0x0) (by
  unfold State.netWait; simp) hP hW

@[simp] theorem fr_netTry {P W : Nat} (b_ : State) (s : State) (p : Nat) (f : NetWait)
    (hP : P &&& 0x800002 = 0x800002) (hW : W &&& 0x0 = 0x0) :
    Fr P W b_ (State.netTry s p f) ↔ Fr P W b_ s := Fr.iff (p := 0x800002) (w := 0x0) (by
  unfold State.netTry; simp) hP hW

@[simp] theorem fr_netSend {P W : Nat} (b_ : State) (s : State) (p : Nat) (f : NetWait)
    (hP : P &&& 0x800022 = 0x800022) (hW : W &&& 0x100000000000000000000000000 = 0x100000000000000000000000000) :
    Fr P W b_ (State.netSend s p f) ↔ Fr P W b_ s := Fr.iff (p := 0x800022) (w := 0x100000000000000000000000000) (by
  unfold State.netSend; simp) hP hW

@[simp] theorem fr_setGates {P W : Nat} (b_ : State) (s : State) (p : Nat) (g : BitVec 8)
    (hP : P &&& 0x800022 = 0x800022) (hW : W &&& 0x100000000000000000000000000 = 0x100000000000000000000000000) :
    Fr P W b_ (State.setGates s p g) ↔ Fr P W b_ s := Fr.iff (p := 0x800022) (w := 0x100000000000000000000000000) (by
  unfold State.setGates; simp) hP hW

@[simp] theorem fr_serviceOut {P W : Nat} (b_ : State) (s : State) (via : Option (Fin 2)) (o : Output)
    (hP : P &&& 0x800022 = 0x800022) (hW : W &&& 0x100000000000000000000000000 = 0x100000000000000000000000000) :
    Fr P W b_ (State.serviceOut s via o) ↔ Fr P W b_ s := Fr.iff (p := 0x800022) (w := 0x100000000000000000000000000) (by
  unfold State.serviceOut; simp; (repeat' split) <;> simp) hP hW

@[simp] theorem fr_reply {P W : Nat} (b_ : State) (s : State) (k : Nat) (id : Word) (type code : Nat) (body : List Byte)
    (hP : P &&& 0x800022 = 0x800022) (hW : W &&& 0x100000000000000000000000000 = 0x100000000000000000000000000) :
    Fr P W b_ (State.reply s k id type code body) ↔ Fr P W b_ s := Fr.iff (p := 0x800022) (w :=
        0x100000000000000000000000000) (by
  unfold State.reply; simp) hP hW

end Sys2Proof.Machine
end

