-- ==== Sys2Proof/Laws/FrameNetwork.lean ====
section
/-! SUPPORT. What the functions of Machine/Network.lean may change: for each, as bit masks, the parts of the state and the registers. -/

namespace Sys2Proof.Machine

@[simp] theorem fr_bumpPoliced {P W : Nat} (b_ : State) (s : State) (ks : List Nat) (p : Nat)
    (hP : P &&& 0x800120 = 0x800120) (hW : W &&& 0x100000000000000000000000000 = 0x100000000000000000000000000) :
    Fr P W b_ (State.bumpPoliced s ks p) ↔ Fr P W b_ s := Fr.iff (p := 0x800120) (w := 0x100000000000000000000000000) (by
  unfold State.bumpPoliced; simp) hP hW

@[simp] theorem fr_bumpEliminated {P W : Nat} (b_ : State) (s : State) (k : Nat)
    (hP : P &&& 0x800000 = 0x800000) (hW : W &&& 0x0 = 0x0) :
    Fr P W b_ (State.bumpEliminated s k) ↔ Fr P W b_ s := Fr.iff (p := 0x800000) (w := 0x0) (by
  unfold State.bumpEliminated; simp) hP hW

@[simp] theorem fr_police {P W : Nat} (b_ : State) (s : State) (ks : List Nat) (p cls len declared : Nat) (t : Instant)
    (hP : P &&& 0x800120 = 0x800120) (hW : W &&& 0x100000000000000000000000000 = 0x100000000000000000000000000) :
    Fr P W b_ (State.police s ks p cls len declared t).1 ↔ Fr P W b_ s := Fr.iff (p := 0x800120) (w :=
        0x100000000000000000000000000) (by
  unfold State.police; simp) hP hW

@[simp] theorem fr_pathSilent {P W : Nat} (b_ : State) (s : State) (i p : Nat)
    (hP : P &&& 0x2120 = 0x2120) (hW : W &&& 0x80000000000000000000000002 = 0x80000000000000000000000002) :
    Fr P W b_ (State.pathSilent s i p) ↔ Fr P W b_ s := Fr.iff (p := 0x2120) (w := 0x80000000000000000000000002) (by
  unfold State.pathSilent; simp) hP hW

@[simp] theorem fr_watchPaths {P W : Nat} (b_ : State) (s : State) (k i p q : Nat) (t : Instant)
    (hP : P &&& 0x802120 = 0x802120) (hW : W &&& 0x80000000000000000000000002 = 0x80000000000000000000000002) :
    Fr P W b_ (State.watchPaths s k i p q t).1 ↔ Fr P W b_ s := Fr.iff (p := 0x802120) (w :=
        0x80000000000000000000000002) (by
  unfold State.watchPaths; simp) hP hW

@[simp] theorem fr_eliminate {P W : Nat} (b_ : State) (s : State) (k i p q : Nat) (t : Instant)
    (hP : P &&& 0x802120 = 0x802120) (hW : W &&& 0x80000000000000000000000002 = 0x80000000000000000000000002) :
    Fr P W b_ (State.eliminate s k i p q t).1 ↔ Fr P W b_ s := Fr.iff (p := 0x802120) (w :=
        0x80000000000000000000000002) (by
  unfold State.eliminate; simp) hP hW

@[simp] theorem fr_eliminateAt {P W : Nat} (b_ : State) (s : State) (j out q : Nat) (t : Instant)
    (hP : P &&& 0x800000 = 0x800000) (hW : W &&& 0x0 = 0x0) :
    Fr P W b_ (State.eliminateAt s j out q t).1 ↔ Fr P W b_ s := Fr.iff (p := 0x800000) (w := 0x0) (by
  unfold State.eliminateAt; simp) hP hW

@[simp] theorem fr_undeclared {P W : Nat} (b_ : State) (s : State) (p : Nat)
    (hP : P &&& 0x20 = 0x20) (hW : W &&& 0x100000000000000000000000000 = 0x100000000000000000000000000) :
    Fr P W b_ (State.undeclared s p) ↔ Fr P W b_ s := Fr.iff (p := 0x20) (w := 0x100000000000000000000000000) (by
  unfold State.undeclared; simp) hP hW

@[simp] theorem fr_inboxPut {P W : Nat} (b_ : State) (s : State) (i p q : Nat)
    (hP : P &&& 0x800000 = 0x800000) (hW : W &&& 0x0 = 0x0) :
    Fr P W b_ (State.inboxPut s i p q) ↔ Fr P W b_ s := Fr.iff (p := 0x800000) (w := 0x0) (by
  unfold State.inboxPut; simp) hP hW

@[simp] theorem fr_relayStream {P W : Nat} (b_ : State) (s : State) (p j : Nat) (c : TransitCfg) (f : NetFrame) (q : Nat)
    (hP : P &&& 0x802122 = 0x802122) (hW : W &&& 0x180000000000000000000000002 = 0x180000000000000000000000002) :
    Fr P W b_ (State.relayStream s p j c f q) ↔ Fr P W b_ s := Fr.iff (p := 0x802122) (w :=
        0x180000000000000000000000002) (by
  unfold State.relayStream; simp) hP hW

@[simp] theorem fr_ingressStream {P W : Nat} (b_ : State) (s : State) (p : Nat) (f : NetFrame) (binary stream vlan len
    q : Nat)
    (hP : P &&& 0x802122 = 0x802122) (hW : W &&& 0x180000000000000000000000002 = 0x180000000000000000000000002) :
    Fr P W b_ (State.ingressStream s p f binary stream vlan len q) ↔ Fr P W b_ s := Fr.iff (p := 0x802122) (w :=
        0x180000000000000000000000002) (by
  unfold State.ingressStream; simp; (repeat' split) <;> simp) hP hW

@[simp] theorem fr_ingressControl {P W : Nat} (b_ : State) (s : State) (p : Nat)
    (hP : P &&& 0x800120 = 0x800120) (hW : W &&& 0x100000000000000000000000000 = 0x100000000000000000000000000) :
    Fr P W b_ (State.ingressControl s p).1 ↔ Fr P W b_ s := Fr.iff (p := 0x800120) (w := 0x100000000000000000000000000) (by
  unfold State.ingressControl; simp) hP hW

theorem fr_execFrameIngress (port : Fin 2) (f : NetFrame) (s : State) : FrO 0x802122 0x380000000000000000000000002 s
    (execFrameIngress port f s) := by
  unfold execFrameIngress; simp; (repeat' split) <;> simp

theorem fr_execGateEvent (port : Fin 2) (i : Nat) (s : State) : FrO 0x800022 0x100000000000000000000000000 s
    (execGateEvent port i s) := by
  unfold execGateEvent; simp; (repeat' split) <;> simp

@[simp] theorem fr_baseLost {P W : Nat} (b_ : State) (s : State) (n : Nat)
    (hP : P &&& 0x20 = 0x20) (hW : W &&& 0x20000000000000000 = 0x20000000000000000) :
    Fr P W b_ (State.baseLost s n) ↔ Fr P W b_ s := Fr.iff (p := 0x20) (w := 0x20000000000000000) (by
  unfold State.baseLost; simp) hP hW

@[simp] theorem fr_dropStale {P W : Nat} (b_ : State) (s : State)
    (hP : P &&& 0x20 = 0x20) (hW : W &&& 0x20000000000000000 = 0x20000000000000000) :
    Fr P W b_ (State.dropStale s) ↔ Fr P W b_ s := Fr.iff (p := 0x20) (w := 0x20000000000000000) (by
  unfold State.dropStale; simp) hP hW

@[simp] theorem fr_portLost {P W : Nat} (b_ : State) (s : State) (p : Nat)
    (hP : P &&& 0x4020 = 0x4020) (hW : W &&& 0x20000000000000000 = 0x20000000000000000) :
    Fr P W b_ (State.portLost s p) ↔ Fr P W b_ s := Fr.iff (p := 0x4020) (w := 0x20000000000000000) (by
  unfold State.portLost; simp) hP hW

theorem fr_execPortLinkChange (port : Fin 2) (up : Bool) (s : State) : FrO 0x804120 0x80000000020000000000000000 s
    (execPortLinkChange port up s) := by
  unfold execPortLinkChange; simp

@[simp] theorem fr_place {P W : Nat} (b_ : State) (s : State) (is : List Nat) (rs : List W64)
    (hP : P &&& 0x80000000 = 0x80000000) (hW : W &&& 0x0 = 0x0) :
    Fr P W b_ (s.place is rs) ↔ Fr P W b_ s := Fr.iff (p := 0x80000000) (w := 0x0) (by
  clear hP hW; 
  have key : ∀ c_, Fr 0x80000000 0x0 c_ (s.place is rs) ↔ Fr 0x80000000 0x0 c_ s := by
    induction is generalizing s rs with
    | nil => intro c_; unfold State.place; simp
    | cons i is ih => intro c_; cases rs <;> simp [State.place, ih]
  exact (key _).2 (by simp)) hP hW

@[simp] theorem fr_pendSub {P W : Nat} (b_ : State) (s : State) (n : Nat) (c : SubCfg) (v : Instant) (epoch : Nat)
    (recs : List W64)
    (hP : P &&& 0x80010020 = 0x80010020) (hW : W &&& 0x200000000000000000 = 0x200000000000000000) :
    Fr P W b_ (State.pendSub s n c v epoch recs) ↔ Fr P W b_ s := Fr.iff (p := 0x80010020) (w := 0x200000000000000000) (by
  unfold State.pendSub; simp) hP hW

@[simp] theorem fr_judgeSub {P W : Nat} (b_ : State) (s : State) (n : Nat) (c : SubCfg) (hdr : BitVec 256) (recs : List W64)
    (hP : P &&& 0x80010120 = 0x80010120) (hW : W &&& 0x300000000000000000 = 0x300000000000000000) :
    Fr P W b_ (State.judgeSub s n c hdr recs) ↔ Fr P W b_ s := Fr.iff (p := 0x80010120) (w := 0x300000000000000000) (by
  unfold State.judgeSub; simp) hP hW

theorem fr_execSubFrameAccept (n : Fin 4096) (port : Fin 2) (rseq : BitVec 16) (hdr : BitVec 256) (recs : List W64) (s
    : State) : FrO 0x80812120 0x180000000300000000000000002 s (execSubFrameAccept n port rseq hdr recs s) := by
  unfold execSubFrameAccept; simp; (repeat' split) <;> simp

theorem fr_execValidAtApply (n : Fin 4096) (s : State) : FrO 0x80010120 0x240000000000000000 s (execValidAtApply n s) := by
  unfold execValidAtApply; (repeat' split) <;> simp

theorem fr_execExpectedInstantMissed (n : Fin 4096) (s : State) : FrO 0x80010120 0x240000000000000000 s
    (execExpectedInstantMissed n s) := by
  unfold execExpectedInstantMissed; simp; (repeat' split) <;> simp

end Sys2Proof.Machine
end

