-- ==== Sys2Proof/Laws/FrameLoop.lean ====
section
/-! SUPPORT. What the functions of Machine/Loop.lean may change: for each, as bit masks, the parts of the state and the registers. -/

namespace Sys2Proof.Machine

@[simp] theorem fr_setRun {P W : Nat} (b_ : State) (s : State) (l : Nat) (r : LoopRun)
    (hP : P &&& 0x20000 = 0x20000) (hW : W &&& 0x0 = 0x0) :
    Fr P W b_ (State.setRun s l r) ↔ Fr P W b_ s := Fr.iff (p := 0x20000) (w := 0x0) (by
  unfold State.setRun; simp) hP hW

@[simp] theorem fr_fillLane {P W : Nat} (b_ : State) (s : State) (k : Nat)
    (hP : P &&& 0x20000 = 0x20000) (hW : W &&& 0x0 = 0x0) :
    Fr P W b_ (State.fillLane s k) ↔ Fr P W b_ s := Fr.iff (p := 0x20000) (w := 0x0) (by
  unfold State.fillLane; simp; (repeat' split) <;> simp) hP hW

@[simp] theorem fr_fillLanes {P W : Nat} (b_ : State) (s : State)
    (hP : P &&& 0x20020 = 0x20020) (hW : W &&& 0x10000000000000000000 = 0x10000000000000000000) :
    Fr P W b_ (State.fillLanes s) ↔ Fr P W b_ s := Fr.iff (p := 0x20020) (w := 0x10000000000000000000) (by
  unfold State.fillLanes; simp) hP hW

@[simp] theorem fr_leaveLane {P W : Nat} (b_ : State) (s : State) (l : Nat)
    (hP : P &&& 0x20020 = 0x20020) (hW : W &&& 0x10000000000000000000 = 0x10000000000000000000) :
    Fr P W b_ (State.leaveLane s l) ↔ Fr P W b_ s := Fr.iff (p := 0x20020) (w := 0x10000000000000000000) (by
  unfold State.leaveLane; simp) hP hW

@[simp] theorem fr_noteFault {P W : Nat} (b_ : State) (s : State) (l cause : Nat)
    (hP : P &&& 0x42120 = 0x42120) (hW : W &&& 0xa48000000000000000002 = 0xa48000000000000000002) :
    Fr P W b_ (State.noteFault s l cause) ↔ Fr P W b_ s := Fr.iff (p := 0x42120) (w := 0xa48000000000000000002) (by
  unfold State.noteFault; simp) hP hW

@[simp] theorem fr_noteBadSet {P W : Nat} (b_ : State) (s : State) (l : Nat) (x0 : Option Nat)
    (hP : P &&& 0x2020 = 0x2020) (hW : W &&& 0x2 = 0x2) :
    Fr P W b_ (State.noteBadSet s l x0) ↔ Fr P W b_ s := Fr.iff (p := 0x2020) (w := 0x2) (by
  unfold State.noteBadSet; (repeat' split) <;> simp) hP hW

@[simp] theorem fr_countOverrun {P W : Nat} (b_ : State) (s : State) (l b : Nat) (d : BitVec 512)
    (hP : P &&& 0x1000c2120 = 0x1000c2120) (hW : W &&& 0xa48000000000000000002 = 0xa48000000000000000002) :
    Fr P W b_ (State.countOverrun s l b d) ↔ Fr P W b_ s := Fr.iff (p := 0x1000c2120) (w := 0xa48000000000000000002) (by
  unfold State.countOverrun; simp) hP hW

@[simp] theorem fr_eccEnter {P W : Nat} (b_ : State) (s : State) (l b : Nat) (d : BitVec 512)
    (hP : P &&& 0x1000c2120 = 0x1000c2120) (hW : W &&& 0xa48000000000000000002 = 0xa48000000000000000002) :
    Fr P W b_ (State.eccEnter s l b d) ↔ Fr P W b_ s := Fr.iff (p := 0x1000c2120) (w := 0xa48000000000000000002) (by
  unfold State.eccEnter; simp) hP hW

@[simp] theorem fr_lateAt {P W : Nat} (b_ : State) (s : State) (k : Instant) (p : Nat)
    (hP : P &&& 0x340090000 = 0x340090000) (hW : W &&& 0x0 = 0x0) :
    Fr P W b_ (State.lateAt s k p) ↔ Fr P W b_ s := Fr.iff (p := 0x340090000) (w := 0x0) (by
  unfold State.lateAt; simp) hP hW

@[simp] theorem fr_adaptHist {P W : Nat} (b_ : State) (s : State) (l : Nat) (d : BitVec 512) (x : F32 × Bool × Bool)
    (hP : P &&& 0x40000 = 0x40000) (hW : W &&& 0x0 = 0x0) :
    Fr P W b_ (State.adaptHist s l d x) ↔ Fr P W b_ s := Fr.iff (p := 0x40000) (w := 0x0) (by
  unfold State.adaptHist; simp; (repeat' split) <;> simp) hP hW

@[simp] theorem fr_adaptCycle {P W : Nat} (b_ : State) (s : State) (l : Nat) (w : LoopWork) (j : Job) (d : BitVec 512)
    (hP : P &&& 0x42120 = 0x42120) (hW : W &&& 0xa40000000000000000000 = 0xa40000000000000000000) :
    Fr P W b_ (State.adaptCycle s l w j d) ↔ Fr P W b_ s := Fr.iff (p := 0x42120) (w := 0xa40000000000000000000) (by
  unfold State.adaptCycle; simp; (repeat' split) <;> simp) hP hW

@[simp] theorem fr_abandonLoop {P W : Nat} (b_ : State) (s : State) (l : Nat) (k : Instant)
    (hP : P &&& 0x3c00fa120 = 0x3c00fa120) (hW : W &&& 0xa5c2c0000000000000002 = 0xa5c2c0000000000000002) :
    Fr P W b_ (State.abandonLoop s l k) ↔ Fr P W b_ s := Fr.iff (p := 0x3c00fa120) (w := 0xa5c2c0000000000000002) (by
  unfold State.abandonLoop; simp; (repeat' split) <;> simp) hP hW

@[simp] theorem fr_abandonAll {P W : Nat} (b_ : State) (s : State) (x0 : List Nat)
    (hP : P &&& 0x3c00fa120 = 0x3c00fa120) (hW : W &&& 0xa5c2c0000000000000002 = 0xa5c2c0000000000000002) :
    Fr P W b_ (State.abandonAll s x0) ↔ Fr P W b_ s := Fr.iff (p := 0x3c00fa120) (w := 0xa5c2c0000000000000002) (by
  clear hP hW
  have key : ∀ c_, Fr 0x3c00fa120 0xa5c2c0000000000000002 c_ (State.abandonAll s x0) ↔ Fr 0x3c00fa120
      0xa5c2c0000000000000002 c_ s := by
    induction x0 generalizing s with
    | nil => intro c_; unfold State.abandonAll; simp
    | cons y_ ys_ ih => intro c_; unfold State.abandonAll; simp [ih]; (repeat' split) <;> simp [ih]
  exact (key _).2 (by simp)) hP hW

@[simp] theorem fr_upTo {P W : Nat} (b_ : State) (s : State) (t : Instant)
    (hP : P &&& 0x3c00fa120 = 0x3c00fa120) (hW : W &&& 0xa5c2c0000000000000002 = 0xa5c2c0000000000000002) :
    Fr P W b_ (State.upTo s t) ↔ Fr P W b_ s := Fr.iff (p := 0x3c00fa120) (w := 0xa5c2c0000000000000002) (by
  unfold State.upTo; simp) hP hW

@[simp] theorem fr_launchLoop {P W : Nat} (b_ : State) (s : State) (l : Nat) (t due sAt : Instant)
    (hP : P &&& 0x3c00fa120 = 0x3c00fa120) (hW : W &&& 0xa5c2c0000000000000002 = 0xa5c2c0000000000000002) :
    Fr P W b_ (State.launchLoop s l t due sAt) ↔ Fr P W b_ s := Fr.iff (p := 0x3c00fa120) (w := 0xa5c2c0000000000000002) (by
  unfold State.launchLoop; simp; (repeat' split) <;> simp) hP hW

@[simp] theorem fr_launchLoops {P W : Nat} (b_ : State) (s : State) (t due sAt : Instant) (l : Nat) (x0 : Nat)
    (hP : P &&& 0x3c00fa120 = 0x3c00fa120) (hW : W &&& 0xa5c2c0000000000000002 = 0xa5c2c0000000000000002) :
    Fr P W b_ (State.launchLoops s t due sAt l x0) ↔ Fr P W b_ s := Fr.iff (p := 0x3c00fa120) (w :=
        0xa5c2c0000000000000002) (by
  clear hP hW
  have key : ∀ c_, Fr 0x3c00fa120 0xa5c2c0000000000000002 c_ (State.launchLoops s t due sAt l x0) ↔ Fr 0x3c00fa120
      0xa5c2c0000000000000002 c_ s := by
    induction x0 generalizing s t due sAt l with
    | zero => intro c_; unfold State.launchLoops; simp
    | succ n_ ih => intro c_; unfold State.launchLoops; simp [ih]
  exact (key _).2 (by simp)) hP hW

@[simp] theorem fr_storeJob {P W : Nat} (b_ : State) (s : State) (l b : Nat) (j : Job) (vis : Instant)
    (hP : P &&& 0x3400f2120 = 0x3400f2120) (hW : W &&& 0xa48000000000000000002 = 0xa48000000000000000002) :
    Fr P W b_ (State.storeJob s l b j vis) ↔ Fr P W b_ s := Fr.iff (p := 0x3400f2120) (w := 0xa48000000000000000002) (by
  unfold State.storeJob; simp) hP hW

theorem fr_execLoopComplete (l : Nat) (s : State) : FrO 0x3c00fa120 0xa5c2c0000000000000002 s (execLoopComplete l s) := by
  unfold execLoopComplete; (repeat' split) <;> simp

theorem fr_execLoopOverrun (l : Nat) (s : State) : FrO 0x3c00fa120 0xa5c2c0000000000000002 s (execLoopOverrun l s) := by
  unfold execLoopOverrun; (repeat' split) <;> simp

@[simp] theorem fr_sendFast {P W : Nat} (b_ : State) (s : State) (l b : Nat) (d : BitVec 512)
    (hP : P &&& 0x2 = 0x2) (hW : W &&& 0x0 = 0x0) :
    Fr P W b_ (State.sendFast s l b d) ↔ Fr P W b_ s := Fr.iff (p := 0x2) (w := 0x0) (by
  unfold State.sendFast; simp; (repeat' split) <;> simp) hP hW

theorem fr_execFastLoopComplete (l : Nat) (s : State) : FrO 0x3c05fa122 0x508a00000000a7c2c0000000000000002 s
    (execFastLoopComplete l s) := by
  unfold execFastLoopComplete; simp; (repeat' split) <;> simp

theorem fr_execLanePreempt (k : Fin 8) (l : Nat) (s : State) : FrO 0x20000 0x0 s (execLanePreempt k l s) := by
  unfold execLanePreempt; simp; (repeat' split) <;> simp

theorem fr_execLaneTest (k : Fin 8) (pass : Bool) (s : State) : FrO 0x3d00fa520 0x300a5c6c0000000000000002 s
    (execLaneTest k pass s) := by
  unfold execLaneTest; simp

@[simp] theorem fr_loopCommand {P W : Nat} (b_ : State) (s : State) (w : Writer) (l cmd set : Nat)
    (hP : P &&& 0x20020 = 0x20020) (hW : W &&& 0x2000000000000000000 = 0x2000000000000000000) :
    Fr P W b_ (State.loopCommand s w l cmd set) ↔ Fr P W b_ s := Fr.iff (p := 0x20020) (w := 0x2000000000000000000) (by
  unfold State.loopCommand; simp) hP hW

theorem fr_execLoopAuto (w : Writer) (l : Nat) (s : State) : FrO 0x20020 0x2000000000000000000 s (execLoopAuto w l s) := by
  unfold execLoopAuto; simp

theorem fr_execLoopManual (w : Writer) (l : Nat) (s : State) : FrO 0x20020 0x2000000000000000000 s (execLoopManual w l
    s) := by
  unfold execLoopManual; simp

theorem fr_execLoopManualValue (w : Writer) (l : Nat) (s : State) : FrO 0x20020 0x2000000000000000000 s
    (execLoopManualValue w l s) := by
  unfold execLoopManualValue; simp

theorem fr_execLoopRestart (w : Writer) (l : Nat) (s : State) : FrO 0x20020 0x2000000000000000000 s (execLoopRestart w
    l s) := by
  unfold execLoopRestart; simp

theorem fr_execLoopSwitch (w : Writer) (l : Nat) (set : Fin 4) (s : State) : FrO 0x20020 0x2000000000000000000 s
    (execLoopSwitch w l set s) := by
  unfold execLoopSwitch; simp

end Sys2Proof.Machine
end

