-- ==== Sys2Proof/Laws/FrameChannels.lean ====
section
/-! SUPPORT. What the functions of Machine/Channels.lean may change: for each, as bit masks, the parts of the state and the registers. -/

namespace Sys2Proof.Machine

@[simp] theorem fr_setLiveUc {P W : Nat} (b_ : State) (s : State) (n b : Nat) (v : Bool)
    (hP : P &&& 0x20 = 0x20) (hW : W &&& 0x8000000000000000000000000000000 = 0x8000000000000000000000000000000) :
    Fr P W b_ (State.setLiveUc s n b v) ↔ Fr P W b_ s := Fr.iff (p := 0x20) (w := 0x8000000000000000000000000000000) (by
  unfold State.setLiveUc; simp) hP hW

@[simp] theorem fr_setLiveDc {P W : Nat} (b_ : State) (s : State) (m b : Nat) (v : Bool)
    (hP : P &&& 0x20 = 0x20) (hW : W &&& 0x100000000000000000000000000000000 = 0x100000000000000000000000000000000) :
    Fr P W b_ (State.setLiveDc s m b v) ↔ Fr P W b_ s := Fr.iff (p := 0x20) (w := 0x100000000000000000000000000000000) (by
  unfold State.setLiveDc; simp) hP hW

@[simp] theorem fr_ucHeadroom {P W : Nat} (b_ : State) (s : State) (n : Nat)
    (hP : P &&& 0x100020 = 0x100020) (hW : W &&& 0x8000000000000000000000000000000 = 0x8000000000000000000000000000000) :
    Fr P W b_ (State.ucHeadroom s n) ↔ Fr P W b_ s := Fr.iff (p := 0x100020) (w := 0x8000000000000000000000000000000) (by
  unfold State.ucHeadroom; simp) hP hW

@[simp] theorem fr_dcCurrent {P W : Nat} (b_ : State) (s : State) (k : Nat)
    (hP : P &&& 0x20 = 0x20) (hW : W &&& 0x400000000000000000000000000000000 = 0x400000000000000000000000000000000) :
    Fr P W b_ (State.dcCurrent s k) ↔ Fr P W b_ s := Fr.iff (p := 0x20) (w := 0x400000000000000000000000000000000) (by
  unfold State.dcCurrent; simp) hP hW

@[simp] theorem fr_ucSample {P W : Nat} (b_ : State) (s : State) (n cls : Nat) (t : Instant) (w : Fl)
    (hP : P &&& 0x100000 = 0x100000) (hW : W &&& 0x0 = 0x0) :
    Fr P W b_ (State.ucSample s n cls t w).1 ↔ Fr P W b_ s := Fr.iff (p := 0x100000) (w := 0x0) (by
  unfold State.ucSample; simp) hP hW

@[simp] theorem fr_ucLimit {P W : Nat} (b_ : State) (s : State) (n : Nat)
    (hP : P &&& 0x100020 = 0x100020) (hW : W &&& 0x8000000000000000000000000000000 = 0x8000000000000000000000000000000) :
    Fr P W b_ (State.ucLimit s n) ↔ Fr P W b_ s := Fr.iff (p := 0x100020) (w := 0x8000000000000000000000000000000) (by
  unfold State.ucLimit; simp; (repeat' split) <;> simp) hP hW

@[simp] theorem fr_ucRecord {P W : Nat} (b_ : State) (s : State) (n cls : Nat) (t : Instant) (words : Option (List
    (BitVec 24)))
    (hP : P &&& 0x100020 = 0x100020) (hW : W &&& 0x8000000000000000000000000000000 = 0x8000000000000000000000000000000) :
    Fr P W b_ (State.ucRecord s n cls t words).1 ↔ Fr P W b_ s := Fr.iff (p := 0x100020) (w :=
        0x8000000000000000000000000000000) (by
  unfold State.ucRecord; simp; (repeat' split) <;> simp) hP hW

@[simp] theorem fr_dcRecord {P W : Nat} (b_ : State) (s : State) (m : Nat) (t : Instant)
    (hP : P &&& 0x100000 = 0x100000) (hW : W &&& 0x0 = 0x0) :
    Fr P W b_ (State.dcRecord s m t).1 ↔ Fr P W b_ s := Fr.iff (p := 0x100000) (w := 0x0) (by
  unfold State.dcRecord; simp) hP hW

@[simp] theorem fr_sampleList {P W : Nat} (b_ : State) (s : State) (k cls : Nat) (t : Instant) (words : List (Fin 32 ×
    List (BitVec 24))) (is : List Nat)
    (hP : P &&& 0x100020 = 0x100020) (hW : W &&& 0x8000000000000000000000000000000 = 0x8000000000000000000000000000000) :
    Fr P W b_ ((s.sampleList k cls t words is).1) ↔ Fr P W b_ s := Fr.iff (p := 0x100020) (w :=
        0x8000000000000000000000000000000) (by
  clear hP hW; 
  have key : ∀ c_, Fr 0x100020 0x8000000000000000000000000000000 c_ ((s.sampleList k cls t words is).1) ↔ Fr 0x100020
      0x8000000000000000000000000000000 c_ s := by
    induction is generalizing s with
    | nil => intro c_; unfold State.sampleList; simp
    | cons i is ih =>
      intro c_
      unfold State.sampleList
      dsimp only
      split
      · split <;> simp [ih]
      · split <;> simp [ih]
  exact (key _).2 (by simp)) hP hW

@[simp] theorem fr_ucRaise {P W : Nat} (b_ : State) (s : State) (n b : Nat) (more : List Nat := [])
    (hP : P &&& 0x2120 = 0x2120) (hW : W &&& 0x18000000000000000000000000000002 = 0x18000000000000000000000000000002) :
    Fr P W b_ (State.ucRaise s n b more) ↔ Fr P W b_ s := Fr.iff (p := 0x2120) (w := 0x18000000000000000000000000000002) (by
  unfold State.ucRaise; simp) hP hW

@[simp] theorem fr_dcRaise {P W : Nat} (b_ : State) (s : State) (m b : Nat)
    (hP : P &&& 0x2120 = 0x2120) (hW : W &&& 0x300000000000000000000000000000002 = 0x300000000000000000000000000000002) :
    Fr P W b_ (State.dcRaise s m b) ↔ Fr P W b_ s := Fr.iff (p := 0x2120) (w := 0x300000000000000000000000000000002) (by
  unfold State.dcRaise; simp) hP hW

@[simp] theorem fr_ucOutOfService {P W : Nat} (b_ : State) (s : State) (n : Nat) (more : List Nat)
    (hP : P &&& 0x102120 = 0x102120) (hW : W &&& 0x18000000000000000000000000000002 = 0x18000000000000000000000000000002) :
    Fr P W b_ (State.ucOutOfService s n more) ↔ Fr P W b_ s := Fr.iff (p := 0x102120) (w :=
        0x18000000000000000000000000000002) (by
  unfold State.ucOutOfService; simp) hP hW

@[simp] theorem fr_ucAnswer {P W : Nat} (b_ : State) (s : State) (n b : Nat) (cause : DiagCause)
    (hP : P &&& 0x100020 = 0x100020) (hW : W &&& 0x8000000000000000000000000000000 = 0x8000000000000000000000000000000) :
    Fr P W b_ (State.ucAnswer s n b cause) ↔ Fr P W b_ s := Fr.iff (p := 0x100020) (w :=
        0x8000000000000000000000000000000) (by
  unfold State.ucAnswer; simp) hP hW

@[simp] theorem fr_dcOverload {P W : Nat} (b_ : State) (s : State) (m : Nat)
    (hP : P &&& 0x102120 = 0x102120) (hW : W &&& 0x300000000000000000000000000000002 =
        0x300000000000000000000000000000002) :
    Fr P W b_ (State.dcOverload s m) ↔ Fr P W b_ s := Fr.iff (p := 0x102120) (w := 0x300000000000000000000000000000002) (by
  unfold State.dcOverload; simp) hP hW

@[simp] theorem fr_dcHot {P W : Nat} (b_ : State) (s : State) (m : Nat)
    (hP : P &&& 0x102120 = 0x102120) (hW : W &&& 0x300000000000000000000000000000002 =
        0x300000000000000000000000000000002) :
    Fr P W b_ (State.dcHot s m) ↔ Fr P W b_ s := Fr.iff (p := 0x102120) (w := 0x300000000000000000000000000000002) (by
  unfold State.dcHot; simp) hP hW

@[simp] theorem fr_dcDiag {P W : Nat} (b_ : State) (s : State) (m b : Nat) (cause : DiagCause)
    (hP : P &&& 0x102120 = 0x102120) (hW : W &&& 0x300000000000000000000000000000002 =
        0x300000000000000000000000000000002) :
    Fr P W b_ (State.dcDiag s m b cause) ↔ Fr P W b_ s := Fr.iff (p := 0x102120) (w :=
        0x300000000000000000000000000000002) (by
  unfold State.dcDiag; (repeat' split) <;> simp) hP hW

theorem fr_execDiagRaised (c : Chan) (b : Fin 16) (cause : DiagCause) (s : State) : FrO 0x102120
    0x318000000000000000000000000000002 s (execDiagRaised c b cause s) := by
  unfold execDiagRaised; simp; (repeat' split) <;> simp

theorem fr_execDiagCleared (c : Chan) (b : Fin 16) (s : State) : FrO 0x100020 0x108000000000000000000000000000000 s
    (execDiagCleared c b s) := by
  unfold execDiagCleared; simp; (repeat' split) <;> simp

theorem fr_execCrosscheckRound (k : Fin 4) (own check : F32) (s : State) : FrO 0x102120
    0x18000000000000000000000000000002 s (execCrosscheckRound k own check s) := by
  unfold execCrosscheckRound; simp

theorem fr_execTcOpenTest (n : Fin 32) (ohms : Nat) (s : State) : FrO 0x2120 0x18000000000000000000000000000002 s
    (execTcOpenTest n ohms s) := by
  unfold execTcOpenTest; simp

theorem fr_execVoutRetry (n : Fin 32) (stillLimited : Bool) (s : State) : FrO 0x100020
    0x8000000000000000000000000000000 s (execVoutRetry n stillLimited s) := by
  unfold execVoutRetry; simp

@[simp] theorem fr_sliceOff {P W : Nat} (b_ : State) (s : State) (k : Nat)
    (hP : P &&& 0x100020 = 0x100020) (hW : W &&& 0x108000000000000000000000000000000 =
        0x108000000000000000000000000000000) :
    Fr P W b_ (State.sliceOff s k) ↔ Fr P W b_ s := Fr.iff (p := 0x100020) (w := 0x108000000000000000000000000000000) (by
  unfold State.sliceOff; simp) hP hW

@[simp] theorem fr_showTemp {P W : Nat} (b_ : State) (s : State) (k : Nat) (temp : Int)
    (hP : P &&& 0x20 = 0x20) (hW : W &&& 0x420000000000000000000000000000000 = 0x420000000000000000000000000000000) :
    Fr P W b_ (State.showTemp s k temp) ↔ Fr P W b_ s := Fr.iff (p := 0x20) (w := 0x420000000000000000000000000000000) (by
  unfold State.showTemp; simp) hP hW

@[simp] theorem fr_setTempOff {P W : Nat} (b_ : State) (s : State) (k : Nat) (off : Bool)
    (hP : P &&& 0x100020 = 0x100020) (hW : W &&& 0x128000000000000000000000000000000 =
        0x128000000000000000000000000000000) :
    Fr P W b_ (State.setTempOff s k off) ↔ Fr P W b_ s := Fr.iff (p := 0x100020) (w :=
        0x128000000000000000000000000000000) (by
  unfold State.setTempOff; simp) hP hW

theorem fr_execShellTempOff (k : Fin 10) (temp : Int) (s : State) : FrO 0x100020 0x528000000000000000000000000000000 s
    (execShellTempOff k temp s) := by
  unfold execShellTempOff; simp

@[simp] theorem fr_ucPower {P W : Nat} (b_ : State) (s : State) (k : Nat)
    (hP : P &&& 0x30 = 0x30) (hW : W &&& 0x20000000000000000000000000000000 = 0x20000000000000000000000000000000) :
    Fr P W b_ (State.ucPower s k) ↔ Fr P W b_ s := Fr.iff (p := 0x30) (w := 0x20000000000000000000000000000000) (by
  unfold State.ucPower; simp) hP hW

theorem fr_execShellTempMeasure (k : Fin 10) (temp : Int) (s : State) : FrO 0x100030
    0x528000000000000000000000000000000 s (execShellTempMeasure k temp s) := by
  unfold execShellTempMeasure; simp

theorem fr_execElementCheck (n : Fin 32) (code : Nat) (s : State) : FrO 0x102120 0x18000000000000000000000000000002 s
    (execElementCheck n code s) := by
  unfold execElementCheck; simp

@[simp] theorem fr_hartSend {P W : Nat} (b_ : State) (s : State) (n cmd : Nat) (bytes : List Byte)
    (hP : P &&& 0x2 = 0x2) (hW : W &&& 0x0 = 0x0) :
    Fr P W b_ (State.hartSend s n cmd bytes) ↔ Fr P W b_ s := Fr.iff (p := 0x2) (w := 0x0) (by
  unfold State.hartSend; simp) hP hW

@[simp] theorem fr_hartShow {P W : Nat} (b_ : State) (s : State) (n : Nat) (r : HartReply)
    (hP : P &&& 0x2120 = 0x2120) (hW : W &&& 0x58000000000000000000000000000002 = 0x58000000000000000000000000000002) :
    Fr P W b_ (State.hartShow s n r) ↔ Fr P W b_ s := Fr.iff (p := 0x2120) (w := 0x58000000000000000000000000000002) (by
  unfold State.hartShow; simp) hP hW

theorem fr_execHartConnect (n : Fin 32) (reply : Option (Nat × HartReply)) (s : State) : FrO 0x102122
    0x58000000000000000000000000000002 s (execHartConnect n reply s) := by
  unfold execHartConnect; simp; (repeat' split) <;> simp

@[simp] theorem fr_hartLate {P W : Nat} (b_ : State) (s : State) (k : Nat) (x0 : List Nat)
    (hP : P &&& 0x340090000 = 0x340090000) (hW : W &&& 0x0 = 0x0) :
    Fr P W b_ (State.hartLate s k x0) ↔ Fr P W b_ s := Fr.iff (p := 0x340090000) (w := 0x0) (by
  clear hP hW
  have key : ∀ c_, Fr 0x340090000 0x0 c_ (State.hartLate s k x0) ↔ Fr 0x340090000 0x0 c_ s := by
    induction x0 generalizing s k with
    | nil => intro c_; unfold State.hartLate; simp
    | cons y_ ys_ ih => intro c_; unfold State.hartLate; simp [ih]
  exact (key _).2 (by simp)) hP hW

@[simp] theorem fr_hartFail {P W : Nat} (b_ : State) (s : State) (n : Nat)
    (hP : P &&& 0x102120 = 0x102120) (hW : W &&& 0x58000000000000000000000000000002 = 0x58000000000000000000000000000002) :
    Fr P W b_ (State.hartFail s n) ↔ Fr P W b_ s := Fr.iff (p := 0x102120) (w := 0x58000000000000000000000000000002) (by
  unfold State.hartFail; simp) hP hW

@[simp] theorem fr_hartOverdue {P W : Nat} (b_ : State) (s : State) (n : Nat)
    (hP : P &&& 0x102120 = 0x102120) (hW : W &&& 0x58000000000000000000000000000002 = 0x58000000000000000000000000000002) :
    Fr P W b_ (State.hartOverdue s n) ↔ Fr P W b_ s := Fr.iff (p := 0x102120) (w := 0x58000000000000000000000000000002) (by
  unfold State.hartOverdue; (repeat' split) <;> simp) hP hW

theorem fr_execHartPoll (n : Fin 32) (s : State) : FrO 0x340192122 0x58000000000000000000000000000002 s (execHartPoll n
    s) := by
  unfold execHartPoll; simp

@[simp] theorem fr_hartProduce {P W : Nat} (b_ : State) (s : State) (at_ : Instant) (malf : Bool) (ps : List Nat) (vs :
    List (F32 × Bool))
    (hP : P &&& 0x10000 = 0x10000) (hW : W &&& 0x0 = 0x0) :
    Fr P W b_ (s.hartProduce at_ malf ps vs) ↔ Fr P W b_ s := Fr.iff (p := 0x10000) (w := 0x0) (by
  clear hP hW; 
  have key : ∀ c_, Fr 0x10000 0x0 c_ (s.hartProduce at_ malf ps vs) ↔ Fr 0x10000 0x0 c_ s := by
    induction ps generalizing s vs with
    | nil => intro c_; unfold State.hartProduce; simp
    | cons i is ih => intro c_; cases vs <;> simp [State.hartProduce, ih]
  exact (key _).2 (by simp)) hP hW

theorem fr_execHartResponse (n : Fin 32) (r : HartReply) (s : State) : FrO 0x112120 0x58000000000000000000000000000002
    s (execHartResponse n r s) := by
  unfold execHartResponse; simp

theorem fr_execHartTimeout (n : Fin 32) (s : State) : FrO 0x902122 0x58000100000000000000000000000002 s
    (execHartTimeout n s) := by
  unfold execHartTimeout; simp; (repeat' split) <;> simp

theorem fr_execInputChangeAccepted (m : Fin 48) (on : Bool) (s : State) : FrO 0x100020
    0x100000000000000000000000000000000 s (execInputChangeAccepted m on s) := by
  unfold execInputChangeAccepted; (repeat' split) <;> (try simp) <;> (repeat' split) <;> simp_all

theorem fr_execOutputOverloadOff (m : Fin 48) (s : State) : FrO 0x102120 0x300000000000000000000000000000002 s
    (execOutputOverloadOff m s) := by
  unfold execOutputOverloadOff; simp

theorem fr_execOutputOverloadRetry (m : Fin 48) (s : State) : FrO 0x100020 0x100000000000000000000000000000000 s
    (execOutputOverloadRetry m s) := by
  unfold execOutputOverloadRetry; simp

theorem fr_execOutputOvertempOff (m : Fin 48) (s : State) : FrO 0x102120 0x300000000000000000000000000000002 s
    (execOutputOvertempOff m s) := by
  unfold execOutputOvertempOff; simp

@[simp] theorem fr_supplyDiags {P W : Nat} (b_ : State) (s : State) (g st : Nat)
    (hP : P &&& 0x2120 = 0x2120) (hW : W &&& 0x300000000000000000000000000000002 = 0x300000000000000000000000000000002) :
    Fr P W b_ (State.supplyDiags s g st) ↔ Fr P W b_ s := Fr.iff (p := 0x2120) (w :=
        0x300000000000000000000000000000002) (by
  unfold State.supplyDiags; simp) hP hW

@[simp] theorem fr_supplyStages {P W : Nat} (b_ : State) (s : State) (g st old : Nat)
    (hP : P &&& 0x100020 = 0x100020) (hW : W &&& 0x500000000000000000000000000000000 =
        0x500000000000000000000000000000000) :
    Fr P W b_ (State.supplyStages s g st old) ↔ Fr P W b_ s := Fr.iff (p := 0x100020) (w :=
        0x500000000000000000000000000000000) (by
  unfold State.supplyStages; simp) hP hW

theorem fr_execSupplyStateChange (g : Fin 6) (millivolts : Nat) (s : State) : FrO 0x102120
    0x700000000000000000000000000000002 s (execSupplyStateChange g millivolts s) := by
  unfold execSupplyStateChange; simp

theorem fr_execReapplyTurn (g : Fin 6) (s : State) : FrO 0x100020 0x500000000000000000000000000000000 s
    (execReapplyTurn g s) := by
  unfold execReapplyTurn; simp; (repeat' split) <;> simp

theorem fr_execGroupOver (g : Fin 6) (milliamps : Nat) (s : State) : FrO 0x2020 0x400000000000000000000000000000002 s
    (execGroupOver g milliamps s) := by
  unfold execGroupOver; simp

@[simp] theorem fr_sinkFollow {P W : Nat} (b_ : State) (s : State) (g : Nat)
    (hP : P &&& 0x20 = 0x20) (hW : W &&& 0x100000000000000000000000000000000 = 0x100000000000000000000000000000000) :
    Fr P W b_ (State.sinkFollow s g) ↔ Fr P W b_ s := Fr.iff (p := 0x20) (w := 0x100000000000000000000000000000000) (by
  unfold State.sinkFollow; simp) hP hW

theorem fr_execSinkShareChange (g : Fin 6) (seen : Bool) (s : State) : FrO 0x20 0x500000000000000000000000000000000 s
    (execSinkShareChange g seen s) := by
  unfold execSinkShareChange; simp

@[simp] theorem fr_sinkEnd {P W : Nat} (b_ : State) (s : State) (g : Nat)
    (hP : P &&& 0x100002 = 0x100002) (hW : W &&& 0x0 = 0x0) :
    Fr P W b_ (State.sinkEnd s g) ↔ Fr P W b_ s := Fr.iff (p := 0x100002) (w := 0x0) (by
  unfold State.sinkEnd; simp) hP hW

@[simp] theorem fr_sinkEndAll {P W : Nat} (b_ : State) (s : State)
    (hP : P &&& 0x100002 = 0x100002) (hW : W &&& 0x0 = 0x0) :
    Fr P W b_ (State.sinkEndAll s) ↔ Fr P W b_ s := Fr.iff (p := 0x100002) (w := 0x0) (by
  unfold State.sinkEndAll; simp) hP hW

@[simp] theorem fr_sinkStart {P W : Nat} (b_ : State) (s : State) (g : Nat)
    (hP : P &&& 0x100022 = 0x100022) (hW : W &&& 0x100000000000000000000000000000000 =
        0x100000000000000000000000000000000) :
    Fr P W b_ (State.sinkStart s g) ↔ Fr P W b_ s := Fr.iff (p := 0x100022) (w := 0x100000000000000000000000000000000) (by
  unfold State.sinkStart; simp) hP hW

end Sys2Proof.Machine
end

