-- ==== Sys2Proof/Laws/FrameLaunch.lean ====
section
/-! SUPPORT. What the functions of Machine/Launch.lean may change: for each, as bit masks, the parts of the state and the registers. -/

namespace Sys2Proof.Machine

@[simp] theorem fr_pushSlices {P W : Nat} (b_ : State) (s : State) (e : Nat) (t : Instant) (commit : Bool) (x0 : List Nat)
    (hP : P &&& 0x10020 = 0x10020) (hW : W &&& 0x2 = 0x2) :
    Fr P W b_ (State.pushSlices s e t commit x0) ↔ Fr P W b_ s := Fr.iff (p := 0x10020) (w := 0x2) (by
  clear hP hW
  have key : ∀ c_, Fr 0x10020 0x2 c_ (State.pushSlices s e t commit x0) ↔ Fr 0x10020 0x2 c_ s := by
    induction x0 generalizing s e t commit with
    | nil => intro c_; unfold State.pushSlices; simp
    | cons y_ ys_ ih => intro c_; unfold State.pushSlices; (repeat' split) <;> simp [ih]
  exact (key _).2 (by simp)) hP hW

@[simp] theorem fr_expectSets {P W : Nat} (b_ : State) (s : State) (d : BitVec 128) (g : Nat) (t : Instant) (x0 : List Nat)
    (hP : P &&& 0x10000 = 0x10000) (hW : W &&& 0x0 = 0x0) :
    Fr P W b_ (State.expectSets s d g t x0) ↔ Fr P W b_ s := Fr.iff (p := 0x10000) (w := 0x0) (by
  clear hP hW
  have key : ∀ c_, Fr 0x10000 0x0 c_ (State.expectSets s d g t x0) ↔ Fr 0x10000 0x0 c_ s := by
    induction x0 generalizing s d g t with
    | nil => intro c_; unfold State.expectSets; simp
    | cons y_ ys_ ih => intro c_; unfold State.expectSets; simp [ih]
  exact (key _).2 (by simp)) hP hW

@[simp] theorem fr_openGroup {P W : Nat} (b_ : State) (s : State) (d : BitVec 128) (g a : Nat) (t : Instant)
    (hP : P &&& 0x20020 = 0x20020) (hW : W &&& 0x10000000000000000000 = 0x10000000000000000000) :
    Fr P W b_ (State.openGroup s d g a t) ↔ Fr P W b_ s := Fr.iff (p := 0x20020) (w := 0x10000000000000000000) (by
  unfold State.openGroup; simp) hP hW

theorem fr_execLaunchEntryHandoff (e : Nat) (t : Instant) (s : State) : FrO 0x30020 0x10000000000000000002 s
    (execLaunchEntryHandoff e t s) := by
  unfold execLaunchEntryHandoff; simp; (repeat' split) <;> simp

@[simp] theorem fr_loopsMiss {P W : Nat} (b_ : State) (s : State) (k : Instant) (x0 : List Nat)
    (hP : P &&& 0x3c00fa120 = 0x3c00fa120) (hW : W &&& 0xa5c2c0000000000000002 = 0xa5c2c0000000000000002) :
    Fr P W b_ (State.loopsMiss s k x0) ↔ Fr P W b_ s := Fr.iff (p := 0x3c00fa120) (w := 0xa5c2c0000000000000002) (by
  clear hP hW
  have key : ∀ c_, Fr 0x3c00fa120 0xa5c2c0000000000000002 c_ (State.loopsMiss s k x0) ↔ Fr 0x3c00fa120
      0xa5c2c0000000000000002 c_ s := by
    induction x0 generalizing s k with
    | nil => intro c_; unfold State.loopsMiss; simp
    | cons y_ ys_ ih => intro c_; unfold State.loopsMiss; simp [ih]
  exact (key _).2 (by simp)) hP hW

@[simp] theorem fr_taskSkip {P W : Nat} (b_ : State) (s : State) (k : Nat) (next : Instant)
    (hP : P &&& 0x10000 = 0x10000) (hW : W &&& 0x0 = 0x0) :
    Fr P W b_ (State.taskSkip s k next) ↔ Fr P W b_ s := Fr.iff (p := 0x10000) (w := 0x0) (by
  unfold State.taskSkip; simp) hP hW

@[simp] theorem fr_pop {P W : Nat} (b_ : State) (s : State) (c : Nat)
    (hP : P &&& 0x10000 = 0x10000) (hW : W &&& 0x0 = 0x0) :
    Fr P W b_ (State.pop s c) ↔ Fr P W b_ s := Fr.iff (p := 0x10000) (w := 0x0) (by
  unfold State.pop; simp) hP hW

@[simp] theorem fr_unexpect {P W : Nat} (b_ : State) (s : State) (k g : Nat) (c : Instant)
    (hP : P &&& 0x10000 = 0x10000) (hW : W &&& 0x0 = 0x0) :
    Fr P W b_ (State.unexpect s k g c) ↔ Fr P W b_ s := Fr.iff (p := 0x10000) (w := 0x0) (by
  unfold State.unexpect; simp) hP hW

@[simp] theorem fr_takeSamples {P W : Nat} (b_ : State) (s : State) (k g : Nat) (c : Instant) (recs : List (Nat × W64))
    (hP : P &&& 0x10000 = 0x10000) (hW : W &&& 0x0 = 0x0) :
    Fr P W b_ (State.takeSamples s k g c recs) ↔ Fr P W b_ s := Fr.iff (p := 0x10000) (w := 0x0) (by
  unfold State.takeSamples; simp) hP hW

@[simp] theorem fr_immediateLate {P W : Nat} (b_ : State) (s : State) (point : Nat)
    (hP : P &&& 0x100000 = 0x100000) (hW : W &&& 0x0 = 0x0) :
    Fr P W b_ (State.immediateLate s point) ↔ Fr P W b_ s := Fr.iff (p := 0x100000) (w := 0x0) (by
  unfold State.immediateLate; simp; (repeat' split) <;> simp) hP hW

@[simp] theorem fr_tooLate {P W : Nat} (b_ : State) (s : State) (m : ChanMsg)
    (hP : P &&& 0x3c01fa120 = 0x3c01fa120) (hW : W &&& 0xa5c2c0000000000000002 = 0xa5c2c0000000000000002) :
    Fr P W b_ (State.tooLate s m) ↔ Fr P W b_ s := Fr.iff (p := 0x3c01fa120) (w := 0xa5c2c0000000000000002) (by
  unfold State.tooLate; simp; (repeat' split) <;> simp) hP hW

theorem fr_execHandshakeReceive (ch : Channel) (s : State) : FrO 0x3c05fa122 0x508a00000000a5c2c0000000000000002 s
    (execHandshakeReceive ch s) := by
  unfold execHandshakeReceive; simp; (repeat' split) <;> simp

theorem fr_execSampleOwnSlices (k : Fin 10) (g : Nat) (t : Instant) (words : List (Fin 32 × List (BitVec 24))) (s :
    State) : FrO 0x3c0198130 0x4080000000000002c0000000000000002 s (execSampleOwnSlices k g t words s) := by
  unfold execSampleOwnSlices; simp; (repeat' split) <;> simp

@[simp] theorem fr_launchFast {P W : Nat} (b_ : State) (s : State) (t : Instant) (e : Nat)
    (hP : P &&& 0x3c00fa120 = 0x3c00fa120) (hW : W &&& 0xa5c2c0000000000000002 = 0xa5c2c0000000000000002) :
    Fr P W b_ (State.launchFast s t e) ↔ Fr P W b_ s := Fr.iff (p := 0x3c00fa120) (w := 0xa5c2c0000000000000002) (by
  unfold State.launchFast; simp) hP hW

theorem fr_execFastSampleComplete (g : Nat) (t : Instant) (s : State) : FrO 0x3c00fa120 0xa5c2c0000000000000002 s
    (execFastSampleComplete g t s) := by
  unfold execFastSampleComplete; simp; (repeat' split) <;> simp

theorem fr_execFastLoopAbandon (l : Nat) (s : State) : FrO 0x3c00fa120 0xa5c2c0000000000000002 s (execFastLoopAbandon l
    s) := by
  unfold execFastLoopAbandon; simp; (repeat' split) <;> simp

theorem fr_execComputeLoops (e : Nat) (c : Instant) (s : State) : FrO 0x3c00fa120 0xa5c2c0000000000000002 s
    (execComputeLoops e c s) := by
  unfold execComputeLoops; simp; (repeat' split) <;> simp

@[simp] theorem fr_taskStopped {P W : Nat} (b_ : State) (s : State) (k : Instant) (x0 : List Nat)
    (hP : P &&& 0x340090000 = 0x340090000) (hW : W &&& 0x0 = 0x0) :
    Fr P W b_ (State.taskStopped s k x0) ↔ Fr P W b_ s := Fr.iff (p := 0x340090000) (w := 0x0) (by
  clear hP hW
  have key : ∀ c_, Fr 0x340090000 0x0 c_ (State.taskStopped s k x0) ↔ Fr 0x340090000 0x0 c_ s := by
    induction x0 generalizing s k with
    | nil => intro c_; unfold State.taskStopped; simp
    | cons y_ ys_ ih => intro c_; unfold State.taskStopped; simp [ih]
  exact (key _).2 (by simp)) hP hW

theorem fr_execRunApplicationTask (e : Nat) (c : Instant) (s : State) : FrO 0x3c00fa120 0xa5c2c0000000000000002 s
    (execRunApplicationTask e c s) := by
  unfold execRunApplicationTask; (repeat' split) <;> simp

theorem fr_execTaskComplete (k : Nat) (points : List (Nat × Word)) (words : List (Nat × W64)) (s : State) : FrO
    0x3c0098120 0x2c0000000000000000 s (execTaskComplete k points words s) := by
  unfold execTaskComplete; simp

theorem fr_execTaskOverrun (k : Nat) (s : State) : FrO 0x3c0098120 0x2c0000000000000000 s (execTaskOverrun k s) := by
  unfold execTaskOverrun; simp

@[simp] theorem fr_commitSlice {P W : Nat} (b_ : State) (s : State) (k : Nat) (ok : Bool)
    (hP : P &&& 0x100020 = 0x100020) (hW : W &&& 0x108000000000000000000000000000000 =
        0x108000000000000000000000000000000) :
    Fr P W b_ (State.commitSlice s k ok) ↔ Fr P W b_ s := Fr.iff (p := 0x100020) (w :=
        0x108000000000000000000000000000000) (by
  unfold State.commitSlice; simp) hP hW

@[simp] theorem fr_commitOne {P W : Nat} (b_ : State) (s : State) (k e : Nat) (t : Instant)
    (hP : P &&& 0x110020 = 0x110020) (hW : W &&& 0x508000000000000000000000000000000 =
        0x508000000000000000000000000000000) :
    Fr P W b_ (State.commitOne s k e t) ↔ Fr P W b_ s := Fr.iff (p := 0x110020) (w :=
        0x508000000000000000000000000000000) (by
  unfold State.commitOne; simp) hP hW

@[simp] theorem fr_sendSide {P W : Nat} (b_ : State) (s : State) (ks : List Nat)
    (hP : P &&& 0x2 = 0x2) (hW : W &&& 0x0 = 0x0) :
    Fr P W b_ (State.sendSide s ks) ↔ Fr P W b_ s := Fr.iff (p := 0x2) (w := 0x0) (by
  unfold State.sendSide; simp) hP hW

theorem fr_execCommitOwnSlices (e : Nat) (t : Instant) (s : State) : FrO 0x3c01fa122
    0x508000000000a5c2c0000000000000002 s (execCommitOwnSlices e t s) := by
  unfold execCommitOwnSlices; simp; (repeat' split) <;> simp

@[simp] theorem fr_publish {P W : Nat} (b_ : State) (s : State) (k : Instant) (n : Nat)
    (hP : P &&& 0x810022 = 0x810022) (hW : W &&& 0x100000000000000000000000000 = 0x100000000000000000000000000) :
    Fr P W b_ (State.publish s k n) ↔ Fr P W b_ s := Fr.iff (p := 0x810022) (w := 0x100000000000000000000000000) (by
  unfold State.publish; simp; (repeat' split) <;> simp) hP hW

theorem fr_execPublishStreams (e : Nat) (k : Instant) (s : State) : FrO 0x3c08fa122 0x100000a5c2c0000000000000002 s
    (execPublishStreams e k s) := by
  unfold execPublishStreams; simp; (repeat' split) <;> simp

end Sys2Proof.Machine
end

