-- ==== Sys2Proof/Laws/FrameTime.lean ====
section
/-! SUPPORT. What the functions of Machine/Time.lean may change: for each, as bit masks, the parts of the state and the registers. -/

namespace Sys2Proof.Machine

@[simp] theorem fr_setPair {P W : Nat} (b_ s : State) (l h : RegName) (i : Nat) (v : W64) (hP : P &&& 0x20 = 0x20) (hL
    : W &&& rb l = rb l) (hH : W &&& rb h = rb h) :
    Fr P W b_ (s.setPair l h i v) ↔ Fr P W b_ s := by
  unfold State.setPair; rw [fr_setReg _ _ _ _ _ hP hH, fr_setReg _ _ _ _ _ hP hL]

theorem fr_execViewRebase (v : ViewId) (s : State) : FrO 0x4000 0x0 s (execViewRebase v s) := by
  unfold execViewRebase; simp; (repeat' split) <;> simp

@[simp] theorem fr_latchViews {P W : Nat} (b_ : State) (s : State)
    (hP : P &&& 0x20 = 0x20) (hW : W &&& 0x7f8000000000000 = 0x7f8000000000000) :
    Fr P W b_ (State.latchViews s) ↔ Fr P W b_ s := Fr.iff (p := 0x20) (w := 0x7f8000000000000) (by
  unfold State.latchViews; simp) hP hW

theorem fr_execMtLatch (s : State) : FrO 0x20 0x7f8000000000000 s (execMtLatch s) := by
  unfold execMtLatch; simp

@[simp] theorem fr_setPtRate {P W : Nat} (b_ : State) (s : State) (r : Int)
    (hP : P &&& 0x4000 = 0x4000) (hW : W &&& 0x0 = 0x0) :
    Fr P W b_ (State.setPtRate s r) ↔ Fr P W b_ s := Fr.iff (p := 0x4000) (w := 0x0) (by
  unfold State.setPtRate; simp) hP hW

@[simp] theorem fr_setErr {P W : Nat} (b_ : State) (s : State) (e : Nat)
    (hP : P &&& 0x20 = 0x20) (hW : W &&& 0x4000000000000000 = 0x4000000000000000) :
    Fr P W b_ (State.setErr s e) ↔ Fr P W b_ s := Fr.iff (p := 0x20) (w := 0x4000000000000000) (by
  unfold State.setErr; simp) hP hW

@[simp] theorem fr_enterLocked {P W : Nat} (b_ : State) (s : State)
    (hP : P &&& 0x6120 = 0x6120) (hW : W &&& 0x4800000000000000 = 0x4800000000000000) :
    Fr P W b_ (State.enterLocked s) ↔ Fr P W b_ s := Fr.iff (p := 0x6120) (w := 0x4800000000000000) (by
  unfold State.enterLocked; simp) hP hW

@[simp] theorem fr_enterSlewing {P W : Nat} (b_ : State) (s : State) (e : Int)
    (hP : P &&& 0x6120 = 0x6120) (hW : W &&& 0x4800000000000000 = 0x4800000000000000) :
    Fr P W b_ (State.enterSlewing s e) ↔ Fr P W b_ s := Fr.iff (p := 0x6120) (w := 0x4800000000000000) (by
  unfold State.enterSlewing; simp) hP hW

@[simp] theorem fr_showOffset {P W : Nat} (b_ : State) (s : State) (e : Int)
    (hP : P &&& 0x20 = 0x20) (hW : W &&& 0x2000000000000000 = 0x2000000000000000) :
    Fr P W b_ (State.showOffset s e) ↔ Fr P W b_ s := Fr.iff (p := 0x20) (w := 0x2000000000000000) (by
  unfold State.showOffset; simp) hP hW

@[simp] theorem fr_coordHold {P W : Nat} (b_ : State) (s : State)
    (hP : P &&& 0x2120 = 0x2120) (hW : W &&& 0x800000000000000 = 0x800000000000000) :
    Fr P W b_ (State.coordHold s) ↔ Fr P W b_ s := Fr.iff (p := 0x2120) (w := 0x800000000000000) (by
  unfold State.coordHold; simp) hP hW

@[simp] theorem fr_followHold {P W : Nat} (b_ : State) (s : State)
    (hP : P &&& 0x6120 = 0x6120) (hW : W &&& 0x800000000000000 = 0x800000000000000) :
    Fr P W b_ (State.followHold s) ↔ Fr P W b_ s := Fr.iff (p := 0x6120) (w := 0x800000000000000) (by
  unfold State.followHold; simp) hP hW

@[simp] theorem fr_enterHoldover {P W : Nat} (b_ : State) (s : State)
    (hP : P &&& 0x6120 = 0x6120) (hW : W &&& 0x4800000000000000 = 0x4800000000000000) :
    Fr P W b_ (State.enterHoldover s) ↔ Fr P W b_ s := Fr.iff (p := 0x6120) (w := 0x4800000000000000) (by
  unfold State.enterHoldover; simp) hP hW

@[simp] theorem fr_basesLose {P W : Nat} (b_ : State) (s : State) (d : Nat)
    (hP : P &&& 0x20 = 0x20) (hW : W &&& 0x20000000000000000 = 0x20000000000000000) :
    Fr P W b_ (State.basesLose s d) ↔ Fr P W b_ s := Fr.iff (p := 0x20) (w := 0x20000000000000000) (by
  unfold State.basesLose; simp) hP hW

@[simp] theorem fr_sourceGone {P W : Nat} (b_ : State) (s : State) (o : Nat)
    (hP : P &&& 0x4120 = 0x4120) (hW : W &&& 0x20800000000000000 = 0x20800000000000000) :
    Fr P W b_ (State.sourceGone s o) ↔ Fr P W b_ s := Fr.iff (p := 0x4120) (w := 0x20800000000000000) (by
  unfold State.sourceGone; simp; (repeat' split) <;> simp) hP hW

theorem fr_execSourceLost (s : State) : FrO 0x6120 0x24800000000000000 s (execSourceLost s) := by
  unfold execSourceLost; simp

theorem fr_execHoldoverErrCross (s : State) : FrO 0x2120 0x800000000000000 s (execHoldoverErrCross s) := by
  unfold execHoldoverErrCross; simp

@[simp] theorem fr_actOn {P W : Nat} (b_ : State) (s : State) (e : Int) (order : Nat)
    (hP : P &&& 0x6130 = 0x6130) (hW : W &&& 0x6800000000000000 = 0x6800000000000000) :
    Fr P W b_ (State.actOn s e order) ↔ Fr P W b_ s := Fr.iff (p := 0x6130) (w := 0x6800000000000000) (by
  unfold State.actOn; simp) hP hW

@[simp] theorem fr_syncOffset {P W : Nat} (b_ : State) (s : State) (e rate : Int)
    (hP : P &&& 0x6130 = 0x6130) (hW : W &&& 0xe800000000000000 = 0xe800000000000000) :
    Fr P W b_ (State.syncOffset s e rate) ↔ Fr P W b_ s := Fr.iff (p := 0x6130) (w := 0xe800000000000000) (by
  unfold State.syncOffset; simp) hP hW

@[simp] theorem fr_baseHears {P W : Nat} (b_ : State) (s : State) (n : Nat) (src : W64) (rate : Int) (port : Nat)
    (hP : P &&& 0x4030 = 0x4030) (hW : W &&& 0x20000000000000000 = 0x20000000000000000) :
    Fr P W b_ (State.baseHears s n src rate port) ↔ Fr P W b_ s := Fr.iff (p := 0x4030) (w := 0x20000000000000000) (by
  unfold State.baseHears; simp) hP hW

@[simp] theorem fr_basesHear {P W : Nat} (b_ : State) (s : State) (d : Nat) (src : W64) (rate : Int) (port : Nat)
    (hP : P &&& 0x4030 = 0x4030) (hW : W &&& 0x20000000000000000 = 0x20000000000000000) :
    Fr P W b_ (State.basesHear s d src rate port) ↔ Fr P W b_ s := Fr.iff (p := 0x4030) (w := 0x20000000000000000) (by
  unfold State.basesHear; simp) hP hW

theorem fr_execGptpSyncReceived (d : Fin 128) (port : Fin 2) (secs ns : Nat) (corr cum : Int) (residence : Nat) (s :
    State) : FrO 0x6132 0x20000000002e800000000000000 s (execGptpSyncReceived d port secs ns corr cum residence s) := by
  unfold execGptpSyncReceived; simp

theorem fr_execGptpPdelayMessage (port : Fin 2) (m : PdelayMsg) (s : State) : FrO 0x4022 0x80000000000000000000000000 s
    (execGptpPdelayMessage port m s) := by
  unfold execGptpPdelayMessage; simp; (repeat' split) <;> simp

theorem fr_execPdelayRequestSend (port : Fin 2) (s : State) : FrO 0x4002 0x0 s (execPdelayRequestSend port s) := by
  unfold execPdelayRequestSend; simp

theorem fr_execGptpSignaling (port : Fin 2) (logSync logPdelay : Int) (s : State) : FrO 0x4000 0x0 s (execGptpSignaling
    port logSync logPdelay s) := by
  unfold execGptpSignaling; simp

theorem fr_execGptpAnnounce (d : Fin 128) (port : Fin 2) (better : Bool) (steps : Nat) (s : State) : FrO 0x4022
    0x200000000000000000000000000 s (execGptpAnnounce d port better steps s) := by
  unfold execGptpAnnounce; simp

@[simp] theorem fr_setRef {P W : Nat} (b_ : State) (s : State) (f : Field) (v : Bool) (hP : P &&& 0x6120 = 0x6120) (hW
    : W &&& 0x800000000000000 = 0x800000000000000) (hF : W &&& rb f.reg = rb f.reg) :
    Fr P W b_ (s.setRef f v) ↔ Fr P W b_ s := Fr.iff (p := P) (w := W) (by
  unfold State.setRef
  have key : Fr P W s ((s.setFlag f v).ev 94) := (fr_ev _ _ _ (land_trans hP rfl) (Nat.and_zero W)).2 ((fr_setFlag _ _
      _ _ _ (land_trans hP rfl) hF).2 (by simp))
  split
  · simp
  · dsimp only
    split
    · exact (fr_followHold _ _ (land_trans hP rfl) (land_trans hW rfl)).2 key
    · exact key) (Nat.and_self P) (Nat.and_self W)

@[simp] theorem fr_ppsBase {P W : Nat} (b_ : State) (s : State) (frc : W64) (n : Nat)
    (hP : P &&& 0x4030 = 0x4030) (hW : W &&& 0x20000000000000000 = 0x20000000000000000) :
    Fr P W b_ (State.ppsBase s frc n) ↔ Fr P W b_ s := Fr.iff (p := 0x4030) (w := 0x20000000000000000) (by
  unfold State.ppsBase; simp) hP hW

@[simp] theorem fr_ppsBases {P W : Nat} (b_ : State) (s : State) (frc : W64)
    (hP : P &&& 0x4030 = 0x4030) (hW : W &&& 0x20000000000000000 = 0x20000000000000000) :
    Fr P W b_ (State.ppsBases s frc) ↔ Fr P W b_ s := Fr.iff (p := 0x4030) (w := 0x20000000000000000) (by
  unfold State.ppsBases; simp) hP hW

theorem fr_execPpsEdge (frc : W64) (s : State) : FrO 0x6130 0x20800000000000000 s (execPpsEdge frc s) := by
  unfold execPpsEdge; simp

theorem fr_execF10mMeasurement (hz : Nat) (s : State) : FrO 0x6130 0x800000000000000 s (execF10mMeasurement hz s) := by
  unfold execF10mMeasurement; simp

theorem fr_execPpsOutPulse (s : State) : FrO 0x4002 0x0 s (execPpsOutPulse s) := by
  unfold execPpsOutPulse; simp

@[simp] theorem fr_learnPartner {P W : Nat} (b_ : State) (s : State) (off : Option Int)
    (hP : P &&& 0x4000 = 0x4000) (hW : W &&& 0x0 = 0x0) :
    Fr P W b_ (State.learnPartner s off) ↔ Fr P W b_ s := Fr.iff (p := 0x4000) (w := 0x0) (by
  unfold State.learnPartner; simp; (repeat' split) <;> simp) hP hW

@[simp] theorem fr_hearPartner {P W : Nat} (b_ : State) (s : State) (off : Option Int)
    (hP : P &&& 0x6130 = 0x6130) (hW : W &&& 0x6800000000000000 = 0x6800000000000000) :
    Fr P W b_ (State.hearPartner s off) ↔ Fr P W b_ s := Fr.iff (p := 0x6130) (w := 0x6800000000000000) (by
  unfold State.hearPartner; simp; (repeat' split) <;> simp) hP hW

@[simp] theorem fr_reepochResult {P W : Nat} (b_ : State) (s : State) (c : Nat)
    (hP : P &&& 0x120 = 0x120) (hW : W &&& 0x800000000000000 = 0x800000000000000) :
    Fr P W b_ (State.reepochResult s c) ↔ Fr P W b_ s := Fr.iff (p := 0x120) (w := 0x800000000000000) (by
  unfold State.reepochResult; simp) hP hW

@[simp] theorem fr_dropMsgs {P W : Nat} (b_ : State) (s : State) (c : Nat) (ms : List ChanMsg)
    (hP : P &&& 0x3c01fa120 = 0x3c01fa120) (hW : W &&& 0xa5c2c0000000000000002 = 0xa5c2c0000000000000002) :
    Fr P W b_ (s.dropMsgs c ms) ↔ Fr P W b_ s := Fr.iff (p := 0x3c01fa120) (w := 0xa5c2c0000000000000002) (by
  clear hP hW; 
  have key : ∀ c_, Fr 0x3c01fa120 0xa5c2c0000000000000002 c_ (s.dropMsgs c ms) ↔ Fr 0x3c01fa120 0xa5c2c0000000000000002
      c_ s := by
    induction ms generalizing s with
    | nil => intro c_; unfold State.dropMsgs; simp
    | cons m ms ih => intro c_; unfold State.dropMsgs; rw [ih]; split <;> simp
  exact (key _).2 (by simp)) hP hW

@[simp] theorem fr_dropDue {P W : Nat} (b_ : State) (s : State) (x0 : List (Nat × Nat × Instant))
    (hP : P &&& 0x3c01fa120 = 0x3c01fa120) (hW : W &&& 0xa5c2c0000000000000002 = 0xa5c2c0000000000000002) :
    Fr P W b_ (State.dropDue s x0) ↔ Fr P W b_ s := Fr.iff (p := 0x3c01fa120) (w := 0xa5c2c0000000000000002) (by
  clear hP hW
  have key : ∀ c_, Fr 0x3c01fa120 0xa5c2c0000000000000002 c_ (State.dropDue s x0) ↔ Fr 0x3c01fa120
      0xa5c2c0000000000000002 c_ s := by
    induction x0 generalizing s with
    | nil => intro c_; unfold State.dropDue; simp
    | cons y_ ys_ ih => intro c_; unfold State.dropDue; simp [ih]
  exact (key _).2 (by simp)) hP hW

@[simp] theorem fr_dropVis {P W : Nat} (b_ : State) (s : State) (x0 : List (Instant × Nat × W64))
    (hP : P &&& 0x340090000 = 0x340090000) (hW : W &&& 0x0 = 0x0) :
    Fr P W b_ (State.dropVis s x0) ↔ Fr P W b_ s := Fr.iff (p := 0x340090000) (w := 0x0) (by
  clear hP hW
  have key : ∀ c_, Fr 0x340090000 0x0 c_ (State.dropVis s x0) ↔ Fr 0x340090000 0x0 c_ s := by
    induction x0 generalizing s with
    | nil => intro c_; unfold State.dropVis; simp
    | cons y_ ys_ ih => intro c_; unfold State.dropVis; (repeat' split) <;> simp [ih]
  exact (key _).2 (by simp)) hP hW

@[simp] theorem fr_dropSets {P W : Nat} (b_ : State) (s : State) (x0 : List (List Nat))
    (hP : P &&& 0x340090000 = 0x340090000) (hW : W &&& 0x0 = 0x0) :
    Fr P W b_ (State.dropSets s x0) ↔ Fr P W b_ s := Fr.iff (p := 0x340090000) (w := 0x0) (by
  clear hP hW
  have key : ∀ c_, Fr 0x340090000 0x0 c_ (State.dropSets s x0) ↔ Fr 0x340090000 0x0 c_ s := by
    induction x0 generalizing s with
    | nil => intro c_; unfold State.dropSets; simp
    | cons y_ ys_ ih => intro c_; unfold State.dropSets; simp [ih]
  exact (key _).2 (by simp)) hP hW

@[simp] theorem fr_dropTasks {P W : Nat} (b_ : State) (s : State) (x0 : List Nat)
    (hP : P &&& 0x340090020 = 0x340090020) (hW : W &&& 0x80000000000000000 = 0x80000000000000000) :
    Fr P W b_ (State.dropTasks s x0) ↔ Fr P W b_ s := Fr.iff (p := 0x340090020) (w := 0x80000000000000000) (by
  clear hP hW
  have key : ∀ c_, Fr 0x340090020 0x80000000000000000 c_ (State.dropTasks s x0) ↔ Fr 0x340090020 0x80000000000000000 c_
      s := by
    induction x0 generalizing s with
    | nil => intro c_; unfold State.dropTasks; simp
    | cons y_ ys_ ih => intro c_; unfold State.dropTasks; simp [ih]
  exact (key _).2 (by simp)) hP hW

@[simp] theorem fr_dropPhases {P W : Nat} (b_ : State) (s : State)
    (hP : P &&& 0x3c05fa120 = 0x3c05fa120) (hW : W &&& 0xa5c2c0000000000000002 = 0xa5c2c0000000000000002) :
    Fr P W b_ (State.dropPhases s) ↔ Fr P W b_ s := Fr.iff (p := 0x3c05fa120) (w := 0xa5c2c0000000000000002) (by
  unfold State.dropPhases; simp) hP hW

@[simp] theorem fr_newPt {P W : Nat} (b_ : State) (s : State) (old : Instant)
    (hP : P &&& 0x234000 = 0x234000) (hW : W &&& 0x0 = 0x0) :
    Fr P W b_ (State.newPt s old) ↔ Fr P W b_ s := Fr.iff (p := 0x234000) (w := 0x0) (by
  unfold State.newPt; simp) hP hW

@[simp] theorem fr_reepoch {P W : Nat} (b_ : State) (s : State)
    (hP : P &&& 0x3c07fe120 = 0x3c07fe120) (hW : W &&& 0xa5c2c6800000000000002 = 0xa5c2c6800000000000002) :
    Fr P W b_ (State.reepoch s) ↔ Fr P W b_ s := Fr.iff (p := 0x3c07fe120) (w := 0xa5c2c6800000000000002) (by
  unfold State.reepoch; simp; (repeat' split) <;> simp) hP hW

theorem fr_execMtReepoch (w : Writer) (s : State) : FrO 0x3c07fe120 0xa5c2c6800000000000002 s (execMtReepoch w s) := by
  unfold execMtReepoch; (repeat' split) <;> simp

end Sys2Proof.Machine
end

