-- ==== Sys2Proof/Laws/FrameSinter.lean ====
section
/-! SUPPORT. What the functions of Machine/Sinter.lean may change: for each, as bit masks, the parts of the state and the registers. -/

namespace Sys2Proof.Machine

@[simp] theorem fr_snShow {P W : Nat} (b_ : State) (s : State)
    (hP : P &&& 0x120 = 0x120) (hW : W &&& 0x800000 = 0x800000) :
    Fr P W b_ (State.snShow s) ↔ Fr P W b_ s := Fr.iff (p := 0x120) (w := 0x800000) (by
  unfold State.snShow; simp) hP hW

@[simp] theorem fr_number {P W : Nat} (b_ : State) (s : State) (island : Nat) (code : BitVec 16) (p : Payload)
    (hP : P &&& 0x2120 = 0x2120) (hW : W &&& 0x800000 = 0x800000) :
    Fr P W b_ (State.number s island code p) ↔ Fr P W b_ s := Fr.iff (p := 0x2120) (w := 0x800000) (by
  unfold State.number; simp) hP hW

@[simp] theorem fr_snLose {P W : Nat} (b_ : State) (s : State) (code : BitVec 16)
    (hP : P &&& 0x2120 = 0x2120) (hW : W &&& 0x10000000 = 0x10000000) :
    Fr P W b_ (State.snLose s code) ↔ Fr P W b_ s := Fr.iff (p := 0x2120) (w := 0x10000000) (by
  unfold State.snLose; simp) hP hW

@[simp] theorem fr_suppress {P W : Nat} (b_ : State) (s : State) (code : BitVec 16)
    (hP : P &&& 0x2120 = 0x2120) (hW : W &&& 0x20000000 = 0x20000000) :
    Fr P W b_ (State.suppress s code) ↔ Fr P W b_ s := Fr.iff (p := 0x2120) (w := 0x20000000) (by
  clear hP hW; unfold State.suppress; (repeat' split) <;> (try simp) <;> (repeat' split) <;> simp_all) hP hW

@[simp] theorem fr_enqueue {P W : Nat} (b_ : State) (s : State) (island : Nat) (code : BitVec 16) (p : Payload)
    (hP : P &&& 0x2120 = 0x2120) (hW : W &&& 0x800000 = 0x800000) :
    Fr P W b_ (State.enqueue s island code p).1 ↔ Fr P W b_ s := Fr.iff (p := 0x2120) (w := 0x800000) (by
  unfold State.enqueue; simp) hP hW

@[simp] theorem fr_admitRec {P W : Nat} (b_ : State) (s : State) (r : RawRec)
    (hP : P &&& 0x2120 = 0x2120) (hW : W &&& 0x30800000 = 0x30800000) :
    Fr P W b_ (State.admitRec s r) ↔ Fr P W b_ s := Fr.iff (p := 0x2120) (w := 0x30800000) (by
  unfold State.admitRec; simp) hP hW

theorem fr_execSinterAdmit (s : State) : FrO 0x2120 0x30800000 s (execSinterAdmit s) := by
  unfold execSinterAdmit; simp; (repeat' split) <;> simp

@[simp] theorem fr_offerSupp {P W : Nat} (b_ : State) (s : State) (e : Supp)
    (hP : P &&& 0x2120 = 0x2120) (hW : W &&& 0x800000 = 0x800000) :
    Fr P W b_ (State.offerSupp s e).1 ↔ Fr P W b_ s := Fr.iff (p := 0x2120) (w := 0x800000) (by
  unfold State.offerSupp; simp) hP hW

@[simp] theorem fr_offerSupps {P W : Nat} (b_ : State) (pick : Supp → Bool) (s : State) (x0 : List Supp)
    (hP : P &&& 0x2120 = 0x2120) (hW : W &&& 0x800000 = 0x800000) :
    Fr P W b_ (State.offerSupps pick s x0).1 ↔ Fr P W b_ s := Fr.iff (p := 0x2120) (w := 0x800000) (by
  clear hP hW
  have key : ∀ c_, Fr 0x2120 0x800000 c_ (State.offerSupps pick s x0).1 ↔ Fr 0x2120 0x800000 c_ s := by
    induction x0 generalizing pick s with
    | nil => intro c_; unfold State.offerSupps; simp
    | cons y_ ys_ ih => intro c_; unfold State.offerSupps; (repeat' split) <;> simp [ih]
  exact (key _).2 (by simp)) hP hW

@[simp] theorem fr_offerAll {P W : Nat} (b_ : State) (s : State) (pick : Supp → Bool)
    (hP : P &&& 0x2120 = 0x2120) (hW : W &&& 0x800000 = 0x800000) :
    Fr P W b_ (State.offerAll s pick) ↔ Fr P W b_ s := Fr.iff (p := 0x2120) (w := 0x800000) (by
  unfold State.offerAll; simp; (repeat' split) <;> simp) hP hW

theorem fr_execSuppressionSummary (code : BitVec 16) (s : State) : FrO 0x2120 0x800000 s (execSuppressionSummary code
    s) := by
  unfold execSuppressionSummary; simp

theorem fr_execLossRecord (s : State) : FrO 0x2120 0x800000 s (execLossRecord s) := by
  unfold execLossRecord; simp

@[simp] theorem fr_setSeq {P W : Nat} (b_ s : State) (l h : RegName) (q : Nat) (hP : P &&& 0x20 = 0x20) (hL : W &&& rb
    l = rb l) (hH : W &&& rb h = rb h) :
    Fr P W b_ (s.setSeq l h q) ↔ Fr P W b_ s := fr_setPair b_ s l h 0 _ hP hL hH

@[simp] theorem fr_commitHead {P W : Nat} (b_ : State) (s : State) (r : BitVec 512) (rest : List (BitVec 512))
    (hP : P &&& 0x3120 = 0x3120) (hW : W &&& 0xf800000 = 0xf800000) :
    Fr P W b_ (State.commitHead s r rest) ↔ Fr P W b_ s := Fr.iff (p := 0x3120) (w := 0xf800000) (by
  unfold State.commitHead; simp) hP hW

theorem fr_execSinterCommit (s : State) : FrO 0x3120 0xf800000 s (execSinterCommit s) := by
  unfold execSinterCommit; (repeat' split) <;> simp

@[simp] theorem fr_commitAll {P W : Nat} (b_ : State) (x0 : Nat) (x1 : State)
    (hP : P &&& 0x3120 = 0x3120) (hW : W &&& 0xf800000 = 0xf800000) :
    Fr P W b_ (State.commitAll x0 x1) ↔ Fr P W b_ x1 := Fr.iff (p := 0x3120) (w := 0xf800000) (by
  clear hP hW
  have key : ∀ c_, Fr 0x3120 0xf800000 c_ (State.commitAll x0 x1) ↔ Fr 0x3120 0xf800000 c_ x1 := by
    induction x0 generalizing x1 with
    | zero => intro c_; unfold State.commitAll; simp
    | succ n_ ih => intro c_; unfold State.commitAll; (repeat' split) <;> simp [ih]
  exact (key _).2 (by simp)) hP hW

@[simp] theorem fr_admitAll {P W : Nat} (b_ : State) (s : State) (x0 : List RawRec)
    (hP : P &&& 0x2120 = 0x2120) (hW : W &&& 0x30800000 = 0x30800000) :
    Fr P W b_ (State.admitAll s x0) ↔ Fr P W b_ s := Fr.iff (p := 0x2120) (w := 0x30800000) (by
  clear hP hW
  have key : ∀ c_, Fr 0x2120 0x30800000 c_ (State.admitAll s x0) ↔ Fr 0x2120 0x30800000 c_ s := by
    induction x0 generalizing s with
    | nil => intro c_; unfold State.admitAll; simp
    | cons y_ ys_ ih => intro c_; unfold State.admitAll; simp [ih]
  exact (key _).2 (by simp)) hP hW

theorem fr_execSinterSearch (s : State) : FrO 0xa120 0x3f800000 s (execSinterSearch s) := by
  unfold execSinterSearch; simp

@[simp] theorem fr_setWindow {P W : Nat} (b_ : State) (s : State) (w : Nat) (rs : List (BitVec 512))
    (hP : P &&& 0x2000 = 0x2000) (hW : W &&& 0x0 = 0x0) :
    Fr P W b_ (State.setWindow s w rs) ↔ Fr P W b_ s := Fr.iff (p := 0x2000) (w := 0x0) (by
  unfold State.setWindow; simp) hP hW

@[simp] theorem fr_setWstat {P W : Nat} (b_ : State) (s : State) (w loaded bad code : Nat)
    (hP : P &&& 0x20 = 0x20) (hW : W &&& 0x100000000 = 0x100000000) :
    Fr P W b_ (State.setWstat s w loaded bad code) ↔ Fr P W b_ s := Fr.iff (p := 0x20) (w := 0x100000000) (by
  unfold State.setWstat; simp) hP hW

@[simp] theorem fr_loadWindow {P W : Nat} (b_ : State) (s : State) (w : Nat)
    (hP : P &&& 0x2020 = 0x2020) (hW : W &&& 0x100000000 = 0x100000000) :
    Fr P W b_ (State.loadWindow s w) ↔ Fr P W b_ s := Fr.iff (p := 0x2020) (w := 0x100000000) (by
  unfold State.loadWindow; simp) hP hW

@[simp] theorem fr_setCursor {P W : Nat} (b_ : State) (s : State) (w q : Nat)
    (hP : P &&& 0x20 = 0x20) (hW : W &&& 0xc0000000 = 0xc0000000) :
    Fr P W b_ (s.setCursor w q) ↔ Fr P W b_ s := Fr.iff (p := 0x20) (w := 0xc0000000) (by
  clear hP hW; unfold State.setCursor; simp) hP hW

theorem fr_execSnCursorSet (w : Writer) (hi : Word) (s : State) : FrO 0x2020 0x1c0000000 s (execSnCursorSet w hi s) := by
  unfold execSnCursorSet; simp

@[simp] theorem fr_advanceWindow {P W : Nat} (b_ : State) (s : State) (w : Nat)
    (hP : P &&& 0x2020 = 0x2020) (hW : W &&& 0x1c0000000 = 0x1c0000000) :
    Fr P W b_ (State.advanceWindow s w) ↔ Fr P W b_ s := Fr.iff (p := 0x2020) (w := 0x1c0000000) (by
  unfold State.advanceWindow; simp) hP hW

theorem fr_execSnWindowAdvance (w : Writer) (s : State) : FrO 0x2024 0x1c0000000 s (execSnWindowAdvance w s) := by
  unfold execSnWindowAdvance; simp

end Sys2Proof.Machine
end

