-- ==== Sys2Proof/Laws/FrameService.lean ====
section
/-! SUPPORT. What the functions of Machine/Service.lean may change: for each, as bit masks, the parts of the state and the registers. -/

namespace Sys2Proof.Machine

@[simp] theorem fr_heard {P W : Nat} (b_ : State) (s : State) (k : Nat)
    (hP : P &&& 0x800000 = 0x800000) (hW : W &&& 0x0 = 0x0) :
    Fr P W b_ (State.heard s k) ↔ Fr P W b_ s := Fr.iff (p := 0x800000) (w := 0x0) (by
  unfold State.heard; simp) hP hW

@[simp] theorem fr_setSess {P W : Nat} (b_ : State) (s : State) (k : Nat) (x : Session)
    (hP : P &&& 0x800020 = 0x800020) (hW : W &&& 0x1000000000000000000000000000 = 0x1000000000000000000000000000) :
    Fr P W b_ (State.setSess s k x) ↔ Fr P W b_ s := Fr.iff (p := 0x800020) (w := 0x1000000000000000000000000000) (by
  unfold State.setSess; simp) hP hW

@[simp] theorem fr_closeSessions {P W : Nat} (b_ : State) (s : State)
    (hP : P &&& 0x800020 = 0x800020) (hW : W &&& 0x1000000000000000000000000000 = 0x1000000000000000000000000000) :
    Fr P W b_ (State.closeSessions s) ↔ Fr P W b_ s := Fr.iff (p := 0x800020) (w := 0x1000000000000000000000000000) (by
  unfold State.closeSessions; simp) hP hW

theorem fr_execSvcConnect (t : Handshake) (s : State) : FrO 0x800120 0x1000000000000000000000000000 s (execSvcConnect t
    s) := by
  unfold execSvcConnect; simp; (repeat' split) <;> simp

@[simp] theorem fr_closeSess {P W : Nat} (b_ : State) (s : State) (k : Nat)
    (hP : P &&& 0x800120 = 0x800120) (hW : W &&& 0x1000000000000000000000000000 = 0x1000000000000000000000000000) :
    Fr P W b_ (State.closeSess s k) ↔ Fr P W b_ s := Fr.iff (p := 0x800120) (w := 0x1000000000000000000000000000) (by
  unfold State.closeSess; simp) hP hW

theorem fr_execSvcIdleClose (k : Fin 4) (s : State) : FrO 0x800120 0x1000000000000000000000000000 s (execSvcIdleClose k
    s) := by
  unfold execSvcIdleClose; simp

theorem fr_execSvcDisconnect (k : Fin 4) (s : State) : FrO 0x800120 0x1000000000000000000000000000 s (execSvcDisconnect
    k s) := by
  unfold execSvcDisconnect; simp

@[simp] theorem fr_answer {P W : Nat} (b_ : State) (s : State) (h : SvcMsg) (type code : Nat) (body : List Byte := [])
    (hP : P &&& 0x800022 = 0x800022) (hW : W &&& 0x100000000000000000000000000 = 0x100000000000000000000000000) :
    Fr P W b_ (State.answer s h type code body) ↔ Fr P W b_ s := Fr.iff (p := 0x800022) (w :=
        0x100000000000000000000000000) (by
  unfold State.answer; simp) hP hW

@[simp] theorem fr_svc {P W : Nat} (b_ : State) (s : State) (h : SvcMsg) (type least sub : Nat) (len : Option Nat) (f :
    State → State) (hf : ∀ u, Fr P W u (f u))
    (hP : P &&& 0x800022 = 0x800022) (hW : W &&& 0x100000000000000000000000000 = 0x100000000000000000000000000) :
    Fr P W b_ (s.svc h type least sub len f) ↔ Fr P W b_ s := Fr.iff (p := P) (w := W) (by
  unfold State.svc
  have hh : Fr P W s (s.heard h.sess.val) := (fr_heard _ _ _ (land_trans hP rfl) (land_trans hW rfl)).2 (by simp)
  split
  · simp
  · split
    · exact (fr_answer _ _ _ _ _ _ (land_trans hP rfl) (land_trans hW rfl)).2 hh
    · exact (Fr.iff (hf _) (Nat.and_self P) (Nat.and_self W)).2 hh) (Nat.and_self P) (Nat.and_self W)

theorem fr_execSvcUnknownType (h : SvcMsg) (type : BitVec 16) (s : State) : FrO 0x800022 0x100000000000000000000000000
    s (execSvcUnknownType h type s) := by
  unfold execSvcUnknownType; simp

theorem fr_execArpRequest (via : Option (Fin 2)) (addr : Nat) (s : State) : FrO 0x800022 0x100000000000000000000000000
    s (execArpRequest via addr s) := by
  unfold execArpRequest; simp

theorem fr_execNeighbourSolicitation (via : Option (Fin 2)) (addr : Nat) (s : State) : FrO 0x800022
    0x100000000000000000000000000 s (execNeighbourSolicitation via addr s) := by
  unfold execNeighbourSolicitation; simp

theorem fr_execIcmpEcho (via : Option (Fin 2)) (addr id : Nat) (s : State) : FrO 0x800022 0x100000000000000000000000000
    s (execIcmpEcho via addr id s) := by
  unfold execIcmpEcho; simp

theorem fr_execForcePoint (h : SvcMsg) (p : Nat) (v : Word) (s : State) : FrO 0x740890022 0x100000000000000000000000000
    s (execForcePoint h p v s) := by
  unfold execForcePoint; simp

theorem fr_execForceRelease (h : SvcMsg) (p : Nat) (s : State) : FrO 0x400800022 0x100000000000000000000000000 s
    (execForceRelease h p s) := by
  unfold execForceRelease; simp

theorem fr_execReepochOrder (h : SvcMsg) (s : State) : FrO 0x3c0ffe122 0x100000a5c2c6800000000000002 s
    (execReepochOrder h s) := by
  unfold execReepochOrder; simp

end Sys2Proof.Machine
end

