-- ==== Sys2Proof/Laws/FrameMailbox.lean ====
section
/-! SUPPORT. What the functions of Machine/Mailbox.lean may change: for each, as bit masks, the parts of the state and the registers. -/

namespace Sys2Proof.Machine

@[simp] theorem fr_mbPend {P W : Nat} (b_ : State) (s : State) (n : Nat)
    (hP : P &&& 0x2000020 = 0x2000020) (hW : W &&& 0x200000000 = 0x200000000) :
    Fr P W b_ (State.mbPend s n) ↔ Fr P W b_ s := Fr.iff (p := 0x2000020) (w := 0x200000000) (by
  clear hP hW; unfold State.mbPend; (repeat' split) <;> (try simp) <;> (repeat' split) <;> simp_all) hP hW

@[simp] theorem fr_mbEmpty {P W : Nat} (b_ : State) (s : State) (n : Nat)
    (hP : P &&& 0x20 = 0x20) (hW : W &&& 0x200000000 = 0x200000000) :
    Fr P W b_ (State.mbEmpty s n) ↔ Fr P W b_ s := Fr.iff (p := 0x20) (w := 0x200000000) (by
  unfold State.mbEmpty; simp) hP hW

@[simp] theorem fr_mbSend {P W : Nat} (b_ : State) (s : State) (n : Nat)
    (hP : P &&& 0x22 = 0x22) (hW : W &&& 0x200000000 = 0x200000000) :
    Fr P W b_ (State.mbSend s n) ↔ Fr P W b_ s := Fr.iff (p := 0x22) (w := 0x200000000) (by
  unfold State.mbSend; simp) hP hW

@[simp] theorem fr_mbDoRing {P W : Nat} (b_ : State) (s : State) (n : Nat)
    (hP : P &&& 0x2000122 = 0x2000122) (hW : W &&& 0xa00000000 = 0xa00000000) :
    Fr P W b_ (State.mbDoRing s n) ↔ Fr P W b_ s := Fr.iff (p := 0x2000122) (w := 0xa00000000) (by
  unfold State.mbDoRing; simp; (repeat' split) <;> simp) hP hW

@[simp] theorem fr_mbDoCancel {P W : Nat} (b_ : State) (s : State) (n : Nat)
    (hP : P &&& 0x20 = 0x20) (hW : W &&& 0x200000000 = 0x200000000) :
    Fr P W b_ (State.mbDoCancel s n) ↔ Fr P W b_ s := Fr.iff (p := 0x20) (w := 0x200000000) (by
  unfold State.mbDoCancel; simp) hP hW

@[simp] theorem fr_mbDoAck {P W : Nat} (b_ : State) (s : State) (n code : Nat) (collided : Bool)
    (hP : P &&& 0x120 = 0x120) (hW : W &&& 0xa00000000 = 0xa00000000) :
    Fr P W b_ (State.mbDoAck s n code collided) ↔ Fr P W b_ s := Fr.iff (p := 0x120) (w := 0xa00000000) (by
  unfold State.mbDoAck; simp) hP hW

@[simp] theorem fr_mbDoAckRead {P W : Nat} (b_ : State) (s : State) (n : Nat)
    (hP : P &&& 0x20 = 0x20) (hW : W &&& 0xa00000000 = 0xa00000000) :
    Fr P W b_ (State.mbDoAckRead s n) ↔ Fr P W b_ s := Fr.iff (p := 0x20) (w := 0xa00000000) (by
  unfold State.mbDoAckRead; simp) hP hW

theorem fr_execMbRing (n : Fin 32) (p : Party) (s : State) : FrO 0x2000122 0xa00000000 s (execMbRing n p s) := by
  unfold execMbRing; (repeat' split) <;> simp

theorem fr_execMbCancel (n : Fin 32) (p : Party) (s : State) : FrO 0x20 0x200000000 s (execMbCancel n p s) := by
  unfold execMbCancel; (repeat' split) <;> simp

theorem fr_execMbAckWrite (n : Fin 32) (p : Party) (code : BitVec 16) (s : State) : FrO 0x122 0xa00000000 s
    (execMbAckWrite n p code s) := by
  unfold execMbAckWrite; simp; (repeat' split) <;> simp

theorem fr_execMbAckRead (n : Fin 32) (p : Party) (s : State) : FrO 0x24 0xa00000000 s (execMbAckRead n p s) := by
  unfold execMbAckRead; simp; (repeat' split) <;> simp

@[simp] theorem fr_mbWrite {P W : Nat} (b_ : State) (s : State) (n off : Nat) (bs : List Byte)
    (hP : P &&& 0x2000020 = 0x2000020) (hW : W &&& 0x200000000 = 0x200000000) :
    Fr P W b_ (State.mbWrite s n off bs) ↔ Fr P W b_ s := Fr.iff (p := 0x2000020) (w := 0x200000000) (by
  unfold State.mbWrite; simp) hP hW

theorem fr_execMbMessageWrite (n : Fin 32) (p : Party) (off : Nat) (bs : List Byte) (s : State) : FrO 0x2000020
    0x200000000 s (execMbMessageWrite n p off bs s) := by
  unfold execMbMessageWrite; (repeat' split) <;> simp

theorem fr_execMbLinkDeliver (k : Fin 4) (m : List Byte) (s : State) : FrO 0x2000122 0xa00000000 s (execMbLinkDeliver k
    m s) := by
  unfold execMbLinkDeliver; simp

theorem fr_execMbLinkAck (k : Fin 4) (code : BitVec 16) (collided : Bool) (s : State) : FrO 0x120 0xa00000000 s
    (execMbLinkAck k code collided s) := by
  unfold execMbLinkAck; simp

@[simp] theorem fr_mbRetry {P W : Nat} (b_ : State) (s : State)
    (hP : P &&& 0x22 = 0x22) (hW : W &&& 0x200000000 = 0x200000000) :
    Fr P W b_ (State.mbRetry s) ↔ Fr P W b_ s := Fr.iff (p := 0x22) (w := 0x200000000) (by
  unfold State.mbRetry; simp) hP hW

@[simp] theorem fr_mbPartnerRestart {P W : Nat} (b_ : State) (s : State)
    (hP : P &&& 0x22 = 0x22) (hW : W &&& 0x200000000 = 0x200000000) :
    Fr P W b_ (State.mbPartnerRestart s) ↔ Fr P W b_ s := Fr.iff (p := 0x22) (w := 0x200000000) (by
  unfold State.mbPartnerRestart; simp) hP hW

@[simp] theorem fr_svcMb {P W : Nat} (b_ : State) (s : State) (h : SvcMsg) (n len : Nat) (f a : State → State) (hf : ∀
    u, Fr P W u (f u)) (ha : ∀ u, Fr P W u (a u))
    (hP : P &&& 0x800022 = 0x800022) (hW : W &&& 0x100000000000000000000000000 = 0x100000000000000000000000000) :
    Fr P W b_ (s.svcMb h n len f a) ↔ Fr P W b_ s := Fr.iff (p := P) (w := W) (by
  unfold State.svcMb
  refine (fr_svc s s h _ _ _ _ _ (fun u => ?_) (land_trans hP rfl) (land_trans hW rfl)).2 (by simp)
  split
  · exact (fr_answer _ _ _ _ _ _ (land_trans hP rfl) (land_trans hW rfl)).2 (by simp)
  · exact (Fr.iff (ha _) (Nat.and_self P) (Nat.and_self W)).2 ((fr_answer _ _ _ _ _ _ (land_trans hP rfl) (land_trans
      hW rfl)).2 (hf u))) (Nat.and_self P) (Nat.and_self W)

theorem fr_execSvcMbPost (h : SvcMsg) (n : Nat) (m : List Byte) (s : State) : FrO 0x2800122
    0x100000000000000000a00000000 s (execSvcMbPost h n m s) := by
  unfold execSvcMbPost; simp

theorem fr_execSvcMbStatus (h : SvcMsg) (n : Nat) (s : State) : FrO 0x800022 0x100000000000000000a00000000 s
    (execSvcMbStatus h n s) := by
  unfold execSvcMbStatus; simp

theorem fr_execSvcMbCancel (h : SvcMsg) (n : Nat) (s : State) : FrO 0x800022 0x100000000000000000200000000 s
    (execSvcMbCancel h n s) := by
  unfold execSvcMbCancel; simp

@[simp] theorem fr_sumMade {P W : Nat} (b_ : State) (s : State)
    (hP : P &&& 0x2000000 = 0x2000000) (hW : W &&& 0x0 = 0x0) :
    Fr P W b_ (State.sumMade s) ↔ Fr P W b_ s := Fr.iff (p := 0x2000000) (w := 0x0) (by
  unfold State.sumMade; simp) hP hW

theorem fr_execSvcFullSummary (h : SvcMsg) (s : State) : FrO 0x2800022 0x100000000000000000000000000 s
    (execSvcFullSummary h s) := by
  unfold execSvcFullSummary; simp

theorem fr_execFullSummaryRequest (s : State) : FrO 0x2000120 0xa00000000 s (execFullSummaryRequest s) := by
  unfold execFullSummaryRequest; simp

end Sys2Proof.Machine
end

