-- ==== Sys2Proof/Laws/FrameAdapt.lean ====
section
/-! SUPPORT. What the functions of Machine/Adapt.lean may change: for each, as bit masks, the parts of the state and the registers. -/

namespace Sys2Proof.Machine

@[simp] theorem fr_laSwitch {P W : Nat} (b_ : State) (s : State) (l set : Nat)
    (hP : P &&& 0x60020 = 0x60020) (hW : W &&& 0x3000000000000000000 = 0x3000000000000000000) :
    Fr P W b_ (State.laSwitch s l set) ↔ Fr P W b_ s := Fr.iff (p := 0x60020) (w := 0x3000000000000000000) (by
  unfold State.laSwitch; simp) hP hW

@[simp] theorem fr_putAlts {P W : Nat} (b_ : State) (s : State) (b : Nat) (d : BitVec 512) (alts : List Sec)
    (hP : P &&& 0x100080000 = 0x100080000) (hW : W &&& 0x0 = 0x0) :
    Fr P W b_ (State.putAlts s b d alts) ↔ Fr P W b_ s := Fr.iff (p := 0x100080000) (w := 0x0) (by
  unfold State.putAlts; simp) hP hW

@[simp] theorem fr_install {P W : Nat} (b_ : State) (s : State) (l set : Nat) (a : AdaptCfg) (p : F32 × F32 × F32)
    (hP : P &&& 0x62120 = 0x62120) (hW : W &&& 0x803000000000000000000 = 0x803000000000000000000) :
    Fr P W b_ (State.install s l set a p) ↔ Fr P W b_ s := Fr.iff (p := 0x62120) (w := 0x803000000000000000000) (by
  unfold State.install; simp) hP hW

theorem fr_execSetStage (l : Nat) (s : State) : FrO 0x1000e2120 0x803000000000000000000 s (execSetStage l s) := by
  unfold execSetStage; simp; (repeat' split) <;> simp

theorem fr_execTestStart (l : Nat) (relay ordered : Bool) (s : State) : FrO 0x42130 0x40000000000000000000 s
    (execTestStart l relay ordered s) := by
  unfold execTestStart; simp; (repeat' split) <;> simp

theorem fr_execTestAbort (k : Fin 16) (s : State) : FrO 0x42120 0xa40000000000000000000 s (execTestAbort k s) := by
  unfold execTestAbort; simp

theorem fr_execTestComplete (k : Fin 16) (m : TestModel) (s : State) : FrO 0x42120 0x240000000000000000000 s
    (execTestComplete k m s) := by
  unfold execTestComplete; simp; (repeat' split) <;> simp

@[simp] theorem fr_revert {P W : Nat} (b_ : State) (s : State) (l reason : Nat) (a : AdaptCfg)
    (hP : P &&& 0x62120 = 0x62120) (hW : W &&& 0x803000000000000000000 = 0x803000000000000000000) :
    Fr P W b_ (State.revert s l reason a) ↔ Fr P W b_ s := Fr.iff (p := 0x62120) (w := 0x803000000000000000000) (by
  unfold State.revert; simp) hP hW

theorem fr_execProbationRevert (l : Nat) (s : State) : FrO 0x62120 0x803000000000000000000 s (execProbationRevert l s) := by
  unfold execProbationRevert; simp; (repeat' split) <;> simp

@[simp] theorem fr_pass {P W : Nat} (b_ : State) (s : State) (l : Nat)
    (hP : P &&& 0x42100 = 0x42100) (hW : W &&& 0x0 = 0x0) :
    Fr P W b_ (State.pass s l) ↔ Fr P W b_ s := Fr.iff (p := 0x42100) (w := 0x0) (by
  unfold State.pass; simp) hP hW

theorem fr_execProbationEnd (l : Nat) (s : State) : FrO 0x62120 0x803000000000000000000 s (execProbationEnd l s) := by
  unfold execProbationEnd
  dsimp only
  split
  · split
    · split
      · simp
      · exact (fr_execProbationRevert l s).mono rfl rfl
    · simp
  · simp

theorem fr_execLockoutEnd (l : Nat) (s : State) : FrO 0x40000 0x0 s (execLockoutEnd l s) := by
  unfold execLockoutEnd; simp

@[simp] theorem fr_saveAdapt {P W : Nat} (b_ : State) (s : State)
    (hP : P &&& 0x41000 = 0x41000) (hW : W &&& 0x0 = 0x0) :
    Fr P W b_ (State.saveAdapt s) ↔ Fr P W b_ s := Fr.iff (p := 0x41000) (w := 0x0) (by
  unfold State.saveAdapt; simp) hP hW

@[simp] theorem fr_discardSet {P W : Nat} (b_ : State) (s : State) (l : Nat) (k : KeptAdapt)
    (hP : P &&& 0x42100 = 0x42100) (hW : W &&& 0x0 = 0x0) :
    Fr P W b_ (State.discardSet s l k) ↔ Fr P W b_ s := Fr.iff (p := 0x42100) (w := 0x0) (by
  unfold State.discardSet; simp; (repeat' split) <;> simp) hP hW

@[simp] theorem fr_restoreSet {P W : Nat} (b_ : State) (s : State) (l : Nat) (a : AdaptCfg) (k : KeptAdapt)
    (hP : P &&& 0x1000e2100 = 0x1000e2100) (hW : W &&& 0x0 = 0x0) :
    Fr P W b_ (State.restoreSet s l a k) ↔ Fr P W b_ s := Fr.iff (p := 0x1000e2100) (w := 0x0) (by
  unfold State.restoreSet; simp; (repeat' split) <;> simp) hP hW

@[simp] theorem fr_restoreLoop {P W : Nat} (b_ : State) (s : State) (l : Nat) (k : KeptAdapt)
    (hP : P &&& 0x1000e2100 = 0x1000e2100) (hW : W &&& 0x0 = 0x0) :
    Fr P W b_ (State.restoreLoop s l k) ↔ Fr P W b_ s := Fr.iff (p := 0x1000e2100) (w := 0x0) (by
  unfold State.restoreLoop; simp; (repeat' split) <;> simp) hP hW

@[simp] theorem fr_restoreAdapt {P W : Nat} (b_ : State) (s : State)
    (hP : P &&& 0x1000e2100 = 0x1000e2100) (hW : W &&& 0x0 = 0x0) :
    Fr P W b_ (State.restoreAdapt s) ↔ Fr P W b_ s := Fr.iff (p := 0x1000e2100) (w := 0x0) (by
  unfold State.restoreAdapt; simp) hP hW

@[simp] theorem fr_setSurge {P W : Nat} (b_ : State) (s : State) (g st : Nat)
    (hP : P &&& 0x120 = 0x120) (hW : W &&& 0x440000000000000000000 = 0x440000000000000000000) :
    Fr P W b_ (State.setSurge s g st) ↔ Fr P W b_ s := Fr.iff (p := 0x120) (w := 0x440000000000000000000) (by
  unfold State.setSurge; simp) hP hW

@[simp] theorem fr_surgeNote {P W : Nat} (b_ : State) (s : State) (code : Nat) (c : SurgeCfg) (l reason : Nat) (setTo :
    Nat := 0)
    (hP : P &&& 0x2100 = 0x2100) (hW : W &&& 0x0 = 0x0) :
    Fr P W b_ (State.surgeNote s code c l reason setTo) ↔ Fr P W b_ s := Fr.iff (p := 0x2100) (w := 0x0) (by
  unfold State.surgeNote; simp) hP hW

@[simp] theorem fr_dropStaged {P W : Nat} (b_ : State) (s : State) (l : Nat)
    (hP : P &&& 0x40000 = 0x40000) (hW : W &&& 0x0 = 0x0) :
    Fr P W b_ (State.dropStaged s l) ↔ Fr P W b_ s := Fr.iff (p := 0x40000) (w := 0x0) (by
  unfold State.dropStaged; simp) hP hW

@[simp] theorem fr_defend {P W : Nat} (b_ : State) (s : State) (c : SurgeCfg) (m : Nat × Nat)
    (hP : P &&& 0x62120 = 0x62120) (hW : W &&& 0x3000000000000000000 = 0x3000000000000000000) :
    Fr P W b_ (State.defend s c m) ↔ Fr P W b_ s := Fr.iff (p := 0x62120) (w := 0x3000000000000000000) (by
  unfold State.defend; (repeat' split) <;> simp) hP hW

@[simp] theorem fr_defence {P W : Nat} (b_ : State) (s : State) (c : SurgeCfg)
    (hP : P &&& 0x62120 = 0x62120) (hW : W &&& 0xe43000000000000000000 = 0xe43000000000000000000) :
    Fr P W b_ (State.defence s c) ↔ Fr P W b_ s := Fr.iff (p := 0x62120) (w := 0xe43000000000000000000) (by
  unfold State.defence; simp) hP hW

@[simp] theorem fr_precursor {P W : Nat} (b_ : State) (s : State) (c : SurgeCfg)
    (hP : P &&& 0x42120 = 0x42120) (hW : W &&& 0xa40000000000000000000 = 0xa40000000000000000000) :
    Fr P W b_ (s.precursor c) ↔ Fr P W b_ s := Fr.iff (p := 0x42120) (w := 0xa40000000000000000000) (by
  clear hP hW; unfold State.precursor; exact (fr_foldl _ (fun u x => by (try dsimp only); split <;> simp) _ _ _).2 (by
      simp)) hP hW

theorem fr_execSurgeIntervalClose (g : Fin 32) (s : State) : FrO 0x62120 0xe43000000000000000000 s
    (execSurgeIntervalClose g s) := by
  unfold execSurgeIntervalClose; simp; (repeat' split) <;> simp

@[simp] theorem fr_undefend {P W : Nat} (b_ : State) (s : State) (c : SurgeCfg) (m : Nat × Nat)
    (hP : P &&& 0x62120 = 0x62120) (hW : W &&& 0x3000000000000000000 = 0x3000000000000000000) :
    Fr P W b_ (State.undefend s c m) ↔ Fr P W b_ s := Fr.iff (p := 0x62120) (w := 0x3000000000000000000) (by
  unfold State.undefend; simp) hP hW

theorem fr_execSurgeRelease (g : Fin 32) (s : State) : FrO 0x62120 0x443000000000000000000 s (execSurgeRelease g s) := by
  unfold execSurgeRelease; simp; (repeat' split) <;> simp

@[simp] theorem fr_forbid {P W : Nat} (b_ : State) (s : State) (l : Nat) (ident install surge b : Bool)
    (hP : P &&& 0x42100 = 0x42100) (hW : W &&& 0x0 = 0x0) :
    Fr P W b_ (State.forbid s l ident install surge b) ↔ Fr P W b_ s := Fr.iff (p := 0x42100) (w := 0x0) (by
  unfold State.forbid; simp) hP hW

theorem fr_execAdaptForbid (h : SvcMsg) (l : Nat) (i n z : Bool) (s : State) : FrO 0x842122
    0x100000a40000000000000000000 s (execAdaptForbid h l i n z s) := by
  unfold execAdaptForbid
  refine (frO_next ..).2 ((fr_svc _ _ _ _ _ _ _ _ (fun u => ?_) rfl rfl).2 (by simp))
  split
  · simp
  · dsimp only
    split <;> simp

theorem fr_execAdaptLift (h : SvcMsg) (l : Nat) (ident install surge : Bool) (s : State) : FrO 0x842122
    0x100000000000000000000000000 s (execAdaptLift h l ident install surge s) := by
  unfold execAdaptLift; simp

end Sys2Proof.Machine
end

