-- ==== Sys2Proof/Laws/FrameEqualize.lean ====
section
/-! SUPPORT. What the functions of Machine/Equalize.lean may change: for each, as bit masks, the parts of the state and the registers. -/

namespace Sys2Proof.Machine

theorem fr_sendRecs {P W : Nat} (b_ : State) (s : State) (room : Nat × Nat) (rs : List BlockRec) (sent crc : Nat)
    (hP : P &&& 0x2 = 0x2) : Fr P W b_ (s.sendRecs room rs sent crc).s ↔ Fr P W b_ s := by
  induction rs generalizing s room sent crc with
  | nil => unfold State.sendRecs; exact Iff.rfl
  | cons r rs ih =>
    unfold State.sendRecs
    split
    · rw [ih]; simp [hP]
    · exact Iff.rfl

@[simp] theorem fr_sendXfer {P W : Nat} (b_ : State) (s : State) (x : Xfer)
    (hP : P &&& 0x80022 = 0x80022) (hW : W &&& 0x1000000000000000000000000 = 0x1000000000000000000000000) :
    Fr P W b_ (s.sendXfer x) ↔ Fr P W b_ s := Fr.iff (p := 0x80022) (w := 0x1000000000000000000000000) (by
  clear hP hW; unfold State.sendXfer
  dsimp only
  split <;> simp [fr_sendRecs]) hP hW

@[simp] theorem fr_freeze {P W : Nat} (b_ : State) (s : State) (b : Instant)
    (hP : P &&& 0x3c00fa132 = 0x3c00fa132) (hW : W &&& 0x1000a5c2c0000000000000002 = 0x1000a5c2c0000000000000002) :
    Fr P W b_ (State.freeze s b) ↔ Fr P W b_ s := Fr.iff (p := 0x3c00fa132) (w := 0x1000a5c2c0000000000000002) (by
  unfold State.freeze; simp) hP hW

@[simp] theorem fr_sendSamples {P W : Nat} (b_ : State) (s : State)
    (hP : P &&& 0x100002 = 0x100002) (hW : W &&& 0x0 = 0x0) :
    Fr P W b_ (State.sendSamples s) ↔ Fr P W b_ s := Fr.iff (p := 0x100002) (w := 0x0) (by
  unfold State.sendSamples; simp) hP hW

theorem fr_execSnapshotFreeze (s : State) : FrO 0x3c01fa132 0x1000a5c2c0000000000000002 s (execSnapshotFreeze s) := by
  unfold execSnapshotFreeze; simp; (repeat' split) <;> simp

theorem fr_execVerifyCrcSend (s : State) : FrO 0x80002 0x0 s (execVerifyCrcSend s) := by
  unfold execVerifyCrcSend; simp

theorem fr_execBlockRecordReceived (hdr : BitVec 128) (words : List W64) (s : State) : FrO 0x80000 0x0 s
    (execBlockRecordReceived hdr words s) := by
  unfold execBlockRecordReceived; simp

@[simp] theorem fr_differs {P W : Nat} (b_ : State) (s : State) (b : Nat)
    (hP : P &&& 0x100fa520 = 0x100fa520) (hW : W &&& 0x2300a50440000000000000002 = 0x2300a50440000000000000002) :
    Fr P W b_ (State.differs s b) ↔ Fr P W b_ s := Fr.iff (p := 0x100fa520) (w := 0x2300a50440000000000000002) (by
  clear hP hW; unfold State.differs; (repeat' split) <;> (try simp) <;> (repeat' split) <;> simp_all) hP hW

@[simp] theorem fr_applyWords {P W : Nat} (b_ : State) (s : State) (b : Nat) (is : List Nat) (ws : List W64)
    (hP : P &&& 0x340000000 = 0x340000000) (hW : W &&& 0x0 = 0x0) :
    Fr P W b_ (s.applyWords b is ws) ↔ Fr P W b_ s := Fr.iff (p := 0x340000000) (w := 0x0) (by
  clear hP hW; 
  have key : ∀ c_, Fr 0x340000000 0x0 c_ (s.applyWords b is ws) ↔ Fr 0x340000000 0x0 c_ s := by
    induction is generalizing s ws with
    | nil => intro c_; unfold State.applyWords; simp
    | cons i is ih =>
      intro c_
      cases ws with
      | nil => simp [State.applyWords]
      | cons w ws => unfold State.applyWords; dsimp only; rw [ih, fr_foldl _ (fun u x => by simp)]
  exact (key _).2 (by simp)) hP hW

@[simp] theorem fr_applyRec {P W : Nat} (b_ : State) (s : State) (r : BlockRec)
    (hP : P &&& 0x3500fa520 = 0x3500fa520) (hW : W &&& 0x2300a50440000000000000002 = 0x2300a50440000000000000002) :
    Fr P W b_ (State.applyRec s r) ↔ Fr P W b_ s := Fr.iff (p := 0x3500fa520) (w := 0x2300a50440000000000000002) (by
  unfold State.applyRec; simp) hP hW

@[simp] theorem fr_takeAdapt {P W : Nat} (b_ : State) (s : State) (l : Nat) (x : AdaptItem)
    (hP : P &&& 0x40000 = 0x40000) (hW : W &&& 0x0 = 0x0) :
    Fr P W b_ (State.takeAdapt s l x) ↔ Fr P W b_ s := Fr.iff (p := 0x40000) (w := 0x0) (by
  unfold State.takeAdapt; simp) hP hW

@[simp] theorem fr_takeItems {P W : Nat} (b_ : State) (s : State) (b : Instant) (x : SnapItems)
    (hP : P &&& 0x70020 = 0x70020) (hW : W &&& 0x440000000000000000000 = 0x440000000000000000000) :
    Fr P W b_ (State.takeItems s b x) ↔ Fr P W b_ s := Fr.iff (p := 0x70020) (w := 0x440000000000000000000) (by
  unfold State.takeItems; simp) hP hW

@[simp] theorem fr_showLag {P W : Nat} (b_ : State) (s : State)
    (hP : P &&& 0x80020 = 0x80020) (hW : W &&& 0x100000000000000000000000 = 0x100000000000000000000000) :
    Fr P W b_ (State.showLag s) ↔ Fr P W b_ s := Fr.iff (p := 0x80020) (w := 0x100000000000000000000000) (by
  unfold State.showLag; simp) hP hW

@[simp] theorem fr_commitSnap {P W : Nat} (b_ : State) (s : State) (num : Nat) (b : Instant) (items : SnapItems)
    (hP : P &&& 0x3500fa520 = 0x3500fa520) (hW : W &&& 0x2300e50440000000000000002 = 0x2300e50440000000000000002) :
    Fr P W b_ (State.commitSnap s num b items) ↔ Fr P W b_ s := Fr.iff (p := 0x3500fa520) (w :=
        0x2300e50440000000000000002) (by
  unfold State.commitSnap; simp) hP hW

theorem fr_execSnapshotCommit (snap : Nat) (b : Instant) (bytes : Nat) (crc : Word) (items : SnapItems) (s : State) :
    FrO 0x3500fa520 0x2300e50440000000000000002 s (execSnapshotCommit snap b bytes crc items s) := by
  unfold execSnapshotCommit; simp

@[simp] theorem fr_verifyBlocks {P W : Nat} (b_ : State) (s : State) (b : Nat) (x0 : List Word)
    (hP : P &&& 0x100fa520 = 0x100fa520) (hW : W &&& 0x2300a50440000000000000002 = 0x2300a50440000000000000002) :
    Fr P W b_ (State.verifyBlocks s b x0).1 ↔ Fr P W b_ s := Fr.iff (p := 0x100fa520) (w := 0x2300a50440000000000000002) (by
  clear hP hW
  have key : ∀ c_, Fr 0x100fa520 0x2300a50440000000000000002 c_ (State.verifyBlocks s b x0).1 ↔ Fr 0x100fa520
      0x2300a50440000000000000002 c_ s := by
    induction x0 generalizing s b with
    | nil => intro c_; unfold State.verifyBlocks; simp
    | cons y_ ys_ ih => intro c_; unfold State.verifyBlocks; (repeat' split) <;> simp [ih]
  exact (key _).2 (by simp)) hP hW

@[simp] theorem fr_recopy {P W : Nat} (b_ : State) (s : State) (b : Nat)
    (hP : P &&& 0x82020 = 0x82020) (hW : W &&& 0x2 = 0x2) :
    Fr P W b_ (State.recopy s b) ↔ Fr P W b_ s := Fr.iff (p := 0x82020) (w := 0x2) (by
  unfold State.recopy; simp) hP hW

@[simp] theorem fr_reported {P W : Nat} (b_ : State) (s : State) (b : Nat) (x0 : List Word)
    (hP : P &&& 0x82020 = 0x82020) (hW : W &&& 0x2 = 0x2) :
    Fr P W b_ (State.reported s b x0) ↔ Fr P W b_ s := Fr.iff (p := 0x82020) (w := 0x2) (by
  clear hP hW
  have key : ∀ c_, Fr 0x82020 0x2 c_ (State.reported s b x0) ↔ Fr 0x82020 0x2 c_ s := by
    induction x0 generalizing s b with
    | nil => intro c_; unfold State.reported; simp
    | cons y_ ys_ ih => intro c_; unfold State.reported; (repeat' split) <;> simp [ih]
  exact (key _).2 (by simp)) hP hW

theorem fr_execVerifyCrcReceived (first : Nat) (crcs : List Word) (s : State) : FrO 0x100fa520
    0x2300a50440000000000000002 s (execVerifyCrcReceived first crcs s) := by
  unfold execVerifyCrcReceived; simp

@[simp] theorem fr_takeShadow {P W : Nat} (b_ : State) (s : State) (c : Chan) (v : Word)
    (hP : P &&& 0x100000 = 0x100000) (hW : W &&& 0x0 = 0x0) :
    Fr P W b_ (State.takeShadow s c v) ↔ Fr P W b_ s := Fr.iff (p := 0x100000) (w := 0x0) (by
  unfold State.takeShadow; simp; (repeat' split) <;> simp) hP hW

@[simp] theorem fr_crossUc {P W : Nat} (b_ : State) (s : State) (n : Nat) (xs : List (Instant × F32))
    (hP : P &&& 0x102120 = 0x102120) (hW : W &&& 0x18000000000000000000000000000002 = 0x18000000000000000000000000000002) :
    Fr P W b_ (State.crossUc s n xs) ↔ Fr P W b_ s := Fr.iff (p := 0x102120) (w := 0x18000000000000000000000000000002) (by
  unfold State.crossUc; simp) hP hW

@[simp] theorem fr_countDc {P W : Nat} (b_ : State) (s : State) (m : Nat) (xs : List (Instant × Word × Bool))
    (hP : P &&& 0x100000 = 0x100000) (hW : W &&& 0x0 = 0x0) :
    Fr P W b_ (State.countDc s m xs) ↔ Fr P W b_ s := Fr.iff (p := 0x100000) (w := 0x0) (by
  unfold State.countDc; simp; (repeat' split) <;> simp) hP hW

@[simp] theorem fr_crossDc {P W : Nat} (b_ : State) (s : State) (m : Nat) (xs : List (Instant × Word × Bool))
    (hP : P &&& 0x102120 = 0x102120) (hW : W &&& 0x300000000000000000000000000000002 =
        0x300000000000000000000000000000002) :
    Fr P W b_ (State.crossDc s m xs) ↔ Fr P W b_ s := Fr.iff (p := 0x102120) (w := 0x300000000000000000000000000000002) (by
  unfold State.crossDc; simp) hP hW

theorem fr_execSideRecordReceived (r : SideRecord) (s : State) : FrO 0x102120 0x318000000000000000000000000000002 s
    (execSideRecordReceived r s) := by
  unfold execSideRecordReceived; simp; (repeat' split) <;> simp

@[simp] theorem fr_shadowRec {P W : Nat} (b_ : State) (s : State) (p : Nat) (r : W64)
    (hP : P &&& 0x100000 = 0x100000) (hW : W &&& 0x0 = 0x0) :
    Fr P W b_ (State.shadowRec s p r) ↔ Fr P W b_ s := Fr.iff (p := 0x100000) (w := 0x0) (by
  unfold State.shadowRec; simp; (repeat' split) <;> simp) hP hW

@[simp] theorem fr_takeFastRec {P W : Nat} (b_ : State) (s : State) (l : Nat) (state : BitVec 256) (secs : List (F32 ×
    F32)) (rec : W64)
    (hP : P &&& 0x340100000 = 0x340100000) (hW : W &&& 0x0 = 0x0) :
    Fr P W b_ (State.takeFastRec s l state secs rec) ↔ Fr P W b_ s := Fr.iff (p := 0x340100000) (w := 0x0) (by
  unfold State.takeFastRec; simp; (repeat' split) <;> simp) hP hW

@[simp] theorem fr_fastMissed {P W : Nat} (b_ : State) (s : State) (k : Nat)
    (hP : P &&& 0x80020 = 0x80020) (hW : W &&& 0x1000000000000000000000000 = 0x1000000000000000000000000) :
    Fr P W b_ (State.fastMissed s k) ↔ Fr P W b_ s := Fr.iff (p := 0x80020) (w := 0x1000000000000000000000000) (by
  unfold State.fastMissed; simp) hP hW

@[simp] theorem fr_fastCame {P W : Nat} (b_ : State) (s : State) (l : Nat)
    (hP : P &&& 0x80020 = 0x80020) (hW : W &&& 0x1000000000000000000000000 = 0x1000000000000000000000000) :
    Fr P W b_ (State.fastCame s l) ↔ Fr P W b_ s := Fr.iff (p := 0x80020) (w := 0x1000000000000000000000000) (by
  unfold State.fastCame; simp) hP hW

@[simp] theorem fr_judgeFast {P W : Nat} (b_ : State) (s : State)
    (hP : P &&& 0x80020 = 0x80020) (hW : W &&& 0x1000000000000000000000000 = 0x1000000000000000000000000) :
    Fr P W b_ (State.judgeFast s) ↔ Fr P W b_ s := Fr.iff (p := 0x80020) (w := 0x1000000000000000000000000) (by
  unfold State.judgeFast; simp) hP hW

theorem fr_execFastRecordReceived (l : Nat) (state : BitVec 256) (secs : List (F32 × F32)) (rec : W64) (crc : Word) (s
    : State) : FrO 0x340180020 0x1000000000000000000000000 s (execFastRecordReceived l state secs rec crc s) := by
  unfold execFastRecordReceived; simp

theorem fr_execStandbyBoundary (s : State) : FrO 0x1008a520 0x1100000000000000000000002 s (execStandbyBoundary s) := by
  unfold execStandbyBoundary; simp

end Sys2Proof.Machine
end

