-- ==== Sys2Proof/Laws/FrameCan.lean ====
section
/-! SUPPORT. What the functions of Machine/Can.lean may change: for each, as bit masks, the parts of the state and the registers. -/

namespace Sys2Proof.Machine

@[simp] theorem fr_setCanObj {P W : Nat} (b_ : State) (s : State) (p o : Nat) (x : CanObj)
    (hP : P &&& 0x1000000 = 0x1000000) (hW : W &&& 0x0 = 0x0) :
    Fr P W b_ (State.setCanObj s p o x) ↔ Fr P W b_ s := Fr.iff (p := 0x1000000) (w := 0x0) (by
  unfold State.setCanObj; simp) hP hW

@[simp] theorem fr_canNote {P W : Nat} (b_ : State) (s : State) (p code : Nat) (o : Option Nat := none)
    (hP : P &&& 0x2120 = 0x2120) (hW : W &&& 0x2 = 0x2) :
    Fr P W b_ (State.canNote s p code o) ↔ Fr P W b_ s := Fr.iff (p := 0x2120) (w := 0x2) (by
  unfold State.canNote; simp) hP hW

@[simp] theorem fr_canProt {P W : Nat} (b_ : State) (s : State) (p k : Nat)
    (hP : P &&& 0x20 = 0x20) (hW : W &&& 0x20000000000000000000000000000 = 0x20000000000000000000000000000) :
    Fr P W b_ (State.canProt s p k) ↔ Fr P W b_ s := Fr.iff (p := 0x20) (w := 0x20000000000000000000000000000) (by
  unfold State.canProt; simp) hP hW

@[simp] theorem fr_canConfine {P W : Nat} (b_ : State) (s : State) (p : Nat)
    (hP : P &&& 0x2120 = 0x2120) (hW : W &&& 0x18000000000000000000000000002 = 0x18000000000000000000000000002) :
    Fr P W b_ (State.canConfine s p) ↔ Fr P W b_ s := Fr.iff (p := 0x2120) (w := 0x18000000000000000000000000002) (by
  unfold State.canConfine; simp; (repeat' split) <;> simp) hP hW

@[simp] theorem fr_canCount {P W : Nat} (b_ : State) (s : State) (p tec rec : Nat)
    (hP : P &&& 0x2120 = 0x2120) (hW : W &&& 0x18000000000000000000000000002 = 0x18000000000000000000000000002) :
    Fr P W b_ (State.canCount s p tec rec) ↔ Fr P W b_ s := Fr.iff (p := 0x2120) (w := 0x18000000000000000000000000002) (by
  unfold State.canCount; simp) hP hW

@[simp] theorem fr_canAlone {P W : Nat} (b_ : State) (s : State) (p : Nat) (b : Bool)
    (hP : P &&& 0x2120 = 0x2120) (hW : W &&& 0x8000000000000000000000000002 = 0x8000000000000000000000000002) :
    Fr P W b_ (State.canAlone s p b) ↔ Fr P W b_ s := Fr.iff (p := 0x2120) (w := 0x8000000000000000000000000002) (by
  unfold State.canAlone; simp) hP hW

@[simp] theorem fr_canFresh {P W : Nat} (b_ : State) (s : State) (p : Nat)
    (hP : P &&& 0x20 = 0x20) (hW : W &&& 0x8000000000000000000000000000 = 0x8000000000000000000000000000) :
    Fr P W b_ (State.canFresh s p) ↔ Fr P W b_ s := Fr.iff (p := 0x20) (w := 0x8000000000000000000000000000) (by
  unfold State.canFresh; simp) hP hW

@[simp] theorem fr_canCalm {P W : Nat} (b_ : State) (s : State) (p : Nat)
    (hP : P &&& 0x2120 = 0x2120) (hW : W &&& 0x8000000000000000000000000002 = 0x8000000000000000000000000002) :
    Fr P W b_ (State.canCalm s p) ↔ Fr P W b_ s := Fr.iff (p := 0x2120) (w := 0x8000000000000000000000000002) (by
  unfold State.canCalm; simp) hP hW

@[simp] theorem fr_canEnd {P W : Nat} (b_ : State) (s : State) (p : Nat)
    (hP : P &&& 0x1000000 = 0x1000000) (hW : W &&& 0x0 = 0x0) :
    Fr P W b_ (State.canEnd s p) ↔ Fr P W b_ s := Fr.iff (p := 0x1000000) (w := 0x0) (by
  unfold State.canEnd; simp) hP hW

@[simp] theorem fr_canHeard {P W : Nat} (b_ : State) (s : State) (p : Nat)
    (hP : P &&& 0x1002130 = 0x1002130) (hW : W &&& 0x18000000000000000000000000002 = 0x18000000000000000000000000002) :
    Fr P W b_ (State.canHeard s p) ↔ Fr P W b_ s := Fr.iff (p := 0x1002130) (w := 0x18000000000000000000000000002) (by
  unfold State.canHeard; simp) hP hW

@[simp] theorem fr_canStore {P W : Nat} (b_ : State) (s : State) (p o : Nat) (f : CanFrame)
    (hP : P &&& 0x1000020 = 0x1000020) (hW : W &&& 0x30000000000000000000000000000 = 0x30000000000000000000000000000) :
    Fr P W b_ (State.canStore s p o f) ↔ Fr P W b_ s := Fr.iff (p := 0x1000020) (w := 0x30000000000000000000000000000) (by
  unfold State.canStore; simp) hP hW

theorem fr_execCanFrameReceived (p : Fin 4) (f : CanFrame) (s : State) : FrO 0x1002130 0x38000000000000000000000000002
    s (execCanFrameReceived p f s) := by
  unfold execCanFrameReceived; simp; (repeat' split) <;> simp

theorem fr_execCanRemoteFrame (p : Fin 4) (s : State) : FrO 0x1002130 0x18000000000000000000000000002 s
    (execCanRemoteFrame p s) := by
  unfold execCanRemoteFrame; simp

theorem fr_execCanProtocolException (p : Fin 4) (s : State) : FrO 0x20 0x20000000000000000000000000000 s
    (execCanProtocolException p s) := by
  unfold execCanProtocolException; simp

theorem fr_execCanTxSuccess (p : Fin 4) (o : Fin 128) (renewed : Nat) (s : State) : FrO 0x1002122
    0x18000000000000000000000000002 s (execCanTxSuccess p o renewed s) := by
  unfold execCanTxSuccess; simp

@[simp] theorem fr_canGiveUp {P W : Nat} (b_ : State) (s : State) (p o : Nat)
    (hP : P &&& 0x1002120 = 0x1002120) (hW : W &&& 0x10000000000000000000000000002 = 0x10000000000000000000000000002) :
    Fr P W b_ (State.canGiveUp s p o) ↔ Fr P W b_ s := Fr.iff (p := 0x1002120) (w := 0x10000000000000000000000000002) (by
  unfold State.canGiveUp; simp) hP hW

theorem fr_execCanTxAckError (p : Fin 4) (o : Fin 128) (dominantSeen : Bool) (s : State) : FrO 0x1002120
    0x38000000000000000000000000002 s (execCanTxAckError p o dominantSeen s) := by
  unfold execCanTxAckError; simp

@[simp] theorem fr_canForget {P W : Nat} (b_ : State) (s : State) (p : Nat)
    (hP : P &&& 0x1000000 = 0x1000000) (hW : W &&& 0x0 = 0x0) :
    Fr P W b_ (State.canForget s p) ↔ Fr P W b_ s := Fr.iff (p := 0x1000000) (w := 0x0) (by
  unfold State.canForget; simp) hP hW

@[simp] theorem fr_canBroken {P W : Nat} (b_ : State) (s : State) (p : Nat)
    (hP : P &&& 0x1000020 = 0x1000020) (hW : W &&& 0x8000000000000000000000000000 = 0x8000000000000000000000000000) :
    Fr P W b_ (State.canBroken s p) ↔ Fr P W b_ s := Fr.iff (p := 0x1000020) (w := 0x8000000000000000000000000000) (by
  unfold State.canBroken; simp) hP hW

theorem fr_execCanBusError (p : Fin 4) (kind : Fin 16) (transmitting severe : Bool) (s : State) : FrO 0x1002120
    0x38000000000000000000000000002 s (execCanBusError p kind transmitting severe s) := by
  unfold execCanBusError; simp

theorem fr_execCanArbitrationLost (p : Fin 4) (o : Fin 128) (s : State) : FrO 0x1000000 0x0 s (execCanArbitrationLost p
    o s) := by
  unfold execCanArbitrationLost; simp

@[simp] theorem fr_canRecover {P W : Nat} (b_ : State) (s : State) (p : Nat)
    (hP : P &&& 0x2120 = 0x2120) (hW : W &&& 0x8000000000000000000000000002 = 0x8000000000000000000000000002) :
    Fr P W b_ (State.canRecover s p) ↔ Fr P W b_ s := Fr.iff (p := 0x2120) (w := 0x8000000000000000000000000002) (by
  unfold State.canRecover; simp) hP hW

theorem fr_execCanRecover (p : Fin 4) (s : State) : FrO 0x2120 0x8000000000000000000000000002 s (execCanRecover p s) := by
  unfold execCanRecover; simp

theorem fr_execCanRecoveryDone (p : Fin 4) (s : State) : FrO 0x2120 0x8000000000000000000000000002 s
    (execCanRecoveryDone p s) := by
  unfold execCanRecoveryDone; simp

@[simp] theorem fr_setCanWin {P W : Nat} (b_ : State) (s : State) (w : Nat) (x : CanObj)
    (hP : P &&& 0x1000000 = 0x1000000) (hW : W &&& 0x0 = 0x0) :
    Fr P W b_ (State.setCanWin s w x) ↔ Fr P W b_ s := Fr.iff (p := 0x1000000) (w := 0x0) (by
  unfold State.setCanWin; simp) hP hW

@[simp] theorem fr_canRes {P W : Nat} (b_ : State) (s : State) (w code : Nat)
    (hP : P &&& 0x20 = 0x20) (hW : W &&& 0x100000000000000000000000000000 = 0x100000000000000000000000000000) :
    Fr P W b_ (State.canRes s w code) ↔ Fr P W b_ s := Fr.iff (p := 0x20) (w := 0x100000000000000000000000000000) (by
  unfold State.canRes; simp) hP hW

@[simp] theorem fr_canSnap {P W : Nat} (b_ : State) (s : State) (w p o : Nat)
    (hP : P &&& 0x1000020 = 0x1000020) (hW : W &&& 0x100000000000000000000000000000 = 0x100000000000000000000000000000) :
    Fr P W b_ (State.canSnap s w p o) ↔ Fr P W b_ s := Fr.iff (p := 0x1000020) (w := 0x100000000000000000000000000000) (by
  unfold State.canSnap; simp) hP hW

@[simp] theorem fr_canSend {P W : Nat} (b_ : State) (s : State) (w p o : Nat)
    (hP : P &&& 0x1000020 = 0x1000020) (hW : W &&& 0x110000000000000000000000000000 = 0x110000000000000000000000000000) :
    Fr P W b_ (State.canSend s w p o) ↔ Fr P W b_ s := Fr.iff (p := 0x1000020) (w := 0x110000000000000000000000000000) (by
  unfold State.canSend; simp) hP hW

@[simp] theorem fr_canCancel {P W : Nat} (b_ : State) (s : State) (w p o : Nat)
    (hP : P &&& 0x1000020 = 0x1000020) (hW : W &&& 0x100000000000000000000000000000 = 0x100000000000000000000000000000) :
    Fr P W b_ (State.canCancel s w p o) ↔ Fr P W b_ s := Fr.iff (p := 0x1000020) (w := 0x100000000000000000000000000000) (by
  unfold State.canCancel; simp) hP hW

@[simp] theorem fr_canCommand {P W : Nat} (b_ : State) (s : State) (w cmd p o : Nat)
    (hP : P &&& 0x1000020 = 0x1000020) (hW : W &&& 0x110000000000000000000000000000 = 0x110000000000000000000000000000) :
    Fr P W b_ (State.canCommand s w cmd p o) ↔ Fr P W b_ s := Fr.iff (p := 0x1000020) (w :=
        0x110000000000000000000000000000) (by
  unfold State.canCommand; simp; (repeat' split) <;> simp) hP hW

theorem fr_execCanSnap (w : Writer) (p : Fin 4) (o : Fin 128) (s : State) : FrO 0x1000020
    0x110000000000000000000000000000 s (execCanSnap w p o s) := by
  unfold execCanSnap; simp

theorem fr_execCanSend (w : Writer) (p : Fin 4) (o : Fin 128) (s : State) : FrO 0x1000020
    0x110000000000000000000000000000 s (execCanSend w p o s) := by
  unfold execCanSend; simp

theorem fr_execCanCancel (w : Writer) (p : Fin 4) (o : Fin 128) (s : State) : FrO 0x1000020
    0x110000000000000000000000000000 s (execCanCancel w p o s) := by
  unfold execCanCancel; simp

@[simp] theorem fr_canDrop {P W : Nat} (b_ : State) (s : State) (p : Nat)
    (hP : P &&& 0x1000000 = 0x1000000) (hW : W &&& 0x0 = 0x0) :
    Fr P W b_ (State.canDrop s p) ↔ Fr P W b_ s := Fr.iff (p := 0x1000000) (w := 0x0) (by
  unfold State.canDrop; simp) hP hW

@[simp] theorem fr_canAuthority {P W : Nat} (b_ : State) (s : State) (on : Bool)
    (hP : P &&& 0x1002120 = 0x1002120) (hW : W &&& 0x8000000000000000000000000002 = 0x8000000000000000000000000002) :
    Fr P W b_ (State.canAuthority s on) ↔ Fr P W b_ s := Fr.iff (p := 0x1002120) (w := 0x8000000000000000000000000002) (by
  unfold State.canAuthority; simp) hP hW

theorem fr_execCanLeaveListenOnly (p : Fin 4) (s : State) : FrO 0x1002120 0x8000000000000000000000000002 s
    (execCanLeaveListenOnly p s) := by
  unfold execCanLeaveListenOnly; simp

@[simp] theorem fr_canLoad {P W : Nat} (b_ : State) (s : State)
    (hP : P &&& 0x1000020 = 0x1000020) (hW : W &&& 0x42000000000000000000000000000 = 0x42000000000000000000000000000) :
    Fr P W b_ (State.canLoad s) ↔ Fr P W b_ s := Fr.iff (p := 0x1000020) (w := 0x42000000000000000000000000000) (by
  unfold State.canLoad; simp) hP hW

@[simp] theorem fr_canRestart {P W : Nat} (b_ : State) (s : State)
    (hP : P &&& 0x1002120 = 0x1002120) (hW : W &&& 0x8000000000000000000000000002 = 0x8000000000000000000000000002) :
    Fr P W b_ (State.canRestart s) ↔ Fr P W b_ s := Fr.iff (p := 0x1002120) (w := 0x8000000000000000000000000002) (by
  unfold State.canRestart; simp) hP hW

end Sys2Proof.Machine
end

