-- ==== Sys2Proof/Laws/FrameBinary.lean ====
section
/-! SUPPORT. What the functions of Machine/Binary.lean may change: for each, as bit masks, the parts of the state and the registers. -/

namespace Sys2Proof.Machine

@[simp] theorem fr_claimIfDue {P W : Nat} (b_ : State) (s : State)
    (hP : P &&& 0x90020 = 0x90020) (hW : W &&& 0x2000004700000000000000000000000 = 0x2000004700000000000000000000000) :
    Fr P W b_ (State.claimIfDue s) ↔ Fr P W b_ s := Fr.iff (p := 0x90020) (w := 0x2000004700000000000000000000000) (by
  unfold State.claimIfDue; simp; (repeat' split) <;> simp) hP hW

@[simp] theorem fr_unitFollows {P W : Nat} (b_ : State) (s : State) (isl : Nat) (was now : Bool)
    (hP : P &&& 0x1102120 = 0x1102120) (hW : W &&& 0x108008000000000000000000000000002 =
        0x108008000000000000000000000000002) :
    Fr P W b_ (State.unitFollows s isl was now) ↔ Fr P W b_ s := Fr.iff (p := 0x1102120) (w :=
        0x108008000000000000000000000000002) (by
  unfold State.unitFollows; simp) hP hW

@[simp] theorem fr_setDiffers {P W : Nat} (b_ : State) (s : State) (r : Nat × AdaptRec)
    (hP : P &&& 0x42100 = 0x42100) (hW : W &&& 0x0 = 0x0) :
    Fr P W b_ (State.setDiffers s r) ↔ Fr P W b_ s := Fr.iff (p := 0x42100) (w := 0x0) (by
  unfold State.setDiffers; simp; (repeat' split) <;> simp) hP hW

@[simp] theorem fr_takeAuthority {P W : Nat} (b_ : State) (s : State)
    (hP : P &&& 0x3500fe520 = 0x3500fe520) (hW : W &&& 0x100c40400000000000000002 = 0x100c40400000000000000002) :
    Fr P W b_ (State.takeAuthority s) ↔ Fr P W b_ s := Fr.iff (p := 0x3500fe520) (w := 0x100c40400000000000000002) (by
  unfold State.takeAuthority; simp) hP hW

@[simp] theorem fr_bnFollows {P W : Nat} (b_ : State) (s : State) (ind : Indication)
    (hP : P &&& 0x3500fe520 = 0x3500fe520) (hW : W &&& 0x300c40400000000000000002 = 0x300c40400000000000000002) :
    Fr P W b_ (State.bnFollows s ind) ↔ Fr P W b_ s := Fr.iff (p := 0x3500fe520) (w := 0x300c40400000000000000002) (by
  unfold State.bnFollows; simp) hP hW

theorem fr_execLoopIndicationChange (i : Fin 18) (ind : Indication) (s : State) : FrO 0x3511fe520
    0x108008000300c40400000000000000002 s (execLoopIndicationChange i ind s) := by
  unfold execLoopIndicationChange; simp

@[simp] theorem fr_withdraw {P W : Nat} (b_ : State) (s : State)
    (hP : P &&& 0x100aa520 = 0x100aa520) (hW : W &&& 0x300000000000000000000002 = 0x300000000000000000000002) :
    Fr P W b_ (State.withdraw s) ↔ Fr P W b_ s := Fr.iff (p := 0x100aa520) (w := 0x300000000000000000000002) (by
  unfold State.withdraw; simp) hP hW

theorem fr_execPartnerClaimChange (present : Bool) (s : State) : FrO 0x100ba520 0x2000004700000000000000000000002 s
    (execPartnerClaimChange present s) := by
  unfold execPartnerClaimChange; simp

theorem fr_execPartnerReadyChange (present : Bool) (s : State) : FrO 0x88020 0x300000000000000000000000 s
    (execPartnerReadyChange present s) := by
  unfold execPartnerReadyChange; (repeat' split) <;> (try simp) <;> (repeat' split) <;> simp_all

@[simp] theorem fr_claimAbsent {P W : Nat} (b_ : State) (s : State)
    (hP : P &&& 0x20 = 0x20) (hW : W &&& 0x200000000000000000000000 = 0x200000000000000000000000) :
    Fr P W b_ (State.claimAbsent s) ↔ Fr P W b_ s := Fr.iff (p := 0x20) (w := 0x200000000000000000000000) (by
  unfold State.claimAbsent; simp) hP hW

theorem fr_execClaimReturnTimeout (s : State) : FrO 0x100fa520 0x300a50440000000000000002 s (execClaimReturnTimeout s) := by
  unfold execClaimReturnTimeout; simp

@[simp] theorem fr_sendBeats {P W : Nat} (b_ : State) (s : State)
    (hP : P &&& 0x80002 = 0x80002) (hW : W &&& 0x0 = 0x0) :
    Fr P W b_ (State.sendBeats s) ↔ Fr P W b_ s := Fr.iff (p := 0x80002) (w := 0x0) (by
  unfold State.sendBeats; simp) hP hW

theorem fr_execHeartbeatSend (s : State) : FrO 0x80002 0x0 s (execHeartbeatSend s) := by
  unfold execHeartbeatSend; (repeat' split) <;> simp

theorem fr_execNetHeartbeatSend (s : State) : FrO 0x880022 0x100000000000000000000000000 s (execNetHeartbeatSend s) := by
  unfold execNetHeartbeatSend; simp

@[simp] theorem fr_takeHealth {P W : Nat} (b_ : State) (s : State) (m : BitVec 256)
    (hP : P &&& 0x80020 = 0x80020) (hW : W &&& 0x800000000000000000000000 = 0x800000000000000000000000) :
    Fr P W b_ (State.takeHealth s m) ↔ Fr P W b_ s := Fr.iff (p := 0x80020) (w := 0x800000000000000000000000) (by
  clear hP hW; unfold State.takeHealth; (repeat' split) <;> (try simp) <;> (repeat' split) <;> simp_all) hP hW

@[simp] theorem fr_disciplineBt {P W : Nat} (b_ : State) (s : State) (off : Int)
    (hP : P &&& 0x84010 = 0x84010) (hW : W &&& 0x0 = 0x0) :
    Fr P W b_ (State.disciplineBt s off) ↔ Fr P W b_ s := Fr.iff (p := 0x84010) (w := 0x0) (by
  unfold State.disciplineBt; simp) hP hW

@[simp] theorem fr_hbCommon {P W : Nat} (b_ : State) (s : State) (m : BitVec 256)
    (hP : P &&& 0x80020 = 0x80020) (hW : W &&& 0x100000000000000000000000 = 0x100000000000000000000000) :
    Fr P W b_ (State.hbCommon s m) ↔ Fr P W b_ s := Fr.iff (p := 0x80020) (w := 0x100000000000000000000000) (by
  clear hP hW; unfold State.hbCommon; (repeat' split) <;> (try simp) <;> (repeat' split) <;> simp_all) hP hW

@[simp] theorem fr_hbLink {P W : Nat} (b_ : State) (s : State) (m : BitVec 256) (off : Int) (ptOff : Option Int)
    (hP : P &&& 0x100be532 = 0x100be532) (hW : W &&& 0x2000004f00000006800000200000002 =
        0x2000004f00000006800000200000002) :
    Fr P W b_ (State.hbLink s m off ptOff) ↔ Fr P W b_ s := Fr.iff (p := 0x100be532) (w :=
        0x2000004f00000006800000200000002) (by
  unfold State.hbLink; simp) hP hW

@[simp] theorem fr_hbNet {P W : Nat} (b_ : State) (s : State) (m : BitVec 256)
    (hP : P &&& 0x80020 = 0x80020) (hW : W &&& 0x900000000000000000000000 = 0x900000000000000000000000) :
    Fr P W b_ (State.hbNet s m) ↔ Fr P W b_ s := Fr.iff (p := 0x80020) (w := 0x900000000000000000000000) (by
  clear hP hW; unfold State.hbNet; (repeat' split) <;> (try simp) <;> (repeat' split) <;> simp_all) hP hW

theorem fr_execHeartbeatReceived (link : Option (Fin 2)) (m : BitVec 256) (off : Int) (ptOff : Option Int) (s : State)
    : FrO 0x100be532 0x2000004f00000006800000200000002 s (execHeartbeatReceived link m off ptOff s) := by
  unfold execHeartbeatReceived; simp; (repeat' split) <;> simp

theorem fr_execHeartbeatTimeout (s : State) : FrO 0x1009e530 0x2000004700000006800000000000002 s (execHeartbeatTimeout
    s) := by
  unfold execHeartbeatTimeout; simp

theorem fr_execReleaseReceived (s : State) : FrO 0x90020 0x2000004700000000000000000000000 s (execReleaseReceived s) := by
  unfold execReleaseReceived; simp

theorem fr_execEpochStored (s : State) : FrO 0x81020 0x100000000000000000000000 s (execEpochStored s) := by
  unfold execEpochStored; (repeat' split) <;> (try simp) <;> (repeat' split) <;> simp_all

theorem fr_execTakeoverResume (s : State) : FrO 0x80000 0x0 s (execTakeoverResume s) := by
  unfold execTakeoverResume; simp

theorem fr_execNetHbTimeout (s : State) : FrO 0x20 0x100000000000000000000000 s (execNetHbTimeout s) := by
  unfold execNetHbTimeout; simp

@[simp] theorem fr_rollBack {P W : Nat} (b_ : State) (s : State)
    (hP : P &&& 0x3400f2120 = 0x3400f2120) (hW : W &&& 0x4000000000000000000000000 = 0x4000000000000000000000000) :
    Fr P W b_ (State.rollBack s) ↔ Fr P W b_ s := Fr.iff (p := 0x3400f2120) (w := 0x4000000000000000000000000) (by
  clear hP hW; unfold State.rollBack; (repeat' split) <;> (try simp) <;> (repeat' split) <;> simp_all) hP hW

theorem fr_execBinaryLinkChange (k : Fin 2) (up : Bool) (s : State) : FrO 0x3400f2120 0x4100000000000000000000002 s
    (execBinaryLinkChange k up s) := by
  unfold execBinaryLinkChange; simp; (repeat' split) <;> simp

theorem fr_execGrantRecognised (s : State) : FrO 0x92120 0x2000004700000000000000000000002 s (execGrantRecognised s) := by
  unfold execGrantRecognised; simp

theorem fr_execGrantWithdrawn (s : State) : FrO 0x100fa520 0x300a50440000000000000002 s (execGrantWithdrawn s) := by
  unfold execGrantWithdrawn; simp

theorem fr_execArbiterFail (s : State) : FrO 0x92120 0x2000004700000000000000000000002 s (execArbiterFail s) := by
  unfold execArbiterFail; simp

theorem fr_execArbiterReturn (s : State) : FrO 0x2020 0x100000000000000000000002 s (execArbiterReturn s) := by
  unfold execArbiterReturn; simp

@[simp] theorem fr_formHealth {P W : Nat} (b_ : State) (s : State)
    (hP : P &&& 0x80020 = 0x80020) (hW : W &&& 0x800000000000000000000000 = 0x800000000000000000000000) :
    Fr P W b_ (State.formHealth s) ↔ Fr P W b_ s := Fr.iff (p := 0x80020) (w := 0x800000000000000000000000) (by
  unfold State.formHealth; simp) hP hW

theorem fr_execHealthWordForm (s : State) : FrO 0x340090020 0x800000000000000000000000 s (execHealthWordForm s) := by
  unfold execHealthWordForm; simp; (repeat' split) <;> simp

theorem fr_execStandbySelftest (t : StandbyTest) (s : State) : FrO 0x100aa520 0x100000000000000000000002 s
    (execStandbySelftest t s) := by
  unfold execStandbySelftest; simp

@[simp] theorem fr_scheduleHo {P W : Nat} (b_ : State) (s : State) (h : Instant) (after : After)
    (hP : P &&& 0x80120 = 0x80120) (hW : W &&& 0x100000000000000000000000 = 0x100000000000000000000000) :
    Fr P W b_ (State.scheduleHo s h after) ↔ Fr P W b_ s := Fr.iff (p := 0x80120) (w := 0x100000000000000000000000) (by
  unfold State.scheduleHo; simp) hP hW

@[simp] theorem fr_dropHo {P W : Nat} (b_ : State) (s : State)
    (hP : P &&& 0x90020 = 0x90020) (hW : W &&& 0x100000000000000000000000 = 0x100000000000000000000000) :
    Fr P W b_ (State.dropHo s) ↔ Fr P W b_ s := Fr.iff (p := 0x90020) (w := 0x100000000000000000000000) (by
  unfold State.dropHo; simp) hP hW

@[simp] theorem fr_cancelHo {P W : Nat} (b_ : State) (s : State)
    (hP : P &&& 0x92120 = 0x92120) (hW : W &&& 0x100000000000000000000002 = 0x100000000000000000000002) :
    Fr P W b_ (State.cancelHo s) ↔ Fr P W b_ s := Fr.iff (p := 0x92120) (w := 0x100000000000000000000002) (by
  unfold State.cancelHo; simp) hP hW

@[simp] theorem fr_moveHo {P W : Nat} (b_ : State) (s : State) (x : Handover)
    (hP : P &&& 0x92120 = 0x92120) (hW : W &&& 0x100000000000000000000002 = 0x100000000000000000000002) :
    Fr P W b_ (State.moveHo s x) ↔ Fr P W b_ s := Fr.iff (p := 0x92120) (w := 0x100000000000000000000002) (by
  unfold State.moveHo; simp) hP hW

@[simp] theorem fr_bnResult {P W : Nat} (b_ : State) (s : State) (c : Nat)
    (hP : P &&& 0x20 = 0x20) (hW : W &&& 0x40000000000000000000000000 = 0x40000000000000000000000000) :
    Fr P W b_ (State.bnResult s c) ↔ Fr P W b_ s := Fr.iff (p := 0x20) (w := 0x40000000000000000000000000) (by
  unfold State.bnResult; simp) hP hW

theorem fr_execHandoverOrder (w : Writer) (after : After) (s : State) : FrO 0x80120 0x40100000000000000000000000 s
    (execHandoverOrder w after s) := by
  unfold execHandoverOrder; simp; (repeat' split) <;> simp

theorem fr_execHandoverCancel (w : Writer) (s : State) : FrO 0x92120 0x40100000000000000000000002 s (execHandoverCancel
    w s) := by
  unfold execHandoverCancel; simp; (repeat' split) <;> simp

theorem fr_execHandoverCheck (s : State) : FrO 0x92120 0x100000000000000000000002 s (execHandoverCheck s) := by
  unfold execHandoverCheck; simp; (repeat' split) <;> simp

@[simp] theorem fr_handOver {P W : Nat} (b_ : State) (s : State) (after : After)
    (hP : P &&& 0x3d01fa532 = 0x3d01fa532) (hW : W &&& 0x1300a5c6c0000000000100002 = 0x1300a5c6c0000000000100002) :
    Fr P W b_ (s.handOver after) ↔ Fr P W b_ s := Fr.iff (p := 0x3d01fa532) (w := 0x1300a5c6c0000000000100002) (by
  clear hP hW; unfold State.handOver; cases after <;> dsimp only <;> simp) hP hW

@[simp] theorem fr_inheritRoll {P W : Nat} (b_ : State) (s : State)
    (hP : P &&& 0x10000120 = 0x10000120) (hW : W &&& 0x100000 = 0x100000) :
    Fr P W b_ (State.inheritRoll s) ↔ Fr P W b_ s := Fr.iff (p := 0x10000120) (w := 0x100000) (by
  unfold State.inheritRoll; simp) hP hW

theorem fr_execHandoverInstant (s : State) : FrO 0x3d01fa532 0x2000005700a5c6c0000000000100002 s (execHandoverInstant
    s) := by
  unfold execHandoverInstant; simp; (repeat' split) <;> simp

theorem fr_execYield (s : State) : FrO 0x80120 0x100000000000000000000000 s (execYield s) := by
  unfold execYield; simp

theorem fr_execJoinComplete (s : State) : FrO 0x1008a520 0x100000040000000000000002 s (execJoinComplete s) := by
  unfold execJoinComplete
  dsimp only
  split
  · split
    · simp
    · simp
  · split
    · simp
    · simp

@[simp] theorem fr_maintEnter {P W : Nat} (b_ : State) (s : State)
    (hP : P &&& 0x1008a520 = 0x1008a520) (hW : W &&& 0x40100000000000000000000002 = 0x40100000000000000000000002) :
    Fr P W b_ (State.maintEnter s).1 ↔ Fr P W b_ s := Fr.iff (p := 0x1008a520) (w := 0x40100000000000000000000002) (by
  unfold State.maintEnter; simp) hP hW

@[simp] theorem fr_maintLeave {P W : Nat} (b_ : State) (s : State)
    (hP : P &&& 0x100aa520 = 0x100aa520) (hW : W &&& 0x40100000000000000000000002 = 0x40100000000000000000000002) :
    Fr P W b_ (State.maintLeave s).1 ↔ Fr P W b_ s := Fr.iff (p := 0x100aa520) (w := 0x40100000000000000000000002) (by
  unfold State.maintLeave; simp) hP hW

theorem fr_execEnterMaintenance (w : Writer) (s : State) : FrO 0x1008a520 0x40100000000000000000000002 s
    (execEnterMaintenance w s) := by
  unfold execEnterMaintenance; (repeat' split) <;> simp

theorem fr_execLeaveMaintenance (w : Writer) (s : State) : FrO 0x100aa520 0x40100000000000000000000002 s
    (execLeaveMaintenance w s) := by
  unfold execLeaveMaintenance; (repeat' split) <;> simp

theorem fr_execPartnerReset (w : Writer) (s : State) : FrO 0x22 0x40000000000000000000000000 s (execPartnerReset w s) := by
  unfold execPartnerReset; simp; (repeat' split) <;> simp

end Sys2Proof.Machine
end

