-- ==== Sys2Proof/Laws/FrameLockstep.lean ====
section
/-! SUPPORT. What the functions of Machine/Lockstep.lean may change: for each, as bit masks, the parts of the state and the registers. -/

namespace Sys2Proof.Machine

@[simp] theorem fr_setPairOf {P W : Nat} (b_ : State) (s : State) (i : Nat) (x : LkPair)
    (hP : P &&& 0x4000000 = 0x4000000) (hW : W &&& 0x0 = 0x0) :
    Fr P W b_ (State.setPairOf s i x) ↔ Fr P W b_ s := Fr.iff (p := 0x4000000) (w := 0x0) (by
  unfold State.setPairOf; simp) hP hW

@[simp] theorem fr_setLkMode {P W : Nat} (b_ : State) (s : State) (i m : Nat)
    (hP : P &&& 0x20 = 0x20) (hW : W &&& 0x1000000000 = 0x1000000000) :
    Fr P W b_ (State.setLkMode s i m) ↔ Fr P W b_ s := Fr.iff (p := 0x20) (w := 0x1000000000) (by
  unfold State.setLkMode; simp) hP hW

@[simp] theorem fr_lkCompare {P W : Nat} (b_ : State) (s : State) (i m : Nat)
    (hP : P &&& 0x20 = 0x20) (hW : W &&& 0x1000000000 = 0x1000000000) :
    Fr P W b_ (State.lkCompare s i m) ↔ Fr P W b_ s := Fr.iff (p := 0x20) (w := 0x1000000000) (by
  unfold State.lkCompare; simp) hP hW

@[simp] theorem fr_lkNote {P W : Nat} (b_ : State) (s : State) (i code : Nat) (more : List Nat := [])
    (hP : P &&& 0x2020 = 0x2020) (hW : W &&& 0x2 = 0x2) :
    Fr P W b_ (State.lkNote s i code more) ↔ Fr P W b_ s := Fr.iff (p := 0x2020) (w := 0x2) (by
  unfold State.lkNote; simp) hP hW

@[simp] theorem fr_lkStop {P W : Nat} (b_ : State) (s : State)
    (hP : P &&& 0x20 = 0x20) (hW : W &&& 0x1000000000 = 0x1000000000) :
    Fr P W b_ (State.lkStop s) ↔ Fr P W b_ s := Fr.iff (p := 0x20) (w := 0x1000000000) (by
  unfold State.lkStop; simp) hP hW

@[simp] theorem fr_lkStart {P W : Nat} (b_ : State) (s : State)
    (hP : P &&& 0x20 = 0x20) (hW : W &&& 0x1000000000 = 0x1000000000) :
    Fr P W b_ (State.lkStart s) ↔ Fr P W b_ s := Fr.iff (p := 0x20) (w := 0x1000000000) (by
  unfold State.lkStart; simp) hP hW

@[simp] theorem fr_lkClass {P W : Nat} (b_ : State) (s : State) (i c stage write : Nat)
    (hP : P &&& 0x120 = 0x120) (hW : W &&& 0x2000000000 = 0x2000000000) :
    Fr P W b_ (State.lkClass s i c stage write) ↔ Fr P W b_ s := Fr.iff (p := 0x120) (w := 0x2000000000) (by
  unfold State.lkClass; simp) hP hW

@[simp] theorem fr_lkResult {P W : Nat} (b_ : State) (s : State) (w code : Nat)
    (hP : P &&& 0x20 = 0x20) (hW : W &&& 0x40000000000 = 0x40000000000) :
    Fr P W b_ (State.lkResult s w code) ↔ Fr P W b_ s := Fr.iff (p := 0x20) (w := 0x40000000000) (by
  unfold State.lkResult; simp) hP hW

@[simp] theorem fr_lkFatal {P W : Nat} (b_ : State) (s : State) (i c stage write : Nat)
    (hP : P &&& 0x140fa520 = 0x140fa520) (hW : W &&& 0x300a50440000043000100003 = 0x300a50440000043000100003) :
    Fr P W b_ (State.lkFatal s i c stage write) ↔ Fr P W b_ s := Fr.iff (p := 0x140fa520) (w :=
        0x300a50440000043000100003) (by
  unfold State.lkFatal; simp) hP hW

@[simp] theorem fr_lkHalt {P W : Nat} (b_ : State) (s : State) (i : Nat)
    (hP : P &&& 0x4000020 = 0x4000020) (hW : W &&& 0x41000000000 = 0x41000000000) :
    Fr P W b_ (State.lkHalt s i) ↔ Fr P W b_ s := Fr.iff (p := 0x4000020) (w := 0x41000000000) (by
  unfold State.lkHalt; simp) hP hW

@[simp] theorem fr_lkResume {P W : Nat} (b_ : State) (s : State) (i : Nat)
    (hP : P &&& 0x4000020 = 0x4000020) (hW : W &&& 0x41000000000 = 0x41000000000) :
    Fr P W b_ (State.lkResume s i) ↔ Fr P W b_ s := Fr.iff (p := 0x4000020) (w := 0x41000000000) (by
  unfold State.lkResume; simp) hP hW

@[simp] theorem fr_lkTransient {P W : Nat} (b_ : State) (s : State) (i : Nat)
    (hP : P &&& 0x140fa520 = 0x140fa520) (hW : W &&& 0x300a50440000047000100003 = 0x300a50440000047000100003) :
    Fr P W b_ (State.lkTransient s i) ↔ Fr P W b_ s := Fr.iff (p := 0x140fa520) (w := 0x300a50440000047000100003) (by
  unfold State.lkTransient; simp) hP hW

@[simp] theorem fr_lkInjected {P W : Nat} (b_ : State) (s : State) (i : Nat) (xOk yOk : Bool)
    (hP : P &&& 0x140fa520 = 0x140fa520) (hW : W &&& 0x300a50440000043000100003 = 0x300a50440000043000100003) :
    Fr P W b_ (State.lkInjected s i xOk yOk) ↔ Fr P W b_ s := Fr.iff (p := 0x140fa520) (w := 0x300a50440000043000100003) (by
  unfold State.lkInjected; simp) hP hW

@[simp] theorem fr_lkSettle {P W : Nat} (b_ : State) (s : State) (i : Nat)
    (hP : P &&& 0x140fa520 = 0x140fa520) (hW : W &&& 0x300a50440000047000100003 = 0x300a50440000047000100003) :
    Fr P W b_ (State.lkSettle s i) ↔ Fr P W b_ s := Fr.iff (p := 0x140fa520) (w := 0x300a50440000047000100003) (by
  unfold State.lkSettle; simp; (repeat' split) <;> simp) hP hW

@[simp] theorem fr_lkMismatch {P W : Nat} (b_ : State) (s : State) (i : Nat) (x y : Bool) (stage write : Nat)
    (hP : P &&& 0x4000020 = 0x4000020) (hW : W &&& 0x5000000000 = 0x5000000000) :
    Fr P W b_ (State.lkMismatch s i x y stage write) ↔ Fr P W b_ s := Fr.iff (p := 0x4000020) (w := 0x5000000000) (by
  unfold State.lkMismatch; simp) hP hW

theorem fr_execLockstepMismatch (i : Fin 5) (x y : Bool) (stage : Fin 5) (write : Nat) (s : State) : FrO 0x4000020
    0x5000000000 s (execLockstepMismatch i x y stage write s) := by
  unfold execLockstepMismatch; simp

@[simp] theorem fr_lkChecked {P W : Nat} (b_ : State) (s : State) (i : Nat)
    (hP : P &&& 0x140fa520 = 0x140fa520) (hW : W &&& 0x300a50440000043000100003 = 0x300a50440000043000100003) :
    Fr P W b_ (State.lkChecked s i) ↔ Fr P W b_ s := Fr.iff (p := 0x140fa520) (w := 0x300a50440000043000100003) (by
  unfold State.lkChecked; simp; (repeat' split) <;> simp) hP hW

@[simp] theorem fr_lkRerun {P W : Nat} (b_ : State) (s : State) (i write stage : Nat)
    (hP : P &&& 0x140fa520 = 0x140fa520) (hW : W &&& 0x300a50440000043000100003 = 0x300a50440000043000100003) :
    Fr P W b_ (State.lkRerun s i write stage) ↔ Fr P W b_ s := Fr.iff (p := 0x140fa520) (w :=
        0x300a50440000043000100003) (by
  unfold State.lkRerun; simp; (repeat' split) <;> simp) hP hW

theorem fr_execRerunComplete (i : Fin 5) (r : Rerun) (s : State) : FrO 0x140fa520 0x300a50440000047000100003 s
    (execRerunComplete i r s) := by
  unfold execRerunComplete; simp; (repeat' split) <;> simp

theorem fr_execCompareCountDone (i : Fin 5) (s : State) : FrO 0x20 0x1000000000 s (execCompareCountDone i s) := by
  unfold execCompareCountDone; (repeat' split) <;> (try simp) <;> (repeat' split) <;> simp_all

@[simp] theorem fr_lkFirstCommit {P W : Nat} (b_ : State) (s : State)
    (hP : P &&& 0x20 = 0x20) (hW : W &&& 0x1000000000 = 0x1000000000) :
    Fr P W b_ (State.lkFirstCommit s) ↔ Fr P W b_ s := Fr.iff (p := 0x20) (w := 0x1000000000) (by
  unfold State.lkFirstCommit; simp) hP hW

@[simp] theorem fr_lkInjectCheck {P W : Nat} (b_ : State) (s : State) (i : Nat) (xOk yOk : Bool)
    (hP : P &&& 0x140fa520 = 0x140fa520) (hW : W &&& 0x300a50440000047000100003 = 0x300a50440000047000100003) :
    Fr P W b_ (State.lkInjectCheck s i xOk yOk) ↔ Fr P W b_ s := Fr.iff (p := 0x140fa520) (w :=
        0x300a50440000047000100003) (by
  unfold State.lkInjectCheck; simp) hP hW

@[simp] theorem fr_lkTested {P W : Nat} (b_ : State) (s : State) (i : Nat)
    (hP : P &&& 0x4000020 = 0x4000020) (hW : W &&& 0x1000000000 = 0x1000000000) :
    Fr P W b_ (State.lkTested s i) ↔ Fr P W b_ s := Fr.iff (p := 0x4000020) (w := 0x1000000000) (by
  unfold State.lkTested; simp) hP hW

@[simp] theorem fr_lkInject {P W : Nat} (b_ : State) (s : State) (i : Nat) (xOk yOk : Bool)
    (hP : P &&& 0x140fa520 = 0x140fa520) (hW : W &&& 0x300a50440000047000100003 = 0x300a50440000047000100003) :
    Fr P W b_ (State.lkInject s i xOk yOk) ↔ Fr P W b_ s := Fr.iff (p := 0x140fa520) (w := 0x300a50440000047000100003) (by
  unfold State.lkInject; simp) hP hW

theorem fr_execComparatorInjection (i : Fin 5) (xOk yOk : Bool) (s : State) : FrO 0x140fa520 0x300a50440000047000100003
    s (execComparatorInjection i xOk yOk s) := by
  unfold execComparatorInjection; simp

@[simp] theorem fr_orderSplit {P W : Nat} (b_ : State) (s : State) (w i : Nat)
    (hP : P &&& 0x4000020 = 0x4000020) (hW : W &&& 0x41000000000 = 0x41000000000) :
    Fr P W b_ (State.orderSplit s w i) ↔ Fr P W b_ s := Fr.iff (p := 0x4000020) (w := 0x41000000000) (by
  unfold State.orderSplit; simp) hP hW

@[simp] theorem fr_lkCheckpoint {P W : Nat} (b_ : State) (s : State) (i : Nat)
    (hP : P &&& 0x200080010 = 0x200080010) (hW : W &&& 0x0 = 0x0) :
    Fr P W b_ (State.lkCheckpoint s i) ↔ Fr P W b_ s := Fr.iff (p := 0x200080010) (w := 0x0) (by
  unfold State.lkCheckpoint; (repeat' split) <;> simp) hP hW

theorem fr_execSplitDrainDone (i : Fin 5) (s : State) : FrO 0x204082130 0x45000000002 s (execSplitDrainDone i s) := by
  unfold execSplitDrainDone; simp

theorem fr_execSplitDrainTimeout (i : Fin 5) (s : State) : FrO 0x4002020 0x41000000002 s (execSplitDrainTimeout i s) := by
  unfold execSplitDrainTimeout; simp

@[simp] theorem fr_orderRejoin {P W : Nat} (b_ : State) (s : State) (w i : Nat)
    (hP : P &&& 0x4000020 = 0x4000020) (hW : W &&& 0x40000000000 = 0x40000000000) :
    Fr P W b_ (State.orderRejoin s w i) ↔ Fr P W b_ s := Fr.iff (p := 0x4000020) (w := 0x40000000000) (by
  unfold State.orderRejoin; simp) hP hW

theorem fr_execLkRejoin (w : Writer) (i : Fin 8) (s : State) : FrO 0x4000020 0x40000000000 s (execLkRejoin w i s) := by
  unfold execLkRejoin; simp

theorem fr_execRejoinStop (i : Fin 5) (forced : Bool) (s : State) : FrO 0x4002120 0x41000000002 s (execRejoinStop i
    forced s) := by
  unfold execRejoinStop; simp

@[simp] theorem fr_orderTest {P W : Nat} (b_ : State) (s : State) (w i : Nat)
    (hP : P &&& 0x20 = 0x20) (hW : W &&& 0x40000000000 = 0x40000000000) :
    Fr P W b_ (State.orderTest s w i) ↔ Fr P W b_ s := Fr.iff (p := 0x20) (w := 0x40000000000) (by
  unfold State.orderTest; simp) hP hW

@[simp] theorem fr_orderInject {P W : Nat} (b_ : State) (s : State) (w i : Nat) (xOk yOk : Bool)
    (hP : P &&& 0x140fa520 = 0x140fa520) (hW : W &&& 0x300a50440000047000100003 = 0x300a50440000047000100003) :
    Fr P W b_ (State.orderInject s w i xOk yOk) ↔ Fr P W b_ s := Fr.iff (p := 0x140fa520) (w :=
        0x300a50440000047000100003) (by
  unfold State.orderInject; simp) hP hW

theorem fr_execLkInject (w : Writer) (i : Fin 8) (xOk yOk : Bool) (s : State) : FrO 0x140fa520
    0x300a50440000047000100003 s (execLkInject w i xOk yOk s) := by
  unfold execLkInject; simp

theorem fr_execDebugHaltRequest (i : Fin 5) (s : State) : FrO 0x4002020 0x41000000002 s (execDebugHaltRequest i s) := by
  unfold execDebugHaltRequest; simp

theorem fr_execDebugResume (i : Fin 5) (s : State) : FrO 0x20 0x1000000000 s (execDebugResume i s) := by
  unfold execDebugResume; simp

end Sys2Proof.Machine
end

