-- ==== Sys2Proof/Laws/FrameResets.lean ====
section
/-! SUPPORT. What the functions of Machine/Resets.lean may change: for each, as bit masks, the parts of the state and the registers. -/

namespace Sys2Proof.Machine

@[simp] theorem fr_saveRetained {P W : Nat} (b_ : State) (s : State)
    (hP : P &&& 0x9000 = 0x9000) (hW : W &&& 0x0 = 0x0) :
    Fr P W b_ (State.saveRetained s) ↔ Fr P W b_ s := Fr.iff (p := 0x9000) (w := 0x0) (by
  unfold State.saveRetained; simp) hP hW

@[simp] theorem fr_flushKey {P W : Nat} (b_ : State) (s : State)
    (hP : P &&& 0x4b120 = 0x4b120) (hW : W &&& 0x3f800000 = 0x3f800000) :
    Fr P W b_ (State.flushKey s) ↔ Fr P W b_ s := Fr.iff (p := 0x4b120) (w := 0x3f800000) (by
  unfold State.flushKey; simp) hP hW

@[simp] theorem fr_captureSafe {P W : Nat} (b_ : State) (s : State)
    (hP : P &&& 0x100000 = 0x100000) (hW : W &&& 0x0 = 0x0) :
    Fr P W b_ (State.captureSafe s) ↔ Fr P W b_ s := Fr.iff (p := 0x100000) (w := 0x0) (by
  unfold State.captureSafe; simp) hP hW

@[simp] theorem fr_ucSafe {P W : Nat} (b_ : State) (s : State) (n : Nat)
    (hP : P &&& 0x100020 = 0x100020) (hW : W &&& 0x8000000000000000000000000000000 = 0x8000000000000000000000000000000) :
    Fr P W b_ (State.ucSafe s n) ↔ Fr P W b_ s := Fr.iff (p := 0x100020) (w := 0x8000000000000000000000000000000) (by
  unfold State.ucSafe; simp; (repeat' split) <;> simp) hP hW

@[simp] theorem fr_dcSafe {P W : Nat} (b_ : State) (s : State) (m : Nat)
    (hP : P &&& 0x100020 = 0x100020) (hW : W &&& 0x100000000000000000000000000000000 =
        0x100000000000000000000000000000000) :
    Fr P W b_ (State.dcSafe s m) ↔ Fr P W b_ s := Fr.iff (p := 0x100020) (w := 0x100000000000000000000000000000000) (by
  unfold State.dcSafe; simp; (repeat' split) <;> simp) hP hW

@[simp] theorem fr_applySafe {P W : Nat} (b_ : State) (s : State)
    (hP : P &&& 0x100020 = 0x100020) (hW : W &&& 0x108000000000000000000000000000000 =
        0x108000000000000000000000000000000) :
    Fr P W b_ (State.applySafe s) ↔ Fr P W b_ s := Fr.iff (p := 0x100020) (w := 0x108000000000000000000000000000000) (by
  unfold State.applySafe; simp) hP hW

theorem fr_execCalderaHoldExpire (s : State) : FrO 0x108020 0x108000000000000000000000000000000 s
    (execCalderaHoldExpire s) := by
  unfold execCalderaHoldExpire; simp

@[simp] theorem fr_showLife {P W : Nat} (b_ : State) (s : State)
    (hP : P &&& 0x20 = 0x20) (hW : W &&& 0x200 = 0x200) :
    Fr P W b_ (State.showLife s) ↔ Fr P W b_ s := Fr.iff (p := 0x20) (w := 0x200) (by
  unfold State.showLife; simp) hP hW

@[simp] theorem fr_cleared {P W : Nat} (b_ s : State) (hP : P &&& 0xfffffe7e0 = 0xfffffe7e0) (hW : W &&&
    0x7ffffffffffffffffffffffffffffffff = 0x7ffffffffffffffffffffffffffffffff) :
    Fr P W b_ s.cleared ↔ Fr P W b_ s := Fr.iff (p := 0xfffffe7e0) (w := 0x7ffffffffffffffffffffffffffffffff) ⟨fun p hp
        => by cases p <;> first | rfl | exact absurd hp (by decide), fun n i hn => absurd hn (by cases n <;> decide)⟩ hP hW

@[simp] theorem fr_gyCount {P W : Nat} (b_ : State) (s : State)
    (hP : P &&& 0x20 = 0x20) (hW : W &&& 0x1000000000000000000000 = 0x1000000000000000000000) :
    Fr P W b_ (State.gyCount s) ↔ Fr P W b_ s := Fr.iff (p := 0x20) (w := 0x1000000000000000000000) (by
  unfold State.gyCount; simp) hP hW

@[simp] theorem fr_clearPowered {P W : Nat} (b_ s : State) (hP : P &&& 0x7ffffe7e0 = 0x7ffffe7e0) (hW : W &&&
    0x7ffffffffffffffffffffffffffffffff = 0x7ffffffffffffffffffffffffffffffff) :
    Fr P W b_ s.clearPowered ↔ Fr P W b_ s := Fr.iff (p := 0x7ffffe7e0) (w := 0x7ffffffffffffffffffffffffffffffff) ⟨fun
        p hp => by cases p <;> first | rfl | exact absurd hp (by decide), fun n i hn => absurd hn (by cases n <;>
            decide)⟩ hP hW

@[simp] theorem fr_clearUnpowered {P W : Nat} (b_ s : State) (hP : P &&& 0x7ffffe7e0 = 0x7ffffe7e0) (hW : W &&&
    0x7ffffffffffffffffffffffffffffffff = 0x7ffffffffffffffffffffffffffffffff) :
    Fr P W b_ s.clearUnpowered ↔ Fr P W b_ s := Fr.iff (p := 0x7ffffe7e0) (w := 0x7ffffffffffffffffffffffffffffffff)
        ⟨fun p hp => by cases p <;> first | rfl | exact absurd hp (by decide), fun n i hn => absurd hn (by cases n <;>
            decide)⟩ hP hW

@[simp] theorem fr_cause {P W : Nat} (b_ : State) (s : State) (code : Nat) (caldera : Bool) (powered : Nat)
    (hP : P &&& 0x20 = 0x20) (hW : W &&& 0x4 = 0x4) :
    Fr P W b_ (State.cause s code caldera powered) ↔ Fr P W b_ s := Fr.iff (p := 0x20) (w := 0x4) (by
  unfold State.cause; simp) hP hW

@[simp] theorem driveClaim_pw (s : State) (b : Bool) : (s.driveClaim b).pw = s.pw := by
  unfold State.driveClaim; dsimp only; split <;> simp

@[simp] theorem fr_resetClaim {P W : Nat} (b_ : State) (s : State)
    (hP : P &&& 0x88020 = 0x88020) (hW : W &&& 0x200000000000000000000000 = 0x200000000000000000000000) :
    Fr P W b_ (State.resetClaim s) ↔ Fr P W b_ s := Fr.iff (p := 0x88020) (w := 0x200000000000000000000000) (by
  clear hP hW; unfold State.resetClaim; simp) hP hW

@[simp] theorem fr_resetOutputs {P W : Nat} (b_ : State) (s : State)
    (hP : P &&& 0x108020 = 0x108020) (hW : W &&& 0x108000000000000000000000000000000 =
        0x108000000000000000000000000000000) :
    Fr P W b_ (State.resetOutputs s) ↔ Fr P W b_ s := Fr.iff (p := 0x108020) (w := 0x108000000000000000000000000000000) (by
  unfold State.resetOutputs; simp) hP hW

@[simp] theorem fr_resetPowered {P W : Nat} (b_ : State) (s : State) (code : Nat)
    (hP : P &&& 0x7fffff7e0 = 0x7fffff7e0) (hW : W &&& 0x7ffffffffffffffffffffffffffffffff =
        0x7ffffffffffffffffffffffffffffffff) :
    Fr P W b_ (State.resetPowered s code) ↔ Fr P W b_ s := Fr.iff (p := 0x7fffff7e0) (w :=
        0x7ffffffffffffffffffffffffffffffff) (by
  clear hP hW; unfold State.resetPowered; (repeat' split) <;> (try simp) <;> (repeat' split) <;> simp_all) hP hW

@[simp] theorem fr_resetUnpowered {P W : Nat} (b_ : State) (s : State) (code : Nat)
    (hP : P &&& 0x7ffffe7e0 = 0x7ffffe7e0) (hW : W &&& 0x7ffffffffffffffffffffffffffffffff =
        0x7ffffffffffffffffffffffffffffffff) :
    Fr P W b_ (State.resetUnpowered s code) ↔ Fr P W b_ s := Fr.iff (p := 0x7ffffe7e0) (w :=
        0x7ffffffffffffffffffffffffffffffff) (by
  unfold State.resetUnpowered; simp) hP hW

theorem fr_execPowerOnReset (f : Feed) (s : State) : FrO 0x7ffffe7e0 0x7ffffffffffffffffffffffffffffffff s
    (execPowerOnReset f s) := by
  unfold execPowerOnReset; simp; (repeat' split) <;> simp

theorem fr_execBrownOutReset (s : State) : FrO 0x7ffffe7e2 0x7ffffffffffffffffffffffffffffffff s (execBrownOutReset s) := by
  unfold execBrownOutReset; simp

theorem fr_execBrownOutLatchExpire (s : State) : FrO 0x8000 0x0 s (execBrownOutLatchExpire s) := by
  unfold execBrownOutLatchExpire; simp

theorem fr_execResetContact (s : State) : FrO 0x7fffff7e0 0x7ffffffffffffffffffffffffffffffff s (execResetContact s) := by
  unfold execResetContact; simp

theorem fr_execResetContactRelease (s : State) : FrO 0x8000 0x0 s (execResetContactRelease s) := by
  unfold execResetContactRelease; simp

theorem fr_execWatchdogReset (s : State) : FrO 0x7fffff7e0 0x7ffffffffffffffffffffffffffffffff s (execWatchdogReset s) := by
  unfold execWatchdogReset; simp

theorem fr_execWatchdogWarning (s : State) : FrO 0x100 0x0 s (execWatchdogWarning s) := by
  unfold execWatchdogWarning; simp

@[simp] theorem fr_kick {P W : Nat} (b_ : State) (s : State) (v : Nat)
    (hP : P &&& 0x8000 = 0x8000) (hW : W &&& 0x0 = 0x0) :
    Fr P W b_ (State.kick s v) ↔ Fr P W b_ s := Fr.iff (p := 0x8000) (w := 0x0) (by
  unfold State.kick; simp) hP hW

theorem fr_execWdogKick (v : BitVec 16) (s : State) : FrO 0x8000 0x0 s (execWdogKick v s) := by
  unfold execWdogKick; simp

theorem fr_execLockstepFatalReset (s : State) : FrO 0x7fffff7e0 0x7ffffffffffffffffffffffffffffffff s
    (execLockstepFatalReset s) := by
  unfold execLockstepFatalReset; simp

theorem fr_execSupervisorReset (s : State) : FrO 0x7fffff7e0 0x7ffffffffffffffffffffffffffffffff s (execSupervisorReset
    s) := by
  unfold execSupervisorReset; simp

theorem fr_execPartnerResetReceived (s : State) : FrO 0x7fffff7e0 0x7ffffffffffffffffffffffffffffffff s
    (execPartnerResetReceived s) := by
  unfold execPartnerResetReceived; simp

theorem fr_execInsertionResetEnd (s : State) : FrO 0x8020 0x1000000000 s (execInsertionResetEnd s) := by
  unfold execInsertionResetEnd; simp

theorem fr_execResetDurationEnd (s : State) : FrO 0x8020 0x1000000000 s (execResetDurationEnd s) := by
  unfold execResetDurationEnd; simp; (repeat' split) <;> simp

@[simp] theorem feedFlag_reg (f : Feed) : (feedFlag f).reg = .RST_POWER := by cases f <;> exact Eq.refl _
@[simp] theorem feedVolts_reg (f : Feed) : (feedVolts f).reg = .RST_POWER := by cases f <;> exact Eq.refl _

@[simp] theorem fr_loseFeed {P W : Nat} (b_ : State) (s : State) (f : Feed)
    (hP : P &&& 0xa130 = 0xa130) (hW : W &&& 0x800020 = 0x800020) :
    Fr P W b_ (s.loseFeed f) ↔ Fr P W b_ s := Fr.iff (p := 0xa130) (w := 0x800020) (by
  clear hP hW; unfold State.loseFeed; simp) hP hW

theorem fr_execFeedLost (f : Feed) (s : State) : FrO 0xa130 0x800020 s (execFeedLost f s) := by
  unfold execFeedLost; simp

theorem fr_execFeedOvervoltage (f : Feed) (s : State) : FrO 0xa130 0x800020 s (execFeedOvervoltage f s) := by
  unfold execFeedOvervoltage; simp

@[simp] theorem fr_feedCarries {P W : Nat} (b_ : State) (s : State)
    (hP : P &&& 0x8020 = 0x8020) (hW : W &&& 0x800000 = 0x800000) :
    Fr P W b_ (State.feedCarries s) ↔ Fr P W b_ s := Fr.iff (p := 0x8020) (w := 0x800000) (by
  unfold State.feedCarries; simp) hP hW

theorem fr_execFeedReturn (f : Feed) (volts : Nat) (s : State) : FrO 0xa120 0x800020 s (execFeedReturn f volts s) := by
  unfold execFeedReturn; simp

theorem fr_execHoldupEnter (s : State) : FrO 0x100fb520 0x300a5044000000003f800022 s (execHoldupEnter s) := by
  unfold execHoldupEnter; simp

theorem fr_execHoldupKeyWritesEnd (s : State) : FrO 0xcb120 0x10000000000000000f800000 s (execHoldupKeyWritesEnd s) := by
  unfold execHoldupKeyWritesEnd; simp

theorem fr_execHoldupEnd (s : State) : FrO 0x7fffff7e0 0x7ffffffffffffffffffffffffffffffff s (execHoldupEnd s) := by
  unfold execHoldupEnd; simp

theorem fr_execHoldupChargeCross (percent : Nat) (s : State) : FrO 0x2120 0x20 s (execHoldupChargeCross percent s) := by
  unfold execHoldupChargeCross; simp

theorem fr_execHoldupCapMeasure (fall : Nat) (s : State) : FrO 0xa120 0x20 s (execHoldupCapMeasure fall s) := by
  unfold execHoldupCapMeasure; simp

theorem fr_execRetainedCommit (s : State) : FrO 0x49000 0x0 s (execRetainedCommit s) := by
  unfold execRetainedCommit; simp

@[simp] theorem fr_toDormant {P W : Nat} (b_ : State) (s : State)
    (hP : P &&& 0x3a120 = 0x3a120) (hW : W &&& 0x10440000000000000020 = 0x10440000000000000020) :
    Fr P W b_ (State.toDormant s) ↔ Fr P W b_ s := Fr.iff (p := 0x3a120) (w := 0x10440000000000000020) (by
  clear hP hW; unfold State.toDormant; (repeat' split) <;> (try simp) <;> (repeat' split) <;> simp_all) hP hW

theorem fr_execEnterDormant (s : State) : FrO 0x3a120 0x10440000000000000020 s (execEnterDormant s) := by
  unfold execEnterDormant; simp

theorem fr_execTempCheck (temp : Int) (s : State) : FrO 0x100fa520 0x300a50440000000000000002 s (execTempCheck temp s) := by
  unfold execTempCheck; simp

theorem fr_execEventLatch (n : Fin 128) (s : State) : FrO 0x120 0x40 s (execEventLatch n s) := by
  unfold execEventLatch; simp

@[simp] theorem fr_removeOpens {P W : Nat} (b_ : State) (s : State)
    (hP : P &&& 0x100fa520 = 0x100fa520) (hW : W &&& 0x300a50440000000000000002 = 0x300a50440000000000000002) :
    Fr P W b_ (State.removeOpens s) ↔ Fr P W b_ s := Fr.iff (p := 0x100fa520) (w := 0x300a50440000000000000002) (by
  unfold State.removeOpens; simp) hP hW

theorem fr_execRemoveOpen (s : State) : FrO 0x100fa520 0x300a50440000000000000002 s (execRemoveOpen s) := by
  unfold execRemoveOpen; simp

theorem fr_execRemoveClose (s : State) : FrO 0x7fffff7e0 0x7ffffffffffffffffffffffffffffffff s (execRemoveClose s) := by
  unfold execRemoveClose; simp

@[simp] theorem fr_claimParts {P W : Nat} (b_ : State) (s : State)
    (hP : P &&& 0x3511fe520 = 0x3511fe520) (hW : W &&& 0x108008000300c40400000000000000002 =
        0x108008000300c40400000000000000002) :
    Fr P W b_ (State.claimParts s) ↔ Fr P W b_ s := Fr.iff (p := 0x3511fe520) (w := 0x108008000300c40400000000000000002) (by
  unfold State.claimParts; simp) hP hW

theorem fr_execInsertedOpen (s : State) : FrO 0x3511ff522 0x108008000300e5044000000003f800002 s (execInsertedOpen s) := by
  unfold execInsertedOpen; simp

theorem fr_execInsertedClose (s : State) : FrO 0x8000 0x0 s (execInsertedClose s) := by
  unfold execInsertedClose; simp

end Sys2Proof.Machine
end

