-- ==== Sys2Proof/Laws/FrameGeyser.lean ====
section
/-! SUPPORT. What the functions of Machine/Geyser.lean may change: for each, as bit masks, the parts of the state and the registers. -/

namespace Sys2Proof.Machine

@[simp] theorem fr_setGy1 {P W : Nat} (b_ : State) (s : State) (c : Nat) (x : GyChan)
    (hP : P &&& 0x200000 = 0x200000) (hW : W &&& 0x0 = 0x0) :
    Fr P W b_ (State.setGy1 s c x) ↔ Fr P W b_ s := Fr.iff (p := 0x200000) (w := 0x0) (by
  unfold State.setGy1; simp) hP hW

@[simp] theorem fr_setGyRun {P W : Nat} (b_ : State) (s : State) (k : Nat) (x : GyRun)
    (hP : P &&& 0x200000 = 0x200000) (hW : W &&& 0x0 = 0x0) :
    Fr P W b_ (State.setGyRun s k x) ↔ Fr P W b_ s := Fr.iff (p := 0x200000) (w := 0x0) (by
  unfold State.setGyRun; simp) hP hW

@[simp] theorem fr_gyLoad {P W : Nat} (b_ : State) (s : State)
    (hP : P &&& 0x20 = 0x20) (hW : W &&& 0x12000000000000000000000 = 0x12000000000000000000000) :
    Fr P W b_ (State.gyLoad s) ↔ Fr P W b_ s := Fr.iff (p := 0x20) (w := 0x12000000000000000000000) (by
  unfold State.gyLoad; simp) hP hW

@[simp] theorem fr_gyLose {P W : Nat} (b_ s : State) (f : Field) (hP : P &&& 0x120 = 0x120) (hF : W &&& rb f.reg = rb
    f.reg) :
    Fr P W b_ (s.gyLose f) ↔ Fr P W b_ s := by
  unfold State.gyLose; rw [fr_ev _ _ _ (land_trans hP rfl) (Nat.and_zero W), fr_bump _ _ _ _ _ (land_trans hP rfl) hF]

@[simp] theorem fr_gyMarks {P W : Nat} (b_ : State) (s : State) (was : Nat)
    (hP : P &&& 0x200000 = 0x200000) (hW : W &&& 0x0 = 0x0) :
    Fr P W b_ (State.gyMarks s was) ↔ Fr P W b_ s := Fr.iff (p := 0x200000) (w := 0x0) (by
  unfold State.gyMarks; simp) hP hW

@[simp] theorem fr_gyFilled {P W : Nat} (b_ : State) (s : State)
    (hP : P &&& 0x200020 = 0x200020) (hW : W &&& 0x1000000000000000000000 = 0x1000000000000000000000) :
    Fr P W b_ (State.gyFilled s) ↔ Fr P W b_ s := Fr.iff (p := 0x200020) (w := 0x1000000000000000000000) (by
  unfold State.gyFilled; simp) hP hW

theorem fr_gyEvict (s u : State) (h : s.gyEvict = some u) : Fr 0x200120 0x80000000000000000000000 s u := by
  unfold State.gyEvict at h
  split at h
  · contradiction
  · dsimp only at h
    injection h with h
    subst h
    simp

theorem fr_gyPass (s : State) (c : Nat) (b : GyBlk) (u : State) (h : s.gyPass c b = some u) : Fr 0x200120
    0x81000000000000000000000 s u := by
  unfold State.gyPass at h
  dsimp only at h
  split at h
  · injection h with h
    subst h
    simp
  · cases he : s.gyEvict with
    | none => simp [he] at h
    | some v =>
      simp only [he, Option.map_some, Option.some.injEq] at h
      subst h
      simpa using (fr_gyEvict s v he).mono rfl rfl

@[simp] theorem fr_gyArchive {P W : Nat} (b_ : State) (s : State) (c : Nat) (b : GyBlk)
    (hP : P &&& 0x200120 = 0x200120) (hW : W &&& 0x81000000000000000000000 = 0x81000000000000000000000) :
    Fr P W b_ (s.gyArchive c b) ↔ Fr P W b_ s := Fr.iff (p := 0x200120) (w := 0x81000000000000000000000) (by
  clear hP hW; unfold State.gyArchive
  split
  · rename_i t h
    split at h
    · exact (fr_gyPass s c b t h).mono rfl rfl
    · contradiction
  · split <;> simp) hP hW

@[simp] theorem fr_gyDrain {P W : Nat} (b_ : State) (s : State) (n : Nat)
    (hP : P &&& 0x200120 = 0x200120) (hW : W &&& 0x81000000000000000000000 = 0x81000000000000000000000) :
    Fr P W b_ (s.gyDrain n) ↔ Fr P W b_ s := Fr.iff (p := 0x200120) (w := 0x81000000000000000000000) (by
  clear hP hW; 
  have key : ∀ c_, Fr 0x200120 0x81000000000000000000000 c_ (s.gyDrain n) ↔ Fr 0x200120 0x81000000000000000000000 c_ s := by
    induction n generalizing s with
    | zero => intro c_; unfold State.gyDrain; simp
    | succ n ih =>
      intro c_
      unfold State.gyDrain
      split
      · simp
      · split
        · rename_i t h
          rw [ih, ← Fr.iff (fr_gyPass s _ _ t h) rfl rfl]
          simp
        · simp
  exact (key _).2 (by simp)) hP hW

@[simp] theorem fr_gyClose {P W : Nat} (b_ : State) (s : State) (c : Nat)
    (hP : P &&& 0x200120 = 0x200120) (hW : W &&& 0x81000000000000000000000 = 0x81000000000000000000000) :
    Fr P W b_ (State.gyClose s c) ↔ Fr P W b_ s := Fr.iff (p := 0x200120) (w := 0x81000000000000000000000) (by
  unfold State.gyClose; simp; (repeat' split) <;> simp) hP hW

@[simp] theorem fr_gyOpen {P W : Nat} (b_ : State) (s : State) (c : Nat)
    (hP : P &&& 0x200120 = 0x200120) (hW : W &&& 0x80000000000000000000000 = 0x80000000000000000000000) :
    Fr P W b_ (State.gyOpen s c).1 ↔ Fr P W b_ s := Fr.iff (p := 0x200120) (w := 0x80000000000000000000000) (by
  unfold State.gyOpen; simp) hP hW

@[simp] theorem fr_setGyWin {P W : Nat} (b_ : State) (s : State) (i : Nat) (w : GyWin)
    (hP : P &&& 0x200000 = 0x200000) (hW : W &&& 0x0 = 0x0) :
    Fr P W b_ (State.setGyWin s i w) ↔ Fr P W b_ s := Fr.iff (p := 0x200000) (w := 0x0) (by
  unfold State.setGyWin; simp) hP hW

@[simp] theorem fr_gyRing {P W : Nat} (b_ : State) (s : State) (c : Nat) (x : GyRingS)
    (hP : P &&& 0x200000 = 0x200000) (hW : W &&& 0x0 = 0x0) :
    Fr P W b_ (State.gyRing s c x) ↔ Fr P W b_ s := Fr.iff (p := 0x200000) (w := 0x0) (by
  unfold State.gyRing; simp; (repeat' split) <;> simp) hP hW

@[simp] theorem fr_gyAppend {P W : Nat} (b_ : State) (s : State) (c : Nat) (g : GyChCfg) (x : GyRingS)
    (hP : P &&& 0x200120 = 0x200120) (hW : W &&& 0x81000000000000000000000 = 0x81000000000000000000000) :
    Fr P W b_ (State.gyAppend s c g x) ↔ Fr P W b_ s := Fr.iff (p := 0x200120) (w := 0x81000000000000000000000) (by
  unfold State.gyAppend; simp; (repeat' split) <;> simp) hP hW

@[simp] theorem fr_gyStore {P W : Nat} (b_ : State) (s : State) (c : Nat) (g : GyChCfg) (t ts : Instant) (data : List
    Byte) (f : Nat) (bad : Bool)
    (hP : P &&& 0x200120 = 0x200120) (hW : W &&& 0x81000000000000000000000 = 0x81000000000000000000000) :
    Fr P W b_ (State.gyStore s c g t ts data f bad) ↔ Fr P W b_ s := Fr.iff (p := 0x200120) (w :=
        0x81000000000000000000000) (by
  unfold State.gyStore; simp) hP hW

@[simp] theorem fr_gyDrop {P W : Nat} (b_ : State) (s : State) (c : Nat) (atTop : Bool)
    (hP : P &&& 0x200120 = 0x200120) (hW : W &&& 0x81000000000000000000000 = 0x81000000000000000000000) :
    Fr P W b_ (State.gyDrop s c atTop) ↔ Fr P W b_ s := Fr.iff (p := 0x200120) (w := 0x81000000000000000000000) (by
  unfold State.gyDrop; simp) hP hW

@[simp] theorem fr_setGyCond {P W : Nat} (b_ : State) (s : State) (n : Nat) (b : Bool)
    (hP : P &&& 0x20 = 0x20) (hW : W &&& 0xc000000000000000000000 = 0xc000000000000000000000) :
    Fr P W b_ (State.setGyCond s n b) ↔ Fr P W b_ s := Fr.iff (p := 0x20) (w := 0xc000000000000000000000) (by
  unfold State.setGyCond; simp) hP hW

@[simp] theorem fr_setGyPat {P W : Nat} (b_ : State) (s : State) (u : Nat) (p : GyPat)
    (hP : P &&& 0x200000 = 0x200000) (hW : W &&& 0x0 = 0x0) :
    Fr P W b_ (State.setGyPat s u p) ↔ Fr P W b_ s := Fr.iff (p := 0x200000) (w := 0x0) (by
  unfold State.setGyPat; simp) hP hW

@[simp] theorem fr_gyPatNow {P W : Nat} (b_ : State) (s : State) (p : PatternCfg)
    (hP : P &&& 0x200000 = 0x200000) (hW : W &&& 0x0 = 0x0) :
    Fr P W b_ (State.gyPatNow s p) ↔ Fr P W b_ s := Fr.iff (p := 0x200000) (w := 0x0) (by
  unfold State.gyPatNow; simp) hP hW

@[simp] theorem fr_gyCondNow {P W : Nat} (b_ : State) (s : State) (c src : Nat) (prev : Option Fl) (x : GyWord) (k :
    CondCfg)
    (hP : P &&& 0x20 = 0x20) (hW : W &&& 0xc000000000000000000000 = 0xc000000000000000000000) :
    Fr P W b_ (State.gyCondNow s c src prev x k) ↔ Fr P W b_ s := Fr.iff (p := 0x20) (w := 0xc000000000000000000000) (by
  unfold State.gyCondNow; simp) hP hW

@[simp] theorem fr_gyConds {P W : Nat} (b_ : State) (s : State) (c src : Nat) (x : GyWord)
    (hP : P &&& 0x200020 = 0x200020) (hW : W &&& 0xc000000000000000000000 = 0xc000000000000000000000) :
    Fr P W b_ (State.gyConds s c src x) ↔ Fr P W b_ s := Fr.iff (p := 0x200020) (w := 0xc000000000000000000000) (by
  unfold State.gyConds; simp; (repeat' split) <;> simp) hP hW

@[simp] theorem fr_gyCloseIv {P W : Nat} (b_ : State) (s : State) (c : Nat) (g : GyChCfg) (v : GyIv)
    (hP : P &&& 0x240130 = 0x240130) (hW : W &&& 0x83000000000000000000000 = 0x83000000000000000000000) :
    Fr P W b_ (State.gyCloseIv s c g v) ↔ Fr P W b_ s := Fr.iff (p := 0x240130) (w := 0x83000000000000000000000) (by
  unfold State.gyCloseIv; simp) hP hW

@[simp] theorem fr_gyMiss {P W : Nat} (b_ : State) (s : State) (c n : Nat)
    (hP : P &&& 0x200120 = 0x200120) (hW : W &&& 0x81000000000000000000000 = 0x81000000000000000000000) :
    Fr P W b_ (State.gyMiss s c n) ↔ Fr P W b_ s := Fr.iff (p := 0x200120) (w := 0x81000000000000000000000) (by
  unfold State.gyMiss; simp) hP hW

@[simp] theorem fr_gySkip {P W : Nat} (b_ : State) (s : State) (c : Nat) (g : GyChCfg) (n : Nat)
    (hP : P &&& 0x200120 = 0x200120) (hW : W &&& 0x81000000000000000000000 = 0x81000000000000000000000) :
    Fr P W b_ (State.gySkip s c g n) ↔ Fr P W b_ s := Fr.iff (p := 0x200120) (w := 0x81000000000000000000000) (by
  unfold State.gySkip; simp) hP hW

@[simp] theorem fr_gyCatch {P W : Nat} (b_ : State) (s : State) (c : Nat) (g : GyChCfg) (t : Instant)
    (hP : P &&& 0x240130 = 0x240130) (hW : W &&& 0x83000000000000000000000 = 0x83000000000000000000000) :
    Fr P W b_ (State.gyCatch s c g t) ↔ Fr P W b_ s := Fr.iff (p := 0x240130) (w := 0x83000000000000000000000) (by
  unfold State.gyCatch; simp; (repeat' split) <;> simp) hP hW

@[simp] theorem fr_gyRaw {P W : Nat} (b_ : State) (s : State) (c : Nat) (g : GyChCfg) (i : Nat) (x : Option GyWord)
    (hP : P &&& 0x200120 = 0x200120) (hW : W &&& 0x83000000000000000000000 = 0x83000000000000000000000) :
    Fr P W b_ (State.gyRaw s c g i x) ↔ Fr P W b_ s := Fr.iff (p := 0x200120) (w := 0x83000000000000000000000) (by
  unfold State.gyRaw; simp; (repeat' split) <;> simp) hP hW

@[simp] theorem fr_gyEnter {P W : Nat} (b_ : State) (s : State) (c : Nat) (g : GyChCfg) (i : Nat) (x : Option GyWord)
    (hP : P &&& 0x240130 = 0x240130) (hW : W &&& 0x83000000000000000000000 = 0x83000000000000000000000) :
    Fr P W b_ (State.gyEnter s c g i x) ↔ Fr P W b_ s := Fr.iff (p := 0x240130) (w := 0x83000000000000000000000) (by
  unfold State.gyEnter; simp; (repeat' split) <;> simp) hP hW

theorem fr_execCaptureSample (cc : Fin 64) (v : GySample) (s : State) : FrO 0x3c02d8130 0x8f0002c0000000000000000 s
    (execCaptureSample cc v s) := by
  unfold execCaptureSample; simp; (repeat' split) <;> simp

theorem fr_execGyIntervalClose (cc : Fin 64) (s : State) : FrO 0x240130 0x83000000000000000000000 s
    (execGyIntervalClose cc s) := by
  unfold execGyIntervalClose; simp; (repeat' split) <;> simp

@[simp] theorem fr_gyFills {P W : Nat} (b_ : State) (s : State) (stage : Nat)
    (hP : P &&& 0x200020 = 0x200020) (hW : W &&& 0x1000000000000000000000 = 0x1000000000000000000000) :
    Fr P W b_ (State.gyFills s stage) ↔ Fr P W b_ s := Fr.iff (p := 0x200020) (w := 0x1000000000000000000000) (by
  unfold State.gyFills; simp) hP hW

@[simp] theorem fr_gyRefactor {P W : Nat} (b_ : State) (s : State) (g : GyChCfg)
    (hP : P &&& 0x200120 = 0x200120) (hW : W &&& 0x83000000000000000000000 = 0x83000000000000000000000) :
    Fr P W b_ (State.gyRefactor s g) ↔ Fr P W b_ s := Fr.iff (p := 0x200120) (w := 0x83000000000000000000000) (by
  unfold State.gyRefactor; simp) hP hW

@[simp] theorem fr_setLevel {P W : Nat} (b_ : State) (s : State) (l : Nat) (code : Option Nat)
    (hP : P &&& 0x202120 = 0x202120) (hW : W &&& 0x83000000000000000000000 = 0x83000000000000000000000) :
    Fr P W b_ (State.setLevel s l code) ↔ Fr P W b_ s := Fr.iff (p := 0x202120) (w := 0x83000000000000000000000) (by
  unfold State.setLevel; simp; (repeat' split) <;> simp) hP hW

theorem fr_execGyLevelRise (stage : Nat) (s : State) : FrO 0x202120 0x83000000000000000000000 s (execGyLevelRise stage
    s) := by
  unfold execGyLevelRise; simp

theorem fr_execGyLevelFall (stage : Nat) (s : State) : FrO 0x202120 0x83000000000000000000000 s (execGyLevelFall stage
    s) := by
  unfold execGyLevelFall; simp

@[simp] theorem fr_setGyState {P W : Nat} (b_ : State) (s : State) (k v : Nat)
    (hP : P &&& 0x20 = 0x20) (hW : W &&& 0x10000000000000000000000 = 0x10000000000000000000000) :
    Fr P W b_ (State.setGyState s k v) ↔ Fr P W b_ s := Fr.iff (p := 0x20) (w := 0x10000000000000000000000) (by
  unfold State.setGyState; simp) hP hW

@[simp] theorem fr_gyRefuse {P W : Nat} (b_ : State) (s : State)
    (hP : P &&& 0x2120 = 0x2120) (hW : W &&& 0x80000000000000000000000 = 0x80000000000000000000000) :
    Fr P W b_ (State.gyRefuse s) ↔ Fr P W b_ s := Fr.iff (p := 0x2120) (w := 0x80000000000000000000000) (by
  unfold State.gyRefuse; simp) hP hW

@[simp] theorem fr_gyRoom {P W : Nat} (b_ : State) (s : State) (n : Nat)
    (hP : P &&& 0x200120 = 0x200120) (hW : W &&& 0x80000000000000000000000 = 0x80000000000000000000000) :
    Fr P W b_ (s.gyRoom n) ↔ Fr P W b_ s := Fr.iff (p := 0x200120) (w := 0x80000000000000000000000) (by
  clear hP hW; 
  have key : ∀ c_, Fr 0x200120 0x80000000000000000000000 c_ (s.gyRoom n) ↔ Fr 0x200120 0x80000000000000000000000 c_ s := by
    induction n generalizing s with
    | zero => intro c_; unfold State.gyRoom; simp
    | succ n ih =>
      intro c_
      unfold State.gyRoom
      split
      · split
        · rename_i t h
          rw [ih, Fr.iff (fr_gyEvict s t h) rfl rfl]
        · simp
      · simp
  exact (key _).2 (by simp)) hP hW

@[simp] theorem fr_gyMove {P W : Nat} (b_ : State) (s : State) (k : GySetCfg) (i c : Nat)
    (hP : P &&& 0x200000 = 0x200000) (hW : W &&& 0x0 = 0x0) :
    Fr P W b_ (State.gyMove s k i c) ↔ Fr P W b_ s := Fr.iff (p := 0x200000) (w := 0x0) (by
  unfold State.gyMove; simp) hP hW

@[simp] theorem fr_gyMoves {P W : Nat} (b_ : State) (s : State) (k : GySetCfg) (i : Nat)
    (hP : P &&& 0x200120 = 0x200120) (hW : W &&& 0x80000000000000000000000 = 0x80000000000000000000000) :
    Fr P W b_ (State.gyMoves s k i) ↔ Fr P W b_ s := Fr.iff (p := 0x200120) (w := 0x80000000000000000000000) (by
  unfold State.gyMoves; simp) hP hW

@[simp] theorem fr_gyFreeze {P W : Nat} (b_ : State) (s : State) (k : GySetCfg) (slot : Nat) (f : Fire)
    (hP : P &&& 0x200120 = 0x200120) (hW : W &&& 0xb1000000000000000000000 = 0xb1000000000000000000000) :
    Fr P W b_ (State.gyFreeze s k slot f) ↔ Fr P W b_ s := Fr.iff (p := 0x200120) (w := 0xb1000000000000000000000) (by
  unfold State.gyFreeze; simp) hP hW

@[simp] theorem fr_gyLater {P W : Nat} (b_ : State) (s : State) (slot : Nat) (f : Fire)
    (hP : P &&& 0x200120 = 0x200120) (hW : W &&& 0xa0000000000000000000000 = 0xa0000000000000000000000) :
    Fr P W b_ (State.gyLater s slot f) ↔ Fr P W b_ s := Fr.iff (p := 0x200120) (w := 0xa0000000000000000000000) (by
  unfold State.gyLater; simp; (repeat' split) <;> simp) hP hW

@[simp] theorem fr_gyFire {P W : Nat} (b_ : State) (s : State) (k : GySetCfg) (f : Fire)
    (hP : P &&& 0x202120 = 0x202120) (hW : W &&& 0xb1000000000000000000000 = 0xb1000000000000000000000) :
    Fr P W b_ (State.gyFire s k f).2 ↔ Fr P W b_ s := Fr.iff (p := 0x202120) (w := 0xb1000000000000000000000) (by
  unfold State.gyFire; (repeat' split) <;> simp) hP hW

@[simp] theorem fr_gySelf {P W : Nat} (b_ : State) (s : State) (k : GySetCfg) (t : Instant)
    (hP : P &&& 0x202122 = 0x202122) (hW : W &&& 0xb1000000000000000000000 = 0xb1000000000000000000000) :
    Fr P W b_ (State.gySelf s k t) ↔ Fr P W b_ s := Fr.iff (p := 0x202122) (w := 0xb1000000000000000000000) (by
  unfold State.gySelf; simp) hP hW

theorem fr_execPatternFire (u : Fin 8) (s : State) : FrO 0x202122 0xb1000000000000000000000 s (execPatternFire u s) := by
  unfold execPatternFire; simp; (repeat' split) <;> simp

@[simp] theorem fr_gyOrder {P W : Nat} (b_ : State) (s : State) (k : GySetCfg) (at_ : Instant)
    (hP : P &&& 0x200022 = 0x200022) (hW : W &&& 0x10000000000000000000000 = 0x10000000000000000000000) :
    Fr P W b_ (State.gyOrder s k at_) ↔ Fr P W b_ s := Fr.iff (p := 0x200022) (w := 0x10000000000000000000000) (by
  unfold State.gyOrder; simp) hP hW

theorem fr_execArmOrder (k : Fin 16) (at_ : Instant) (s : State) : FrO 0x200022 0x10000000000000000000000 s
    (execArmOrder k at_ s) := by
  unfold execArmOrder; simp; (repeat' split) <;> simp

theorem fr_execArmReceived (k : Fin 16) (arms : BitVec 16) (at_ : Instant) (s : State) : FrO 0x202120
    0x10000000000000000000000 s (execArmReceived k arms at_ s) := by
  unfold execArmReceived; simp

theorem fr_execArmAt (k : Fin 16) (s : State) : FrO 0x200020 0x10000000000000000000000 s (execArmAt k s) := by
  unfold execArmAt; simp; (repeat' split) <;> simp

theorem fr_execFireReceived (k : Fin 16) (t : Instant) (binary : Nat) (posB : Bool) (arms : BitVec 16) (s : State) :
    FrO 0x202120 0xb1000000000000000000000 s (execFireReceived k t binary posB arms s) := by
  unfold execFireReceived; (repeat' split) <;> simp

@[simp] theorem fr_gyNumber {P W : Nat} (b_ : State) (s : State) (c : Nat) (g : GyChCfg) (t : Instant) (x0 : List GyBlk)
    (hP : P &&& 0x200000 = 0x200000) (hW : W &&& 0x0 = 0x0) :
    Fr P W b_ (State.gyNumber s c g t x0).1 ↔ Fr P W b_ s := Fr.iff (p := 0x200000) (w := 0x0) (by
  clear hP hW
  have key : ∀ c_, Fr 0x200000 0x0 c_ (State.gyNumber s c g t x0).1 ↔ Fr 0x200000 0x0 c_ s := by
    induction x0 generalizing s c g t with
    | nil => intro c_; unfold State.gyNumber; simp
    | cons y_ ys_ ih => intro c_; unfold State.gyNumber; simp [ih]
  exact (key _).2 (by simp)) hP hW

@[simp] theorem fr_gyTake {P W : Nat} (b_ : State) (s : State) (k : GySetCfg) (w : GyWin) (c : Nat)
    (hP : P &&& 0x200120 = 0x200120) (hW : W &&& 0x80000000000000000000000 = 0x80000000000000000000000) :
    Fr P W b_ (State.gyTake s k w c).1 ↔ Fr P W b_ s := Fr.iff (p := 0x200120) (w := 0x80000000000000000000000) (by
  unfold State.gyTake; simp; (repeat' split) <;> simp) hP hW

@[simp] theorem fr_gyTakes {P W : Nat} (b_ : State) (s : State) (k : GySetCfg) (w : GyWin) (x0 : List Nat)
    (hP : P &&& 0x200120 = 0x200120) (hW : W &&& 0x80000000000000000000000 = 0x80000000000000000000000) :
    Fr P W b_ (State.gyTakes s k w x0).1 ↔ Fr P W b_ s := Fr.iff (p := 0x200120) (w := 0x80000000000000000000000) (by
  clear hP hW
  have key : ∀ c_, Fr 0x200120 0x80000000000000000000000 c_ (State.gyTakes s k w x0).1 ↔ Fr 0x200120
      0x80000000000000000000000 c_ s := by
    induction x0 generalizing s k w with
    | nil => intro c_; unfold State.gyTakes; simp
    | cons y_ ys_ ih => intro c_; unfold State.gyTakes; simp [ih]
  exact (key _).2 (by simp)) hP hW

theorem fr_execGyWindowComplete (slot : Fin 16) (s : State) : FrO 0x202120 0xb0000000000000000000000 s
    (execGyWindowComplete slot s) := by
  unfold execGyWindowComplete; simp; (repeat' split) <;> simp

theorem fr_execGyHoldoffExpire (k : Fin 16) (s : State) : FrO 0x200022 0x10000000000000000000000 s (execGyHoldoffExpire
    k s) := by
  unfold execGyHoldoffExpire; simp; (repeat' split) <;> simp

@[simp] theorem fr_gyFreeSlot {P W : Nat} (b_ : State) (s : State) (i : Nat)
    (hP : P &&& 0x200120 = 0x200120) (hW : W &&& 0xb1000000000000000000000 = 0xb1000000000000000000000) :
    Fr P W b_ (State.gyFreeSlot s i) ↔ Fr P W b_ s := Fr.iff (p := 0x200120) (w := 0xb1000000000000000000000) (by
  unfold State.gyFreeSlot; simp) hP hW

@[simp] theorem fr_gyCmdRelease {P W : Nat} (b_ : State) (s : State) (i : Nat)
    (hP : P &&& 0x200120 = 0x200120) (hW : W &&& 0xb1000000000000000000000 = 0xb1000000000000000000000) :
    Fr P W b_ (State.gyCmdRelease s i) ↔ Fr P W b_ s := Fr.iff (p := 0x200120) (w := 0xb1000000000000000000000) (by
  unfold State.gyCmdRelease; simp) hP hW

@[simp] theorem fr_gyCmdFire {P W : Nat} (b_ : State) (s : State) (k : Nat)
    (hP : P &&& 0x202122 = 0x202122) (hW : W &&& 0xb1000000000000000000000 = 0xb1000000000000000000000) :
    Fr P W b_ (State.gyCmdFire s k) ↔ Fr P W b_ s := Fr.iff (p := 0x202122) (w := 0xb1000000000000000000000) (by
  unfold State.gyCmdFire; (repeat' split) <;> simp) hP hW

theorem fr_execGyRelease (slot : Fin 16) (s : State) : FrO 0x200120 0xb1000000000000000000000 s (execGyRelease slot s) := by
  unfold execGyRelease; simp

theorem fr_execGyFireOrder (k : Fin 16) (s : State) : FrO 0x202122 0xb1000000000000000000000 s (execGyFireOrder k s) := by
  unfold execGyFireOrder; simp

@[simp] theorem fr_gyMark {P W : Nat} (b_ : State) (s : State) (c n : Nat)
    (hP : P &&& 0x200120 = 0x200120) (hW : W &&& 0x81000000000000000000000 = 0x81000000000000000000000) :
    Fr P W b_ (State.gyMark s c n) ↔ Fr P W b_ s := Fr.iff (p := 0x200120) (w := 0x81000000000000000000000) (by
  unfold State.gyMark; simp) hP hW

@[simp] theorem fr_gyRead {P W : Nat} (b_ : State) (s : State) (q : BlockSel)
    (hP : P &&& 0x200120 = 0x200120) (hW : W &&& 0x81000000000000000000000 = 0x81000000000000000000000) :
    Fr P W b_ (State.gyRead s q) ↔ Fr P W b_ s := Fr.iff (p := 0x200120) (w := 0x81000000000000000000000) (by
  unfold State.gyRead; (repeat' split) <;> simp) hP hW

theorem fr_execGyRdRead (q : BlockSel) (s : State) : FrO 0x200128 0x81000000000000000000000 s (execGyRdRead q s) := by
  unfold execGyRdRead; simp

theorem fr_execSvcGyBlockRead (h : SvcMsg) (q : BlockSel) (s : State) : FrO 0xa00122 0x100081000000000000000000000 s
    (execSvcGyBlockRead h q s) := by
  unfold execSvcGyBlockRead
  refine (frO_next ..).2 ((fr_svc _ _ _ _ _ _ _ _ (fun u => ?_) rfl rfl).2 (by simp))
  split <;> simp

theorem fr_execSvcGyBlockAck (h : SvcMsg) (c : Fin 64) (n : Nat) (s : State) : FrO 0xa00122
    0x100081000000000000000000000 s (execSvcGyBlockAck h c n s) := by
  unfold execSvcGyBlockAck; simp

theorem fr_execSvcGyRelease (h : SvcMsg) (slot : Fin 16) (s : State) : FrO 0xa00122 0x1000b1000000000000000000000 s
    (execSvcGyRelease h slot s) := by
  unfold execSvcGyRelease; simp

theorem fr_execSvcGyFire (h : SvcMsg) (k : Fin 16) (s : State) : FrO 0xa02122 0x1000b1000000000000000000000 s
    (execSvcGyFire h k s) := by
  unfold execSvcGyFire
  refine (frO_next ..).2 ((fr_svc _ _ _ _ _ _ _ _ (fun u => ?_) rfl rfl).2 (by simp))
  split <;> (try split) <;> simp

end Sys2Proof.Machine
end

