-- ==== Sys2Proof/Laws/FrameUpdate.lean ====
section
/-! SUPPORT. What the functions of Machine/Update.lean may change: for each, as bit masks, the parts of the state and the registers. -/

namespace Sys2Proof.Machine

@[simp] theorem fr_progShow {P W : Nat} (b_ : State) (s : State) (k : Nat)
    (hP : P &&& 0x20 = 0x20) (hW : W &&& 0x200000 = 0x200000) :
    Fr P W b_ (State.progShow s k) ↔ Fr P W b_ s := Fr.iff (p := 0x20) (w := 0x200000) (by
  unfold State.progShow; simp) hP hW

@[simp] theorem fr_upShow {P W : Nat} (b_ : State) (s : State)
    (hP : P &&& 0x120 = 0x120) (hW : W &&& 0x100000 = 0x100000) :
    Fr P W b_ (State.upShow s) ↔ Fr P W b_ s := Fr.iff (p := 0x120) (w := 0x100000) (by
  unfold State.upShow; simp) hP hW

@[simp] theorem fr_progPut {P W : Nat} (b_ : State) (s : State) (k st : Nat)
    (hP : P &&& 0x1120 = 0x1120) (hW : W &&& 0x300000 = 0x300000) :
    Fr P W b_ (State.progPut s k st) ↔ Fr P W b_ s := Fr.iff (p := 0x1120) (w := 0x300000) (by
  unfold State.progPut; simp) hP hW

@[simp] theorem fr_progEmpty {P W : Nat} (b_ : State) (s : State) (k : Nat)
    (hP : P &&& 0x1120 = 0x1120) (hW : W &&& 0x300000 = 0x300000) :
    Fr P W b_ (State.progEmpty s k) ↔ Fr P W b_ s := Fr.iff (p := 0x1120) (w := 0x300000) (by
  unfold State.progEmpty; simp) hP hW

@[simp] theorem fr_upRefuse {P W : Nat} (b_ : State) (s : State) (c : Nat)
    (hP : P &&& 0x2120 = 0x2120) (hW : W &&& 0x100000 = 0x100000) :
    Fr P W b_ (State.upRefuse s c) ↔ Fr P W b_ s := Fr.iff (p := 0x2120) (w := 0x100000) (by
  unfold State.upRefuse; simp) hP hW

@[simp] theorem fr_upAnswer {P W : Nat} (b_ : State) (s : State) (h : SvcMsg) (c : Nat)
    (hP : P &&& 0x800022 = 0x800022) (hW : W &&& 0x100000000000000000000000000 = 0x100000000000000000000000000) :
    Fr P W b_ (State.upAnswer s h c) ↔ Fr P W b_ s := Fr.iff (p := 0x800022) (w := 0x100000000000000000000000000) (by
  unfold State.upAnswer; simp) hP hW

@[simp] theorem fr_upOrder {P W : Nat} (b_ : State) (s : State) (h : SvcMsg) (op : Nat) (f : State → Nat × State) (hf :
    ∀ u, Fr P W u (f u).2)
    (hP : P &&& 0x802122 = 0x802122) (hW : W &&& 0x100000000000000000000100000 = 0x100000000000000000000100000) :
    Fr P W b_ (s.upOrder h op f) ↔ Fr P W b_ s := Fr.iff (p := P) (w := W) (by
  unfold State.upOrder
  have hu : ∀ u r, Fr P W u (u.upRefuse r) := fun u r => Fr.mono (p := 0x2120) (w := 0x100000) ((fr_upRefuse (P :=
      0x2120) (W := 0x100000) _ _ _ rfl rfl).2 (by simp)) (land_trans hP rfl) (land_trans hW rfl)
  have ha : ∀ u r, Fr P W u (u.upAnswer h r) := fun u r => Fr.mono (p := 0x800022) (w := 0x100000000000000000000000000)
      ((fr_upAnswer (P := 0x800022) (W := 0x100000000000000000000000000) _ _ _ _ rfl rfl).2 (by simp)) (land_trans hP
          rfl) (land_trans hW rfl)
  have tr : ∀ {x y z : State}, Fr P W y z → Fr P W x y → Fr P W x z := fun h g => (Fr.iff h (Nat.and_self P)
      (Nat.and_self W)).2 g
  refine (fr_svc s s h _ _ _ _ _ (fun u => ?_) (land_trans hP rfl) (land_trans hW rfl)).2 (by simp)
  dsimp only
  split
  · exact tr (ha _ _) (hu _ _)
  · split
    · exact tr (ha _ _) (hf _)
    · exact tr (ha _ _) (tr (hu _ _) (hf _))) (Nat.and_self P) (Nat.and_self W)

@[simp] theorem fr_openDownload {P W : Nat} (b_ : State) (s : State) (k : Nat) (h : BitVec 512)
    (hP : P &&& 0x3120 = 0x3120) (hW : W &&& 0x300000 = 0x300000) :
    Fr P W b_ (State.openDownload s k h) ↔ Fr P W b_ s := Fr.iff (p := 0x3120) (w := 0x300000) (by
  unfold State.openDownload; simp) hP hW

@[simp] theorem fr_putBlock {P W : Nat} (b_ : State) (s : State) (k : Nat) (h : BitVec 512) (units : List W64) (good : Bool)
    (hP : P &&& 0x3120 = 0x3120) (hW : W &&& 0x300000 = 0x300000) :
    Fr P W b_ (State.putBlock s k h units good) ↔ Fr P W b_ s := Fr.iff (p := 0x3120) (w := 0x300000) (by
  unfold State.putBlock; simp) hP hW

@[simp] theorem fr_dlAnswer {P W : Nat} (b_ : State) (s : State) (h : SvcMsg) (c : Nat)
    (hP : P &&& 0x802122 = 0x802122) (hW : W &&& 0x100000000000000000000100000 = 0x100000000000000000000100000) :
    Fr P W b_ (State.dlAnswer s h c) ↔ Fr P W b_ s := Fr.iff (p := 0x802122) (w := 0x100000000000000000000100000) (by
  unfold State.dlAnswer; simp) hP hW

theorem fr_execImageDownloadBlock (h : SvcMsg) (hdr : BitVec 512) (units : List W64) (readBackOk : Bool) (s : State) :
    FrO 0x803122 0x100000000000000000000300000 s (execImageDownloadBlock h hdr units readBackOk s) := by
  unfold execImageDownloadBlock; simp

@[simp] theorem fr_startVerify {P W : Nat} (b_ : State) (s : State) (kinds : Nat)
    (hP : P &&& 0x10001120 = 0x10001120) (hW : W &&& 0x300000 = 0x300000) :
    Fr P W b_ (State.startVerify s kinds) ↔ Fr P W b_ s := Fr.iff (p := 0x10001120) (w := 0x300000) (by
  unfold State.startVerify; simp) hP hW

@[simp] theorem fr_relayOrder {P W : Nat} (b_ : State) (s : State) (op kinds : Nat)
    (hP : P &&& 0x2 = 0x2) (hW : W &&& 0x0 = 0x0) :
    Fr P W b_ (State.relayOrder s op kinds) ↔ Fr P W b_ s := Fr.iff (p := 0x2) (w := 0x0) (by
  unfold State.relayOrder; simp) hP hW

@[simp] theorem fr_linkOrder {P W : Nat} (b_ : State) (s : State) (op : Nat) (f : State → Nat × State) (hf : ∀ u, Fr P
    W u (f u).2)
    (hP : P &&& 0x2122 = 0x2122) (hW : W &&& 0x100000 = 0x100000) :
    Fr P W b_ (s.linkOrder op f) ↔ Fr P W b_ s := Fr.iff (p := P) (w := W) (by
  unfold State.linkOrder
  have hu : ∀ u r, Fr P W u (u.upRefuse r) := fun u r => Fr.mono (p := 0x2120) (w := 0x100000) ((fr_upRefuse (P :=
      0x2120) (W := 0x100000) _ _ _ rfl rfl).2 (by simp)) (land_trans hP rfl) (land_trans hW rfl)
  have he : ∀ u o, Fr P W u (u.emit o) := fun u o => (fr_emit _ _ _ (land_trans hP rfl) (Nat.and_zero _)).2 (by simp)
  have tr : ∀ {x y z : State}, Fr P W y z → Fr P W x y → Fr P W x z := fun h g => (Fr.iff h (Nat.and_self P)
      (Nat.and_self W)).2 g
  split
  · dsimp only
    split
    · exact tr (he _ _) (hu _ _)
    · refine tr (he _ _) ?_
      split
      · exact hf _
      · exact tr (hu _ _) (hf _)
  · simp) (Nat.and_self P) (Nat.and_self W)

@[simp] theorem fr_orderVerify {P W : Nat} (b_ : State) (s : State) (ks : Nat)
    (hP : P &&& 0x10001122 = 0x10001122) (hW : W &&& 0x300000 = 0x300000) :
    Fr P W b_ (State.orderVerify s ks).2 ↔ Fr P W b_ s := Fr.iff (p := 0x10001122) (w := 0x300000) (by
  unfold State.orderVerify; simp) hP hW

theorem fr_execUpdateVerify (h : SvcMsg) (kinds : BitVec 8) (link : Bool) (s : State) : FrO 0x10803122
    0x100000000000000000000300000 s (execUpdateVerify h kinds link s) := by
  unfold execUpdateVerify
  refine (frO_next ..).2 ?_
  split
  · exact (fr_linkOrder _ _ _ _ (fun u => by simp) rfl rfl).2 (by simp)
  · exact (fr_upOrder _ _ _ _ _ (fun u => by simp) rfl rfl).2 (by simp)

@[simp] theorem fr_verified1 {P W : Nat} (b_ : State) (s : State) (k : Nat) (compatible : Bool)
    (hP : P &&& 0x3120 = 0x3120) (hW : W &&& 0x300000 = 0x300000) :
    Fr P W b_ (State.verified1 s k compatible) ↔ Fr P W b_ s := Fr.iff (p := 0x3120) (w := 0x300000) (by
  unfold State.verified1; (repeat' split) <;> simp) hP hW

theorem fr_execVerifyComplete (img : Option PlantImage) (formats : Bool) (s : State) : FrO 0x10003120 0x300000 s
    (execVerifyComplete img formats s) := by
  unfold execVerifyComplete; simp

@[simp] theorem fr_activate {P W : Nat} (b_ : State) (s : State) (kinds : Nat)
    (hP : P &&& 0x3120 = 0x3120) (hW : W &&& 0x730000 = 0x730000) :
    Fr P W b_ (State.activate s kinds) ↔ Fr P W b_ s := Fr.iff (p := 0x3120) (w := 0x730000) (by
  unfold State.activate; simp) hP hW

@[simp] theorem fr_revertRecord {P W : Nat} (b_ : State) (s : State) (reason : Nat)
    (hP : P &&& 0x3120 = 0x3120) (hW : W &&& 0x730000 = 0x730000) :
    Fr P W b_ (State.revertRecord s reason) ↔ Fr P W b_ s := Fr.iff (p := 0x3120) (w := 0x730000) (by
  unfold State.revertRecord; simp) hP hW

@[simp] theorem fr_restart {P W : Nat} (b_ : State) (s : State)
    (hP : P &&& 0x7fffff7e0 = 0x7fffff7e0) (hW : W &&& 0x7ffffffffffffffffffffffffffffffff =
        0x7ffffffffffffffffffffffffffffffff) :
    Fr P W b_ (State.restart s) ↔ Fr P W b_ s := Fr.iff (p := 0x7fffff7e0) (w := 0x7ffffffffffffffffffffffffffffffff) (by
  unfold State.restart; simp) hP hW

@[simp] theorem fr_orderActivate {P W : Nat} (b_ : State) (s : State) (kinds : Nat) (at_ : Instant)
    (hP : P &&& 0x10003120 = 0x10003120) (hW : W &&& 0x730000 = 0x730000) :
    Fr P W b_ (State.orderActivate s kinds at_).2 ↔ Fr P W b_ s := Fr.iff (p := 0x10003120) (w := 0x730000) (by
  unfold State.orderActivate; simp) hP hW

@[simp] theorem fr_iazActivate {P W : Nat} (b_ : State) (s : State) (at_ : Instant)
    (hP : P &&& 0x3120 = 0x3120) (hW : W &&& 0x730000 = 0x730000) :
    Fr P W b_ (State.iazActivate s at_).2 ↔ Fr P W b_ s := Fr.iff (p := 0x3120) (w := 0x730000) (by
  unfold State.iazActivate; simp; (repeat' split) <;> simp) hP hW

@[simp] theorem fr_activateOrder {P W : Nat} (b_ : State) (s : State) (h : SvcMsg) (kinds : Nat) (at_ : Instant)
    (hP : P &&& 0x7fffff7e2 = 0x7fffff7e2) (hW : W &&& 0x7ffffffffffffffffffffffffffffffff =
        0x7ffffffffffffffffffffffffffffffff) :
    Fr P W b_ (State.activateOrder s h kinds at_) ↔ Fr P W b_ s := Fr.iff (p := 0x7fffff7e2) (w :=
        0x7ffffffffffffffffffffffffffffffff) (by
  unfold State.activateOrder; simp) hP hW

theorem fr_execUpdateActivate (h : SvcMsg) (kinds : BitVec 8) (at_ : Instant) (s : State) : FrO 0x7fffff7e2
    0x7ffffffffffffffffffffffffffffffff s (execUpdateActivate h kinds at_ s) := by
  unfold execUpdateActivate; simp

theorem fr_execIazebinActivate (h : SvcMsg) (kinds : BitVec 8) (s : State) : FrO 0x7fffff7e2
    0x7ffffffffffffffffffffffffffffffff s (execIazebinActivate h kinds s) := by
  unfold execIazebinActivate; simp

@[simp] theorem fr_actChecked {P W : Nat} (b_ : State) (s : State) (c : Nat)
    (hP : P &&& 0x10000120 = 0x10000120) (hW : W &&& 0x100000 = 0x100000) :
    Fr P W b_ (State.actChecked s c) ↔ Fr P W b_ s := Fr.iff (p := 0x10000120) (w := 0x100000) (by
  unfold State.actChecked; simp) hP hW

theorem fr_execActivateCheck (s : State) : FrO 0x10000120 0x100000 s (execActivateCheck s) := by
  unfold execActivateCheck; simp; (repeat' split) <;> simp

theorem fr_execActivateAt (s : State) : FrO 0x7fffff7e0 0x7ffffffffffffffffffffffffffffffff s (execActivateAt s) := by
  unfold execActivateAt; simp; (repeat' split) <;> simp

@[simp] theorem fr_rollStep {P W : Nat} (b_ : State) (s : State) (n : Nat)
    (hP : P &&& 0x2020 = 0x2020) (hW : W &&& 0x100000 = 0x100000) :
    Fr P W b_ (State.rollStep s n) ↔ Fr P W b_ s := Fr.iff (p := 0x2020) (w := 0x100000) (by
  unfold State.rollStep; simp) hP hW

@[simp] theorem fr_startRoll {P W : Nat} (b_ : State) (s : State) (r : Roll)
    (hP : P &&& 0x10002120 = 0x10002120) (hW : W &&& 0x100000 = 0x100000) :
    Fr P W b_ (State.startRoll s r) ↔ Fr P W b_ s := Fr.iff (p := 0x10002120) (w := 0x100000) (by
  unfold State.startRoll; simp) hP hW

@[simp] theorem fr_endRoll {P W : Nat} (b_ : State) (s : State)
    (hP : P &&& 0x10000120 = 0x10000120) (hW : W &&& 0x100000 = 0x100000) :
    Fr P W b_ (State.endRoll s) ↔ Fr P W b_ s := Fr.iff (p := 0x10000120) (w := 0x100000) (by
  unfold State.endRoll; simp) hP hW

@[simp] theorem fr_abandonRoll {P W : Nat} (b_ : State) (s : State)
    (hP : P &&& 0x10092120 = 0x10092120) (hW : W &&& 0x100000000000000000100002 = 0x100000000000000000100002) :
    Fr P W b_ (State.abandonRoll s) ↔ Fr P W b_ s := Fr.iff (p := 0x10092120) (w := 0x100000000000000000100002) (by
  unfold State.abandonRoll; simp) hP hW

theorem fr_execUpdateRoll (h : SvcMsg) (kinds : BitVec 8) (at_ : Instant) (s : State) : FrO 0x10802122
    0x100000000000000000000100000 s (execUpdateRoll h kinds at_ s) := by
  unfold execUpdateRoll; simp

@[simp] theorem fr_rollOwn {P W : Nat} (b_ : State) (s : State) (kinds : Nat) (reason : Nat)
    (hP : P &&& 0x7fffff7e0 = 0x7fffff7e0) (hW : W &&& 0x7ffffffffffffffffffffffffffffffff =
        0x7ffffffffffffffffffffffffffffffff) :
    Fr P W b_ (State.rollOwn s kinds reason) ↔ Fr P W b_ s := Fr.iff (p := 0x7fffff7e0) (w :=
        0x7ffffffffffffffffffffffffffffffff) (by
  unfold State.rollOwn; simp) hP hW

theorem fr_execRollPartnerActivate (kinds : BitVec 8) (s : State) : FrO 0x7fffff7e0 0x7ffffffffffffffffffffffffffffffff
    s (execRollPartnerActivate kinds s) := by
  unfold execRollPartnerActivate; simp; (repeat' split) <;> simp

theorem fr_execRollPartnerReady (s : State) : FrO 0x82120 0x100000000000000000100000 s (execRollPartnerReady s) := by
  unfold execRollPartnerReady; simp; (repeat' split) <;> simp

theorem fr_execRollFormerActivate (s : State) : FrO 0x7fffff7e0 0x7ffffffffffffffffffffffffffffffff s
    (execRollFormerActivate s) := by
  unfold execRollFormerActivate; simp; (repeat' split) <;> simp

theorem fr_execRollComplete (s : State) : FrO 0x10002120 0x100000 s (execRollComplete s) := by
  unfold execRollComplete; (repeat' split) <;> simp

theorem fr_execRollWaitExpire (s : State) : FrO 0x10092120 0x100000000000000000100002 s (execRollWaitExpire s) := by
  unfold execRollWaitExpire; (repeat' split) <;> simp

@[simp] theorem fr_endTrial {P W : Nat} (b_ : State) (s : State) (reason : Nat)
    (hP : P &&& 0x10002120 = 0x10002120) (hW : W &&& 0x100000 = 0x100000) :
    Fr P W b_ (State.endTrial s reason) ↔ Fr P W b_ s := Fr.iff (p := 0x10002120) (w := 0x100000) (by
  unfold State.endTrial; simp) hP hW

theorem fr_execRevertRollStart (s : State) : FrO 0x7fffff7e0 0x7ffffffffffffffffffffffffffffffff s (execRevertRollStart
    s) := by
  unfold execRevertRollStart; simp

@[simp] theorem fr_confirmOwn {P W : Nat} (b_ : State) (s : State)
    (hP : P &&& 0x3120 = 0x3120) (hW : W &&& 0x730000 = 0x730000) :
    Fr P W b_ (State.confirmOwn s) ↔ Fr P W b_ s := Fr.iff (p := 0x3120) (w := 0x730000) (by
  unfold State.confirmOwn; simp) hP hW

theorem fr_execUpdateConfirm (h : SvcMsg) (partnerOk link : Bool) (s : State) : FrO 0x803122
    0x100000000000000000000730000 s (execUpdateConfirm h partnerOk link s) := by
  unfold execUpdateConfirm
  refine (frO_next ..).2 ?_
  split
  · exact (fr_linkOrder _ _ _ _ (fun u => by split <;> (try split) <;> simp) rfl rfl).2 (by simp)
  · exact (fr_upOrder _ _ _ _ _ (fun u => by split <;> (try split) <;> simp) rfl rfl).2 (by simp)

theorem fr_execUpdateRevert (h : SvcMsg) (s : State) : FrO 0x10802122 0x100000000000000000000100000 s (execUpdateRevert
    h s) := by
  unfold execUpdateRevert; simp

@[simp] theorem fr_orderCancel {P W : Nat} (b_ : State) (s : State) (kinds : Nat)
    (hP : P &&& 0x10093122 = 0x10093122) (hW : W &&& 0x100000000000000000300002 = 0x100000000000000000300002) :
    Fr P W b_ (State.orderCancel s kinds).2 ↔ Fr P W b_ s := Fr.iff (p := 0x10093122) (w := 0x100000000000000000300002) (by
  unfold State.orderCancel; simp; (repeat' split) <;> simp) hP hW

theorem fr_execUpdateCancel (h : SvcMsg) (kinds : BitVec 8) (link : Bool) (s : State) : FrO 0x10893122
    0x100100000000000000000300002 s (execUpdateCancel h kinds link s) := by
  unfold execUpdateCancel
  refine (frO_next ..).2 ?_
  split
  · exact (fr_linkOrder _ _ _ _ (fun u => by simp) rfl rfl).2 (by simp)
  · exact (fr_upOrder _ _ _ _ _ (fun u => by simp) rfl rfl).2 (by simp)

theorem fr_execUpdateStatus (h : SvcMsg) (kinds : BitVec 8) (s : State) : FrO 0x802122 0x100000000000000000000100000 s
    (execUpdateStatus h kinds s) := by
  unfold execUpdateStatus; simp

theorem fr_execTrialRunWrite (s : State) : FrO 0x10001020 0x530000 s (execTrialRunWrite s) := by
  unfold execTrialRunWrite; simp

theorem fr_execTrialExpire (s : State) : FrO 0x10002120 0x100000 s (execTrialExpire s) := by
  unfold execTrialExpire; simp

theorem fr_execTrialRevertRestart (s : State) : FrO 0x7fffff7e0 0x7ffffffffffffffffffffffffffffffff s
    (execTrialRevertRestart s) := by
  unfold execTrialRevertRestart; simp; (repeat' split) <;> simp

@[simp] theorem fr_trialBoot {P W : Nat} (b_ : State) (s : State)
    (hP : P &&& 0x3120 = 0x3120) (hW : W &&& 0x730000 = 0x730000) :
    Fr P W b_ (State.trialBoot s) ↔ Fr P W b_ s := Fr.iff (p := 0x3120) (w := 0x730000) (by
  unfold State.trialBoot; simp) hP hW

@[simp] theorem fr_lineUp {P W : Nat} (b_ : State) (s : State) (k : Nat)
    (hP : P &&& 0x10001120 = 0x10001120) (hW : W &&& 0x300000 = 0x300000) :
    Fr P W b_ (State.lineUp s k) ↔ Fr P W b_ s := Fr.iff (p := 0x10001120) (w := 0x300000) (by
  unfold State.lineUp; simp) hP hW

@[simp] theorem fr_lineUps {P W : Nat} (b_ : State) (s : State)
    (hP : P &&& 0x10001120 = 0x10001120) (hW : W &&& 0x300000 = 0x300000) :
    Fr P W b_ (State.lineUps s) ↔ Fr P W b_ s := Fr.iff (p := 0x10001120) (w := 0x300000) (by
  unfold State.lineUps; simp) hP hW

@[simp] theorem fr_verifyAgain {P W : Nat} (b_ : State) (s : State)
    (hP : P &&& 0x10001120 = 0x10001120) (hW : W &&& 0x300000 = 0x300000) :
    Fr P W b_ (State.verifyAgain s) ↔ Fr P W b_ s := Fr.iff (p := 0x10001120) (w := 0x300000) (by
  unfold State.verifyAgain; simp) hP hW

@[simp] theorem fr_refuseStart {P W : Nat} (b_ : State) (s : State) (code : Nat)
    (hP : P &&& 0x7fffff7e0 = 0x7fffff7e0) (hW : W &&& 0x7ffffffffffffffffffffffffffffffff =
        0x7ffffffffffffffffffffffffffffffff) :
    Fr P W b_ (State.refuseStart s code) ↔ Fr P W b_ s := Fr.iff (p := 0x7fffff7e0) (w :=
        0x7ffffffffffffffffffffffffffffffff) (by
  unfold State.refuseStart; simp) hP hW

end Sys2Proof.Machine
end

