-- ==== Sys2Proof/Laws/FrameScapex.lean ====
section
/-! SUPPORT. What the functions of Machine/Scapex.lean may change: for each, as bit masks, the parts of the state and the registers. -/

namespace Sys2Proof.Machine

@[simp] theorem fr_sxNote {P W : Nat} (b_ : State) (s : State) (p code : Nat) (xs : List Nat)
    (hP : P &&& 0x2120 = 0x2120) (hW : W &&& 0x2 = 0x2) :
    Fr P W b_ (State.sxNote s p code xs) ↔ Fr P W b_ s := Fr.iff (p := 0x2120) (w := 0x2) (by
  unfold State.sxNote; simp) hP hW

@[simp] theorem fr_sxLoad {P W : Nat} (b_ : State) (s : State)
    (hP : P &&& 0x20 = 0x20) (hW : W &&& 0x1600000000000000000000000000000 = 0x1600000000000000000000000000000) :
    Fr P W b_ (State.sxLoad s) ↔ Fr P W b_ s := Fr.iff (p := 0x20) (w := 0x1600000000000000000000000000000) (by
  unfold State.sxLoad; simp) hP hW

@[simp] theorem fr_setCollect {P W : Nat} (b_ : State) (s : State) (e : Nat) (c : Collect)
    (hP : P &&& 0x400000 = 0x400000) (hW : W &&& 0x0 = 0x0) :
    Fr P W b_ (State.setCollect s e c) ↔ Fr P W b_ s := Fr.iff (p := 0x400000) (w := 0x0) (by
  unfold State.setCollect; simp) hP hW

@[simp] theorem fr_collectShow {P W : Nat} (b_ : State) (s : State) (e : Nat) (t : Instant) (p : Nat) (r : W64)
    (hP : P &&& 0x10000 = 0x10000) (hW : W &&& 0x0 = 0x0) :
    Fr P W b_ (State.collectShow s e t p r) ↔ Fr P W b_ s := Fr.iff (p := 0x10000) (w := 0x0) (by
  unfold State.collectShow; simp; (repeat' split) <;> simp) hP hW

@[simp] theorem fr_sendCollect {P W : Nat} (b_ : State) (s : State) (p : Nat) (t : Instant) (group : Nat) (payload :
    List W64)
    (hP : P &&& 0x400022 = 0x400022) (hW : W &&& 0xa00000000000000000000000000000 = 0xa00000000000000000000000000000) :
    Fr P W b_ (State.sendCollect s p t group payload) ↔ Fr P W b_ s := Fr.iff (p := 0x400022) (w :=
        0xa00000000000000000000000000000) (by
  unfold State.sendCollect; simp) hP hW

@[simp] theorem fr_collectCar {P W : Nat} (b_ : State) (s : State) (t : Instant) (group i : Nat)
    (hP : P &&& 0x400022 = 0x400022) (hW : W &&& 0xa00000000000000000000000000000 = 0xa00000000000000000000000000000) :
    Fr P W b_ (State.collectCar s t group i) ↔ Fr P W b_ s := Fr.iff (p := 0x400022) (w :=
        0xa00000000000000000000000000000) (by
  unfold State.collectCar; simp) hP hW

@[simp] theorem fr_collectOn {P W : Nat} (b_ : State) (s : State) (e : Nat) (t : Instant) (ps : List Nat)
    (hP : P &&& 0x400022 = 0x400022) (hW : W &&& 0xa00000000000000000000000000000 = 0xa00000000000000000000000000000) :
    Fr P W b_ (State.collectOn s e t ps) ↔ Fr P W b_ s := Fr.iff (p := 0x400022) (w := 0xa00000000000000000000000000000) (by
  unfold State.collectOn; simp) hP hW

@[simp] theorem fr_collectOpen {P W : Nat} (b_ : State) (s : State) (e : Nat) (t : Instant)
    (hP : P &&& 0x410000 = 0x410000) (hW : W &&& 0x0 = 0x0) :
    Fr P W b_ (State.collectOpen s e t) ↔ Fr P W b_ s := Fr.iff (p := 0x410000) (w := 0x0) (by
  unfold State.collectOpen; simp) hP hW

theorem fr_execCollectLaunch (e : Nat) (t : Instant) (s : State) : FrO 0x410022 0xa00000000000000000000000000000 s
    (execCollectLaunch e t s) := by
  unfold execCollectLaunch; simp; (repeat' split) <;> simp

@[simp] theorem fr_sxHear {P W : Nat} (b_ : State) (s : State) (i : Nat) (h : W64)
    (hP : P &&& 0x480020 = 0x480020) (hW : W &&& 0x1200000000000000000000000000000 = 0x1200000000000000000000000000000) :
    Fr P W b_ (State.sxHear s i h) ↔ Fr P W b_ s := Fr.iff (p := 0x480020) (w := 0x1200000000000000000000000000000) (by
  unfold State.sxHear; simp) hP hW

@[simp] theorem fr_sxReport {P W : Nat} (b_ : State) (s : State) (p : Nat) (h : W64)
    (hP : P &&& 0x482120 = 0x482120) (hW : W &&& 0x1a00000000000000000000000000002 = 0x1a00000000000000000000000000002) :
    Fr P W b_ (State.sxReport s p h) ↔ Fr P W b_ s := Fr.iff (p := 0x482120) (w := 0x1a00000000000000000000000000002) (by
  unfold State.sxReport; simp) hP hW

@[simp] theorem fr_sxBlock {P W : Nat} (b_ : State) (s : State) (e : Nat) (t : Instant) (c : CarCfg) (slice : Nat) (ws
    : List W64)
    (hP : P &&& 0x10000 = 0x10000) (hW : W &&& 0x0 = 0x0) :
    Fr P W b_ (s.sxBlock e t c slice ws) ↔ Fr P W b_ s := Fr.iff (p := 0x10000) (w := 0x0) (by
  clear hP hW; unfold State.sxBlock; exact (fr_foldl _ (fun u x => by (try dsimp only); split <;> simp) _ _ _).2 (by
      simp)) hP hW

@[simp] theorem fr_sxLate {P W : Nat} (b_ : State) (s : State) (e : Nat) (t : Instant) (c : CarCfg) (slice : Nat)
    (hP : P &&& 0x10000 = 0x10000) (hW : W &&& 0x0 = 0x0) :
    Fr P W b_ (s.sxLate e t c slice) ↔ Fr P W b_ s := Fr.iff (p := 0x10000) (w := 0x0) (by
  clear hP hW; unfold State.sxLate; exact (fr_foldl _ (fun u x => by (try dsimp only); split <;> simp) _ _ _).2 (by
      simp)) hP hW

@[simp] theorem fr_sxDeliver {P W : Nat} (b_ : State) (s : State) (e p : Nat) (h : W64) (ws : List W64)
    (hP : P &&& 0x410000 = 0x410000) (hW : W &&& 0x0 = 0x0) :
    Fr P W b_ (State.sxDeliver s e p h ws) ↔ Fr P W b_ s := Fr.iff (p := 0x410000) (w := 0x0) (by
  unfold State.sxDeliver; simp) hP hW

theorem fr_execCollectReturn (port : Fin 8) (f : SxFrame) (s : State) : FrO 0x492120 0x1a00000000000000000000000000002
    s (execCollectReturn port f s) := by
  unfold execCollectReturn
  dsimp only
  split
  · simp
  · split
    · simp
    · split
      · exact (fr_foldl _ (fun u e => (fr_foldl _ (fun v x => by simp) u _ u).2 (by simp)) _ _ _).2 (by simp)
      · simp

@[simp] theorem fr_carDone {P W : Nat} (b_ : State) (s : State) (e : Nat) (c : Collect) (i : Nat)
    (hP : P &&& 0x10020 = 0x10020) (hW : W &&& 0x1800000000000000000000000000000 = 0x1800000000000000000000000000000) :
    Fr P W b_ (State.carDone s e c i) ↔ Fr P W b_ s := Fr.iff (p := 0x10020) (w := 0x1800000000000000000000000000000) (by
  unfold State.carDone; simp) hP hW

theorem fr_execCollectComplete (e : Nat) (s : State) : FrO 0x3c0498120 0x18000000000002c0000000000000000 s
    (execCollectComplete e s) := by
  unfold execCollectComplete; simp

theorem fr_fold1 {α β : Type} {P W : Nat} (g : State × β → α → State × β) (h : ∀ q a, Fr P W q.1 (g q a).1) (b : State)
    (l : List α) (q : State × β) : Fr P W b (l.foldl g q).1 ↔ Fr P W b q.1 := by
  induction l generalizing q with
  | nil => simp
  | cons a l ih => rw [List.foldl_cons, ih, Fr.iff (h q a) (Nat.and_self P) (Nat.and_self W)]

@[simp] theorem fr_outBlock {P W : Nat} (b_ : State) (s : State) (i slice : Nat)
    (hP : P &&& 0x400000 = 0x400000) (hW : W &&& 0x0 = 0x0) :
    Fr P W b_ (s.outBlock i slice).1 ↔ Fr P W b_ s := Fr.iff (p := 0x400000) (w := 0x0) (by
  clear hP hW; unfold State.outBlock; exact (fr_fold1 _ (fun q k => by dsimp only; split <;> simp) _ _ _).2 (by simp)) hP hW

@[simp] theorem fr_outBlocks {P W : Nat} (b_ : State) (s : State) (i : Nat) (x0 : List Nat)
    (hP : P &&& 0x400000 = 0x400000) (hW : W &&& 0x0 = 0x0) :
    Fr P W b_ (State.outBlocks s i x0).1 ↔ Fr P W b_ s := Fr.iff (p := 0x400000) (w := 0x0) (by
  clear hP hW
  have key : ∀ c_, Fr 0x400000 0x0 c_ (State.outBlocks s i x0).1 ↔ Fr 0x400000 0x0 c_ s := by
    induction x0 generalizing s i with
    | nil => intro c_; unfold State.outBlocks; simp
    | cons y_ ys_ ih => intro c_; unfold State.outBlocks; simp [ih]
  exact (key _).2 (by simp)) hP hW

@[simp] theorem fr_outputCar {P W : Nat} (b_ : State) (s : State) (t : Instant) (group i : Nat)
    (hP : P &&& 0x400022 = 0x400022) (hW : W &&& 0xa00000000000000000000000000000 = 0xa00000000000000000000000000000) :
    Fr P W b_ (State.outputCar s t group i) ↔ Fr P W b_ s := Fr.iff (p := 0x400022) (w :=
        0xa00000000000000000000000000000) (by
  unfold State.outputCar; simp) hP hW

theorem fr_execCommitScapexCarriers (e : Nat) (k : Instant) (s : State) : FrO 0x3c04fa122
    0xa00000000a5c2c0000000000000002 s (execCommitScapexCarriers e k s) := by
  unfold execCommitScapexCarriers; simp; (repeat' split) <;> simp

@[simp] theorem fr_sxTimeDue {P W : Nat} (b_ : State) (s : State) (p : Nat)
    (hP : P &&& 0x400022 = 0x400022) (hW : W &&& 0xa00000000000000000000000000000 = 0xa00000000000000000000000000000) :
    Fr P W b_ (State.sxTimeDue s p) ↔ Fr P W b_ s := Fr.iff (p := 0x400022) (w := 0xa00000000000000000000000000000) (by
  unfold State.sxTimeDue; simp) hP hW

theorem fr_execTimeFrameSend (s : State) : FrO 0x400022 0xa00000000000000000000000000000 s (execTimeFrameSend s) := by
  unfold execTimeFrameSend; simp

@[simp] theorem fr_sxBack {P W : Nat} (b_ : State) (s : State) (p : Nat) (west : Bool) (v : Nat)
    (hP : P &&& 0x400000 = 0x400000) (hW : W &&& 0x0 = 0x0) :
    Fr P W b_ (State.sxBack s p west v) ↔ Fr P W b_ s := Fr.iff (p := 0x400000) (w := 0x0) (by
  unfold State.sxBack; simp) hP hW

@[simp] theorem fr_sxTurned {P W : Nat} (b_ : State) (s : State) (p : Nat) (west : Bool) (at_ : Nat)
    (hP : P &&& 0x402120 = 0x402120) (hW : W &&& 0x200000000000000000000000000002 = 0x200000000000000000000000000002) :
    Fr P W b_ (State.sxTurned s p west at_) ↔ Fr P W b_ s := Fr.iff (p := 0x402120) (w :=
        0x200000000000000000000000000002) (by
  unfold State.sxTurned; simp) hP hW

@[simp] theorem fr_sxIntact {P W : Nat} (b_ : State) (s : State) (p prop : Nat)
    (hP : P &&& 0x402120 = 0x402120) (hW : W &&& 0x200000000000000000000000000002 = 0x200000000000000000000000000002) :
    Fr P W b_ (State.sxIntact s p prop) ↔ Fr P W b_ s := Fr.iff (p := 0x402120) (w := 0x200000000000000000000000000002) (by
  unfold State.sxIntact; simp) hP hW

theorem fr_execTimeFrameReturn (port : Fin 8) (f : SxFrame) (lap : Nat) (s : State) : FrO 0x402120
    0xe00000000000000000000000000002 s (execTimeFrameReturn port f lap s) := by
  unfold execTimeFrameReturn; simp

@[simp] theorem fr_sxPassTo {P W : Nat} (b_ : State) (s : State) (p e : Nat) (f : SxFrame)
    (hP : P &&& 0x410000 = 0x410000) (hW : W &&& 0x0 = 0x0) :
    Fr P W b_ (State.sxPassTo s p e f) ↔ Fr P W b_ s := Fr.iff (p := 0x410000) (w := 0x0) (by
  unfold State.sxPassTo; simp) hP hW

@[simp] theorem fr_sxPassing {P W : Nat} (b_ : State) (s : State) (p : Nat) (f : SxFrame)
    (hP : P &&& 0x410000 = 0x410000) (hW : W &&& 0x0 = 0x0) :
    Fr P W b_ (State.sxPassing s p f) ↔ Fr P W b_ s := Fr.iff (p := 0x410000) (w := 0x0) (by
  clear hP hW; unfold State.sxPassing; (repeat' split) <;> (try simp) <;> (repeat' split) <;> simp_all) hP hW

@[simp] theorem fr_sxShadowOne {P W : Nat} (b_ : State) (s : State) (i ch q : Nat) (v : Word)
    (hP : P &&& 0x400000 = 0x400000) (hW : W &&& 0x0 = 0x0) :
    Fr P W b_ (State.sxShadowOne s i ch q v) ↔ Fr P W b_ s := Fr.iff (p := 0x400000) (w := 0x0) (by
  unfold State.sxShadowOne; simp) hP hW

@[simp] theorem fr_sxShadow {P W : Nat} (b_ : State) (s : State) (p : Nat) (f : SxFrame)
    (hP : P &&& 0x400000 = 0x400000) (hW : W &&& 0x0 = 0x0) :
    Fr P W b_ (s.sxShadow p f) ↔ Fr P W b_ s := Fr.iff (p := 0x400000) (w := 0x0) (by
  clear hP hW; unfold State.sxShadow
  split
  · simp
  · split
    · exact (fr_foldl _ (fun u x => (fr_foldl _ (fun v k => by simp) _ _ _).2 (by simp)) _ _ _).2 (by simp)
    · split <;> simp) hP hW

theorem fr_execScapexForward (port : Fin 8) (f : SxFrame) (delay : Nat) (s : State) : FrO 0x490022
    0x1200000000000000000000000000000 s (execScapexForward port f delay s) := by
  unfold execScapexForward; simp

theorem fr_execScapexSegmentDown (port : Fin 8) (east : Bool) (s : State) : FrO 0x400000 0x0 s (execScapexSegmentDown
    port east s) := by
  unfold execScapexSegmentDown; simp

theorem fr_execScapexSegmentUp (port : Fin 8) (east : Bool) (s : State) : FrO 0x400000 0x0 s (execScapexSegmentUp port
    east s) := by
  unfold execScapexSegmentUp; simp

theorem fr_execServiceFrameLaunch (port : Fin 8) (s : State) : FrO 0x400022 0xa00000000000000000000000000000 s
    (execServiceFrameLaunch port s) := by
  unfold execServiceFrameLaunch; simp; (repeat' split) <;> simp

@[simp] theorem fr_sxServed {P W : Nat} (b_ : State) (s : State) (p : Nat) (x : SxService)
    (hP : P &&& 0x402120 = 0x402120) (hW : W &&& 0x2 = 0x2) :
    Fr P W b_ (State.sxServed s p x) ↔ Fr P W b_ s := Fr.iff (p := 0x402120) (w := 0x2) (by
  unfold State.sxServed; simp; (repeat' split) <;> simp) hP hW

theorem fr_execServiceFrameReturn (port : Fin 8) (f : SxFrame) (s : State) : FrO 0x402120
    0x800000000000000000000000000002 s (execServiceFrameReturn port f s) := by
  unfold execServiceFrameReturn; simp; (repeat' split) <;> simp

theorem fr_execServiceFrameTimeout (port : Fin 8) (s : State) : FrO 0x400020 0x800000000000000000000000000000 s
    (execServiceFrameTimeout port s) := by
  unfold execServiceFrameTimeout; simp; (repeat' split) <;> simp

@[simp] theorem fr_sxQueue {P W : Nat} (b_ : State) (s : State) (i : Nat) (load : Bool)
    (hP : P &&& 0x400010 = 0x400010) (hW : W &&& 0x0 = 0x0) :
    Fr P W b_ (State.sxQueue s i load) ↔ Fr P W b_ s := Fr.iff (p := 0x400010) (w := 0x0) (by
  unfold State.sxQueue; simp) hP hW

@[simp] theorem fr_sxUnconfigured {P W : Nat} (b_ : State) (s : State) (i : Nat)
    (hP : P &&& 0x20 = 0x20) (hW : W &&& 0x1200000000000000000000000000000 = 0x1200000000000000000000000000000) :
    Fr P W b_ (State.sxUnconfigured s i) ↔ Fr P W b_ s := Fr.iff (p := 0x20) (w := 0x1200000000000000000000000000000) (by
  unfold State.sxUnconfigured; simp) hP hW

@[simp] theorem fr_sxJudged {P W : Nat} (b_ : State) (s : State) (i : Nat) (identity : Option Nat)
    (hP : P &&& 0x402130 = 0x402130) (hW : W &&& 0x1200000000000000000000000000002 = 0x1200000000000000000000000000002) :
    Fr P W b_ (State.sxJudged s i identity) ↔ Fr P W b_ s := Fr.iff (p := 0x402130) (w :=
        0x1200000000000000000000000000002) (by
  unfold State.sxJudged; simp; (repeat' split) <;> simp) hP hW

@[simp] theorem fr_carrierFound {P W : Nat} (b_ : State) (s : State) (i : Nat) (identity : Option Nat)
    (hP : P &&& 0x402130 = 0x402130) (hW : W &&& 0x1200000000000000000000000000002 = 0x1200000000000000000000000000002) :
    Fr P W b_ (State.carrierFound s i identity) ↔ Fr P W b_ s := Fr.iff (p := 0x402130) (w :=
        0x1200000000000000000000000000002) (by
  unfold State.carrierFound; (repeat' split) <;> simp) hP hW

theorem fr_execCarrierConfigure (i : Fin 256) (identity : Option Nat) (s : State) : FrO 0x402130
    0x1200000000000000000000000000002 s (execCarrierConfigure i identity s) := by
  unfold execCarrierConfigure; simp

theorem fr_execCarrierAppeared (i : Fin 256) (identity : Option Nat) (s : State) : FrO 0x402130
    0x1200000000000000000000000000002 s (execCarrierAppeared i identity s) := by
  unfold execCarrierAppeared; simp

theorem fr_execCarrierLost (i : Fin 256) (s : State) : FrO 0x402120 0x200000000000000000000000000002 s (execCarrierLost
    i s) := by
  unfold execCarrierLost; simp

end Sys2Proof.Machine
end

