-- ==== Sys2Proof/Laws/FrameStartup.lean ====
section
/-! SUPPORT. What the functions of Machine/Startup.lean may change: for each, as bit masks, the parts of the state and the registers. -/

namespace Sys2Proof.Machine

theorem fr_execPowerGood (f : Feed) (volts : Nat) (s : State) : FrO 0x8020 0x20 s (execPowerGood f volts s) := by
  unfold execPowerGood; (repeat' split) <;> (try simp) <;> (repeat' split) <;> simp_all

@[simp] theorem fr_wakeIslands {P W : Nat} (b_ : State) (s : State)
    (hP : P &&& 0x20 = 0x20) (hW : W &&& 0x2 = 0x2) :
    Fr P W b_ (State.wakeIslands s) ↔ Fr P W b_ s := Fr.iff (p := 0x20) (w := 0x2) (by
  unfold State.wakeIslands; simp) hP hW

theorem fr_execResetRelease (xOk yOk : Bool) (s : State) : FrO 0x1008a520 0x300000000000001000100003 s
    (execResetRelease xOk yOk s) := by
  unfold execResetRelease; simp

@[simp] theorem fr_selectCopy {P W : Nat} (b_ : State) (s : State) (c : Nat)
    (hP : P &&& 0x10003120 = 0x10003120) (hW : W &&& 0x730001 = 0x730001) :
    Fr P W b_ (State.selectCopy s c) ↔ Fr P W b_ s := Fr.iff (p := 0x10003120) (w := 0x730001) (by
  unfold State.selectCopy; simp) hP hW

theorem fr_execKeyHeaderRead (s : State) : FrO 0x1008b520 0x3000000000000000007f0003 s (execKeyHeaderRead s) := by
  unfold execKeyHeaderRead; simp; (repeat' split) <;> simp

@[simp] theorem fr_startFirmware {P W : Nat} (b_ : State) (s : State)
    (hP : P &&& 0x8520 = 0x8520) (hW : W &&& 0x1 = 0x1) :
    Fr P W b_ (State.startFirmware s) ↔ Fr P W b_ s := Fr.iff (p := 0x8520) (w := 0x1) (by
  unfold State.startFirmware; simp) hP hW

@[simp] theorem fr_tagCheck {P W : Nat} (b_ : State) (s : State) (k b : Nat)
    (hP : P &&& 0x2000 = 0x2000) (hW : W &&& 0x0 = 0x0) :
    Fr P W b_ (State.tagCheck s k b).1 ↔ Fr P W b_ s := Fr.iff (p := 0x2000) (w := 0x0) (by
  unfold State.tagCheck; simp) hP hW

theorem fr_execFirmwareVerified (s : State) : FrO 0x1008b520 0x300000000000000000730003 s (execFirmwareVerified s) := by
  unfold execFirmwareVerified; simp

theorem fr_execBaseIdentRead (base : Option BaseMem) (s : State) : FrO 0x7ffffffe0 0x7ffffffffffffffffffffffffffffffff
    s (execBaseIdentRead base s) := by
  unfold execBaseIdentRead; (repeat' split) <;> (try simp) <;> (repeat' split) <;> simp_all

theorem fr_execConfigBankLoaded (s : State) : FrO 0x7fffff7e0 0x7ffffffffffffffffffffffffffffffff s
    (execConfigBankLoaded s) := by
  unfold execConfigBankLoaded; simp

theorem fr_execSelfTestDone (t : SelfTest) (s : State) : FrO 0x1008a520 0x300000400000001000100003 s (execSelfTestDone
    t s) := by
  unfold execSelfTestDone; simp

@[simp] theorem fr_loadLoop {P W : Nat} (b_ : State) (s : State) (b : Nat)
    (hP : P &&& 0x100000000 = 0x100000000) (hW : W &&& 0x0 = 0x0) :
    Fr P W b_ (State.loadLoop s b) ↔ Fr P W b_ s := Fr.iff (p := 0x100000000) (w := 0x0) (by
  unfold State.loadLoop; simp) hP hW

@[simp] theorem fr_loadMemory {P W : Nat} (b_ : State) (s : State) (img : PlantImage)
    (hP : P &&& 0x1c0020000 = 0x1c0020000) (hW : W &&& 0x0 = 0x0) :
    Fr P W b_ (State.loadMemory s img) ↔ Fr P W b_ s := Fr.iff (p := 0x1c0020000) (w := 0x0) (by
  unfold State.loadMemory; simp) hP hW

@[simp] theorem fr_mapRetained {P W : Nat} (b_ : State) (s : State) (m : StateMap) (x : Nat × Nat)
    (hP : P &&& 0x340000000 = 0x340000000) (hW : W &&& 0x0 = 0x0) :
    Fr P W b_ (State.mapRetained s m x) ↔ Fr P W b_ s := Fr.iff (p := 0x340000000) (w := 0x0) (by
  unfold State.mapRetained; (repeat' split) <;> simp) hP hW

@[simp] theorem fr_readRetained {P W : Nat} (b_ : State) (s : State) (img : PlantImage)
    (hP : P &&& 0x340008000 = 0x340008000) (hW : W &&& 0x0 = 0x0) :
    Fr P W b_ (State.readRetained s img) ↔ Fr P W b_ s := Fr.iff (p := 0x340008000) (w := 0x0) (by
  unfold State.readRetained; simp; (repeat' split) <;> simp) hP hW

@[simp] theorem fr_loadTime {P W : Nat} (b_ : State) (s : State) (img : PlantImage)
    (hP : P &&& 0x4020 = 0x4020) (hW : W &&& 0x30000000000000000 = 0x30000000000000000) :
    Fr P W b_ (State.loadTime s img) ↔ Fr P W b_ s := Fr.iff (p := 0x4020) (w := 0x30000000000000000) (by
  clear hP hW; unfold State.loadTime; (repeat' split) <;> (try simp) <;> (repeat' split) <;> simp_all) hP hW

@[simp] theorem fr_loadPorts {P W : Nat} (b_ : State) (s : State) (img : PlantImage)
    (hP : P &&& 0x800020 = 0x800020) (hW : W &&& 0x80000000000000000000000000 = 0x80000000000000000000000000) :
    Fr P W b_ (State.loadPorts s img) ↔ Fr P W b_ s := Fr.iff (p := 0x800020) (w := 0x80000000000000000000000000) (by
  unfold State.loadPorts; simp) hP hW

@[simp] theorem fr_loadRest {P W : Nat} (b_ : State) (s : State) (img : PlantImage)
    (hP : P &&& 0x2020 = 0x2020) (hW : W &&& 0x100000240000001000000680 = 0x100000240000001000000680) :
    Fr P W b_ (State.loadRest s img) ↔ Fr P W b_ s := Fr.iff (p := 0x2020) (w := 0x100000240000001000000680) (by
  unfold State.loadRest; simp) hP hW

@[simp] theorem fr_seal {P W : Nat} (b_ : State) (s : State) (img : PlantImage)
    (hP : P &&& 0x80000a020 = 0x80000a020) (hW : W &&& 0x200 = 0x200) :
    Fr P W b_ (State.seal s img) ↔ Fr P W b_ s := Fr.iff (p := 0x80000a020) (w := 0x200) (by
  clear hP hW; unfold State.seal; (repeat' split) <;> (try simp) <;> (repeat' split) <;> simp_all) hP hW

@[simp] theorem fr_acceptImage {P W : Nat} (b_ : State) (s : State) (img : PlantImage)
    (hP : P &&& 0xbc08ee720 = 0xbc08ee720) (hW : W &&& 0x80100000270000001000100681 = 0x80100000270000001000100681) :
    Fr P W b_ (State.acceptImage s img) ↔ Fr P W b_ s := Fr.iff (p := 0xbc08ee720) (w := 0x80100000270000001000100681) (by
  unfold State.acceptImage; simp) hP hW

theorem fr_execPlantImageDecoded (img : PlantImage) (s : State) : FrO 0xffffff7e0 0x7ffffffffffffffffffffffffffffffff s
    (execPlantImageDecoded img s) := by
  unfold execPlantImageDecoded; simp

@[simp] theorem fr_loadUc {P W : Nat} (b_ : State) (s : State) (c : UcCfg)
    (hP : P &&& 0x102130 = 0x102130) (hW : W &&& 0x1c000000000000000000000000000002 = 0x1c000000000000000000000000000002) :
    Fr P W b_ (State.loadUc s c) ↔ Fr P W b_ s := Fr.iff (p := 0x102130) (w := 0x1c000000000000000000000000000002) (by
  unfold State.loadUc; simp) hP hW

@[simp] theorem fr_loadDc {P W : Nat} (b_ : State) (s : State) (c : DcCfg)
    (hP : P &&& 0x100020 = 0x100020) (hW : W &&& 0x180000000000000000000000000000000 =
        0x180000000000000000000000000000000) :
    Fr P W b_ (State.loadDc s c) ↔ Fr P W b_ s := Fr.iff (p := 0x100020) (w := 0x180000000000000000000000000000000) (by
  unfold State.loadDc; simp) hP hW

@[simp] theorem fr_unloadUc {P W : Nat} (b_ : State) (s : State) (n : Nat)
    (hP : P &&& 0x100020 = 0x100020) (hW : W &&& 0xc000000000000000000000000000000 = 0xc000000000000000000000000000000) :
    Fr P W b_ (State.unloadUc s n) ↔ Fr P W b_ s := Fr.iff (p := 0x100020) (w := 0xc000000000000000000000000000000) (by
  unfold State.unloadUc; simp) hP hW

@[simp] theorem fr_unloadDc {P W : Nat} (b_ : State) (s : State) (m : Nat)
    (hP : P &&& 0x100020 = 0x100020) (hW : W &&& 0x180000000000000000000000000000000 =
        0x180000000000000000000000000000000) :
    Fr P W b_ (State.unloadDc s m) ↔ Fr P W b_ s := Fr.iff (p := 0x100020) (w := 0x180000000000000000000000000000000) (by
  unfold State.unloadDc; simp) hP hW

@[simp] theorem fr_wakeShell {P W : Nat} (b_ : State) (s : State) (k : Nat)
    (hP : P &&& 0x100020 = 0x100020) (hW : W &&& 0x420000000000000000000000000000002 =
        0x420000000000000000000000000000002) :
    Fr P W b_ (State.wakeShell s k) ↔ Fr P W b_ s := Fr.iff (p := 0x100020) (w := 0x420000000000000000000000000000002) (by
  clear hP hW; unfold State.wakeShell; (repeat' split) <;> (try simp) <;> (repeat' split) <;> simp_all) hP hW

theorem fr_execShellsLoaded (s : State) : FrO 0x1102132 0x7bd642000012000000000000000000003 s (execShellsLoaded s) := by
  unfold execShellsLoaded; simp

@[simp] theorem fr_stepTime {P W : Nat} (b_ : State) (s : State) (pt bt : Instant)
    (hP : P &&& 0x6000 = 0x6000) (hW : W &&& 0x0 = 0x0) :
    Fr P W b_ (State.stepTime s pt bt) ↔ Fr P W b_ s := Fr.iff (p := 0x6000) (w := 0x0) (by
  unfold State.stepTime; simp) hP hW

@[simp] theorem fr_timeDone {P W : Nat} (b_ : State) (s : State)
    (hP : P &&& 0x1008a520 = 0x1008a520) (hW : W &&& 0x300000000000000000100007 = 0x300000000000000000100007) :
    Fr P W b_ (State.timeDone s) ↔ Fr P W b_ s := Fr.iff (p := 0x1008a520) (w := 0x300000000000000000100007) (by
  unfold State.timeDone; simp) hP hW

@[simp] theorem fr_takeState {P W : Nat} (b_ : State) (s : State) (st : Nat)
    (hP : P &&& 0x6130 = 0x6130) (hW : W &&& 0x4800000000000000 = 0x4800000000000000) :
    Fr P W b_ (State.takeState s st) ↔ Fr P W b_ s := Fr.iff (p := 0x6130) (w := 0x4800000000000000) (by
  unfold State.takeState; simp) hP hW

theorem fr_execTimeAcquired (t : TimeStep) (s : State) : FrO 0x1008e530 0x300000004800000000100007 s (execTimeAcquired
    t s) := by
  unfold execTimeAcquired; simp; (repeat' split) <;> simp

theorem fr_execAcquisitionTimeout (s : State) : FrO 0x1008e520 0x300000000800000000100007 s (execAcquisitionTimeout s) := by
  unfold execAcquisitionTimeout; simp

@[simp] theorem fr_decided {P W : Nat} (b_ : State) (s : State)
    (hP : P &&& 0x120 = 0x120) (hW : W &&& 0x1 = 0x1) :
    Fr P W b_ (State.decided s) ↔ Fr P W b_ s := Fr.iff (p := 0x120) (w := 0x1) (by
  unfold State.decided; simp) hP hW

@[simp] theorem fr_showOwn {P W : Nat} (b_ : State) (s : State)
    (hP : P &&& 0x3511fe520 = 0x3511fe520) (hW : W &&& 0x108008000300c40400000000000000002 =
        0x108008000300c40400000000000000002) :
    Fr P W b_ (State.showOwn s) ↔ Fr P W b_ s := Fr.iff (p := 0x3511fe520) (w := 0x108008000300c40400000000000000002) (by
  unfold State.showOwn; simp) hP hW

@[simp] theorem fr_claimShown {P W : Nat} (b_ : State) (s : State)
    (hP : P &&& 0x3500fe520 = 0x3500fe520) (hW : W &&& 0x300c40400000000000000002 = 0x300c40400000000000000002) :
    Fr P W b_ (State.claimShown s) ↔ Fr P W b_ s := Fr.iff (p := 0x3500fe520) (w := 0x300c40400000000000000002) (by
  unfold State.claimShown; simp) hP hW

@[simp] theorem fr_endCaldera {P W : Nat} (b_ : State) (s : State)
    (hP : P &&& 0x88020 = 0x88020) (hW : W &&& 0x200000000000000000000000 = 0x200000000000000000000000) :
    Fr P W b_ (State.endCaldera s) ↔ Fr P W b_ s := Fr.iff (p := 0x88020) (w := 0x200000000000000000000000) (by
  clear hP hW; unfold State.endCaldera; (repeat' split) <;> (try simp) <;> (repeat' split) <;> simp_all) hP hW

theorem fr_execRoleDecision (partnerHash : BitVec 384) (partnerFw : W64) (updateNames : Option (BitVec 384)) (s :
    State) : FrO 0x7fffff7e0 0x7ffffffffffffffffffffffffffffffff s (execRoleDecision partnerHash partnerFw updateNames
        s) := by
  unfold execRoleDecision; simp

@[simp] theorem fr_startAt {P W : Nat} (b_ : State) (s : State) (t : Instant)
    (hP : P &&& 0x10000 = 0x10000) (hW : W &&& 0x0 = 0x0) :
    Fr P W b_ (State.startAt s t) ↔ Fr P W b_ s := Fr.iff (p := 0x10000) (w := 0x0) (by
  unfold State.startAt; simp) hP hW

theorem fr_execFirstCommit (s : State) : FrO 0x1001b520 0x40440000001000300000 s (execFirstCommit s) := by
  unfold execFirstCommit; simp

theorem fr_execKeyRemoved (s : State) : FrO 0x10093120 0x100000000000000000910002 s (execKeyRemoved s) := by
  unfold execKeyRemoved; simp

theorem fr_execKeyInserted (content : Option KeyImage) (s : State) : FrO 0x1000 0x0 s (execKeyInserted content s) := by
  unfold execKeyInserted; simp; (repeat' split) <;> simp

theorem fr_execKeyHeaderReread (s : State) : FrO 0x2120 0x810001 s (execKeyHeaderReread s) := by
  unfold execKeyHeaderReread; simp

theorem fr_execOwnerLockChange (l : LockState) (s : State) : FrO 0xa120 0x100000 s (execOwnerLockChange l s) := by
  unfold execOwnerLockChange; simp

end Sys2Proof.Machine
end

