-- ==== Sys2Proof/Laws/FrameIslands.lean ====
section
/-! SUPPORT. What the functions of Machine/Islands.lean may change: for each, as bit masks, the parts of the state and the registers. -/

namespace Sys2Proof.Machine

@[simp] theorem fr_setIsland {P W : Nat} (b_ : State) (s : State) (i : Nat) (x : Isl)
    (hP : P &&& 0x20000000 = 0x20000000) (hW : W &&& 0x0 = 0x0) :
    Fr P W b_ (State.setIsland s i x) ↔ Fr P W b_ s := Fr.iff (p := 0x20000000) (w := 0x0) (by
  unfold State.setIsland; simp) hP hW

@[simp] theorem fr_setAlive {P W : Nat} (b_ : State) (s : State) (i : Nat) (b : Bool)
    (hP : P &&& 0x20 = 0x20) (hW : W &&& 0x420000000000000000000000000000002 = 0x420000000000000000000000000000002) :
    Fr P W b_ (State.setAlive s i b) ↔ Fr P W b_ s := Fr.iff (p := 0x20) (w := 0x420000000000000000000000000000002) (by
  unfold State.setAlive; simp) hP hW

@[simp] theorem fr_portsDown {P W : Nat} (b_ : State) (s : State)
    (hP : P &&& 0x804120 = 0x804120) (hW : W &&& 0x80000000020000000000000000 = 0x80000000020000000000000000) :
    Fr P W b_ (State.portsDown s) ↔ Fr P W b_ s := Fr.iff (p := 0x804120) (w := 0x80000000020000000000000000) (by
  unfold State.portsDown; simp) hP hW

@[simp] theorem fr_holdShell {P W : Nat} (b_ : State) (s : State) (k : Nat)
    (hP : P &&& 0x100000 = 0x100000) (hW : W &&& 0x0 = 0x0) :
    Fr P W b_ (State.holdShell s k) ↔ Fr P W b_ s := Fr.iff (p := 0x100000) (w := 0x0) (by
  unfold State.holdShell; simp) hP hW

@[simp] theorem fr_stallReact {P W : Nat} (b_ : State) (s : State) (i : Nat)
    (hP : P &&& 0x149fe520 = 0x149fe520) (hW : W &&& 0x80300a50460000043000100003 = 0x80300a50460000043000100003) :
    Fr P W b_ (State.stallReact s i) ↔ Fr P W b_ s := Fr.iff (p := 0x149fe520) (w := 0x80300a50460000043000100003) (by
  unfold State.stallReact; simp; (repeat' split) <;> simp) hP hW

@[simp] theorem fr_stallAgain {P W : Nat} (b_ : State) (s : State) (i : Nat)
    (hP : P &&& 0x309fe520 = 0x309fe520) (hW : W &&& 0x80300a50460000000000000002 = 0x80300a50460000000000000002) :
    Fr P W b_ (State.stallAgain s i) ↔ Fr P W b_ s := Fr.iff (p := 0x309fe520) (w := 0x80300a50460000000000000002) (by
  unfold State.stallAgain; simp) hP hW

@[simp] theorem fr_stall {P W : Nat} (b_ : State) (s : State) (i : Nat) (c : StallCause)
    (hP : P &&& 0x349fe520 = 0x349fe520) (hW : W &&& 0x420000080300a50460000043000100003 =
        0x420000080300a50460000043000100003) :
    Fr P W b_ (State.stall s i c) ↔ Fr P W b_ s := Fr.iff (p := 0x349fe520) (w := 0x420000080300a50460000043000100003) (by
  unfold State.stall; simp) hP hW

theorem fr_execIslandClockCheck (i : Fin 18) (dev : Int) (s : State) : FrO 0x349fe520
    0x420000080300a50460000043000100003 s (execIslandClockCheck i dev s) := by
  unfold execIslandClockCheck; simp

theorem fr_execIslandStall (i : Fin 18) (c : StallCause) (s : State) : FrO 0x349fe520
    0x420000080300a50460000043000100003 s (execIslandStall i c s) := by
  unfold execIslandStall; simp

@[simp] theorem fr_restarted {P W : Nat} (b_ : State) (s : State) (i : Nat)
    (hP : P &&& 0x20002120 = 0x20002120) (hW : W &&& 0x420000000000000000000000000000002 =
        0x420000000000000000000000000000002) :
    Fr P W b_ (State.restarted s i) ↔ Fr P W b_ s := Fr.iff (p := 0x20002120) (w := 0x420000000000000000000000000000002) (by
  unfold State.restarted; simp) hP hW

@[simp] theorem fr_sxRestart {P W : Nat} (b_ : State) (s : State)
    (hP : P &&& 0x400000 = 0x400000) (hW : W &&& 0x0 = 0x0) :
    Fr P W b_ (State.sxRestart s) ↔ Fr P W b_ s := Fr.iff (p := 0x400000) (w := 0x0) (by
  unfold State.sxRestart; simp) hP hW

theorem fr_execIslandRestartDone (i : Fin 18) (s : State) : FrO 0x21c02120 0x420008080000000000000000000000002 s
    (execIslandRestartDone i s) := by
  unfold execIslandRestartDone; simp; (repeat' split) <;> simp

theorem fr_execRegisterAccessTimeout (i : Fin 18) (addr : Nat) (s : State) : FrO 0x2024 0x2 s
    (execRegisterAccessTimeout i addr s) := by
  unfold execRegisterAccessTimeout; simp

theorem fr_execShellWatchdogRestart (k : Fin 10) (s : State) : FrO 0x100002 0x0 s (execShellWatchdogRestart k s) := by
  unfold execShellWatchdogRestart; simp

theorem fr_execShellStageHoldExpire (k : Fin 10) (s : State) : FrO 0x100020 0x108000000000000000000000000000000 s
    (execShellStageHoldExpire k s) := by
  unfold execShellStageHoldExpire; simp

theorem fr_execShellReloadDone (k : Fin 10) (s : State) : FrO 0x20102122 0x520000000000000000000000000000002 s
    (execShellReloadDone k s) := by
  unfold execShellReloadDone; simp

end Sys2Proof.Machine
end

