-- ==== Sys2Proof/Laws/FrameOrders.lean ====
section
/-! SUPPORT. What the functions of Machine/Orders.lean may change: for each, as bit masks, the parts of the state and the registers. -/

namespace Sys2Proof.Machine

theorem fr_execSinterCursorRead (h : SvcMsg) (start : BitVec 48) (count : Nat) (s : State) : FrO 0x800022
    0x100000000000000000000000000 s (execSinterCursorRead h start count s) := by
  unfold execSinterCursorRead; simp

theorem fr_execSinterClear (h : SvcMsg) (s : State) : FrO 0x802122 0x10000000000000000000c800000 s (execSinterClear h
    s) := by
  unfold execSinterClear; simp

theorem fr_execOwnerEnrolment (h : SvcMsg) (ownerKey : BitVec 768) (fingerprint : BitVec 384) (binary : Nat) (s :
    State) : FrO 0x803022 0x100000000000000000000000000 s (execOwnerEnrolment h ownerKey fingerprint binary s) := by
  unfold execOwnerEnrolment; simp

@[simp] theorem fr_maintAnswer {P W : Nat} (b_ : State) (s : State) (h : SvcMsg) (c : Nat)
    (hP : P &&& 0x800022 = 0x800022) (hW : W &&& 0x100000000000000000000000000 = 0x100000000000000000000000000) :
    Fr P W b_ (State.maintAnswer s h c) ↔ Fr P W b_ s := Fr.iff (p := 0x800022) (w := 0x100000000000000000000000000) (by
  unfold State.maintAnswer; simp) hP hW

theorem fr_execSvcMaintEnter (h : SvcMsg) (s : State) : FrO 0x1088a522 0x140100000000000000000000002 s
    (execSvcMaintEnter h s) := by
  unfold execSvcMaintEnter; simp

theorem fr_execSvcMaintLeave (h : SvcMsg) (s : State) : FrO 0x7fffff7e2 0x7ffffffffffffffffffffffffffffffff s
    (execSvcMaintLeave h s) := by
  unfold execSvcMaintLeave; simp

theorem fr_execSvcDormant (h : SvcMsg) (s : State) : FrO 0x83a122 0x100000010440000000000000020 s (execSvcDormant h s) := by
  unfold execSvcDormant; simp

theorem fr_execHartPassthrough (h : SvcMsg) (n : Fin 32) (frame : List Byte) (s : State) : FrO 0x900022
    0x40000100000000000000000000000000 s (execHartPassthrough h n frame s) := by
  unfold execHartPassthrough; simp

theorem fr_execHartPassthroughSend (n : Fin 32) (answer : Option (HartReply × List Byte)) (s : State) : FrO 0x902122
    0x58000100000000000000000000000002 s (execHartPassthroughSend n answer s) := by
  unfold execHartPassthroughSend; simp; (repeat' split) <;> simp

end Sys2Proof.Machine
end

