-- ==== Sys2Proof/Laws/FrameRegisters.lean ====
section
/-! SUPPORT. What the functions of Machine/Registers.lean may change: for each, as bit masks, the parts of the state and the registers. -/

namespace Sys2Proof.Machine

@[simp] theorem fr_setLatched {P W : Nat} (b_ : State) (s : State) (n : RegName) (i : Nat) (x : Option Word)
    (hP : P &&& 0x40 = 0x40) (hW : W &&& 0x0 = 0x0) :
    Fr P W b_ (State.setLatched s n i x) ↔ Fr P W b_ s := Fr.iff (p := 0x40) (w := 0x0) (by
  unfold State.setLatched; simp) hP hW

@[simp] theorem fr_setHeldLo {P W : Nat} (b_ : State) (s : State) (n : RegName) (i : Nat) (v : Word)
    (hP : P &&& 0x80 = 0x80) (hW : W &&& 0x0 = 0x0) :
    Fr P W b_ (State.setHeldLo s n i v) ↔ Fr P W b_ s := Fr.iff (p := 0x80) (w := 0x0) (by
  unfold State.setHeldLo; simp) hP hW

@[simp] theorem fr_latchPair {P W : Nat} (b_ : State) (s : State) (n : RegName) (i : Nat)
    (hP : P &&& 0x40 = 0x40) (hW : W &&& 0x0 = 0x0) :
    Fr P W b_ (State.latchPair s n i) ↔ Fr P W b_ s := Fr.iff (p := 0x40) (w := 0x0) (by
  unfold State.latchPair; simp) hP hW

@[simp] theorem fr_plainWrite {P W : Nat} (b_ : State) (s : State) (n : RegName) (i : Nat) (v : Word)
    (hP : P &&& 0x20 = 0x20) (hW : W &&& 0x7ffffffffffffffffffffffffffffffff = 0x7ffffffffffffffffffffffffffffffff) :
    Fr P W b_ (s.plainWrite n i v) ↔ Fr P W b_ s := Fr.iff (p := 0x20) (w := 0x7ffffffffffffffffffffffffffffffff) (by
  clear hP hW; unfold State.plainWrite; exact (fr_setReg _ _ _ _ _ rfl (by cases n <;> rfl)).2 (by simp)) hP hW

@[simp] theorem fr_tbWrite {P W : Nat} (b_ : State) (s : State) (n : Nat) (v : Word)
    (hP : P &&& 0x4020 = 0x4020) (hW : W &&& 0x7ffffffffffffffffffffffffffffffff = 0x7ffffffffffffffffffffffffffffffff) :
    Fr P W b_ (State.tbWrite s n v) ↔ Fr P W b_ s := Fr.iff (p := 0x4020) (w := 0x7ffffffffffffffffffffffffffffffff) (by
  unfold State.tbWrite; simp) hP hW

theorem fr_orderRst (s : State) (c : Nat) : FrO 0x7fffff7e0 0x7ffffffffffffffffffffffffffffffff s (s.orderRst c) := by
  unfold State.orderRst
  split
  · exact (fr_execSupervisorReset s).mono rfl rfl
  · split
    · exact (fr_execEnterDormant s).mono rfl rfl
    · trivial

@[simp] theorem fr_orderDoor {P W : Nat} (b_ : State) (s : State) (w n : Nat) (v : Word)
    (hP : P &&& 0x2000122 = 0x2000122) (hW : W &&& 0xa00000000 = 0xa00000000) :
    Fr P W b_ (State.orderDoor s w n v) ↔ Fr P W b_ s := Fr.iff (p := 0x2000122) (w := 0xa00000000) (by
  unfold State.orderDoor; simp; (repeat' split) <;> simp) hP hW

theorem fr_orderAck (s : State) (w n : Nat) (v : Word) : FrO 0x122 0xa00000000 s (s.orderAck w n v) := by
  unfold State.orderAck
  split
  · split
    · exact (fr_execMbAckWrite _ _ _ s).mono rfl rfl
    · simp
  · simp

@[simp] theorem fr_orderLk {P W : Nat} (b_ : State) (s : State) (w : Nat) (v : Word)
    (hP : P &&& 0x4000020 = 0x4000020) (hW : W &&& 0x41000000000 = 0x41000000000) :
    Fr P W b_ (State.orderLk s w v) ↔ Fr P W b_ s := Fr.iff (p := 0x4000020) (w := 0x41000000000) (by
  unfold State.orderLk; simp; (repeat' split) <;> simp) hP hW

@[simp] theorem fr_orderMt {P W : Nat} (b_ : State) (s : State) (w : Nat) (v : Word)
    (hP : P &&& 0x3c07fe120 = 0x3c07fe120) (hW : W &&& 0xa5c2c6ff8000000000002 = 0xa5c2c6ff8000000000002) :
    Fr P W b_ (State.orderMt s w v) ↔ Fr P W b_ s := Fr.iff (p := 0x3c07fe120) (w := 0xa5c2c6ff8000000000002) (by
  unfold State.orderMt; simp) hP hW

theorem fr_orderGy (s : State) (v : Word) : FrO 0x202122 0xb1000000000000000000000 s (State.orderGy s v) := by
  unfold State.orderGy; (repeat' split) <;> simp

theorem fr_orderBn (s : State) (w c : Nat) : FrO 0x100ba522 0x40100000000000000000000002 s (s.orderBn w c) := by
  unfold State.orderBn
  split
  · simp
  · split
    · exact (fr_execHandoverOrder _ _ s).mono rfl rfl
    · exact (fr_execHandoverCancel _ s).mono rfl rfl
    · exact (fr_execEnterMaintenance _ s).mono rfl rfl
    · exact (fr_execLeaveMaintenance _ s).mono rfl rfl
    · exact (fr_execPartnerReset _ s).mono rfl rfl
    · simp

theorem fr_orderCn (s : State) (p : Nat) (v : Word) : FrO 0x2120 0x8000000000000000000000000002 s (s.orderCn p v) := by
  unfold State.orderCn
  split
  · split
    · exact (fr_execCanRecover _ s).mono rfl rfl
    · simp
  · simp

@[simp] theorem fr_holdHalf {P W : Nat} (b_ : State) (s : State) (w : Nat) (n : RegName) (i : Nat) (v : Word)
    (hP : P &&& 0x80 = 0x80) (hW : W &&& 0x0 = 0x0) :
    Fr P W b_ (State.holdHalf s w n i v) ↔ Fr P W b_ s := Fr.iff (p := 0x80) (w := 0x0) (by
  unfold State.holdHalf; simp) hP hW

@[simp] theorem fr_commitPair {P W : Nat} (b_ : State) (s : State) (w : Nat) (n : RegName) (i : Nat) (v : Word)
    (hP : P &&& 0x2020 = 0x2020) (hW : W &&& 0x300000000000000001c0000000 = 0x300000000000000001c0000000) :
    Fr P W b_ (State.commitPair s w n i v) ↔ Fr P W b_ s := Fr.iff (p := 0x2020) (w := 0x300000000000000001c0000000) (by
  unfold State.commitPair; (repeat' split) <;> simp) hP hW

theorem fr_regWrite (s : State) (w : Nat) (n : RegName) (i : Nat) (v : Word) : FrO 0x7fffff7e2
    0x7ffffffffffffffffffffffffffffffff s (s.regWrite w n i v) := by
  unfold State.regWrite
  split
  · simp
  · split
    · exact (fr_orderRst s _).mono rfl rfl
    · simp
    · simp
    · split <;> simp
    · simp
    · simp
    · exact (fr_orderAck s _ _ _).mono rfl rfl
    · simp
    · simp
    · simp
    · exact (fr_orderGy s _).mono rfl rfl
    · simp
    · exact (fr_orderBn s _ _).mono rfl rfl
    · exact (fr_orderCn s _ _).mono rfl rfl
    · simp
    · simp
    · simp
    · simp
    · simp
    · simp

@[simp] theorem fr_clearRc {P W : Nat} (b_ : State) (s : State) (n : RegName) (i : Nat) (v : Word)
    (hP : P &&& 0x800020 = 0x800020) (hW : W &&& 0x7ffffffffffffffffffffffffffffffff =
        0x7ffffffffffffffffffffffffffffffff) :
    Fr P W b_ (s.clearRc n i v) ↔ Fr P W b_ s := Fr.iff (p := 0x800020) (w := 0x7ffffffffffffffffffffffffffffffff) (by
  clear hP hW; unfold State.clearRc
  split
  · simp
  · split
    · simp
    · exact (fr_setReg _ _ _ _ _ rfl (by cases n <;> rfl)).2 (by simp)) hP hW

@[simp] theorem fr_regAfter {P W : Nat} (b_ : State) (s : State) (w : Nat) (n : RegName) (i : Nat) (v : Word)
    (hP : P &&& 0x820060 = 0x820060) (hW : W &&& 0x7ffffffffffffffffffffffffffffffff =
        0x7ffffffffffffffffffffffffffffffff) :
    Fr P W b_ (s.regAfter w n i v) ↔ Fr P W b_ s := Fr.iff (p := 0x820060) (w := 0x7ffffffffffffffffffffffffffffffff) (by
  clear hP hW; unfold State.regAfter; split <;> simp) hP hW

theorem frO_guard {P W : Nat} (s : State) (r : Reg) (x : Res) (h : FrO P W s x) : FrO P W s (guardReg r x) := by
  unfold guardReg; split
  · exact h
  · trivial


theorem fr_execPairLoRead (r : Reg) (s : State) : FrO 0x820064 0x7ffffffffffffffffffffffffffffffff s (execPairLoRead r
    s) := by
  unfold execPairLoRead
  exact frO_guard _ _ _ (by simp)

theorem fr_execPairLoWrite (r : Reg) (v : Word) (s : State) : FrO 0x80 0x0 s (execPairLoWrite r v s) := by
  unfold execPairLoWrite
  exact frO_guard _ _ _ (by simp)

theorem fr_execPairHiWrite (w : Writer) (r : Reg) (v : Word) (s : State) : FrO 0x2020 0x300000000000000001c0000000 s
    (execPairHiWrite w r v s) := by
  unfold execPairHiWrite
  exact frO_guard _ _ _ (by simp)

theorem fr_execW1cWrite (r : Reg) (v u : Word) (s : State) : FrO 0x20 0x7ffffffffffffffffffffffffffffffff s
    (execW1cWrite r v u s) := by
  unfold execW1cWrite
  exact frO_guard _ _ _ ((fr_setReg _ _ _ _ _ rfl (by cases r.name <;> rfl)).2 (by simp))

theorem fr_execRcRead (r : Reg) (v : Word) (s : State) : FrO 0x820064 0x7ffffffffffffffffffffffffffffffff s (execRcRead
    r v s) := by
  unfold execRcRead
  exact frO_guard _ _ _ (by simp)

end Sys2Proof.Machine
end

