-- ==== Sys2Proof/Laws/FrameAccess.lean ====
section
/-! SUPPORT. What the functions of Machine/Access.lean may change: for each, as bit masks, the parts of the state and the registers. -/

namespace Sys2Proof.Machine

@[simp] theorem fr_scrubShow {P W : Nat} (b_ : State) (s : State) (a : Nat)
    (hP : P &&& 0x20 = 0x20) (hW : W &&& 0x8000 = 0x8000) :
    Fr P W b_ (State.scrubShow s a) ↔ Fr P W b_ s := Fr.iff (p := 0x20) (w := 0x8000) (by
  unfold State.scrubShow; simp) hP hW

@[simp] theorem fr_stMemory {P W : Nat} (b_ : State) (s : State)
    (hP : P &&& 0x80000 = 0x80000) (hW : W &&& 0x0 = 0x0) :
    Fr P W b_ (State.stMemory s) ↔ Fr P W b_ s := Fr.iff (p := 0x80000) (w := 0x0) (by
  unfold State.stMemory; simp) hP hW

@[simp] theorem fr_eccCorrected {P W : Nat} (b_ : State) (s : State)
    (hP : P &&& 0x8082120 = 0x8082120) (hW : W &&& 0x4000 = 0x4000) :
    Fr P W b_ (State.eccCorrected s) ↔ Fr P W b_ s := Fr.iff (p := 0x8082120) (w := 0x4000) (by
  clear hP hW; unfold State.eccCorrected; (repeat' split) <;> (try simp) <;> (repeat' split) <;> simp_all) hP hW

@[simp] theorem fr_eccLoop {P W : Nat} (b_ : State) (s : State) (l : Nat)
    (hP : P &&& 0x1000e2120 = 0x1000e2120) (hW : W &&& 0xa48000000000000000002 = 0xa48000000000000000002) :
    Fr P W b_ (State.eccLoop s l) ↔ Fr P W b_ s := Fr.iff (p := 0x1000e2120) (w := 0xa48000000000000000002) (by
  unfold State.eccLoop; simp; (repeat' split) <;> simp) hP hW

@[simp] theorem fr_eccGeyser {P W : Nat} (b_ : State) (s : State)
    (hP : P &&& 0x200010 = 0x200010) (hW : W &&& 0x0 = 0x0) :
    Fr P W b_ (State.eccGeyser s) ↔ Fr P W b_ s := Fr.iff (p := 0x200010) (w := 0x0) (by
  unfold State.eccGeyser; simp) hP hW

@[simp] theorem fr_eccFrame {P W : Nat} (b_ : State) (s : State) (scapex : Bool)
    (hP : P &&& 0x30 = 0x30) (hW : W &&& 0x800100000000000000000000000000 = 0x800100000000000000000000000000) :
    Fr P W b_ (State.eccFrame s scapex) ↔ Fr P W b_ s := Fr.iff (p := 0x30) (w := 0x800100000000000000000000000000) (by
  unfold State.eccFrame; simp) hP hW

@[simp] theorem fr_eccRegion {P W : Nat} (b_ : State) (s : State) (a : Nat)
    (hP : P &&& 0x3d02fa530 = 0x3d02fa530) (hW : W &&& 0x800100300a58440000000000000002 =
        0x800100300a58440000000000000002) :
    Fr P W b_ (State.eccRegion s a) ↔ Fr P W b_ s := Fr.iff (p := 0x3d02fa530) (w := 0x800100300a58440000000000000002) (by
  unfold State.eccRegion; simp; (repeat' split) <;> simp) hP hW

@[simp] theorem fr_eccUncorrectable {P W : Nat} (b_ : State) (s : State) (a : Nat)
    (hP : P &&& 0x3d02fa530 = 0x3d02fa530) (hW : W &&& 0x800100300a58440000000000004002 =
        0x800100300a58440000000000004002) :
    Fr P W b_ (State.eccUncorrectable s a) ↔ Fr P W b_ s := Fr.iff (p := 0x3d02fa530) (w :=
        0x800100300a58440000000000004002) (by
  unfold State.eccUncorrectable; simp; (repeat' split) <;> simp) hP hW

@[simp] theorem fr_windowRead {P W : Nat} (b_ : State) (s : State) (slot off : Nat)
    (hP : P &&& 0x2030 = 0x2030) (hW : W &&& 0x1c0000000 = 0x1c0000000) :
    Fr P W b_ (State.windowRead s slot off).2 ↔ Fr P W b_ s := Fr.iff (p := 0x2030) (w := 0x1c0000000) (by
  unfold State.windowRead; simp) hP hW

@[simp] theorem fr_slotRead {P W : Nat} (b_ : State) (s : State) (w slot off : Nat)
    (hP : P &&& 0x822070 = 0x822070) (hW : W &&& 0x7ffffffffffffffffffffffffffffffff =
        0x7ffffffffffffffffffffffffffffffff) :
    Fr P W b_ (State.slotRead s w slot off).2 ↔ Fr P W b_ s := Fr.iff (p := 0x822070) (w :=
        0x7ffffffffffffffffffffffffffffffff) (by
  unfold State.slotRead; simp; (repeat' split) <;> simp) hP hW

@[simp] theorem fr_slotReads {P W : Nat} (b_ : State) (s : State) (w slot off : Nat) (x0 : Nat)
    (hP : P &&& 0x822070 = 0x822070) (hW : W &&& 0x7ffffffffffffffffffffffffffffffff =
        0x7ffffffffffffffffffffffffffffffff) :
    Fr P W b_ (State.slotReads s w slot off x0).2 ↔ Fr P W b_ s := Fr.iff (p := 0x822070) (w :=
        0x7ffffffffffffffffffffffffffffffff) (by
  clear hP hW
  have key : ∀ c_, Fr 0x822070 0x7ffffffffffffffffffffffffffffffff c_ (State.slotReads s w slot off x0).2 ↔ Fr 0x822070
      0x7ffffffffffffffffffffffffffffffff c_ s := by
    induction x0 generalizing s w slot off with
    | zero => intro c_; unfold State.slotReads; simp
    | succ n_ ih => intro c_; unfold State.slotReads; simp [ih]
  exact (key _).2 (by simp)) hP hW

@[simp] theorem fr_slotTimeout {P W : Nat} (b_ : State) (s : State) (n a : Nat)
    (hP : P &&& 0x2020 = 0x2020) (hW : W &&& 0x2 = 0x2) :
    Fr P W b_ (State.slotTimeout s n a) ↔ Fr P W b_ s := Fr.iff (p := 0x2020) (w := 0x2) (by
  unfold State.slotTimeout; simp) hP hW

@[simp] theorem fr_readPart {P W : Nat} (b_ : State) (s : State) (c : Cls) (held : List Held) (e : Ecc) (a size : Nat)
    (hP : P &&& 0x3d8afa570 = 0x3d8afa570) (hW : W &&& 0x7ffffffffffffffffffffffffffffffff =
        0x7ffffffffffffffffffffffffffffffff) :
    Fr P W b_ (State.readPart s c held e a size).2 ↔ Fr P W b_ s := Fr.iff (p := 0x3d8afa570) (w :=
        0x7ffffffffffffffffffffffffffffffff) (by
  unfold State.readPart; simp; (repeat' split) <;> simp) hP hW

@[simp] theorem fr_readParts {P W : Nat} (b_ : State) (s : State) (c : Cls) (held : List Held) (es : List Ecc) (ps :
    List ((Nat × Nat) × Nat))
    (hP : P &&& 0x3d8afa570 = 0x3d8afa570) (hW : W &&& 0x7ffffffffffffffffffffffffffffffff =
        0x7ffffffffffffffffffffffffffffffff) :
    Fr P W b_ ((s.readParts c held es ps).2) ↔ Fr P W b_ s := Fr.iff (p := 0x3d8afa570) (w :=
        0x7ffffffffffffffffffffffffffffffff) (by
  clear hP hW; 
  have key : ∀ c_, Fr 0x3d8afa570 0x7ffffffffffffffffffffffffffffffff c_ ((s.readParts c held es ps).2) ↔ Fr
      0x3d8afa570 0x7ffffffffffffffffffffffffffffffff c_ s := by
    induction ps generalizing s es with
    | nil => intro c_; cases es <;> simp [State.readParts]
    | cons q ps ih =>
      intro c_
      obtain ⟨p, reason⟩ := q
      unfold State.readParts
      dsimp only
      rw [ih]
      split <;> simp
  exact (key _).2 (by simp)) hP hW

@[simp] theorem fr_memWrite {P W : Nat} (b_ : State) (s : State) (a : Nat) (b : Byte)
    (hP : P &&& 0x3c0080000 = 0x3c0080000) (hW : W &&& 0x0 = 0x0) :
    Fr P W b_ (State.memWrite s a b) ↔ Fr P W b_ s := Fr.iff (p := 0x3c0080000) (w := 0x0) (by
  unfold State.memWrite; simp; (repeat' split) <;> simp) hP hW

@[simp] theorem fr_memWrites {P W : Nat} (b_ : State) (s : State) (a : Nat) (x0 : List Byte)
    (hP : P &&& 0x3c0080000 = 0x3c0080000) (hW : W &&& 0x0 = 0x0) :
    Fr P W b_ (State.memWrites s a x0) ↔ Fr P W b_ s := Fr.iff (p := 0x3c0080000) (w := 0x0) (by
  clear hP hW
  have key : ∀ c_, Fr 0x3c0080000 0x0 c_ (State.memWrites s a x0) ↔ Fr 0x3c0080000 0x0 c_ s := by
    induction x0 generalizing s a with
    | nil => intro c_; unfold State.memWrites; simp
    | cons y_ ys_ ih => intro c_; unfold State.memWrites; simp [ih]
  exact (key _).2 (by simp)) hP hW

@[simp] theorem fr_keyWrites {P W : Nat} (b_ : State) (s : State) (a : Nat) (bs : List Byte)
    (hP : P &&& 0x1000 = 0x1000) (hW : W &&& 0x0 = 0x0) :
    Fr P W b_ (State.keyWrites s a bs) ↔ Fr P W b_ s := Fr.iff (p := 0x1000) (w := 0x0) (by
  unfold State.keyWrites; simp) hP hW

@[simp] theorem fr_windowWrite {P W : Nat} (b_ : State) (s : State) (w slot off : Nat) (bs : List Byte)
    (hP : P &&& 0x3000020 = 0x3000020) (hW : W &&& 0x200000000 = 0x200000000) :
    Fr P W b_ (State.windowWrite s w slot off bs) ↔ Fr P W b_ s := Fr.iff (p := 0x3000020) (w := 0x200000000) (by
  unfold State.windowWrite; simp) hP hW

theorem fr_slotWrite (s : State) (w slot off : Nat) (bs : List Byte) : FrO 0x7fffff7e2
    0x7ffffffffffffffffffffffffffffffff s (s.slotWrite w slot off bs) := by
  unfold State.slotWrite
  split
  · split
    · exact (fr_regWrite ..).mono rfl rfl
    · simp
  · simp

theorem frO_after {P W : Nat} {s t : State} {o : Res} (h : Fr P W s t) (g : FrO P W t o) : FrO P W s o := by
  cases o with
  | next u => exact (Fr.iff g (Nat.and_self P) (Nat.and_self W)).2 h
  | _ => trivial

theorem frO_andThen {P W : Nat} {s : State} {x : Res} {f : State → Res} (h : FrO P W s x) (g : ∀ t, FrO P W t (f t)) :
    FrO P W s (andThen x f) := by
  cases x with
  | next t =>
    have := g t
    simp only [andThen]
    cases hf : f t with
    | next u => rw [hf] at this; exact (Fr.iff this (Nat.and_self P) (Nat.and_self W)).2 h
    | _ => trivial
  | _ => trivial

theorem fr_slotWrites (w slot n off : Nat) (bs : List Byte) (s : State) : FrO 0x7fffff7e2
    0x7ffffffffffffffffffffffffffffffff s (slotWrites w slot n off bs s) := by
  induction n generalizing off bs s with
  | zero => simp [slotWrites]
  | succ n ih =>
    unfold slotWrites
    split
    · simp
    · exact frO_andThen ((fr_slotWrite ..).mono rfl rfl) fun t => ih _ _ t

@[simp] theorem fr_eccWrites {P W : Nat} (b_ : State) (s : State) (e : Ecc) (a : Nat) (bs : List Byte)
    (hP : P &&& 0x3d82fa530 = 0x3d82fa530) (hW : W &&& 0x800100300a58440000000000004002 =
        0x800100300a58440000000000004002) :
    Fr P W b_ (State.eccWrites s e a bs) ↔ Fr P W b_ s := Fr.iff (p := 0x3d82fa530) (w :=
        0x800100300a58440000000000004002) (by
  unfold State.eccWrites; (repeat' split) <;> simp) hP hW

theorem fr_writePart (s : State) (c : Cls) (e : Ecc) (a : Nat) (bs : List Byte) : FrO 0x7fffff7f2
    0x7ffffffffffffffffffffffffffffffff s (s.writePart c e a bs) := by
  unfold State.writePart
  split
  · split
    · simp
    · exact (fr_slotWrites ..).mono rfl rfl
  · simp
  · simp

theorem fr_writeNow (s : State) (c : Cls) (es : List Ecc) (a : Nat) (bs : List Byte) : FrO 0x7fffff7f2
    0x7ffffffffffffffffffffffffffffffff s (s.writeNow c es a bs) := by
  unfold State.writeNow
  refine frO_andThen ((fr_writePart ..).mono rfl rfl) fun t => ?_
  split
  · exact (fr_writePart ..).mono rfl rfl
  · simp

theorem fr_releaseList (l : List Held) (s : State) : FrO 0x7fffff7f2 0x7ffffffffffffffffffffffffffffffff s (releaseList
    l s) := by
  induction l generalizing s with
  | nil => simp [releaseList]
  | cons x l ih =>
    unfold releaseList
    exact frO_andThen ((fr_writeNow ..).mono rfl rfl) fun t => ih t

theorem fr_closeEqual (s : State) (i : Nat) : FrO 0x7fffff7f2 0x7ffffffffffffffffffffffffffffffff s (s.closeEqual i) := by
  unfold State.closeEqual
  have h := fr_releaseList (s.pairOf i).held (s.setPairOf i { s.pairOf i with held := [], replay := none, close := false })
  cases hx : releaseList (s.pairOf i).held (s.setPairOf i { s.pairOf i with held := [], replay := none, close := false
      }) with
  | next t =>
    rw [hx] at h
    simpa [hx] using (Fr.iff (b := s) (P := 0x7fffff7f2) (W := 0x7ffffffffffffffffffffffffffffffff) h rfl rfl).2 (by simp)
  | fault e => simp [hx]
  | refused e => simp [hx]

theorem fr_closeMarked (l : List Nat) (s : State) : FrO 0x7fffff7f2 0x7ffffffffffffffffffffffffffffffff s (closeMarked
    l s) := by
  induction l generalizing s with
  | nil => simp [closeMarked]
  | cons i l ih =>
    unfold closeMarked
    split
    · exact frO_andThen ((fr_closeEqual ..).mono rfl rfl) fun t => ih t
    · exact ih s

theorem fr_afterSplits (s : State) (x : Res) (h : FrO 0x7fffff7f2 0x7ffffffffffffffffffffffffffffffff s x) : FrO
    0x7fffff7f2 0x7ffffffffffffffffffffffffffffffff s (afterSplits x) :=
  frO_andThen h fun t => fr_closeMarked _ t

theorem fr_execRegisterWrite (w : Writer) (r : Reg) (v : Word) (s : State) : FrO 0x7fffff7f2
    0x7ffffffffffffffffffffffffffffffff s (execRegisterWrite w r v s) := by
  unfold execRegisterWrite
  split
  · exact (fr_afterSplits _ _ (frO_guard _ _ _ ((fr_regWrite ..).mono rfl rfl))).mono rfl rfl
  · exact frO_guard _ _ _ ((fr_regWrite ..).mono rfl rfl)

theorem fr_pairStore (s : State) (i : Nat) (h : Held) : FrO 0x7fffff7f2 0x7ffffffffffffffffffffffffffffffff s
    (s.pairStore i h) := by
  unfold State.pairStore
  split
  · dsimp only
    split
    · have h := fr_closeEqual (s.setPairOf i { s.pairOf i with held := (s.pairOf i).held ++ [h] }) i
      revert h
      generalize State.closeEqual _ i = o
      intro h
      cases o with
      | next t => exact (Fr.iff (b := s) h rfl rfl).2 (by simp)
      | _ => trivial
    · simp
  · exact (fr_writeNow ..).mono rfl rfl

@[simp] theorem fr_lkParity {P W : Nat} (b_ : State) (s : State) (i n : Nat)
    (hP : P &&& 0x20 = 0x20) (hW : W &&& 0x4000000000 = 0x4000000000) :
    Fr P W b_ (State.lkParity s i n) ↔ Fr P W b_ s := Fr.iff (p := 0x20) (w := 0x4000000000) (by
  unfold State.lkParity; simp) hP hW

theorem fr_execLkSplit (w : Writer) (i : Fin 8) (s : State) : FrO 0x7fffff7f2 0x7ffffffffffffffffffffffffffffffff s
    (execLkSplit w i s) := by
  unfold execLkSplit
  exact (fr_afterSplits _ _ (by simp)).mono rfl rfl

theorem fr_execAppInterruptTake (n : Fin 128) (i : Fin 4) (s : State) : FrO 0x7fffff7f2
    0x7ffffffffffffffffffffffffffffffff s (execAppInterruptTake n i s) := by
  unfold execAppInterruptTake
  dsimp only
  split
  · exact (fr_afterSplits _ _ (frO_andThen ((fr_closeEqual ..).mono rfl rfl) fun t => by simp)).mono rfl rfl
  · simp

theorem fr_execSignatureWindowClose (i : Fin 5) (sigL sigT : W64) (xDiff yDiff : Bool) (parity : Nat) (s : State) : FrO
    0x7fffff7f2 0x7ffffffffffffffffffffffffffffffff s (execSignatureWindowClose i sigL sigT xDiff yDiff parity s) := by
  unfold execSignatureWindowClose
  dsimp only
  refine frO_after (t := if s.lkJoined i.val then s.lkParity i.val parity else s) (by split <;> simp) ?_
  generalize (if s.lkJoined i.val then s.lkParity i.val parity else s) = u
  split
  · split
    · simp
    · exact (fr_afterSplits _ _ (frO_andThen ((fr_closeEqual ..).mono rfl rfl) fun t => by simp)).mono rfl rfl
  · split <;> simp

@[simp] theorem fr_acFault {P W : Nat} (b_ : State) (s : State) (k : Nat) (a : Access) (rs : List Nat)
    (hP : P &&& 0x120 = 0x120) (hW : W &&& 0x3800 = 0x3800) :
    Fr P W b_ (State.acFault s k a rs) ↔ Fr P W b_ s := Fr.iff (p := 0x120) (w := 0x3800) (by
  unfold State.acFault; simp) hP hW

@[simp] theorem fr_taskFails {P W : Nat} (b_ : State) (s : State) (k : Nat)
    (hP : P &&& 0x340090020 = 0x340090020) (hW : W &&& 0x80000000000000000 = 0x80000000000000000) :
    Fr P W b_ (State.taskFails s k) ↔ Fr P W b_ s := Fr.iff (p := 0x340090020) (w := 0x80000000000000000) (by
  unfold State.taskFails; simp) hP hW

@[simp] theorem fr_userFault {P W : Nat} (b_ : State) (s : State) (k : Nat)
    (hP : P &&& 0x340092020 = 0x340092020) (hW : W &&& 0x80000000000000000 = 0x80000000000000000) :
    Fr P W b_ (State.userFault s k) ↔ Fr P W b_ s := Fr.iff (p := 0x340092020) (w := 0x80000000000000000) (by
  unfold State.userFault; simp) hP hW

@[simp] theorem fr_faultReact {P W : Nat} (b_ : State) (s : State) (a : Access)
    (hP : P &&& 0x3540fa520 = 0x3540fa520) (hW : W &&& 0x300a504c0000000000000002 = 0x300a504c0000000000000002) :
    Fr P W b_ (State.faultReact s a) ↔ Fr P W b_ s := Fr.iff (p := 0x3540fa520) (w := 0x300a504c0000000000000002) (by
  unfold State.faultReact; simp; (repeat' split) <;> simp) hP hW

@[simp] theorem fr_returnData {P W : Nat} (b_ : State) (s : State) (bs : List Byte)
    (hP : P &&& 0xc = 0xc) (hW : W &&& 0x0 = 0x0) :
    Fr P W b_ (State.returnData s bs) ↔ Fr P W b_ s := Fr.iff (p := 0xc) (w := 0x0) (by
  unfold State.returnData; simp) hP hW

@[simp] theorem fr_seenBy {P W : Nat} (b_ : State) (s : State) (a : Access)
    (hP : P &&& 0xc0000000 = 0xc0000000) (hW : W &&& 0x0 = 0x0) :
    Fr P W b_ (State.seenBy s a) ↔ Fr P W b_ s := Fr.iff (p := 0xc0000000) (w := 0x0) (by
  unfold State.seenBy; simp) hP hW

@[simp] theorem fr_readNow {P W : Nat} (b_ : State) (s : State) (a : Access) (ps : List ((Nat × Nat) × Nat)) (rs : List
    Nat) (joined side : Bool)
    (hP : P &&& 0x3dcafa57c = 0x3dcafa57c) (hW : W &&& 0x7ffffffffffffffffffffffffffffffff =
        0x7ffffffffffffffffffffffffffffffff) :
    Fr P W b_ (State.readNow s a ps rs joined side) ↔ Fr P W b_ s := Fr.iff (p := 0x3dcafa57c) (w :=
        0x7ffffffffffffffffffffffffffffffff) (by
  unfold State.readNow; simp) hP hW

theorem fr_coreRead (s : State) (a : Access) : FrO 0x7fffff7fe 0x7ffffffffffffffffffffffffffffffff s (s.coreRead a) := by
  unfold State.coreRead
  dsimp only
  split
  · split
    · split <;> simp
    · exact frO_andThen ((fr_closeEqual ..).mono rfl rfl) fun t => by simp
  · split
    · exact frO_andThen ((fr_closeEqual ..).mono rfl rfl) fun t => by simp
    · simp

theorem fr_coreWrite (s : State) (a : Access) (bs : List Byte) : FrO 0x7fffff7f2 0x7ffffffffffffffffffffffffffffffff s
    (s.coreWrite a bs) := by
  unfold State.coreWrite
  dsimp only
  split
  · split
    · exact (fr_writeNow ..).mono rfl rfl
    · exact (fr_pairStore ..).mono rfl rfl
  · split
    · simp
    · exact frO_andThen ((fr_closeEqual ..).mono rfl rfl) fun t => by simp

theorem fr_execCoreAccess (a : Access) (s : State) : FrO 0x7fffff7fe 0x7ffffffffffffffffffffffffffffffff s
    (execCoreAccess a s) := by
  unfold execCoreAccess
  split
  · simp
  · refine frO_after (t := s.settle s.pt) (by simp) ?_
    unfold afterSplits
    refine frO_andThen ?_ fun t => (fr_closeMarked _ t).mono rfl rfl
    split
    · exact (fr_coreRead ..).mono rfl rfl
    · exact (fr_coreWrite ..).mono rfl rfl

theorem fr_execDebugAccess (a : Access) (s : State) : FrO 0x7fffff7fe 0x7ffffffffffffffffffffffffffffffff s
    (execDebugAccess a s) := by
  unfold execDebugAccess
  dsimp only
  split
  · simp
  · refine frO_after (t := (s.settle s.pt).setFlag Fld.AC_CTL_DEBUG_ON true) (by simp) ?_
    split
    · split
      · simp
      · exact (fr_afterSplits _ _ ((fr_writeNow ..).mono rfl rfl)).mono rfl rfl
    · simp

theorem fr_execAcLock (s : State) : FrO 0x2020 0x200 s (execAcLock s) := by
  unfold execAcLock; simp

theorem fr_execScrubRead (a : Nat) (e : Ecc) (s : State) : FrO 0x3d82fa530 0x800100300a5844000000000000c002 s
    (execScrubRead a e s) := by
  unfold execScrubRead; simp; (repeat' split) <;> simp

end Sys2Proof.Machine
end

