-- ==== Sys2Proof/Laws/Claims.lean ====
section
/-! SUPPORT. How a command is shown to complete: its frame, and the next state it answers. -/

namespace Sys2Proof.Machine

/-- A command with a frame completes where it answers a next state with the property asked. -/
theorem Completes.of {c : Instr} {s : State} {ps : List Part} {ws : List RegName} {Q : State → Prop} {P W : Nat}
    (hf : FrO P W s (exec c s)) (hp : pmask ps &&& P = P) (hw : rmask ws &&& W = W)
    (h : ∃ t, exec c s = .next t ∧ Q t) : Completes c s ps ws Q := by
  obtain ⟨t, e, q⟩ := h
  exact ⟨t, e, q, (hf.next e).touches hp, (hf.next e).regsKept hw⟩

/-- The same where the next state is known. -/
theorem Completes.next {c : Instr} {s t : State} {ps : List Part} {ws : List RegName} {Q : State → Prop} {P W : Nat}
    (e : exec c s = .next t) (hf : Fr P W s t) (hp : pmask ps &&& P = P) (hw : rmask ws &&& W = W) (q : Q t) :
    Completes c s ps ws Q := ⟨t, e, q, hf.touches hp, hf.regsKept hw⟩

end Sys2Proof.Machine
end

