-- ==== Sys2Proof/Laws/Exec.lean ====
section
/-! SUPPORT. Each command is its meaning; what every command may change: all but the queue. -/

namespace Sys2Proof.Machine

theorem exec_registerWrite (w : Writer) (r : Reg) (v : Word) (σ : State) : exec (.registerWrite w r v) σ =
    execRegisterWrite w r v σ := rfl
theorem exec_pairLoRead (r : Reg) (σ : State) : exec (.pairLoRead r) σ = execPairLoRead r σ := rfl
theorem exec_pairLoWrite (r : Reg) (v : Word) (σ : State) : exec (.pairLoWrite r v) σ = execPairLoWrite r v σ := rfl
theorem exec_pairHiWrite (w : Writer) (r : Reg) (v : Word) (σ : State) : exec (.pairHiWrite w r v) σ =
    execPairHiWrite w r v σ := rfl
theorem exec_w1cWrite (r : Reg) (v setNow : Word) (σ : State) : exec (.w1cWrite r v setNow) σ = execW1cWrite r v
    setNow σ := rfl
theorem exec_rcRead (r : Reg) (setNow : Word) (σ : State) : exec (.rcRead r setNow) σ = execRcRead r setNow σ := rfl
theorem exec_powerGood (f : Feed) (volts : Nat) (σ : State) : exec (.powerGood f volts) σ = execPowerGood f volts σ
    := rfl
theorem exec_resetRelease (xOk yOk : Bool) (σ : State) : exec (.resetRelease xOk yOk) σ = execResetRelease xOk yOk σ
    := rfl
theorem exec_keyHeaderRead (σ : State) : exec (.keyHeaderRead) σ = execKeyHeaderRead σ := rfl
theorem exec_firmwareVerified (σ : State) : exec (.firmwareVerified) σ = execFirmwareVerified σ := rfl
theorem exec_baseIdentRead (base : Option BaseMem) (σ : State) : exec (.baseIdentRead base) σ = execBaseIdentRead
    base σ := rfl
theorem exec_configBankLoaded (σ : State) : exec (.configBankLoaded) σ = execConfigBankLoaded σ := rfl
theorem exec_selfTestDone (t : SelfTest) (σ : State) : exec (.selfTestDone t) σ = execSelfTestDone t σ := rfl
theorem exec_plantImageDecoded (img : PlantImage) (σ : State) : exec (.plantImageDecoded img) σ =
    execPlantImageDecoded img σ := rfl
theorem exec_shellsLoaded (σ : State) : exec (.shellsLoaded) σ = execShellsLoaded σ := rfl
theorem exec_timeAcquired (t : TimeStep) (σ : State) : exec (.timeAcquired t) σ = execTimeAcquired t σ := rfl
theorem exec_acquisitionTimeout (σ : State) : exec (.acquisitionTimeout) σ = execAcquisitionTimeout σ := rfl
theorem exec_roleDecision (partnerHash : BitVec 384) (partnerFw : W64) (updateNames : Option (BitVec 384)) (σ :
    State) : exec (.roleDecision partnerHash partnerFw updateNames) σ = execRoleDecision partnerHash partnerFw
    updateNames σ := rfl
theorem exec_firstCommit (σ : State) : exec (.firstCommit) σ = execFirstCommit σ := rfl
theorem exec_carrierConfigure (i : Fin 256) (identity : Option Nat) (σ : State) : exec (.carrierConfigure i identity)
    σ = execCarrierConfigure i identity σ := rfl
theorem exec_launchEntryHandoff (entry : Nat) (instant : Instant) (σ : State) : exec (.launchEntryHandoff entry
    instant) σ = execLaunchEntryHandoff entry instant σ := rfl
theorem exec_handshakeReceive (ch : Channel) (σ : State) : exec (.handshakeReceive ch) σ = execHandshakeReceive ch σ
    := rfl
theorem exec_sampleOwnSlices (slice : Fin 10) (group : Nat) (s : Instant) (words : List (Fin 32 × List (BitVec 24)))
    (σ : State) : exec (.sampleOwnSlices slice group s words) σ = execSampleOwnSlices slice group s words σ := rfl
theorem exec_fastSampleComplete (group : Nat) (s : Instant) (σ : State) : exec (.fastSampleComplete group s) σ =
    execFastSampleComplete group s σ := rfl
theorem exec_computeLoops (entry : Nat) (c : Instant) (σ : State) : exec (.computeLoops entry c) σ = execComputeLoops
    entry c σ := rfl
theorem exec_lanePreempt (lane : Fin 8) (loop : Nat) (σ : State) : exec (.lanePreempt lane loop) σ = execLanePreempt
    lane loop σ := rfl
theorem exec_loopComplete (loop : Nat) (σ : State) : exec (.loopComplete loop) σ = execLoopComplete loop σ := rfl
theorem exec_loopOverrun (loop : Nat) (σ : State) : exec (.loopOverrun loop) σ = execLoopOverrun loop σ := rfl
theorem exec_fastLoopComplete (loop : Nat) (σ : State) : exec (.fastLoopComplete loop) σ = execFastLoopComplete loop
    σ := rfl
theorem exec_fastLoopAbandon (loop : Nat) (σ : State) : exec (.fastLoopAbandon loop) σ = execFastLoopAbandon loop σ
    := rfl
theorem exec_laneTest (lane : Fin 8) (pass : Bool) (σ : State) : exec (.laneTest lane pass) σ = execLaneTest lane
    pass σ := rfl
theorem exec_runApplicationTask (entry : Nat) (c : Instant) (σ : State) : exec (.runApplicationTask entry c) σ =
    execRunApplicationTask entry c σ := rfl
theorem exec_taskComplete (task : Nat) (points : List (Nat × Word)) (words : List (Nat × W64)) (σ : State) : exec
    (.taskComplete task points words) σ = execTaskComplete task points words σ := rfl
theorem exec_taskOverrun (task : Nat) (σ : State) : exec (.taskOverrun task) σ = execTaskOverrun task σ := rfl
theorem exec_commitOwnSlices (entry : Nat) (k : Instant) (σ : State) : exec (.commitOwnSlices entry k) σ =
    execCommitOwnSlices entry k σ := rfl
theorem exec_commitScapexCarriers (entry : Nat) (k : Instant) (σ : State) : exec (.commitScapexCarriers entry k) σ =
    execCommitScapexCarriers entry k σ := rfl
theorem exec_publishStreams (entry : Nat) (k : Instant) (σ : State) : exec (.publishStreams entry k) σ =
    execPublishStreams entry k σ := rfl
theorem exec_gateEvent (port : Fin 2) (i : Nat) (σ : State) : exec (.gateEvent port i) σ = execGateEvent port i σ :=
    rfl
theorem exec_frameIngress (port : Fin 2) (f : NetFrame) (σ : State) : exec (.frameIngress port f) σ =
    execFrameIngress port f σ := rfl
theorem exec_subFrameAccept (n : Fin 4096) (port : Fin 2) (rseq : BitVec 16) (hdr : BitVec 256) (recs : List W64) (σ
    : State) : exec (.subFrameAccept n port rseq hdr recs) σ = execSubFrameAccept n port rseq hdr recs σ := rfl
theorem exec_validAtApply (n : Fin 4096) (σ : State) : exec (.validAtApply n) σ = execValidAtApply n σ := rfl
theorem exec_expectedInstantMissed (n : Fin 4096) (σ : State) : exec (.expectedInstantMissed n) σ =
    execExpectedInstantMissed n σ := rfl
theorem exec_viewRebase (v : ViewId) (σ : State) : exec (.viewRebase v) σ = execViewRebase v σ := rfl
theorem exec_mtLatch (σ : State) : exec (.mtLatch) σ = execMtLatch σ := rfl
theorem exec_mtReepoch (w : Writer) (σ : State) : exec (.mtReepoch w) σ = execMtReepoch w σ := rfl
theorem exec_gptpSyncReceived (domain : Fin 128) (port : Fin 2) (secs ns : Nat) (corr cum : Int) (residence : Nat) (σ
    : State) : exec (.gptpSyncReceived domain port secs ns corr cum residence) σ = execGptpSyncReceived domain port
    secs ns corr cum residence σ := rfl
theorem exec_gptpPdelayMessage (port : Fin 2) (m : PdelayMsg) (σ : State) : exec (.gptpPdelayMessage port m) σ =
    execGptpPdelayMessage port m σ := rfl
theorem exec_gptpSignaling (port : Fin 2) (logSync logPdelay : Int) (σ : State) : exec (.gptpSignaling port logSync
    logPdelay) σ = execGptpSignaling port logSync logPdelay σ := rfl
theorem exec_sourceLost (σ : State) : exec (.sourceLost) σ = execSourceLost σ := rfl
theorem exec_holdoverErrCross (σ : State) : exec (.holdoverErrCross) σ = execHoldoverErrCross σ := rfl
theorem exec_ppsEdge (frc : W64) (σ : State) : exec (.ppsEdge frc) σ = execPpsEdge frc σ := rfl
theorem exec_f10mMeasurement (hz : Nat) (σ : State) : exec (.f10mMeasurement hz) σ = execF10mMeasurement hz σ := rfl
theorem exec_ppsOutPulse (σ : State) : exec (.ppsOutPulse) σ = execPpsOutPulse σ := rfl
theorem exec_loopAuto (w : Writer) (loop : Nat) (σ : State) : exec (.loopAuto w loop) σ = execLoopAuto w loop σ := rfl
theorem exec_loopManual (w : Writer) (loop : Nat) (σ : State) : exec (.loopManual w loop) σ = execLoopManual w loop σ
    := rfl
theorem exec_loopManualValue (w : Writer) (loop : Nat) (σ : State) : exec (.loopManualValue w loop) σ =
    execLoopManualValue w loop σ := rfl
theorem exec_loopRestart (w : Writer) (loop : Nat) (σ : State) : exec (.loopRestart w loop) σ = execLoopRestart w
    loop σ := rfl
theorem exec_loopSwitch (w : Writer) (loop : Nat) (set : Fin 4) (σ : State) : exec (.loopSwitch w loop set) σ =
    execLoopSwitch w loop set σ := rfl
theorem exec_setStage (loop : Nat) (σ : State) : exec (.setStage loop) σ = execSetStage loop σ := rfl
theorem exec_testStart (loop : Nat) (relay : Bool) (ordered : Bool) (σ : State) : exec (.testStart loop relay
    ordered) σ = execTestStart loop relay ordered σ := rfl
theorem exec_testAbort (slot : Fin 16) (σ : State) : exec (.testAbort slot) σ = execTestAbort slot σ := rfl
theorem exec_testComplete (slot : Fin 16) (m : TestModel) (σ : State) : exec (.testComplete slot m) σ =
    execTestComplete slot m σ := rfl
theorem exec_probationRevert (loop : Nat) (σ : State) : exec (.probationRevert loop) σ = execProbationRevert loop σ
    := rfl
theorem exec_probationEnd (loop : Nat) (σ : State) : exec (.probationEnd loop) σ = execProbationEnd loop σ := rfl
theorem exec_lockoutEnd (loop : Nat) (σ : State) : exec (.lockoutEnd loop) σ = execLockoutEnd loop σ := rfl
theorem exec_surgeIntervalClose (g : Fin 32) (σ : State) : exec (.surgeIntervalClose g) σ = execSurgeIntervalClose g
    σ := rfl
theorem exec_surgeRelease (g : Fin 32) (σ : State) : exec (.surgeRelease g) σ = execSurgeRelease g σ := rfl
theorem exec_adaptForbid (h : SvcMsg) (loop : Nat) (ident install surge : Bool) (σ : State) : exec (.adaptForbid h
    loop ident install surge) σ = execAdaptForbid h loop ident install surge σ := rfl
theorem exec_adaptLift (h : SvcMsg) (loop : Nat) (ident install surge : Bool) (σ : State) : exec (.adaptLift h loop
    ident install surge) σ = execAdaptLift h loop ident install surge σ := rfl
theorem exec_diagRaised (c : Chan) (bit : Fin 16) (cause : DiagCause) (σ : State) : exec (.diagRaised c bit cause) σ
    = execDiagRaised c bit cause σ := rfl
theorem exec_diagCleared (c : Chan) (bit : Fin 16) (σ : State) : exec (.diagCleared c bit) σ = execDiagCleared c bit
    σ := rfl
theorem exec_crosscheckRound (slice : Fin 4) (own check : F32) (σ : State) : exec (.crosscheckRound slice own check)
    σ = execCrosscheckRound slice own check σ := rfl
theorem exec_tcOpenTest (n : Fin 32) (ohms : Nat) (σ : State) : exec (.tcOpenTest n ohms) σ = execTcOpenTest n ohms σ
    := rfl
theorem exec_voutRetry (n : Fin 32) (stillLimited : Bool) (σ : State) : exec (.voutRetry n stillLimited) σ =
    execVoutRetry n stillLimited σ := rfl
theorem exec_shellTempOff (slice : Fin 10) (temp : Int) (σ : State) : exec (.shellTempOff slice temp) σ =
    execShellTempOff slice temp σ := rfl
theorem exec_shellTempMeasure (slice : Fin 10) (temp : Int) (σ : State) : exec (.shellTempMeasure slice temp) σ =
    execShellTempMeasure slice temp σ := rfl
theorem exec_elementCheck (n : Fin 32) (code : Nat) (σ : State) : exec (.elementCheck n code) σ = execElementCheck n
    code σ := rfl
theorem exec_hartConnect (n : Fin 32) (reply : Option (Nat × HartReply)) (σ : State) : exec (.hartConnect n reply) σ
    = execHartConnect n reply σ := rfl
theorem exec_hartPoll (n : Fin 32) (σ : State) : exec (.hartPoll n) σ = execHartPoll n σ := rfl
theorem exec_hartResponse (n : Fin 32) (r : HartReply) (σ : State) : exec (.hartResponse n r) σ = execHartResponse n
    r σ := rfl
theorem exec_hartTimeout (n : Fin 32) (σ : State) : exec (.hartTimeout n) σ = execHartTimeout n σ := rfl
theorem exec_hartPassthrough (h : SvcMsg) (n : Fin 32) (frame : List Byte) (σ : State) : exec (.hartPassthrough h n
    frame) σ = execHartPassthrough h n frame σ := rfl
theorem exec_hartPassthroughSend (n : Fin 32) (answer : Option (HartReply × List Byte)) (σ : State) : exec
    (.hartPassthroughSend n answer) σ = execHartPassthroughSend n answer σ := rfl
theorem exec_inputChangeAccepted (m : Fin 48) (on : Bool) (σ : State) : exec (.inputChangeAccepted m on) σ =
    execInputChangeAccepted m on σ := rfl
theorem exec_outputOverloadOff (m : Fin 48) (σ : State) : exec (.outputOverloadOff m) σ = execOutputOverloadOff m σ
    := rfl
theorem exec_outputOverloadRetry (m : Fin 48) (σ : State) : exec (.outputOverloadRetry m) σ = execOutputOverloadRetry
    m σ := rfl
theorem exec_outputOvertempOff (m : Fin 48) (σ : State) : exec (.outputOvertempOff m) σ = execOutputOvertempOff m σ
    := rfl
theorem exec_supplyStateChange (g : Fin 6) (millivolts : Nat) (σ : State) : exec (.supplyStateChange g millivolts) σ
    = execSupplyStateChange g millivolts σ := rfl
theorem exec_reapplyTurn (g : Fin 6) (σ : State) : exec (.reapplyTurn g) σ = execReapplyTurn g σ := rfl
theorem exec_groupOver (g : Fin 6) (milliamps : Nat) (σ : State) : exec (.groupOver g milliamps) σ = execGroupOver g
    milliamps σ := rfl
theorem exec_sinkShareChange (g : Fin 6) (seen : Bool) (σ : State) : exec (.sinkShareChange g seen) σ =
    execSinkShareChange g seen σ := rfl
theorem exec_gyIntervalClose (c : Fin 64) (σ : State) : exec (.gyIntervalClose c) σ = execGyIntervalClose c σ := rfl
theorem exec_gyLevelRise (stage : Nat) (σ : State) : exec (.gyLevelRise stage) σ = execGyLevelRise stage σ := rfl
theorem exec_gyLevelFall (stage : Nat) (σ : State) : exec (.gyLevelFall stage) σ = execGyLevelFall stage σ := rfl
theorem exec_patternFire (u : Fin 8) (σ : State) : exec (.patternFire u) σ = execPatternFire u σ := rfl
theorem exec_armOrder (k : Fin 16) (armAt : Instant) (σ : State) : exec (.armOrder k armAt) σ = execArmOrder k armAt
    σ := rfl
theorem exec_armReceived (k : Fin 16) (arms : BitVec 16) (armAt : Instant) (σ : State) : exec (.armReceived k arms
    armAt) σ = execArmReceived k arms armAt σ := rfl
theorem exec_armAt (k : Fin 16) (σ : State) : exec (.armAt k) σ = execArmAt k σ := rfl
theorem exec_fireReceived (k : Fin 16) (t : Instant) (binary : Nat) (posB : Bool) (arms : BitVec 16) (σ : State) :
    exec (.fireReceived k t binary posB arms) σ = execFireReceived k t binary posB arms σ := rfl
theorem exec_gyWindowComplete (slot : Fin 16) (σ : State) : exec (.gyWindowComplete slot) σ = execGyWindowComplete
    slot σ := rfl
theorem exec_gyHoldoffExpire (k : Fin 16) (σ : State) : exec (.gyHoldoffExpire k) σ = execGyHoldoffExpire k σ := rfl
theorem exec_gyRelease (slot : Fin 16) (σ : State) : exec (.gyRelease slot) σ = execGyRelease slot σ := rfl
theorem exec_gyFireOrder (k : Fin 16) (σ : State) : exec (.gyFireOrder k) σ = execGyFireOrder k σ := rfl
theorem exec_gyRdRead (b : BlockSel) (σ : State) : exec (.gyRdRead b) σ = execGyRdRead b σ := rfl
theorem exec_svcGyBlockRead (h : SvcMsg) (b : BlockSel) (σ : State) : exec (.svcGyBlockRead h b) σ =
    execSvcGyBlockRead h b σ := rfl
theorem exec_svcGyBlockAck (h : SvcMsg) (c : Fin 64) (seq : Nat) (σ : State) : exec (.svcGyBlockAck h c seq) σ =
    execSvcGyBlockAck h c seq σ := rfl
theorem exec_svcGyRelease (h : SvcMsg) (slot : Fin 16) (σ : State) : exec (.svcGyRelease h slot) σ = execSvcGyRelease
    h slot σ := rfl
theorem exec_svcGyFire (h : SvcMsg) (k : Fin 16) (σ : State) : exec (.svcGyFire h k) σ = execSvcGyFire h k σ := rfl
theorem exec_collectLaunch (entry : Nat) (s : Instant) (σ : State) : exec (.collectLaunch entry s) σ =
    execCollectLaunch entry s σ := rfl
theorem exec_collectReturn (port : Fin 8) (f : SxFrame) (σ : State) : exec (.collectReturn port f) σ =
    execCollectReturn port f σ := rfl
theorem exec_collectComplete (entry : Nat) (σ : State) : exec (.collectComplete entry) σ = execCollectComplete entry
    σ := rfl
theorem exec_timeFrameSend (σ : State) : exec (.timeFrameSend) σ = execTimeFrameSend σ := rfl
theorem exec_timeFrameReturn (port : Fin 8) (f : SxFrame) (lap : Nat) (σ : State) : exec (.timeFrameReturn port f
    lap) σ = execTimeFrameReturn port f lap σ := rfl
theorem exec_scapexForward (port : Fin 8) (f : SxFrame) (delay : Nat) (σ : State) : exec (.scapexForward port f
    delay) σ = execScapexForward port f delay σ := rfl
theorem exec_scapexSegmentDown (port : Fin 8) (east : Bool) (σ : State) : exec (.scapexSegmentDown port east) σ =
    execScapexSegmentDown port east σ := rfl
theorem exec_serviceFrameLaunch (port : Fin 8) (σ : State) : exec (.serviceFrameLaunch port) σ =
    execServiceFrameLaunch port σ := rfl
theorem exec_serviceFrameReturn (port : Fin 8) (f : SxFrame) (σ : State) : exec (.serviceFrameReturn port f) σ =
    execServiceFrameReturn port f σ := rfl
theorem exec_serviceFrameTimeout (port : Fin 8) (σ : State) : exec (.serviceFrameTimeout port) σ =
    execServiceFrameTimeout port σ := rfl
theorem exec_carrierLost (i : Fin 256) (σ : State) : exec (.carrierLost i) σ = execCarrierLost i σ := rfl
theorem exec_carrierAppeared (i : Fin 256) (identity : Option Nat) (σ : State) : exec (.carrierAppeared i identity) σ
    = execCarrierAppeared i identity σ := rfl
theorem exec_portLinkChange (port : Fin 2) (up : Bool) (σ : State) : exec (.portLinkChange port up) σ =
    execPortLinkChange port up σ := rfl
theorem exec_svcConnect (t : Handshake) (σ : State) : exec (.svcConnect t) σ = execSvcConnect t σ := rfl
theorem exec_svcIdleClose (sess : Fin 4) (σ : State) : exec (.svcIdleClose sess) σ = execSvcIdleClose sess σ := rfl
theorem exec_arpRequest (via : Option (Fin 2)) (addr : Nat) (σ : State) : exec (.arpRequest via addr) σ =
    execArpRequest via addr σ := rfl
theorem exec_neighbourSolicitation (via : Option (Fin 2)) (addr : Nat) (σ : State) : exec (.neighbourSolicitation via
    addr) σ = execNeighbourSolicitation via addr σ := rfl
theorem exec_icmpEcho (via : Option (Fin 2)) (addr : Nat) (id : Nat) (σ : State) : exec (.icmpEcho via addr id) σ =
    execIcmpEcho via addr id σ := rfl
theorem exec_svcUnknownType (h : SvcMsg) (type : BitVec 16) (σ : State) : exec (.svcUnknownType h type) σ =
    execSvcUnknownType h type σ := rfl
theorem exec_svcFullSummary (h : SvcMsg) (σ : State) : exec (.svcFullSummary h) σ = execSvcFullSummary h σ := rfl
theorem exec_fullSummaryRequest (σ : State) : exec (.fullSummaryRequest) σ = execFullSummaryRequest σ := rfl
theorem exec_svcMbPost (h : SvcMsg) (n : Nat) (msg : List Byte) (σ : State) : exec (.svcMbPost h n msg) σ =
    execSvcMbPost h n msg σ := rfl
theorem exec_svcMbStatus (h : SvcMsg) (n : Nat) (σ : State) : exec (.svcMbStatus h n) σ = execSvcMbStatus h n σ := rfl
theorem exec_svcMbCancel (h : SvcMsg) (n : Nat) (σ : State) : exec (.svcMbCancel h n) σ = execSvcMbCancel h n σ := rfl
theorem exec_forcePoint (h : SvcMsg) (point : Nat) (v : Word) (σ : State) : exec (.forcePoint h point v) σ =
    execForcePoint h point v σ := rfl
theorem exec_forceRelease (h : SvcMsg) (point : Nat) (σ : State) : exec (.forceRelease h point) σ = execForceRelease
    h point σ := rfl
theorem exec_reepochOrder (h : SvcMsg) (σ : State) : exec (.reepochOrder h) σ = execReepochOrder h σ := rfl
theorem exec_ownerEnrolment (h : SvcMsg) (ownerKey : BitVec 768) (fingerprint : BitVec 384) (binary : Nat) (σ :
    State) : exec (.ownerEnrolment h ownerKey fingerprint binary) σ = execOwnerEnrolment h ownerKey fingerprint
    binary σ := rfl
theorem exec_svcMaintEnter (h : SvcMsg) (σ : State) : exec (.svcMaintEnter h) σ = execSvcMaintEnter h σ := rfl
theorem exec_svcMaintLeave (h : SvcMsg) (σ : State) : exec (.svcMaintLeave h) σ = execSvcMaintLeave h σ := rfl
theorem exec_svcDormant (h : SvcMsg) (σ : State) : exec (.svcDormant h) σ = execSvcDormant h σ := rfl
theorem exec_canFrameReceived (p : Fin 4) (f : CanFrame) (σ : State) : exec (.canFrameReceived p f) σ =
    execCanFrameReceived p f σ := rfl
theorem exec_canRemoteFrame (p : Fin 4) (σ : State) : exec (.canRemoteFrame p) σ = execCanRemoteFrame p σ := rfl
theorem exec_canProtocolException (p : Fin 4) (σ : State) : exec (.canProtocolException p) σ =
    execCanProtocolException p σ := rfl
theorem exec_canTxSuccess (p : Fin 4) (o : Fin 128) (renewed : Nat) (σ : State) : exec (.canTxSuccess p o renewed) σ
    = execCanTxSuccess p o renewed σ := rfl
theorem exec_canTxAckError (p : Fin 4) (o : Fin 128) (dominantSeen : Bool) (σ : State) : exec (.canTxAckError p o
    dominantSeen) σ = execCanTxAckError p o dominantSeen σ := rfl
theorem exec_canBusError (p : Fin 4) (kind : Fin 16) (transmitting severe : Bool) (σ : State) : exec (.canBusError p
    kind transmitting severe) σ = execCanBusError p kind transmitting severe σ := rfl
theorem exec_canArbitrationLost (p : Fin 4) (o : Fin 128) (σ : State) : exec (.canArbitrationLost p o) σ =
    execCanArbitrationLost p o σ := rfl
theorem exec_canRecover (p : Fin 4) (σ : State) : exec (.canRecover p) σ = execCanRecover p σ := rfl
theorem exec_canRecoveryDone (p : Fin 4) (σ : State) : exec (.canRecoveryDone p) σ = execCanRecoveryDone p σ := rfl
theorem exec_canSnap (w : Writer) (p : Fin 4) (o : Fin 128) (σ : State) : exec (.canSnap w p o) σ = execCanSnap w p o
    σ := rfl
theorem exec_canSend (w : Writer) (p : Fin 4) (o : Fin 128) (σ : State) : exec (.canSend w p o) σ = execCanSend w p o
    σ := rfl
theorem exec_canCancel (w : Writer) (p : Fin 4) (o : Fin 128) (σ : State) : exec (.canCancel w p o) σ = execCanCancel
    w p o σ := rfl
theorem exec_canLeaveListenOnly (p : Fin 4) (σ : State) : exec (.canLeaveListenOnly p) σ = execCanLeaveListenOnly p σ
    := rfl
theorem exec_loopIndicationChange (island : Fin 18) (ind : Indication) (σ : State) : exec (.loopIndicationChange
    island ind) σ = execLoopIndicationChange island ind σ := rfl
theorem exec_partnerClaimChange (present : Bool) (σ : State) : exec (.partnerClaimChange present) σ =
    execPartnerClaimChange present σ := rfl
theorem exec_partnerReadyChange (present : Bool) (σ : State) : exec (.partnerReadyChange present) σ =
    execPartnerReadyChange present σ := rfl
theorem exec_claimReturnTimeout (σ : State) : exec (.claimReturnTimeout) σ = execClaimReturnTimeout σ := rfl
theorem exec_heartbeatSend (σ : State) : exec (.heartbeatSend) σ = execHeartbeatSend σ := rfl
theorem exec_netHeartbeatSend (σ : State) : exec (.netHeartbeatSend) σ = execNetHeartbeatSend σ := rfl
theorem exec_heartbeatReceived (link : Option (Fin 2)) (msg : BitVec 256) (btOffset : Int) (ptOffset : Option Int) (σ
    : State) : exec (.heartbeatReceived link msg btOffset ptOffset) σ = execHeartbeatReceived link msg btOffset
    ptOffset σ := rfl
theorem exec_heartbeatTimeout (σ : State) : exec (.heartbeatTimeout) σ = execHeartbeatTimeout σ := rfl
theorem exec_releaseReceived (σ : State) : exec (.releaseReceived) σ = execReleaseReceived σ := rfl
theorem exec_epochStored (σ : State) : exec (.epochStored) σ = execEpochStored σ := rfl
theorem exec_takeoverResume (σ : State) : exec (.takeoverResume) σ = execTakeoverResume σ := rfl
theorem exec_netHbTimeout (σ : State) : exec (.netHbTimeout) σ = execNetHbTimeout σ := rfl
theorem exec_binaryLinkChange (link : Fin 2) (up : Bool) (σ : State) : exec (.binaryLinkChange link up) σ =
    execBinaryLinkChange link up σ := rfl
theorem exec_grantRecognised (σ : State) : exec (.grantRecognised) σ = execGrantRecognised σ := rfl
theorem exec_grantWithdrawn (σ : State) : exec (.grantWithdrawn) σ = execGrantWithdrawn σ := rfl
theorem exec_arbiterFail (σ : State) : exec (.arbiterFail) σ = execArbiterFail σ := rfl
theorem exec_arbiterReturn (σ : State) : exec (.arbiterReturn) σ = execArbiterReturn σ := rfl
theorem exec_healthWordForm (σ : State) : exec (.healthWordForm) σ = execHealthWordForm σ := rfl
theorem exec_standbySelftest (t : StandbyTest) (σ : State) : exec (.standbySelftest t) σ = execStandbySelftest t σ :=
    rfl
theorem exec_yield (σ : State) : exec (.yield) σ = execYield σ := rfl
theorem exec_snapshotFreeze (σ : State) : exec (.snapshotFreeze) σ = execSnapshotFreeze σ := rfl
theorem exec_blockRecordReceived (hdr : BitVec 128) (words : List W64) (σ : State) : exec (.blockRecordReceived hdr
    words) σ = execBlockRecordReceived hdr words σ := rfl
theorem exec_snapshotCommit (snap : Nat) (b : Instant) (bytes : Nat) (crc : Word) (items : SnapItems) (σ : State) :
    exec (.snapshotCommit snap b bytes crc items) σ = execSnapshotCommit snap b bytes crc items σ := rfl
theorem exec_standbyBoundary (σ : State) : exec (.standbyBoundary) σ = execStandbyBoundary σ := rfl
theorem exec_verifyCrcSend (σ : State) : exec (.verifyCrcSend) σ = execVerifyCrcSend σ := rfl
theorem exec_verifyCrcReceived (first : Nat) (crcs : List Word) (σ : State) : exec (.verifyCrcReceived first crcs) σ
    = execVerifyCrcReceived first crcs σ := rfl
theorem exec_sideRecordReceived (r : SideRecord) (σ : State) : exec (.sideRecordReceived r) σ =
    execSideRecordReceived r σ := rfl
theorem exec_fastRecordReceived (loop : Nat) (state : BitVec 256) (secs : List (F32 × F32)) (rec : W64) (crc : Word)
    (σ : State) : exec (.fastRecordReceived loop state secs rec crc) σ = execFastRecordReceived loop state secs rec
    crc σ := rfl
theorem exec_joinComplete (σ : State) : exec (.joinComplete) σ = execJoinComplete σ := rfl
theorem exec_handoverOrder (w : Writer) (after : After) (σ : State) : exec (.handoverOrder w after) σ =
    execHandoverOrder w after σ := rfl
theorem exec_handoverCancel (w : Writer) (σ : State) : exec (.handoverCancel w) σ = execHandoverCancel w σ := rfl
theorem exec_handoverCheck (σ : State) : exec (.handoverCheck) σ = execHandoverCheck σ := rfl
theorem exec_handoverInstant (σ : State) : exec (.handoverInstant) σ = execHandoverInstant σ := rfl
theorem exec_enterMaintenance (w : Writer) (σ : State) : exec (.enterMaintenance w) σ = execEnterMaintenance w σ :=
    rfl
theorem exec_leaveMaintenance (w : Writer) (σ : State) : exec (.leaveMaintenance w) σ = execLeaveMaintenance w σ :=
    rfl
theorem exec_partnerReset (w : Writer) (σ : State) : exec (.partnerReset w) σ = execPartnerReset w σ := rfl
theorem exec_removeOpen (σ : State) : exec (.removeOpen) σ = execRemoveOpen σ := rfl
theorem exec_removeClose (σ : State) : exec (.removeClose) σ = execRemoveClose σ := rfl
theorem exec_insertedOpen (σ : State) : exec (.insertedOpen) σ = execInsertedOpen σ := rfl
theorem exec_calderaHoldExpire (σ : State) : exec (.calderaHoldExpire) σ = execCalderaHoldExpire σ := rfl
theorem exec_signatureWindowClose (pair : Fin 5) (sigL sigT : W64) (xDiff yDiff : Bool) (parity : Nat) (σ : State) :
    exec (.signatureWindowClose pair sigL sigT xDiff yDiff parity) σ = execSignatureWindowClose pair sigL sigT xDiff
    yDiff parity σ := rfl
theorem exec_lockstepMismatch (pair : Fin 5) (x y : Bool) (stage : Fin 5) (write : Nat) (σ : State) : exec
    (.lockstepMismatch pair x y stage write) σ = execLockstepMismatch pair x y stage write σ := rfl
theorem exec_rerunComplete (pair : Fin 5) (r : Rerun) (σ : State) : exec (.rerunComplete pair r) σ =
    execRerunComplete pair r σ := rfl
theorem exec_compareCountDone (pair : Fin 5) (σ : State) : exec (.compareCountDone pair) σ = execCompareCountDone
    pair σ := rfl
theorem exec_comparatorInjection (pair : Fin 5) (xOk yOk : Bool) (σ : State) : exec (.comparatorInjection pair xOk
    yOk) σ = execComparatorInjection pair xOk yOk σ := rfl
theorem exec_lkSplit (w : Writer) (pair : Fin 8) (σ : State) : exec (.lkSplit w pair) σ = execLkSplit w pair σ := rfl
theorem exec_splitDrainDone (pair : Fin 5) (σ : State) : exec (.splitDrainDone pair) σ = execSplitDrainDone pair σ :=
    rfl
theorem exec_splitDrainTimeout (pair : Fin 5) (σ : State) : exec (.splitDrainTimeout pair) σ = execSplitDrainTimeout
    pair σ := rfl
theorem exec_lkRejoin (w : Writer) (pair : Fin 8) (σ : State) : exec (.lkRejoin w pair) σ = execLkRejoin w pair σ :=
    rfl
theorem exec_rejoinStop (pair : Fin 5) (forced : Bool) (σ : State) : exec (.rejoinStop pair forced) σ =
    execRejoinStop pair forced σ := rfl
theorem exec_lkInject (w : Writer) (pair : Fin 8) (xOk yOk : Bool) (σ : State) : exec (.lkInject w pair xOk yOk) σ =
    execLkInject w pair xOk yOk σ := rfl
theorem exec_debugHaltRequest (pair : Fin 5) (σ : State) : exec (.debugHaltRequest pair) σ = execDebugHaltRequest
    pair σ := rfl
theorem exec_debugResume (pair : Fin 5) (σ : State) : exec (.debugResume pair) σ = execDebugResume pair σ := rfl
theorem exec_islandClockCheck (i : Fin 18) (millipercent : Int) (σ : State) : exec (.islandClockCheck i millipercent)
    σ = execIslandClockCheck i millipercent σ := rfl
theorem exec_islandStall (i : Fin 18) (cause : StallCause) (σ : State) : exec (.islandStall i cause) σ =
    execIslandStall i cause σ := rfl
theorem exec_islandRestartDone (i : Fin 18) (σ : State) : exec (.islandRestartDone i) σ = execIslandRestartDone i σ
    := rfl
theorem exec_registerAccessTimeout (i : Fin 18) (addr : Nat) (σ : State) : exec (.registerAccessTimeout i addr) σ =
    execRegisterAccessTimeout i addr σ := rfl
theorem exec_shellWatchdogRestart (slice : Fin 10) (σ : State) : exec (.shellWatchdogRestart slice) σ =
    execShellWatchdogRestart slice σ := rfl
theorem exec_shellStageHoldExpire (slice : Fin 10) (σ : State) : exec (.shellStageHoldExpire slice) σ =
    execShellStageHoldExpire slice σ := rfl
theorem exec_shellReloadDone (slice : Fin 10) (σ : State) : exec (.shellReloadDone slice) σ = execShellReloadDone
    slice σ := rfl
theorem exec_coreAccess (a : Access) (σ : State) : exec (.coreAccess a) σ = execCoreAccess a σ := rfl
theorem exec_debugAccess (a : Access) (σ : State) : exec (.debugAccess a) σ = execDebugAccess a σ := rfl
theorem exec_acLock (σ : State) : exec (.acLock) σ = execAcLock σ := rfl
theorem exec_scrubRead (addr : Nat) (e : Ecc) (σ : State) : exec (.scrubRead addr e) σ = execScrubRead addr e σ := rfl
theorem exec_mbRing (n : Fin 32) (by_ : Party) (σ : State) : exec (.mbRing n by_) σ = execMbRing n by_ σ := rfl
theorem exec_mbCancel (n : Fin 32) (by_ : Party) (σ : State) : exec (.mbCancel n by_) σ = execMbCancel n by_ σ := rfl
theorem exec_mbAckWrite (n : Fin 32) (by_ : Party) (code : BitVec 16) (σ : State) : exec (.mbAckWrite n by_ code) σ =
    execMbAckWrite n by_ code σ := rfl
theorem exec_mbAckRead (n : Fin 32) (by_ : Party) (σ : State) : exec (.mbAckRead n by_) σ = execMbAckRead n by_ σ :=
    rfl
theorem exec_mbMessageWrite (n : Fin 32) (by_ : Party) (off : Nat) (bytes : List Byte) (σ : State) : exec
    (.mbMessageWrite n by_ off bytes) σ = execMbMessageWrite n by_ off bytes σ := rfl
theorem exec_mbLinkDeliver (k : Fin 4) (msg : List Byte) (σ : State) : exec (.mbLinkDeliver k msg) σ =
    execMbLinkDeliver k msg σ := rfl
theorem exec_mbLinkAck (k : Fin 4) (code : BitVec 16) (collided : Bool) (σ : State) : exec (.mbLinkAck k code
    collided) σ = execMbLinkAck k code collided σ := rfl
theorem exec_sinterAdmit (σ : State) : exec (.sinterAdmit) σ = execSinterAdmit σ := rfl
theorem exec_sinterCommit (σ : State) : exec (.sinterCommit) σ = execSinterCommit σ := rfl
theorem exec_suppressionSummary (code : BitVec 16) (σ : State) : exec (.suppressionSummary code) σ =
    execSuppressionSummary code σ := rfl
theorem exec_lossRecord (σ : State) : exec (.lossRecord) σ = execLossRecord σ := rfl
theorem exec_sinterSearch (σ : State) : exec (.sinterSearch) σ = execSinterSearch σ := rfl
theorem exec_snCursorSet (w : Writer) (hi : Word) (σ : State) : exec (.snCursorSet w hi) σ = execSnCursorSet w hi σ
    := rfl
theorem exec_snWindowAdvance (w : Writer) (σ : State) : exec (.snWindowAdvance w) σ = execSnWindowAdvance w σ := rfl
theorem exec_sinterCursorRead (h : SvcMsg) (start : BitVec 48) (count : Nat) (σ : State) : exec (.sinterCursorRead h
    start count) σ = execSinterCursorRead h start count σ := rfl
theorem exec_sinterClear (h : SvcMsg) (σ : State) : exec (.sinterClear h) σ = execSinterClear h σ := rfl
theorem exec_imageDownloadBlock (h : SvcMsg) (hdr : BitVec 512) (units : List W64) (readBackOk : Bool) (σ : State) :
    exec (.imageDownloadBlock h hdr units readBackOk) σ = execImageDownloadBlock h hdr units readBackOk σ := rfl
theorem exec_updateVerify (h : SvcMsg) (kinds : BitVec 8) (link : Bool) (σ : State) : exec (.updateVerify h kinds
    link) σ = execUpdateVerify h kinds link σ := rfl
theorem exec_verifyComplete (img : Option PlantImage) (formats : Bool) (σ : State) : exec (.verifyComplete img
    formats) σ = execVerifyComplete img formats σ := rfl
theorem exec_updateActivate (h : SvcMsg) (kinds : BitVec 8) (at_ : Instant) (σ : State) : exec (.updateActivate h
    kinds at_) σ = execUpdateActivate h kinds at_ σ := rfl
theorem exec_activateCheck (σ : State) : exec (.activateCheck) σ = execActivateCheck σ := rfl
theorem exec_activateAt (σ : State) : exec (.activateAt) σ = execActivateAt σ := rfl
theorem exec_updateRoll (h : SvcMsg) (kinds : BitVec 8) (at_ : Instant) (σ : State) : exec (.updateRoll h kinds at_)
    σ = execUpdateRoll h kinds at_ σ := rfl
theorem exec_rollPartnerActivate (kinds : BitVec 8) (σ : State) : exec (.rollPartnerActivate kinds) σ =
    execRollPartnerActivate kinds σ := rfl
theorem exec_rollPartnerReady (σ : State) : exec (.rollPartnerReady) σ = execRollPartnerReady σ := rfl
theorem exec_rollFormerActivate (σ : State) : exec (.rollFormerActivate) σ = execRollFormerActivate σ := rfl
theorem exec_rollComplete (σ : State) : exec (.rollComplete) σ = execRollComplete σ := rfl
theorem exec_rollWaitExpire (σ : State) : exec (.rollWaitExpire) σ = execRollWaitExpire σ := rfl
theorem exec_revertRollStart (σ : State) : exec (.revertRollStart) σ = execRevertRollStart σ := rfl
theorem exec_updateConfirm (h : SvcMsg) (partnerOk link : Bool) (σ : State) : exec (.updateConfirm h partnerOk link)
    σ = execUpdateConfirm h partnerOk link σ := rfl
theorem exec_updateRevert (h : SvcMsg) (σ : State) : exec (.updateRevert h) σ = execUpdateRevert h σ := rfl
theorem exec_updateCancel (h : SvcMsg) (kinds : BitVec 8) (link : Bool) (σ : State) : exec (.updateCancel h kinds
    link) σ = execUpdateCancel h kinds link σ := rfl
theorem exec_updateStatus (h : SvcMsg) (kinds : BitVec 8) (σ : State) : exec (.updateStatus h kinds) σ =
    execUpdateStatus h kinds σ := rfl
theorem exec_trialRunWrite (σ : State) : exec (.trialRunWrite) σ = execTrialRunWrite σ := rfl
theorem exec_trialExpire (σ : State) : exec (.trialExpire) σ = execTrialExpire σ := rfl
theorem exec_trialRevertRestart (σ : State) : exec (.trialRevertRestart) σ = execTrialRevertRestart σ := rfl
theorem exec_iazebinActivate (h : SvcMsg) (kinds : BitVec 8) (σ : State) : exec (.iazebinActivate h kinds) σ =
    execIazebinActivate h kinds σ := rfl
theorem exec_powerOnReset (f : Feed) (σ : State) : exec (.powerOnReset f) σ = execPowerOnReset f σ := rfl
theorem exec_brownOutReset (σ : State) : exec (.brownOutReset) σ = execBrownOutReset σ := rfl
theorem exec_resetContact (σ : State) : exec (.resetContact) σ = execResetContact σ := rfl
theorem exec_resetContactRelease (σ : State) : exec (.resetContactRelease) σ = execResetContactRelease σ := rfl
theorem exec_watchdogReset (σ : State) : exec (.watchdogReset) σ = execWatchdogReset σ := rfl
theorem exec_watchdogWarning (σ : State) : exec (.watchdogWarning) σ = execWatchdogWarning σ := rfl
theorem exec_wdogKick (v : BitVec 16) (σ : State) : exec (.wdogKick v) σ = execWdogKick v σ := rfl
theorem exec_lockstepFatalReset (σ : State) : exec (.lockstepFatalReset) σ = execLockstepFatalReset σ := rfl
theorem exec_supervisorReset (σ : State) : exec (.supervisorReset) σ = execSupervisorReset σ := rfl
theorem exec_enterDormant (σ : State) : exec (.enterDormant) σ = execEnterDormant σ := rfl
theorem exec_partnerResetReceived (σ : State) : exec (.partnerResetReceived) σ = execPartnerResetReceived σ := rfl
theorem exec_insertionResetEnd (σ : State) : exec (.insertionResetEnd) σ = execInsertionResetEnd σ := rfl
theorem exec_resetDurationEnd (σ : State) : exec (.resetDurationEnd) σ = execResetDurationEnd σ := rfl
theorem exec_feedLost (f : Feed) (σ : State) : exec (.feedLost f) σ = execFeedLost f σ := rfl
theorem exec_feedReturn (f : Feed) (volts : Nat) (σ : State) : exec (.feedReturn f volts) σ = execFeedReturn f volts
    σ := rfl
theorem exec_feedOvervoltage (f : Feed) (σ : State) : exec (.feedOvervoltage f) σ = execFeedOvervoltage f σ := rfl
theorem exec_holdupEnter (σ : State) : exec (.holdupEnter) σ = execHoldupEnter σ := rfl
theorem exec_holdupKeyWritesEnd (σ : State) : exec (.holdupKeyWritesEnd) σ = execHoldupKeyWritesEnd σ := rfl
theorem exec_holdupEnd (σ : State) : exec (.holdupEnd) σ = execHoldupEnd σ := rfl
theorem exec_holdupChargeCross (percent : Nat) (σ : State) : exec (.holdupChargeCross percent) σ =
    execHoldupChargeCross percent σ := rfl
theorem exec_holdupCapMeasure (fallPermille : Nat) (σ : State) : exec (.holdupCapMeasure fallPermille) σ =
    execHoldupCapMeasure fallPermille σ := rfl
theorem exec_tempCheck (temp : Int) (σ : State) : exec (.tempCheck temp) σ = execTempCheck temp σ := rfl
theorem exec_eventLatch (n : Fin 128) (σ : State) : exec (.eventLatch n) σ = execEventLatch n σ := rfl
theorem exec_appInterruptTake (n : Fin 128) (pair : Fin 4) (σ : State) : exec (.appInterruptTake n pair) σ =
    execAppInterruptTake n pair σ := rfl
theorem exec_ownerLockChange (l : LockState) (σ : State) : exec (.ownerLockChange l) σ = execOwnerLockChange l σ :=
    rfl
theorem exec_keyRemoved (σ : State) : exec (.keyRemoved) σ = execKeyRemoved σ := rfl
theorem exec_keyInserted (content : Option KeyImage) (σ : State) : exec (.keyInserted content) σ = execKeyInserted
    content σ := rfl
theorem exec_keyHeaderReread (σ : State) : exec (.keyHeaderReread) σ = execKeyHeaderReread σ := rfl
theorem exec_captureSample (c : Fin 64) (v : GySample) (σ : State) : exec (.captureSample c v) σ = execCaptureSample
    c v σ := rfl
theorem exec_retainedCommit (σ : State) : exec (.retainedCommit) σ = execRetainedCommit σ := rfl
theorem exec_scapexSegmentUp (port : Fin 8) (east : Bool) (σ : State) : exec (.scapexSegmentUp port east) σ =
    execScapexSegmentUp port east σ := rfl
theorem exec_insertedClose (σ : State) : exec (.insertedClose) σ = execInsertedClose σ := rfl
theorem exec_svcDisconnect (sess : Fin 4) (σ : State) : exec (.svcDisconnect sess) σ = execSvcDisconnect sess σ := rfl
theorem exec_brownOutLatchExpire (σ : State) : exec (.brownOutLatchExpire) σ = execBrownOutLatchExpire σ := rfl
theorem exec_pdelayRequestSend (port : Fin 2) (σ : State) : exec (.pdelayRequestSend port) σ = execPdelayRequestSend
    port σ := rfl
theorem exec_gptpAnnounce (domain : Fin 128) (port : Fin 2) (better : Bool) (steps : Nat) (σ : State) : exec
    (.gptpAnnounce domain port better steps) σ = execGptpAnnounce domain port better steps σ := rfl

/-- No command touches the queue. -/
theorem fr_exec (i : Instr) (s : State) : FrO 0xffffffffe 0x7ffffffffffffffffffffffffffffffff s (exec i s) := by
  cases i with
  | registerWrite _ _ _ => rw [exec_registerWrite]; exact (fr_execRegisterWrite ..).mono rfl rfl
  | pairLoRead _ => rw [exec_pairLoRead]; exact (fr_execPairLoRead ..).mono rfl rfl
  | pairLoWrite _ _ => rw [exec_pairLoWrite]; exact (fr_execPairLoWrite ..).mono rfl rfl
  | pairHiWrite _ _ _ => rw [exec_pairHiWrite]; exact (fr_execPairHiWrite ..).mono rfl rfl
  | w1cWrite _ _ _ => rw [exec_w1cWrite]; exact (fr_execW1cWrite ..).mono rfl rfl
  | rcRead _ _ => rw [exec_rcRead]; exact (fr_execRcRead ..).mono rfl rfl
  | powerGood _ _ => rw [exec_powerGood]; exact (fr_execPowerGood ..).mono rfl rfl
  | resetRelease _ _ => rw [exec_resetRelease]; exact (fr_execResetRelease ..).mono rfl rfl
  | keyHeaderRead => rw [exec_keyHeaderRead]; exact (fr_execKeyHeaderRead ..).mono rfl rfl
  | firmwareVerified => rw [exec_firmwareVerified]; exact (fr_execFirmwareVerified ..).mono rfl rfl
  | baseIdentRead _ => rw [exec_baseIdentRead]; exact (fr_execBaseIdentRead ..).mono rfl rfl
  | configBankLoaded => rw [exec_configBankLoaded]; exact (fr_execConfigBankLoaded ..).mono rfl rfl
  | selfTestDone _ => rw [exec_selfTestDone]; exact (fr_execSelfTestDone ..).mono rfl rfl
  | plantImageDecoded _ => rw [exec_plantImageDecoded]; exact (fr_execPlantImageDecoded ..).mono rfl rfl
  | shellsLoaded => rw [exec_shellsLoaded]; exact (fr_execShellsLoaded ..).mono rfl rfl
  | timeAcquired _ => rw [exec_timeAcquired]; exact (fr_execTimeAcquired ..).mono rfl rfl
  | acquisitionTimeout => rw [exec_acquisitionTimeout]; exact (fr_execAcquisitionTimeout ..).mono rfl rfl
  | roleDecision _ _ _ => rw [exec_roleDecision]; exact (fr_execRoleDecision ..).mono rfl rfl
  | firstCommit => rw [exec_firstCommit]; exact (fr_execFirstCommit ..).mono rfl rfl
  | carrierConfigure _ _ => rw [exec_carrierConfigure]; exact (fr_execCarrierConfigure ..).mono rfl rfl
  | launchEntryHandoff _ _ => rw [exec_launchEntryHandoff]; exact (fr_execLaunchEntryHandoff ..).mono rfl rfl
  | handshakeReceive _ => rw [exec_handshakeReceive]; exact (fr_execHandshakeReceive ..).mono rfl rfl
  | sampleOwnSlices _ _ _ _ => rw [exec_sampleOwnSlices]; exact (fr_execSampleOwnSlices ..).mono rfl rfl
  | fastSampleComplete _ _ => rw [exec_fastSampleComplete]; exact (fr_execFastSampleComplete ..).mono rfl rfl
  | computeLoops _ _ => rw [exec_computeLoops]; exact (fr_execComputeLoops ..).mono rfl rfl
  | lanePreempt _ _ => rw [exec_lanePreempt]; exact (fr_execLanePreempt ..).mono rfl rfl
  | loopComplete _ => rw [exec_loopComplete]; exact (fr_execLoopComplete ..).mono rfl rfl
  | loopOverrun _ => rw [exec_loopOverrun]; exact (fr_execLoopOverrun ..).mono rfl rfl
  | fastLoopComplete _ => rw [exec_fastLoopComplete]; exact (fr_execFastLoopComplete ..).mono rfl rfl
  | fastLoopAbandon _ => rw [exec_fastLoopAbandon]; exact (fr_execFastLoopAbandon ..).mono rfl rfl
  | laneTest _ _ => rw [exec_laneTest]; exact (fr_execLaneTest ..).mono rfl rfl
  | runApplicationTask _ _ => rw [exec_runApplicationTask]; exact (fr_execRunApplicationTask ..).mono rfl rfl
  | taskComplete _ _ _ => rw [exec_taskComplete]; exact (fr_execTaskComplete ..).mono rfl rfl
  | taskOverrun _ => rw [exec_taskOverrun]; exact (fr_execTaskOverrun ..).mono rfl rfl
  | commitOwnSlices _ _ => rw [exec_commitOwnSlices]; exact (fr_execCommitOwnSlices ..).mono rfl rfl
  | commitScapexCarriers _ _ => rw [exec_commitScapexCarriers]; exact (fr_execCommitScapexCarriers ..).mono rfl rfl
  | publishStreams _ _ => rw [exec_publishStreams]; exact (fr_execPublishStreams ..).mono rfl rfl
  | gateEvent _ _ => rw [exec_gateEvent]; exact (fr_execGateEvent ..).mono rfl rfl
  | frameIngress _ _ => rw [exec_frameIngress]; exact (fr_execFrameIngress ..).mono rfl rfl
  | subFrameAccept _ _ _ _ _ => rw [exec_subFrameAccept]; exact (fr_execSubFrameAccept ..).mono rfl rfl
  | validAtApply _ => rw [exec_validAtApply]; exact (fr_execValidAtApply ..).mono rfl rfl
  | expectedInstantMissed _ => rw [exec_expectedInstantMissed]; exact (fr_execExpectedInstantMissed ..).mono rfl rfl
  | viewRebase _ => rw [exec_viewRebase]; exact (fr_execViewRebase ..).mono rfl rfl
  | mtLatch => rw [exec_mtLatch]; exact (fr_execMtLatch ..).mono rfl rfl
  | mtReepoch _ => rw [exec_mtReepoch]; exact (fr_execMtReepoch ..).mono rfl rfl
  | gptpSyncReceived _ _ _ _ _ _ _ => rw [exec_gptpSyncReceived]; exact (fr_execGptpSyncReceived ..).mono rfl rfl
  | gptpPdelayMessage _ _ => rw [exec_gptpPdelayMessage]; exact (fr_execGptpPdelayMessage ..).mono rfl rfl
  | gptpSignaling _ _ _ => rw [exec_gptpSignaling]; exact (fr_execGptpSignaling ..).mono rfl rfl
  | sourceLost => rw [exec_sourceLost]; exact (fr_execSourceLost ..).mono rfl rfl
  | holdoverErrCross => rw [exec_holdoverErrCross]; exact (fr_execHoldoverErrCross ..).mono rfl rfl
  | ppsEdge _ => rw [exec_ppsEdge]; exact (fr_execPpsEdge ..).mono rfl rfl
  | f10mMeasurement _ => rw [exec_f10mMeasurement]; exact (fr_execF10mMeasurement ..).mono rfl rfl
  | ppsOutPulse => rw [exec_ppsOutPulse]; exact (fr_execPpsOutPulse ..).mono rfl rfl
  | loopAuto _ _ => rw [exec_loopAuto]; exact (fr_execLoopAuto ..).mono rfl rfl
  | loopManual _ _ => rw [exec_loopManual]; exact (fr_execLoopManual ..).mono rfl rfl
  | loopManualValue _ _ => rw [exec_loopManualValue]; exact (fr_execLoopManualValue ..).mono rfl rfl
  | loopRestart _ _ => rw [exec_loopRestart]; exact (fr_execLoopRestart ..).mono rfl rfl
  | loopSwitch _ _ _ => rw [exec_loopSwitch]; exact (fr_execLoopSwitch ..).mono rfl rfl
  | setStage _ => rw [exec_setStage]; exact (fr_execSetStage ..).mono rfl rfl
  | testStart _ _ _ => rw [exec_testStart]; exact (fr_execTestStart ..).mono rfl rfl
  | testAbort _ => rw [exec_testAbort]; exact (fr_execTestAbort ..).mono rfl rfl
  | testComplete _ _ => rw [exec_testComplete]; exact (fr_execTestComplete ..).mono rfl rfl
  | probationRevert _ => rw [exec_probationRevert]; exact (fr_execProbationRevert ..).mono rfl rfl
  | probationEnd _ => rw [exec_probationEnd]; exact (fr_execProbationEnd ..).mono rfl rfl
  | lockoutEnd _ => rw [exec_lockoutEnd]; exact (fr_execLockoutEnd ..).mono rfl rfl
  | surgeIntervalClose _ => rw [exec_surgeIntervalClose]; exact (fr_execSurgeIntervalClose ..).mono rfl rfl
  | surgeRelease _ => rw [exec_surgeRelease]; exact (fr_execSurgeRelease ..).mono rfl rfl
  | adaptForbid _ _ _ _ _ => rw [exec_adaptForbid]; exact (fr_execAdaptForbid ..).mono rfl rfl
  | adaptLift _ _ _ _ _ => rw [exec_adaptLift]; exact (fr_execAdaptLift ..).mono rfl rfl
  | diagRaised _ _ _ => rw [exec_diagRaised]; exact (fr_execDiagRaised ..).mono rfl rfl
  | diagCleared _ _ => rw [exec_diagCleared]; exact (fr_execDiagCleared ..).mono rfl rfl
  | crosscheckRound _ _ _ => rw [exec_crosscheckRound]; exact (fr_execCrosscheckRound ..).mono rfl rfl
  | tcOpenTest _ _ => rw [exec_tcOpenTest]; exact (fr_execTcOpenTest ..).mono rfl rfl
  | voutRetry _ _ => rw [exec_voutRetry]; exact (fr_execVoutRetry ..).mono rfl rfl
  | shellTempOff _ _ => rw [exec_shellTempOff]; exact (fr_execShellTempOff ..).mono rfl rfl
  | shellTempMeasure _ _ => rw [exec_shellTempMeasure]; exact (fr_execShellTempMeasure ..).mono rfl rfl
  | elementCheck _ _ => rw [exec_elementCheck]; exact (fr_execElementCheck ..).mono rfl rfl
  | hartConnect _ _ => rw [exec_hartConnect]; exact (fr_execHartConnect ..).mono rfl rfl
  | hartPoll _ => rw [exec_hartPoll]; exact (fr_execHartPoll ..).mono rfl rfl
  | hartResponse _ _ => rw [exec_hartResponse]; exact (fr_execHartResponse ..).mono rfl rfl
  | hartTimeout _ => rw [exec_hartTimeout]; exact (fr_execHartTimeout ..).mono rfl rfl
  | hartPassthrough _ _ _ => rw [exec_hartPassthrough]; exact (fr_execHartPassthrough ..).mono rfl rfl
  | hartPassthroughSend _ _ => rw [exec_hartPassthroughSend]; exact (fr_execHartPassthroughSend ..).mono rfl rfl
  | inputChangeAccepted _ _ => rw [exec_inputChangeAccepted]; exact (fr_execInputChangeAccepted ..).mono rfl rfl
  | outputOverloadOff _ => rw [exec_outputOverloadOff]; exact (fr_execOutputOverloadOff ..).mono rfl rfl
  | outputOverloadRetry _ => rw [exec_outputOverloadRetry]; exact (fr_execOutputOverloadRetry ..).mono rfl rfl
  | outputOvertempOff _ => rw [exec_outputOvertempOff]; exact (fr_execOutputOvertempOff ..).mono rfl rfl
  | supplyStateChange _ _ => rw [exec_supplyStateChange]; exact (fr_execSupplyStateChange ..).mono rfl rfl
  | reapplyTurn _ => rw [exec_reapplyTurn]; exact (fr_execReapplyTurn ..).mono rfl rfl
  | groupOver _ _ => rw [exec_groupOver]; exact (fr_execGroupOver ..).mono rfl rfl
  | sinkShareChange _ _ => rw [exec_sinkShareChange]; exact (fr_execSinkShareChange ..).mono rfl rfl
  | gyIntervalClose _ => rw [exec_gyIntervalClose]; exact (fr_execGyIntervalClose ..).mono rfl rfl
  | gyLevelRise _ => rw [exec_gyLevelRise]; exact (fr_execGyLevelRise ..).mono rfl rfl
  | gyLevelFall _ => rw [exec_gyLevelFall]; exact (fr_execGyLevelFall ..).mono rfl rfl
  | patternFire _ => rw [exec_patternFire]; exact (fr_execPatternFire ..).mono rfl rfl
  | armOrder _ _ => rw [exec_armOrder]; exact (fr_execArmOrder ..).mono rfl rfl
  | armReceived _ _ _ => rw [exec_armReceived]; exact (fr_execArmReceived ..).mono rfl rfl
  | armAt _ => rw [exec_armAt]; exact (fr_execArmAt ..).mono rfl rfl
  | fireReceived _ _ _ _ _ => rw [exec_fireReceived]; exact (fr_execFireReceived ..).mono rfl rfl
  | gyWindowComplete _ => rw [exec_gyWindowComplete]; exact (fr_execGyWindowComplete ..).mono rfl rfl
  | gyHoldoffExpire _ => rw [exec_gyHoldoffExpire]; exact (fr_execGyHoldoffExpire ..).mono rfl rfl
  | gyRelease _ => rw [exec_gyRelease]; exact (fr_execGyRelease ..).mono rfl rfl
  | gyFireOrder _ => rw [exec_gyFireOrder]; exact (fr_execGyFireOrder ..).mono rfl rfl
  | gyRdRead _ => rw [exec_gyRdRead]; exact (fr_execGyRdRead ..).mono rfl rfl
  | svcGyBlockRead _ _ => rw [exec_svcGyBlockRead]; exact (fr_execSvcGyBlockRead ..).mono rfl rfl
  | svcGyBlockAck _ _ _ => rw [exec_svcGyBlockAck]; exact (fr_execSvcGyBlockAck ..).mono rfl rfl
  | svcGyRelease _ _ => rw [exec_svcGyRelease]; exact (fr_execSvcGyRelease ..).mono rfl rfl
  | svcGyFire _ _ => rw [exec_svcGyFire]; exact (fr_execSvcGyFire ..).mono rfl rfl
  | collectLaunch _ _ => rw [exec_collectLaunch]; exact (fr_execCollectLaunch ..).mono rfl rfl
  | collectReturn _ _ => rw [exec_collectReturn]; exact (fr_execCollectReturn ..).mono rfl rfl
  | collectComplete _ => rw [exec_collectComplete]; exact (fr_execCollectComplete ..).mono rfl rfl
  | timeFrameSend => rw [exec_timeFrameSend]; exact (fr_execTimeFrameSend ..).mono rfl rfl
  | timeFrameReturn _ _ _ => rw [exec_timeFrameReturn]; exact (fr_execTimeFrameReturn ..).mono rfl rfl
  | scapexForward _ _ _ => rw [exec_scapexForward]; exact (fr_execScapexForward ..).mono rfl rfl
  | scapexSegmentDown _ _ => rw [exec_scapexSegmentDown]; exact (fr_execScapexSegmentDown ..).mono rfl rfl
  | serviceFrameLaunch _ => rw [exec_serviceFrameLaunch]; exact (fr_execServiceFrameLaunch ..).mono rfl rfl
  | serviceFrameReturn _ _ => rw [exec_serviceFrameReturn]; exact (fr_execServiceFrameReturn ..).mono rfl rfl
  | serviceFrameTimeout _ => rw [exec_serviceFrameTimeout]; exact (fr_execServiceFrameTimeout ..).mono rfl rfl
  | carrierLost _ => rw [exec_carrierLost]; exact (fr_execCarrierLost ..).mono rfl rfl
  | carrierAppeared _ _ => rw [exec_carrierAppeared]; exact (fr_execCarrierAppeared ..).mono rfl rfl
  | portLinkChange _ _ => rw [exec_portLinkChange]; exact (fr_execPortLinkChange ..).mono rfl rfl
  | svcConnect _ => rw [exec_svcConnect]; exact (fr_execSvcConnect ..).mono rfl rfl
  | svcIdleClose _ => rw [exec_svcIdleClose]; exact (fr_execSvcIdleClose ..).mono rfl rfl
  | arpRequest _ _ => rw [exec_arpRequest]; exact (fr_execArpRequest ..).mono rfl rfl
  | neighbourSolicitation _ _ => rw [exec_neighbourSolicitation]; exact (fr_execNeighbourSolicitation ..).mono rfl rfl
  | icmpEcho _ _ _ => rw [exec_icmpEcho]; exact (fr_execIcmpEcho ..).mono rfl rfl
  | svcUnknownType _ _ => rw [exec_svcUnknownType]; exact (fr_execSvcUnknownType ..).mono rfl rfl
  | svcFullSummary _ => rw [exec_svcFullSummary]; exact (fr_execSvcFullSummary ..).mono rfl rfl
  | fullSummaryRequest => rw [exec_fullSummaryRequest]; exact (fr_execFullSummaryRequest ..).mono rfl rfl
  | svcMbPost _ _ _ => rw [exec_svcMbPost]; exact (fr_execSvcMbPost ..).mono rfl rfl
  | svcMbStatus _ _ => rw [exec_svcMbStatus]; exact (fr_execSvcMbStatus ..).mono rfl rfl
  | svcMbCancel _ _ => rw [exec_svcMbCancel]; exact (fr_execSvcMbCancel ..).mono rfl rfl
  | forcePoint _ _ _ => rw [exec_forcePoint]; exact (fr_execForcePoint ..).mono rfl rfl
  | forceRelease _ _ => rw [exec_forceRelease]; exact (fr_execForceRelease ..).mono rfl rfl
  | reepochOrder _ => rw [exec_reepochOrder]; exact (fr_execReepochOrder ..).mono rfl rfl
  | ownerEnrolment _ _ _ _ => rw [exec_ownerEnrolment]; exact (fr_execOwnerEnrolment ..).mono rfl rfl
  | svcMaintEnter _ => rw [exec_svcMaintEnter]; exact (fr_execSvcMaintEnter ..).mono rfl rfl
  | svcMaintLeave _ => rw [exec_svcMaintLeave]; exact (fr_execSvcMaintLeave ..).mono rfl rfl
  | svcDormant _ => rw [exec_svcDormant]; exact (fr_execSvcDormant ..).mono rfl rfl
  | canFrameReceived _ _ => rw [exec_canFrameReceived]; exact (fr_execCanFrameReceived ..).mono rfl rfl
  | canRemoteFrame _ => rw [exec_canRemoteFrame]; exact (fr_execCanRemoteFrame ..).mono rfl rfl
  | canProtocolException _ => rw [exec_canProtocolException]; exact (fr_execCanProtocolException ..).mono rfl rfl
  | canTxSuccess _ _ _ => rw [exec_canTxSuccess]; exact (fr_execCanTxSuccess ..).mono rfl rfl
  | canTxAckError _ _ _ => rw [exec_canTxAckError]; exact (fr_execCanTxAckError ..).mono rfl rfl
  | canBusError _ _ _ _ => rw [exec_canBusError]; exact (fr_execCanBusError ..).mono rfl rfl
  | canArbitrationLost _ _ => rw [exec_canArbitrationLost]; exact (fr_execCanArbitrationLost ..).mono rfl rfl
  | canRecover _ => rw [exec_canRecover]; exact (fr_execCanRecover ..).mono rfl rfl
  | canRecoveryDone _ => rw [exec_canRecoveryDone]; exact (fr_execCanRecoveryDone ..).mono rfl rfl
  | canSnap _ _ _ => rw [exec_canSnap]; exact (fr_execCanSnap ..).mono rfl rfl
  | canSend _ _ _ => rw [exec_canSend]; exact (fr_execCanSend ..).mono rfl rfl
  | canCancel _ _ _ => rw [exec_canCancel]; exact (fr_execCanCancel ..).mono rfl rfl
  | canLeaveListenOnly _ => rw [exec_canLeaveListenOnly]; exact (fr_execCanLeaveListenOnly ..).mono rfl rfl
  | loopIndicationChange _ _ => rw [exec_loopIndicationChange]; exact (fr_execLoopIndicationChange ..).mono rfl rfl
  | partnerClaimChange _ => rw [exec_partnerClaimChange]; exact (fr_execPartnerClaimChange ..).mono rfl rfl
  | partnerReadyChange _ => rw [exec_partnerReadyChange]; exact (fr_execPartnerReadyChange ..).mono rfl rfl
  | claimReturnTimeout => rw [exec_claimReturnTimeout]; exact (fr_execClaimReturnTimeout ..).mono rfl rfl
  | heartbeatSend => rw [exec_heartbeatSend]; exact (fr_execHeartbeatSend ..).mono rfl rfl
  | netHeartbeatSend => rw [exec_netHeartbeatSend]; exact (fr_execNetHeartbeatSend ..).mono rfl rfl
  | heartbeatReceived _ _ _ _ => rw [exec_heartbeatReceived]; exact (fr_execHeartbeatReceived ..).mono rfl rfl
  | heartbeatTimeout => rw [exec_heartbeatTimeout]; exact (fr_execHeartbeatTimeout ..).mono rfl rfl
  | releaseReceived => rw [exec_releaseReceived]; exact (fr_execReleaseReceived ..).mono rfl rfl
  | epochStored => rw [exec_epochStored]; exact (fr_execEpochStored ..).mono rfl rfl
  | takeoverResume => rw [exec_takeoverResume]; exact (fr_execTakeoverResume ..).mono rfl rfl
  | netHbTimeout => rw [exec_netHbTimeout]; exact (fr_execNetHbTimeout ..).mono rfl rfl
  | binaryLinkChange _ _ => rw [exec_binaryLinkChange]; exact (fr_execBinaryLinkChange ..).mono rfl rfl
  | grantRecognised => rw [exec_grantRecognised]; exact (fr_execGrantRecognised ..).mono rfl rfl
  | grantWithdrawn => rw [exec_grantWithdrawn]; exact (fr_execGrantWithdrawn ..).mono rfl rfl
  | arbiterFail => rw [exec_arbiterFail]; exact (fr_execArbiterFail ..).mono rfl rfl
  | arbiterReturn => rw [exec_arbiterReturn]; exact (fr_execArbiterReturn ..).mono rfl rfl
  | healthWordForm => rw [exec_healthWordForm]; exact (fr_execHealthWordForm ..).mono rfl rfl
  | standbySelftest _ => rw [exec_standbySelftest]; exact (fr_execStandbySelftest ..).mono rfl rfl
  | yield => rw [exec_yield]; exact (fr_execYield ..).mono rfl rfl
  | snapshotFreeze => rw [exec_snapshotFreeze]; exact (fr_execSnapshotFreeze ..).mono rfl rfl
  | blockRecordReceived _ _ => rw [exec_blockRecordReceived]; exact (fr_execBlockRecordReceived ..).mono rfl rfl
  | snapshotCommit _ _ _ _ _ => rw [exec_snapshotCommit]; exact (fr_execSnapshotCommit ..).mono rfl rfl
  | standbyBoundary => rw [exec_standbyBoundary]; exact (fr_execStandbyBoundary ..).mono rfl rfl
  | verifyCrcSend => rw [exec_verifyCrcSend]; exact (fr_execVerifyCrcSend ..).mono rfl rfl
  | verifyCrcReceived _ _ => rw [exec_verifyCrcReceived]; exact (fr_execVerifyCrcReceived ..).mono rfl rfl
  | sideRecordReceived _ => rw [exec_sideRecordReceived]; exact (fr_execSideRecordReceived ..).mono rfl rfl
  | fastRecordReceived _ _ _ _ _ => rw [exec_fastRecordReceived]; exact (fr_execFastRecordReceived ..).mono rfl rfl
  | joinComplete => rw [exec_joinComplete]; exact (fr_execJoinComplete ..).mono rfl rfl
  | handoverOrder _ _ => rw [exec_handoverOrder]; exact (fr_execHandoverOrder ..).mono rfl rfl
  | handoverCancel _ => rw [exec_handoverCancel]; exact (fr_execHandoverCancel ..).mono rfl rfl
  | handoverCheck => rw [exec_handoverCheck]; exact (fr_execHandoverCheck ..).mono rfl rfl
  | handoverInstant => rw [exec_handoverInstant]; exact (fr_execHandoverInstant ..).mono rfl rfl
  | enterMaintenance _ => rw [exec_enterMaintenance]; exact (fr_execEnterMaintenance ..).mono rfl rfl
  | leaveMaintenance _ => rw [exec_leaveMaintenance]; exact (fr_execLeaveMaintenance ..).mono rfl rfl
  | partnerReset _ => rw [exec_partnerReset]; exact (fr_execPartnerReset ..).mono rfl rfl
  | removeOpen => rw [exec_removeOpen]; exact (fr_execRemoveOpen ..).mono rfl rfl
  | removeClose => rw [exec_removeClose]; exact (fr_execRemoveClose ..).mono rfl rfl
  | insertedOpen => rw [exec_insertedOpen]; exact (fr_execInsertedOpen ..).mono rfl rfl
  | calderaHoldExpire => rw [exec_calderaHoldExpire]; exact (fr_execCalderaHoldExpire ..).mono rfl rfl
  | signatureWindowClose _ _ _ _ _ _ => rw [exec_signatureWindowClose]; exact (fr_execSignatureWindowClose ..).mono rfl rfl
  | lockstepMismatch _ _ _ _ _ => rw [exec_lockstepMismatch]; exact (fr_execLockstepMismatch ..).mono rfl rfl
  | rerunComplete _ _ => rw [exec_rerunComplete]; exact (fr_execRerunComplete ..).mono rfl rfl
  | compareCountDone _ => rw [exec_compareCountDone]; exact (fr_execCompareCountDone ..).mono rfl rfl
  | comparatorInjection _ _ _ => rw [exec_comparatorInjection]; exact (fr_execComparatorInjection ..).mono rfl rfl
  | lkSplit _ _ => rw [exec_lkSplit]; exact (fr_execLkSplit ..).mono rfl rfl
  | splitDrainDone _ => rw [exec_splitDrainDone]; exact (fr_execSplitDrainDone ..).mono rfl rfl
  | splitDrainTimeout _ => rw [exec_splitDrainTimeout]; exact (fr_execSplitDrainTimeout ..).mono rfl rfl
  | lkRejoin _ _ => rw [exec_lkRejoin]; exact (fr_execLkRejoin ..).mono rfl rfl
  | rejoinStop _ _ => rw [exec_rejoinStop]; exact (fr_execRejoinStop ..).mono rfl rfl
  | lkInject _ _ _ _ => rw [exec_lkInject]; exact (fr_execLkInject ..).mono rfl rfl
  | debugHaltRequest _ => rw [exec_debugHaltRequest]; exact (fr_execDebugHaltRequest ..).mono rfl rfl
  | debugResume _ => rw [exec_debugResume]; exact (fr_execDebugResume ..).mono rfl rfl
  | islandClockCheck _ _ => rw [exec_islandClockCheck]; exact (fr_execIslandClockCheck ..).mono rfl rfl
  | islandStall _ _ => rw [exec_islandStall]; exact (fr_execIslandStall ..).mono rfl rfl
  | islandRestartDone _ => rw [exec_islandRestartDone]; exact (fr_execIslandRestartDone ..).mono rfl rfl
  | registerAccessTimeout _ _ => rw [exec_registerAccessTimeout]; exact (fr_execRegisterAccessTimeout ..).mono rfl rfl
  | shellWatchdogRestart _ => rw [exec_shellWatchdogRestart]; exact (fr_execShellWatchdogRestart ..).mono rfl rfl
  | shellStageHoldExpire _ => rw [exec_shellStageHoldExpire]; exact (fr_execShellStageHoldExpire ..).mono rfl rfl
  | shellReloadDone _ => rw [exec_shellReloadDone]; exact (fr_execShellReloadDone ..).mono rfl rfl
  | coreAccess _ => rw [exec_coreAccess]; exact (fr_execCoreAccess ..).mono rfl rfl
  | debugAccess _ => rw [exec_debugAccess]; exact (fr_execDebugAccess ..).mono rfl rfl
  | acLock => rw [exec_acLock]; exact (fr_execAcLock ..).mono rfl rfl
  | scrubRead _ _ => rw [exec_scrubRead]; exact (fr_execScrubRead ..).mono rfl rfl
  | mbRing _ _ => rw [exec_mbRing]; exact (fr_execMbRing ..).mono rfl rfl
  | mbCancel _ _ => rw [exec_mbCancel]; exact (fr_execMbCancel ..).mono rfl rfl
  | mbAckWrite _ _ _ => rw [exec_mbAckWrite]; exact (fr_execMbAckWrite ..).mono rfl rfl
  | mbAckRead _ _ => rw [exec_mbAckRead]; exact (fr_execMbAckRead ..).mono rfl rfl
  | mbMessageWrite _ _ _ _ => rw [exec_mbMessageWrite]; exact (fr_execMbMessageWrite ..).mono rfl rfl
  | mbLinkDeliver _ _ => rw [exec_mbLinkDeliver]; exact (fr_execMbLinkDeliver ..).mono rfl rfl
  | mbLinkAck _ _ _ => rw [exec_mbLinkAck]; exact (fr_execMbLinkAck ..).mono rfl rfl
  | sinterAdmit => rw [exec_sinterAdmit]; exact (fr_execSinterAdmit ..).mono rfl rfl
  | sinterCommit => rw [exec_sinterCommit]; exact (fr_execSinterCommit ..).mono rfl rfl
  | suppressionSummary _ => rw [exec_suppressionSummary]; exact (fr_execSuppressionSummary ..).mono rfl rfl
  | lossRecord => rw [exec_lossRecord]; exact (fr_execLossRecord ..).mono rfl rfl
  | sinterSearch => rw [exec_sinterSearch]; exact (fr_execSinterSearch ..).mono rfl rfl
  | snCursorSet _ _ => rw [exec_snCursorSet]; exact (fr_execSnCursorSet ..).mono rfl rfl
  | snWindowAdvance _ => rw [exec_snWindowAdvance]; exact (fr_execSnWindowAdvance ..).mono rfl rfl
  | sinterCursorRead _ _ _ => rw [exec_sinterCursorRead]; exact (fr_execSinterCursorRead ..).mono rfl rfl
  | sinterClear _ => rw [exec_sinterClear]; exact (fr_execSinterClear ..).mono rfl rfl
  | imageDownloadBlock _ _ _ _ => rw [exec_imageDownloadBlock]; exact (fr_execImageDownloadBlock ..).mono rfl rfl
  | updateVerify _ _ _ => rw [exec_updateVerify]; exact (fr_execUpdateVerify ..).mono rfl rfl
  | verifyComplete _ _ => rw [exec_verifyComplete]; exact (fr_execVerifyComplete ..).mono rfl rfl
  | updateActivate _ _ _ => rw [exec_updateActivate]; exact (fr_execUpdateActivate ..).mono rfl rfl
  | activateCheck => rw [exec_activateCheck]; exact (fr_execActivateCheck ..).mono rfl rfl
  | activateAt => rw [exec_activateAt]; exact (fr_execActivateAt ..).mono rfl rfl
  | updateRoll _ _ _ => rw [exec_updateRoll]; exact (fr_execUpdateRoll ..).mono rfl rfl
  | rollPartnerActivate _ => rw [exec_rollPartnerActivate]; exact (fr_execRollPartnerActivate ..).mono rfl rfl
  | rollPartnerReady => rw [exec_rollPartnerReady]; exact (fr_execRollPartnerReady ..).mono rfl rfl
  | rollFormerActivate => rw [exec_rollFormerActivate]; exact (fr_execRollFormerActivate ..).mono rfl rfl
  | rollComplete => rw [exec_rollComplete]; exact (fr_execRollComplete ..).mono rfl rfl
  | rollWaitExpire => rw [exec_rollWaitExpire]; exact (fr_execRollWaitExpire ..).mono rfl rfl
  | revertRollStart => rw [exec_revertRollStart]; exact (fr_execRevertRollStart ..).mono rfl rfl
  | updateConfirm _ _ _ => rw [exec_updateConfirm]; exact (fr_execUpdateConfirm ..).mono rfl rfl
  | updateRevert _ => rw [exec_updateRevert]; exact (fr_execUpdateRevert ..).mono rfl rfl
  | updateCancel _ _ _ => rw [exec_updateCancel]; exact (fr_execUpdateCancel ..).mono rfl rfl
  | updateStatus _ _ => rw [exec_updateStatus]; exact (fr_execUpdateStatus ..).mono rfl rfl
  | trialRunWrite => rw [exec_trialRunWrite]; exact (fr_execTrialRunWrite ..).mono rfl rfl
  | trialExpire => rw [exec_trialExpire]; exact (fr_execTrialExpire ..).mono rfl rfl
  | trialRevertRestart => rw [exec_trialRevertRestart]; exact (fr_execTrialRevertRestart ..).mono rfl rfl
  | iazebinActivate _ _ => rw [exec_iazebinActivate]; exact (fr_execIazebinActivate ..).mono rfl rfl
  | powerOnReset _ => rw [exec_powerOnReset]; exact (fr_execPowerOnReset ..).mono rfl rfl
  | brownOutReset => rw [exec_brownOutReset]; exact (fr_execBrownOutReset ..).mono rfl rfl
  | resetContact => rw [exec_resetContact]; exact (fr_execResetContact ..).mono rfl rfl
  | resetContactRelease => rw [exec_resetContactRelease]; exact (fr_execResetContactRelease ..).mono rfl rfl
  | watchdogReset => rw [exec_watchdogReset]; exact (fr_execWatchdogReset ..).mono rfl rfl
  | watchdogWarning => rw [exec_watchdogWarning]; exact (fr_execWatchdogWarning ..).mono rfl rfl
  | wdogKick _ => rw [exec_wdogKick]; exact (fr_execWdogKick ..).mono rfl rfl
  | lockstepFatalReset => rw [exec_lockstepFatalReset]; exact (fr_execLockstepFatalReset ..).mono rfl rfl
  | supervisorReset => rw [exec_supervisorReset]; exact (fr_execSupervisorReset ..).mono rfl rfl
  | enterDormant => rw [exec_enterDormant]; exact (fr_execEnterDormant ..).mono rfl rfl
  | partnerResetReceived => rw [exec_partnerResetReceived]; exact (fr_execPartnerResetReceived ..).mono rfl rfl
  | insertionResetEnd => rw [exec_insertionResetEnd]; exact (fr_execInsertionResetEnd ..).mono rfl rfl
  | resetDurationEnd => rw [exec_resetDurationEnd]; exact (fr_execResetDurationEnd ..).mono rfl rfl
  | feedLost _ => rw [exec_feedLost]; exact (fr_execFeedLost ..).mono rfl rfl
  | feedReturn _ _ => rw [exec_feedReturn]; exact (fr_execFeedReturn ..).mono rfl rfl
  | feedOvervoltage _ => rw [exec_feedOvervoltage]; exact (fr_execFeedOvervoltage ..).mono rfl rfl
  | holdupEnter => rw [exec_holdupEnter]; exact (fr_execHoldupEnter ..).mono rfl rfl
  | holdupKeyWritesEnd => rw [exec_holdupKeyWritesEnd]; exact (fr_execHoldupKeyWritesEnd ..).mono rfl rfl
  | holdupEnd => rw [exec_holdupEnd]; exact (fr_execHoldupEnd ..).mono rfl rfl
  | holdupChargeCross _ => rw [exec_holdupChargeCross]; exact (fr_execHoldupChargeCross ..).mono rfl rfl
  | holdupCapMeasure _ => rw [exec_holdupCapMeasure]; exact (fr_execHoldupCapMeasure ..).mono rfl rfl
  | tempCheck _ => rw [exec_tempCheck]; exact (fr_execTempCheck ..).mono rfl rfl
  | eventLatch _ => rw [exec_eventLatch]; exact (fr_execEventLatch ..).mono rfl rfl
  | appInterruptTake _ _ => rw [exec_appInterruptTake]; exact (fr_execAppInterruptTake ..).mono rfl rfl
  | ownerLockChange _ => rw [exec_ownerLockChange]; exact (fr_execOwnerLockChange ..).mono rfl rfl
  | keyRemoved => rw [exec_keyRemoved]; exact (fr_execKeyRemoved ..).mono rfl rfl
  | keyInserted _ => rw [exec_keyInserted]; exact (fr_execKeyInserted ..).mono rfl rfl
  | keyHeaderReread => rw [exec_keyHeaderReread]; exact (fr_execKeyHeaderReread ..).mono rfl rfl
  | captureSample _ _ => rw [exec_captureSample]; exact (fr_execCaptureSample ..).mono rfl rfl
  | retainedCommit => rw [exec_retainedCommit]; exact (fr_execRetainedCommit ..).mono rfl rfl
  | scapexSegmentUp _ _ => rw [exec_scapexSegmentUp]; exact (fr_execScapexSegmentUp ..).mono rfl rfl
  | insertedClose => rw [exec_insertedClose]; exact (fr_execInsertedClose ..).mono rfl rfl
  | svcDisconnect _ => rw [exec_svcDisconnect]; exact (fr_execSvcDisconnect ..).mono rfl rfl
  | brownOutLatchExpire => rw [exec_brownOutLatchExpire]; exact (fr_execBrownOutLatchExpire ..).mono rfl rfl
  | pdelayRequestSend _ => rw [exec_pdelayRequestSend]; exact (fr_execPdelayRequestSend ..).mono rfl rfl
  | gptpAnnounce _ _ _ _ => rw [exec_gptpAnnounce]; exact (fr_execGptpAnnounce ..).mono rfl rfl

end Sys2Proof.Machine
end

