-- ==== Sys2Proof/Laws/Memory.lean ====
section
/-! SUPPORT. The byte memory keeps its canonical form where a reset drops part of it. -/


namespace Sys2Proof.Machine
/-- What a filter keeps lies above the same key. -/
theorem above_filter {α : Type} [DecidableEq α] (d : Nat → α) (p : Nat × α → Bool) (t : Tab α) (k : Nat)
    (hw : Tab.wf d t = true) (h : Tab.above k t = true) : Tab.above k (t.filter p) = true := by
  induction t generalizing k with
  | nil => rfl
  | cons e t ih =>
    obtain ⟨j, v⟩ := e
    simp only [Tab.wf, Bool.and_eq_true] at hw
    simp only [Tab.above, decide_eq_true_eq] at h
    by_cases hp : p (j, v) = true
    · simp [hp, Tab.above, h]
    · simp only [List.filter_cons, hp]
      refine ih k hw.2 ?_
      cases t with
      | nil => rfl
      | cons e t =>
        simp only [Tab.above, decide_eq_true_eq] at hw ⊢
        omega

/-- A filter keeps the canonical form. -/
theorem wf_filter {α : Type} [DecidableEq α] (d : Nat → α) (p : Nat × α → Bool) (t : Tab α) (hw : Tab.wf d t = true) :
    Tab.wf d (t.filter p) = true := by
  induction t with
  | nil => rfl
  | cons e t ih =>
    obtain ⟨j, v⟩ := e
    have hw' := hw
    simp only [Tab.wf, Bool.and_eq_true] at hw
    by_cases hp : p (j, v) = true
    · simp only [List.filter_cons, hp, if_true, Tab.wf, Bool.and_eq_true]
      exact ⟨⟨above_filter d p t j hw.2 hw.1.1, hw.1.2⟩, ih hw.2⟩
    · simp only [List.filter_cons, hp]; exact ih hw.2

/-- A powered reset keeps the canonical form: only the history area stays. -/
theorem clearPowered_wf (s : State) (h : Memory.wf s.mem = true) : Memory.wf s.clearPowered.mem = true :=
  wf_filter _ _ s.mem h
theorem clearUnpowered_wf (s : State) : Memory.wf s.clearUnpowered.mem = true := rfl
theorem reset_wf : Memory.wf State.reset.mem = true := rfl

end Sys2Proof.Machine
end

