-- ==== Sys2Proof/Tests/Slice0.lean ====
section
/-! SUPPORT. Tests: ill-formed commands, worked examples of the manual, and for every statement of Obligations.lean a
witness that meets the hypotheses of each of its clauses. -/



namespace Sys2Proof.Tests

set_option linter.unusedVariables false
set_option Elab.async false

open Sys2Proof Sys2Proof.Machine

/-! ## Well-formedness: each check refuses something -/

theorem test_wf_register_instance : (Instr.registerWrite .sup ⟨.AC_SLOT, 64⟩ 0).wf = false := by decide
theorem test_wf_register_first : (Instr.rcRead ⟨.PN_DROP, 0⟩ 0).wf = false := by decide
theorem test_wf_w1c_instance : (Instr.w1cWrite ⟨.RST_EV_PEND, 8⟩ 1 0).wf = false := by decide
theorem test_wf_pair_lo : (Instr.pairLoRead ⟨.MT_PT_HI, 0⟩).wf = false := by decide
theorem test_wf_pair_lo_write : (Instr.pairLoWrite ⟨.LE_CTL, 0⟩ 0).wf = false := by decide
theorem test_wf_pair_hi_write : (Instr.pairHiWrite .sup ⟨.SN_CURSOR_HI, 2⟩ 0).wf = false := by decide
theorem test_wf_entry : (Instr.collectComplete 65536).wf = false := by decide
theorem test_wf_group : (Instr.fastSampleComplete 256 0).wf = false := by decide
theorem test_wf_loop : (Instr.loopAuto .app 16384).wf = false := by decide
theorem test_wf_task : (Instr.taskOverrun 64).wf = false := by decide
theorem test_wf_point : (Instr.forcePoint { sess := 0 } 262144 0).wf = false := by decide
theorem test_wf_message : (Instr.mbMessageWrite 0 .sender 250 [0, 0, 0, 0, 0, 0, 0]).wf = false := by decide
theorem test_wf_link_message : (Instr.mbLinkDeliver 0 []).wf = false := by decide
theorem test_wf_core_size : (Instr.coreAccess { cls := .usr, addr := 0, size := 17 }).wf = false := by decide
theorem test_wf_core_class : (Instr.coreAccess { cls := .debug, addr := 0, size := 4 }).wf = false := by decide
theorem test_wf_debug_size : (Instr.debugAccess { cls := .debug, addr := 0, size := 65 }).wf = false := by decide
theorem test_wf_write_bytes : (Instr.coreAccess { cls := .usr, addr := 0, size := 2, data := some [1] }).wf = false := by
  decide
theorem test_wf_can_dlc : (Instr.canFrameReceived 0 { dlc := 16 }).wf = false := by decide
theorem test_wf_block : (Instr.blockRecordReceived 0 (List.replicate 33 0)).wf = false := by decide
theorem test_wf_good : (Instr.registerWrite .app ⟨.PN_DROP, 2⟩ 0).wf = true := by decide

/-- The table gives no row any bits. -/
theorem test_no_word_spells : decodeTableWord 32 5 = none := rfl

/-! ## Worked examples and tables of the manual -/

/-- The state a command leaves, the state itself where it stops. -/
def after (o : Host.Outcome State Fault Refusal) (s : State) : State :=
  match o with
  | .next t => t
  | _ => s

/-- R376's example: a user-code load of 16 bytes from 0x00_01D3_FFF8. -/
theorem test_fault_record :
    let t := after (exec (.coreAccess { cls := .usr, pair := 1, addr := 0x1D3FFF8, size := 16 }) State.reset) State.reset
    t.reg .AC_FAULT 1 = 0x91401001 ∧ t.reg .AC_FAULT_ADDR_LO 1 = 0x01D3FFF8 := by decide +kernel

/-- R12's table: three cycles without a value, the third with a substitute. -/
theorem test_quality_bytes :
    let r := mkRec 0 1 1 7
    let a := lateRec {} r
    let b := lateRec {} a
    (recQ a, recAge a) = (0x02, 1) ∧ (recQ b, recAge b) = (0x02, 2) ∧
    (recQ (lateRec {} b), recAge (lateRec {} b)) = (0x06, 3) ∧ recQ (lateRec { subst := some 9 } b) = 0x0E ∧
    recVal (lateRec { subst := some 9 } b) = 9 ∧ recVal (lateRec {} b) = 7 := by decide +kernel

/-- The check value of CRC-32C over the bytes "123456789" (its published parameters). -/
theorem test_crc32c : crc32c [0x31, 0x32, 0x33, 0x34, 0x35, 0x36, 0x37, 0x38, 0x39] = 0xE3069283 := by decide +kernel

/-- R65: with RATE 2^30 limited to 274,877,907, 4 ms of FRC show 4 ms and 1,000 ns (250 ppm of it), rounded down. -/
theorem test_view_rate : ({ rate := 1073741824 } : View).at 4000000 = 4001000 := by decide +kernel

/-- R65: a negative rate rounds toward minus infinity. -/
theorem test_view_floor : ({ base := 100, rate := -1 } : View).at 1 = 100 := by decide +kernel

/-- R44: the SEQUENCE that follows 0xFFFFFFFF in its count is the newer one. -/
theorem test_sequence_wrap : seqNewer 1 0xFFFFFFFF = true ∧ seqNewer 0x80000001 1 = false := by decide

/-- R429: any other value than 0x5A39 is ignored. -/
theorem test_kick :
    let s := { State.reset with pw := { State.reset.pw with wdogRun := true }, mt := { State.reset.mt with frc := 88 } }
    (after (exec (.wdogKick 0x5A39) s) s).pw.kickFrc = 88 ∧ (after (exec (.wdogKick 0x5A38) s) s).pw.kickFrc = 0 := by
  decide +kernel

/-- R64: an idle step is one Meridian cycle. -/
theorem test_idle : step State.reset = .next State.reset.tick ∧ State.reset.tick.mt.frc = 4 := ⟨rfl, rfl⟩

/-- The front command takes effect and leaves the queue's rest. -/
theorem test_front :
    step { State.reset with pending := [.mtLatch, .acLock] } = exec .mtLatch { State.reset with pending := [.acLock] } :=
  rfl

/-- What a byte of memory that nothing has written reads; a byte written; a byte written back to what it read. -/
theorem test_memory :
    State.reset.byteGet 0x100000000 = 0 ∧
    ((State.reset.bytePut 0x100000000 7).bytePut 0x100000001 9).byteGet 0x100000000 = 7 ∧
    ((State.reset.bytePut 5 7).bytePut 5 0).mem = [] := by decide +kernel

/-- Words that meet the inner conditions of CommandRegisters: the orders of LK_CMD, LE_CMD, GY_CMD, BN_CMD and CN_OBJCMD. -/
theorem test_order_words :
    bits (0x20000007 : Word) 31 28 = 2 ∧ bits (0x20000007 : Word) 2 0 = 7 ∧
    bits (0x20003FFF : Word) 31 28 = 2 ∧ bits (0x20003FFF : Word) 13 0 = 16383 ∧
    bits (0x30003FFF : Word) 31 28 = 3 ∧ bits (0x40003FFF : Word) 31 28 = 4 ∧
    bits (0x50033FFF : Word) 31 28 = 5 ∧ bits (0x50033FFF : Word) 17 16 = 3 ∧ bits (0x50033FFF : Word) 13 0 = 16383 ∧
    bits (0x100000F0 : Word) 7 4 = 15 ∧ bits (0x2000000F : Word) 3 0 = 15 ∧
    bits (0x30000000 : Word) 31 28 ≠ 1 ∧ bits (0x30000000 : Word) 31 28 ≠ 2 ∧
    bits (0x2000037F : Word) 9 8 = 3 ∧ bits (0x2000037F : Word) 6 0 = 127 ∧ bits (0x3000037F : Word) 31 28 = 3 := by
  decide

/-! ## Witnesses of hypotheses

Small states: `State.reset`, which the arguments named `s` below are given, with what a clause asks for. -/

def wStart (s : State) (p : Nat) : State :=
  { ((s.setFld Fld.SUP_START_PHASE p).setFld Fld.SUP_START_REFUSAL 0).setFld Fld.BN_STATUS_ROLE 0 with pw := { s.pw with inReset := none } }
def wHdr : BitVec 1024 :=
  let h : BitVec 1024 := putBits (putBits (putBits 0 31 0 Config.magicKey.toNat) 39 32 1) 47 40 1
  putBits h 1023 992 (crcOf h 124).toNat
def wKey (s : State) : State :=
  let s := { s with key := { s.key with inSocket := true } }.setFlag Fld.PK_STATUS_PRESENT false
  ((s.keyPutRec Config.keyHeader wHdr).keyPutRec (Config.keySelect 0) (selNext 0 0)).keyPutRec (Config.keySelect 1) (0 : BitVec 512)
def wHead (kind : Nat) : BitVec 256 :=
  putBits (putBits (putBits 0 31 0 (if kind = 0 then Config.magicCfg else Config.magicFw).toNat) 47 40 (if kind = 0 then 2 else 1)) 39 32 1
def wFw (s : State) : State :=
  let s := { s with key := { s.key with units := [] } }
  let s := (s.setFld Fld.SUP_START_FW_BANK 0).keyPutRec (Config.keyFwBank 0) (wHead 1)
  (s.setFld Fld.PK_STATUS_SEL_COPY 0).keyPutRec (Config.keySelect 0) (0 : BitVec 512)
def wCfg (s : State) : State :=
  let s := { s with boot := { s.boot with baseRead := true }, key := { s.key with units := [] } }
  let s := (s.setFld Fld.SUP_START_CFG_BANK 0).keyPutRec (Config.keyCfgBank 0) (wHead 0)
  (s.setFld Fld.PK_STATUS_SEL_COPY 0).keyPutRec (Config.keySelect 0) (0 : BitVec 512)
def wNoBase (s : State) : State := { s with boot := { s.boot with baseRead := false } }
def wNoTrial (s : State) : State := (s.setFlag Fld.UP_STATUS_FW_TRIAL false).setFlag Fld.UP_STATUS_CFG_TRIAL false
def wBase : BaseMem := { readable := true, crcOk := true, parOk := true, strapKind := 1, kind := 1, fpA := 5 }
def wRun (s : State) (c : Bool) : State := { s with boot := { s.boot with fwRunning := true, committed := c } }
def wImage : PlantImage := { baseKind := 1 }
def wForImage (s : State) : State :=
  ({ s with base := wBase, boot := { s.boot with selfTested := true } }.setFld Fld.SUP_START_CFG_BANK 0).keyPutRec (Config.keyCfgBank 0) (0 : BitVec 256)
def wFour (s : State) : State :=
  let o : SyncOff := { off := 5, frc := s.mt.frc, lead := s.lead }
  let s := (s.setFld Fld.MT_PT_SRC_BASE 0).setFld Fld.MT_TB_CFG_SOURCE 1 0
  let s := ((s.setFlag Fld.MT_TB_CFG_SYNCED true).setFlag Fld.MT_TB_CFG_EN true).setFld Fld.MT_TB_CFG_PORT 1
  { s.setFlag Fld.PN_PORT_PDELAY_OK true 1 with mt := { s.mt with ptSet := false, hist := [o, o, o, o] } }
def wLate (s : State) : State :=
  { s with img := { s.img with acqLimit := 10 }, pw := { s.pw with pgFrc := s.mt.frc - 20000000000#64 }
           bn := { s.bn with hbLost := true }, mt := { s.mt with hist := [] } }
def wTime (s : State) (b : Bool) : State := { s with mt := { s.mt with ptSet := b } }.setFld Fld.RST_CAUSE_CAUSE 1
def wUnclaimed (s : State) : State :=
  let s := (s.setFlag Fld.BN_LOOP_CLAIM_A false).setFlag Fld.BN_LOOP_CLAIM_B false
  { s with base := wBase, bn := { s.bn with claimOut := false, failed := false }, pw := { s.pw with calderaClaim := false } }
def wRole (s : State) (r : Nat) : State :=
  { s with boot := { s.boot with committed := false, roleTaken := true, roleAt := s.pt - 2000000#64 } }.setFld Fld.BN_STATUS_ROLE r
def wNoRole (s : State) : State :=
  { s with boot := { s.boot with roleTaken := false } }.setFld Fld.BN_STATUS_ROLE 0
def wReread (s : State) (n : Nat) : State :=
  let s := { s with key := { s.key with inSocket := true } }
  let s := ((s.setFlag Fld.PK_STATUS_PRESENT false).setFlag Fld.PK_STATUS_HEADER_OK true).keyPut 8 0
  (s.setReg .PK_SERIAL_HI 0 0).setReg .PK_SERIAL_LO 0 (BitVec.ofNat 32 n)
def wSvc (s : State) (b : Bool) : State :=
  let x : Session := if b then { open_ := true, role := 3, basePort := true } else {}
  { wStart s 8 with
    boot := { s.boot with fwRunning := true, imgLoaded := false }
    pn := { s.pn with sess := if b then [(0, x), (1, x), (2, x), (3, x)] else [] } }
def wPort (s : State) (p : Nat) : State :=
  ((s.setFlag Fld.PN_PORT_FWD true p).setFlag Fld.PN_PORT_LINK true p).setFlag Fld.SUP_ISLAND_ALIVE true 4
def wFar (s : State) : State :=
  { wPort s 2 with img := { s.img with vlans := [{ service := true, pcp := 4 }] } }
def wQuiet (s : State) : State := { s with pn := { s.pn with heard := [(3, s.mt.frc - 60000000000#64)] } }
def wReader (s : State) : State := { s with pn := { s.pn with sess := [(0, { open_ := true, basePort := true })] } }
def wAddr (s : State) (a : Nat) : State :=
  { s with boot := { s.boot with imgLoaded := true }, img := { s.img with address := [a] } }
def wIcmp (s : State) (n : Nat) : State := { s with pn := { s.pn with icmpSec := s.mt.frc.toNat / 1000000000, icmpCnt := n } }
def wPoint (s : State) (p : Nat) : State := { s with img := { s.img with points := [(p, {})], loopDir := [] } }
def wTb (s : State) : State :=
  let s := (s.setFld Fld.MT_PT_SRC_BASE 0).setFld Fld.MT_STATE_STATE 3
  ((s.setFlag Fld.MT_TB_CFG_SYNCED true).setFlag Fld.MT_TB_CFG_EN true).setFld Fld.MT_TB_CFG_SOURCE 1
def wPresent (s : State) : State := (s.setFlag Fld.PK_STATUS_PRESENT true).setFlag Fld.PK_STATUS_SERIAL_OK true
def wLock (s : State) (b : Bool) : State := { s with pw := { s.pw with contactOpen := b } }
def wLocated (s : State) : State := { s with sn := { s.sn with located := true, queue := [] } }
def wWritable (s : State) : State := { s.setFlag Fld.PK_STATUS_WRITABLE true with pw := { s.pw with keyEnd := false } }
def wShow (s : State) (i : Nat) (b : Bool) : State :=
  { s with bn := { s.bn with inds := Tab.set Indication.unclaimed s.bn.inds i (if b then (if s.posB then .b else .a) else .unclaimed) } }
def wHart (s : State) (n : Nat) : State :=
  (((wShow s (8 + n / 8) true).setFld Fld.UC_CFG_HART 1 n).setFld Fld.UC_CFG_MODE 2 n).setFlag Fld.UC_HART_PASS_BUSY false n
def wPass (s : State) (n : Nat) : State := s.setUc n { s.uc n with pass := some (2, 4#32, [9#8]), hart := .none }
def wPair (s : State) : State := { s with base := { s.base with strapKind := 2 } }
def wMaint (s : State) : State :=
  { (wPair s).setFld Fld.BN_STATUS_ROLE 2 with bn := { s.bn with taking := false, claiming := 0 } }
def wMayDormant (s : State) : State :=
  (((wPair s).setFlag Fld.BN_STATUS_AUTH false).setFlag Fld.RST_POWER_DORMANT false).setFld Fld.BN_STATUS_ROLE 5
def wSub : SubCfg := { binary := 3, stream := 2, cls := 1, points := [4], len := 88, repl := false, coord := false }
def wSubs (s : State) (c : Bool) : State :=
  { s with
    img := { s.img with subs := [{ wSub with coord := c }] }
    pn := { s.pn with inbox := [(0, 1, 6)] }
    ln := { s.ln with subs := [], epochs := [] } }
def wPend (s : State) : State := s.setSubSt 0 { pend := some { validAt := 5#64, epoch := 2, recs := [9#64] } }
def wSubHdr (v : Instant) (n : Nat) : BitVec 256 :=
  putBits (putBits (putBits (putBits 0 255 192 v.toNat) 31 24 1) 17 16 1) 127 96 (n - 1)
def wLocked (s : State) (st : Nat) : State :=
  { s with mt := { s.mt with partner := none } }.setFld Fld.MT_STATE_STATE st |>.setFld Fld.MT_STATE_SOURCE 1
def wHoldE (s : State) (n : Nat) : State :=
  { wLocked s 3 with mt := { (wLocked s 3).mt with hold := { frc := s.mt.frc, e0 := n } } }
def wPartnerTime (s : State) : State :=
  { wPair s with
    bn := { s.bn with hbLost := false }
    mt := { s.mt with partner := some { off := 5, frc := s.mt.frc, lead := s.lead } } }.setFlag Fld.BN_STATUS_LINK0_UP true
def wGate (s : State) (g : BitVec 8) : State :=
  { s.setFlag Fld.PN_PORT_GATES true 2 with img := { s.img with gcl := [(1, {}), (2, { gates := g })] } }
def wBoth (s : State) : State :=
  { wPort (wPort s 1) 2 with pn := { s.pn with gates := [(1, 0x7F), (2, 0x7F)], arr := [], wait := [], busy := [], ctlSec := [] } }
def wWhole (s : State) : State :=
  { wLocked s 4 with mt := { (wLocked s 4).mt with pt := { base := 7999999990#64, frcBase := s.mt.frc }, ppsSec := some 7 } }
def wOldView (s : State) : State :=
  let v : View := { base := 5, frcBase := s.mt.frc - 4294967296#64, rate := 900 }
  { s with mt := { s.mt with pt := v, bt := v, tb := [(7, v)] } }
def wSync (s : State) : State :=
  let s := wTb (wPort (wPort s 1) 2)
  { s.setFld Fld.MT_TB_CFG_DOMAIN 0 with mt := { s.mt with bmca := [(0, { slave := 1 })], hist := [] } }
def wPd (s : State) (p : Nat) : State :=
  { s with mt := { s.mt with pdelay := [(p, { seq := 9, open_ := true })] } }
def wGrp (c : Nat) : BitVec 128 := putBits (putBits (putBits (putBits 0 15 8 2) 1 0 c) 95 64 300) 127 96 600
def wWord (a g n x : Nat) : W64 := putBits (putBits (putBits (putBits 0 63 60 a) 55 48 g) 47 32 n) 31 0 x
def wEntryG (s : State) (d : BitVec 128) (a g n x : Nat) : State :=
  let s := { s with
    img := { s.img with groups := [d], entries := [wWord a g n x] }
    mt := { s.mt with ptSet := true }
    ln := { s.ln with chans := [], resume := none, stopAt := none, starts := [], handed := [], ran := [], due := [], vis := [], sets := [], expect := [] } }
  ((s.setFlag Fld.LN_STATUS_FAST_RUN true).setFlag Fld.LN_STATUS_STD_RUN true).setFlag Fld.LN_STATUS_SLOW_RUN true
def wEntry (s : State) (a n x : Nat) : State :=
  let s := wEntryG s (wGrp 1) a 2 n x
  if a = 3 ∧ s.role ≠ 1 then { s with img := { s.img with groups := [wGrp 1] } } else s
def wAt (s : State) (u : Instant) : State := { s with mt := { s.mt with pt := { base := u, frcBase := s.mt.frc } } }
def wChan (s : State) (c : Nat) (q : List ChanMsg) : State := { s with ln := { s.ln with chans := [(c, q)] } }
def wNoStop (s : State) : State := { s with ln := { s.ln with resume := none, stopAt := none } }
def wLoop (s : State) (st : Nat) : State :=
  { s with
    le := { s.le with dir := [(0, 1)] }
    blk := [(2, (putBits 0 127 124 st : BitVec 256)), (3, Sec.toBlock { b0 := 0x3F800000#32 })] }
def wFast (s : State) (r : Nat) : State :=
  let s := (wAt (wLoop (wEntryG s (wGrp 0) 3 2 1 0) 0) 5000000#64).setFld Fld.BN_STATUS_ROLE r
  let s := { s with sx := { s.sx with collects := [] } }
  { s with ln := { s.ln with due := [(2, 0, 5000000#64)], sets := [(2, 5050000#64, []), (3, 5050000#64, [])] } }
def wTask (s : State) (x : Task) : State := s.setTask 7 x
def wCommit (s : State) (k n : Nat) : State :=
  let s := { (s.setSlice k { s.slice k with loaded := true }) with pi := [(4, mkRec 0 1 1 5)], forces := [], img := { s.img with uc := [{ ch := 15, cmd := 4 }] } }
  let s := { s with ln := { s.ln with vis := [], chans := [] } }
  ((s.setFlag Fld.SUP_ISLAND_ALIVE true (8 + k)).setFld Fld.UC_CFG_MODE 7 n).setFlag Fld.UC_CFG_OUTKIND false n
def wPub (s : State) : State :=
  { wPort s 1 with
    img := { s.img with pubs := [{ port := 1, points := [3] }], gcl := [] }
    bn := { s.bn with storePend := false }
    pn := { s.pn with gates := [(1, 0x40)] } }
def wJob (s : State) (j : Job) : State := s.setRun 0 { s.run 0 with job := some j }
def wLane (s : State) (k : Nat) : State :=
  let s := (s.setFld Fld.LE_CTL_LANE_EN 0xFF).setLane k [1]
  { s with le := { s.le with ready := [5, 0] } }
def wShell (s : State) (k : Nat) : State :=
  (s.setSlice k { s.slice k with loaded := true }).setFlag Fld.SUP_ISLAND_ALIVE true (8 + k)
def wDc (s : State) (m md : Nat) : State :=
  (((s.setFld Fld.DC_CFG_MODE md m).setFlag Fld.DC_STAT_IN_SERVICE true m))
def wUc (s : State) (n md : Nat) : State :=
  ((s.setFld Fld.UC_CFG_MODE md n).setFld Fld.UC_CFG_FILT 0 n).setFlag Fld.UC_STAT_IN_SERVICE true n
def wNoLim (s : State) (n : Nat) : State := s.setUc n { s.uc n with limAt := none, vOff := false }
def wClean (s : State) (k : Nat) : State := s.setSlice k { s.slice k with loaded := true, spoiled := none, gap := none }
def wForeign (s : State) : State :=
  let f := s.mt.frc
  let s := ((wDc s 8 3).setFld Fld.DC_STAT_LIVE 0 8).setFlag Fld.DC_STAT_STAGE_ON false 8
  let s := { s with bn := { s.bn with inds := Tab.set Indication.unclaimed s.bn.inds 13 (if s.posB then .b else .a) } }
  (s.setDc 8 { upAt := some (f + 100000#64), downAt := some (f + 7#64) }).setDc 47 { onAt := some f, offAt := some f }
def wNoLive (s : State) (n : Nat) : State := s.setFld Fld.UC_STAT_LIVE 0 n
def wRoom (s : State) : State := { s with pw := { s.pw with inReset := none }, sn := { s.sn with raised := [] } }
def wNext (s : State) (k : Nat) : State :=
  (s.setSlice k { s.slice k with loaded := true, next := 7 }).setFlag Fld.SUP_ISLAND_ALIVE true (8 + k)
def wCount (s : State) (m : Nat) : State :=
  { (s.setFld Fld.DC_CFG_EDGE 0 m).setDc m { s.dc m with state := false } with boot := { s.boot with committed := true } }
def wRetry (s : State) (m : Nat) : State :=
  (((s.setDc m { s.dc m with ovl := true, cmd := some true }).setFld Fld.DC_GROUP_STATE 0 (m / 8))).setFlag Fld.DC_GROUP_REAPPLY false (m / 8)
def wTurn (s : State) (m : Nat) : State :=
  let s := (wShow s (12 + m / 8) true).setDc m { cmd := some true }
  let s := (s.setSlice (4 + m / 8) {}).setFld Fld.DC_GROUP_STATE 0 (m / 8)
  ((s.setFlag Fld.DC_GROUP_REAPPLY true (m / 8)).setFlag Fld.DC_STAT_QUEUED true m).setFlag Fld.DC_STAT_STAGE_ON false m
def wAdapt : AdaptCfg :=
  { loop := 0, ident := true, kp0 := 0x3F800000#32, ti0 := 0x3F800000#32, td0 := 0, rLo := 0, rHi := 0x50000000#32, stepMax := 0x50000000#32 }
def wCalm (s : State) : State :=
  let s := wLoop s 0
  let s := { s with
    img := { s.img with adapt := [wAdapt], surge := [] }
    pi := [(0, mkRec 0 1 1 0)]
    la := { s.la with slots := [], recs := [(0, { hist := List.replicate 100 (0#32, true, true) })] }
    le := { s.le with runs := [] } }
  (s.setFld Fld.BN_STATUS_ROLE 1).setFlag Fld.LA_STATUS_EN true
def wSlot (s : State) (k : Nat) : State :=
  { s with la := { s.la with slots := [(k, { busy := true, loop := 0 })] } }
def wNoSlots (s : State) : State := { s with la := { s.la with slots := [] } }
def wModel : TestModel := .pulse 0x3F800000#32 0x3F800000#32
def wNoLoops (s : State) : State := { s with le := { s.le with dir := [] } }
def wSlotDone (s : State) (k : Nat) : State :=
  { s with la := { s.la with slots := [(k, { busy := true, loop := 0, cycle := 1000000000000000000 })] } }
def wRatio (s : State) : State := s.setAdapt 0 { s.adaptRec 0 with refIae := 0x3F800000#32, probIae := 0x50000000#32 }
def wMay (s : State) (b : Bool) : State := { s with img := { s.img with adapt := [{ wAdapt with install := b }] } }
def wStaged (s : State) (n : Nat) : State := s.setAdapt 0 { staged := some (n, 5#32, 6#32, 7#32) }
def wPhase (s : State) (p : Nat) : State := s.setAdapt 0 { s.adaptRec 0 with phase := p, probEnd := s.pt, lockEnd := s.pt, refIae := 0, probIae := 0, cross := [] }
def wSurge : SurgeCfg := { g := 31, qCh := 1, dpCh := 2, line := [(0, 0x3F800000#32)], members := [] }
def wSurgeOn (s : State) (k : Nat) : State :=
  let f : F32 := if k = 0 then 0x3F800000#32 else 0x40000000#32
  let s := { s with
    img := { s.img with surge := [wSurge] }
    la := { s.la with
      feed := [(1, { mn := f, mx := f, bad := k == 2 }), (2, { mn := 0, mx := 0, bad := false })]
      surge := [(31, { invalid := 9, relAt := if k = 3 then some (s.pt - 10000000000#64) else none })] } }
  ((s.setFld Fld.BN_STATUS_ROLE 1).setFlag Fld.LA_STATUS_EN true).setFld Fld.LA_SURGE_STATE (if k = 1 then 1 else 0) 31
def wGyCh (s : State) (g : GyChCfg) : State :=
  let s := { s with
    img := { s.img with gyCh := [g], gyCond := [] }
    boot := { s.boot with committed := true }
    pw := { s.pw with inReset := none } }
  ((s.setFlag Fld.GY_CH_EN true g.ch.val).setFlag Fld.RST_POWER_DORMANT false).setFlag Fld.SUP_ISLAND_ALIVE true 8
def wGyCond (s : State) (k : List CondCfg) : State := { s with img := { s.img with gyCond := k } }
def wGyLevel (s : State) (l : Nat) : State := s.setFld Fld.GY_STATUS_LEVEL l
def wGyChan (s : State) (c : Nat) (x : GyChan) : State := s.setGy1 c x
def wGyFresh (s : State) : State := s.setGy1 5 {}
def wGyAlone (s : State) : State := { s with img := { s.img with gySet := [{ k := 0, num := 0, chans := [5] }] }, gy := { s.gy with wins := [] } }
def wGyStill (s : State) (n : Nat) : State := { s with gy := { s.gy with moved := some (s.pt - BitVec.ofNat 64 n) } }
def wGyFull (s : State) : State :=
  ((wGyLevel s 12).setFld Fld.GY_STATUS_STAGE_FILL 100).setGy1 5 {}
def wGyRoom (s : State) : State :=
  let s := { s with
    gy := { s.gy with arch := [], wins := [], stage := [], high := none, notLow := none }
    img := { s.img with gyArchive := 268435456 } }
  s.setFld Fld.GY_STATUS_ARCH_FILL 0
def wGyArch (s : State) (bs : List (Nat × GyBlk × Bool)) : State :=
  { s with gy := { s.gy with arch := bs, stage := [], wins := [] }, img := { s.img with gyCh := [{ ch := 5 }] } }
def wGyNoSlot (s : State) : State :=
  (List.range 16).foldl (fun s i => s.setFlag Fld.GY_CAP_VALID true i) s
def wSet (s : State) : GySetCfg := { k := 15, num := 200, master := s.base.binary }
def wGySet (s : State) (k : GySetCfg) (st : Nat) : State :=
  let s := { s with
    img := { s.img with gySet := [k], gyPat := [{ u := 7, setK := 15, qual := 5 }] }
    gy := { s.gy with wins := [], sets := [], pats := [] } }
  let s := s.setReg .GY_CAP 0 0
  (s.setGyState k.k.val st).setFld Fld.BN_STATUS_ROLE 1
def wGyWin (s : State) (i : Nat) : State :=
  ((s.setGyWin i { k := 15, t := s.pt }).setGyRun 15 { slot := some i }).setFlag Fld.GY_CAP_VALID true i
def wSxCar (s : State) : State :=
  { s with img := { s.img with sxCar := [{ i := 33, identity := 9, slices := 1, inPts := [0x3FFFFF, 5] }] } }
def wSxPort (s : State) (p : Nat) : State := (s.setFlag Fld.SX_PORT_EN true p).setFlag Fld.SUP_ISLAND_ALIVE true 6
def wSxFrame (s : State) (t : Nat) : SxFrame :=
  { hdr := putBits (putBit (putBits (0 : BitVec 192) 58 46 s.base.binary) 45 s.posB) 31 28 t }
def wSxOther (s : State) (t : Nat) : SxFrame :=
  { hdr := putBits (putBit (putBits (0 : BitVec 192) 58 46 s.base.binary) 45 (!s.posB)) 31 28 t, payload := [0, 9] }
def wSlotHdr : W64 := putBits (putBits (putBits 0 63 59 1) 43 40 2) 31 0 7
def wSxEntry (s : State) (a : Nat) : State :=
  let s := wSxCar (wEntryG s (wGrp 1) a 2 1 33)
  s.setFld Fld.BN_STATUS_ROLE 1
def wTimed (s : State) (p : Nat) : State := s.setSxP p { s.sxP p with timed := some s.sxCycle }
def wSxFastGrp (s : State) : State := { s with img := { s.img with groups := [wGrp 0] } }
def wSxGo (s : State) : State :=
  let s := { s with bn := { s.bn with storePend := false } }
  let s := wSxPort (wShow s 6 true) 1
  (s.setFld Fld.BN_STATUS_ROLE 1).setFld Fld.SUP_START_PHASE 8
def wSxOnly (s : State) (p : Nat) : State :=
  (List.range 8).foldl (fun s q => s.setFlag Fld.SX_PORT_EN (q == p) q) s
def wFreshHdr : W64 := putBits (putBits (putBit (putBits 0 63 59 1) 45 true) 43 40 1) 52 46 1
def wFresh (s : State) : State :=
  let s := wAt (wSxPort (wSxEntry s 2) 1) 0
  let s := { s with
    img := { s.img with entries := [s.entry 0], groups := [wGrp 1] }
    sx := { s.sx with collects := [] } }
  s.setCollect 0 { active := true, left := [2112, 2113] }
def wCan (s : State) (p : Nat) : State :=
  let s := (s.setFlag Fld.CN_CFG_EN true p).setFlag Fld.SUP_ISLAND_ALIVE true 7
  ((s.setReg .CN_STAT p 0).setFlag Fld.RST_POWER_DORMANT false).setFlag Fld.CN_STAT_TX_EN true p
def wObjHdr (id : Nat) (send fd : Bool) : BitVec 128 :=
  putBit (putBit (putBit (putBits 0 28 0 id) 34 true) 43 send) 41 fd
def wCanObj (s : State) (p o : Nat) (h : BitVec 128) : State :=
  { s with cn := { s.cn with objs := [] } }.setCanObj p o { hdr := h, data := 5 }
def wCanOld (s : State) : State := s.setCanObj 3 127 { s.canObj 3 127 with old := [(1, 7)] }
def wCanSend (s : State) (d : Nat) : State :=
  { s with cn := { s.cn with win0 := CanObj.put { data := 7 } 47 44 d, win1 := CanObj.put { data := 9 } 47 44 d } }
def wPosB (s : State) : State := { s with base := { s.base with strapKind := 2, posB := true } }
def wPosA (s : State) : State := { s with base := { s.base with strapKind := 2, posB := false } }
def wClaiming (s : State) (k r : Nat) : State :=
  let s := { s with
    bn := { s.bn with claimOut := true, failed := false, claiming := k }
    boot := { s.boot with committed := false } }
  let s := (s.setFlag Fld.BN_LOOP_CLAIM_A (!s.posB)).setFlag Fld.BN_LOOP_CLAIM_B s.posB
  (s.setFld Fld.BN_STATUS_ROLE r).setFlag Fld.BN_STATUS_AUTH false
def wStandby (s : State) (r : Nat) : State :=
  let s := wPosA s
  let s := (s.setReg .BN_LOOP 0 0).setReg .BN_STATUS 0 0
  let s := (s.setFlag Fld.BN_STATUS_READY true).setFld Fld.BN_STATUS_ROLE r
  { s with bn := { s.bn with claimOut := false, hoClaim := false, hbRelease := false, hbLost := true, ho := none, taking := false, claiming := 0 } }
def wBeat (s : State) (a b r : Bool) : State :=
  let s := wPosA s
  let s := { s with bn := { s.bn with hbRun := true, releasing := r, slots := [] } }
  ((s.setFlag Fld.BN_STATUS_LINK0_UP a).setFlag Fld.BN_STATUS_LINK1_UP b).setFlag Fld.BN_STATUS_MODE false
def wBeatMsg (s : State) (r : Nat) : BitVec 256 := putBits (putBits (putBit 0 79 true) 159 156 r) 95 80 s.base.binary
def wArb (s : State) (g : Bool) : State :=
  let s := (s.setFlag Fld.BN_STATUS_MODE true).setFlag Fld.BN_STATUS_ARB_FAIL false
  { s with bn := { s.bn with hbGrant := g && s.role == 1, hbLost := false } }
def wHo (s : State) : State :=
  let s := (wStandby s 1).setFlag Fld.BN_STATUS_PARTNER_READY true
  let s := s.setReg .BN_HEALTH 1 0x20000000
  let h := floorTo (s.bt.plus 3000000) 1000000
  let s := (s.setReg .BN_HO_AT_HI 0 (BitVec.ofNat 32 (h.toNat / 4294967296))).setReg .BN_HO_AT_LO 0 (BitVec.ofNat 32 h.toNat)
  s.setReg .UP_STATUS 0 0
def wHand (s : State) (m : Nat) : Handover := { h := floorTo (s.bt.plus 3000000) 1000000, moves := m, after := .join }
def wNow (s : State) (m : Nat) : Handover := { h := s.bt, moves := m, after := .join }
def wSilent (s : State) : State := { s with bn := { s.bn with hbSeen := false } }
def wHoSet (s : State) (x : Handover) : State :=
  { s with bn := { s.bn with ho := some x, xfer := none, frozen := some (x.h - 1000000#64), hbRole := 2 } }
def wSameImage (s : State) : State := { s with bn := { s.bn with hbTag := s.ownTag, partnerFw := none } }
def wYield (s : State) : State :=
  let s := ((s.setFlag Fld.PN_PORT_LINK false 1).setFlag Fld.PN_PORT_LINK false 2).setReg .BN_HEALTH 1 0x200C0000
  { s with bn := { s.bn with lastYield := none }, img := { s.img with yieldOff := 0 } }
def wYieldAt (s : State) (n : Nat) : State := { s with bn := { s.bn with yieldAt := [(0, some (s.bt - BitVec.ofNat 64 n))] } }
def wJoin (s : State) (e : Int) (n : Nat) : State :=
  let s := wStandby s 0
  { s with
    bn := { s.bn with joining := true, committed := some s.bt, btOff := some e, sweep := n }
    pw := { s.pw with removeClosed := true } }
def wEq (s : State) : State :=
  let s := (wStandby s 1).setFlag Fld.BN_STATUS_LINK0_UP true
  { s with bn := { s.bn with hbSeen := true, hbTag := s.ownTag, hbRole := 2, xfer := none, dirty := [], allDirty := false, slots := [], partnerFw := none } }
def wXfer (s : State) (x : Xfer) : State := { s with bn := { s.bn with xfer := some x } }
def wNoJournal (s : State) : State := { s with bn := { s.bn with journal := [], failed := false } }
def wOther (s : State) (j : List BlockRec) : State :=
  { s with bn := { s.bn with journal := j, failed := false, hbSeen := true, hbTag := s.ownTag + 1, partnerFw := none }, img := { s.img with maps := [] } }
def wPassed (s : State) (n : Nat) : State :=
  let s := { s with mt := { s.mt with bt := { base := 50000000, frcBase := s.mt.frc } } }
  { s with bn := { s.bn with committed := some (s.bt - BitVec.ofNat 64 (1000000 * n)) } }
def wReadMap (s : State) (l : List Nat) : State :=
  { s with bn := { s.bn with divAt := [] }, img := { s.img with readMap := l, fastBlocks := [] } }
def wDiv (s : State) : State := { s with bn := { s.bn with divAt := [s.bt, s.bt, s.bt], failed := false } }
def wLk (s : State) (i m : Nat) (p : LkPair) : State :=
  ((s.setPairOf i p).setLkMode i m).setFlag Fld.LK_PAIR_SINGLE false i
def wLive (s : State) : State :=
  { s with boot := { s.boot with committed := true }, bn := { s.bn with failed := false } }
def wSplit (s : State) (i m : Nat) : State :=
  let s := (s.setFlag Fld.LK_CMD_RESULT_BUSY false 0).setFlag Fld.LK_CMD_RESULT_BUSY false 1
  (s.setFlag Fld.LK_PAIR_SPLITTABLE true i).setLkMode i m
def wNoFault (s : State) (k : Nat) : State := (s.setReg .AC_FAULT k 0).setTask 7 {}
def wHeard (s : State) (b : Bool) : State :=
  let s := (wPosA s).setFlag Fld.BN_STATUS_LINK1_UP true
  { s with bn := { s.bn with hbSeen := b, hbLost := false } }
def wSumReq (s : State) (f n : Nat) : State :=
  let m : BitVec 2048 := putBits (putBits 0 15 0 f) 31 16 n
  { s.setFld Fld.MB_STAT_STATE 1 0 with
    boot := { s.boot with fwRunning := true }
    mb := { s.mb with msgs := Tab.set 0 s.mb.msgs 0 m } }
def wAdmit (s : State) (c : BitVec 16) (short : Bool) : State :=
  { s with
    img := { s.img with rates := [], anchorPeriod := 100000000 }
    sn := { s.sn with
      located := true, raised := [{ island := 255, code := c, payload := .laid 0 }], queue := [], supp := [], spill := none
      recent := [], anchorFrc := none
      buckets := if short then [(c.toNat, (256000000000, s.mt.frc.toNat))] else [] } }
def wFullQueue (s : State) : State := { s with sn := { s.sn with queue := List.replicate 2048 0 } }
def wCommitRec (s : State) (r : BitVec 512) : State :=
  let s := wWritable (wPresent s)
  { s with sn := { s.sn with located := true, queue := [r], supp := [], spill := none } }
def wLoss (s : State) : State := { s with sn := { s.sn with refused := false, lossFault := 1 } }
def wSupp (s : State) (n : Nat) : State := { s with sn := { s.sn with supp := [{ code := 0xB001, count := n }] } }
def wSearch (s : State) : State :=
  { wStart (wPresent s) 2 with
    img := { s.img with rates := [], anchorPeriod := 100000000 }
    key := { s.key with units := [] }
    pw := { s.pw with inReset := none, lkfPending := false }
    sn := { s.sn with located := false, queue := [], recent := [], buckets := [] } }
def wNoNewest (s : State) : State :=
  let s := (s.setReg .SN_NEWEST_HI 0 0).setReg .SN_NEWEST_LO 0 0
  { wPresent s with sn := { s.sn with located := true } }
def wUp (s : State) : State :=
  let s := wRoom (wWritable (wPresent (wSvc s true)))
  let s := { s with
    base := { s.base with strapKind := 1 }
    key := { s.key with units := [] }
    up := {}
    pw := { s.pw with contactOpen := true, h0 := none, inserted := true }
    sn := { s.sn with located := false }
    bn := { s.bn with ho := none } }
  ((((s.setReg .UP_STATUS 0 0).setReg .RST_POWER 0 0xC8000000).setFld Fld.PK_STATUS_SEL_COPY 0).setFlag Fld.RST_CAUSE_MULTI false).setFld
    Fld.BN_STATUS_ROLE 1
def wUpMsg (k : Fin 4) : SvcMsg := { sess := k, len := 16 }
def wProg (s : State) (k st total tag : Nat) : State :=
  let r : BitVec 256 := putBits (putBits (putBits (putBits 0 31 0 Config.magicProgress.toNat) 191 184 st) 143 128 total) 255 192 tag
  let r := putBits r 71 64 (s.targetBank k)
  s.keyPutRec (Config.keyProgress k) r
def wBlkHdr (kind total b tag : Nat) : BitVec 512 :=
  let h : BitVec 512 := putBits (putBits (putBits 0 351 344 kind) 383 352 8) 399 384 total
  let h := putBits (putBits h 415 400 b) 511 448 tag
  putBits h 447 416 (crc32c (bytesOf (7 : W64) 8)).toNat
def wPairUp (s : State) : State :=
  let s := wPosA (wUp s)
  let s := ((s.setFld Fld.BN_STATUS_ROLE 1).setFlag Fld.BN_STATUS_PARTNER_READY true).setReg .BN_HEALTH 1 0x20000000
  { s with bn := { s.bn with hbLost := false, hbSeen := true, hbTag := s.ownTag, ho := none, taking := false } }
def wCalmPoint (s : State) : State :=
  { s with
    img := { s.img with transition := some (3, []), points := [(3, { kind := 1 })], loopDir := [] }
    pi := [(3, mkRec 0 1 1 5)], forces := [] }
def wVerify (s : State) : State :=
  let s := wUp s
  let s := { s with base := { s.base with binary := 5 }, up := { verifying := 1 } }
  let s := wProg s 0 3 768 0
  let h : BitVec 2048 := putBits (putBits (putBits (putBits 0 31 0 Config.magicCfg.toNat) 47 40 2) 39 32 1) 223 208 5
  s.keyPutRec (Config.keyCfgBank 1) h
def wActivate (s : State) : State :=
  let s := wProg (wCalmPoint (wUp s)) 0 4 768 9
  let s := { s with img := { s.img with interrupt := true }, boot := { s.boot with imgLoaded := true } }
  (s.keyPutRec (Config.keySelect 0) (selNext 0 0)).setReg .PK_SEQ 0 1
def wTrial (s : State) : State :=
  let r : BitVec 512 := putBit (0 : BitVec 512) 74 true
  let s := wUp s
  ((wProg s 0 5 768 9).keyPutRec (Config.keySelect 0) (selNext 0 r)).setFlag Fld.UP_STATUS_CFG_TRIAL true
def wRollable (s : State) : State :=
  let s := wProg (wCalmPoint (wPairUp s)) 0 4 768 9
  { s with up := { hasMap := true } }
def wRoll (s : State) (n : Nat) (r : Roll) : State :=
  { wRollable s with up := { roll := some r } }.setFld Fld.UP_STATUS_STEP n
def wOtherTag (s : State) (r : Nat) : State :=
  let s := wPosA s
  let s := (s.setFld Fld.BN_STATUS_ROLE r).setReg .BN_HEALTH 1 0
  { s with bn := { s.bn with hbLost := false, hbSeen := true, hbTag := s.ownTag + 1 } }
def wPowered (s : State) : State :=
  { (s.setFlag Fld.RST_POWER_FEED_A true).setFlag Fld.RST_POWER_FEED_B true with pw := { s.pw with inReset := none } }
def wUnpowered (s : State) : State :=
  { s.setReg .RST_POWER 0 0 with pw := { s.pw with inReset := none, h0 := none, boLatch := false, inserted := true } }
def wPartnerStands (s : State) : State :=
  let s := (wPosA s).setFlag Fld.BN_STATUS_PARTNER_READY true
  let s := (s.setReg .BN_HEALTH 1 0x20000000).setFld Fld.BN_STATUS_PARTNER_ROLE 2
  { s with bn := { s.bn with claimOut := true, hbLost := false, hbSeen := true, hbRole := 2 }, pw := { s.pw with calderaClaim := false } }
def wHeld (s : State) : State :=
  { s.setReg .RST_POWER 0 0 with pw := { s.pw with inReset := none, h0 := some (s.mt.frc - 18000000#64), feedFrc := s.mt.frc - 10000000#64, released := false } }
def wHold (s : State) (n k : Nat) : State :=
  let s := (s.setFld Fld.UC_CFG_MODE 7 n).setUc n { s.uc n with safe := k }
  { s with pw := { s.pw with calderaHold := true, holdEnd := s.mt.frc } }
def wRetain (s : State) (l : List (Nat × W64)) : State :=
  let s := wWritable (wPresent s)
  { s with pw := { s.pw with retained := l }, la := { s.la with unsaved := [] }, sn := { s.sn with queue := [] } }
def wRemove (s : State) (r : Nat) : State :=
  { s.setFld Fld.BN_STATUS_ROLE r with pw := { s.pw with removeClosed := true } }.setFlag Fld.BN_STATUS_REMOVE_REFUSED false
def wLowRole (s : State) (r : Nat) : State :=
  let x : Session := { open_ := true, role := r }
  { wSvc s true with pn := { s.pn with sess := [(0, x), (1, x), (2, x), (3, x)] } }
theorem word_ne_succ (x : Word) : x ≠ x + 1#32 := by bv_omega
def wHist (s : State) : State := s.setDc 47 { s.dc 47 with hist := [(5, 7, true)] }
def wFastLate (s : State) : State :=
  let s := wNoLoops (wAt (s.setFld Fld.BN_STATUS_ROLE 2) 5045000)
  { s with bn := { s.bn with fastBad := [], fastGot := [], fastNext := none } }
def wFastMiss (s : State) : State :=
  let s := wAt (s.setFld Fld.BN_STATUS_ROLE 3) 5000000
  { s with
    img := { s.img with loopDir := [(0, 1)] }
    blk := []
    bn := { s.bn with fastBad := [], fastGot := [], fastNext := some 97 } }
def wFwRun (s : State) : State := { s with boot := { s.boot with fwRunning := true } }
def wLinked (s : State) : State :=
  let s := ((wPosA (wUp s)).setFld Fld.BN_STATUS_ROLE 2).setFlag Fld.BN_STATUS_LINK0_UP true
  { s with bn := { s.bn with hbSeen := true, hbLost := false, hbTag := s.ownTag, partnerFw := none } }
def wLinkedTrial (s : State) : State :=
  let s := ((wPosA (wTrial s)).setFld Fld.BN_STATUS_ROLE 2).setFlag Fld.BN_STATUS_LINK0_UP true
  { s with bn := { s.bn with hbSeen := true, hbLost := false, hbTag := s.ownTag, partnerFw := none } }
def wRan (s : State) : State := { s with up := { s.up with runAt := none, runNs := 1800000000000 } }
def wKicked (s : State) (n : Nat) : State := { s with pw := { s.pw with wdogRun := true, kickFrc := s.mt.frc - BitVec.ofNat 64 n } }
def wOneRec (s : State) : State :=
  let s := (wPresent s).keyPutRec (slotAddr 5) (sinterRec 5 1 1 0)
  let s := (((s.setReg .SN_NEWEST_HI 0 0).setReg .SN_NEWEST_LO 0 5).setReg .SN_OLDEST_HI 0 0).setReg .SN_OLDEST_LO 0 5
  { s with sn := { s.sn with located := true }, holdLo := [] }
def wCursor (s : State) (w c : Nat) : State :=
  ((s.setReg .SN_CURSOR_HI w 0).setReg .SN_CURSOR_LO w (BitVec.ofNat 32 c)).setFld Fld.SN_WSTAT_LOADED 0 w

theorem test_hyps_StepTakesFront :
    ∃ (s : State),
      s.pending = [] :=
  ⟨(State.reset), by decide +kernel⟩

theorem test_hyps_QueueKept :
    ∃ (c : Instr) (cs : List Instr) (s t : State), step { s with pending := c :: cs } = .next t :=
  ⟨.mtLatch, [.acLock], State.reset, _, rfl⟩

theorem test_hyps_FirstInFirstOut :
    ∃ (cs ds : List Instr) (s t : State),
      Host.Core.run Sys2Proof.core cs.length { s with pending := cs ++ ds } = .next t :=
  ⟨[.mtLatch, .acLock], [.acLock], State.reset, _, rfl⟩

theorem test_hyps_MemoryKeepsForm : ∃ s t : State, Memory.wf s.mem = true ∧ step s = .next t :=
  ⟨State.reset, _, rfl, rfl⟩

theorem test_hyps_SealedStays : ∃ s t : State, s.pw.fuseSealed = true ∧ step s = .next t :=
  ⟨{ State.reset with pw := { State.reset.pw with fuseSealed := true } }, _, rfl, rfl⟩

theorem test_hyps_SlotTableHardwired : ∃ s t : State, s.slotsOk ∧ step s = .next t := by
  refine ⟨State.reset, _, ?_, rfl⟩
  intro n
  simp only [State.reset, State.reg, Tab.get, RegName.reset]
  unfold slotWordOk
  by_cases h : 1 ≤ n ∧ n ≤ 4
  · have : ¬ 39 ≤ n := by omega
    simp [h, this, bitAt, bits]
  · have : (decide (1 ≤ n) && decide (n ≤ 4)) = false := by simpa using h
    simp [h, this, bitAt]

theorem test_hyps_RegisterWrites :
    (∃ (w : Writer) (r : Reg) (v : Word) (s : State),
      r.wf = true ∧ (w = .app → supOnly r.name = false) ∧
      r.name ∉ [.RST_CTL, .RST_WDOG, .RST_EV_ROUTE, .AC_CTL, .AC_SLOT, .MB_DOOR, .MB_ACK, .LK_CMD, .MT_CTL, .LE_CMD, .GY_CMD, .MT_TB_CFG, .BN_CMD, .CN_CTL, .CN_OBJCMD, .SN_CURSOR_LO, .SN_CURSOR_HI, .BN_HO_AT_LO, .BN_HO_AT_HI]) ∧
    (∃ (r : Reg) (v : Word) (s : State),
      r.wf = true ∧ supOnly r.name = true) ∧
    (∃ (r : Reg) (v : Word) (setNow : Word) (s : State),
      r.wf = true) ∧
    (∃ (w : Writer) (r : Reg) (v : Word) (u : Word) (s : State),
      r.wf = false) ∧
    (∃ (w : Writer) (n : Fin 8) (v : Word) (s : State),
      bits (s.reg .MT_TB_CFG n) 31 22 ≠ bits v 31 22) ∧
    (∃ (w : Writer) (n : Fin 8) (v : Word) (s : State),
      bits (s.reg .MT_TB_CFG n) 31 22 = bits v 31 22) :=
  ⟨⟨.app, ⟨.LE_CTL, 0⟩, 5#32, (State.reset), by decide +kernel⟩,
  ⟨⟨.RST_CTL, 0⟩, 5#32, (State.reset), by decide +kernel⟩,
  ⟨⟨.RST_EV_PEND, 7⟩, 5#32, 5#32, (State.reset), by decide +kernel⟩,
  ⟨.sup, ⟨.RST_CTL, 1⟩, 5#32, 5#32, (State.reset), by decide +kernel⟩,
  ⟨.sup, 7, 0x80400008#32, (State.reset), by decide +kernel⟩,
  ⟨.app, 0, 8#32, (State.reset), by decide +kernel⟩⟩

theorem test_hyps_RegisterReads :
    (∃ (r : Reg) (setNow : Word) (s : State),
      r.wf = true ∧ r.name.rcMask ≠ 0 ∧ r.name ≠ .PN_SSTAT ∧ r.name ≠ .MB_ACK) ∧
    (∃ (w : Nat) (setNow : Word) (s : State),
      w < 2) ∧
    (∃ (i : Nat) (s : State),
      Reg.wf ⟨.MB_ACK, i⟩ = true) ∧
    (∃ (r : Reg) (s : State),
      r.wf = true ∧ r.name.isLo = true) ∧
    (∃ (v : Word) (s : State) (w : Nat),
      w < 2) ∧
    (∃ (r : Reg) (v : Word) (s : State),
      r.wf = true ∧ pairRw r.name = false) ∧
    (∃ (w : Writer) (v : Word) (s : State) (i : Nat),
      i < 2) ∧
    (∃ (w : Writer) (r : Reg) (v : Word) (s : State),
      r.wf = true ∧ r.name ≠ .SN_CURSOR_HI ∧ r.name ≠ .BN_HO_AT_HI) :=
  ⟨⟨⟨.CN_ERR, 3⟩, 5#32, (State.reset), by decide +kernel⟩,
  ⟨1, 5#32, (State.reset), by decide +kernel⟩,
  ⟨31, (State.reset), by decide +kernel⟩,
  ⟨⟨.MT_FRC_LO, 0⟩, (State.reset), by decide +kernel⟩,
  ⟨5#32, (State.reset), 1, by decide +kernel⟩,
  ⟨⟨.MT_FRC_LO, 0⟩, 5#32, (State.reset), by decide +kernel⟩,
  ⟨.app, 5#32, (State.reset), 1, by decide +kernel⟩,
  ⟨.app, ⟨.MT_FRC_HI, 0⟩, 5#32, (State.reset), by decide +kernel⟩⟩

theorem test_hyps_CommandRegisters :
    (∃ (v : Word) (s : State),
      bitAt v 0 = true) ∧
    (∃ (n : Fin 32) (v : Word) (s : State),
      n.val < 8 ∧ bitAt v 31 = true ∧ bitAt v 30 = false) ∧
    (∃ (n : Fin 32) (v : Word) (s : State),
      n.val < 8 ∧ bitAt v 31 = false ∧ bitAt v 30 = true) ∧
    (∃ (n : Fin 32) (v : Word) (s : State),
      n.val < 8) ∧
    (∃ (w : Writer) (i : Fin 8) (v : Word) (s : State),
      bits v 2 0 = i.val) ∧
    (∃ (w : Writer) (v : Word) (s : State),
      bitAt v 0 = true ∧ bitAt v 1 = false) ∧
    (∃ (w : Writer) (v : Word) (l : Nat) (s : State),
      bits v 13 0 = l) ∧
    (∃ (w : Writer) (p : Fin 4) (v : Word) (s : State),
      bitAt v 0 = true) ∧
    (∃ (w : Writer) (p : Fin 4) (o : Fin 128) (v : Word) (s : State),
      bits v 9 8 = p.val ∧ bits v 6 0 = o.val) :=
  ⟨⟨1#32, (State.reset), by decide +kernel⟩,
  ⟨7, 0x80000000#32, (State.reset), by decide +kernel⟩,
  ⟨7, 0x40000000#32, (State.reset), by decide +kernel⟩,
  ⟨7, 5#32, (State.reset), by decide +kernel⟩,
  ⟨.app, 7, 0x10000007#32, (State.reset), by decide +kernel⟩,
  ⟨.app, 1#32, (State.reset), by decide +kernel⟩,
  ⟨.app, 0x10003FFF#32, 16383, (State.reset), by decide +kernel⟩,
  ⟨.app, 3, 1#32, (State.reset), by decide +kernel⟩,
  ⟨.app, 3, 127, 0x1000037F#32, (State.reset), by decide +kernel⟩⟩

theorem test_hyps_PowerUpAndFirmware :
    (∃ (f : Feed) (volts : Nat) (s : State),
      s.beforeBoot = true) ∧
    (∃ (f : Feed) (volts : Nat) (s : State),
      s.beforeBoot = false) ∧
    (∃ (s : State),
      s.beforeBoot = true ∧ (s.flag Fld.RST_POWER_FEED_A || s.flag Fld.RST_POWER_FEED_B) = true) ∧
    (∃ (x : Bool) (y : Bool) (s : State),
      s.beforeBoot = true ∧ (s.flag Fld.RST_POWER_FEED_A || s.flag Fld.RST_POWER_FEED_B) = true ∧ (x && y) = false) ∧
    (∃ (x : Bool) (y : Bool) (s : State),
      (s.beforeBoot && (s.flag Fld.RST_POWER_FEED_A || s.flag Fld.RST_POWER_FEED_B)) = false) ∧
    (∃ (c : Nat) (s : State),
      s.phase = 1 ∧ s.starting = true ∧ s.flag Fld.PK_STATUS_PRESENT = false ∧ s.key.inSocket = true ∧
      headerOk s.keyHdr = true ∧ s.selPick = some c ∧ bits (s.sel c) 75 74 = 0 ∧ c < 2) ∧
    (∃ (s : State),
      s.phase = 1 ∧ s.starting = true ∧ s.role = 0 ∧ s.flag Fld.PK_STATUS_PRESENT = false) ∧
    (∃ (b : Nat) (s : State),
      s.phase = 2 ∧ s.starting = true ∧ s.role = 0 ∧ b = s.fld Fld.SUP_START_FW_BANK) ∧
    (∃ (m : BaseMem) (s : State),
      s.phase = 3 ∧ s.starting = true ∧ s.role = 0 ∧ s.boot.baseRead = false ∧ m.readable = true ∧ m.crcOk = true ∧
      strapsOk m = true) ∧
    (∃ (m : BaseMem) (s : State),
      s.phase = 3 ∧ s.starting = true ∧ s.role = 0 ∧ s.boot.baseRead = false ∧ s.onTrial = false ∧
      (m.readable && m.crcOk) = false) ∧
    (∃ (m : BaseMem) (s : State),
      s.phase = 3 ∧ s.starting = true ∧ s.role = 0 ∧ s.boot.baseRead = false ∧ s.onTrial = false ∧
      m.readable = true ∧ m.crcOk = true ∧ strapsOk m = false) :=
  ⟨⟨.a, 0, wStart (State.reset) 0, by decide +kernel⟩,
  ⟨.a, 0, (State.reset).setFld Fld.SUP_START_PHASE 3, by decide +kernel⟩,
  ⟨(wStart (State.reset) 0).setFlag Fld.RST_POWER_FEED_A true, by decide +kernel⟩,
  ⟨true, false, (wStart (State.reset) 0).setFlag Fld.RST_POWER_FEED_B true, by decide +kernel⟩,
  ⟨true, true, (State.reset).setFld Fld.SUP_START_PHASE 3, by decide +kernel⟩,
  ⟨0, wKey (wStart (State.reset) 1), by decide +kernel⟩,
  ⟨(wStart (State.reset) 1).setFlag Fld.PK_STATUS_PRESENT false, by decide +kernel⟩,
  ⟨0, wFw (wStart (State.reset) 2), by decide +kernel⟩,
  ⟨wBase, wNoTrial (wNoBase (wStart (State.reset) 3)), by decide +kernel⟩,
  ⟨{ wBase with crcOk := false }, wNoTrial (wNoBase (wStart (State.reset) 3)), by decide +kernel⟩,
  ⟨{ wBase with strapKind := 2 }, wNoTrial (wNoBase (wStart (State.reset) 3)), by decide +kernel⟩⟩

theorem test_hyps_StartUpToFirstCommit :
    (∃ (b : Nat) (s : State),
      s.phase = 3 ∧ s.starting = true ∧ s.boot.baseRead = true ∧ b = s.fld Fld.SUP_START_CFG_BANK) ∧
    (∃ (m : SelfTest) (s : State),
      s.starting = true ∧ s.boot.fwRunning = true ∧ s.boot.committed = false) ∧
    (∃ (g : PlantImage) (s : State),
      s.phase = 4 ∧ s.starting = true ∧ s.boot.selfTested = true ∧ s.imageRefusal g = 0) ∧
    (∃ (g : PlantImage) (s : State),
      s.phase = 4 ∧ s.starting = true ∧ s.role = 0 ∧ s.boot.selfTested = true ∧ s.imageRefusal g ≠ 0 ∧
      s.onTrial = false) ∧
    (∃ (s : State),
      s.phase = 5 ∧ s.starting = true) ∧
    (∃ (e : Int) (now : Instant) (s : State),
      s.phase = 6 ∧ s.starting = true ∧ s.mt.ptSet = false ∧ s.fld Fld.RST_CAUSE_CAUSE ≠ 5 ∧ s.gptpOffset = some e ∧
      now = s.pt - BitVec.ofInt 64 e) ∧
    (∃ (now : Instant) (s : State),
      s.phase = 6 ∧ s.starting = true ∧ s.mt.ptSet = false ∧ s.acqOver = true ∧ s.partnerRuns = false ∧
      s.gptpOffset = none ∧ s.fld Fld.RST_CAUSE_CAUSE ≠ 5 ∧
      now = (match s.lastAnchor with | some a => Instant.later a (BitVec.ofNat 64 (bits (s.bankHdr 0 (s.fld Fld.SUP_START_CFG_BANK)) 191 128)) | none => BitVec.ofNat 64 (bits (s.bankHdr 0 (s.fld Fld.SUP_START_CFG_BANK)) 191 128))) ∧
    (∃ (h : BitVec 384) (w : W64) (u : Option (BitVec 384)) (s : State),
      s.phase = 7 ∧ s.starting = true ∧ s.mt.ptSet = true ∧ s.flag Fld.RST_POWER_HOLDUP = false ∧ s.pair = false ∧
      s.role ≠ 1 ∧ s.boot.roleTaken = false ∧ s.unclaimed = true ∧ s.bn.claimOut = false ∧ s.bn.failed = false ∧
      s.pw.calderaClaim = false) ∧
    (∃ (s : State),
      s.phase = 8 ∧ s.starting = true ∧ s.boot.roleTaken = true ∧ s.boot.committed = false ∧ s.role = 1 ∧
      s.reached (nextAt 1000000 0 (s.boot.roleAt.plus 1000000)) = true) ∧
    (∃ (s : State),
      s.reached (nextAt 1000000 0 (s.boot.roleAt.plus 1000000)) = false) :=
  ⟨⟨0, wNoTrial (wCfg (wStart (State.reset) 3)), by decide +kernel⟩,
  ⟨{ memOk := true, lanes := 0xFF, cmpX := 0x1F, cmpY := 0x1E, stages := 0x1F }, wRun (wStart (State.reset) 4) false, by decide +kernel⟩,
  ⟨wImage, wForImage (wStart (State.reset) 4), by decide +kernel⟩,
  ⟨{ wImage with baseKind := 2 }, wNoTrial (wForImage (wStart (State.reset) 4)), by decide +kernel⟩,
  ⟨wStart (State.reset) 5, by decide +kernel⟩,
  ⟨(wFour (wTime (wStart (State.reset) 6) false)).gptpOffset.getD 0, (wFour (wTime (wStart (State.reset) 6) false)).pt - BitVec.ofInt 64 ((wFour (wTime (wStart (State.reset) 6) false)).gptpOffset.getD 0), wFour (wTime (wStart (State.reset) 6) false), by decide +kernel⟩,
  ⟨match (wLate (wTime (wStart (State.reset) 6) false)).lastAnchor with | some a => Instant.later a (BitVec.ofNat 64 (bits ((wLate (wTime (wStart (State.reset) 6) false)).bankHdr 0 ((wLate (wTime (wStart (State.reset) 6) false)).fld Fld.SUP_START_CFG_BANK)) 191 128)) | none => BitVec.ofNat 64 (bits ((wLate (wTime (wStart (State.reset) 6) false)).bankHdr 0 ((wLate (wTime (wStart (State.reset) 6) false)).fld Fld.SUP_START_CFG_BANK)) 191 128), wLate (wTime (wStart (State.reset) 6) false), by decide +kernel⟩,
  ⟨9#384, 7#64, none, wUnclaimed (wNoRole ((wTime (wStart (State.reset) 7) true).setFlag Fld.RST_POWER_HOLDUP false)), by decide +kernel⟩,
  ⟨wRole (wStart (State.reset) 8) 1, by decide +kernel⟩,
  ⟨{ (State.reset) with boot := { (State.reset).boot with roleAt := (State.reset).pt } }, by decide +kernel⟩⟩

theorem test_hyps_KeyInItsSocket :
    (∃ (s : State),
      s.key.inSocket = true ∧ s.up.roll = none) ∧
    (∃ (s : State),
      s.key.inSocket = false) ∧
    (∃ (s : State),
      s.key.inSocket = false) ∧
    (∃ (x : KeyImage) (s : State),
      s.key.inSocket = false) ∧
    (∃ (s : State),
      s.key.inSocket = true ∧ s.flag Fld.PK_STATUS_PRESENT = false ∧ s.flag Fld.PK_STATUS_HEADER_OK = true ∧
      bits s.keyHdr 127 64 = (s.reg .PK_SERIAL_HI).toNat * 4294967296 + (s.reg .PK_SERIAL_LO).toNat) ∧
    (∃ (s : State),
      s.key.inSocket = true ∧ s.flag Fld.PK_STATUS_PRESENT = false ∧ s.flag Fld.PK_STATUS_HEADER_OK = true ∧
      bits s.keyHdr 127 64 ≠ (s.reg .PK_SERIAL_HI).toNat * 4294967296 + (s.reg .PK_SERIAL_LO).toNat) :=
  ⟨⟨{ (State.reset) with key := { (State.reset).key with inSocket := true }, up := { (State.reset).up with roll := none } }, by decide +kernel⟩,
  ⟨(State.reset), by decide +kernel⟩,
  ⟨(State.reset), by decide +kernel⟩,
  ⟨{ units := [(5, 7#64)] }, { (State.reset) with key := { (State.reset).key with inSocket := false } }, by decide +kernel⟩,
  ⟨wReread (State.reset) 0, by decide +kernel⟩,
  ⟨wReread (State.reset) 1, by decide +kernel⟩⟩

theorem test_hyps_IslandsStallAndRestart :
    (∃ (i : Fin 18) (dev : Int) (s : State),
      dev.natAbs ≤ 1000) ∧
    (∃ (i : Fin 18) (dev : Int) (s : State),
      1000 < dev.natAbs ∧ s.alive i.val = true) ∧
    (∃ (i : Fin 18) (c : StallCause) (s : State),
      s.alive i.val = true ∧ s.stallFits i.val c = true) ∧
    (∃ (c : StallCause) (s : State),
      s.alive 2 = true ∧ s.stallFits 2 c = true ∧ s.restartedLately 2 = false ∧ s.bn.failed = false) ∧
    (∃ (i : Fin 18) (c : StallCause) (s : State),
      s.alive i.val = false ∨ s.stallFits i.val c = false) ∧
    (∃ (i : Fin 18) (s : State),
      (i = 4 ∨ i = 6 ∨ i = 7) ∧ (s.island i.val).down = true ∧ (s.island i.val).stopped = false ∧
      s.bn.failed = false) ∧
    (∃ (k : Fin 10) (s : State),
      (s.island (8 + k.val)).down = true) ∧
    (∃ (k : Fin 10) (s : State),
      (s.slice k.val).held = true ∧ 9980000 ≤ (s.mt.frc - (s.slice k.val).heldAt).toNat) ∧
    (∃ (k : Fin 10) (s : State),
      (s.island (8 + k.val)).down = true ∧ (s.island (8 + k.val)).stopped = false ∧ s.bn.failed = false) ∧
    (∃ (k : Fin 10) (s : State),
      (s.mt.frc - (s.slice k.val).heldAt).toNat < 9980000) :=
  ⟨⟨(1 : Fin 18), -1000, (State.reset), by decide +kernel⟩,
  ⟨8, -1001, (State.reset).setFlag Fld.SUP_ISLAND_ALIVE true 8, by decide +kernel⟩,
  ⟨17, .tokens, (State.reset).setFlag Fld.SUP_ISLAND_ALIVE true 17, by decide +kernel⟩,
  ⟨.tokens, { (State.reset) with isl := [], bn := { (State.reset).bn with failed := false } }.setFlag Fld.SUP_ISLAND_ALIVE true 2, by decide +kernel⟩,
  ⟨3, .timing, (State.reset).setFlag Fld.SUP_ISLAND_ALIVE false 3, by decide +kernel⟩,
  ⟨6, { (State.reset) with bn := { (State.reset).bn with failed := false } }.setIsland 6 { down := true }, by decide +kernel⟩,
  ⟨9, (State.reset).setIsland 17 { down := true }, by decide +kernel⟩,
  ⟨3, (State.reset).setSlice 3 { (State.reset).slice 3 with held := true, heldAt := (State.reset).mt.frc - 9980000#64 }, by decide +kernel⟩,
  ⟨0, { (State.reset) with bn := { (State.reset).bn with failed := false } }.setIsland 8 { down := true }, by decide +kernel⟩,
  ⟨3, (State.reset).setSlice 3 { (State.reset).slice 3 with held := true, heldAt := (State.reset).mt.frc - 9979999#64 }, by decide +kernel⟩⟩

theorem test_hyps_ServiceSessions :
    (∃ (h : Handshake) (k : Nat) (s : State),
      s.serving = true ∧ s.iazebin = false ∧ s.reaches h.basePort h.port = true ∧ s.freeSess = some k ∧
      h.suiteOk = true ∧ h.anchorOk = true ∧ h.recovery ≠ s.accepted) ∧
    (∃ (h : Handshake) (s : State),
      s.serving = true ∧ s.iazebin = false ∧ s.reaches h.basePort h.port = true ∧ s.freeSess = none) ∧
    (∃ (h : Handshake) (k : Nat) (s : State),
      s.serving = true ∧ s.iazebin = false ∧ s.reaches h.basePort h.port = true ∧ s.freeSess = some k ∧
      (h.suiteOk = false ∨ h.anchorOk = false ∨ h.recovery = s.accepted)) ∧
    (∃ (h : Handshake) (s : State),
      s.serving = false ∨ s.reaches h.basePort h.port = false) ∧
    (∃ (h : Handshake) (s : State),
      s.iazebin = true ∧ (h.basePort && s.pw.contactOpen) = false) ∧
    (∃ (k : Fin 4) (s : State),
      (s.sess k.val).open_ = true ∧ 60000000000 ≤ (s.mt.frc - Tab.get 0 s.pn.heard k.val).toNat) ∧
    (∃ (k : Fin 4) (s : State),
      (s.sess k.val).open_ = true) ∧
    (∃ (k : Fin 4) (s : State),
      (s.sess k.val).open_ = false) ∧
    (∃ (h : SvcMsg) (y : BitVec 16) (s : State),
      (s.sess h.sess.val).open_ = true ∧ s.serving = true ∧ svcTypes.contains y.toNat = false) ∧
    (∃ (a : Nat) (s : State),
      s.declaredAt a = true) ∧
    (∃ (v : Option (Fin 2)) (a : Nat) (s : State),
      s.declaredAt a = true) ∧
    (∃ (a : Nat) (s : State),
      s.answersAt none a = true) ∧
    (∃ (v : Option (Fin 2)) (a : Nat) (s : State),
      s.answersAt v a = true) ∧
    (∃ (v : Option (Fin 2)) (a : Nat) (i : Nat) (n : Nat) (s : State),
      s.answersAt v a = true ∧ s.pn.icmpSec = s.mt.frc.toNat / 1000000000 ∧ s.pn.icmpCnt = n ∧ n < 10) ∧
    (∃ (a : Nat) (i : Nat) (n : Nat) (s : State),
      s.answersAt none a = true ∧ s.pn.icmpSec = s.mt.frc.toNat / 1000000000 ∧ s.pn.icmpCnt = n ∧ n < 10) ∧
    (∃ (v : Option (Fin 2)) (a : Nat) (i : Nat) (s : State),
      s.pn.icmpSec = s.mt.frc.toNat / 1000000000 ∧ 10 ≤ s.pn.icmpCnt) ∧
    (∃ (v : Option (Fin 2)) (a : Nat) (i : Nat) (s : State),
      s.answersAt v a = false) ∧
    (∃ (k : Fin 4) (s : State),
      (s.mt.frc - Tab.get 0 s.pn.heard k.val).toNat < 60000000000) ∧
    (∃ (p : Fin 2) (o : Output) (v : VlanCfg) (s : State),
      (s.img.vlans.find? fun v => v.service) = some v ∧ v.pcp ≠ 6 ∧ s.portOpen (p.val + 1) = true) ∧
    (∃ (p : Fin 2) (o : Output) (s : State),
      (s.img.vlans.find? fun v => v.service) = none ∨ s.portOpen (p.val + 1) = false) :=
  ⟨⟨{ recovery := true, role := 2, basePort := true }, 0, wSvc (State.reset) false, by decide +kernel⟩,
  ⟨{ basePort := true }, wSvc (State.reset) true, by decide +kernel⟩,
  ⟨{ suiteOk := false, basePort := true }, 0, wSvc (State.reset) false, by decide +kernel⟩,
  ⟨{ port := 1 }, { wSvc (State.reset) false with img := { (State.reset).img with vlans := [] } }, by decide +kernel⟩,
  ⟨{ basePort := false }, wLock (wStart (State.reset) 14) false, by decide +kernel⟩,
  ⟨3, wQuiet (wSvc (State.reset) true), by decide +kernel⟩,
  ⟨0, wSvc (State.reset) true, by decide +kernel⟩,
  ⟨2, wSvc (State.reset) false, by decide +kernel⟩,
  ⟨{ sess := 1 }, 0x7FFF#16, wSvc (State.reset) true, by decide +kernel⟩,
  ⟨7, wAddr (wSvc (State.reset) true) 7, by decide +kernel⟩,
  ⟨none, 7, wAddr (wSvc (State.reset) true) 7, by decide +kernel⟩,
  ⟨7, wAddr (wSvc (State.reset) true) 7, by decide +kernel⟩,
  ⟨none, 7, wAddr (wSvc (State.reset) true) 7, by decide +kernel⟩,
  ⟨none, 7, 3, 9, wIcmp (wAddr (wSvc (State.reset) true) 7) 9, by decide +kernel⟩,
  ⟨7, 3, 9, wIcmp (wAddr (wSvc (State.reset) true) 7) 9, by decide +kernel⟩,
  ⟨none, 0, 0, wIcmp (State.reset) 10, by decide +kernel⟩,
  ⟨none, 8, 0, { (State.reset) with img := { (State.reset).img with address := [7] } }, by decide +kernel⟩,
  ⟨3, { wSvc (State.reset) true with pn := { (wSvc (State.reset) true).pn with heard := [(3, (State.reset).mt.frc - 59999999999#64)] } }, by decide +kernel⟩,
  ⟨1, .arpReply 5, { service := true, pcp := 4 }, wFar (State.reset), by decide +kernel⟩,
  ⟨(1 : Fin 2), .arpReply 5, { (State.reset) with img := { (State.reset).img with vlans := [] } }, by decide +kernel⟩⟩

theorem test_hyps_ServiceOrders :
    (∃ (h : SvcMsg) (p : Nat) (v : Word) (s : State),
      (s.sess h.sess.val).open_ = true ∧ s.serving = true ∧ s.svcRefusal h 0x40 2 0 none = none ∧
      s.pointKnown p = true ∧ s.immediatePoint p = false) ∧
    (∃ (h : SvcMsg) (p : Nat) (s : State),
      (s.sess h.sess.val).open_ = true ∧ s.serving = true ∧ s.svcRefusal h 0x40 2 0 none = none ∧
      s.pointKnown p = true) ∧
    (∃ (h : SvcMsg) (p : Nat) (c : Nat) (v : Word) (s : State),
      (s.sess h.sess.val).open_ = true ∧ s.serving = true ∧ s.svcRefusal h 0x40 2 0 none = some c) ∧
    (∃ (h : SvcMsg) (s : State),
      (s.sess h.sess.val).open_ = true ∧ s.serving = true ∧ s.svcRefusal h 0x60 3 0 none = none ∧ s.auth = true) ∧
    (∃ (h : SvcMsg) (s : State),
      (s.sess h.sess.val).open_ = true ∧ s.serving = true ∧ s.svcRefusal h 0x60 3 0 none = none ∧ s.auth = false ∧
      s.fld Fld.MT_STATE_STATE ≠ 0 ∧ (s.reepochSource).isSome = true) ∧
    (∃ (h : SvcMsg) (a : BitVec 48) (n : Nat) (rs : List (BitVec 512)) (s : State),
      (s.sess h.sess.val).open_ = true ∧ s.serving = true ∧ s.svcRefusal h 0x20 0 0 (some 8) = none ∧
      s.readCode a.toNat n = 0 ∧ rs = (s.scan s.newest Config.sinterSlots n (max 1 (max a.toNat s.oldest))).1) ∧
    (∃ (h : SvcMsg) (a : BitVec 48) (n : Nat) (c : Nat) (s : State),
      (s.sess h.sess.val).open_ = true ∧ s.serving = true ∧ s.svcRefusal h 0x20 0 0 (some 8) = none ∧
      s.readCode a.toNat n = c ∧ c ≠ 0) ∧
    (∃ (h : SvcMsg) (s : State),
      (s.sess h.sess.val).open_ = true ∧ s.serving = true ∧ s.svcRefusal h 0x21 3 0 none = none ∧
      s.pw.contactOpen = false) ∧
    (∃ (h : SvcMsg) (s : State),
      (s.sess h.sess.val).open_ = true ∧ s.serving = true ∧ s.svcRefusal h 0x21 3 0 none = none ∧
      s.pw.contactOpen = true ∧ s.flag Fld.PK_STATUS_PRESENT = true ∧ s.flag Fld.PK_STATUS_SERIAL_OK = true ∧
      s.sn.located = true ∧ (s.enqueue islSup 0x0004 (.items [])).2 = true) ∧
    (∃ (h : SvcMsg) (k : BitVec 768) (f : BitVec 384) (b : Nat) (s : State),
      (s.sess h.sess.val).open_ = true ∧ s.serving = true ∧ s.svcRefusal h 0x70 3 0 none = none ∧
      s.pw.contactOpen = true ∧ b ≤ 8191 ∧ s.keyOk = true) ∧
    (∃ (h : SvcMsg) (k : BitVec 768) (f : BitVec 384) (b : Nat) (s : State),
      (s.sess h.sess.val).open_ = true ∧ s.serving = true ∧ s.svcRefusal h 0x70 3 0 none = none ∧
      s.pw.contactOpen = false) ∧
    (∃ (h : SvcMsg) (n : Fin 32) (fr : List Byte) (s : State),
      (s.sess h.sess.val).open_ = true ∧ s.serving = true ∧ s.svcRefusal h 0x50 2 0 none = none ∧
      s.hartOn n.val = true ∧ s.shows (8 + n.val / 8) = true ∧ s.flag Fld.UC_HART_PASS_BUSY n.val = false) ∧
    (∃ (id : Word) (n : Fin 32) (k : Nat) (b : Byte) (fr : List Byte) (a : List Byte) (r : HartReply) (s : State),
      (s.uc n.val).pass = some (k, id, b :: fr) ∧ (s.uc n.val).hart = .none ∧ s.shows (8 + n.val / 8) = true) ∧
    (∃ (id : Word) (n : Fin 32) (k : Nat) (b : Byte) (fr : List Byte) (s : State),
      (s.uc n.val).pass = some (k, id, b :: fr) ∧ (s.uc n.val).hart = .none ∧ s.shows (8 + n.val / 8) = true) :=
  ⟨⟨{ sess := 1 }, 5, 5#32, wPoint (wSvc (State.reset) true) 5, by decide +kernel⟩,
  ⟨{ sess := 1 }, 5, wPoint (wSvc (State.reset) true) 5, by decide +kernel⟩,
  ⟨{ sess := 0 }, 0, 3, 5#32, wReader (wSvc (State.reset) true), by decide +kernel⟩,
  ⟨{ sess := 1 }, (wSvc (State.reset) true).setFlag Fld.BN_STATUS_AUTH true, by decide +kernel⟩,
  ⟨{ sess := 1 }, wTb ((wSvc (State.reset) true).setFlag Fld.BN_STATUS_AUTH false), by decide +kernel⟩,
  ⟨{ sess := 1, len := 8 }, 0#48, 3, ((wPresent (wSvc (State.reset) true)).scan (wPresent (wSvc (State.reset) true)).newest Config.sinterSlots (3) (max 1 (max (0#48).toNat (wPresent (wSvc (State.reset) true)).oldest))).1, wPresent (wSvc (State.reset) true), by decide +kernel⟩,
  ⟨{ sess := 1, len := 8 }, 1#48, 1025, 0x0203, wPresent (wSvc (State.reset) true), by decide +kernel⟩,
  ⟨{ sess := 1 }, wLock (wSvc (State.reset) true) false, by decide +kernel⟩,
  ⟨{ sess := 1 }, wLocated (wPresent (wLock (wSvc (State.reset) true) true)), by decide +kernel⟩,
  ⟨{ sess := 1 }, 5#768, 9#384, 8191, wWritable (wPresent (wLock (wSvc (State.reset) true) true)), by decide +kernel⟩,
  ⟨{ sess := 1 }, 5#768, 9#384, 0, wLock (wSvc (State.reset) true) false, by decide +kernel⟩,
  ⟨{ sess := 1 }, 0, [], wHart (wSvc (State.reset) true) 0, by decide +kernel⟩,
  ⟨4#32, 0, 2, 9#8, [], [1#8], { code := 7#8, device := 9#8 }, wPass (wHart (State.reset) 0) 0, by decide +kernel⟩,
  ⟨4#32, 0, 2, 9#8, [], wPass (wHart (State.reset) 0) 0, by decide +kernel⟩⟩

theorem test_hyps_MaintenanceAndDormant :
    (∃ (h : SvcMsg) (s : State),
      (s.sess h.sess.val).open_ = true ∧ s.serving = true ∧ s.svcRefusal h 0x62 2 0 none = none ∧ s.maintEnter.2 = 0) ∧
    (∃ (h : SvcMsg) (s : State),
      (s.sess h.sess.val).open_ = true ∧ s.serving = true ∧ s.svcRefusal h 0x62 2 0 none = none ∧ s.maintEnter.2 ≠ 0) ∧
    (∃ (h : SvcMsg) (s : State),
      (s.sess h.sess.val).open_ = true ∧ s.serving = true ∧ s.svcRefusal h 0x62 2 0 none = none ∧
      s.flag Fld.RST_POWER_DORMANT = false ∧ s.maintLeave.2 = 0) ∧
    (∃ (h : SvcMsg) (s : State),
      (s.sess h.sess.val).open_ = true ∧ s.serving = true ∧ s.svcRefusal h 0x62 2 0 none = none ∧
      s.flag Fld.RST_POWER_DORMANT = true ∧ s.powered = true) ∧
    (∃ (h : SvcMsg) (s : State),
      (s.sess h.sess.val).open_ = true ∧ s.serving = true ∧ s.svcRefusal h 0x62 2 1 none = none ∧
      s.mayDormant = true) ∧
    (∃ (h : SvcMsg) (s : State),
      (s.sess h.sess.val).open_ = true ∧ s.serving = true ∧ s.svcRefusal h 0x62 2 1 none = none ∧
      s.mayDormant = false) :=
  ⟨⟨{ sess := 1 }, wMaint (wSvc (State.reset) true), by decide +kernel⟩,
  ⟨{ sess := 1 }, (wSvc (State.reset) true).setFld Fld.BN_STATUS_ROLE 1, by decide +kernel⟩,
  ⟨{ sess := 1 }, ((wPair (wSvc (State.reset) true)).setFlag Fld.RST_POWER_DORMANT false).setFld Fld.BN_STATUS_ROLE 5, by decide +kernel⟩,
  ⟨{ sess := 1 }, ((wSvc (State.reset) true).setFlag Fld.RST_POWER_DORMANT true).setFlag Fld.RST_POWER_FEED_A true, by decide +kernel⟩,
  ⟨{ sess := 1 }, wMayDormant (wSvc (State.reset) true), by decide +kernel⟩,
  ⟨{ sess := 1 }, (wSvc (State.reset) true).setFld Fld.BN_STATUS_ROLE 1, by decide +kernel⟩⟩

theorem test_hyps_NetworkFrames :
    (∃ (p : Fin 2) (s : State),
      s.flag Fld.PN_PORT_FWD (p.val + 1) = true ∧ s.linkUp (p.val + 1) = true ∧ s.alive 4 = true) ∧
    (∃ (p : Fin 2) (s : State),
      s.flag Fld.PN_PORT_FWD (p.val + 1) = true ∧ s.linkUp (p.val + 1) = true ∧ s.alive 4 = true) ∧
    (∃ (p : Fin 2) (d : Nat) (s : State),
      s.flag Fld.PN_PORT_FWD (p.val + 1) = true ∧ s.linkUp (p.val + 1) = true ∧ s.alive 4 = true ∧
      s.trackedDomain d = false) ∧
    (∃ (p : Fin 2) (v : Nat) (len : Nat) (s : State),
      s.flag Fld.PN_PORT_FWD (p.val + 1) = true ∧ s.linkUp (p.val + 1) = true ∧ s.alive 4 = true ∧ s.img.vlans = []) ∧
    (∃ (p : Fin 2) (v : Nat) (len : Nat) (c : VlanCfg) (s : State),
      s.flag Fld.PN_PORT_FWD (p.val + 1) = true ∧ s.linkUp (p.val + 1) = true ∧ s.alive 4 = true ∧
      s.img.vlans.find? (fun x => x.vid == v) = some c ∧ c.forward = true ∧ c.pcp ≠ 6 ∧
      s.portOpen (otherPort (p.val + 1)) = true ∧ s.gateOpen (otherPort (p.val + 1)) c.pcp = true) ∧
    (∃ (p : Fin 2) (b : Nat) (n : Nat) (v : Nat) (len : Nat) (q : BitVec 16) (h : BitVec 256) (rs : List W64) (s : State),
      s.flag Fld.PN_PORT_FWD (p.val + 1) = true ∧ s.linkUp (p.val + 1) = true ∧ s.alive 4 = true ∧
      s.subIndex b n v = none ∧ s.transitIndex b n v = none) ∧
    (∃ (p : Fin 2) (b : Nat) (n : Nat) (v : Nat) (len : Nat) (i : Nat) (q : BitVec 16) (h : BitVec 256) (rs : List W64) (s : State),
      s.flag Fld.PN_PORT_FWD (p.val + 1) = true ∧ s.linkUp (p.val + 1) = true ∧ s.alive 4 = true ∧
      s.subIndex b n v = some i ∧ s.transitIndex b n v = none ∧ (listGet {} s.img.subs i).len < len) ∧
    (∃ (p : Fin 2) (b : Nat) (n : Nat) (v : Nat) (len : Nat) (i : Nat) (q : BitVec 16) (h : BitVec 256) (rs : List W64) (c : SubCfg) (s : State),
      s.flag Fld.PN_PORT_FWD (p.val + 1) = true ∧ s.linkUp (p.val + 1) = true ∧ s.alive 4 = true ∧
      s.subIndex b n v = some i ∧ s.transitIndex b n v = none ∧ s.img.subs[i]? = some c ∧
      2 ≤ ((Tab.get [] s.pn.arr (i * 4 + (p.val + 1))).filter fun a => Instant.before (s.portTime (p.val + 1) - BitVec.ofNat 64 (Config.period c.cls)) a).length) ∧
    (∃ (p : Fin 2) (b : Nat) (n : Nat) (v : Nat) (len : Nat) (i : Nat) (q : BitVec 16) (h : BitVec 256) (rs : List W64) (c : SubCfg) (s : State),
      s.flag Fld.PN_PORT_FWD (p.val + 1) = true ∧ s.linkUp (p.val + 1) = true ∧ s.alive 4 = true ∧
      s.subIndex b n v = some i ∧ s.transitIndex b n v = none ∧ s.img.subs[i]? = some c ∧ len ≤ c.len ∧
      Tab.get [] s.pn.arr (i * 4 + (p.val + 1)) = [] ∧ s.pn.inbox.length < 64) ∧
    (∃ (p : Fin 2) (b : Nat) (n : Nat) (v : Nat) (len : Nat) (j : Nat) (q : BitVec 16) (h : BitVec 256) (rs : List W64) (c : TransitCfg) (s : State),
      s.flag Fld.PN_PORT_FWD (p.val + 1) = true ∧ s.linkUp (p.val + 1) = true ∧ s.alive 4 = true ∧
      s.subIndex b n v = none ∧ s.transitIndex b n v = some j ∧ s.img.transit[j]? = some c ∧ len ≤ c.len ∧
      Tab.get [] s.pn.arr (streamKey 2 j * 4 + (p.val + 1)) = [] ∧ c.both = false ∧
      c.merges.contains (otherPort (p.val + 1)) = false ∧ s.portOpen (otherPort (p.val + 1)) = true ∧
      s.gateOpen (otherPort (p.val + 1)) 6 = true ∧ s.fitsWindow (otherPort (p.val + 1)) = true) ∧
    (∃ (p : Fin 2) (v : Nat) (len : Nat) (c : VlanCfg) (s : State),
      s.flag Fld.PN_PORT_FWD (p.val + 1) = true ∧ s.linkUp (p.val + 1) = true ∧ s.alive 4 = true ∧
      s.img.vlans.find? (fun x => x.vid == v) = some c ∧ c.forward = true ∧
      s.portOpen (otherPort (p.val + 1)) = true ∧ Tab.get 0 s.pn.ctlSec (p.val + 1) = s.mt.frc.toNat / 1000000000 ∧
      Tab.get 0 s.pn.ctlCnt (p.val + 1) < 200000) ∧
    (∃ (p : Fin 2) (v : Nat) (len : Nat) (c : VlanCfg) (s : State),
      s.flag Fld.PN_PORT_FWD (p.val + 1) = true ∧ s.linkUp (p.val + 1) = true ∧ s.alive 4 = true ∧
      s.img.vlans.find? (fun x => x.vid == v) = some c ∧
      Tab.get 0 s.pn.ctlSec (p.val + 1) = s.mt.frc.toNat / 1000000000 ∧ 200000 ≤ Tab.get 0 s.pn.ctlCnt (p.val + 1)) ∧
    (∃ (p : Fin 2) (f : NetFrame) (s : State),
      s.flag Fld.PN_PORT_FWD (p.val + 1) = false ∨ s.linkUp (p.val + 1) = false ∨ s.alive 4 = false) ∧
    (∃ (p : Fin 2) (i : Nat) (e : GateEntry) (s : State),
      (s.gatesOf (p.val + 1))[i]? = some e ∧ s.flag Fld.PN_PORT_GATES (p.val + 1) = true ∧
      gateNow (s.gatesOf (p.val + 1)) e (cyclePlace (s.portTime (p.val + 1))) = true) ∧
    (∃ (p : Fin 2) (i : Nat) (s : State),
      (s.gatesOf (p.val + 1))[i]? = none ∨ s.flag Fld.PN_PORT_GATES (p.val + 1) = false) ∧
    (∃ (p : Fin 2) (i : Nat) (e : GateEntry) (s : State),
      (s.gatesOf (p.val + 1))[i]? = some e ∧
      gateNow (s.gatesOf (p.val + 1)) e (cyclePlace (s.portTime (p.val + 1))) = false) ∧
    (∃ (p : Fin 2) (s : State),
      s.linkUp (p.val + 1) = false) ∧
    (∃ (p : Fin 2) (s : State),
      s.linkUp (p.val + 1) = true) :=
  ⟨⟨1, wPort (State.reset) 2, by decide +kernel⟩,
  ⟨0, wPort (State.reset) 1, by decide +kernel⟩,
  ⟨0, 300, wPort (State.reset) 1, by decide +kernel⟩,
  ⟨0, 3, 0, { wPort (State.reset) 1 with img := { (State.reset).img with vlans := [] } }, by decide +kernel⟩,
  ⟨0, 3, 0, { vid := 3, pcp := 5, forward := true }, { (wPort (wPort (State.reset) 1) 2) with img := { (State.reset).img with vlans := [{ vid := 3, pcp := 5, forward := true }] } }, by decide +kernel⟩,
  ⟨0, 0, 0, 0, 0, 6#16, 0, [], { wPort (State.reset) 1 with img := { (State.reset).img with subs := [], transit := [] } }, by decide +kernel⟩,
  ⟨0, 1, 2, 0, 81, 0, 6#16, 0, [], { wPort (State.reset) 1 with img := { (State.reset).img with subs := [{ binary := 1, stream := 2, len := 80 }], transit := [] } }, by decide +kernel⟩,
  ⟨0, 1, 2, 3, 80, 0, 6#16, 0, [], { binary := 1, stream := 2, vlan := 3, len := 80 }, { wPort (State.reset) 1 with img := { (State.reset).img with subs := [{ binary := 1, stream := 2, vlan := 3, len := 80 }], transit := [] }, pn := { (State.reset).pn with arr := [(1, [(wPort (State.reset) 1).portTime 1, (wPort (State.reset) 1).portTime 1])] } }, by decide +kernel⟩,
  ⟨0, 1, 2, 3, 80, 0, 6#16, 0, [], { binary := 1, stream := 2, vlan := 3, len := 80 }, { wBoth (State.reset) with img := { (State.reset).img with subs := [{ binary := 1, stream := 2, vlan := 3, len := 80 }], transit := [] }, pn := { (wBoth (State.reset)).pn with inbox := [] } }, by decide +kernel⟩,
  ⟨0, 1, 2, 3, 80, 0, 6#16, 0, [], { binary := 1, stream := 2, vlan := 3, len := 80 }, { wBoth (State.reset) with img := { (State.reset).img with transit := [{ binary := 1, stream := 2, vlan := 3, len := 80 }], subs := [], gcl := [] } }, by decide +kernel⟩,
  ⟨1, 3, 0, { vid := 3, forward := true }, { wBoth (State.reset) with img := { (State.reset).img with vlans := [{ vid := 3, forward := true }] }, pn := { (wBoth (State.reset)).pn with ctlSec := [(2, (State.reset).mt.frc.toNat / 1000000000)], ctlCnt := [(2, 199999)] } }, by decide +kernel⟩,
  ⟨1, 3, 0, { vid := 3, forward := true }, { wBoth (State.reset) with img := { (State.reset).img with vlans := [{ vid := 3, forward := true }] }, pn := { (wBoth (State.reset)).pn with ctlSec := [(2, (State.reset).mt.frc.toNat / 1000000000)], ctlCnt := [(2, 200000)] } }, by decide +kernel⟩,
  ⟨(1 : Fin 2), .badFcs, (State.reset).setFlag Fld.PN_PORT_FWD false (((1 : Fin 2)).val + 1), by decide +kernel⟩,
  ⟨1, 0, { gates := 0x40 }, wGate (State.reset) 0x40, by decide +kernel⟩,
  ⟨1, 1, wGate (State.reset) 0x40, by decide +kernel⟩,
  ⟨1, 1, { offset := 999999 }, { wAt (State.reset) 5000000#64 with img := { (State.reset).img with gcl := [(2, { offset := 0 }), (2, { offset := 999999 })] } }.setFld Fld.PN_PORT_TB 0 2, by decide +kernel⟩,
  ⟨0, (State.reset).setFlag Fld.PN_PORT_LINK false 1, by decide +kernel⟩,
  ⟨1, ((State.reset).setFlag Fld.PN_PORT_LINK true 2).setFld Fld.MT_TB_CFG_PORT 2 3, by decide +kernel⟩⟩

theorem test_hyps_Subscriptions :
    (∃ (n : Fin 4096) (p : Fin 2) (q : BitVec 16) (h : BitVec 256) (rs : List W64) (c : SubCfg) (s : State),
      s.img.subs[n.val]? = some c ∧ s.pn.inbox.contains (n.val, p.val + 1, q.toNat) = true ∧
      Instant.before s.pt (BitVec.ofNat 64 (bits h 255 192)) = false) ∧
    (∃ (n : Fin 4096) (p : Fin 2) (q : BitVec 16) (h : BitVec 256) (rs : List W64) (c : SubCfg) (s : State),
      s.img.subs[n.val]? = some c ∧ s.pn.inbox.contains (n.val, p.val + 1, q.toNat) = true ∧
      Instant.before s.pt (BitVec.ofNat 64 (bits h 255 192)) = true ∧ c.repl = false ∧
      (bits h 31 24 ≠ c.points.length ∨ rs.length ≠ c.points.length ∨ bits h 17 16 ≠ c.cls)) ∧
    (∃ (n : Fin 4096) (p : Fin 2) (q : BitVec 16) (h : BitVec 256) (rs : List W64) (c : SubCfg) (s : State),
      s.img.subs[n.val]? = some c ∧ s.pn.inbox.contains (n.val, p.val + 1, q.toNat) = true ∧
      Instant.before s.pt (BitVec.ofNat 64 (bits h 255 192)) = true ∧ c.repl = false ∧
      bits h 31 24 = c.points.length ∧ rs.length = c.points.length ∧ bits h 17 16 = c.cls ∧
      bits h 127 96 + 1 < Tab.get 0 s.ln.epochs c.binary) ∧
    (∃ (n : Fin 4096) (p : Fin 2) (q : BitVec 16) (h : BitVec 256) (r : W64) (i : Nat) (c : SubCfg) (s : State),
      s.img.subs[n.val]? = some c ∧ s.pn.inbox.contains (n.val, p.val + 1, q.toNat) = true ∧
      Instant.before s.pt (BitVec.ofNat 64 (bits h 255 192)) = true ∧ c.repl = false ∧ c.points = [i] ∧
      bits h 31 24 = 1 ∧ bits h 17 16 = c.cls ∧ Tab.get 0 s.ln.epochs c.binary ≤ bits h 127 96 + 1 ∧
      bitAt h 8 = false ∧ (s.sub n.val).applied = none ∧ (s.sub n.val).pend = none) ∧
    (∃ (n : Fin 4096) (p : Fin 2) (q : BitVec 16) (h : BitVec 256) (rs : List W64) (s : State),
      s.img.subs[n.val]? = none) ∧
    (∃ (n : Fin 4096) (c : SubCfg) (i : Nat) (f : PendFrame) (s : State),
      s.img.subs[n.val]? = some c ∧ (s.sub n.val).pend = some f ∧ Instant.atOrBefore f.validAt s.pt = true ∧
      ((s.sub n.val).grid.all fun g => !Instant.before g f.validAt) = true ∧
      (c.coord && s.flag Fld.MT_STATE_COORD_DEGRADED) = false ∧ c.points = [i]) ∧
    (∃ (n : Fin 4096) (c : SubCfg) (i : Nat) (f : PendFrame) (s : State),
      s.img.subs[n.val]? = some c ∧ (s.sub n.val).pend = some f ∧ Instant.atOrBefore f.validAt s.pt = true ∧
      ((s.sub n.val).grid.all fun g => !Instant.before g f.validAt) = true ∧ c.coord = true ∧
      s.flag Fld.MT_STATE_COORD_DEGRADED = true ∧ c.points = [i]) ∧
    (∃ (n : Fin 4096) (c : SubCfg) (i : Nat) (g : Instant) (s : State),
      s.img.subs[n.val]? = some c ∧ (s.sub n.val).grid = some g ∧ Instant.atOrBefore g s.pt = true ∧
      (s.sub n.val).dueAt g = false ∧ c.points = [i]) ∧
    (∃ (n : Fin 4096) (g : Instant) (s : State),
      (s.sub n.val).grid = some g ∧ (Instant.atOrBefore g s.pt = false ∨ (s.sub n.val).dueAt g = true)) ∧
    (∃ (n : Fin 4096) (s : State),
      (s.sub n.val).dueAt s.pt = false) :=
  ⟨⟨0, 0, 6#16, wSubHdr (wSubs (State.reset) false).pt 1, [], wSub, wSubs (State.reset) false, by decide +kernel⟩,
  ⟨0, 0, 6#16, wSubHdr ((wSubs (State.reset) false).pt + 1) 2, [], wSub, wSubs (State.reset) false, by decide +kernel⟩,
  ⟨0, 0, 6#16, wSubHdr (({ wSubs (State.reset) false with ln := { (wSubs (State.reset) false).ln with epochs := [(3, 2)] } }).pt + 1) 1, [9#64], wSub, { wSubs (State.reset) false with ln := { (wSubs (State.reset) false).ln with epochs := [(3, 2)] } }, by decide +kernel⟩,
  ⟨0, 0, 6#16, wSubHdr (({ wSubs (State.reset) false with ln := { (wSubs (State.reset) false).ln with epochs := [(3, 2)] } }).pt + 1) 2, 9#64, 4, wSub, { wSubs (State.reset) false with ln := { (wSubs (State.reset) false).ln with epochs := [(3, 2)] } }, by decide +kernel⟩,
  ⟨4095, (1 : Fin 2), 6#16, 0, [], { (State.reset) with img := { (State.reset).img with subs := [{}] } }, by decide +kernel⟩,
  ⟨0, wSub, 4, { validAt := (State.reset).pt, epoch := 2, recs := [9#64] }, (wSubs (State.reset) false).setSubSt 0 { pend := some ({ validAt := (State.reset).pt, epoch := 2, recs := [9#64] } : PendFrame), grid := some (State.reset).pt }, by decide +kernel⟩,
  ⟨0, { wSub with coord := true }, 4, { validAt := (State.reset).pt, epoch := 2, recs := [9#64] }, ((wSubs (State.reset) true).setSubSt 0 { pend := some ({ validAt := (State.reset).pt, epoch := 2, recs := [9#64] } : PendFrame) }).setFlag Fld.MT_STATE_COORD_DEGRADED true, by decide +kernel⟩,
  ⟨0, wSub, 4, (State.reset).pt, (wSubs (State.reset) false).setSubSt 0 { grid := some (State.reset).pt }, by decide +kernel⟩,
  ⟨0, (State.reset).pt + 1, (wSubs (State.reset) false).setSubSt 0 { grid := some ((State.reset).pt + 1) }, by decide +kernel⟩,
  ⟨0, (wSubs (State.reset) false).setSubSt 0 { pend := some { validAt := (State.reset).pt + 1 } }, by decide +kernel⟩⟩

theorem test_hyps_ViewsOfTime :
    (∃ (s : State),
      4294967296 ≤ (s.mt.frc - s.mt.pt.frcBase).toNat) ∧
    (∃ (s : State),
      4294967296 ≤ (s.mt.frc - s.mt.bt.frcBase).toNat) ∧
    (∃ (n : Fin 8) (v : View) (s : State),
      v = Tab.get {} s.mt.tb n.val ∧ 4294967296 ≤ (s.mt.frc - v.frcBase).toNat) ∧
    (∃ (n : Fin 8) (v : View) (s : State),
      v = Tab.get {} s.mt.tb n.val ∧ (s.mt.frc - v.frcBase).toNat < 4294967296) :=
  ⟨⟨wOldView (State.reset), by decide +kernel⟩,
  ⟨wOldView (State.reset), by decide +kernel⟩,
  ⟨7, Tab.get {} (wOldView (State.reset)).mt.tb 7, wOldView (State.reset), by decide +kernel⟩,
  ⟨6, Tab.get {} ({ (State.reset) with mt := { (State.reset).mt with tb := [] } }).mt.tb 6, { (State.reset) with mt := { (State.reset).mt with tb := [] } }, by decide +kernel⟩⟩

theorem test_hyps_TimeSourcesAndServo :
    (∃ (s : State),
      s.fld Fld.MT_STATE_STATE = 1 ∧ s.fld Fld.MT_STATE_SOURCE = 1 ∧ s.partnerTime = false) ∧
    (∃ (s : State),
      s.fld Fld.MT_STATE_STATE = 1 ∧ s.fld Fld.MT_STATE_SOURCE = 1 ∧ s.partnerTime = true) ∧
    (∃ (s : State),
      s.fld Fld.MT_STATE_STATE = 3 ∧ s.flag Fld.MT_STATE_COORD_DEGRADED = false ∧ 1000 < s.errEst) ∧
    (∃ (s : State),
      s.fld Fld.MT_STATE_STATE ≠ 3 ∨ (s.errEst ≤ 1000 ∧ s.flag Fld.MT_STATE_COORD_DEGRADED = false)) ∧
    (∃ (d : Fin 128) (p : Fin 2) (secs : Nat) (ns : Nat) (c : Int) (r : Int) (res : Nat) (s : State),
      s.linkUp (p.val + 1) = true ∧ s.trackedDomain d.val = false) ∧
    (∃ (d : Fin 128) (p : Fin 2) (secs : Nat) (ns : Nat) (c : Int) (r : Int) (k : Int) (e : Int) (res : Nat) (s : State),
      s.linkUp (p.val + 1) = true ∧ s.trackedDomain d.val = true ∧ s.slaveAt d.val (p.val + 1) = true ∧
      s.follows (s.fld Fld.MT_PT_SRC_BASE) d.val = true ∧ s.relays (p.val + 1) = true ∧ s.mt.hist.length < 4 ∧
      k = cumRate r (Tab.get ({} : Pdelay) s.mt.pdelay (p.val + 1)).rate ∧ e = s.linkDelay (p.val + 1)) ∧
    (∃ (p : Fin 2) (q : Nat) (a : Nat) (b : Nat) (s : State),
      s.linkUp (p.val + 1) = true) ∧
    (∃ (p : Fin 2) (q : Nat) (t1 : Nat) (t2 : Nat) (t3 : Nat) (t4 : Nat) (s : State),
      s.linkUp (p.val + 1) = true ∧ (Tab.get ({} : Pdelay) s.mt.pdelay (p.val + 1)).open_ = true ∧
      (Tab.get ({} : Pdelay) s.mt.pdelay (p.val + 1)).seq = q) ∧
    (∃ (p : Fin 2) (s : State),
      s.linkUp (p.val + 1) = true) ∧
    (∃ (p : Fin 2) (a : Int) (b : Int) (s : State),
      -5 ≤ a ∧ a ≤ 0 ∧ -3 ≤ b ∧ b ≤ 3) ∧
    (∃ (p : Fin 2) (a : Int) (b : Int) (s : State),
      (a < -5 ∨ 0 < a) ∧ (b < -3 ∨ 3 < b)) ∧
    (∃ (d : Fin 128) (p : Fin 2) (n : Nat) (s : State),
      s.linkUp (p.val + 1) = true ∧ s.trackedDomain d.val = true ∧ s.img.extPorts.lookup d.val = none ∧
      s.relays (p.val + 1) = true) ∧
    (∃ (f : W64) (a : Nat) (b : Nat) (e : W64) (s : State),
      s.mt.ppsEdge = some e ∧ s.mt.ppsIval = some b ∧ a = (f - e).toNat ∧ a ≤ b + 100 ∧ b ≤ a + 100) ∧
    (∃ (f : W64) (a : Nat) (b : Nat) (e : W64) (s : State),
      s.mt.ppsEdge = some e ∧ s.mt.ppsIval = some b ∧ a = (f - e).toNat ∧ (b + 100 < a ∨ a + 100 < b)) ∧
    (∃ (z : Nat) (s : State),
      9999900 ≤ z ∧ z ≤ 10000100) ∧
    (∃ (z : Nat) (s : State),
      z < 9999900 ∨ 10000100 < z) ∧
    (∃ (n : Nat) (s : State),
      s.fld Fld.MT_STATE_STATE ≠ 0 ∧ (secPhase s.pt).natAbs ≤ 10 ∧ n = (s.pt.toNat + 10) / 1000000000 ∧
      s.mt.ppsSec ≠ some n) ∧
    (∃ (s : State),
      s.fld Fld.MT_STATE_STATE = 0 ∨ 10 < (secPhase s.pt).natAbs ∨ s.mt.ppsSec = some ((s.pt.toNat + 10) / 1000000000)) ∧
    (∃ (s : State),
      s.auth = false ∧ s.fld Fld.MT_STATE_STATE ≠ 0 ∧ (s.reepochSource).isSome = true) ∧
    (∃ (s : State),
      s.auth = true ∨ s.fld Fld.MT_STATE_STATE = 0) ∧
    (∃ (d : Fin 128) (p : Fin 2) (b : Bool) (n : Nat) (k : Nat) (s : State),
      s.linkUp (p.val + 1) = true ∧ s.trackedDomain d.val = true ∧ s.img.extPorts.lookup d.val = some k ∧
      k ≠ p.val + 1) :=
  ⟨⟨wLocked (State.reset) 1, by decide +kernel⟩,
  ⟨wPartnerTime (wLocked (State.reset) 1), by decide +kernel⟩,
  ⟨(wHoldE (State.reset) 2000).setFlag Fld.MT_STATE_COORD_DEGRADED false, by decide +kernel⟩,
  ⟨(wHoldE (State.reset) 1000).setFlag Fld.MT_STATE_COORD_DEGRADED false, by decide +kernel⟩,
  ⟨127, 1, 0, 0, 1, 1, 0, wPort (State.reset) 2, by decide +kernel⟩,
  ⟨0, 0, 100, 999999999, 5, 3, cumRate 3 (Tab.get ({} : Pdelay) (wSync (State.reset)).mt.pdelay 1).rate, (wSync (State.reset)).linkDelay 1, 6, wSync (State.reset), by decide +kernel⟩,
  ⟨0, 0, 0, 0, wPort (State.reset) 1, by decide +kernel⟩,
  ⟨0, 9, 10, 20, 30, 44, wPd (wPort (State.reset) 1) 1, by decide +kernel⟩,
  ⟨1, wPort (State.reset) 2, by decide +kernel⟩,
  ⟨(1 : Fin 2), -5, 3, (State.reset), by decide +kernel⟩,
  ⟨(1 : Fin 2), 1, -4, (State.reset), by decide +kernel⟩,
  ⟨0, 0, 0, wSync (State.reset), by decide +kernel⟩,
  ⟨2000000100#64, 1000000100, 1000000000, 1000000000#64, { (State.reset) with mt := { (State.reset).mt with ppsEdge := some 1000000000#64, ppsIval := some 1000000000 } }, by decide +kernel⟩,
  ⟨2000000101#64, 1000000101, 1000000000, 1000000000#64, { (State.reset) with mt := { (State.reset).mt with ppsEdge := some 1000000000#64, ppsIval := some 1000000000 } }, by decide +kernel⟩,
  ⟨10000100, (State.reset), by decide +kernel⟩,
  ⟨10000101, (State.reset), by decide +kernel⟩,
  ⟨8, wWhole (State.reset), by decide +kernel⟩,
  ⟨wLocked (State.reset) 0, by decide +kernel⟩,
  ⟨wTb ((State.reset).setFlag Fld.BN_STATUS_AUTH false), by decide +kernel⟩,
  ⟨(State.reset).setFlag Fld.BN_STATUS_AUTH true, by decide +kernel⟩,
  ⟨0, 0, true, 0, 2, { wSync (State.reset) with img := { (wSync (State.reset)).img with extPorts := [(0, 2)] } }, by decide +kernel⟩⟩

theorem test_hyps_LaunchEntries :
    (∃ (e : Nat) (k : Nat) (u : Instant) (d : BitVec 128) (s : State),
      s.entGrp e = some d ∧ s.handsOn (grpClass d) u = true ∧ s.runsAt d 1 u = true ∧ onGrid d 1 u = true ∧
      Instant.before u (s.pt.plus 2000) = false ∧ s.unhanded e u = true ∧ entAction (s.entry e) = 1 ∧
      entTargets (s.entry e) = [k] ∧ (Tab.get [] s.ln.chans (8 + k)).length < chanDepth (8 + k)) ∧
    (∃ (e : Nat) (k : Nat) (u : Instant) (d : BitVec 128) (s : State),
      s.entGrp e = some d ∧ s.handsOn (grpClass d) u = true ∧ s.runsAt d 1 u = true ∧ onGrid d 1 u = true ∧
      Instant.before u (s.pt.plus 2000) = false ∧ s.unhanded e u = true ∧ entAction (s.entry e) = 1 ∧
      entTargets (s.entry e) = [k] ∧ chanDepth (8 + k) ≤ (Tab.get [] s.ln.chans (8 + k)).length ∧ 8 + k < 18) ∧
    (∃ (e : Nat) (u : Instant) (d : BitVec 128) (s : State),
      s.entGrp e = some d ∧ s.handsOn (grpClass d) u = true ∧ s.runsAt d 3 u = true ∧ onGrid d 3 u = true ∧
      Instant.before u (s.pt.plus 2000) = false ∧ s.unhanded e u = true ∧ s.acting = true ∧
      entAction (s.entry e) = 3 ∧ (Tab.get [] s.ln.chans 2).length < 512) ∧
    (∃ (e : Nat) (u : Instant) (s : State),
      s.acting = false ∧ entAction (s.entry e) ≠ 1 ∧ entAction (s.entry e) ≠ 2) ∧
    (∃ (e : Nat) (u : Instant) (d : BitVec 128) (s : State),
      s.entGrp e = some d ∧
      (onGrid d (entAction (s.entry e)) u = false ∨ Instant.before u (s.pt.plus 2000) = true ∨ s.unhanded e u = false)) ∧
    (∃ (k : Fin 10) (g : Nat) (c : Instant) (rs : List (Nat × W64)) (q : List ChanMsg) (s : State),
      Tab.get [] s.ln.chans (32 + k.val) = .samples g c rs :: q ∧ Instant.before s.pt c = true) ∧
    (∃ (k : Fin 10) (e : Nat) (u : Instant) (q : List ChanMsg) (s : State),
      Tab.get [] s.ln.chans (48 + k.val) = .commit e u :: q ∧ s.alive (8 + k.val) = true ∧
      Instant.before s.pt u = false) ∧
    (∃ (k : Fin 10) (e : Nat) (u : Instant) (q : List ChanMsg) (s : State),
      Tab.get [] s.ln.chans (48 + k.val) = .commit e u :: q ∧ s.alive (8 + k.val) = true ∧
      Instant.before s.pt u = true) ∧
    (∃ (i : Fin 18) (e : Nat) (u : Instant) (q : List ChanMsg) (s : State),
      Tab.get [] s.ln.chans i.val = .entry e u :: q ∧ s.alive i.val = true ∧ Instant.before s.pt u = true) ∧
    (∃ (c : Channel) (s : State),
      s.ln.chans = []) ∧
    (∃ (g : Nat) (u : Instant) (d : BitVec 128) (s : State),
      s.group g = some d ∧ grpClass d = 0 ∧ s.launching 0 = true ∧ onGrid d 1 u = true ∧ s.reached u = true ∧
      Instant.before s.pt (u.plus 50000) = true ∧ s.collecting g u = false ∧
      (s.ln.expect.any fun x => x.group == g && x.c == u.plus 50000) = false ∧ s.acting = false) ∧
    (∃ (g : Nat) (e : Nat) (l : Nat) (u : Instant) (d : BitVec 128) (s : State),
      s.group g = some d ∧ grpClass d = 0 ∧ s.launching 0 = true ∧ onGrid d 1 u = true ∧ s.reached u = true ∧
      Instant.before s.pt (u.plus 50000) = true ∧ s.collecting g u = false ∧
      (s.ln.expect.any fun x => x.group == g && x.c == u.plus 50000) = false ∧ s.acting = true ∧
      s.runsAt d 3 u = true ∧ s.fastDue g u = [e] ∧ entTarget (s.entry e) = l ∧ entCount (s.entry e) = 1 ∧
      (s.loopAt l).isSome = true) ∧
    (∃ (g : Nat) (u : Instant) (d : BitVec 128) (s : State),
      s.group g = some d ∧
      (s.collecting g u = true ∨ (s.ln.expect.any fun x => x.group == g && x.c == u.plus 50000) = true ∨ Instant.before s.pt (u.plus 50000) = false)) ∧
    (∃ (e : Nat) (c : Instant) (d : BitVec 128) (s : State),
      s.entGrp e = some d ∧ s.runsNow e d 3 c = true ∧ grpClass d ≠ 0 ∧ s.acting = true ∧ s.isDue 2 e c = true) ∧
    (∃ (e : Nat) (l : Nat) (b : Nat) (c : Instant) (d : BitVec 128) (s : State),
      s.entGrp e = some d ∧ s.runsNow e d 3 c = true ∧ grpClass d ≠ 0 ∧ s.acting = true ∧ s.isDue 2 e c = false ∧
      entTargets (s.entry e) = [l] ∧ s.loopAt l = some b) ∧
    (∃ (e : Nat) (k : Nat) (c : Instant) (d : BitVec 128) (s : State),
      s.entGrp e = some d ∧ s.runsNow e d 4 c = true ∧ s.acting = true ∧ s.isDue 0 e c = true ∧
      entTarget (s.entry e) = k ∧ (s.task k).running = false ∧ (s.task k).stopped = false) ∧
    (∃ (e : Nat) (k : Nat) (c : Instant) (d : BitVec 128) (s : State),
      s.entGrp e = some d ∧ s.runsNow e d 4 c = true ∧ s.acting = true ∧ entTarget (s.entry e) = k ∧
      (s.task k).running = true) ∧
    (∃ (k : Nat) (p : Nat) (v : Word) (s : State),
      (s.task k).running = true ∧ (s.task k).late = false ∧ (s.task k).skipped = false ∧
      Instant.before s.pt (s.task k).k = true ∧ (s.taskPoints k).contains p = true) ∧
    (∃ (k : Nat) (ps : List (Nat × Word)) (ws : List (Nat × W64)) (s : State),
      (s.task k).running = true ∧ (s.task k).late = false ∧ (s.task k).skipped = false ∧
      (s.task k).counted ≠ some (s.task k).k ∧ Instant.before s.pt (s.task k).k = false) ∧
    (∃ (k : Nat) (s : State),
      (s.task k).running = true ∧ Instant.before s.pt (s.task k).k = false ∧ (s.task k).counted ≠ some (s.task k).k) ∧
    (∃ (k : Nat) (s : State),
      Instant.before s.pt (s.task k).k = true ∨ ((s.task k).running = false ∧ (s.task k).skipped = false)) :=
  ⟨⟨0, 3, 5000000#64, wGrp 1, wAt (wEntry (State.reset) 1 1 3) 4998000#64, by decide +kernel⟩,
  ⟨0, 3, 5000000#64, wGrp 1, wChan (wAt (wEntry (State.reset) 1 1 3) 4998000#64) 11 (List.replicate 64 (.entry 0 5#64)), by decide +kernel⟩,
  ⟨0, 5000300#64, wGrp 1, wAt ((wEntry (State.reset) 3 1 0).setFld Fld.BN_STATUS_ROLE 1) 4998000#64, by decide +kernel⟩,
  ⟨0, 1000000#64, (wEntry (State.reset) 3 1 0).setFld Fld.BN_STATUS_ROLE 2, by decide +kernel⟩,
  ⟨0, 5000000#64, wGrp 1, wAt (wEntry (State.reset) 1 1 3) 4998001#64, by decide +kernel⟩,
  ⟨9, 1, (State.reset).pt + 1, [(3, 9#64)], [], wChan (State.reset) 41 [.samples 1 ((State.reset).pt + 1) [(3, 9#64)]], by decide +kernel⟩,
  ⟨0, 1, (State.reset).pt, [.commit 2 5#64], wChan ((State.reset).setFlag Fld.SUP_ISLAND_ALIVE true 8) 48 [.commit 1 (State.reset).pt, .commit 2 5#64], by decide +kernel⟩,
  ⟨0, 1, (State.reset).pt + 1, [.commit 2 5#64], wChan ((State.reset).setFlag Fld.SUP_ISLAND_ALIVE true 8) 48 [.commit 1 ((State.reset).pt + 1), .commit 2 5#64], by decide +kernel⟩,
  ⟨17, 1, (State.reset).pt + 1, [], wChan ((State.reset).setFlag Fld.SUP_ISLAND_ALIVE true 17) 17 [.entry 1 ((State.reset).pt + 1)], by decide +kernel⟩,
  ⟨.commit 3, { (State.reset) with ln := { (State.reset).ln with chans := [] } }, by decide +kernel⟩,
  ⟨2, 5000000#64, wGrp 0, wFast (State.reset) 2, by decide +kernel⟩,
  ⟨2, 0, 0, 5000000#64, wGrp 0, wFast (State.reset) 1, by decide +kernel⟩,
  ⟨2, 5000000#64, wGrp 0, wAt (wFast (State.reset) 1) 5050000#64, by decide +kernel⟩,
  ⟨0, 5000300#64, wGrp 1, (wAt (wLoop ((wEntry (State.reset) 3 1 0).setFld Fld.BN_STATUS_ROLE 1) 0) 5000300#64).putDue 2 0 5000300#64, by decide +kernel⟩,
  ⟨0, 0, ((wAt (wLoop ((wEntry (State.reset) 3 1 0).setFld Fld.BN_STATUS_ROLE 1) 0) 5000300#64).loopAt 0).getD 0, 5000300#64, wGrp 1, wAt (wLoop ((wEntry (State.reset) 3 1 0).setFld Fld.BN_STATUS_ROLE 1) 0) 5000300#64, by decide +kernel⟩,
  ⟨0, 7, 5000300#64, wGrp 1, (wAt (wTask ((wEntry (State.reset) 4 1 7).setFld Fld.BN_STATUS_ROLE 1) {}) 5000300#64).putDue 0 0 5000300#64, by decide +kernel⟩,
  ⟨0, 7, 5000300#64, wGrp 1, (wAt (wTask ((wEntry (State.reset) 4 1 7).setFld Fld.BN_STATUS_ROLE 1) { running := true }) 5000300#64).putDue 0 0 5000300#64, by decide +kernel⟩,
  ⟨7, 3, 5#32, wTask { (State.reset) with img := { (State.reset).img with taskPts := [(7, 3)] } } { running := true, k := (State.reset).pt + 1 }, by decide +kernel⟩,
  ⟨7, [(3, 5#32)], [], wTask { (State.reset) with img := { (State.reset).img with taskPts := [(7, 3)] } } { running := true, k := (State.reset).pt }, by decide +kernel⟩,
  ⟨7, wTask { (State.reset) with img := { (State.reset).img with taskPts := [(7, 3)] } } { running := true, k := (State.reset).pt }, by decide +kernel⟩,
  ⟨7, wTask (State.reset) { running := true, k := (State.reset).pt + 1 }, by decide +kernel⟩⟩

theorem test_hyps_CommitAndPublish :
    (∃ (e : Nat) (k : Nat) (i : Nat) (u : Instant) (d : BitVec 128) (r : W64) (s : State),
      s.entGrp e = some d ∧ s.runsNow e d 5 u = true ∧ s.acting = true ∧ entTargets (s.entry e) = [k] ∧ k < 4 ∧
      i < 8 ∧ s.commitInTime k e u = true ∧ s.ucOut (8 * k + i) = true ∧
      s.flag Fld.UC_CFG_OUTKIND (8 * k + i) = false ∧
      (s.upTo u).ln.rolled.contains (s.ucCfg (8 * k + i)).cmd = false ∧
      r = (s.upTo u).piGet (s.ucCfg (8 * k + i)).cmd ∧ recKind r = 1 ∧ recBit r qNoAuth = false) ∧
    (∃ (e : Nat) (k : Nat) (i : Nat) (u : Instant) (d : BitVec 128) (s : State),
      s.entGrp e = some d ∧ s.runsNow e d 5 u = true ∧ s.acting = true ∧ entTargets (s.entry e) = [k] ∧ k < 4 ∧
      i < 8 ∧ s.commitInTime k e u = false ∧ s.ucOut (8 * k + i) = true ∧
      s.flag Fld.UC_CFG_OUTKIND (8 * k + i) = false) ∧
    (∃ (e : Nat) (u : Instant) (s : State),
      s.acting = false) ∧
    (∃ (e : Nat) (n : Nat) (u : Instant) (d : BitVec 128) (c : PubCfg) (s : State) (v : State),
      s.entGrp e = some d ∧ s.runsNow e d 7 u = true ∧ s.acting = true ∧ s.isDue 4 e u = true ∧
      s.streamsAt u = [n] ∧ s.pubCfg n = some c ∧ c.repl = false ∧ s.epochSendable = true ∧
      s.portOpen c.port = true ∧ s.gateOpen c.port 6 = true ∧ s.fitsWindow c.port = true ∧ v = s.upTo u) ∧
    (∃ (e : Nat) (u : Instant) (d : BitVec 128) (s : State),
      s.entGrp e = some d ∧ s.runsNow e d 7 u = true ∧ s.acting = true ∧ s.isDue 4 e u = false) ∧
    (∃ (p : Pub) (n : Nat) (k : Instant),
      p.started = true ∧ 0 < n ∧ p.base.toNat + n < 2 ^ 64 ∧ k = p.base + BitVec.ofNat 64 n) :=
  ⟨⟨0, 1, 7, 5000600#64, wGrp 1, ((((wAt (wCommit ((wEntry (State.reset) 5 1 1).setFld Fld.BN_STATUS_ROLE 1) 1 15) 5000600#64).putDue 9 0 5000600#64).putDue 49 0 5000600#64).upTo (5000600#64)).piGet ((((wAt (wCommit ((wEntry (State.reset) 5 1 1).setFld Fld.BN_STATUS_ROLE 1) 1 15) 5000600#64).putDue 9 0 5000600#64).putDue 49 0 5000600#64).ucCfg 15).cmd, ((wAt (wCommit ((wEntry (State.reset) 5 1 1).setFld Fld.BN_STATUS_ROLE 1) 1 15) 5000600#64).putDue 9 0 5000600#64).putDue 49 0 5000600#64, by decide +kernel⟩,
  ⟨0, 1, 7, 5000600#64, wGrp 1, ((wAt (wCommit ((wEntry (State.reset) 5 1 1).setFld Fld.BN_STATUS_ROLE 1) 1 15) 5000600#64).putDue 9 0 5000600#64), by decide +kernel⟩,
  ⟨0, 1000000#64, (wEntry (State.reset) 5 1 1).setFld Fld.BN_STATUS_ROLE 2, by decide +kernel⟩,
  ⟨0, 0, 5000600#64, wGrp 1, { port := 1, points := [3] }, (wAt (wPub ((wEntry (State.reset) 7 1 0).setFld Fld.BN_STATUS_ROLE 1)) 5000600#64).putDue 4 0 5000600#64, ((wAt (wPub ((wEntry (State.reset) 7 1 0).setFld Fld.BN_STATUS_ROLE 1)) 5000600#64).putDue 4 0 5000600#64).upTo (5000600#64), by decide +kernel⟩,
  ⟨0, 5000600#64, wGrp 1, wAt (wPub ((wEntry (State.reset) 7 1 0).setFld Fld.BN_STATUS_ROLE 1)) 5000600#64, by decide +kernel⟩,
  ⟨{ seq := 0xFFFFFFFF, started := true, base := 7#64 }, 1000000, 1000007#64, by decide +kernel⟩⟩

theorem test_hyps_LoopsInTime :
    (∃ (l : Nat) (b : Nat) (j : Job) (s : State) (v : State),
      (s.run l).job = some j ∧ s.loopAt l = some b ∧ j.fast = false ∧ Instant.before s.pt j.due = true ∧
      j.enter = 0 ∧ j.badSet = none ∧ j.kind ≠ 2 ∧ v = s.settle s.pt) ∧
    (∃ (l : Nat) (b : Nat) (j : Job) (s : State) (v : State),
      (s.run l).job = some j ∧ s.loopAt l = some b ∧ j.fast = false ∧ Instant.before s.pt j.due = false ∧
      v = s.settle j.due) ∧
    (∃ (l : Nat) (b : Nat) (j : Job) (s : State),
      (s.run l).job = some j ∧ s.loopAt l = some b ∧ j.fast = false ∧ Instant.before s.pt j.due = false) ∧
    (∃ (l : Nat) (b : Nat) (j : Job) (s : State) (v : State),
      (s.run l).job = some j ∧ s.loopAt l = some b ∧ j.fast = true ∧ Instant.before s.pt j.due = false ∧
      v = s.settle j.due) ∧
    (∃ (l : Nat) (b : Nat) (j : Job) (s : State) (v : State),
      (s.run l).job = some j ∧ s.loopAt l = some b ∧ j.fast = true ∧ Instant.before s.pt j.due = true ∧
      j.enter = 0 ∧ j.badSet = none ∧ j.kind ≠ 2 ∧ v = s.settle s.pt) ∧
    (∃ (l : Nat) (s : State),
      (s.run l).job = none) ∧
    (∃ (k : Fin 8) (l : Nat) (c : Nat) (q : List Nat) (s : State),
      s.lane k.val = c :: q ∧ s.laneIn k.val = true ∧ s.le.ready.contains l = true ∧ s.loopClass l < s.loopClass c) ∧
    (∃ (k : Fin 8) (s : State),
      s.laneIn k.val = true ∧ s.lane k.val = []) ∧
    (∃ (k : Fin 8) (n : Nat) (s : State),
      s.laneIn k.val = true ∧ n = ((List.range 8).filter fun i => i != k.val && s.laneIn i).length) :=
  ⟨⟨0, 0, { due := (State.reset).pt + 1, blocks := [5#256, 6#256] }, wJob (wLoop (State.reset) 0) { due := (State.reset).pt + 1, blocks := [5#256, 6#256] }, (wJob (wLoop (State.reset) 0) { due := (State.reset).pt + 1, blocks := [5#256, 6#256] }).settle (wJob (wLoop (State.reset) 0) { due := (State.reset).pt + 1, blocks := [5#256, 6#256] }).pt, by decide +kernel⟩,
  ⟨0, 0, { due := (State.reset).pt }, wJob (wLoop (State.reset) 0) { due := (State.reset).pt }, (wJob (wLoop (State.reset) 0) { due := (State.reset).pt }).settle ({ due := (State.reset).pt } : Job).due, by decide +kernel⟩,
  ⟨0, 0, { due := (State.reset).pt }, wJob (wLoop (State.reset) 0) { due := (State.reset).pt }, by decide +kernel⟩,
  ⟨0, 0, { due := (State.reset).pt, fast := true }, wJob (wLoop (State.reset) 0) { due := (State.reset).pt, fast := true }, (wJob (wLoop (State.reset) 0) { due := (State.reset).pt, fast := true }).settle ({ due := (State.reset).pt, fast := true } : Job).due, by decide +kernel⟩,
  ⟨0, 0, { due := (State.reset).pt + 1, sAt := (State.reset).pt - 9, fast := true, blocks := [5#256, 6#256] }, wJob (wLoop (State.reset) 0) { due := (State.reset).pt + 1, sAt := (State.reset).pt - 9, fast := true, blocks := [5#256, 6#256] }, (wJob (wLoop (State.reset) 0) { due := (State.reset).pt + 1, sAt := (State.reset).pt - 9, fast := true, blocks := [5#256, 6#256] }).settle (wJob (wLoop (State.reset) 0) { due := (State.reset).pt + 1, sAt := (State.reset).pt - 9, fast := true, blocks := [5#256, 6#256] }).pt, by decide +kernel⟩,
  ⟨3, { (State.reset) with le := { (State.reset).le with runs := [] } }, by decide +kernel⟩,
  ⟨7, 0, 1, [], wLane (wLoop (State.reset) 0) 7, by decide +kernel⟩,
  ⟨7, ((State.reset).setFld Fld.LE_CTL_LANE_EN 0xFF).setLane 7 [], by decide +kernel⟩,
  ⟨0, 7, (State.reset).setFld Fld.LE_CTL_LANE_EN 0xFF, by decide +kernel⟩⟩

theorem test_hyps_LoopCommands :
    (∃ (w : Writer) (l : Nat) (b : Nat) (d : BitVec 512) (x : LoopWork) (s : State),
      s.loopOf l = some (b, d, x) ∧ x.state ≠ 3) ∧
    (∃ (w : Writer) (l : Nat) (b : Nat) (d : BitVec 512) (x : LoopWork) (s : State),
      s.loopOf l = some (b, d, x) ∧ x.state ≠ 3 ∧ (Fl.ofBits (s.reg .LE_CMD_VAL (wIdx w))).finite = true) ∧
    (∃ (w : Writer) (l : Nat) (b : Nat) (d : BitVec 512) (x : LoopWork) (s : State),
      s.loopOf l = some (b, d, x) ∧ x.state = 1 ∧ (Fl.ofBits (s.reg .LE_CMD_VAL (wIdx w))).finite = true) ∧
    (∃ (w : Writer) (l : Nat) (b : Nat) (d : BitVec 512) (x : LoopWork) (s : State),
      s.loopOf l = some (b, d, x) ∧ x.state = 3) ∧
    (∃ (l : Nat) (b : Nat) (n : Fin 4) (d : BitVec 512) (x : LoopWork) (s : State),
      s.loopOf l = some (b, d, x) ∧ (n.val = x.active ∨ (x.held n.val).any (fun c => setValid d c) = true)) ∧
    (∃ (l : Nat) (b : Nat) (n : Fin 4) (d : BitVec 512) (x : LoopWork) (s : State),
      s.loopOf l = some (b, d, x) ∧ n.val ≠ x.active) ∧
    (∃ (w : Writer) (l : Nat) (s : State),
      s.loopOf l = none) ∧
    (∃ (l : Nat) (b : Nat) (n : Fin 4) (d : BitVec 512) (x : LoopWork) (s : State),
      s.loopOf l = some (b, d, x)) ∧
    (∃ (w : Writer) (l : Nat) (b : Nat) (d : BitVec 512) (x : LoopWork) (s : State),
      s.loopOf l = some (b, d, x) ∧ x.state = 3) ∧
    (∃ (w : Writer) (l : Nat) (b : Nat) (d : BitVec 512) (x : LoopWork) (s : State),
      s.loopOf l = some (b, d, x) ∧ x.state ≠ 3 ∧ (Fl.ofBits (s.reg .LE_CMD_VAL (wIdx w))).finite = false) ∧
    (∃ (w : Writer) (l : Nat) (b : Nat) (d : BitVec 512) (x : LoopWork) (s : State),
      s.loopOf l = some (b, d, x) ∧ x.state ≠ 3) :=
  ⟨⟨.sup, 0, (((wLoop (State.reset) 1).loopOf 0).getD (0, 0, {})).1, (((wLoop (State.reset) 1).loopOf 0).getD (0, 0, {})).2.1, (((wLoop (State.reset) 1).loopOf 0).getD (0, 0, {})).2.2, wLoop (State.reset) 1, by decide +kernel⟩,
  ⟨.app, 0, ((((wLoop (State.reset) 0).setReg .LE_CMD_VAL 0 0x3F800000#32).loopOf 0).getD (0, 0, {})).1, ((((wLoop (State.reset) 0).setReg .LE_CMD_VAL 0 0x3F800000#32).loopOf 0).getD (0, 0, {})).2.1, ((((wLoop (State.reset) 0).setReg .LE_CMD_VAL 0 0x3F800000#32).loopOf 0).getD (0, 0, {})).2.2, (wLoop (State.reset) 0).setReg .LE_CMD_VAL 0 0x3F800000#32, by decide +kernel⟩,
  ⟨.app, 0, ((((wLoop (State.reset) 1).setReg .LE_CMD_VAL 0 0x3F800000#32).loopOf 0).getD (0, 0, {})).1, ((((wLoop (State.reset) 1).setReg .LE_CMD_VAL 0 0x3F800000#32).loopOf 0).getD (0, 0, {})).2.1, ((((wLoop (State.reset) 1).setReg .LE_CMD_VAL 0 0x3F800000#32).loopOf 0).getD (0, 0, {})).2.2, (wLoop (State.reset) 1).setReg .LE_CMD_VAL 0 0x3F800000#32, by decide +kernel⟩,
  ⟨.app, 0, (((wLoop (State.reset) 3).loopOf 0).getD (0, 0, {})).1, (((wLoop (State.reset) 3).loopOf 0).getD (0, 0, {})).2.1, (((wLoop (State.reset) 3).loopOf 0).getD (0, 0, {})).2.2, wLoop (State.reset) 3, by decide +kernel⟩,
  ⟨0, (((wLoop (State.reset) 0).loopOf 0).getD (0, 0, {})).1, 0, (((wLoop (State.reset) 0).loopOf 0).getD (0, 0, {})).2.1, (((wLoop (State.reset) 0).loopOf 0).getD (0, 0, {})).2.2, wLoop (State.reset) 0, by decide +kernel⟩,
  ⟨0, (((wLoop (State.reset) 0).loopOf 0).getD (0, 0, {})).1, 3, (((wLoop (State.reset) 0).loopOf 0).getD (0, 0, {})).2.1, (((wLoop (State.reset) 0).loopOf 0).getD (0, 0, {})).2.2, wLoop (State.reset) 0, by decide +kernel⟩,
  ⟨.sup, 5, { (State.reset) with le := { (State.reset).le with dir := [] } }, by decide +kernel⟩,
  ⟨0, (((wLoop (State.reset) 0).loopOf 0).getD (0, 0, {})).1, 3, (((wLoop (State.reset) 0).loopOf 0).getD (0, 0, {})).2.1, (((wLoop (State.reset) 0).loopOf 0).getD (0, 0, {})).2.2, wLoop (State.reset) 0, by decide +kernel⟩,
  ⟨.app, 0, (((wLoop (State.reset) 3).loopOf 0).getD (0, 0, {})).1, (((wLoop (State.reset) 3).loopOf 0).getD (0, 0, {})).2.1, (((wLoop (State.reset) 3).loopOf 0).getD (0, 0, {})).2.2, wLoop (State.reset) 3, by decide +kernel⟩,
  ⟨.app, 0, ((((wLoop (State.reset) 0).setReg .LE_CMD_VAL 0 0x7F800000#32).loopOf 0).getD (0, 0, {})).1, ((((wLoop (State.reset) 0).setReg .LE_CMD_VAL 0 0x7F800000#32).loopOf 0).getD (0, 0, {})).2.1, ((((wLoop (State.reset) 0).setReg .LE_CMD_VAL 0 0x7F800000#32).loopOf 0).getD (0, 0, {})).2.2, (wLoop (State.reset) 0).setReg .LE_CMD_VAL 0 0x7F800000#32, by decide +kernel⟩,
  ⟨.app, 0, (((wLoop (State.reset) 0).loopOf 0).getD (0, 0, {})).1, (((wLoop (State.reset) 0).loopOf 0).getD (0, 0, {})).2.1, (((wLoop (State.reset) 0).loopOf 0).getD (0, 0, {})).2.2, wLoop (State.reset) 0, by decide +kernel⟩⟩

theorem test_hyps_SamplesOfOwnSlices :
    (∃ (k : Fin 10) (g : Nat) (u : Instant) (ws : List (Fin 32 × List (BitVec 24))) (d : BitVec 128) (s : State) (v : State),
      s.group g = some d ∧ s.launching (grpClass d) = true ∧ s.alive (8 + k.val) = true ∧
      (s.slice k.val).loaded = true ∧ s.reached u = true ∧ (s.sampleDue k.val g u).isEmpty = false ∧
      (Tab.get [] s.ln.chans (32 + k.val)).length < 4 ∧ v = s.settle u) ∧
    (∃ (k : Fin 10) (g : Nat) (u : Instant) (ws : List (Fin 32 × List (BitVec 24))) (d : BitVec 128) (s : State),
      s.group g = some d ∧ s.launching (grpClass d) = true ∧ s.alive (8 + k.val) = true ∧
      (s.slice k.val).loaded = true ∧ s.reached u = true ∧ (s.sampleDue k.val g u).isEmpty = false ∧
      4 ≤ (Tab.get [] s.ln.chans (32 + k.val)).length) ∧
    (∃ (k : Fin 10) (g : Nat) (u : Instant) (ws : List (Fin 32 × List (BitVec 24))) (s : State),
      s.alive (8 + k.val) = false ∨ s.sampleDue k.val g u = []) ∧
    (∃ (m : Nat) (cls : Nat) (u : Instant) (ws : List (Fin 32 × List (BitVec 24))) (s : State),
      m < 48 ∧ s.dcInGroup m cls = true ∧ s.dcMode m = 1 ∧
      s.windowOver (s.slice (4 + m / 8)).spoiled u (dcFilterNs (s.fld Fld.DC_CFG_FILT m)) = false) ∧
    (∃ (m : Nat) (cls : Nat) (u : Instant) (ws : List (Fin 32 × List (BitVec 24))) (s : State),
      m < 48 ∧ s.dcInGroup m cls = true ∧ s.dcMode m = 2 ∧
      s.windowOver (s.slice (4 + m / 8)).spoiled u (dcFilterNs (s.fld Fld.DC_CFG_FILT m)) = false) ∧
    (∃ (m : Nat) (cls : Nat) (u : Instant) (ws : List (Fin 32 × List (BitVec 24))) (s : State) (p : Nat),
      m < 48 ∧ p = (s.dcCfg m).point ∧ s.dcInGroup m cls = true ∧ s.dcMode m ≠ 3 ∧
      s.windowOver (s.slice (4 + m / 8)).spoiled u (dcFilterNs (s.fld Fld.DC_CFG_FILT m)) = true) ∧
    (∃ (n : Nat) (cls : Nat) (p : Nat) (u : Instant) (s : State),
      n < 32 ∧ p = (s.ucCfg n).point ∧ s.ucInGroup n cls = true) ∧
    (∃ (n : Fin 32) (cls : Nat) (u : Instant) (w : Fl) (s : State),
      (s.uc n.val).oos = true) ∧
    (∃ (n : Fin 32) (cls : Nat) (u : Instant) (w : Fl) (s : State),
      (s.uc n.val).oos = false ∧ ((s.ucValue n.val w).2 = true ∨ (s.ucCfg n.val).tauCs = 0)) :=
  ⟨⟨9, 2, 5000000#64, [], wGrp 1, (wShell (wAt (wEntry (State.reset) 1 1 9) 5000000#64) 9).putDue 17 0 5000000#64, ((wShell (wAt (wEntry (State.reset) 1 1 9) 5000000#64) 9).putDue 17 0 5000000#64).settle (5000000#64), by decide +kernel⟩,
  ⟨9, 2, 5000000#64, [], wGrp 1, (wChan (wShell (wAt (wEntry (State.reset) 1 1 9) 5000000#64) 9) 41 (List.replicate 4 (.commit 0 5#64))).putDue 17 0 5000000#64, by decide +kernel⟩,
  ⟨(1 : Fin 10), 0, 1000000#64, [], (State.reset).setFlag Fld.SUP_ISLAND_ALIVE false (8 + ((1 : Fin 10)).val), by decide +kernel⟩,
  ⟨47, 1, (State.reset).pt, [], wClean (wDc (State.reset) 47 1) 9, by decide +kernel⟩,
  ⟨0, 1, (State.reset).pt, [], wClean (wDc (State.reset) 0 2) 4, by decide +kernel⟩,
  ⟨0, 1, (State.reset).pt, [], ((wDc (State.reset) 0 2).setFld Fld.DC_CFG_FILT 1 0).setSlice 4 { loaded := true, spoiled := some (State.reset).mt.frc }, ((((wDc (State.reset) 0 2).setFld Fld.DC_CFG_FILT 1 0).setSlice 4 { loaded := true, spoiled := some (State.reset).mt.frc }).dcCfg 0).point, by decide +kernel⟩,
  ⟨31, 1, ((wUc (State.reset) 31 2).ucCfg (31)).point, 1000000#64, wUc (State.reset) 31 2, by decide +kernel⟩,
  ⟨0, 1, 1000000#64, Fl.one, (wUc (State.reset) 0 2).setUc 0 { oos := true }, by decide +kernel⟩,
  ⟨0, 1, 1000000#64, Fl.one, { (wUc (State.reset) 0 2).setUc 0 {} with img := { (State.reset).img with uc := [] } }, ⟨by decide +kernel, Or.inr (by decide +kernel)⟩⟩⟩

theorem test_hyps_ChannelDiagnostics :
    (∃ (n : Fin 32) (b : Fin 16) (cause : DiagCause) (s : State),
      s.ucServes n.val = true ∧ s.ucApplies n.val b.val = true ∧ s.liveUc n.val b.val = false ∧ s.ucMode n.val ≠ 8 ∧
      b.val ≠ 15 ∧ (s.ucMode n.val ≠ 4 ∨ b.val ≠ 4 ∨ cause ≠ .clamped) ∧ (s.uc n.val).limAt = none ∧
      s.takesRecord (8 + n.val / 8)) ∧
    (∃ (n : Fin 32) (b : Fin 16) (cause : DiagCause) (s : State),
      s.liveUc n.val b.val = true ∧ s.ucMode n.val ≠ 8 ∧ b.val ≠ 15 ∧
      (s.ucMode n.val ≠ 4 ∨ b.val ≠ 4 ∨ cause ≠ .clamped) ∧ (s.uc n.val).limAt = none) ∧
    (∃ (n : Fin 32) (b : Fin 16) (cause : DiagCause) (s : State),
      s.ucServes n.val = true ∧ s.ucApplies n.val b.val = true ∧ s.ucMode n.val = 8 ∧ b.val = 5 ∧
      (s.uc n.val).limAt = none) ∧
    (∃ (n : Fin 32) (b : Fin 16) (cause : DiagCause) (s : State),
      s.ucServes n.val = true ∧ s.ucMode n.val = 8 ∧ b.val = 7 ∧ (s.uc n.val).limAt = none ∧
      (s.uc n.val).vOff = false) ∧
    (∃ (n : Fin 32) (b : Fin 16) (cause : DiagCause) (f : W64) (s : State),
      (s.uc n.val).limAt = some f ∧ 100000000 ≤ (s.mt.frc - f).toNat ∧ s.ucServes n.val = false) ∧
    (∃ (n : Fin 32) (b : Fin 16) (s : State),
      s.ucServes n.val = true ∧ s.ucMode n.val = 4 ∧ b.val = 4 ∧ (s.uc n.val).limAt = none) ∧
    (∃ (m : Fin 48) (b : Fin 16) (cause : DiagCause) (s : State),
      s.dcServes m.val = true ∧ s.dcApplies m.val b.val = true ∧ s.liveDc m.val b.val = false ∧ b.val ≠ 4 ∧
      s.takesRecord (12 + m.val / 8)) ∧
    (∃ (m : Fin 48) (j : Fin 48) (b : Fin 16) (s : State),
      s.dcServes m.val = true ∧ s.dcApplies m.val b.val = true ∧ b.val = 4 ∧ s.foreignBy m.val j.val = true) ∧
    (∃ (m : Fin 48) (j : Fin 48) (b : Fin 16) (s : State),
      b.val = 4 ∧ s.foreignBy m.val j.val = false) ∧
    (∃ (n : Fin 32) (b : Fin 16) (s : State),
      b.val ≠ 15 ∧ b.val ≠ 7 ∧ (s.ucMode n.val ≠ 4 ∨ b.val ≠ 4) ∧ (s.uc n.val).limAt = none) ∧
    (∃ (n : Fin 32) (s : State),
      (s.uc n.val).limAt = none) ∧
    (∃ (n : Fin 32) (s : State),
      (s.uc n.val).limAt = none) ∧
    (∃ (k : Fin 4) (own : F32) (check : F32) (i : Nat) (s : State),
      (s.slice k.val).loaded = true ∧ s.alive (8 + k.val) = true ∧ (s.slice k.val).next = i ∧
      s.ucServes (8 * k.val + i) = true ∧ s.ucApplies (8 * k.val + i) 9 = true) ∧
    (∃ (n : Fin 32) (ohms : Nat) (s : State),
      s.ucServes n.val = true ∧ s.ucMode n.val = 5 ∧ s.shows (8 + n.val / 8) = true) ∧
    (∃ (n : Fin 32) (x : Bool) (s : State),
      s.ucMode n.val = 8 ∧ (s.uc n.val).vOff = true) ∧
    (∃ (k : Fin 10) (c : Int) (s : State),
      125 < c) ∧
    (∃ (k : Fin 10) (c : Int) (s : State),
      c < 115) ∧
    (∃ (k : Fin 10) (c : Int) (s : State),
      115 ≤ c ∧ c ≤ 125) ∧
    (∃ (k : Fin 10) (c : Int) (s : State),
      -128 ≤ c ∧ c ≤ 127) ∧
    (∃ (n : Fin 32) (e : Nat) (s : State),
      s.ucServes n.val = true ∧ elemServes (s.ucMode n.val) e = false) ∧
    (∃ (n : Fin 32) (e : Nat) (s : State),
      ((s.uc n.val).elem = none ∨ (s.uc n.val).elem = some e) ∧ elemServes (s.ucMode n.val) e = true) :=
  ⟨⟨31, 0, .plain, wNoLim (wNoLive (wRoom (wUc (State.reset) 31 2)) 31) 31, by unfold State.takesRecord; decide +kernel⟩,
  ⟨0, 3, .plain, wNoLim ((wUc (State.reset) 0 2).setFld Fld.UC_STAT_LIVE 8 0) 0, by decide +kernel⟩,
  ⟨7, 5, .plain, (wNoLim (wUc (State.reset) 7 8) 7).setFlag Fld.UC_STAT_STAGE_ON true 7, by decide +kernel⟩,
  ⟨7, 7, .plain, wNoLim (wUc (State.reset) 7 8) 7, by decide +kernel⟩,
  ⟨7, 7, .plain, (State.reset).mt.frc - 100000000#64, ((wUc (State.reset) 7 8).setFlag Fld.UC_STAT_IN_SERVICE false 7).setUc 7 { limAt := some ((State.reset).mt.frc - 100000000#64) }, by decide +kernel⟩,
  ⟨7, 4, wNoLim (wUc (State.reset) 7 4) 7, by decide +kernel⟩,
  ⟨47, 8, .plain, (wRoom (wDc (State.reset) 47 1)).setFld Fld.DC_STAT_LIVE 0 47, by unfold State.takesRecord; decide +kernel⟩,
  ⟨8, 47, 4, wForeign (State.reset), by decide +kernel⟩,
  ⟨8, 8, 4, (State.reset), by decide +kernel⟩,
  ⟨0, 14, wNoLim (State.reset) 0, by decide +kernel⟩,
  ⟨0, wNoLim (State.reset) 0, by decide +kernel⟩,
  ⟨0, wNoLim (State.reset) 0, by decide +kernel⟩,
  ⟨3, 0, 0, 7, wNext (wUc (State.reset) 31 2) 3, by decide +kernel⟩,
  ⟨8, 20001, wShow (wUc (State.reset) 8 5) 9 true, by decide +kernel⟩,
  ⟨8, true, (wUc (State.reset) 8 8).setUc 8 { (State.reset).uc 8 with vOff := true }, by decide +kernel⟩,
  ⟨9, 126, (State.reset), by decide +kernel⟩,
  ⟨0, 114, (State.reset), by decide +kernel⟩,
  ⟨0, 115, (State.reset), by decide +kernel⟩,
  ⟨3, -128, (State.reset), by decide +kernel⟩,
  ⟨0, 1, wUc (State.reset) 0 2, by decide +kernel⟩,
  ⟨0, 2, (wUc (State.reset) 0 2).setUc 0 {}, by decide +kernel⟩⟩

theorem test_hyps_HartTransactions :
    (∃ (n : Fin 32) (i : Nat) (r : HartReply) (s : State),
      s.hartOn n.val = true ∧ s.hartPassing n.val = false ∧ s.shows (8 + n.val / 8) = true ∧ r.malf = false) ∧
    (∃ (n : Fin 32) (s : State),
      s.hartOn n.val = true ∧ s.hartPassing n.val = false ∧ s.shows (8 + n.val / 8) = true) ∧
    (∃ (n : Fin 32) (s : State),
      s.hartOn n.val = true ∧ s.hartPassing n.val = false ∧ s.shows (8 + n.val / 8) = true ∧
      s.flag Fld.UC_HART_CONNECTED n.val = true ∧ (s.uc n.val).burst = false) ∧
    (∃ (n : Fin 32) (s : State),
      s.hartOn n.val = true ∧ (s.uc n.val).hart = .none ∧ s.shows (8 + n.val / 8) = true ∧
      s.flag Fld.UC_HART_CONNECTED n.val = true ∧ (s.uc n.val).burst = true) ∧
    (∃ (n : Fin 32) (r : HartReply) (s : State),
      s.hartOn n.val = false ∨ s.flag Fld.UC_HART_CONNECTED n.val = false) ∧
    (∃ (n : Fin 32) (r : HartReply) (s : State),
      s.hartServes n.val r = true ∧ r.burst = false ∧ r.malf = false) ∧
    (∃ (n : Fin 32) (c : UcChan) (s : State),
      s.uc n.val = c ∧ (c.hart = .poll ∨ c.hart = .connect)) ∧
    (∃ (n : Fin 32) (k : Nat) (id : Word) (s : State),
      (s.uc n.val).hart = .pass k id) ∧
    (∃ (n : Fin 32) (s : State),
      (s.uc n.val).hart = .none ∧ ((s.uc n.val).pass = none ∨ s.shows (8 + n.val / 8) = true)) ∧
    (∃ (n : Fin 32) (k : Nat) (id : Word) (fr : List Byte) (s : State),
      (s.uc n.val).hart = .none ∧ (s.uc n.val).pass = some (k, id, fr) ∧ s.shows (8 + n.val / 8) = false) ∧
    (∃ (n : Fin 32) (i : Option (Nat × HartReply)) (s : State),
      s.hartOn n.val = false ∨ s.hartPassing n.val = true) :=
  ⟨⟨31, 7, { code := 3 }, wHart (State.reset) 31, by decide +kernel⟩,
  ⟨31, wHart (State.reset) 31, by decide +kernel⟩,
  ⟨0, ((wHart (State.reset) 0).setUc 0 { (State.reset).uc 0 with burst := false }).setFlag Fld.UC_HART_CONNECTED true 0, by decide +kernel⟩,
  ⟨0, ((wHart (State.reset) 0).setUc 0 { burst := true }).setFlag Fld.UC_HART_CONNECTED true 0, by decide +kernel⟩,
  ⟨0, {}, (wHart (State.reset) 0).setFlag Fld.UC_HART_CONNECTED false 0, by decide +kernel⟩,
  ⟨0, { code := 5 }, ((wHart (State.reset) 0).setFlag Fld.UC_HART_CONNECTED true 0).setUc 0 { hart := .poll }, by decide +kernel⟩,
  ⟨0, { hart := .poll }, (State.reset).setUc 0 { hart := .poll }, by decide +kernel⟩,
  ⟨0, 2, 9#32, (State.reset).setUc 0 { hart := .pass 2 9#32 }, by decide +kernel⟩,
  ⟨0, (State.reset).setUc 0 {}, by decide +kernel⟩,
  ⟨0, 2, 9#32, [1#8], (wShow (State.reset) 8 false).setUc 0 { pass := some (2, 9#32, [1#8]) }, by decide +kernel⟩,
  ⟨0, none, (wHart (State.reset) 0).setUc 0 { hart := .pass 2 9#32 }, by decide +kernel⟩⟩

theorem test_hyps_DigitalChannels :
    (∃ (m : Fin 48) (on : Bool) (s : State),
      s.dcMode m.val = 2 ∧ (s.dc m.val).state ≠ on ∧ s.boot.committed = true ∧
      s.flag Fld.RST_POWER_DORMANT = false ∧ s.dcCounts m.val on = true) ∧
    (∃ (m : Fin 48) (on : Bool) (s : State),
      s.dcMode m.val ≠ 2 ∧ (s.dc m.val).state ≠ on ∧ s.flag Fld.RST_POWER_DORMANT = false) ∧
    (∃ (m : Fin 48) (on : Bool) (s : State),
      (s.dc m.val).state = on) ∧
    (∃ (m : Fin 48) (s : State),
      s.dcMode m.val = 3 ∧ s.flag Fld.DC_STAT_STAGE_ON m.val = true) ∧
    (∃ (m : Fin 48) (s : State),
      (s.dc m.val).ovl = true ∧ (s.dc m.val).cmd = some true ∧ s.dcSupply m.val ≠ 3 ∧
      s.flag Fld.DC_GROUP_REAPPLY (m.val / 8) = false) ∧
    (∃ (m : Fin 48) (s : State),
      (s.dc m.val).ovl = false) ∧
    (∃ (m : Fin 48) (s : State),
      s.dcMode m.val = 3) ∧
    (∃ (g : Fin 6) (mv : Nat) (st : Nat) (s : State),
      st = supplyNext (s.fld Fld.DC_GROUP_STATE g.val) mv ∧ st ≠ s.fld Fld.DC_GROUP_STATE g.val) ∧
    (∃ (g : Fin 6) (mv : Nat) (s : State),
      supplyNext (s.fld Fld.DC_GROUP_STATE g.val) mv = s.fld Fld.DC_GROUP_STATE g.val) ∧
    (∃ (g : Fin 6) (m : Nat) (s : State),
      s.flag Fld.DC_GROUP_REAPPLY g.val = true ∧ s.nextTurn g.val = some m) ∧
    (∃ (g : Fin 6) (s : State),
      s.flag Fld.DC_GROUP_REAPPLY g.val = true ∧ s.nextTurn g.val = none) ∧
    (∃ (g : Fin 6) (ma : Nat) (s : State),
      4400 < ma ∧ s.flag Fld.DC_GROUP_GROUP_OVER g.val = false ∧ s.takesRecord (12 + g.val)) ∧
    (∃ (g : Fin 6) (ma : Nat) (s : State),
      ma ≤ 4400 ∨ s.flag Fld.DC_GROUP_GROUP_OVER g.val = true) ∧
    (∃ (g : Fin 6) (x : Bool) (s : State),
      s.pair = true) ∧
    (∃ (g : Fin 6) (x : Bool) (s : State),
      s.pair = false) :=
  ⟨⟨47, true, (wCount (wDc (State.reset) 47 2) 47).setFlag Fld.RST_POWER_DORMANT false, by decide +kernel⟩,
  ⟨0, true, ((wDc (State.reset) 0 1).setDc 0 {}).setFlag Fld.RST_POWER_DORMANT false, by decide +kernel⟩,
  ⟨0, false, (wDc (State.reset) 0 1).setDc 0 {}, by decide +kernel⟩,
  ⟨8, (wDc (State.reset) 8 3).setFlag Fld.DC_STAT_STAGE_ON true 8, by decide +kernel⟩,
  ⟨8, wRetry (State.reset) 8, by decide +kernel⟩,
  ⟨8, (State.reset).setDc 8 {}, by decide +kernel⟩,
  ⟨8, wDc (State.reset) 8 3, by decide +kernel⟩,
  ⟨5, 8999, 3, (State.reset).setFld Fld.DC_GROUP_STATE 0 5, by decide +kernel⟩,
  ⟨0, 18000, (State.reset).setFld Fld.DC_GROUP_STATE 3 0, by decide +kernel⟩,
  ⟨1, 8, wTurn (State.reset) 8, by decide +kernel⟩,
  ⟨1, ((List.range 8).foldl (fun s i => s.setFlag Fld.DC_STAT_QUEUED false (8 + i)) (State.reset)).setFlag Fld.DC_GROUP_REAPPLY true 1, by decide +kernel⟩,
  ⟨5, 4401, (wRoom (State.reset)).setFlag Fld.DC_GROUP_GROUP_OVER false 5, by unfold State.takesRecord; decide +kernel⟩,
  ⟨5, 4400, (State.reset), by decide +kernel⟩,
  ⟨(1 : Fin 6), true, wPair (State.reset), by decide +kernel⟩,
  ⟨(1 : Fin 6), true, { (State.reset) with base := { (State.reset).base with strapKind := 1 } }, by decide +kernel⟩⟩

theorem test_hyps_AdaptationOfLoops :
    (∃ (l : Nat) (k : Nat) (b : Nat) (relay : Bool) (ordered : Bool) (a : AdaptCfg) (d : BitVec 512) (w : LoopWork) (s : State),
      s.adaptCfg l = some a ∧ s.loopOf l = some (b, d, w) ∧
      (List.range 16).find? (fun k => !(s.slot k).busy) = some k ∧ s.laOn = true ∧ s.mayIdent l = true ∧
      (if relay then a.relay else a.pulse) = true ∧ (ordered || a.trigger) = true ∧ (s.adaptRec l).phase = 0 ∧
      s.calmLoop l a d w = true ∧ s.intervalOver l a = true ∧ s.interacts a = false ∧
      (s.groupsOf l).all (fun g => s.fld Fld.LA_SURGE_STATE g.g.val == 0) = true) ∧
    (∃ (l : Nat) (x : Bool) (y : Bool) (s : State),
      s.laOn = false) ∧
    (∃ (k : Fin 16) (r : Nat) (s : State),
      (s.slot k.val).busy = true ∧ s.stopNow (s.slot k.val) = r ∧ r ≠ 0) ∧
    (∃ (k : Fin 16) (s : State),
      (s.slot k.val).busy = false ∨ s.stopNow (s.slot k.val) = 0) ∧
    (∃ (k : Fin 16) (m : TestModel) (b : Nat) (c : Nat) (a : AdaptCfg) (d : BitVec 512) (w : LoopWork) (x : Found) (kd : Fl) (p : F32 × F32 × F32) (s : State),
      (s.slot k.val).busy = true ∧ s.adaptCfg (s.slot k.val).loop = some a ∧
      s.loopOf (s.slot k.val).loop = some (b, d, w) ∧ fitOk d (s.slot k.val) m = true ∧
      methodDone a (s.slot k.val) (ldPeriod d) = true ∧
      x = findModel a d (s.adaptRec (s.slot k.val).loop) (s.slot k.val) m ∧ kd = afterDir d x.k ∧
      p = tune a kd x.tau x.theta ∧
      c = judge a x kd (marginsOf d kd x.tau x.theta (candidate d a p 0 w.secs)) p (s.inUse (s.slot k.val).loop a) (setValid d (candidate d a p 0 w.secs)) ∧
      c ≠ 0) ∧
    (∃ (k : Fin 16) (m : TestModel) (b : Nat) (c : Nat) (a : AdaptCfg) (d : BitVec 512) (w : LoopWork) (x : Found) (kd : Fl) (p : F32 × F32 × F32) (s : State),
      (s.slot k.val).busy = true ∧ s.adaptCfg (s.slot k.val).loop = some a ∧
      s.loopOf (s.slot k.val).loop = some (b, d, w) ∧ fitOk d (s.slot k.val) m = true ∧
      methodDone a (s.slot k.val) (ldPeriod d) = true ∧
      x = findModel a d (s.adaptRec (s.slot k.val).loop) (s.slot k.val) m ∧ kd = afterDir d x.k ∧
      p = tune a kd x.tau x.theta ∧
      c = judge a x kd (marginsOf d kd x.tau x.theta (candidate d a p 0 w.secs)) p (s.inUse (s.slot k.val).loop a) (setValid d (candidate d a p 0 w.secs))) ∧
    (∃ (k : Fin 16) (m : TestModel) (b : Nat) (a : AdaptCfg) (d : BitVec 512) (w : LoopWork) (s : State),
      s.adaptCfg (s.slot k.val).loop = some a ∧ s.loopOf (s.slot k.val).loop = some (b, d, w) ∧
      (fitOk d (s.slot k.val) m = false ∨ methodDone a (s.slot k.val) (ldPeriod d) = false)) ∧
    (∃ (l : Nat) (n : Nat) (b : Nat) (p : F32 × F32 × F32) (a : AdaptCfg) (d : BitVec 512) (w : LoopWork) (s : State),
      (s.adaptRec l).staged = some (n, p) ∧ s.adaptCfg l = some a ∧ s.loopOf l = some (b, d, w) ∧ s.laOn = true ∧
      (s.run l).job = none ∧ n ≠ w.active ∧ (s.run l).pend = none ∧ w.state ≠ 1 ∧ w.state ≠ 3) ∧
    (∃ (l : Nat) (n : Nat) (b : Nat) (p : F32 × F32 × F32) (a : AdaptCfg) (d : BitVec 512) (w : LoopWork) (s : State),
      (s.adaptRec l).staged = some (n, p) ∧ s.adaptCfg l = some a ∧ s.loopOf l = some (b, d, w) ∧ s.laOn = true ∧
      (s.run l).job = none ∧ n ≠ w.active ∧ (s.run l).pend = none ∧ (w.state = 1 ∨ w.state = 3)) ∧
    (∃ (l : Nat) (c : Nat) (a : AdaptCfg) (s : State),
      s.adaptCfg l = some a ∧ s.laOn = true ∧ (s.adaptRec l).phase = 3 ∧ s.loopState l ≠ 1 ∧ s.loopState l ≠ 3 ∧
      c = revertReason a (s.adaptRec l) ∧ c ≠ 0) ∧
    (∃ (l : Nat) (a : AdaptCfg) (s : State),
      s.adaptCfg l = some a ∧ s.laOn = true ∧ (s.adaptRec l).phase = 3 ∧
      Instant.before s.pt (s.adaptRec l).probEnd = false ∧ revertReason a (s.adaptRec l) = 0) ∧
    (∃ (l : Nat) (a : AdaptCfg) (s : State),
      s.adaptCfg l = some a ∧ s.laOn = true ∧ (s.adaptRec l).phase = 3 ∧
      Instant.before s.pt (s.adaptRec l).probEnd = false ∧ revertReason a (s.adaptRec l) ≠ 0) ∧
    (∃ (l : Nat) (a : AdaptCfg) (s : State),
      s.adaptCfg l = some a ∧ (revertReason a (s.adaptRec l) = 0 ∨ s.loopState l = 1 ∨ s.loopState l = 3)) ∧
    (∃ (l : Nat) (s : State),
      (s.adaptRec l).phase = 4 ∧ Instant.before s.pt (s.adaptRec l).lockEnd = false) ∧
    (∃ (l : Nat) (s : State),
      Instant.before s.pt (s.adaptRec l).lockEnd = true) :=
  ⟨⟨0, 0, 0, false, true, wAdapt, (wCalm (State.reset)).descAt 0, (wCalm (State.reset)).workAt 0 0 ((wCalm (State.reset)).descAt 0), wCalm (State.reset), by decide +kernel⟩,
  ⟨0, true, true, (State.reset).setFlag Fld.LA_STATUS_EN false, by decide +kernel⟩,
  ⟨15, 7, wNoLoops (wSlot (State.reset) 15), by decide +kernel⟩,
  ⟨15, { (State.reset) with la := { (State.reset).la with slots := [] } }, by decide +kernel⟩,
  ⟨0, wModel, 0, 0x10, wAdapt, (wSlotDone (wCalm (State.reset)) 0).descAt 0, (wSlotDone (wCalm (State.reset)) 0).workAt 0 0 ((wSlotDone (wCalm (State.reset)) 0).descAt 0), findModel (wAdapt) ((wSlotDone (wCalm (State.reset)) 0).descAt 0) ((wSlotDone (wCalm (State.reset)) 0).adaptRec 0) ((wSlotDone (wCalm (State.reset)) 0).slot 0) (wModel), afterDir ((wSlotDone (wCalm (State.reset)) 0).descAt 0) (findModel (wAdapt) ((wSlotDone (wCalm (State.reset)) 0).descAt 0) ((wSlotDone (wCalm (State.reset)) 0).adaptRec 0) ((wSlotDone (wCalm (State.reset)) 0).slot 0) (wModel)).k, tune (wAdapt) (afterDir ((wSlotDone (wCalm (State.reset)) 0).descAt 0) (findModel (wAdapt) ((wSlotDone (wCalm (State.reset)) 0).descAt 0) ((wSlotDone (wCalm (State.reset)) 0).adaptRec 0) ((wSlotDone (wCalm (State.reset)) 0).slot 0) (wModel)).k) (findModel (wAdapt) ((wSlotDone (wCalm (State.reset)) 0).descAt 0) ((wSlotDone (wCalm (State.reset)) 0).adaptRec 0) ((wSlotDone (wCalm (State.reset)) 0).slot 0) (wModel)).tau (findModel (wAdapt) ((wSlotDone (wCalm (State.reset)) 0).descAt 0) ((wSlotDone (wCalm (State.reset)) 0).adaptRec 0) ((wSlotDone (wCalm (State.reset)) 0).slot 0) (wModel)).theta, wSlotDone (wCalm (State.reset)) 0, by decide +kernel⟩,
  ⟨0, wModel, 0, judge (wAdapt) (findModel (wAdapt) ((wSlotDone (wCalm (State.reset)) 0).descAt 0) ((wSlotDone (wCalm (State.reset)) 0).adaptRec 0) ((wSlotDone (wCalm (State.reset)) 0).slot 0) (wModel)) (afterDir ((wSlotDone (wCalm (State.reset)) 0).descAt 0) (findModel (wAdapt) ((wSlotDone (wCalm (State.reset)) 0).descAt 0) ((wSlotDone (wCalm (State.reset)) 0).adaptRec 0) ((wSlotDone (wCalm (State.reset)) 0).slot 0) (wModel)).k) (marginsOf ((wSlotDone (wCalm (State.reset)) 0).descAt 0) (afterDir ((wSlotDone (wCalm (State.reset)) 0).descAt 0) (findModel (wAdapt) ((wSlotDone (wCalm (State.reset)) 0).descAt 0) ((wSlotDone (wCalm (State.reset)) 0).adaptRec 0) ((wSlotDone (wCalm (State.reset)) 0).slot 0) (wModel)).k) (findModel (wAdapt) ((wSlotDone (wCalm (State.reset)) 0).descAt 0) ((wSlotDone (wCalm (State.reset)) 0).adaptRec 0) ((wSlotDone (wCalm (State.reset)) 0).slot 0) (wModel)).tau (findModel (wAdapt) ((wSlotDone (wCalm (State.reset)) 0).descAt 0) ((wSlotDone (wCalm (State.reset)) 0).adaptRec 0) ((wSlotDone (wCalm (State.reset)) 0).slot 0) (wModel)).theta (candidate ((wSlotDone (wCalm (State.reset)) 0).descAt 0) (wAdapt) (tune (wAdapt) (afterDir ((wSlotDone (wCalm (State.reset)) 0).descAt 0) (findModel (wAdapt) ((wSlotDone (wCalm (State.reset)) 0).descAt 0) ((wSlotDone (wCalm (State.reset)) 0).adaptRec 0) ((wSlotDone (wCalm (State.reset)) 0).slot 0) (wModel)).k) (findModel (wAdapt) ((wSlotDone (wCalm (State.reset)) 0).descAt 0) ((wSlotDone (wCalm (State.reset)) 0).adaptRec 0) ((wSlotDone (wCalm (State.reset)) 0).slot 0) (wModel)).tau (findModel (wAdapt) ((wSlotDone (wCalm (State.reset)) 0).descAt 0) ((wSlotDone (wCalm (State.reset)) 0).adaptRec 0) ((wSlotDone (wCalm (State.reset)) 0).slot 0) (wModel)).theta) 0 ((wSlotDone (wCalm (State.reset)) 0).workAt 0 0 ((wSlotDone (wCalm (State.reset)) 0).descAt 0)).secs)) (tune (wAdapt) (afterDir ((wSlotDone (wCalm (State.reset)) 0).descAt 0) (findModel (wAdapt) ((wSlotDone (wCalm (State.reset)) 0).descAt 0) ((wSlotDone (wCalm (State.reset)) 0).adaptRec 0) ((wSlotDone (wCalm (State.reset)) 0).slot 0) (wModel)).k) (findModel (wAdapt) ((wSlotDone (wCalm (State.reset)) 0).descAt 0) ((wSlotDone (wCalm (State.reset)) 0).adaptRec 0) ((wSlotDone (wCalm (State.reset)) 0).slot 0) (wModel)).tau (findModel (wAdapt) ((wSlotDone (wCalm (State.reset)) 0).descAt 0) ((wSlotDone (wCalm (State.reset)) 0).adaptRec 0) ((wSlotDone (wCalm (State.reset)) 0).slot 0) (wModel)).theta) ((wSlotDone (wCalm (State.reset)) 0).inUse 0 (wAdapt)) (setValid ((wSlotDone (wCalm (State.reset)) 0).descAt 0) (candidate ((wSlotDone (wCalm (State.reset)) 0).descAt 0) (wAdapt) (tune (wAdapt) (afterDir ((wSlotDone (wCalm (State.reset)) 0).descAt 0) (findModel (wAdapt) ((wSlotDone (wCalm (State.reset)) 0).descAt 0) ((wSlotDone (wCalm (State.reset)) 0).adaptRec 0) ((wSlotDone (wCalm (State.reset)) 0).slot 0) (wModel)).k) (findModel (wAdapt) ((wSlotDone (wCalm (State.reset)) 0).descAt 0) ((wSlotDone (wCalm (State.reset)) 0).adaptRec 0) ((wSlotDone (wCalm (State.reset)) 0).slot 0) (wModel)).tau (findModel (wAdapt) ((wSlotDone (wCalm (State.reset)) 0).descAt 0) ((wSlotDone (wCalm (State.reset)) 0).adaptRec 0) ((wSlotDone (wCalm (State.reset)) 0).slot 0) (wModel)).theta) 0 ((wSlotDone (wCalm (State.reset)) 0).workAt 0 0 ((wSlotDone (wCalm (State.reset)) 0).descAt 0)).secs)), wAdapt, (wSlotDone (wCalm (State.reset)) 0).descAt 0, (wSlotDone (wCalm (State.reset)) 0).workAt 0 0 ((wSlotDone (wCalm (State.reset)) 0).descAt 0), findModel (wAdapt) ((wSlotDone (wCalm (State.reset)) 0).descAt 0) ((wSlotDone (wCalm (State.reset)) 0).adaptRec 0) ((wSlotDone (wCalm (State.reset)) 0).slot 0) (wModel), afterDir ((wSlotDone (wCalm (State.reset)) 0).descAt 0) (findModel (wAdapt) ((wSlotDone (wCalm (State.reset)) 0).descAt 0) ((wSlotDone (wCalm (State.reset)) 0).adaptRec 0) ((wSlotDone (wCalm (State.reset)) 0).slot 0) (wModel)).k, tune (wAdapt) (afterDir ((wSlotDone (wCalm (State.reset)) 0).descAt 0) (findModel (wAdapt) ((wSlotDone (wCalm (State.reset)) 0).descAt 0) ((wSlotDone (wCalm (State.reset)) 0).adaptRec 0) ((wSlotDone (wCalm (State.reset)) 0).slot 0) (wModel)).k) (findModel (wAdapt) ((wSlotDone (wCalm (State.reset)) 0).descAt 0) ((wSlotDone (wCalm (State.reset)) 0).adaptRec 0) ((wSlotDone (wCalm (State.reset)) 0).slot 0) (wModel)).tau (findModel (wAdapt) ((wSlotDone (wCalm (State.reset)) 0).descAt 0) ((wSlotDone (wCalm (State.reset)) 0).adaptRec 0) ((wSlotDone (wCalm (State.reset)) 0).slot 0) (wModel)).theta, wSlotDone (wCalm (State.reset)) 0, by decide +kernel⟩,
  ⟨0, wModel, 0, wAdapt, (wSlot (wCalm (State.reset)) 0).descAt 0, (wSlot (wCalm (State.reset)) 0).workAt 0 0 ((wSlot (wCalm (State.reset)) 0).descAt 0), wSlot (wCalm (State.reset)) 0, by decide +kernel⟩,
  ⟨0, 1, 0, (5#32, 6#32, 7#32), wAdapt, (wStaged (wCalm (State.reset)) 1).descAt 0, (wStaged (wCalm (State.reset)) 1).workAt 0 0 ((wStaged (wCalm (State.reset)) 1).descAt 0), wStaged (wCalm (State.reset)) 1, by decide +kernel⟩,
  ⟨0, 1, 0, (5#32, 6#32, 7#32), wAdapt, (wLoop (wStaged (wCalm (State.reset)) 1) 1).descAt 0, (wLoop (wStaged (wCalm (State.reset)) 1) 1).workAt 0 0 ((wLoop (wStaged (wCalm (State.reset)) 1) 1).descAt 0), wLoop (wStaged (wCalm (State.reset)) 1) 1, by decide +kernel⟩,
  ⟨0, 0x20, wAdapt, wRatio (wPhase (wCalm (State.reset)) 3), by decide +kernel⟩,
  ⟨0, wAdapt, wPhase (wCalm (State.reset)) 3, by decide +kernel⟩,
  ⟨0, wAdapt, wRatio (wPhase (wCalm (State.reset)) 3), by decide +kernel⟩,
  ⟨0, wAdapt, wPhase (wCalm (State.reset)) 3, by decide +kernel⟩,
  ⟨0, wPhase (wCalm (State.reset)) 4, by decide +kernel⟩,
  ⟨0, (State.reset).setAdapt 0 { lockEnd := (State.reset).pt + 1 }, by decide +kernel⟩⟩

theorem test_hyps_SurgeDefenceAndForbids :
    (∃ (g : Fin 32) (c : SurgeCfg) (s : State),
      s.laOn = true ∧ s.img.surge.find? (fun c => c.g == g) = some c ∧
      (Tab.get ({} : GyFeed) s.la.feed c.qCh.val).bad = false ∧
      (Tab.get ({} : GyFeed) s.la.feed c.dpCh.val).bad = false ∧ s.fld Fld.LA_SURGE_STATE g.val ≠ 2 ∧
      Fl.lt (surgeJudge c (Tab.get {} s.la.feed c.qCh.val) (Tab.get {} s.la.feed c.dpCh.val)).1 (Fl.ofBits c.mTrip) = true) ∧
    (∃ (g : Fin 32) (c : SurgeCfg) (s : State),
      s.laOn = true ∧ s.img.surge.find? (fun c => c.g == g) = some c ∧
      (Tab.get ({} : GyFeed) s.la.feed c.qCh.val).bad = false ∧
      (Tab.get ({} : GyFeed) s.la.feed c.dpCh.val).bad = false ∧ s.fld Fld.LA_SURGE_STATE g.val ≠ 2 ∧
      Fl.lt (surgeJudge c (Tab.get {} s.la.feed c.qCh.val) (Tab.get {} s.la.feed c.dpCh.val)).1 (Fl.ofBits c.mTrip) = false ∧
      Fl.lt (surgeJudge c (Tab.get {} s.la.feed c.qCh.val) (Tab.get {} s.la.feed c.dpCh.val)).1 (Fl.ofBits c.mArm) = false) ∧
    (∃ (g : Fin 32) (c : SurgeCfg) (s : State),
      s.laOn = true ∧ s.img.surge.find? (fun c => c.g == g) = some c ∧
      (Tab.get ({} : GyFeed) s.la.feed c.qCh.val).bad = true ∧ s.fld Fld.LA_SURGE_STATE g.val ≠ 2 ∧
      s.fld Fld.LA_SURGE_STATE g.val ≠ 3 ∧ 9 ≤ (Tab.get ({} : SurgeRun) s.la.surge g.val).invalid ∧
      c.blindSwitch = false) ∧
    (∃ (g : Fin 32) (c : SurgeCfg) (u : Instant) (s : State),
      s.laOn = true ∧ s.img.surge.find? (fun c => c.g == g) = some c ∧
      (Tab.get ({} : SurgeRun) s.la.surge g.val).relAt = some u ∧ s.fld Fld.LA_SURGE_STATE g.val = 2 ∧
      Instant.before s.pt (u.plus c.hRel) = false) ∧
    (∃ (g : Fin 32) (s : State),
      (Tab.get ({} : SurgeRun) s.la.surge g.val).relAt = none) ∧
    (∃ (h : SvcMsg) (l : Nat) (a : Bool) (b : Bool) (c : Bool) (s : State),
      (s.sess h.sess.val).open_ = true ∧ s.serving = true ∧ s.svcRefusal h 0x61 2 0 none = none ∧
      (s.loopAt l).isSome = true ∧ s.slotOf l = none ∧ (s.adaptRec l).phase ≠ 2) ∧
    (∃ (h : SvcMsg) (l : Nat) (k : Nat) (a : Bool) (b : Bool) (c : Bool) (s : State),
      (s.sess h.sess.val).open_ = true ∧ s.serving = true ∧ s.svcRefusal h 0x61 2 0 none = none ∧
      (s.loopAt l).isSome = true ∧ s.slotOf l = some k ∧ (a || b || c) = true) ∧
    (∃ (h : SvcMsg) (l : Nat) (a : Bool) (b : Bool) (c : Bool) (s : State),
      (s.sess h.sess.val).open_ = true ∧ s.serving = true ∧ s.svcRefusal h 0x61 2 0 none = none ∧
      (s.loopAt l).isSome = true ∧ s.slotOf l = none ∧ (s.adaptRec l).phase = 2 ∧ (a || b) = true) ∧
    (∃ (h : SvcMsg) (l : Nat) (a : Bool) (b : Bool) (c : Bool) (s : State),
      (s.sess h.sess.val).open_ = true ∧ s.serving = true ∧ s.svcRefusal h 0x61 2 0 none = none ∧
      (s.loopAt l).isSome = true) ∧
    (∃ (h : SvcMsg) (l : Nat) (a : Bool) (b : Bool) (c : Bool) (s : State),
      (s.sess h.sess.val).open_ = true ∧ s.serving = true ∧ s.svcRefusal h 0x61 2 0 none = none ∧ s.loopAt l = none) :=
  ⟨⟨31, wSurge, wSurgeOn (State.reset) 0, by decide +kernel⟩,
  ⟨31, wSurge, wSurgeOn (State.reset) 1, by decide +kernel⟩,
  ⟨31, wSurge, wSurgeOn (State.reset) 2, by decide +kernel⟩,
  ⟨31, wSurge, (State.reset).pt - 10000000000#64, (wSurgeOn (State.reset) 3).setFld Fld.LA_SURGE_STATE 2 31, by decide +kernel⟩,
  ⟨0, { (State.reset) with la := { (State.reset).la with surge := [] } }, by decide +kernel⟩,
  ⟨{ sess := 1 }, 0, true, false, true, wPhase (wNoSlots (wLoop (wSvc (State.reset) true) 0)) 0, by decide +kernel⟩,
  ⟨{ sess := 1 }, 0, 3, true, false, true, wSlot (wLoop (wSvc (State.reset) true) 0) 3, by decide +kernel⟩,
  ⟨{ sess := 1 }, 0, false, true, false, wPhase (wNoSlots (wLoop (wSvc (State.reset) true) 0)) 2, by decide +kernel⟩,
  ⟨{ sess := 1 }, 0, true, false, true, wLoop (wSvc (State.reset) true) 0, by decide +kernel⟩,
  ⟨{ sess := 1 }, 9, true, true, true, wLoop (wSvc (State.reset) true) 0, by decide +kernel⟩⟩

theorem test_hyps_GeyserCapture :
    (∃ (c : Fin 64) (v : GySample) (s : State),
      s.gyCfg c.val = none) ∧
    (∃ (c : Fin 64) (v : GySample) (g : GyChCfg) (s : State),
      s.gyCfg c.val = some g ∧ s.gyRuns g = false) ∧
    (∃ (c : Fin 64) (v : GySample) (g : GyChCfg) (k : CondCfg) (x : GyWord) (s : State) (u : State),
      s.gyCfg c.val = some g ∧ s.gyRuns g = true ∧ (s.gy1 c.val).last ≠ some (s.gyIdx g) ∧
      u = (if 3 ≤ g.source then s.settle s.pt else s) ∧ u.gyWord g v = some x ∧ k.ch = c ∧
      s.img.gyCond.filter (fun q => q.n == k.n) = [k]) ∧
    (∃ (c : Fin 64) (v : GySample) (g : GyChCfg) (s : State),
      s.gyCfg c.val = some g ∧ s.gyRuns g = true ∧ (s.gy1 c.val).last ≠ some (s.gyIdx g) ∧ g.mode = 0 ∧
      (s.gy1 c.val).next.getD (s.gyIdx g) = s.gyIdx g ∧ s.gyTop = true ∧ (s.gy1 c.val).cur = none) ∧
    (∃ (c : Fin 64) (v : GySample) (g : GyChCfg) (s : State),
      s.gyCfg c.val = some g ∧ s.gyRuns g = true ∧ (s.gy1 c.val).last ≠ some (s.gyIdx g) ∧ g.mode = 0 ∧
      s.gyIdx g < (s.gy1 c.val).next.getD (s.gyIdx g)) ∧
    (∃ (c : Fin 64) (v : GySample) (g : GyChCfg) (x : GyWord) (s : State) (u : State),
      s.gyCfg c.val = some g ∧ s.gyRuns g = true ∧ (s.gy1 c.val).last ≠ some (s.gyIdx g) ∧
      u = (if 3 ≤ g.source then s.settle s.pt else s) ∧ g.mode = 0 ∧
      (s.gy1 c.val).next.getD (s.gyIdx g) = s.gyIdx g ∧ s.gyTop = false ∧ u.gyWord g v = some x ∧
      g.triggered = false ∧ (s.gy1 c.val).cur = none) ∧
    (∃ (c : Fin 64) (v : GySample) (g : GyChCfg) (x : GyWord) (b : GyBlk) (s : State) (u : State),
      s.gyCfg c.val = some g ∧ s.gyRuns g = true ∧ (s.gy1 c.val).last ≠ some (s.gyIdx g) ∧
      u = (if 3 ≤ g.source then s.settle s.pt else s) ∧ g.mode = 0 ∧
      (s.gy1 c.val).next.getD (s.gyIdx g) = s.gyIdx g ∧ s.gyTop = false ∧ u.gyWord g v = some x ∧
      g.triggered = false ∧ (s.gy1 c.val).cur = some b ∧ (s.gy1 c.val).cut = false ∧
      b.step = gyStep g (s.gyFactor g) ∧ b.factor = s.gyFactor g ∧ b.count + 1 < 4032 / gyBytes g) ∧
    (∃ (c : Fin 64) (v : GySample) (g : GyChCfg) (x : GyWord) (b : GyBlk) (s : State) (u : State),
      s.gyCfg c.val = some g ∧ s.gyRuns g = true ∧ (s.gy1 c.val).last ≠ some (s.gyIdx g) ∧
      u = (if 3 ≤ g.source then s.settle s.pt else s) ∧ g.mode = 0 ∧
      (s.gy1 c.val).next.getD (s.gyIdx g) = s.gyIdx g ∧ s.gyTop = false ∧ u.gyWord g v = some x ∧
      g.triggered = false ∧ (s.gy1 c.val).cur = some b ∧ (s.gy1 c.val).cut = false ∧
      b.step = gyStep g (s.gyFactor g) ∧ b.factor = s.gyFactor g ∧ b.count + 1 = 4032 / gyBytes g ∧
      s.gy.stage = [] ∧ s.gy.arch.length + s.gyFrozenBlocks < s.gyCap) ∧
    (∃ (c : Fin 64) (v : GySample) (g : GyChCfg) (x : GyWord) (s : State) (u : State),
      s.gyCfg c.val = some g ∧ s.gyRuns g = true ∧ (s.gy1 c.val).last ≠ some (s.gyIdx g) ∧
      u = (if 3 ≤ g.source then s.settle s.pt else s) ∧ g.mode = 0 ∧
      (s.gy1 c.val).next.getD (s.gyIdx g) = s.gyIdx g ∧ s.gyTop = false ∧ u.gyWord g v = some x ∧
      g.triggered = true ∧
      s.gyTaking c.val { t := s.gyAt g (s.gyIdx g), ts := 0, data := [], step := 0, factor := 0, bad := false, lost := 0 } = none ∧
      Instant.before (s.gyAt g (s.gyIdx g)) (s.pt - BitVec.ofNat 64 (s.gyHorizon c.val)) = false) ∧
    (∃ (c : Fin 64) (v : GySample) (g : GyChCfg) (x : GyWord) (i : Nat) (s : State) (u : State),
      s.gyCfg c.val = some g ∧ s.gyRuns g = true ∧ (s.gy1 c.val).last ≠ some (s.gyIdx g) ∧
      u = (if 3 ≤ g.source then s.settle s.pt else s) ∧ g.mode = 0 ∧
      (s.gy1 c.val).next.getD (s.gyIdx g) = s.gyIdx g ∧ s.gyTop = false ∧ u.gyWord g v = some x ∧
      g.triggered = true ∧
      s.gyTaking c.val { t := s.gyAt g (s.gyIdx g), ts := 0, data := [], step := 0, factor := 0, bad := false, lost := 0 } = some i) ∧
    (∃ (c : Fin 64) (v : GySample) (g : GyChCfg) (s : State) (u : State),
      s.gyCfg c.val = some g ∧ s.gyRuns g = true ∧ (s.gy1 c.val).last ≠ some (s.gyIdx g) ∧
      u = (if 3 ≤ g.source then s.settle s.pt else s) ∧ g.mode = 0 ∧
      (s.gy1 c.val).next.getD (s.gyIdx g) = s.gyIdx g ∧ s.gyTop = false ∧ u.gyWord g v = none ∧
      (s.gy1 c.val).cur = none) ∧
    (∃ (c : Fin 64) (v : GySample) (g : GyChCfg) (n : Nat) (m : Nat) (s : State),
      s.gyCfg c.val = some g ∧ s.gyRuns g = true ∧ (s.gy1 c.val).last ≠ some (s.gyIdx g) ∧ g.mode = 0 ∧
      g.source ≤ 2 ∧ (s.gy1 c.val).next = some n ∧
      m = (s.gyIdx g - n + gyStep g (s.gyFactor g) - 1) / gyStep g (s.gyFactor g) ∧ m ≠ 0 ∧
      n + m * gyStep g (s.gyFactor g) ≠ s.gyIdx g ∧ (s.gy1 c.val).cur = none ∧ n < s.gyIdx g) ∧
    (∃ (c : Fin 64) (v : GySample) (g : GyChCfg) (s : State) (u : State),
      s.gyCfg c.val = some g ∧ s.gyRuns g = true ∧ (s.gy1 c.val).last ≠ some (s.gyIdx g) ∧
      u = (if 3 ≤ g.source then s.settle s.pt else s) ∧ g.mode ≠ 0 ∧
      ((s.gy1 c.val).iv.all fun w => Instant.before (s.gyAt g (s.gyIdx g)) (w.start.plus (gyIval g (s.gy1 c.val).factor))) = true) ∧
    (∃ (c : Fin 64) (v : GySample) (g : GyChCfg) (s : State),
      s.gyCfg c.val = some g ∧ (s.gy1 c.val).last = some (s.gyIdx g)) :=
  ⟨⟨63, .missing, { (State.reset) with img := { (State.reset).img with gyCh := [] } }, by decide +kernel⟩,
  ⟨63, .missing, { ch := 63, source := 3, index := 5 }, (wGyCh (State.reset) { ch := 63, source := 3, index := 5 }).setFld Fld.BN_STATUS_ROLE 2, by decide +kernel⟩,
  ⟨5, .bits 0x21#8, { ch := 5, source := 2, index := 0 }, { n := 63, ch := 5, kind := .bitSet 5 }, { bits := some 0x21#8, raw := [0x21#8] }, wGyFresh (wGyCond (wGyCh (State.reset) { ch := 5, source := 2, index := 0 }) [{ n := 63, ch := 5, kind := .bitSet 5 }]), (wGyFresh (wGyCond (wGyCh (State.reset) { ch := 5, source := 2, index := 0 }) [{ n := 63, ch := 5, kind := .bitSet 5 }])), by decide +kernel⟩,
  ⟨5, .bits 0x21#8, { ch := 5, source := 2, index := 0 }, wGyFull (wGyCh (State.reset) { ch := 5, source := 2, index := 0 }), by decide +kernel⟩,
  ⟨5, .bits 0x21#8, { ch := 5, source := 2, index := 0, param := some 4 }, wGyChan (wGyCh (State.reset) { ch := 5, source := 2, index := 0, param := some 4 }) 5 { next := some ((State.reset).gyIdx { ch := 5, source := 2, index := 0 } + 1) }, by decide +kernel⟩,
  ⟨5, .bits 0x21#8, { ch := 5, source := 2, index := 0, param := some 4 }, { bits := some 0x21#8, raw := [0x21#8] }, wGyChan (wGyLevel (wGyCh (State.reset) { ch := 5, source := 2, index := 0, param := some 4 }) 0) 5 { seq := 4294967295, lost := 2 }, (wGyChan (wGyLevel (wGyCh (State.reset) { ch := 5, source := 2, index := 0, param := some 4 }) 0) 5 { seq := 4294967295, lost := 2 }), by decide +kernel⟩,
  ⟨5, .bits 0x21#8, { ch := 5, source := 2, index := 0 }, { bits := some 0x21#8, raw := [0x21#8] }, { count := 4030, data := [1#8] }, wGyChan (wGyLevel (wGyCh (State.reset) { ch := 5, source := 2, index := 0 }) 0) 5 { cur := some { count := 4030, data := [1#8] } }, (wGyChan (wGyLevel (wGyCh (State.reset) { ch := 5, source := 2, index := 0 }) 0) 5 { cur := some { count := 4030, data := [1#8] } }), by decide +kernel⟩,
  ⟨5, .bits 0x21#8, { ch := 5, source := 2, index := 0 }, { bits := some 0x21#8, raw := [0x21#8] }, { count := 4031, data := [1#8] }, wGyRoom (wGyChan (wGyLevel (wGyCh (State.reset) { ch := 5, source := 2, index := 0 }) 0) 5 { cur := some { count := 4031, data := [1#8] } }), (wGyRoom (wGyChan (wGyLevel (wGyCh (State.reset) { ch := 5, source := 2, index := 0 }) 0) 5 { cur := some { count := 4031, data := [1#8] } })), by decide +kernel⟩,
  ⟨5, .bits 0x21#8, { ch := 5, source := 2, index := 0, triggered := true }, { bits := some 0x21#8, raw := [0x21#8] }, wGyAlone (wGyChan (wGyLevel (wGyCh (State.reset) { ch := 5, source := 2, index := 0, triggered := true }) 0) 5 { lost := 3 }), (wGyAlone (wGyChan (wGyLevel (wGyCh (State.reset) { ch := 5, source := 2, index := 0, triggered := true }) 0) 5 { lost := 3 })), by decide +kernel⟩,
  ⟨5, .bits 0x21#8, { ch := 5, source := 2, index := 0, triggered := true }, { bits := some 0x21#8, raw := [0x21#8] }, 2, wGyWin (wGySet (wGyChan (wGyLevel (wGyCh (State.reset) { ch := 5, source := 2, index := 0, triggered := true }) 0) 5 { lost := 3 }) { wSet (State.reset) with chans := [5] } 2) 2, (wGyWin (wGySet (wGyChan (wGyLevel (wGyCh (State.reset) { ch := 5, source := 2, index := 0, triggered := true }) 0) 5 { lost := 3 }) { wSet (State.reset) with chans := [5] } 2) 2), by decide +kernel⟩,
  ⟨5, .missing, { ch := 5, source := 2, index := 0 }, wGyChan (wGyLevel (wGyCh (State.reset) { ch := 5, source := 2, index := 0 }) 0) 5 {}, (wGyChan (wGyLevel (wGyCh (State.reset) { ch := 5, source := 2, index := 0 }) 0) 5 {}), by decide +kernel⟩,
  ⟨5, .missing, { ch := 5, source := 2, index := 0, param := some 4 }, 4999999, 1, wGyChan (wAt (wGyLevel (wGyCh (State.reset) { ch := 5, source := 2, index := 0, param := some 4 }) 0) 5000000000#64) 5 { next := some 4999999 }, by decide +kernel⟩,
  ⟨5, .bits 0x21#8, { ch := 5, source := 2, index := 0, mode := 2, param := some 10000 }, wGyChan (wGyLevel (wGyCh (State.reset) { ch := 5, source := 2, index := 0, mode := 2, param := some 10000 }) 0) 5 {}, (wGyChan (wGyLevel (wGyCh (State.reset) { ch := 5, source := 2, index := 0, mode := 2, param := some 10000 }) 0) 5 {}), by decide +kernel⟩,
  ⟨5, .missing, { ch := 5, source := 2, index := 0 }, wGyChan (wGyCh (State.reset) { ch := 5, source := 2, index := 0 }) 5 { last := some ((State.reset).gyIdx { ch := 5, source := 2, index := 0 }) }, by decide +kernel⟩⟩

theorem test_hyps_GeyserReductionAndReadout :
    (∃ (c : Fin 64) (g : GyChCfg) (v : GyIv) (x : Bool) (r : List Byte × GyFeed) (s : State),
      s.gyCfg c.val = some g ∧ s.gyRuns g = true ∧ g.mode ≠ 0 ∧
      v = (s.gy1 c.val).iv.getD { start := floorTo s.pt (gyIval g (s.gy1 c.val).factor) - BitVec.ofNat 64 (gyIval g (s.gy1 c.val).factor), ts := s.gyTs g (floorTo s.pt (gyIval g (s.gy1 c.val).factor) - BitVec.ofNat 64 (gyIval g (s.gy1 c.val).factor)), bad := true } ∧
      Instant.atOrBefore (v.start.plus (gyIval g (s.gy1 c.val).factor)) s.pt = true ∧
      x = (v.bad || !s.gyAlive g || decide (v.n < s.gyWant g v.start (gyIval g (s.gy1 c.val).factor))) ∧
      r = s.gyReduced g v x (decide ((s.gy1 c.val).factor ≠ 0))) ∧
    (∃ (c : Fin 64) (g : GyChCfg) (v : GyIv) (s : State),
      s.gyCfg c.val = some g ∧ (s.gy1 c.val).iv = some v ∧
      Instant.atOrBefore (v.start.plus (gyIval g (s.gy1 c.val).factor)) s.pt = false) ∧
    (∃ (a : Nat) (s : State),
      (s.img.gyCh.map fun g => g.ch.val).Nodup ∧
      (75 < a ∨ (75 * s.gyCap < 100 * s.gyUnread ∧ s.gy.high.any (fun u => Instant.atOrBefore (u.plus 1000000) s.pt) = true)) ∧
      s.gyMoved 1000000 = true ∧ s.fld Fld.GY_STATUS_LEVEL = 0) ∧
    (∃ (a : Nat) (s : State),
      (s.img.gyCh.map fun g => g.ch.val).Nodup ∧
      (75 < a ∨ (75 * s.gyCap < 100 * s.gyUnread ∧ s.gy.high.any (fun u => Instant.atOrBefore (u.plus 1000000) s.pt) = true)) ∧
      s.gyMoved 1000000 = true ∧ s.fld Fld.GY_STATUS_LEVEL ≠ 0 ∧ s.fld Fld.GY_STATUS_LEVEL < 12) ∧
    (∃ (a : Nat) (s : State),
      (a ≤ 75 ∧ (100 * s.gyUnread ≤ 75 * s.gyCap ∨ (s.gy.high.isSome = true ∧ s.gy.high.any (fun u => Instant.atOrBefore (u.plus 1000000) s.pt) = false))) ∨ 12 ≤ s.fld Fld.GY_STATUS_LEVEL ∨ s.gyMoved 1000000 = false) ∧
    (∃ (a : Nat) (s : State),
      (s.img.gyCh.map fun g => g.ch.val).Nodup ∧ max a (100 * s.gy.stage.length / stageCap) < 25 ∧
      100 * s.gyUnread < 25 * s.gyCap ∧ s.fld Fld.GY_STATUS_ARCH_FILL < 25 ∧
      s.gy.notLow.all (fun u => Instant.atOrBefore (u.plus 100000000) s.pt) = true ∧ s.gyMoved 100000000 = true ∧
      s.fld Fld.GY_STATUS_LEVEL = 1) ∧
    (∃ (a : Nat) (s : State),
      (s.img.gyCh.map fun g => g.ch.val).Nodup ∧ max a (100 * s.gy.stage.length / stageCap) < 25 ∧
      100 * s.gyUnread < 25 * s.gyCap ∧ s.fld Fld.GY_STATUS_ARCH_FILL < 25 ∧
      s.gy.notLow.all (fun u => Instant.atOrBefore (u.plus 100000000) s.pt) = true ∧ s.gyMoved 100000000 = true ∧
      1 < s.fld Fld.GY_STATUS_LEVEL) ∧
    (∃ (a : Nat) (s : State),
      25 ≤ a ∨ 25 * s.gyCap ≤ 100 * s.gyUnread ∨ s.fld Fld.GY_STATUS_LEVEL = 0 ∨ s.gyMoved 100000000 = false) ∧
    (∃ (c : Fin 64) (n : Nat) (s : State),
      s.gyKeeps c.val = false ∧ s.gy.stage = []) ∧
    (∃ (c : Fin 64) (n : Nat) (s : State),
      s.gyKeeps c.val = false) ∧
    (∃ (q : BlockSel) (s : State),
      (match q with | .seq c _ => s.gyKeeps c.val | .capture _ _ => true) = true) ∧
    (∃ (h : SvcMsg) (q : BlockSel) (b : List Byte) (s : State),
      (s.sess h.sess.val).open_ = true ∧ s.serving = true ∧ s.svcRefusal h 0x30 0 0 none = none ∧
      s.gyFind q = some b) ∧
    (∃ (h : SvcMsg) (c : Fin 64) (n : Nat) (b : List Byte) (s : State),
      (s.sess h.sess.val).open_ = true ∧ s.serving = true ∧ s.svcRefusal h 0x30 0 0 none = none ∧
      s.gyKeeps c.val = false ∧ s.gy.stage = [] ∧ s.gyFind (.seq c n) = some b) ∧
    (∃ (h : SvcMsg) (c : Fin 64) (n : Nat) (b : GyBlk) (s : State),
      (s.sess h.sess.val).open_ = true ∧ s.serving = true ∧ s.svcRefusal h 0x30 0 0 none = none ∧
      (c.val, b, false) ∈ s.gy.arch ∧ b.seq = n ∧ s.gy.stage = []) ∧
    (∃ (h : SvcMsg) (c : Fin 64) (n : Nat) (s : State),
      (s.sess h.sess.val).open_ = true ∧ s.serving = true ∧ s.svcRefusal h 0x30 0 0 none = none ∧ s.gy.arch = [] ∧
      s.gySeq c.val n = none) :=
  ⟨⟨5, { ch := 5, source := 2, index := 0, mode := 1, param := some 10000 }, { start := 4990000#64, n := 2, sum := 6 }, true, (wGyChan (wAt (wGyCh (State.reset) { ch := 5, source := 2, index := 0, mode := 1, param := some 10000 }) 5000000#64) 5 { iv := some { start := 4990000#64, n := 2, sum := 6 } }).gyReduced ({ ch := 5, source := 2, index := 0, mode := 1, param := some 10000 } : GyChCfg) ({ start := 4990000#64, n := 2, sum := 6 } : GyIv) true false, wGyChan (wAt (wGyCh (State.reset) { ch := 5, source := 2, index := 0, mode := 1, param := some 10000 }) 5000000#64) 5 { iv := some { start := 4990000#64, n := 2, sum := 6 } }, by decide +kernel⟩,
  ⟨5, { ch := 5, source := 2, index := 0, mode := 1, param := some 10000 }, { start := 4990001#64 }, wGyChan (wAt (wGyCh (State.reset) { ch := 5, source := 2, index := 0, mode := 1, param := some 10000 }) 5000000#64) 5 { iv := some { start := 4990001#64 } }, by decide +kernel⟩,
  ⟨76, wGyStill (wGyLevel (State.reset) 0) 1000000, by decide +kernel⟩,
  ⟨76, wGyStill (wGyLevel (State.reset) 11) 1000000, by decide +kernel⟩,
  ⟨75, wGyRoom (State.reset), by decide +kernel⟩,
  ⟨24, wGyStill (wGyRoom (wGyLevel (State.reset) 1)) 100000000, by decide +kernel⟩,
  ⟨24, wGyStill (wGyRoom (wGyLevel (State.reset) 12)) 100000000, by decide +kernel⟩,
  ⟨25, wGyLevel (State.reset) 3, by decide +kernel⟩,
  ⟨5, 3, (wGyArch (State.reset) [(5, { seq := 3 }, false)]).setFlag Fld.GY_CH_LOSSLESS false 5, by decide +kernel⟩,
  ⟨5, 3, (wGyArch (State.reset) [(5, { seq := 3 }, false)]).setFlag Fld.GY_CH_LOSSLESS false 5, by decide +kernel⟩,
  ⟨.seq 5 3, (wGyArch (State.reset) [(5, { seq := 3 }, false)]).setFlag Fld.GY_CH_LOSSLESS true 5, by decide +kernel⟩,
  ⟨{ sess := 1 }, .seq 5 3, gyBlock 5 { seq := 3 }, wGyArch (wSvc (State.reset) true) [(5, { seq := 3 }, false)], ⟨by decide +kernel, by decide +kernel, by decide +kernel, rfl⟩⟩,
  ⟨{ sess := 1 }, 5, 3, gyBlock 5 { seq := 3 }, (wGyArch (wSvc (State.reset) true) [(5, { seq := 3 }, false)]).setFlag Fld.GY_CH_LOSSLESS false 5, ⟨by decide +kernel, by decide +kernel, by decide +kernel, by decide +kernel, by decide +kernel, rfl⟩⟩,
  ⟨{ sess := 1 }, 5, 3, { seq := 3 }, wGyArch (wSvc (State.reset) true) [(5, { seq := 3 }, false)], by decide +kernel⟩,
  ⟨{ sess := 1 }, 0, 0, wGyArch (wSvc (State.reset) true) [], by decide +kernel⟩⟩

theorem test_hyps_GeyserTriggers :
    (∃ (u : Fin 8) (t0 : Instant) (p : PatternCfg) (k : GySetCfg) (i : Nat) (s : State),
      s.img.gyPat.find? (fun p => p.u == u) = some p ∧ patFires p.qual s.pt (s.gyPat u.val) = some t0 ∧
      s.gySetOf p.setK.val = some k ∧ s.gyState k.k.val = 1 ∧ s.gyFree = some i) ∧
    (∃ (u : Fin 8) (p : PatternCfg) (s : State),
      s.img.gyPat.find? (fun p => p.u == u) = some p ∧
      (patFires p.qual s.pt (s.gyPat u.val) = none ∨ s.gySetOf p.setK.val = none)) ∧
    (∃ (u : Fin 8) (t0 : Instant) (p : PatternCfg) (k : GySetCfg) (s : State),
      s.img.gyPat.find? (fun p => p.u == u) = some p ∧ patFires p.qual s.pt (s.gyPat u.val) = some t0 ∧
      s.gySetOf p.setK.val = some k ∧ (s.gyState k.k.val = 0 ∨ s.gyState k.k.val = 3)) ∧
    (∃ (k : Fin 16) (a : Instant) (c : GySetCfg) (s : State),
      s.gySetOf k.val = some c ∧ s.gyMaster c = true ∧ s.gyState k.val ≠ 2 ∧
      Instant.atOrBefore (s.pt.plus c.lead) a = true) ∧
    (∃ (k : Fin 16) (a : Instant) (c : GySetCfg) (s : State),
      s.gySetOf k.val = some c ∧ (s.gyMaster c = false ∨ Instant.atOrBefore (s.pt.plus c.lead) a = false)) ∧
    (∃ (k : Fin 16) (n : BitVec 16) (a : Instant) (s : State),
      (s.gySetOf k.val).isSome = true ∧ s.gyState k.val ≠ 2 ∧ Instant.before a s.pt = false) ∧
    (∃ (k : Fin 16) (n : BitVec 16) (a : Instant) (s : State),
      (s.gySetOf k.val).isSome = true ∧ s.gyState k.val ≠ 2 ∧ Instant.before a s.pt = true) ∧
    (∃ (k : Fin 16) (a : Instant) (s : State),
      (s.gyRun k.val).armAt = some a ∧ Instant.atOrBefore a s.pt = true ∧ s.gyState k.val ≠ 2) ∧
    (∃ (k : Fin 16) (a : Instant) (s : State),
      (s.gyRun k.val).armAt = some a ∧ Instant.atOrBefore a s.pt = false) ∧
    (∃ (k : Fin 16) (a : Instant) (b : Nat) (i : Nat) (x : Bool) (n : BitVec 16) (c : GySetCfg) (s : State),
      s.gySetOf k.val = some c ∧ s.fld Fld.GY_SET_ARMS k.val = n.toNat ∧ s.gyState k.val = 1 ∧ s.gyFree = some i) ∧
    (∃ (k : Fin 16) (a : Instant) (b : Nat) (x : Bool) (n : BitVec 16) (c : GySetCfg) (s : State),
      s.gySetOf k.val = some c ∧ s.fld Fld.GY_SET_ARMS k.val = n.toNat ∧ s.gyState k.val = 1 ∧ s.gyFree = none) ∧
    (∃ (k : Fin 16) (a : Instant) (b : Nat) (i : Nat) (x : Bool) (n : BitVec 16) (c : GySetCfg) (s : State),
      s.gySetOf k.val = some c ∧ s.fld Fld.GY_SET_ARMS k.val = n.toNat ∧ s.gyState k.val = 2 ∧
      (s.gyRun k.val).slot = some i ∧ (s.gyWin i).complete = false ∧ Instant.before a (s.gyWin i).t = true ∧
      (s.gyWin i).later = []) ∧
    (∃ (k : Fin 16) (a : Instant) (b : Nat) (x : Bool) (n : BitVec 16) (s : State),
      s.fld Fld.GY_SET_ARMS k.val ≠ n.toNat) ∧
    (∃ (j : Fin 16) (k : GySetCfg) (s : State),
      s.gySetOf (s.gyWin j.val).k = some k ∧ k.chans = [] ∧ s.flag Fld.GY_CAP_VALID j.val = true ∧
      (s.gyWin j.val).complete = false ∧ Instant.atOrBefore ((s.gyWin j.val).t.plus k.post) s.pt = true) ∧
    (∃ (j : Fin 16) (k : GySetCfg) (s : State),
      s.gySetOf (s.gyWin j.val).k = some k ∧ s.flag Fld.GY_CAP_VALID j.val = true ∧
      (s.gyWin j.val).complete = false ∧ Instant.atOrBefore ((s.gyWin j.val).t.plus k.post) s.pt = true) ∧
    (∃ (j : Fin 16) (k : GySetCfg) (s : State),
      s.gySetOf (s.gyWin j.val).k = some k ∧ Instant.atOrBefore ((s.gyWin j.val).t.plus k.post) s.pt = false) ∧
    (∃ (k : Fin 16) (c : GySetCfg) (s : State),
      s.gySetOf k.val = some c ∧ s.gyState k.val = 3 ∧ s.gyHeldOff c = true ∧ s.gyMaster c = true) ∧
    (∃ (k : Fin 16) (c : GySetCfg) (s : State),
      s.gySetOf k.val = some c ∧ s.gyState k.val = 3 ∧ s.gyHeldOff c = true ∧ s.gyMaster c = false) ∧
    (∃ (k : Fin 16) (c : GySetCfg) (s : State),
      s.gySetOf k.val = some c ∧ (s.gyState k.val ≠ 3 ∨ s.gyHeldOff c = false)) ∧
    (∃ (j : Fin 16) (s : State),
      s.flag Fld.GY_CAP_VALID j.val = true) ∧
    (∃ (j : Fin 16) (s : State),
      s.flag Fld.GY_CAP_VALID j.val = false) ∧
    (∃ (k : Fin 16) (c : GySetCfg) (i : Nat) (s : State),
      s.gySetOf k.val = some c ∧ s.gyState k.val = 1 ∧ s.gyFree = some i) ∧
    (∃ (k : Fin 16) (c : GySetCfg) (s : State),
      s.gySetOf k.val = some c ∧ (s.gyState k.val = 0 ∨ s.gyState k.val = 3)) ∧
    (∃ (h : SvcMsg) (j : Fin 16) (s : State),
      (s.sess h.sess.val).open_ = true ∧ s.serving = true ∧ s.svcRefusal h 0x31 1 0 none = none ∧
      s.flag Fld.GY_CAP_VALID j.val = true) ∧
    (∃ (h : SvcMsg) (j : Fin 16) (s : State),
      (s.sess h.sess.val).open_ = true ∧ s.serving = true ∧ s.svcRefusal h 0x31 1 0 none = none ∧
      s.flag Fld.GY_CAP_VALID j.val = false) ∧
    (∃ (h : SvcMsg) (k : Fin 16) (c : GySetCfg) (i : Nat) (s : State),
      (s.sess h.sess.val).open_ = true ∧ s.serving = true ∧ s.svcRefusal h 0x31 1 0 none = none ∧
      s.gySetOf k.val = some c ∧ s.gyState k.val = 1 ∧ s.gyFree = some i) ∧
    (∃ (h : SvcMsg) (k : Fin 16) (c : GySetCfg) (s : State),
      (s.sess h.sess.val).open_ = true ∧ s.serving = true ∧ s.svcRefusal h 0x31 1 0 none = none ∧
      s.gySetOf k.val = some c ∧ s.gyState k.val = 1 ∧ s.gyFree = none) ∧
    (∃ (h : SvcMsg) (k : Fin 16) (c : GySetCfg) (s : State),
      (s.sess h.sess.val).open_ = true ∧ s.serving = true ∧ s.svcRefusal h 0x31 1 0 none = none ∧
      s.gySetOf k.val = some c ∧ (s.gyState k.val = 0 ∨ s.gyState k.val = 3)) :=
  ⟨⟨7, (State.reset).pt - 5000#64, { u := 7, setK := 15, qual := 5 }, { k := 15, num := 200 }, 0, (wGySet (State.reset) { k := 15, num := 200 } 1).setGyPat 7 { since := some ((State.reset).pt - 5000#64) }, by decide +kernel⟩,
  ⟨7, { u := 7, setK := 15, qual := 5 }, (wGySet (State.reset) { k := 15, num := 200 } 1).setGyPat 7 { since := some ((State.reset).pt - 4999#64) }, by decide +kernel⟩,
  ⟨7, (State.reset).pt - 5000#64, { u := 7, setK := 15, qual := 5 }, { k := 15, num := 200 }, (wGySet (State.reset) { k := 15, num := 200 } 0).setGyPat 7 { since := some ((State.reset).pt - 5000#64) }, by decide +kernel⟩,
  ⟨15, (State.reset).pt.plus 10000000, wSet (State.reset), wGySet (State.reset) (wSet (State.reset)) 0, by decide +kernel⟩,
  ⟨15, (State.reset).pt, wSet (State.reset), wGySet (State.reset) (wSet (State.reset)) 0, by decide +kernel⟩,
  ⟨15, 0xFFFF#16, (State.reset).pt, wGySet (State.reset) (wSet (State.reset)) 0, by decide +kernel⟩,
  ⟨15, 2#16, (State.reset).pt - 1#64, wGySet (State.reset) (wSet (State.reset)) 0, by decide +kernel⟩,
  ⟨15, (State.reset).pt, (wGySet (State.reset) (wSet (State.reset)) 0).setGyRun 15 { armAt := some (State.reset).pt }, by decide +kernel⟩,
  ⟨15, (State.reset).pt.plus 1, (State.reset).setGyRun 15 { armAt := some ((State.reset).pt.plus 1) }, by decide +kernel⟩,
  ⟨15, (State.reset).pt, 4, 0, true, 7#16, wSet (State.reset), (wGySet (State.reset) (wSet (State.reset)) 1).setFld Fld.GY_SET_ARMS 7 15, by decide +kernel⟩,
  ⟨15, (State.reset).pt, 4, true, 7#16, wSet (State.reset), wGyNoSlot ((wGySet (State.reset) (wSet (State.reset)) 1).setFld Fld.GY_SET_ARMS 7 15), by decide +kernel⟩,
  ⟨15, (State.reset).pt - 9#64, 4, 2, true, 7#16, wSet (State.reset), wGyWin ((wGySet (State.reset) (wSet (State.reset)) 2).setFld Fld.GY_SET_ARMS 7 15) 2, by decide +kernel⟩,
  ⟨15, (State.reset).pt, 4, true, 7#16, (State.reset).setFld Fld.GY_SET_ARMS 6 15, by decide +kernel⟩,
  ⟨2, wSet (State.reset), wGyWin (wGySet (State.reset) (wSet (State.reset)) 2) 2, by decide +kernel⟩,
  ⟨2, wSet (State.reset), wGyWin (wGySet (State.reset) (wSet (State.reset)) 2) 2, by decide +kernel⟩,
  ⟨2, { wSet (State.reset) with post := 100 }, wGyWin (wGySet (State.reset) { wSet (State.reset) with post := 100 } 2) 2, by decide +kernel⟩,
  ⟨15, wSet (State.reset), wGySet (State.reset) (wSet (State.reset)) 3, by decide +kernel⟩,
  ⟨15, wSet (State.reset), (wGySet (State.reset) (wSet (State.reset)) 3).setFld Fld.BN_STATUS_ROLE 2, by decide +kernel⟩,
  ⟨15, { wSet (State.reset) with holdoff := 9 }, (wGySet (State.reset) { wSet (State.reset) with holdoff := 9 } 3).setGyRun 15 { doneAt := some (State.reset).pt }, by decide +kernel⟩,
  ⟨2, (wGyWin (wGySet (wSvc (State.reset) true) (wSet (State.reset)) 2) 2), by decide +kernel⟩,
  ⟨2, (State.reset).setReg .GY_CAP 2 0, by decide +kernel⟩,
  ⟨15, wSet (State.reset), 0, wGySet (State.reset) (wSet (State.reset)) 1, by decide +kernel⟩,
  ⟨15, wSet (State.reset), wGySet (State.reset) (wSet (State.reset)) 3, by decide +kernel⟩,
  ⟨{ sess := 1 }, 2, wGyWin (wGySet (wSvc (State.reset) true) (wSet (State.reset)) 2) 2, by decide +kernel⟩,
  ⟨{ sess := 1 }, 2, (wSvc (State.reset) true).setReg .GY_CAP 2 0, by decide +kernel⟩,
  ⟨{ sess := 1 }, 15, wSet (State.reset), 0, wGySet (wSvc (State.reset) true) (wSet (State.reset)) 1, by decide +kernel⟩,
  ⟨{ sess := 1 }, 15, wSet (State.reset), wGyNoSlot (wGySet (wSvc (State.reset) true) (wSet (State.reset)) 1), by decide +kernel⟩,
  ⟨{ sess := 1 }, 15, wSet (State.reset), wGySet (wSvc (State.reset) true) (wSet (State.reset)) 0, by decide +kernel⟩⟩

theorem test_hyps_ScapexCycles :
    (∃ (e : Nat) (a : Instant) (d : BitVec 128) (s : State),
      s.entGrp e = some d ∧ s.runsNow e d 2 a = true ∧ s.sxPorts (s.entry e) a ≠ [] ∧ s.role = 1 ∧
      (s.sxMay = false ∨ s.isDue 6 e a = false)) ∧
    (∃ (e : Nat) (a : Instant) (d : BitVec 128) (s : State),
      s.entGrp e = some d ∧ s.runsNow e d 2 a = true ∧ s.sxPorts (s.entry e) a ≠ [] ∧ (s.role = 2 ∨ s.role = 3)) ∧
    (∃ (e : Nat) (i : Nat) (a : Instant) (d : BitVec 128) (s : State),
      s.entGrp e = some d ∧ s.runsNow e d 2 a = true ∧ s.sxPorts (s.entry e) a = [i / 32] ∧ s.role = 1 ∧
      s.sxMay = true ∧ s.isDue 6 e a = true ∧ s.entCars (s.entry e) = [i] ∧ (s.carCfg i).slices ≠ 0 ∧
      s.sxOn (i / 32) = true ∧ (s.sxP (i / 32)).timed.map Prod.fst = some (s.fld Fld.SX_EPOCH_EPOCH)) ∧
    (∃ (e : Nat) (a : Instant) (d : BitVec 128) (s : State),
      s.entGrp e = some d) ∧
    (∃ (e : Nat) (a : Instant) (d : BitVec 128) (s : State),
      s.entGrp e = some d ∧ s.runsNow e d 2 a = false ∧ (s.collect e).active = true ∧ (s.collect e).s = a) ∧
    (∃ (p : Fin 8) (f : SxFrame) (s : State),
      s.sxOn p.val = true ∧ s.sxOwn f = true ∧ s.alive 6 = true ∧ (sxType f = 2 ∨ sxType f = 3) ∧ f.fcsOk = false) ∧
    (∃ (p : Fin 8) (f : SxFrame) (h : W64) (s : State),
      s.sxOn p.val = true ∧ s.sxOwn f = true ∧ s.alive 6 = true ∧ sxType f = 3 ∧ f.fcsOk = true ∧ f.payload = [h] ∧
      slotReports h = true ∧ s.carDeclared (32 * p.val + bits h 63 59) = true ∧ bits h 43 40 = 2 ∧
      s.fld Fld.SX_CAR_CSTATE (32 * p.val + bits h 63 59) ≠ 2 ∧ bitAt h 39 = false ∧ s.takesRecord 6) ∧
    (∃ (p : Fin 8) (f : SxFrame) (h : W64) (ws : List W64) (e : Nat) (i : Nat) (k : Nat) (d : BitVec 128) (s : State),
      s.sxOn p.val = true ∧ s.sxOwn f = true ∧ s.alive 6 = true ∧ sxType f = 2 ∧ f.fcsOk = true ∧
      f.payload = h :: ws ∧ ws.length = 5 ∧ bits h 52 46 = 1 ∧ bitAt h 45 = true ∧ bitAt h 39 = false ∧
      bits h 43 40 = 1 ∧ i = 32 * p.val + bits h 63 59 ∧ k = bits h 58 53 ∧ s.carDeclared i = true ∧
      s.flag Fld.SX_CAR_MISMATCH i = false ∧ s.collectsOf f = [e] ∧
      (s.collect e).left.contains (64 * i + k) = true ∧ s.entGrp e = some d ∧ grpClass d ≠ 0) ∧
    (∃ (p : Fin 8) (f : SxFrame) (h : W64) (ws : List W64) (e : Nat) (i : Nat) (k : Nat) (d : BitVec 128) (s : State),
      s.sxOn p.val = true ∧ s.sxOwn f = true ∧ s.alive 6 = true ∧ sxType f = 2 ∧ f.fcsOk = true ∧
      f.payload = h :: ws ∧ ws.length = 5 ∧ bits h 52 46 = 1 ∧ bitAt h 45 = true ∧ bitAt h 39 = false ∧
      bits h 43 40 = 1 ∧ i = 32 * p.val + bits h 63 59 ∧ k = bits h 58 53 ∧ s.carDeclared i = true ∧
      s.flag Fld.SX_CAR_MISMATCH i = false ∧ s.collectsOf f = [e] ∧
      (s.collect e).left.contains (64 * i + k) = true ∧ s.entGrp e = some d ∧ grpClass d = 0 ∧
      Instant.before s.pt ((s.collect e).s.plus 50000) = true) ∧
    (∃ (e : Nat) (i : Nat) (s : State),
      (s.collect e).active = true ∧ s.entCars (s.entry e) = [i] ∧ (s.collect e).left = []) ∧
    (∃ (e : Nat) (i : Nat) (d : BitVec 128) (s : State) (u : State),
      u = s.settle s.pt ∧ (s.collect e).active = true ∧ s.reached (s.sxBound e (s.collect e).s) = true ∧
      s.entCars (s.entry e) = [i] ∧ (s.carCfg i).slices = 1 ∧ (s.collect e).left = [64 * i] ∧ s.entGrp e = some d ∧
      grpClass d ≠ 0) ∧
    (∃ (e : Nat) (s : State),
      (s.collect e).active = false ∨ ((s.collect e).left ≠ [] ∧ s.reached (s.sxBound e (s.collect e).s) = false)) ∧
    (∃ (e : Nat) (i : Nat) (k : Instant) (d : BitVec 128) (s : State),
      s.entGrp e = some d ∧ s.runsNow e d 6 k = true ∧ s.role = 1 ∧ s.sxMay = true ∧ s.isDue 6 e k = true ∧
      s.entCars (s.entry e) = [i] ∧ (s.carCfg i).slices ≠ 0 ∧ s.sxOn (i / 32) = true ∧
      (s.sxP (i / 32)).timed.map Prod.fst = some (s.fld Fld.SX_EPOCH_EPOCH)) ∧
    (∃ (e : Nat) (k : Instant) (d : BitVec 128) (s : State),
      s.entGrp e = some d ∧ s.runsNow e d 6 k = true ∧ s.role = 1 ∧ (s.sxMay = false ∨ s.isDue 6 e k = false)) ∧
    (∃ (p : Nat) (s : State),
      s.sxOrigin = true ∧ p < 8 ∧ (∀ q < 8, s.sxOn q = decide (q = p)) ∧ (s.sxP p).timed ≠ some s.sxCycle) ∧
    (∃ (s : State),
      s.sxOrigin = false ∨ (∀ p < 8, s.sxOn p = true → (s.sxP p).timed = some s.sxCycle)) ∧
    (∃ (p : Fin 8) (f : SxFrame) (l : Nat) (s : State),
      s.sxOn p.val = true ∧ s.sxOwn f = true ∧ s.alive 6 = true ∧ sxType f = 1 ∧ (s.sxP p.val).sent = true ∧
      f.fcsOk = true ∧ sxWrapped f = false ∧ bitAt f.hdr 44 = true ∧ (s.sxP p.val).retE = some 0 ∧
      (s.sxP p.val).wrapNow = true ∧ s.takesRecord 6) ∧
    (∃ (p : Fin 8) (f : SxFrame) (l : Nat) (s : State),
      s.sxOn p.val = true ∧ s.sxOwn f = true ∧ s.alive 6 = true ∧ sxType f = 1 ∧ (s.sxP p.val).sent = true ∧
      f.fcsOk = true ∧ sxWrapped f = true ∧ bitAt f.hdr 44 = false ∧ (s.sxP p.val).wrapNow = false ∧ s.takesRecord 6) ∧
    (∃ (p : Fin 8) (f : SxFrame) (l : Nat) (s : State),
      s.sxOn p.val = true ∧ s.sxOwn f = true ∧ s.alive 6 = true ∧ sxType f = 1 ∧ (s.sxP p.val).sent = true ∧
      f.fcsOk = false) ∧
    (∃ (p : Fin 8) (f : SxFrame) (n : Nat) (s : State),
      s.alive 6 = true ∧ s.sxOrigin = false ∧ s.sxOwn f = false ∧ (s.sxP p.val).downE = false ∧
      (s.sxP p.val).downW = false) ∧
    (∃ (p : Fin 8) (f : SxFrame) (n : Nat) (s : State),
      s.alive 6 = true ∧ s.sxOrigin = false ∧ s.sxOwn f = false ∧ bitAt f.hdr 44 = sxWrapped f ∧
      (s.sxP p.val).downE = true) ∧
    (∃ (p : Fin 8) (f : SxFrame) (n : Nat) (i : Nat) (ch : Nat) (w : W64) (s : State),
      s.alive 6 = true ∧ s.sxOrigin = false ∧ s.sxOwn f = false ∧ s.standing = true ∧ f.fcsOk = true ∧
      sxType f = 4 ∧ bits f.hdr 58 46 = s.base.binary ∧ bitAt f.hdr 43 = true ∧ f.payload = [w] ∧
      i = 32 * p.val + bits w 63 59 ∧ ch = bits w 58 50) ∧
    (∃ (p : Fin 8) (f : SxFrame) (n : Nat) (s : State),
      s.alive 6 = false ∨ s.sxOrigin = true ∨ s.sxOwn f = true) :=
  ⟨⟨0, 5000000#64, wGrp 1, wAt (wSxGo (wSxEntry (State.reset) 2)) 5000000#64, by decide +kernel⟩,
  ⟨0, 5000000#64, wGrp 1, wAt ((wSxGo (wSxEntry (State.reset) 2)).setFld Fld.BN_STATUS_ROLE 3) 5000000#64, by decide +kernel⟩,
  ⟨0, 33, 5000000#64, wGrp 1, wTimed ((wAt (wSxGo (wSxEntry (State.reset) 2)) 5000000#64).putDue 6 0 5000000#64) 1, by decide +kernel⟩,
  ⟨0, 5000000#64, wGrp 1, (wAt ((wSxEntry (State.reset) 2).setFld Fld.BN_STATUS_ROLE 0) 5000000#64).setCollect 0 {}, by decide +kernel⟩,
  ⟨0, 5000000#64, wGrp 1, ((wAt (wSxGo (wSxEntry (State.reset) 2)) 5000000#64).ranAt 0 5000000#64).setCollect 0 { active := true, s := 5000000#64, left := [2112], sent := [3] }, by decide +kernel⟩,
  ⟨7, { wSxFrame (State.reset) 2 with fcsOk := false }, wSxPort (State.reset) 7, by decide +kernel⟩,
  ⟨1, { wSxFrame (State.reset) 3 with payload := [wSlotHdr] }, wSlotHdr, wRoom (wSxCar (wSxPort (State.reset) 1)), by unfold State.takesRecord; decide +kernel⟩,
  ⟨1, { hdr := putBits (wSxFrame (State.reset) 2).hdr 39 32 2, payload := wFreshHdr :: [1, 2, 3, 4, 5] }, wFreshHdr, [1, 2, 3, 4, 5], 0, 33, 0, wGrp 1, (wFresh (State.reset)).setFlag Fld.SX_CAR_MISMATCH false 33, by decide +kernel⟩,
  ⟨1, { hdr := putBits (wSxFrame (State.reset) 2).hdr 39 32 2, payload := wFreshHdr :: [1, 2, 3, 4, 5] }, wFreshHdr, [1, 2, 3, 4, 5], 0, 33, 0, wGrp 0, (wSxFastGrp (wFresh (State.reset))).setFlag Fld.SX_CAR_MISMATCH false 33, by decide +kernel⟩,
  ⟨0, 33, (wSxEntry (State.reset) 2).setCollect 0 { active := true }, by decide +kernel⟩,
  ⟨0, 33, wGrp 1, (wAt (wSxEntry (State.reset) 2) 90000000#64).setCollect 0 { active := true, s := 5000000#64, left := [2112] }, ((wAt (wSxEntry (State.reset) 2) 90000000#64).setCollect 0 { active := true, s := 5000000#64, left := [2112] }).settle ((wAt (wSxEntry (State.reset) 2) 90000000#64).setCollect 0 { active := true, s := 5000000#64, left := [2112] }).pt, by decide +kernel⟩,
  ⟨0, (State.reset).setCollect 0 {}, by decide +kernel⟩,
  ⟨0, 33, 5000600#64, wGrp 1, wTimed ((wAt (wSxGo (wSxEntry (State.reset) 6)) 5000600#64).putDue 6 0 5000600#64) 1, by decide +kernel⟩,
  ⟨0, 5000600#64, wGrp 1, wAt (wSxGo (wSxEntry (State.reset) 6)) 5000600#64, by decide +kernel⟩,
  ⟨7, (wSxOnly (wSxGo (State.reset)) 7).setSxP 7 {}, by decide +kernel⟩,
  ⟨{ (State.reset) with bn := { (State.reset).bn with storePend := true } }.setFld Fld.BN_STATUS_ROLE 2, by decide +kernel⟩,
  ⟨1, { wSxFrame (State.reset) 1 with hdr := putBit (wSxFrame (State.reset) 1).hdr 44 true }, 655360, (wRoom (wSxPort (State.reset) 1)).setSxP 1 { sent := true, retE := some 0, wrapNow := true }, by unfold State.takesRecord; decide +kernel⟩,
  ⟨1, { wSxFrame (State.reset) 1 with hdr := putBits (putBit (wSxFrame (State.reset) 1).hdr 59 true) 65 60 32 }, 5, (wRoom (wSxPort (State.reset) 1)).setSxP 1 { sent := true }, by unfold State.takesRecord; decide +kernel⟩,
  ⟨1, { wSxFrame (State.reset) 1 with fcsOk := false }, 5, (wSxPort (State.reset) 1).setSxP 1 { sent := true }, by decide +kernel⟩,
  ⟨0, wSxOther (State.reset) 1, 65536, (wSxPort (State.reset) 0).setSxP 0 {}, by decide +kernel⟩,
  ⟨0, wSxOther (State.reset) 1, 65536, (wSxPort (State.reset) 0).setSxP 0 { downE := true }, by decide +kernel⟩,
  ⟨1, { wSxOther (State.reset) 4 with hdr := putBit (wSxOther (State.reset) 4).hdr 43 true, payload := [putBits (putBits (putBits 0 63 59 1) 58 50 5) 31 0 7] }, 65536, 33, 5, putBits (putBits (putBits 0 63 59 1) 58 50 5) 31 0 7, (wSxPort (State.reset) 1).setFld Fld.BN_STATUS_ROLE 2, by decide +kernel⟩,
  ⟨0, wSxFrame (State.reset) 1, 65536, (State.reset).setFlag Fld.SUP_ISLAND_ALIVE false 6, by decide +kernel⟩⟩

theorem test_hyps_ScapexServiceAndCarriers :
    (∃ (p : Fin 8) (x : SxService) (s : State),
      (s.sxP p.val).tx = [x] ∧ x.onRing = 0 ∧ s.sxOn p.val = true ∧ s.sxOrigin = true ∧
      s.sxRoom p.val x.payload.length = true ∧ (s.sxP p.val).timed.map Prod.fst = some (s.fld Fld.SX_EPOCH_EPOCH)) ∧
    (∃ (p : Fin 8) (x : SxService) (s : State),
      (s.sxP p.val).tx = [x] ∧ x.onRing = 0 ∧ s.sxOn p.val = true ∧ s.sxOrigin = true ∧
      s.sxRoom p.val x.payload.length = true ∧ (s.sxP p.val).timed.map Prod.fst ≠ some (s.fld Fld.SX_EPOCH_EPOCH)) ∧
    (∃ (p : Fin 8) (s : State),
      s.sxOrigin = false ∨ s.sxOn p.val = false ∨ (s.sxP p.val).tx = []) ∧
    (∃ (p : Fin 8) (f : SxFrame) (x : SxService) (s : State),
      s.sxOn p.val = true ∧ s.sxOwn f = true ∧ s.alive 6 = true ∧ sxType f = 5 ∧ (s.sxP p.val).tx = [x] ∧
      0 < x.onRing ∧ x.seq = bits f.hdr 95 80 ∧ f.fcsOk = true) ∧
    (∃ (p : Fin 8) (f : SxFrame) (x : SxService) (i : Nat) (s : State),
      s.sxOn p.val = true ∧ s.sxOwn f = true ∧ s.alive 6 = true ∧ sxType f = 5 ∧ (s.sxP p.val).tx = [x] ∧
      0 < x.onRing ∧ x.seq = bits f.hdr 95 80 ∧ f.fcsOk = true ∧ x.got = false ∧ x.ident = some i ∧ x.load = none) ∧
    (∃ (p : Fin 8) (f : SxFrame) (x : SxService) (i : Nat) (s : State),
      s.sxOn p.val = true ∧ s.sxOwn f = true ∧ s.alive 6 = true ∧ sxType f = 5 ∧ (s.sxP p.val).tx = [x] ∧
      0 < x.onRing ∧ x.seq = bits f.hdr 95 80 ∧ f.fcsOk = true ∧ x.got = false ∧ x.load = some i ∧ s.takesRecord 6) ∧
    (∃ (p : Fin 8) (f : SxFrame) (x : SxService) (s : State),
      s.sxOn p.val = true ∧ s.sxOwn f = true ∧ s.alive 6 = true ∧ sxType f = 5 ∧ (s.sxP p.val).tx = [x] ∧
      0 < x.onRing ∧ x.seq = bits f.hdr 95 80 ∧ f.fcsOk = false) ∧
    (∃ (p : Fin 8) (x : SxService) (s : State),
      (s.sxP p.val).tx = [x] ∧ s.txLate p.val x = true) ∧
    (∃ (p : Fin 8) (s : State),
      (∀ x ∈ (s.sxP p.val).tx, s.txLate p.val x = false)) ∧
    (∃ (i : Fin 256) (k : Option Nat) (s : State),
      s.sxOn (i.val / 32) = true ∧ s.carDeclared i.val = true ∧ s.sxOrigin = true ∧ 6 ≤ s.phase ∧
      (s.sxC i.val).answered = false) ∧
    (∃ (i : Fin 256) (k : Option Nat) (s : State),
      s.sxOn (i.val / 32) = true ∧ s.carDeclared i.val = true ∧ s.sxOrigin = true ∧ 6 ≤ s.phase ∧
      (s.sxC i.val).answered = false) ∧
    (∃ (i : Fin 256) (k : Nat) (s : State),
      s.sxOn (i.val / 32) = true ∧ s.carDeclared i.val = true ∧ s.sxOrigin = true ∧ 6 ≤ s.phase ∧
      (s.sxC i.val).answered = true ∧ k = (s.carCfg i.val).identity) ∧
    (∃ (i : Fin 256) (k : Nat) (s : State),
      s.sxOn (i.val / 32) = true ∧ s.carDeclared i.val = true ∧ s.sxOrigin = true ∧ 6 ≤ s.phase ∧
      (s.sxC i.val).answered = true ∧ k ≠ (s.carCfg i.val).identity ∧ s.takesRecord 6) ∧
    (∃ (i : Fin 256) (s : State),
      s.sxOn (i.val / 32) = true ∧ s.carDeclared i.val = true ∧ s.sxOrigin = true ∧ 6 ≤ s.phase ∧
      (s.sxC i.val).answered = true) ∧
    (∃ (i : Fin 256) (k : Option Nat) (s : State),
      s.sxOrigin = false ∨ s.carDeclared i.val = false) ∧
    (∃ (i : Fin 256) (n : W64) (s : State),
      s.sxOn (i.val / 32) = true ∧ s.carDeclared i.val = true ∧ s.sxOrigin = true ∧ (s.sxC i.val).lost = false ∧
      (s.sxC i.val).slotAt = some n ∧ 3000000 ≤ (s.mt.frc - n).toNat ∧ s.takesRecord 6) ∧
    (∃ (i : Fin 256) (s : State),
      (s.sxC i.val).lost = true ∨ s.sxSilent (s.sxC i.val) = false) :=
  ⟨⟨1, { payload := [1#64] }, wTimed ((wSxGo (State.reset)).setSxP 1 { tx := [{ payload := [1#64] }] }) 1, by decide +kernel⟩,
  ⟨1, { payload := [1#64] }, (wSxGo (State.reset)).setSxP 1 { tx := [{ payload := [1#64] }] }, by decide +kernel⟩,
  ⟨1, (State.reset).setFlag Fld.SX_PORT_EN false 1, by decide +kernel⟩,
  ⟨1, wSxFrame (State.reset) 5, { onRing := 1 }, (wSxPort (State.reset) 1).setSxP 1 { tx := [{ onRing := 1 }] }, by decide +kernel⟩,
  ⟨1, wSxFrame (State.reset) 5, { onRing := 1, ident := some 33 }, 33, (wSxPort (State.reset) 1).setSxP 1 { tx := [{ onRing := 1, ident := some 33 }] }, by decide +kernel⟩,
  ⟨1, wSxFrame (State.reset) 5, { onRing := 2, load := some 33 }, 33, wRoom ((wSxPort (State.reset) 1).setSxP 1 { tx := [{ onRing := 2, load := some 33 }] }), by unfold State.takesRecord; decide +kernel⟩,
  ⟨1, { wSxFrame (State.reset) 5 with fcsOk := false }, { onRing := 1, tries := 3 }, (wSxPort (State.reset) 1).setSxP 1 { tx := [{ onRing := 1, tries := 3 }] }, by decide +kernel⟩,
  ⟨1, { onRing := 2, tries := 4, sentAt := (State.reset).mt.frc - 1000000000#64 }, (wSxPort (State.reset) 1).setSxP 1 { tx := [{ onRing := 2, tries := 4, sentAt := (State.reset).mt.frc - 1000000000#64 }] }, by decide +kernel⟩,
  ⟨1, (State.reset).setSxP 1 { tx := [{ onRing := 0 }] }, by decide +kernel⟩,
  ⟨33, some 9, (wRoom (wSxGo (wSxCar (State.reset)))).setSxC 33 {}, by decide +kernel⟩,
  ⟨33, some 9, (wRoom (wSxGo (wSxCar (State.reset)))).setSxC 33 {}, by decide +kernel⟩,
  ⟨33, 9, (wRoom (wSxGo (wSxCar (State.reset)))).setSxC 33 { answered := true }, by decide +kernel⟩,
  ⟨33, 8, (wRoom (wSxGo (wSxCar (State.reset)))).setSxC 33 { answered := true }, by unfold State.takesRecord; decide +kernel⟩,
  ⟨33, (wRoom (wSxGo (wSxCar (State.reset)))).setSxC 33 { answered := true }, by decide +kernel⟩,
  ⟨33, none, { (State.reset) with img := { (State.reset).img with sxCar := [] } }, by decide +kernel⟩,
  ⟨33, (State.reset).mt.frc - 3000000#64, (wRoom (wSxGo (wSxCar (State.reset)))).setSxC 33 { slotAt := some ((State.reset).mt.frc - 3000000#64) }, by unfold State.takesRecord; decide +kernel⟩,
  ⟨33, (State.reset).setSxC 33 {}, by decide +kernel⟩⟩

theorem test_hyps_CanFramesAndConfinement :
    (∃ (p : Fin 4) (f : CanFrame) (o : Nat) (s : State),
      s.canOn p.val = true ∧ s.fld Fld.CN_STAT_FC p.val = 0 ∧ (f.fdf && !s.flag Fld.CN_CFG_FD p.val) = false ∧
      s.fld Fld.CN_STAT_REC p.val < 128 ∧ s.fld Fld.CN_STAT_TEC p.val < 128 ∧
      s.flag Fld.CN_STAT_ALONE p.val = false ∧ s.canMatch p.val f.id.toNat f.ide = some o ∧
      (s.canObj p.val o).send = false ∧ bitAt (s.canObj p.val o).hdr 38 = false ∧
      bitAt (s.canObj p.val o).hdr 41 = f.fdf) ∧
    (∃ (p : Fin 4) (f : CanFrame) (o : Nat) (s : State),
      s.canOn p.val = true ∧ s.fld Fld.CN_STAT_FC p.val = 0 ∧ (f.fdf && !s.flag Fld.CN_CFG_FD p.val) = false ∧
      s.fld Fld.CN_STAT_REC p.val < 128 ∧ s.fld Fld.CN_STAT_TEC p.val < 128 ∧
      s.flag Fld.CN_STAT_ALONE p.val = false ∧ s.canMatch p.val f.id.toNat f.ide = some o ∧
      (s.canObj p.val o).send = false ∧ bitAt (s.canObj p.val o).hdr 38 = true ∧
      bitAt (s.canObj p.val o).hdr 41 = f.fdf) ∧
    (∃ (p : Fin 4) (f : CanFrame) (s : State),
      s.canOn p.val = true ∧ s.fld Fld.CN_STAT_FC p.val = 0 ∧ (f.fdf && !s.flag Fld.CN_CFG_FD p.val) = false ∧
      s.fld Fld.CN_STAT_REC p.val < 128 ∧ s.fld Fld.CN_STAT_TEC p.val < 128 ∧
      s.flag Fld.CN_STAT_ALONE p.val = false ∧ s.canMatch p.val f.id.toNat f.ide = none) ∧
    (∃ (p : Fin 4) (f : CanFrame) (s : State),
      s.canOn p.val = true ∧ s.fld Fld.CN_STAT_FC p.val = 0 ∧ (f.fdf && !s.flag Fld.CN_CFG_FD p.val) = false ∧
      s.fld Fld.CN_STAT_REC p.val < 128 ∧ s.fld Fld.CN_STAT_TEC p.val < 128 ∧
      s.flag Fld.CN_STAT_ALONE p.val = true ∧ s.takesRecord 7) ∧
    (∃ (p : Fin 4) (f : CanFrame) (s : State),
      s.canOn p.val = true ∧ s.fld Fld.CN_STAT_FC p.val < 2 ∧ f.fdf = true ∧ s.flag Fld.CN_CFG_FD p.val = false) ∧
    (∃ (p : Fin 4) (s : State),
      s.canOn p.val = true ∧ s.fld Fld.CN_STAT_FC p.val = 0 ∧ s.fld Fld.CN_STAT_TEC p.val < 128 ∧
      s.fld Fld.CN_STAT_REC p.val < 128 ∧ s.canListens p.val = false ∧ s.flag Fld.CN_STAT_ALONE p.val = false) ∧
    (∃ (p : Fin 4) (s : State),
      s.canOn p.val = true ∧ s.fld Fld.CN_STAT_FC p.val = 1 ∧ s.fld Fld.CN_STAT_TEC p.val < 128 ∧
      127 < s.fld Fld.CN_STAT_REC p.val ∧ s.canListens p.val = false ∧ s.flag Fld.CN_STAT_ALONE p.val = false ∧
      s.takesRecord 7) ∧
    (∃ (p : Fin 4) (f : CanFrame) (s : State),
      s.canOn p.val = false ∨ 2 ≤ s.fld Fld.CN_STAT_FC p.val) ∧
    (∃ (p : Fin 4) (s : State),
      s.canOn p.val = true ∧ s.fld Fld.CN_STAT_FC p.val < 2) ∧
    (∃ (p : Fin 4) (o : Fin 128) (s : State),
      s.canSends p.val o.val = true ∧ (s.canObj p.val o.val).pend = true ∧ s.fld Fld.CN_STAT_FC p.val = 0 ∧
      s.fld Fld.CN_STAT_REC p.val < 128 ∧ s.fld Fld.CN_STAT_TEC p.val < 128 ∧ s.flag Fld.CN_STAT_ALONE p.val = false) ∧
    (∃ (p : Fin 4) (o : Fin 128) (n : Nat) (s : State),
      s.canSends p.val o.val = true ∧ (s.canObj p.val o.val).pend = true ∧ s.fld Fld.CN_STAT_FC p.val = 0 ∧
      s.fld Fld.CN_STAT_REC p.val < 128 ∧ s.fld Fld.CN_STAT_TEC p.val < 128 ∧
      s.flag Fld.CN_STAT_ALONE p.val = false ∧ 0 < n ∧ n ≤ (s.canObj p.val o.val).old.length) ∧
    (∃ (p : Fin 4) (o : Fin 128) (n : Nat) (x : Nat × BitVec 512) (s : State),
      s.canSends p.val o.val = true ∧ (s.canObj p.val o.val).pend = false ∧ (s.canObj p.val o.val).old[n]? = some x) ∧
    (∃ (p : Fin 4) (o : Fin 128) (d : Bool) (s : State),
      s.canSends p.val o.val = true ∧ s.canListens p.val = false ∧ s.fld Fld.CN_STAT_FC p.val = 0 ∧
      s.fld Fld.CN_STAT_REC p.val < 128 ∧ s.fld Fld.CN_STAT_TEC p.val < 120 ∧ s.fld Fld.CN_STAT_ACK_RUN p.val < 2 ∧
      bits (s.canObj p.val o.val).hdr 63 56 = 0) ∧
    (∃ (p : Fin 4) (o : Fin 128) (d : Bool) (s : State),
      s.canSends p.val o.val = true ∧ s.canListens p.val = false ∧ s.fld Fld.CN_STAT_FC p.val = 0 ∧
      s.fld Fld.CN_STAT_REC p.val < 128 ∧ s.fld Fld.CN_STAT_TEC p.val < 120 ∧ s.fld Fld.CN_STAT_ACK_RUN p.val = 2 ∧
      s.flag Fld.CN_STAT_ALONE p.val = false ∧ bits (s.canObj p.val o.val).hdr 63 56 = 1 ∧
      (s.canObj p.val o.val).pend = true ∧ s.pw.inReset = none ∧
      (s.sn.raised.filter fun r => r.island == 7).length < 15) ∧
    (∃ (p : Fin 4) (o : Fin 128) (s : State),
      s.canSends p.val o.val = true ∧ s.canListens p.val = false ∧ s.fld Fld.CN_STAT_FC p.val = 1 ∧
      128 ≤ s.fld Fld.CN_STAT_TEC p.val ∧ s.fld Fld.CN_STAT_TEC p.val < 256 ∧ s.fld Fld.CN_STAT_ACK_RUN p.val < 2 ∧
      bits (s.canObj p.val o.val).hdr 63 56 = 0) ∧
    (∃ (p : Fin 4) (k : Fin 16) (v : Bool) (s : State),
      s.canOn p.val = true ∧ s.canMay p.val = true ∧ (k = 1 ∨ k = 2 ∨ k = 4 ∨ k = 5 ∨ k = 6) ∧
      s.canListens p.val = false ∧ s.fld Fld.CN_STAT_FC p.val = 0 ∧ s.fld Fld.CN_STAT_REC p.val < 128 ∧
      s.fld Fld.CN_STAT_TEC p.val < 120) ∧
    (∃ (p : Fin 4) (k : Fin 16) (v : Bool) (s : State),
      s.canOn p.val = true ∧ s.canMay p.val = true ∧ (k ≠ 1 ∨ v = true) ∧ (k = 1 ∨ k = 2 ∨ k = 4 ∨ k = 5 ∨ k = 6) ∧
      s.canListens p.val = false ∧ s.fld Fld.CN_STAT_FC p.val = 1 ∧ 248 ≤ s.fld Fld.CN_STAT_TEC p.val ∧
      s.takesRecord 7) ∧
    (∃ (p : Fin 4) (k : Fin 16) (v : Bool) (s : State),
      s.canOn p.val = true ∧ (k = 1 ∨ k = 2 ∨ k = 4 ∨ k = 5 ∨ k = 6) ∧ s.canListens p.val = false ∧
      s.fld Fld.CN_STAT_FC p.val = 0 ∧ s.fld Fld.CN_STAT_REC p.val < 120 ∧ s.fld Fld.CN_STAT_TEC p.val < 128) ∧
    (∃ (p : Fin 4) (o : Fin 128) (s : State),
      s.canSends p.val o.val = true) ∧
    (∃ (p : Fin 4) (o : Fin 128) (s : State),
      s.canSends p.val o.val = false) ∧
    (∃ (p : Fin 4) (s : State),
      s.fld Fld.CN_STAT_FC p.val = 2 ∧ s.takesRecord 7) ∧
    (∃ (p : Fin 4) (s : State),
      s.fld Fld.CN_STAT_FC p.val ≠ 2) ∧
    (∃ (p : Fin 4) (s : State),
      s.fld Fld.CN_STAT_FC p.val = 3 ∧ s.takesRecord 7) ∧
    (∃ (p : Fin 4) (s : State),
      s.fld Fld.CN_STAT_FC p.val ≠ 3) ∧
    (∃ (p : Fin 4) (s : State),
      s.canOn p.val = true ∧ s.flag Fld.CN_STAT_TX_EN p.val = true ∧ s.flag Fld.CN_CFG_LISTEN p.val = false ∧
      s.canListens p.val = true ∧ s.takesRecord 7) ∧
    (∃ (p : Fin 4) (s : State),
      s.canOn p.val = false ∨ s.flag Fld.CN_STAT_TX_EN p.val = false ∨ s.flag Fld.CN_CFG_LISTEN p.val = true ∨ s.canListens p.val = false) ∧
    (∃ (p : Fin 4) (o : Fin 128) (n : Nat) (d : Bool) (k : Fin 16) (v : Bool) (s : State),
      (s.flag Fld.CN_STAT_TX_EN p.val = false ∨ s.canListens p.val = true) ∧ Tab.get false s.cn.finish p.val = false) :=
  ⟨⟨3, { id := 5, dlc := 2, data := [1, 2, 3] }, 127, wCanObj (wCan (State.reset) 3) 3 127 (wObjHdr 5 false false), by decide +kernel⟩,
  ⟨3, { id := 5, dlc := 2, data := [1, 2, 3] }, 127, wCanObj (wCan (State.reset) 3) 3 127 (putBit (wObjHdr 5 false false) 38 true), by decide +kernel⟩,
  ⟨3, { id := 6 }, wCanObj (wCan (State.reset) 3) 3 127 (wObjHdr 5 false false), by decide +kernel⟩,
  ⟨3, { id := 5, dlc := 2, data := [1, 2, 3] }, (wRoom (wCan (State.reset) 3)).setFlag Fld.CN_STAT_ALONE true 3, by unfold State.takesRecord; decide +kernel⟩,
  ⟨3, { fdf := true }, (wCan (State.reset) 3).setFlag Fld.CN_CFG_FD false 3, by decide +kernel⟩,
  ⟨0, (wCan (State.reset) 0).setFld Fld.CN_STAT_REC 127 0, by decide +kernel⟩,
  ⟨3, (((wRoom (wCan (State.reset) 3)).setFld Fld.CN_STAT_FC 1 3).setFld Fld.CN_STAT_REC 128 3), by unfold State.takesRecord; decide +kernel⟩,
  ⟨3, {}, (wCan (State.reset) 3).setFld Fld.CN_STAT_FC 2 3, by decide +kernel⟩,
  ⟨3, wCan (State.reset) 3, by decide +kernel⟩,
  ⟨3, 127, wCanObj (wCan (State.reset) 3) 3 127 (putBit (wObjHdr 5 true false) 36 true), by decide +kernel⟩,
  ⟨3, 127, 1, wCanOld (wCanObj (wCan (State.reset) 3) 3 127 (putBit (wObjHdr 5 true false) 36 true)), by decide +kernel⟩,
  ⟨3, 127, 0, (1, 7), wCanOld (wCanObj (wCan (State.reset) 3) 3 127 (wObjHdr 5 true false)), by decide +kernel⟩,
  ⟨3, 127, true, wCanObj (wCan (State.reset) 3) 3 127 (putBit (wObjHdr 5 true false) 36 true), by decide +kernel⟩,
  ⟨3, 127, true, wCanObj ((wRoom (wCan (State.reset) 3)).setFld Fld.CN_STAT_ACK_RUN 2 3) 3 127 (putBits (putBit (wObjHdr 5 true false) 36 true) 63 56 1), by decide +kernel⟩,
  ⟨3, 127, wCanObj (((wCan (State.reset) 3).setFld Fld.CN_STAT_FC 1 3).setFld Fld.CN_STAT_TEC 255 3) 3 127 (putBit (wObjHdr 5 true false) 36 true), by decide +kernel⟩,
  ⟨3, 6, true, wCan (State.reset) 3, by decide +kernel⟩,
  ⟨3, 1, true, (((wRoom (wCan (State.reset) 3)).setFld Fld.CN_STAT_FC 1 3).setFld Fld.CN_STAT_TEC 248 3), by unfold State.takesRecord; decide +kernel⟩,
  ⟨3, 6, false, wCan (State.reset) 3, by decide +kernel⟩,
  ⟨3, 127, wCanObj (wCan (State.reset) 3) 3 127 (putBit (wObjHdr 5 true false) 36 true), by decide +kernel⟩,
  ⟨3, 127, wCanObj (wCan (State.reset) 3) 3 127 (wObjHdr 5 false false), by decide +kernel⟩,
  ⟨3, (wRoom (State.reset)).setFld Fld.CN_STAT_FC 2 3, by unfold State.takesRecord; decide +kernel⟩,
  ⟨3, (State.reset).setFld Fld.CN_STAT_FC 3 3, by decide +kernel⟩,
  ⟨3, (wRoom (State.reset)).setFld Fld.CN_STAT_FC 3 3, by unfold State.takesRecord; decide +kernel⟩,
  ⟨3, (State.reset).setFld Fld.CN_STAT_FC 2 3, by decide +kernel⟩,
  ⟨3, ((((wRoom (wCan (State.reset) 3)).setFlag Fld.CN_STAT_TX_EN true 3).setFlag Fld.CN_CFG_LISTEN false 3).setFlag Fld.CN_STAT_LISTEN true 3), by unfold State.takesRecord; decide +kernel⟩,
  ⟨3, (State.reset).setFlag Fld.CN_STAT_TX_EN false 3, by decide +kernel⟩,
  ⟨3, (1 : Fin 128), 0, true, (1 : Fin 16), true, { (wCan (State.reset) 3).setFlag Fld.CN_STAT_TX_EN false 3 with cn := {} }, by decide +kernel⟩⟩

theorem test_hyps_CanObjectCommands :
    (∃ (w : Writer) (p : Fin 4) (o : Fin 128) (s : State),
      (s.canObj p.val o.val).en = true ∧ s.flag Fld.CN_CFG_EN p.val = true) ∧
    (∃ (w : Writer) (p : Fin 4) (o : Fin 128) (s : State),
      s.canCode (wIdx w) 2 p.val o.val = 0 ∧ (s.canObj p.val o.val).pend = false) ∧
    (∃ (w : Writer) (p : Fin 4) (o : Fin 128) (s : State),
      s.canCode (wIdx w) 2 p.val o.val = 0 ∧ (s.canObj p.val o.val).pend = true) ∧
    (∃ (w : Writer) (p : Fin 4) (o : Fin 128) (s : State),
      s.canCode (wIdx w) 3 p.val o.val = 0) ∧
    (∃ (w : Writer) (p : Fin 4) (o : Fin 128) (s : State),
      (s.canObj p.val o.val).en = false ∨ s.flag Fld.CN_CFG_EN p.val = false) ∧
    (∃ (w : Writer) (p : Fin 4) (o : Fin 128) (s : State),
      (s.canObj p.val o.val).en = true ∧ s.flag Fld.CN_CFG_EN p.val = true ∧ (s.canObj p.val o.val).send = false) ∧
    (∃ (w : Writer) (p : Fin 4) (o : Fin 128) (s : State),
      (s.canObj p.val o.val).en = true ∧ s.flag Fld.CN_CFG_EN p.val = true ∧ (s.canObj p.val o.val).send = true ∧
      (s.canListens p.val = true ∨ s.flag Fld.CN_STAT_TX_EN p.val = false)) ∧
    (∃ (w : Writer) (p : Fin 4) (o : Fin 128) (s : State),
      (s.canObj p.val o.val).en = true ∧ s.flag Fld.CN_CFG_EN p.val = true ∧ (s.canObj p.val o.val).send = true ∧
      s.canListens p.val = false ∧ s.flag Fld.CN_STAT_TX_EN p.val = true ∧
      bitAt (s.canObj p.val o.val).hdr 41 = false ∧ 8 < (s.canWin (wIdx w)).dlc) :=
  ⟨⟨.sup, 3, 127, wCanObj (wCan (State.reset) 3) 3 127 (putBit (wObjHdr 5 false false) 38 true), by decide +kernel⟩,
  ⟨.sup, 3, 127, wCanSend (wCanObj (wCan (State.reset) 3) 3 127 (wObjHdr 5 true false)) 8, by decide +kernel⟩,
  ⟨.app, 3, 127, wCanSend (wCanObj (wCan (State.reset) 3) 3 127 (putBit (wObjHdr 5 true false) 36 true)) 8, by decide +kernel⟩,
  ⟨.app, 3, 127, wCanSend (wCanObj (wCan (State.reset) 3) 3 127 (putBit (wObjHdr 5 true false) 36 true)) 8, by decide +kernel⟩,
  ⟨.app, 3, 127, wCanObj (wCan (State.reset) 3) 3 127 0, by decide +kernel⟩,
  ⟨.app, 3, 127, wCanObj (wCan (State.reset) 3) 3 127 (wObjHdr 5 false false), by decide +kernel⟩,
  ⟨.app, 3, 127, (wCanObj (wCan (State.reset) 3) 3 127 (wObjHdr 5 true false)).setFlag Fld.CN_STAT_TX_EN false 3, by decide +kernel⟩,
  ⟨.app, 3, 127, wCanSend (wCanObj (wCan (State.reset) 3) 3 127 (wObjHdr 5 true false)) 9, by decide +kernel⟩⟩

theorem test_hyps_AuthorityLoop :
    (∃ (i : Fin 18) (d : Indication) (s : State),
      i.val ≠ 5 ∧ i.val < 7 ∧ d = s.loopShows) ∧
    (∃ (i : Fin 18) (d : Indication) (s : State),
      7 ≤ i.val ∧ d = s.loopShows) ∧
    (∃ (i : Fin 18) (d : Indication) (s : State),
      d ≠ s.loopShows) ∧
    (∃ (d : Indication) (s : State),
      d = s.loopShows ∧ s.shows 7 ≠ decide (d = (if s.posB then Indication.b else Indication.a))) ∧
    (∃ (d : Indication) (s : State),
      d = s.loopShows ∧ (d = .unclaimed ∨ s.bn.claimOut = false)) ∧
    (∃ (d : Indication) (s : State),
      d = (if s.posB then Indication.b else Indication.a) ∧ d = s.loopShows ∧ s.bn.claimOut = true ∧ s.role = 0 ∧
      s.bn.failed = false ∧ s.bn.claiming = 5 ∧ s.boot.committed = false ∧ s.auth = false) ∧
    (∃ (d : Indication) (s : State),
      d = (if s.posB then Indication.b else Indication.a) ∧ d = s.loopShows ∧ s.bn.claimOut = true ∧ s.role = 2 ∧
      s.bn.failed = false ∧ s.bn.claiming = 1 ∧ s.pw.inReset = none ∧
      (s.sn.raised.filter fun r => r.island == 5).length < 16) ∧
    (∃ (s : State),
      s.pair = false) ∧
    (∃ (s : State),
      s.pair = true ∧ s.posB = true ∧ s.bn.claimOut = true ∧ s.role = 0 ∧ s.bn.claiming = 5) ∧
    (∃ (s : State),
      s.pair = true ∧ s.posB = false ∧ s.bn.claimOut = true) ∧
    (∃ (s : State),
      s.pair = true ∧ s.posB = false ∧ s.role = 2 ∧ s.flag Fld.BN_STATUS_READY = true ∧
      s.flag Fld.BN_LOOP_CLAIM_A = false ∧ s.bn.claimOut = false ∧ s.bn.hoClaim = false ∧ s.arbiter = false ∧
      s.bn.hbRelease = false ∧ s.bn.hbLost = true) ∧
    (∃ (s : State),
      s.pair = true ∧ s.role = 4) ∧
    (∃ (s : State),
      s.pair = true ∧ s.pw.calderaClaim = true) ∧
    (∃ (b : Bool) (s : State),
      s.pair = true ∧ (s.pw.calderaClaim = false ∨ b = false)) ∧
    (∃ (s : State),
      s.role = 1 ∧ s.bn.claimOut = true ∧ s.flag Fld.BN_STATUS_LOOP_FAULT = false ∧ s.takesRecord 5) ∧
    (∃ (s : State),
      s.bn.claimOut = false) ∧
    (∃ (s : State),
      s.role ≠ 1 ∧ s.bn.claimOut = true) ∧
    (∃ (s : State),
      s.pair = true ∧ s.partnerClaim = false ∧ s.role = 3 ∧ s.flag Fld.BN_STATUS_READY = true ∧ s.unclaimed = true ∧
      s.bn.claimOut = false ∧ s.bn.hoClaim = false ∧ s.arbiter = false) ∧
    (∃ (s : State),
      s.pair = true ∧ s.partnerClaim = true) ∧
    (∃ (s : State),
      (s.bn.storePend = true ∨ s.flag Fld.BN_STATUS_EPOCH_UNSTORED = true) ∧ s.keyOk = true) ∧
    (∃ (s : State),
      s.keyOk = false) ∧
    (∃ (s : State),
      s.role = 1 ∧ s.bn.taking = true ∧ s.fld Fld.BN_TAKEOVER_KIND ≠ 4 ∧
      (s.ln.resume.map s.reached).getD true = true) ∧
    (∃ (s : State),
      s.role ≠ 1 ∨ s.bn.taking = false ∨ s.fld Fld.BN_TAKEOVER_KIND = 4 ∨ (s.ln.resume.map s.reached = some false)) :=
  ⟨⟨6, (wPosA (State.reset)).loopShows, wPosA (State.reset), by decide +kernel⟩,
  ⟨17, (wPosA (State.reset)).loopShows, wPosA (State.reset), by decide +kernel⟩,
  ⟨5, .b, (wPosA (State.reset)).setFlag Fld.BN_LOOP_CLAIM_A true, by decide +kernel⟩,
  ⟨((wShow (wPosA (State.reset)) 7 true).setFlag Fld.BN_LOOP_CLAIM_A false).loopShows, (wShow (wPosA (State.reset)) 7 true).setFlag Fld.BN_LOOP_CLAIM_A false, by decide +kernel⟩,
  ⟨({ wPosA (State.reset) with bn := { (State.reset).bn with claimOut := false } }).loopShows, { wPosA (State.reset) with bn := { (State.reset).bn with claimOut := false } }, by decide +kernel⟩,
  ⟨(wClaiming (State.reset) 5 0).loopShows, wClaiming (State.reset) 5 0, by decide +kernel⟩,
  ⟨(wRoom (wClaiming (State.reset) 1 2)).loopShows, wRoom (wClaiming (State.reset) 1 2), by decide +kernel⟩,
  ⟨{ (State.reset) with base := { (State.reset).base with strapKind := 1 } }, by decide +kernel⟩,
  ⟨wClaiming (wPosB (State.reset)) 5 0, by decide +kernel⟩,
  ⟨{ wPosA (State.reset) with bn := { (State.reset).bn with claimOut := true } }, by decide +kernel⟩,
  ⟨wStandby (State.reset) 2, by decide +kernel⟩,
  ⟨wStandby (State.reset) 4, by decide +kernel⟩,
  ⟨{ wPosA (State.reset) with pw := { (State.reset).pw with calderaClaim := true } }, by decide +kernel⟩,
  ⟨false, wPosA (State.reset), by decide +kernel⟩,
  ⟨wRoom ((wClaiming (State.reset) 0 1).setFlag Fld.BN_STATUS_LOOP_FAULT false), by unfold State.takesRecord; decide +kernel⟩,
  ⟨{ (State.reset) with bn := { (State.reset).bn with claimOut := false } }, by decide +kernel⟩,
  ⟨{ (wPosA (State.reset)).setFld Fld.BN_STATUS_ROLE 0 with bn := { (State.reset).bn with claimOut := true } }, by decide +kernel⟩,
  ⟨wStandby (State.reset) 3, by decide +kernel⟩,
  ⟨(wPosA (State.reset)).setFlag Fld.BN_LOOP_CLAIM_B true, by decide +kernel⟩,
  ⟨{ (wWritable (wPresent (State.reset))) with bn := { (State.reset).bn with storePend := true } }, by decide +kernel⟩,
  ⟨(State.reset).setFlag Fld.PK_STATUS_WRITABLE false, by decide +kernel⟩,
  ⟨wNoStop { ((State.reset).setFld Fld.BN_STATUS_ROLE 1).setFld Fld.BN_TAKEOVER_KIND 1 with bn := { (State.reset).bn with taking := true } }, by decide +kernel⟩,
  ⟨{ (State.reset) with bn := { (State.reset).bn with taking := false } }, by decide +kernel⟩⟩

theorem test_hyps_HeartbeatsAndLinks :
    (∃ (s : State),
      s.pair = true ∧ s.bn.hbRun = true ∧ s.served 0 (s.bt.toNat / 10000) = false ∧ s.bn.releasing = false ∧
      s.flag Fld.BN_STATUS_LINK0_UP = true ∧ s.flag Fld.BN_STATUS_LINK1_UP = true) ∧
    (∃ (s : State),
      s.pair = true ∧ s.bn.hbRun = true ∧ s.served 0 (s.bt.toNat / 10000) = false ∧ s.bn.releasing = true ∧
      s.flag Fld.BN_STATUS_LINK0_UP = false ∧ s.flag Fld.BN_STATUS_LINK1_UP = true) ∧
    (∃ (s : State),
      s.pair = false ∨ s.bn.hbRun = false ∨ (s.served 0 (s.bt.toNat / 10000) = true ∧ s.served 1 (s.bt.toNat / 1000000) = true)) ∧
    (∃ (s : State),
      s.pair = true ∧ s.bn.hbRun = true ∧ s.served 1 (s.bt.toNat / 1000000) = false) ∧
    (∃ (m : BitVec 256) (e : Int) (x : Option Int) (l : Option (Fin 2)) (s : State),
      s.pair = false ∨ bits m 95 80 ≠ s.base.binary ∨ bitAt m 79 = s.posB) ∧
    (∃ (m : BitVec 256) (e : Int) (x : Option Int) (s : State),
      s.pair = true ∧ bits m 95 80 = s.base.binary ∧ bitAt m 79 = !s.posB ∧ s.flag Fld.BN_STATUS_LINK0_UP = true ∧
      s.role = 1 ∧ s.auth = true ∧ bits m 159 156 ≠ 0 ∧ bitAt m 78 = false) ∧
    (∃ (m : BitVec 256) (e : Int) (x : Option Int) (s : State),
      s.pair = true ∧ bits m 95 80 = s.base.binary ∧ bitAt m 79 = !s.posB ∧ s.flag Fld.BN_STATUS_LINK1_UP = true ∧
      s.role = 4 ∧ s.arbiter = false ∧ bitAt m 78 = false ∧ s.takesRecord 5) ∧
    (∃ (m : BitVec 256) (e : Int) (x : Option Int) (s : State),
      s.pair = true ∧ bits m 95 80 = s.base.binary ∧ bitAt m 79 = !s.posB ∧ s.arbiter = false ∧ s.bn.hbLost = false) ∧
    (∃ (s : State),
      3000000 ≤ (s.mt.frc - s.bn.netAt).toNat) ∧
    (∃ (s : State),
      (s.mt.frc - s.bn.netAt).toNat < 3000000) ∧
    (∃ (s : State),
      s.pair = true ∧ (s.bn.hbSeen = false ∨ 35000 ≤ (s.bt - s.bn.hbBt).toNat) ∧ (s.role = 2 ∨ s.role = 3) ∧
      s.partnerClaim = true ∧ s.takesRecord 5) ∧
    (∃ (s : State),
      s.pair = true ∧ (s.bn.hbSeen = false ∨ 35000 ≤ (s.bt - s.bn.hbBt).toNat) ∧ s.role = 1) ∧
    (∃ (s : State),
      s.pair = false ∨ (s.bn.hbSeen = true ∧ (s.bt - s.bn.hbBt).toNat < 35000)) ∧
    (∃ (b : Bool) (s : State),
      s.pair = true ∧ s.flag Fld.BN_STATUS_LINK0_UP = !b ∧ (s.bn.taking = false ∨ s.fld Fld.BN_TAKEOVER_KIND ≠ 4) ∧
      s.takesRecord 5) ∧
    (∃ (s : State),
      s.pair = true ∧ s.flag Fld.BN_STATUS_LINK1_UP = true ∧ s.flag Fld.BN_STATUS_LINK0_UP = false ∧
      s.bn.taking = true ∧ s.fld Fld.BN_TAKEOVER_KIND = 4 ∧ s.takesRecord 5) ∧
    (∃ (b : Bool) (s : State),
      s.flag Fld.BN_STATUS_LINK0_UP = b) ∧
    (∃ (s : State),
      s.pair = true ∧ s.flag Fld.BN_STATUS_MODE = true ∧ s.flag Fld.BN_STATUS_ARB_FAIL = false ∧ s.role = 2 ∧
      s.flag Fld.BN_STATUS_READY = true ∧ s.unclaimed = true ∧ s.bn.claimOut = false ∧ s.bn.hoClaim = false ∧
      s.bn.hbRelease = false ∧ s.bn.hbGrant = false) ∧
    (∃ (s : State),
      s.pair = true ∧ s.flag Fld.BN_STATUS_MODE = true ∧ s.flag Fld.BN_STATUS_ARB_FAIL = false ∧ s.role = 1 ∧
      s.partnerGranted = true) ∧
    (∃ (s : State),
      s.pair = true ∧ s.flag Fld.BN_STATUS_MODE = true ∧ s.flag Fld.BN_STATUS_ARB_FAIL = false ∧ s.role = 1 ∧
      s.partnerGranted = false ∧ s.flag Fld.BN_STATUS_GRANT_CONFLICT = false ∧ s.takesRecord 5) ∧
    (∃ (s : State),
      s.flag Fld.BN_STATUS_MODE = true ∧ s.flag Fld.BN_STATUS_ARB_FAIL = false ∧ s.role = 1 ∧ s.takesRecord 5) ∧
    (∃ (s : State),
      s.flag Fld.BN_STATUS_ARB_FAIL = true ∧
      (s.flag Fld.BN_STATUS_GRANT = true ∨ (s.bn.hbGrant = true ∧ s.bn.hbLost = false)) ∧ s.takesRecord 5) ∧
    (∃ (s : State),
      s.flag Fld.BN_STATUS_ARB_FAIL = false ∨ (s.flag Fld.BN_STATUS_GRANT = false ∧ (s.bn.hbGrant = false ∨ s.bn.hbLost = true))) ∧
    (∃ (s : State),
      (s.img.healthPts = none ∨ s.role ≠ 1) ∧ s.served 2 (s.bt.toNat / 1000000) = false) ∧
    (∃ (s : State),
      s.served 2 (s.bt.toNat / 1000000) = true) ∧
    (∃ (x : StandbyTest) (s : State),
      (s.role = 2 ∨ s.role = 3) ∧ x.memoryBad = false) ∧
    (∃ (x : StandbyTest) (s : State),
      (s.role = 2 ∨ s.role = 3) ∧ x.memoryBad = true) :=
  ⟨⟨wBeat (State.reset) true true false, by decide +kernel⟩,
  ⟨wBeat (State.reset) false true true, by decide +kernel⟩,
  ⟨{ (State.reset) with bn := { (State.reset).bn with hbRun := false } }, by decide +kernel⟩,
  ⟨wPort (wBeat (State.reset) true true false) 2, by decide +kernel⟩,
  ⟨0, 3, none, none, { (State.reset) with base := { (State.reset).base with binary := 7 } }, by decide +kernel⟩,
  ⟨wBeatMsg (State.reset) 2, -3, none, ((wBeat (State.reset) true true false).setFld Fld.BN_STATUS_ROLE 1).setFlag Fld.BN_STATUS_AUTH true, by decide +kernel⟩,
  ⟨wBeatMsg (State.reset) 1, -3, none, wRoom ((wBeat (wStandby (State.reset) 4) true true false)), by unfold State.takesRecord; decide +kernel⟩,
  ⟨wBeatMsg (State.reset) 1, -3, none, { wBeat (State.reset) true true false with bn := { (State.reset).bn with hbLost := false } }, by decide +kernel⟩,
  ⟨{ (State.reset) with bn := { (State.reset).bn with netAt := (State.reset).mt.frc - 3000000#64 } }, by decide +kernel⟩,
  ⟨{ (State.reset) with bn := { (State.reset).bn with netAt := (State.reset).mt.frc - 2999999#64 } }, by decide +kernel⟩,
  ⟨wSilent (wRoom ((wStandby (State.reset) 2).setFlag Fld.BN_LOOP_CLAIM_B true)), by unfold State.takesRecord; decide +kernel⟩,
  ⟨wSilent ((wPosA (State.reset)).setFld Fld.BN_STATUS_ROLE 1), by decide +kernel⟩,
  ⟨{ (State.reset) with bn := { (State.reset).bn with hbSeen := true, hbBt := (State.reset).bt - 34999#64 } }, by decide +kernel⟩,
  ⟨false, wRoom (wBeat (wStandby (State.reset) 2) true true false), by unfold State.takesRecord; decide +kernel⟩,
  ⟨wRoom (wBeat { ((wStandby (State.reset) 1).setFld Fld.BN_TAKEOVER_KIND 4) with bn := { (wStandby (State.reset) 1).bn with taking := true } } false true false), by unfold State.takesRecord; decide +kernel⟩,
  ⟨true, (State.reset).setFlag Fld.BN_STATUS_LINK0_UP true, by decide +kernel⟩,
  ⟨wArb (wStandby (State.reset) 2) true, by decide +kernel⟩,
  ⟨(wArb (wStandby (State.reset) 1) true).setReg .BN_HEALTH 1 0x00800000, by decide +kernel⟩,
  ⟨((wRoom (wArb (wStandby (State.reset) 1) false)).setReg .BN_HEALTH 1 0).setFlag Fld.BN_STATUS_GRANT_CONFLICT false, by unfold State.takesRecord; decide +kernel⟩,
  ⟨wRoom (wArb (wStandby (State.reset) 1) false), by unfold State.takesRecord; decide +kernel⟩,
  ⟨((wRoom (State.reset)).setFlag Fld.BN_STATUS_ARB_FAIL true).setFlag Fld.BN_STATUS_GRANT true, by unfold State.takesRecord; decide +kernel⟩,
  ⟨(State.reset).setFlag Fld.BN_STATUS_ARB_FAIL false, by decide +kernel⟩,
  ⟨{ (State.reset).setFld Fld.BN_STATUS_ROLE 2 with bn := { (State.reset).bn with slots := [] } }, by decide +kernel⟩,
  ⟨(State.reset).serve 2 ((State.reset).bt.toNat / 1000000), by decide +kernel⟩,
  ⟨{ lockstepBad := true }, (State.reset).setFld Fld.BN_STATUS_ROLE 3, by decide +kernel⟩,
  ⟨{ memoryBad := true }, (State.reset).setFld Fld.BN_STATUS_ROLE 2, by decide +kernel⟩⟩

theorem test_hyps_HandOverAndMaintenance :
    (∃ (a : After) (s : State),
      s.hoCode = 0) ∧
    (∃ (a : After) (s : State),
      s.hoCode ≠ 0) ∧
    (∃ (s : State),
      s.pair = false) ∧
    (∃ (s : State),
      s.pair = true ∧ s.taking = false ∧ s.role ≠ 1) ∧
    (∃ (s : State),
      s.pair = true ∧ s.taking = true) ∧
    (∃ (s : State),
      s.pair = true ∧ s.role = 1 ∧ s.taking = false ∧ s.bn.ho = none ∧ s.flag Fld.BN_STATUS_PARTNER_READY = false) ∧
    (∃ (x : Handover) (s : State),
      s.pair = true ∧ s.bn.ho = some x ∧ s.takesRecord 5) ∧
    (∃ (s : State),
      s.pair = true ∧ s.bn.ho = none) ∧
    (∃ (x : Handover) (s : State),
      s.bn.ho = some x ∧ s.role = 1 ∧ Instant.atOrBefore (x.h - 1000000#64) s.bt = true ∧ s.rollHolds = false ∧
      s.partnerFit = false ∧ x.moves < 16) ∧
    (∃ (x : Handover) (s : State),
      s.bn.ho = some x ∧ s.role = 1 ∧ Instant.atOrBefore (x.h - 1000000#64) s.bt = true ∧ s.rollHolds = false ∧
      s.partnerFit = false ∧ 16 ≤ x.moves ∧ s.takesRecord 5) ∧
    (∃ (x : Handover) (s : State),
      s.bn.ho = some x ∧ s.role = 1 ∧ Instant.atOrBefore (x.h - 1000000#64) s.bt = true ∧ s.rollHolds = false ∧
      s.partnerFit = true) ∧
    (∃ (s : State),
      s.bn.ho = none ∨ s.role ≠ 1) ∧
    (∃ (x : Handover) (s : State),
      s.bn.ho = some x ∧ s.role = 1) ∧
    (∃ (x : Handover) (s : State),
      s.bn.ho = some x ∧ s.role = 1 ∧ Instant.atOrBefore x.h s.bt = true ∧
      (s.ln.stopAt.isSome = true ∨ s.partnerFit = true) ∧ s.bn.xfer = none ∧ s.bn.frozen = some (x.h - 1000000#64) ∧
      x.after = .join) ∧
    (∃ (x : Handover) (s : State),
      s.bn.ho = some x ∧ s.role = 1 ∧ Instant.atOrBefore x.h s.bt = true ∧
      (s.bn.xfer.isSome = true ∨ s.bn.frozen ≠ some (x.h - 1000000#64) ∨ (s.ln.stopAt = none ∧ s.partnerFit = false)) ∧
      x.moves < 16) ∧
    (∃ (s : State),
      s.bn.ho = none ∧ (s.role = 2 ∨ s.role = 3) ∧ s.flag Fld.BN_STATUS_READY = true ∧ s.unclaimed = true ∧
      s.bn.claimOut = false ∧ s.otherImage = false) ∧
    (∃ (i : Nat) (y : Instant) (s : State),
      i < 3 ∧ s.yields i = true ∧ s.yieldSince i = some y ∧ 1000000000 ≤ (s.bt - y).toNat ∧ s.role = 1 ∧
      s.partnerFit = true ∧ s.bn.lastYield.all (fun u => decide (60000000000 ≤ (s.bt - u).toNat)) = true ∧
      s.bn.ho = none ∧ s.taking = false ∧ s.rolling = false) ∧
    (∃ (s : State),
      s.role ≠ 1 ∨ s.partnerFit = false ∨ (∀ i, i < 3 → s.yields i = false ∨ s.yieldSince i = none) ∨ s.rolling = true ∨ s.bn.ho.isSome = true ∨ s.taking = true) ∧
    (∃ (e : Int) (b : Instant) (s : State),
      s.pair = true ∧ s.role = 0 ∧ s.bn.joining = true ∧ s.pw.removeClosed = true ∧ s.bn.committed = some b ∧
      s.bn.btOff = some e ∧ e.natAbs ≤ 20 ∧ 32768 ≤ s.bn.sweep) ∧
    (∃ (e : Int) (s : State),
      s.pair = false ∨ s.role ≠ 0 ∨ s.bn.committed = none ∨ s.pw.removeClosed = false ∨ (s.bn.btOff = some e ∧ 20 < e.natAbs)) ∧
    (∃ (s : State),
      s.pair = true ∧ s.taking = false ∧ (s.role = 2 ∨ s.role = 3 ∨ s.role = 4) ∧ s.takesRecord 5) ∧
    (∃ (s : State),
      s.pair = false) ∧
    (∃ (s : State),
      s.pair = true ∧ s.taking = true) ∧
    (∃ (s : State),
      s.pair = true ∧ s.taking = false ∧ (s.role = 1 ∨ s.role = 5)) ∧
    (∃ (s : State),
      s.pair = true ∧ s.role = 5 ∧ s.takesRecord 5) ∧
    (∃ (s : State),
      s.pair = true ∧ s.role ≠ 5) ∧
    (∃ (s : State),
      s.pair = true ∧ s.fld Fld.BN_STATUS_PARTNER_ROLE = 5) ∧
    (∃ (s : State),
      s.pair = true ∧ s.fld Fld.BN_STATUS_PARTNER_ROLE ≠ 5) :=
  ⟨⟨.join, wHo (State.reset), by decide +kernel⟩,
  ⟨.join, { (State.reset) with base := { (State.reset).base with strapKind := 1 } }, by decide +kernel⟩,
  ⟨{ (State.reset) with base := { (State.reset).base with strapKind := 1 } }, by decide +kernel⟩,
  ⟨wStandby (State.reset) 2, by decide +kernel⟩,
  ⟨{ wStandby (State.reset) 1 with bn := { (wStandby (State.reset) 1).bn with taking := true } }, by decide +kernel⟩,
  ⟨wStandby (State.reset) 1, by decide +kernel⟩,
  ⟨wHand (State.reset) 0, wRoom (wHoSet (wPosA (State.reset)) (wHand (State.reset) 0)), by unfold State.takesRecord; decide +kernel⟩,
  ⟨{ wPosA (State.reset) with bn := { (State.reset).bn with ho := none } }, by decide +kernel⟩,
  ⟨wNow (State.reset) 15, (wHoSet (wHo (State.reset)) (wNow (State.reset) 15)).setFlag Fld.BN_STATUS_PARTNER_READY false, by decide +kernel⟩,
  ⟨wNow (State.reset) 16, wRoom ((wHoSet (wHo (State.reset)) (wNow (State.reset) 16)).setFlag Fld.BN_STATUS_PARTNER_READY false), by unfold State.takesRecord; decide +kernel⟩,
  ⟨wNow (State.reset) 0, wHoSet (wHo (State.reset)) (wNow (State.reset) 0), by decide +kernel⟩,
  ⟨{ (State.reset) with bn := { (State.reset).bn with ho := none } }, by decide +kernel⟩,
  ⟨wHand (State.reset) 0, wHoSet (wHo (State.reset)) (wHand (State.reset) 0), by decide +kernel⟩,
  ⟨wNow (State.reset) 0, wHoSet (wHo (State.reset)) (wNow (State.reset) 0), by decide +kernel⟩,
  ⟨wNow (State.reset) 0, { wHoSet (wHo (State.reset)) (wNow (State.reset) 0) with bn := { (wHoSet (wHo (State.reset)) (wNow (State.reset) 0)).bn with xfer := some {} } }, by decide +kernel⟩,
  ⟨wSameImage (wStandby (State.reset) 2), by decide +kernel⟩,
  ⟨0, (wHo (State.reset)).bt - 1000000000#64, wYieldAt (wYield (wHo (State.reset))) 1000000000, by decide +kernel⟩,
  ⟨(State.reset).setFld Fld.BN_STATUS_ROLE 2, by decide +kernel⟩,
  ⟨-20, (State.reset).bt, wJoin (State.reset) (-20) 32768, by decide +kernel⟩,
  ⟨21, wJoin (State.reset) 21 32768, by decide +kernel⟩,
  ⟨wRoom (wStandby (State.reset) 2), by unfold State.takesRecord; decide +kernel⟩,
  ⟨{ (State.reset) with base := { (State.reset).base with strapKind := 1 } }, by decide +kernel⟩,
  ⟨{ wStandby (State.reset) 2 with bn := { (wStandby (State.reset) 2).bn with taking := true } }, by decide +kernel⟩,
  ⟨wStandby (State.reset) 5, by decide +kernel⟩,
  ⟨wRoom (wStandby (State.reset) 5), by unfold State.takesRecord; decide +kernel⟩,
  ⟨wStandby (State.reset) 2, by decide +kernel⟩,
  ⟨(wPosA (State.reset)).setFld Fld.BN_STATUS_PARTNER_ROLE 5, by decide +kernel⟩,
  ⟨(wPosA (State.reset)).setFld Fld.BN_STATUS_PARTNER_ROLE 2, by decide +kernel⟩⟩

theorem test_hyps_Equalization :
    (∃ (s : State),
      s.bn.xfer = none ∧ s.served 3 (s.bt.toNat / 1000000) = false ∧ s.hoNow = false ∧
      (s.role ≠ 1 ∨ s.partnerTakes = false)) ∧
    (∃ (s : State) (u : State),
      u = ((s.serve 3 (s.bt.toNat / 1000000)).sendSamples.serve 3 ((floorTo s.bt 1000000).toNat / 1000000)).upTo (floorTo s.bt 1000000 + (s.pt - s.bt)) ∧
      s.bn.xfer = none ∧ s.served 3 (s.bt.toNat / 1000000) = false ∧ s.hoNow = false ∧ s.role = 1 ∧
      s.partnerTakes = true ∧ s.mapOf = none ∧ u.dirtyBlocks = [] ∧ endBytes u.snapItems ≤ 500000) ∧
    (∃ (s : State) (u : State),
      u = ((s.serve 3 (s.bt.toNat / 1000000)).sendSamples.serve 3 ((floorTo s.bt 1000000).toNat / 1000000)).upTo (floorTo s.bt 1000000 + (s.pt - s.bt)) ∧
      s.bn.xfer = none ∧ s.served 3 (s.bt.toNat / 1000000) = false ∧ s.hoNow = false ∧ s.role = 1 ∧
      s.partnerTakes = true ∧ s.mapOf = none) ∧
    (∃ (x : Xfer) (s : State),
      s.bn.xfer = some x ∧ s.served 3 (s.bt.toNat / 1000000) = false ∧ s.hoNow = false ∧ s.anyLink = true ∧
      x.spans = false ∧ x.left = [] ∧ endBytes x.items ≤ 500000) ∧
    (∃ (x : Xfer) (s : State),
      s.bn.xfer = some x ∧ s.served 3 (s.bt.toNat / 1000000) = false ∧ s.hoNow = false ∧ s.anyLink = true ∧
      x.spans = true ∧ x.left = [] ∧ endBytes x.items ≤ 500000) ∧
    (∃ (x : Xfer) (s : State),
      s.bn.xfer = some x ∧ s.served 3 (s.bt.toNat / 1000000) = false ∧ s.hoNow = false ∧ s.anyLink = false) ∧
    (∃ (s : State),
      s.served 3 (s.bt.toNat / 1000000) = true ∨ s.hoNow = true) ∧
    (∃ (s : State),
      s.role = 1 ∧ s.partnerTakes = true ∧ s.served 4 (s.bt.toNat / 1000000) = false) ∧
    (∃ (s : State),
      s.role ≠ 1 ∨ s.partnerTakes = false ∨ s.served 4 (s.bt.toNat / 1000000) = true) ∧
    (∃ (h : BitVec 128) (ws : List W64) (s : State),
      s.takesEq = true) ∧
    (∃ (h : BitVec 128) (ws : List W64) (n : Nat) (m : Nat) (b : Instant) (c : Word) (x : SnapItems) (r : SideRecord) (l : Nat) (d : BitVec 256) (ss : List (F32 × F32)) (v : W64) (s : State),
      s.takesEq = false) ∧
    (∃ (n : Nat) (m : Nat) (b : Instant) (c : Word) (x : SnapItems) (s : State),
      s.takesEq = true ∧ snapSum (s.bn.journal.filter fun r => hdrSnap r.hdr == n % 65536) ≠ (m, c)) ∧
    (∃ (n : Nat) (b : Instant) (x : SnapItems) (s : State),
      s.takesEq = true ∧ s.role = 2 ∧ s.bn.journal = [] ∧ s.bn.failed = false) ∧
    (∃ (n : Nat) (k : Nat) (m : Nat) (b : Instant) (w : W64) (c : Word) (s : State),
      s.takesEq = true ∧ s.role = 2 ∧ k < 8192 ∧
      s.bn.journal = [{ hdr := blockHdr 0 1 (n % 65536) k, words := [w] }] ∧
      snapSum [{ hdr := blockHdr 0 1 (n % 65536) k, words := [w] }] = (m, c) ∧ s.otherImage = true ∧
      s.mapOf = none ∧ s.bn.failed = false) ∧
    (∃ (s : State),
      s.role = 2 ∧ 2 ≤ s.passed ∧ s.takesRecord 5) ∧
    (∃ (s : State),
      s.role = 3) ∧
    (∃ (s : State),
      s.role ≠ 2 ∧ s.role ≠ 3) ∧
    (∃ (b : Nat) (cs : List Word) (s : State),
      s.takesEq = true ∧ s.bn.committed.isSome = true ∧ s.otherImage = false ∧ (s.verifyBlocks b cs).2 = true) ∧
    (∃ (b : Nat) (c : Word) (s : State),
      s.takesEq = true ∧ s.bn.committed.isSome = true ∧ s.otherImage = false ∧ b < 32768 ∧
      s.img.fastBlocks.contains b = false ∧ s.blockCrc b ≠ c ∧ s.img.readMap.contains b = false ∧ s.takesRecord 5) ∧
    (∃ (b : Nat) (c : Word) (s : State),
      s.takesEq = true ∧ s.bn.committed.isSome = true ∧ s.otherImage = false ∧ b < 32768 ∧
      s.img.fastBlocks.contains b = false ∧ s.blockCrc b ≠ c ∧ s.img.readMap.contains b = true ∧ s.bn.divAt = [] ∧
      s.takesRecord 5) ∧
    (∃ (b : Nat) (c : Word) (s : State),
      s.takesEq = true ∧ s.bn.committed.isSome = true ∧ s.otherImage = false ∧ b < 32768 ∧
      s.img.fastBlocks.contains b = false ∧ s.blockCrc b ≠ c ∧ s.img.readMap.contains b = true ∧
      s.bn.divAt = [s.bt, s.bt, s.bt] ∧ s.bn.failed = false) ∧
    (∃ (b : Nat) (c : Word) (s : State),
      s.role = 1 ∧ s.bn.taking = false ∧ s.partnerTakes = true ∧ s.otherImage = false ∧ b < 32768 ∧
      s.img.fastBlocks.contains b = false ∧ s.committedCrc b ≠ c ∧ s.img.readMap.contains b = true ∧ s.takesRecord 5) ∧
    (∃ (b : Nat) (c : Word) (s : State),
      s.role = 1 ∧ s.bn.taking = false ∧ s.partnerTakes = true ∧ s.otherImage = false ∧ b < 32768 ∧
      s.img.fastBlocks.contains b = false ∧ s.committedCrc b ≠ c ∧ s.img.readMap.contains b = false) ∧
    (∃ (b : Nat) (c : Word) (s : State),
      s.role = 1 ∧ s.bn.taking = false ∧ s.partnerTakes = true ∧ s.otherImage = false ∧ s.committedCrc b = c) ∧
    (∃ (n : Fin 32) (v : Word) (vs : List (Chan × Word)) (s : State),
      s.takesEq = true ∧ s.role ≠ 1) ∧
    (∃ (m : Fin 48) (v : Word) (vs : List (Chan × Word)) (s : State),
      s.takesEq = true ∧ s.role ≠ 1) ∧
    (∃ (m : Fin 48) (u : Instant) (c : Word) (o : Word × Bool) (b : Bool) (s : State),
      s.takesEq = true ∧ s.role ≠ 1 ∧ s.otherImage = true ∧ s.dcMode m.val = 2 ∧ (s.dc m.val).hist.lookup u = some o) ∧
    (∃ (l : Nat) (d : BitVec 256) (ss : List (F32 × F32)) (v : W64) (c : Word) (s : State),
      s.takesEq = true ∧ fastCrc d ss v ≠ c) ∧
    (∃ (l : Nat) (b : Nat) (d : BitVec 256) (ss : List (F32 × F32)) (v : W64) (s : State),
      s.takesEq = true ∧ s.mapOf = none ∧ s.loopAt l = some b) ∧
    (∃ (l : Nat) (d : BitVec 256) (ss : List (F32 × F32)) (v : W64) (s : State),
      s.takesEq = true ∧ s.mapOf = none ∧ s.loopAt l = none ∧ s.fastBound < (s.fastCycle l).2) ∧
    (∃ (l : Nat) (d : BitVec 256) (ss : List (F32 × F32)) (v : W64) (s : State),
      s.takesEq = true ∧ s.mapOf = none ∧ s.loopAt l = none ∧ (s.fastCycle l).2 ≤ s.fastBound) ∧
    (∃ (k : Nat) (s : State),
      (s.role = 2 ∨ s.role = 3) ∧ s.bn.fastNext = some k ∧ s.pt.toNat / 50000 = k + 3 ∧
      s.bn.fastBad.contains k = false ∧ (s.fastLoops.all fun l => s.bn.fastGot.contains (k, l)) = false) :=
  ⟨⟨{ (wEq (State.reset)).setFld Fld.BN_STATUS_ROLE 2 with bn := { (wEq (State.reset)).bn with xfer := none } }, by decide +kernel⟩,
  ⟨wEq (State.reset), (((wEq (State.reset)).serve 3 ((wEq (State.reset)).bt.toNat / 1000000)).sendSamples.serve 3 ((floorTo (wEq (State.reset)).bt 1000000).toNat / 1000000)).upTo (floorTo (wEq (State.reset)).bt 1000000 + ((wEq (State.reset)).pt - (wEq (State.reset)).bt)), by decide +kernel⟩,
  ⟨wEq (State.reset), (((wEq (State.reset)).serve 3 ((wEq (State.reset)).bt.toNat / 1000000)).sendSamples.serve 3 ((floorTo (wEq (State.reset)).bt 1000000).toNat / 1000000)).upTo (floorTo (wEq (State.reset)).bt 1000000 + ((wEq (State.reset)).pt - (wEq (State.reset)).bt)), by decide +kernel⟩,
  ⟨{ num := 3, b := 1000000, bytes := 2048 }, wXfer (wEq (State.reset)) { num := 3, b := 1000000, bytes := 2048 }, by decide +kernel⟩,
  ⟨{ num := 3, b := 1000000, spans := true }, wXfer (wEq (State.reset)) { num := 3, b := 1000000, spans := true }, by decide +kernel⟩,
  ⟨{ num := 3 }, wXfer (((wEq (State.reset)).setFlag Fld.BN_STATUS_LINK0_UP false).setFlag Fld.BN_STATUS_LINK1_UP false) { num := 3 }, by decide +kernel⟩,
  ⟨(State.reset).serve 3 ((State.reset).bt.toNat / 1000000), by decide +kernel⟩,
  ⟨wEq (State.reset), by decide +kernel⟩,
  ⟨(State.reset).setFld Fld.BN_STATUS_ROLE 2, by decide +kernel⟩,
  ⟨0#128, [5#64], wStandby (State.reset) 2, by decide +kernel⟩,
  ⟨0#128, [], 0, 0, 0#64, 1#32, {}, .commits [], 0, 0#256, [], 0#64, wStandby (State.reset) 5, by decide +kernel⟩,
  ⟨3, 1, 0#64, 0#32, {}, wNoJournal (wStandby (State.reset) 2), by decide +kernel⟩,
  ⟨3, 0#64, {}, wNoJournal (wStandby (State.reset) 2), by decide +kernel⟩,
  ⟨3, 5, 24, 0#64, 9#64, (snapSum [{ hdr := blockHdr 0 1 3 5, words := [9#64] }]).2, wOther (wStandby (State.reset) 2) [{ hdr := blockHdr 0 1 3 5, words := [9#64] }], by decide +kernel⟩,
  ⟨wPassed (wRoom (wStandby (State.reset) 2)) 2, by unfold State.takesRecord; decide +kernel⟩,
  ⟨wPassed (wStandby (State.reset) 3) 3, by decide +kernel⟩,
  ⟨(State.reset).setFld Fld.BN_STATUS_ROLE 1, by decide +kernel⟩,
  ⟨40000, [1#32, 2#32], wPassed (wSameImage (wStandby (State.reset) 2)) 1, by decide +kernel⟩,
  ⟨32767, (wReadMap (wPassed (wRoom (wSameImage (wStandby (State.reset) 2))) 1) []).blockCrc 32767 + 1#32, wReadMap (wPassed (wRoom (wSameImage (wStandby (State.reset) 2))) 1) [], ⟨by decide +kernel, by decide +kernel, by decide +kernel, by decide +kernel, by decide +kernel, word_ne_succ _, by decide +kernel, by unfold State.takesRecord; decide +kernel⟩⟩,
  ⟨32767, (wReadMap (wPassed (wRoom (wSameImage (wStandby (State.reset) 2))) 1) [32767]).blockCrc 32767 + 1#32, wReadMap (wPassed (wRoom (wSameImage (wStandby (State.reset) 2))) 1) [32767], ⟨by decide +kernel, by decide +kernel, by decide +kernel, by decide +kernel, by decide +kernel, word_ne_succ _, by decide +kernel, by decide +kernel, by unfold State.takesRecord; decide +kernel⟩⟩,
  ⟨32767, (wDiv (wReadMap (wPassed (wSameImage (wStandby (State.reset) 2)) 1) [32767])).blockCrc 32767 + 1#32, wDiv (wReadMap (wPassed (wSameImage (wStandby (State.reset) 2)) 1) [32767]), ⟨by decide +kernel, by decide +kernel, by decide +kernel, by decide +kernel, by decide +kernel, word_ne_succ _, by decide +kernel, by decide +kernel, by decide +kernel⟩⟩,
  ⟨32767, (wReadMap (wRoom (wEq (State.reset))) [32767]).committedCrc 32767 + 1#32, wReadMap (wRoom (wEq (State.reset))) [32767], ⟨by decide +kernel, by decide +kernel, by decide +kernel, by decide +kernel, by decide +kernel, by decide +kernel, word_ne_succ _, by decide +kernel, by unfold State.takesRecord; decide +kernel⟩⟩,
  ⟨32767, (wReadMap (wEq (State.reset)) []).committedCrc 32767 + 1#32, wReadMap (wEq (State.reset)) [], ⟨by decide +kernel, by decide +kernel, by decide +kernel, by decide +kernel, by decide +kernel, by decide +kernel, word_ne_succ _, by decide +kernel⟩⟩,
  ⟨32767, (wEq (State.reset)).committedCrc 32767, wEq (State.reset), ⟨by decide +kernel, by decide +kernel, by decide +kernel, by decide +kernel, rfl⟩⟩,
  ⟨31, 7#32, [(.uni 31, 6#32)], wStandby (State.reset) 2, by decide +kernel⟩,
  ⟨47, 0#32, [], wStandby (State.reset) 3, by decide +kernel⟩,
  ⟨47, 5#64, 9#32, (7#32, true), true, wHist ((wOther (wStandby (State.reset) 2) []).setFld Fld.DC_CFG_MODE 2 47), by decide +kernel⟩,
  ⟨0, 0#256, [], 0#64, fastCrc 0#256 [] 0#64 + 1#32, wStandby (State.reset) 2, by decide +kernel⟩,
  ⟨0, 0, 5#256, [], 9#64, wLoop (wSameImage (wStandby (State.reset) 2)) 0, by decide +kernel⟩,
  ⟨3, 0#256, [], 0#64, wFastLate (wSameImage (wStandby (State.reset) 2)), by decide +kernel⟩,
  ⟨3, 0#256, [], 0#64, wNoLoops (wAt (wSameImage (wStandby (State.reset) 2)) 5000000), by decide +kernel⟩,
  ⟨97, wFastMiss (State.reset), by decide +kernel⟩⟩

theorem test_hyps_LockstepMismatches :
    (∃ (i : Fin 5) (j : Fin 5) (x : Bool) (y : Bool) (w : Nat) (s : State),
      s.lkJoined i.val = true ∧ s.lkMode i.val ≠ 3 ∧ (x && s.xIn i.val) = true ∧ (y && s.yIn i.val) = true ∧ w ≠ 0) ∧
    (∃ (i : Fin 5) (j : Fin 5) (x : Bool) (y : Bool) (w : Nat) (s : State),
      s.lkJoined i.val = true ∧ s.lkMode i.val ≠ 3 ∧ s.xIn i.val = true ∧ s.yIn i.val = true ∧ x ≠ y ∧ j = 0) ∧
    (∃ (i : Fin 5) (j : Fin 5) (x : Bool) (y : Bool) (w : Nat) (s : State),
      s.lkJoined i.val = false ∨ s.lkMode i.val = 3 ∨ (x = false ∧ y = false)) ∧
    (∃ (i : Fin 5) (s : State),
      s.lkMode i.val = 3 ∧ (s.pairOf i.val).disag = false ∧ (s.pairOf i.val).trans = [] ∧
      (s.pairOf i.val).draining = false ∧ (s.pairOf i.val).haltReq = false ∧ s.takesRecord (lkIsland i.val)) ∧
    (∃ (i : Fin 5) (s : State),
      s.lkMode i.val = 3 ∧ (s.pairOf i.val).disag = false ∧
      8 ≤ (s.recentFrc 1000000000 (s.pairOf i.val).trans).length ∧ s.boot.committed = true ∧ s.bn.failed = false) ∧
    (∃ (i : Fin 5) (w : Nat) (st : Nat) (s : State),
      s.lkMode i.val = 3 ∧ ((s.pairOf i.val).disag = false ∨ (s.pairOf i.val).inj = none) ∧ s.xIn i.val = true ∧
      s.yIn i.val = true ∧ st ≤ 4 ∧ w < 512 ∧ (s.pairOf i.val).loc = some (w, st) ∧ s.boot.committed = true ∧
      s.bn.failed = false) ∧
    (∃ (i : Fin 5) (w : Nat) (st : Nat) (s : State),
      s.lkMode i.val = 3 ∧ ((s.pairOf i.val).disag = false ∨ (s.pairOf i.val).inj = none) ∧ s.xIn i.val = true ∧
      s.yIn i.val = true ∧ st ≤ 4 ∧ w < 512 ∧ (s.pairOf i.val).loc = some (w, st) ∧ s.boot.committed = false ∧
      s.flag Fld.SUP_START_REFUSAL = false) ∧
    (∃ (i : Fin 5) (w : Nat) (st : Nat) (s : State),
      s.lkMode i.val = 3 ∧ ((s.pairOf i.val).disag = false ∨ (s.pairOf i.val).inj = none) ∧ s.xIn i.val = true ∧
      s.yIn i.val = true ∧ st ≤ 4 ∧ w < 512 ∧ (s.pairOf i.val).loc = none ∧ (s.pairOf i.val).reruns < 2) ∧
    (∃ (i : Fin 5) (r : Rerun) (s : State),
      s.lkMode i.val ≠ 3) ∧
    (∃ (i : Fin 5) (s : State),
      s.lkMode i.val = 1 ∧ s.boot.committed = true ∧ (s.pairOf i.val).untested = false) ∧
    (∃ (i : Fin 5) (s : State),
      s.lkMode i.val = 6 ∨ (s.lkMode i.val = 1 ∧ (s.boot.committed = false ∨ (s.pairOf i.val).untested = true))) ∧
    (∃ (i : Fin 5) (s : State),
      s.lkJoined i.val = true ∧ s.lkMode i.val ≠ 3 ∧ s.xIn i.val = true ∧ s.yIn i.val = true ∧
      s.flag Fld.LK_PAIR_SINGLE i.val = false ∧ s.lkMode i.val ≠ 6 ∧
      (s.lkMode i.val ≠ 1 ∨ (s.pairOf i.val).untested = false)) ∧
    (∃ (i : Fin 5) (s : State),
      (s.lkMode i.val = 6 ∨ (s.lkMode i.val = 1 ∧ s.boot.committed = true)) ∧ (s.pairOf i.val).untested = true ∧
      s.fld Fld.LK_PAIR_WRITES_LEFT i.val = 0 ∧ s.xIn i.val = true ∧ s.yIn i.val = true) ∧
    (∃ (i : Fin 5) (s : State),
      s.lkJoined i.val = true ∧ s.lkMode i.val = 2 ∧ s.flag Fld.LK_PAIR_SINGLE i.val = false ∧
      s.takesRecord (lkIsland i.val)) ∧
    (∃ (i : Fin 5) (s : State),
      s.lkMode i.val = 2 ∧ s.flag Fld.LK_PAIR_SINGLE i.val = false ∧ s.boot.committed = true ∧ s.bn.failed = false) ∧
    (∃ (i : Fin 5) (n : Nat) (a : W64) (b : W64) (x : Bool) (y : Bool) (s : State),
      s.lkMode i.val = 2 ∧ ((x && s.xIn i.val) || (y && s.yIn i.val)) = true) ∧
    (∃ (i : Fin 5) (n : Nat) (a : W64) (b : W64) (s : State),
      s.lkMode i.val = 2 ∧ (∀ j ∈ [1, 2, 3], (s.pairOf j).close = false) ∧ (s.pairOf i.val).held = [] ∧
      (s.pairOf i.val).haltReq = false) ∧
    (∃ (i : Fin 5) (n : Nat) (a : W64) (b : W64) (v : Byte) (k : Nat) (s : State),
      s.lkMode i.val = 2 ∧ (∀ j ∈ [1, 2, 3], (s.pairOf j).close = false) ∧ k < 0xC0000 ∧
      (s.pairOf i.val).held = [{ addr := 0x1D40000 + k, data := [v], cls := .rt }] ∧
      (s.pairOf i.val).haltReq = false) ∧
    (∃ (i : Fin 5) (n : Nat) (a : W64) (b : W64) (s : State),
      s.lkMode i.val = 2 ∧ (∀ j ∈ [1, 2, 3], (s.pairOf j).close = false) ∧ (s.pairOf i.val).held = [] ∧
      (s.pairOf i.val).haltReq = true) ∧
    (∃ (i : Fin 5) (n : Nat) (a : W64) (b : W64) (x : Bool) (y : Bool) (s : State),
      s.lkMode i.val = 0 ∨ s.lkMode i.val = 5 ∨ s.lkMode i.val = 7 ∨ s.lkMode i.val = 8) ∧
    (∃ (i : Fin 5) (n : Nat) (a : W64) (b : W64) (x : Bool) (y : Bool) (s : State),
      s.lkMode i.val = 1 ∨ s.lkMode i.val = 6) :=
  ⟨⟨4, 3, true, true, 63, wLk (State.reset) 4 2 {}, by decide +kernel⟩,
  ⟨4, 0, true, false, 63, wLk (State.reset) 4 2 {}, by decide +kernel⟩,
  ⟨4, 0, true, true, 0, wLk (State.reset) 4 5 {}, by decide +kernel⟩,
  ⟨3, wLk (wRoom (State.reset)) 3 3 {}, by unfold State.takesRecord; decide +kernel⟩,
  ⟨3, wLk (wLive (State.reset)) 3 3 { trans := List.replicate 8 (State.reset).mt.frc }, by decide +kernel⟩,
  ⟨3, 511, 4, wLk (wLive (State.reset)) 3 3 { loc := some (511, 4) }, by decide +kernel⟩,
  ⟨3, 0, 0, (wLk { (State.reset) with boot := { (State.reset).boot with committed := false } } 3 3 { loc := some (0, 0) }).setFld Fld.SUP_START_REFUSAL 0, by decide +kernel⟩,
  ⟨3, 511, 0, wLk (State.reset) 3 3 { reruns := 1 }, by decide +kernel⟩,
  ⟨3, .clean, wLk (State.reset) 3 2 {}, by decide +kernel⟩,
  ⟨4, wLk (wLive (State.reset)) 4 1 {}, by decide +kernel⟩,
  ⟨4, wLk (State.reset) 4 6 {}, by decide +kernel⟩,
  ⟨4, wLk (State.reset) 4 2 {}, by decide +kernel⟩,
  ⟨1, (wLk (State.reset) 1 6 { untested := true }).setFld Fld.LK_PAIR_WRITES_LEFT 0 1, by decide +kernel⟩,
  ⟨0, wLk (wRoom (State.reset)) 0 2 {}, by unfold State.takesRecord; decide +kernel⟩,
  ⟨0, wLk (wLive (State.reset)) 0 2 {}, by decide +kernel⟩,
  ⟨4, 2, 5#64, 0xFFFFFFFFFFFFFFFF#64, true, false, wLk (State.reset) 4 2 { held := [{ addr := 0x01000000, data := [1], cls := .rt }] }, by decide +kernel⟩,
  ⟨4, 2, 5#64, 5#64, wLk (State.reset) 4 2 {}, by decide +kernel⟩,
  ⟨4, 2, 5#64, 5#64, 7#8, 0xBFFFF, wLk (State.reset) 4 2 { held := [{ addr := 0x1DFFFFF, data := [7], cls := .rt }] }, by decide +kernel⟩,
  ⟨4, 2, 5#64, 5#64, wLk (State.reset) 4 2 { haltReq := true }, by decide +kernel⟩,
  ⟨4, 2, 5#64, 5#64, true, true, wLk (State.reset) 4 8 {}, by decide +kernel⟩,
  ⟨4, 0, 5#64, 5#64, true, true, wLk (State.reset) 4 6 {}, by decide +kernel⟩⟩

theorem test_hyps_LockstepOrders :
    (∃ (w : Writer) (i : Fin 8) (s : State),
      (∀ j ∈ [1, 2, 3], (s.pairOf j).close = false) ∧ s.flag Fld.LK_CMD_RESULT_BUSY (wIdx w) = true) ∧
    (∃ (w : Writer) (i : Fin 8) (s : State),
      (∀ j ∈ [1, 2, 3], (s.pairOf j).close = false) ∧ s.flag Fld.LK_CMD_RESULT_BUSY (wIdx w) = false ∧
      (5 ≤ i.val ∨ s.flag Fld.LK_PAIR_SPLITTABLE i.val = false)) ∧
    (∃ (w : Writer) (i : Fin 8) (s : State),
      (∀ j ∈ [1, 2, 3], (s.pairOf j).close = false) ∧ s.flag Fld.LK_CMD_RESULT_BUSY (wIdx w) = false ∧ i.val < 5 ∧
      s.flag Fld.LK_PAIR_SPLITTABLE i.val = true ∧ (s.lkMode i.val = 3 ∨ s.lkMode i.val = 7 ∨ s.lkMode i.val = 8)) ∧
    (∃ (w : Writer) (i : Fin 8) (s : State),
      (∀ j ∈ [1, 2, 3], (s.pairOf j).close = false) ∧ s.flag Fld.LK_CMD_RESULT_BUSY (wIdx w) = false ∧ i.val < 5 ∧
      s.flag Fld.LK_PAIR_SPLITTABLE i.val = true ∧ (s.lkMode i.val = 5 ∨ s.lkMode i.val = 1)) ∧
    (∃ (w : Writer) (i : Fin 8) (s : State),
      (∀ j ∈ [1, 2, 3], (s.pairOf j).close = false) ∧ s.flag Fld.LK_CMD_RESULT_BUSY (wIdx w) = false ∧ i.val < 5 ∧
      s.flag Fld.LK_PAIR_SPLITTABLE i.val = true ∧ s.lkMode i.val = 2 ∧ (s.pairOf i.val).held = []) ∧
    (∃ (w : Writer) (i : Fin 8) (v : Byte) (k : Nat) (s : State),
      (∀ j ∈ [1, 2, 3], (s.pairOf j).close = false) ∧ s.flag Fld.LK_CMD_RESULT_BUSY (wIdx w) = false ∧
      (i.val = 1 ∨ i.val = 2 ∨ i.val = 3) ∧ s.flag Fld.LK_PAIR_SPLITTABLE i.val = true ∧ s.lkMode i.val = 2 ∧
      k < 0xC0000 ∧ (s.pairOf i.val).held = [{ addr := 0x1D40000 + k, data := [v], cls := .rt }]) ∧
    (∃ (i : Fin 5) (s : State),
      s.lkMode i.val = 4 ∧ (s.pairOf i.val).held = [] ∧ s.img.checkpoints.find? (fun x => x.1 == i.val) = none ∧
      s.takesRecord (lkIsland i.val)) ∧
    (∃ (i : Fin 5) (a : Nat) (n : Nat) (k : Nat) (s : State),
      s.lkMode i.val = 4 ∧ (s.pairOf i.val).held = [] ∧
      s.img.checkpoints.find? (fun x => x.1 == i.val) = some (i.val, a, n) ∧ k < n) ∧
    (∃ (i : Fin 5) (s : State),
      s.lkMode i.val ≠ 4) ∧
    (∃ (i : Fin 5) (s : State),
      s.lkMode i.val = 4 ∧ s.lkOverdue i.val = true ∧ s.takesRecord (lkIsland i.val)) ∧
    (∃ (i : Fin 5) (s : State),
      s.lkOverdue i.val = false) ∧
    (∃ (w : Writer) (i : Fin 8) (s : State),
      s.flag Fld.LK_CMD_RESULT_BUSY (wIdx w) = false ∧ i.val < 5 ∧ s.flag Fld.LK_PAIR_SPLITTABLE i.val = true ∧
      s.lkMode i.val = 5) ∧
    (∃ (w : Writer) (i : Fin 8) (s : State),
      s.flag Fld.LK_CMD_RESULT_BUSY (wIdx w) = false ∧ i.val < 5 ∧ s.flag Fld.LK_PAIR_SPLITTABLE i.val = true ∧
      s.lkMode i.val = 2) ∧
    (∃ (i : Fin 5) (s : State),
      s.lkMode i.val = 5 ∧ (s.pairOf i.val).rejoin = true ∧ s.takesRecord (lkIsland i.val)) ∧
    (∃ (i : Fin 5) (b : Bool) (s : State),
      (s.pairOf i.val).rejoin = false) ∧
    (∃ (i : Fin 8) (x : Bool) (y : Bool) (s : State),
      s.flag Fld.LK_CMD_RESULT_BUSY = false) ∧
    (∃ (i : Fin 8) (s : State),
      s.flag Fld.LK_CMD_RESULT_BUSY 1 = false ∧ i.val < 5 ∧ s.lkMode i.val = 2 ∧ s.xIn i.val = true ∧
      s.yIn i.val = true) ∧
    (∃ (i : Fin 8) (x : Bool) (y : Bool) (s : State),
      s.flag Fld.LK_CMD_RESULT_BUSY 1 = false ∧ 5 ≤ i.val) ∧
    (∃ (i : Fin 5) (s : State),
      s.auth = true ∧ s.takesRecord (lkIsland i.val)) ∧
    (∃ (i : Fin 5) (s : State),
      s.auth = false ∧ s.lkMode i.val = 2) ∧
    (∃ (i : Fin 5) (s : State),
      s.auth = false ∧ (s.lkMode i.val = 1 ∨ s.lkMode i.val = 5 ∨ s.lkMode i.val = 6)) ∧
    (∃ (i : Fin 5) (s : State),
      s.lkMode i.val = 7) ∧
    (∃ (i : Fin 5) (s : State),
      s.lkMode i.val ≠ 7) :=
  ⟨⟨.sup, 7, (State.reset).setFlag Fld.LK_CMD_RESULT_BUSY true 1, by decide +kernel⟩,
  ⟨.app, 5, (State.reset).setFlag Fld.LK_CMD_RESULT_BUSY false 0, by decide +kernel⟩,
  ⟨.app, 2, wSplit (State.reset) 2 8, by decide +kernel⟩,
  ⟨.app, 2, wSplit (State.reset) 2 5, by decide +kernel⟩,
  ⟨.app, 2, (wSplit (State.reset) 2 2).setPairOf 2 {}, by decide +kernel⟩,
  ⟨.app, 2, 7#8, 0xBFFFF, (wSplit (State.reset) 2 2).setPairOf 2 { held := [{ addr := 0x1DFFFFF, data := [7], cls := .rt }] }, by decide +kernel⟩,
  ⟨2, (fun s => { s with img := { s.img with checkpoints := [], splitEntry := [(2, 8, 16)] } }) (wLk (wRoom (State.reset)) 2 4 { draining := true, writer := 1, stop0 := true }), by unfold State.takesRecord; decide +kernel⟩,
  ⟨2, 0x1D40000, 3, 2, (fun s => { s with img := { s.img with checkpoints := [(2, 0x1D40000, 3)] } }) (wLk (State.reset) 2 4 {}), by decide +kernel⟩,
  ⟨2, wLk (State.reset) 2 5 {}, by decide +kernel⟩,
  ⟨2, wLk (wRoom (State.reset)) 2 4 { draining := true, writer := 1, ordAt := (State.reset).mt.frc - 100000#64 }, by unfold State.takesRecord; decide +kernel⟩,
  ⟨2, wLk (State.reset) 2 4 { draining := true, ordAt := (State.reset).mt.frc }, by decide +kernel⟩,
  ⟨.sup, 2, wSplit (State.reset) 2 5, by decide +kernel⟩,
  ⟨.app, 2, wSplit (State.reset) 2 2, by decide +kernel⟩,
  ⟨2, wLk (wRoom (State.reset)) 2 5 { rejoin := true, writer := 1 }, by unfold State.takesRecord; decide +kernel⟩,
  ⟨2, true, wLk (State.reset) 2 5 {}, by decide +kernel⟩,
  ⟨2, true, true, (State.reset).setFlag Fld.LK_CMD_RESULT_BUSY false 0, by decide +kernel⟩,
  ⟨4, (wLk (State.reset) 4 2 {}).setFlag Fld.LK_CMD_RESULT_BUSY false 1, by decide +kernel⟩,
  ⟨5, true, true, (State.reset).setFlag Fld.LK_CMD_RESULT_BUSY false 1, by decide +kernel⟩,
  ⟨0, (wRoom (State.reset)).setFlag Fld.BN_STATUS_AUTH true, by unfold State.takesRecord; decide +kernel⟩,
  ⟨0, (wLk (State.reset) 0 2 {}).setFlag Fld.BN_STATUS_AUTH false, by decide +kernel⟩,
  ⟨0, (wLk (State.reset) 0 1 {}).setFlag Fld.BN_STATUS_AUTH false, by decide +kernel⟩,
  ⟨4, wLk (State.reset) 4 7 {}, by decide +kernel⟩,
  ⟨4, wLk (State.reset) 4 1 {}, by decide +kernel⟩⟩

theorem test_hyps_AccessPermissions :
    (∃ (a : Access) (s : State),
      s.coreRuns a = false) ∧
    (∃ (a : Access) (s : State) (v : State),
      v = s.settle s.pt ∧ (∀ j ∈ [1, 2, 3], (s.pairOf j).close = false) ∧ s.coreRuns a = true ∧ a.ecc = [] ∧
      a.cls = .usr ∧ a.data = none ∧ 0x1D40000 ≤ a.addr ∧ a.addr + a.size ≤ 0x2000000 ∧
      (s.pairOf a.pair.val).held = []) ∧
    (∃ (a : Access) (i : Nat) (s : State) (v : State),
      v = s.settle s.pt ∧ (∀ j ∈ [1, 2, 3], (s.pairOf j).close = false) ∧ s.coreRuns a = true ∧ a.ecc = [] ∧
      ((a.cls = .usr ∧ (v.task a.task).running = false) ∨ a.cls = .rt) ∧ a.data = none ∧ i < 262144 ∧
      a.addr = 0x1000000 + 8 * i ∧ a.size = 8 ∧ (s.pairOf a.pair.val).held = []) ∧
    (∃ (a : Access) (i : Nat) (s : State) (v : State),
      v = s.settle s.pt ∧ (∀ j ∈ [1, 2, 3], (s.pairOf j).close = false) ∧ s.coreRuns a = true ∧ a.ecc = [] ∧
      a.cls = .usr ∧ (v.task a.task).running = true ∧ a.data = none ∧ i < 262144 ∧ a.addr = 0x1000000 + 8 * i ∧
      a.size = 8 ∧ (s.pairOf a.pair.val).held = []) ∧
    (∃ (a : Access) (s : State) (v : State),
      v = s.settle s.pt ∧ (∀ j ∈ [1, 2, 3], (s.pairOf j).close = false) ∧ s.coreRuns a = true ∧
      a.ecc = [.uncorrectable] ∧ a.cls = .rt ∧ a.data = none ∧ 0x1D40000 ≤ a.addr ∧ a.addr + a.size ≤ 0x2000000 ∧
      0 < a.size ∧ (s.pairOf a.pair.val).held = []) ∧
    (∃ (a : Access) (bs : List Byte) (s : State) (v : State),
      v = s.settle s.pt ∧ (∀ j ∈ [1, 2, 3], (s.pairOf j).close = false) ∧ s.coreRuns a = true ∧ a.ecc = [] ∧
      (a.cls = .usr ∨ a.cls = .rt) ∧ a.data = some bs ∧ a.size = bs.length ∧ 0x1D40000 ≤ a.addr ∧
      a.addr + a.size ≤ 0x2000000 ∧ (s.lkMode a.pair.val = 1 ∨ s.lkMode a.pair.val = 6)) ∧
    (∃ (a : Access) (i : Nat) (v : W64) (s : State) (x : State),
      x = s.settle s.pt ∧ (∀ j ∈ [1, 2, 3], (s.pairOf j).close = false) ∧ s.coreRuns a = true ∧ a.ecc = [] ∧
      a.cls = .rt ∧ i < 262144 ∧ a.addr = 0x1000000 + 8 * i ∧ a.size = 8 ∧ a.data = some (bytesOf v 8) ∧
      s.lkMode a.pair.val = 1) ∧
    (∃ (a : Access) (bs : List Byte) (s : State) (v : State),
      v = s.settle s.pt ∧ (∀ j ∈ [1, 2, 3], (s.pairOf j).close = false) ∧ s.coreRuns a = true ∧
      (a.cls = .usr ∨ a.cls = .rt) ∧ a.data = some bs ∧ a.size = bs.length ∧ 0x1D40000 ≤ a.addr ∧
      a.addr + a.size ≤ 0x2000000 ∧ (s.lkMode a.pair.val = 2 ∨ s.lkMode a.pair.val = 4) ∧
      (s.pairOf a.pair.val).held.length < 63) ∧
    (∃ (a : Access) (bs : List Byte) (s : State) (v : State),
      v = s.settle s.pt ∧ (∀ j ∈ [1, 2, 3], (s.pairOf j).close = false) ∧ s.coreRuns a = true ∧ a.cls = .usr ∧
      a.data = some bs ∧ a.size = bs.length ∧ 0 < a.size ∧ 0x1000000 ≤ a.addr ∧ a.addr + a.size ≤ 0x1200000 ∧
      (s.pairOf a.pair.val).held = [] ∧ s.flag Fld.AC_FAULT_VALID a.pair.val = false ∧
      (s.task a.task).running = false ∧ a.size < 256 ∧ a.addr < 18446744073709551616) ∧
    (∃ (a : Access) (s : State) (v : State),
      v = s.settle s.pt ∧ (∀ j ∈ [1, 2, 3], (s.pairOf j).close = false) ∧ s.coreRuns a = true ∧
      (a.cls = .rt ∨ a.cls = .sup) ∧ a.data = none ∧ a.size = 4 ∧ a.addr = 0x120000 ∧
      (s.pairOf a.pair.val).held = [] ∧ s.bn.failed = false ∧ s.flag Fld.AC_FAULT_VALID a.pair.val = false) ∧
    (∃ (a : Access) (s : State),
      s.pw.contactOpen = false) ∧
    (∃ (a : Access) (i : Nat) (s : State) (v : State),
      v = s.settle s.pt ∧ s.pw.contactOpen = true ∧ a.ecc = [] ∧ a.data = none ∧ i < 262144 ∧
      a.addr = 0x1000000 + 8 * i ∧ a.size = 8) ∧
    (∃ (a : Access) (bs : List Byte) (s : State) (v : State),
      v = s.settle s.pt ∧ s.pw.contactOpen = true ∧ s.auth = true ∧ a.cls = .debug ∧ a.data = some bs ∧
      a.size = bs.length ∧ 0 < a.size ∧ 0x1000000 ≤ a.addr ∧ a.addr + a.size ≤ 0x1200000 ∧
      s.flag Fld.AC_FAULT_VALID 5 = false) ∧
    (∃ (a : Access) (bs : List Byte) (s : State) (v : State),
      v = s.settle s.pt ∧ s.pw.contactOpen = true ∧ s.auth = false ∧ a.cls = .debug ∧ a.data = some bs ∧
      a.size = bs.length ∧ 0 < a.size ∧ 0x1C40000 ≤ a.addr ∧ a.addr + a.size ≤ 0x1D40000 ∧
      s.flag Fld.AC_FAULT_VALID 5 = false) :=
  ⟨⟨{ cls := .rt, pair := 4, addr := 0x1D40000, size := 4 }, wLk (State.reset) 4 8 {}, by decide +kernel⟩,
  ⟨{ cls := .usr, pair := 4, addr := 0x1FFFFF0, size := 16 }, wRoom (wLk (State.reset) 4 2 {}), (wRoom (wLk (State.reset) 4 2 {})).settle (wRoom (wLk (State.reset) 4 2 {})).pt, by decide +kernel⟩,
  ⟨{ cls := .rt, pair := 4, addr := 0x11FFFF8, size := 8 }, 262143, wRoom (wLk (State.reset) 4 1 {}), (wRoom (wLk (State.reset) 4 1 {})).settle (wRoom (wLk (State.reset) 4 1 {})).pt, by decide +kernel⟩,
  ⟨{ cls := .usr, pair := 4, addr := 0x1000028, size := 8, task := 7 }, 5, wTask (wRoom (wLk (State.reset) 4 1 {})) { running := true, pi := [(5, 9#64)] }, (wTask (wRoom (wLk (State.reset) 4 1 {})) { running := true, pi := [(5, 9#64)] }).settle (wTask (wRoom (wLk (State.reset) 4 1 {})) { running := true, pi := [(5, 9#64)] }).pt, by decide +kernel⟩,
  ⟨{ cls := .rt, pair := 4, addr := 0x1FFFFF0, size := 16, ecc := [.uncorrectable] }, wRoom (wLk (State.reset) 4 2 {}), (wRoom (wLk (State.reset) 4 2 {})).settle (wRoom (wLk (State.reset) 4 2 {})).pt, by decide +kernel⟩,
  ⟨{ cls := .rt, pair := 4, addr := 0x1FFFFFC, size := 4, data := some [1, 2, 3, 4] }, [1, 2, 3, 4], wRoom (wLk (State.reset) 4 1 {}), (wRoom (wLk (State.reset) 4 1 {})).settle (wRoom (wLk (State.reset) 4 1 {})).pt, by decide +kernel⟩,
  ⟨{ cls := .rt, pair := 0, addr := 0x1000000, size := 8, data := some (bytesOf 5#64 8) }, 0, 5#64, wRoom (wLk (State.reset) 0 1 {}), (wRoom (wLk (State.reset) 0 1 {})).settle (wRoom (wLk (State.reset) 0 1 {})).pt, by decide +kernel⟩,
  ⟨{ cls := .rt, pair := 4, addr := 0x1FFFFFC, size := 4, data := some [1, 2, 3, 4] }, [1, 2, 3, 4], wRoom (wLk (State.reset) 4 2 {}), (wRoom (wLk (State.reset) 4 2 {})).settle (wRoom (wLk (State.reset) 4 2 {})).pt, by decide +kernel⟩,
  ⟨{ cls := .usr, pair := 4, addr := 0x11FFFFF, size := 1, data := some [1], task := 7 }, [1], wNoFault (wRoom (wLk (State.reset) 4 2 {})) 4, (wNoFault (wRoom (wLk (State.reset) 4 2 {})) 4).settle (wNoFault (wRoom (wLk (State.reset) 4 2 {})) 4).pt, by decide +kernel⟩,
  ⟨{ cls := .sup, pair := 4, addr := 0x120000, size := 4 }, wNoFault (wRoom (wLk (wLive (State.reset)) 4 2 {})) 4, (wNoFault (wRoom (wLk (wLive (State.reset)) 4 2 {})) 4).settle (wNoFault (wRoom (wLk (wLive (State.reset)) 4 2 {})) 4).pt, by decide +kernel⟩,
  ⟨{ cls := .debug, addr := 0x1000000, size := 8 }, wLock (State.reset) false, by decide +kernel⟩,
  ⟨{ cls := .debug, addr := 0x1000000, size := 8 }, 0, wLock (State.reset) true, (wLock (State.reset) true).settle (wLock (State.reset) true).pt, by decide +kernel⟩,
  ⟨{ cls := .debug, addr := 0x1000000, size := 1, data := some [5] }, [5], (wNoFault (wLock (State.reset) true) 5).setFlag Fld.BN_STATUS_AUTH true, ((wNoFault (wLock (State.reset) true) 5).setFlag Fld.BN_STATUS_AUTH true).settle ((wNoFault (wLock (State.reset) true) 5).setFlag Fld.BN_STATUS_AUTH true).pt, by decide +kernel⟩,
  ⟨{ cls := .debug, addr := 0x1D3FFFF, size := 1, data := some [5] }, [5], (wNoFault (wLock (State.reset) true) 5).setFlag Fld.BN_STATUS_AUTH false, ((wNoFault (wLock (State.reset) true) 5).setFlag Fld.BN_STATUS_AUTH false).settle ((wNoFault (wLock (State.reset) true) 5).setFlag Fld.BN_STATUS_AUTH false).pt, by decide +kernel⟩⟩

theorem test_hyps_MemoryProtection :
    (∃ (s : State),
      s.flag Fld.AC_CTL_LOCK = false) ∧
    (∃ (s : State),
      s.flag Fld.AC_CTL_LOCK = true) ∧
    (∃ (a : Nat) (e : Ecc) (s : State),
      inSram a = false ∧ inDram a = false) ∧
    (∃ (a : Nat) (s : State),
      inSram a = true ∧ a / 8 ≠ 0x01FFFFF8 / 8) ∧
    (∃ (a : Nat) (s : State),
      inSram a = true ∧ a / 8 ≠ 0x01FFFFF8 / 8 ∧ (s.recentFrc 3600000000000 s.ac.corrected).length < 64) ∧
    (∃ (a : Nat) (s : State),
      inSram a = true ∧ a / 8 ≠ 0x01FFFFF8 / 8 ∧ (s.recentFrc 3600000000000 s.ac.corrected).length = 64) ∧
    (∃ (i : Nat) (s : State),
      i < 262144 ∧ s.role = 1) ∧
    (∃ (a : Nat) (s : State),
      0x100000000 ≤ a ∧ a < 0x110000000 ∧ s.role = 1 ∧ s.bn.failed = false) ∧
    (∃ (i : Nat) (s : State),
      i < 262144 ∧ s.role = 2 ∧ s.img.fastBlocks.contains (i / 32) = false) :=
  ⟨⟨(State.reset).setFlag Fld.AC_CTL_LOCK false, by decide +kernel⟩,
  ⟨(State.reset).setFlag Fld.AC_CTL_LOCK true, by decide +kernel⟩,
  ⟨0x2000000, .uncorrectable, (State.reset), by decide +kernel⟩,
  ⟨0x1000000, (State.reset), by decide +kernel⟩,
  ⟨0x1FFFFF0, { (State.reset) with ac := {} }, by decide +kernel⟩,
  ⟨0x1FFFFF0, { (State.reset) with ac := { corrected := List.replicate 64 (State.reset).mt.frc } }, by decide +kernel⟩,
  ⟨262143, (State.reset).setFld Fld.BN_STATUS_ROLE 1, by decide +kernel⟩,
  ⟨0x10FFFFFFF, (wLive (State.reset)).setFld Fld.BN_STATUS_ROLE 1, by decide +kernel⟩,
  ⟨0, wReadMap ((State.reset).setFld Fld.BN_STATUS_ROLE 2) [], by decide +kernel⟩⟩

theorem test_hyps_Mailboxes :
    (∃ (n : Fin 32) (s : State),
      (n.val < 16 ∨ 20 ≤ n.val) ∧ s.mbState n.val = 0) ∧
    (∃ (n : Fin 32) (s : State),
      (n.val < 16 ∨ 20 ≤ n.val) ∧ s.mbState n.val = 1) ∧
    (∃ (n : Fin 32) (s : State),
      (n.val < 16 ∨ 20 ≤ n.val) ∧ s.mbState n.val = 2) ∧
    (∃ (n : Fin 32) (s : State),
      16 ≤ n.val ∧ n.val < 20 ∧ s.mbState n.val = 0 ∧ s.partnerHeard = true) ∧
    (∃ (n : Fin 32) (s : State),
      16 ≤ n.val ∧ n.val < 20 ∧ s.mbState n.val = 0 ∧ s.partnerHeard = false) ∧
    (∃ (n : Fin 32) (s : State),
      16 ≤ n.val ∧ n.val < 20 ∧ s.mbState n.val = 1 ∧ s.partnerHeard = true) ∧
    (∃ (n : Fin 32) (s : State),
      16 ≤ n.val ∧ n.val < 20 ∧ s.mbState n.val = 1 ∧ s.partnerHeard = false) ∧
    (∃ (n : Fin 32) (s : State),
      16 ≤ n.val ∧ n.val < 20 ∧ s.mbState n.val = 2 ∧ s.partnerHeard = true) ∧
    (∃ (n : Fin 32) (s : State),
      16 ≤ n.val ∧ n.val < 20 ∧ s.mbState n.val = 2 ∧ s.partnerHeard = false) ∧
    (∃ (n : Fin 32) (s : State),
      s.mbState n.val = 1) ∧
    (∃ (n : Fin 32) (s : State),
      s.mbState n.val ≠ 1) ∧
    (∃ (n : Fin 32) (c : BitVec 16) (s : State),
      (n.val < 20 ∨ 24 ≤ n.val) ∧ s.mbState n.val = 1) ∧
    (∃ (n : Fin 32) (c : BitVec 16) (s : State),
      20 ≤ n.val ∧ n.val < 24 ∧ s.mbState n.val = 1) ∧
    (∃ (n : Fin 32) (c : BitVec 16) (s : State),
      s.mbState n.val ≠ 1) ∧
    (∃ (n : Fin 32) (s : State),
      s.mbState n.val = 2) ∧
    (∃ (n : Fin 32) (k : Nat) (bs : List Byte) (s : State),
      s.mbState n.val = 1) ∧
    (∃ (n : Fin 32) (k : Nat) (bs : List Byte) (s : State),
      s.mbState n.val ≠ 1) ∧
    (∃ (k : Fin 4) (m : List Byte) (s : State),
      s.pair = true ∧ s.boot.fwRunning = true ∧ s.mbState (20 + k.val) = 0) ∧
    (∃ (k : Fin 4) (m : List Byte) (s : State),
      s.boot.fwRunning = false) ∧
    (∃ (k : Fin 4) (c : BitVec 16) (b : Bool) (s : State),
      s.pair = true ∧ s.mbState (16 + k.val) = 1) ∧
    (∃ (k : Fin 4) (m : List Byte) (c : BitVec 16) (b : Bool) (s : State),
      s.pair = false) ∧
    (∃ (h : SvcMsg) (n : Nat) (m : List Byte) (s : State),
      (s.sess h.sess.val).open_ = true ∧ s.serving = true ∧ s.svcRefusal h 0x02 1 0 (some 260) = none ∧ 24 ≤ n ∧
      n ≤ 31 ∧ s.mbState n = 0 ∧ m.length = 256) ∧
    (∃ (h : SvcMsg) (n : Nat) (s : State),
      (s.sess h.sess.val).open_ = true ∧ s.serving = true ∧ s.svcRefusal h 0x02 1 0 (some 4) = none ∧ 24 ≤ n ∧
      n ≤ 31 ∧ s.mbState n = 2) ∧
    (∃ (h : SvcMsg) (n : Nat) (s : State),
      (s.sess h.sess.val).open_ = true ∧ s.serving = true ∧ s.svcRefusal h 0x02 1 0 (some 4) = none ∧ 24 ≤ n ∧
      n ≤ 31 ∧ s.mbState n ≠ 2) ∧
    (∃ (h : SvcMsg) (n : Nat) (s : State),
      (s.sess h.sess.val).open_ = true ∧ s.serving = true ∧ s.svcRefusal h 0x02 1 0 (some 4) = none ∧ 24 ≤ n ∧
      n ≤ 31 ∧ s.mbState n = 1) ∧
    (∃ (h : SvcMsg) (n : Nat) (s : State),
      (s.sess h.sess.val).open_ = true ∧ s.serving = true ∧ s.svcRefusal h 0x02 1 0 (some 4) = none ∧
      (n < 24 ∨ 31 < n)) :=
  ⟨⟨31, (State.reset).setFld Fld.MB_STAT_STATE 0 31, by decide +kernel⟩,
  ⟨20, (State.reset).setFld Fld.MB_STAT_STATE 1 20, by decide +kernel⟩,
  ⟨15, (State.reset).setFld Fld.MB_STAT_STATE 2 15, by decide +kernel⟩,
  ⟨19, wHeard ((State.reset).setFld Fld.MB_STAT_STATE 0 19) true, by decide +kernel⟩,
  ⟨16, wHeard ((State.reset).setFld Fld.MB_STAT_STATE 0 16) false, by decide +kernel⟩,
  ⟨19, wHeard ((State.reset).setFld Fld.MB_STAT_STATE 1 19) true, by decide +kernel⟩,
  ⟨16, wHeard ((State.reset).setFld Fld.MB_STAT_STATE 1 16) false, by decide +kernel⟩,
  ⟨17, wHeard ((State.reset).setFld Fld.MB_STAT_STATE 2 17) true, by decide +kernel⟩,
  ⟨18, wHeard ((State.reset).setFld Fld.MB_STAT_STATE 2 18) false, by decide +kernel⟩,
  ⟨31, (State.reset).setFld Fld.MB_STAT_STATE 1 31, by decide +kernel⟩,
  ⟨31, (State.reset).setFld Fld.MB_STAT_STATE 2 31, by decide +kernel⟩,
  ⟨0, 0xFFFF#16, (State.reset).setFld Fld.MB_STAT_STATE 1 0, by decide +kernel⟩,
  ⟨23, 0xFFFF#16, (State.reset).setFld Fld.MB_STAT_STATE 1 23, by decide +kernel⟩,
  ⟨23, 5#16, (State.reset).setFld Fld.MB_STAT_STATE 0 23, by decide +kernel⟩,
  ⟨31, (State.reset).setFld Fld.MB_STAT_STATE 2 31, by decide +kernel⟩,
  ⟨31, 255, [7], (State.reset).setFld Fld.MB_STAT_STATE 1 31, by decide +kernel⟩,
  ⟨31, 0, [7], (State.reset).setFld Fld.MB_STAT_STATE 0 31, by decide +kernel⟩,
  ⟨3, [5], wFwRun ((wPosA (State.reset)).setFld Fld.MB_STAT_STATE 0 23), by decide +kernel⟩,
  ⟨0, [], { (State.reset) with boot := { (State.reset).boot with fwRunning := false } }, by decide +kernel⟩,
  ⟨3, 5#16, true, (wPosA (State.reset)).setFld Fld.MB_STAT_STATE 1 19, by decide +kernel⟩,
  ⟨0, [], 0#16, true, { (State.reset) with base := { (State.reset).base with strapKind := 1 } }, by decide +kernel⟩,
  ⟨{ sess := 1, len := 260 }, 31, List.replicate 256 7, (wSvc (State.reset) true).setFld Fld.MB_STAT_STATE 0 31, by decide +kernel⟩,
  ⟨{ sess := 1, len := 4 }, 24, (wSvc (State.reset) true).setFld Fld.MB_STAT_STATE 2 24, by decide +kernel⟩,
  ⟨{ sess := 1, len := 4 }, 24, (wSvc (State.reset) true).setFld Fld.MB_STAT_STATE 1 24, by decide +kernel⟩,
  ⟨{ sess := 1, len := 4 }, 24, (wSvc (State.reset) true).setFld Fld.MB_STAT_STATE 1 24, by decide +kernel⟩,
  ⟨{ sess := 1, len := 4 }, 32, wSvc (State.reset) true, by decide +kernel⟩⟩

theorem test_hyps_FullSummary :
    (∃ (h : SvcMsg) (s : State),
      (s.sess h.sess.val).open_ = true ∧ s.serving = true ∧ s.svcRefusal h 0x01 0 0 (some 0) = none) ∧
    (∃ (s : State),
      s.mbState 0 = 1 ∧ s.boot.fwRunning = true ∧ bits (s.mbMsg 0) 15 0 = 1 ∧ bits (s.mbMsg 0) 31 16 = 4) ∧
    (∃ (s : State),
      s.mbState 0 = 1 ∧ s.boot.fwRunning = true ∧ bits (s.mbMsg 0) 15 0 = 1 ∧ bits (s.mbMsg 0) 31 16 ≠ 4) ∧
    (∃ (s : State),
      s.mbState 0 = 1 ∧ s.boot.fwRunning = true ∧ bits (s.mbMsg 0) 15 0 ≠ 1 ∧ bits (s.mbMsg 0) 15 0 < 32768) ∧
    (∃ (s : State),
      s.mbState 0 ≠ 1 ∨ 32768 ≤ bits (s.mbMsg 0) 15 0) :=
  ⟨⟨{ sess := 1 }, wSvc (State.reset) true, by decide +kernel⟩,
  ⟨wSumReq (State.reset) 1 4, by decide +kernel⟩,
  ⟨wSumReq (State.reset) 1 5, by decide +kernel⟩,
  ⟨wSumReq (State.reset) 32767 4, by decide +kernel⟩,
  ⟨wSumReq (State.reset) 32768 4, by decide +kernel⟩⟩

theorem test_hyps_SinterRecords :
    (∃ (s : State),
      s.sn.located = false ∨ s.sn.raised = []) ∧
    (∃ (r : RawRec) (s : State),
      s.sn.located = true ∧ s.sn.raised = [r] ∧ codeClass r.code ≠ 0 ∧ s.token r.code = true ∧
      s.recentCount < 100000 ∧ s.roomFor r.code = true ∧ s.anchorDue = false ∧ s.sn.queue.length < 1791) ∧
    (∃ (r : RawRec) (s : State),
      s.sn.located = true ∧ s.sn.raised = [r] ∧ codeClass r.code ≠ 0 ∧ s.token r.code = false ∧ s.sn.supp = []) ∧
    (∃ (r : RawRec) (s : State),
      s.sn.located = true ∧ s.sn.raised = [r] ∧ codeClass r.code = 0 ∧ s.roomFor r.code = false) ∧
    (∃ (r : BitVec 512) (s : State),
      s.sn.queue = [r] ∧ s.snMay = true ∧ s.sn.supp = [] ∧ s.sn.spill = none ∧ recSeq r < 2 ^ 48) ∧
    (∃ (s : State),
      s.sn.queue = [] ∨ s.snMay = false) ∧
    (∃ (s : State),
      s.sn.refused = true) ∧
    (∃ (s : State),
      s.sn.refused = false ∧ s.sn.located = true ∧ (s.sn.lossFault ≠ 0 ∨ s.sn.lossOther ≠ 0) ∧ s.roomFor 3 = true ∧
      s.anchorDue = false ∧ s.sn.queue.length < 1791) ∧
    (∃ (s : State),
      s.sn.refused = false ∧ s.sn.lossFault = 0 ∧ s.sn.lossOther = 0) ∧
    (∃ (c : BitVec 16) (e : Supp) (s : State),
      s.sn.located = true ∧ s.sn.supp = [e] ∧ s.sn.spill = none ∧ e.code = c ∧ e.mark.toNat ≤ s.mt.frc.toNat ∧
      e.count ≠ 0 ∧ s.roomFor 2 = true ∧ s.anchorDue = false ∧ s.sn.queue.length < 1791) ∧
    (∃ (c : BitVec 16) (e : Supp) (s : State),
      s.sn.located = true ∧ s.sn.supp = [e] ∧ s.sn.spill = none ∧ e.code = c ∧ e.mark.toNat ≤ s.mt.frc.toNat ∧
      e.count = 0) ∧
    (∃ (c : BitVec 16) (s : State),
      s.sn.located = false) ∧
    (∃ (s : State),
      s.sn.located = false ∧ s.flag Fld.PK_STATUS_SERIAL_OK = true ∧ s.pw.inReset = none ∧ 2 ≤ s.phase ∧
      s.usedSlots = [] ∧ s.sn.queue = [] ∧ s.sn.recent = [] ∧ s.sn.buckets = [] ∧ s.img.rates = [] ∧
      s.img.anchorPeriod = 100000000 ∧ s.pw.lkfPending = false) ∧
    (∃ (s : State),
      s.sn.located = true ∨ s.flag Fld.PK_STATUS_SERIAL_OK = false) ∧
    (∃ (w : Writer) (v : Word) (s : State),
      s.sn.located = false) ∧
    (∃ (w : Writer) (v : Word) (s : State),
      s.sn.located = true ∧ s.flag Fld.PK_STATUS_PRESENT = true ∧ s.flag Fld.PK_STATUS_SERIAL_OK = true ∧
      s.newest = 0) ∧
    (∃ (w : Writer) (v : Word) (c : Nat) (r : BitVec 512) (s : State),
      s.sn.located = true ∧ s.flag Fld.PK_STATUS_PRESENT = true ∧ s.flag Fld.PK_STATUS_SERIAL_OK = true ∧
      bits v 15 0 * 4294967296 + (s.heldLo .SN_CURSOR_LO (wIdx w)).toNat = c ∧ c ≤ s.newest ∧ 0 < s.newest ∧
      s.oldest = s.newest ∧ s.seqRec s.newest = some r) ∧
    (∃ (w : Writer) (s : State),
      s.sn.located = false) ∧
    (∃ (w : Writer) (c : Nat) (r : BitVec 512) (s : State),
      s.sn.located = true ∧ s.flag Fld.PK_STATUS_PRESENT = true ∧ s.flag Fld.PK_STATUS_SERIAL_OK = true ∧
      s.cursor (wIdx w) + s.fld Fld.SN_WSTAT_LOADED (wIdx w) = c ∧ c ≤ s.newest ∧ 0 < s.newest ∧
      s.oldest = s.newest ∧ s.seqRec s.newest = some r) :=
  ⟨⟨{ (State.reset) with sn := { (State.reset).sn with located := false } }, by decide +kernel⟩,
  ⟨{ island := 255, code := 0xB001, payload := .laid 0 }, wAdmit (State.reset) 0xB001 false, by decide +kernel⟩,
  ⟨{ island := 255, code := 0xB001, payload := .laid 0 }, wAdmit (State.reset) 0xB001 true, by decide +kernel⟩,
  ⟨{ island := 255, code := 4, payload := .laid 0 }, wFullQueue (wAdmit (State.reset) 4 false), by decide +kernel⟩,
  ⟨sinterRec 9 0xB001 255 0, wCommitRec (State.reset) (sinterRec 9 0xB001 255 0), by decide +kernel⟩,
  ⟨{ (State.reset) with sn := { (State.reset).sn with queue := [] } }, by decide +kernel⟩,
  ⟨{ (State.reset) with sn := { (State.reset).sn with refused := true } }, by decide +kernel⟩,
  ⟨wLoss (wAdmit (State.reset) 3 false), by decide +kernel⟩,
  ⟨{ (State.reset) with sn := { (State.reset).sn with refused := false, lossFault := 0, lossOther := 0 } }, by decide +kernel⟩,
  ⟨0xB001#16, { code := 0xB001, count := 5 }, wSupp (wAdmit (State.reset) 3 false) 5, by decide +kernel⟩,
  ⟨0xB001#16, { code := 0xB001, count := 0 }, wSupp (wAdmit (State.reset) 3 false) 0, by decide +kernel⟩,
  ⟨2#16, { (State.reset) with sn := { (State.reset).sn with located := false } }, by decide +kernel⟩,
  ⟨wSearch (State.reset), by decide +kernel⟩,
  ⟨{ (State.reset) with sn := { (State.reset).sn with located := true } }, by decide +kernel⟩,
  ⟨.sup, 0xFFFF#32, { (State.reset) with sn := { (State.reset).sn with located := false } }, by decide +kernel⟩,
  ⟨.app, 0#32, wNoNewest (State.reset), by decide +kernel⟩,
  ⟨.sup, 0#32, 0, sinterRec 5 1 1 0, wOneRec (State.reset), by decide +kernel⟩,
  ⟨.sup, { (State.reset) with sn := { (State.reset).sn with located := false } }, by decide +kernel⟩,
  ⟨.app, 5, sinterRec 5 1 1 0, wCursor (wOneRec (State.reset)) 0 5, by decide +kernel⟩⟩

theorem test_hyps_UpdateDownloadAndVerify :
    (∃ (h : SvcMsg) (m : BitVec 512) (us : List W64) (b : Bool) (s : State),
      (s.sess h.sess.val).open_ = true ∧ s.serving = true ∧
      s.svcRefusal h 0x10 2 0 (some (64 + bits m 383 352)) = none ∧ s.pw.contactOpen = false) ∧
    (∃ (h : SvcMsg) (k : BitVec 8) (s : State),
      (s.sess h.sess.val).open_ = true ∧ s.serving = true ∧ s.svcRefusal h 0x11 2 1 (some 16) = none ∧
      s.pw.contactOpen = false) ∧
    (∃ (h : SvcMsg) (m : BitVec 512) (us : List W64) (s : State),
      (s.sess h.sess.val).open_ = true ∧ s.serving = true ∧
      s.svcRefusal h 0x10 2 0 (some (64 + bits m 383 352)) = none ∧ s.upRefusal 0 = 0 ∧
      us.length * 8 = bits m 383 352 ∧ blkOk m (us.flatMap fun u => bytesOf u 8) = true ∧ s.iazebin = false ∧
      s.keyOk = true ∧ s.progLive (blkKind m) = false ∧ 2 ≤ bits m 399 384) ∧
    (∃ (h : SvcMsg) (m : BitVec 512) (us : List W64) (s : State),
      (s.sess h.sess.val).open_ = true ∧ s.serving = true ∧
      s.svcRefusal h 0x10 2 0 (some (64 + bits m 383 352)) = none ∧ s.upRefusal 0 = 0 ∧
      us.length * 8 = bits m 383 352 ∧ blkOk m (us.flatMap fun u => bytesOf u 8) = true ∧ s.iazebin = false ∧
      s.keyOk = true ∧ s.progLive (blkKind m) = false ∧ bits m 399 384 = 1) ∧
    (∃ (h : SvcMsg) (m : BitVec 512) (us : List W64) (s : State),
      (s.sess h.sess.val).open_ = true ∧ s.serving = true ∧
      s.svcRefusal h 0x10 2 0 (some (64 + bits m 383 352)) = none ∧ s.upRefusal 0 = 0 ∧
      us.length * 8 = bits m 383 352 ∧ blkOk m (us.flatMap fun u => bytesOf u 8) = true ∧ s.iazebin = false ∧
      s.keyOk = true ∧ s.progState (blkKind m) = 1 ∧ s.progLive (blkKind m) = true ∧
      s.progTag (blkKind m) = BitVec.ofNat 64 (bits m 511 448) ∧ s.progTotal (blkKind m) = bits m 399 384) ∧
    (∃ (h : SvcMsg) (m : BitVec 512) (us : List W64) (b : Bool) (s : State),
      (s.sess h.sess.val).open_ = true ∧ s.serving = true ∧
      s.svcRefusal h 0x10 2 0 (some (64 + bits m 383 352)) = none ∧ s.upRefusal 0 = 0 ∧
      us.length * 8 = bits m 383 352 ∧ blkOk m (us.flatMap fun u => bytesOf u 8) = true ∧ s.iazebin = false ∧
      s.keyOk = true ∧ s.progLive (blkKind m) = true ∧ s.progTag (blkKind m) ≠ BitVec.ofNat 64 (bits m 511 448)) ∧
    (∃ (h : SvcMsg) (m : BitVec 512) (us : List W64) (b : Bool) (s : State),
      (s.sess h.sess.val).open_ = true ∧ s.serving = true ∧
      s.svcRefusal h 0x10 2 0 (some (64 + bits m 383 352)) = none ∧ s.upRefusal 0 = 0 ∧
      us.length * 8 = bits m 383 352 ∧ blkOk m (us.flatMap fun u => bytesOf u 8) = false) ∧
    (∃ (h : SvcMsg) (s : State),
      (s.sess h.sess.val).open_ = true ∧ s.serving = true ∧ s.svcRefusal h 0x11 2 1 (some 16) = none ∧
      s.upRefusal 1 = 0 ∧ s.keyOk = true ∧ s.progState 1 = 2) ∧
    (∃ (h : SvcMsg) (s : State),
      (s.sess h.sess.val).open_ = true ∧ s.serving = true ∧ s.svcRefusal h 0x11 2 1 (some 16) = none ∧
      s.upRefusal 1 = 0 ∧ s.progState 0 ≠ 2 ∧ (s.progState 0 < 3 ∨ s.progState 0 = 5)) ∧
    (∃ (x : Option PlantImage) (b : Bool) (e : Nat) (s : State),
      s.up.verifying = 1 ∧ s.keyOk = true ∧ s.progState 0 = 3 ∧
      e = s.verifyCode 0 (b && x.any fun i => i.baseKind == (if s.pair then 2 else 1) && imageFits i)) ∧
    (∃ (x : Option PlantImage) (b : Bool) (e : Nat) (s : State),
      s.up.verifying = 2 ∧ s.keyOk = true ∧ s.progState 1 = 3 ∧ e = s.verifyCode 1 true) ∧
    (∃ (x : Option PlantImage) (b : Bool) (s : State),
      s.up.verifying = 0 ∨ s.keyOk = false) ∧
    (∃ (k : Nat) (c : Bool) (s : State),
      s.bankValid k (bits (s.prog k) 64 64) = false ∨ hdrTag (s.bankHdr k (bits (s.prog k) 64 64)) ≠ s.progTag k) ∧
    (∃ (h : SvcMsg) (s : State),
      (s.sess h.sess.val).open_ = true ∧ s.serving = true ∧ s.svcRefusal h 0x11 2 6 (some 16) = none ∧
      s.upRefusal 6 = 0 ∧ s.keyOk = true ∧ s.up.roll = none ∧ s.progState 0 = 2) ∧
    (∃ (h : SvcMsg) (s : State),
      (s.sess h.sess.val).open_ = true ∧ s.serving = true ∧ s.svcRefusal h 0x11 2 7 (some 16) = none ∧
      s.upRefusal 7 = 0) ∧
    (∃ (h : SvcMsg) (s : State),
      (s.sess h.sess.val).open_ = true ∧ s.serving = true ∧ s.svcRefusal h 0x11 2 7 (some 16) = none ∧
      s.upRefusal 7 = 0) ∧
    (∃ (h : SvcMsg) (s : State),
      s.partnerHeard = true ∧ s.role ≠ 1 ∧ s.refusedUp = false ∧ (s.upRefusal 1 = 0 ∨ s.upRefusal 1 = 0x0111) ∧
      s.keyOk = true ∧ s.progState 1 = 2 ∧ s.iazebin = false) ∧
    (∃ (h : SvcMsg) (s : State),
      s.partnerHeard = true ∧ s.role ≠ 1 ∧ s.refusedUp = false ∧ s.upRefusal 6 = 0 ∧ s.keyOk = true ∧
      s.up.roll = none ∧ s.progState 0 = 2) ∧
    (∃ (h : SvcMsg) (k : BitVec 8) (s : State),
      s.partnerHeard = true ∧ s.role ≠ 1 ∧ s.refusedUp = false ∧ s.upRefusal 1 = 0x0101) ∧
    (∃ (h : SvcMsg) (k : BitVec 8) (b : Bool) (s : State),
      s.partnerHeard = false ∨ s.role = 1 ∨ s.refusedUp = true) :=
  ⟨⟨{ sess := 1, len := 72 }, wBlkHdr 1 2 1 9, [7], true, wLock (wUp (State.reset)) false, by decide +kernel⟩,
  ⟨wUpMsg 1, 3#8, wLock (wUp (State.reset)) false, by decide +kernel⟩,
  ⟨{ sess := 1, len := 72 }, wBlkHdr 1 512 511 9, [7], wUp (State.reset), by decide +kernel⟩,
  ⟨{ sess := 1, len := 72 }, wBlkHdr 2 1 0 9, [7], wUp (State.reset), by decide +kernel⟩,
  ⟨{ sess := 1, len := 72 }, wBlkHdr 1 512 511 9, [7], wProg (wUp (State.reset)) 1 1 512 9, by decide +kernel⟩,
  ⟨{ sess := 1, len := 72 }, wBlkHdr 1 512 511 9, [7], true, wProg (wUp (State.reset)) 1 1 512 8, by decide +kernel⟩,
  ⟨{ sess := 1, len := 72 }, wBlkHdr 3 512 511 9, [7], true, wUp (State.reset), by decide +kernel⟩,
  ⟨wUpMsg 1, wProg (wUp (State.reset)) 1 2 512 9, by decide +kernel⟩,
  ⟨wUpMsg 1, wProg (wUp (State.reset)) 0 1 512 9, by decide +kernel⟩,
  ⟨some {}, true, _, wVerify (State.reset), ⟨by decide +kernel, by decide +kernel, by decide +kernel, rfl⟩⟩,
  ⟨none, true, _, { (wProg (wUp (State.reset)) 1 3 512 9) with up := { verifying := 2 } }, ⟨by decide +kernel, by decide +kernel, by decide +kernel, rfl⟩⟩,
  ⟨none, true, { (State.reset) with up := {} }, by decide +kernel⟩,
  ⟨1, true, wProg (wUp (State.reset)) 1 3 512 9, by decide +kernel⟩,
  ⟨wUpMsg 1, wProg (wUp (State.reset)) 0 2 512 9, by decide +kernel⟩,
  ⟨wUpMsg 1, wUp (State.reset), by decide +kernel⟩,
  ⟨wUpMsg 1, wUp (State.reset), by decide +kernel⟩,
  ⟨wUpMsg 1, wProg (wLinked (State.reset)) 1 2 512 9, by decide +kernel⟩,
  ⟨wUpMsg 1, wProg (wLinked (State.reset)) 0 2 512 9, by decide +kernel⟩,
  ⟨wUpMsg 1, 2#8, wLock (wProg (wLinked (State.reset)) 1 2 512 9) false, by decide +kernel⟩,
  ⟨wUpMsg 1, 2#8, true, wUp (State.reset), by decide +kernel⟩⟩

theorem test_hyps_UpdateTrials :
    (∃ (h : SvcMsg) (s : State),
      (s.sess h.sess.val).open_ = true ∧ s.serving = true ∧ s.svcRefusal h 0x11 2 2 (some 16) = none ∧
      s.upRefusal 2 = 0 ∧ s.iazebin = false ∧ s.progState 0 = 4 ∧ s.keyOk = true ∧ s.powered = true ∧
      (s.activate 1).fld Fld.PK_SEQ_SEQUENCE ≠ s.fld Fld.PK_SEQ_SEQUENCE) ∧
    (∃ (s : State),
      s.selPick.isSome = true ∧ s.fld Fld.PK_STATUS_SEL_COPY = 0 ∧ s.progState 0 = 4) ∧
    (∃ (h : SvcMsg) (k : BitVec 8) (w : Instant) (s : State),
      (s.sess h.sess.val).open_ = true ∧ s.serving = true ∧ s.svcRefusal h 0x11 2 2 (some 16) = none ∧
      s.upRefusal 2 = 0 ∧ s.iazebin = false ∧ allKinds (k.toNat % 4) (fun j => s.progState j == 4) = true ∧ w ≠ 0 ∧
      2000000 ≤ w.diff s.pt ∧ w.diff s.pt ≤ 86400000000000) ∧
    (∃ (h : SvcMsg) (k : BitVec 8) (w : Instant) (s : State),
      (s.sess h.sess.val).open_ = true ∧ s.serving = true ∧ s.svcRefusal h 0x11 2 2 (some 16) = none ∧
      s.upRefusal 2 = 0x0102) ∧
    (∃ (a : Nat × Instant) (s : State),
      s.up.act = some a ∧ Instant.before s.pt (a.2 - 1000000) = false ∧ s.actCode a.1 = 0) ∧
    (∃ (a : Nat × Instant) (s : State),
      s.up.act = some a ∧ Instant.before s.pt (a.2 - 1000000) = false ∧ s.actCode a.1 ≠ 0) ∧
    (∃ (a : Nat × Instant) (s : State),
      s.up.act = some a) ∧
    (∃ (a : Nat × Instant) (s : State),
      s.up.act = some a ∧ Instant.before s.pt a.2 = false ∧ (s.up.actOk = true ∨ s.actCode a.1 = 0) ∧
      s.keyOk = true ∧ s.powered = true ∧ s.pw.inReset = none) ∧
    (∃ (a : Nat × Instant) (s : State),
      s.up.act = some a ∧ Instant.before s.pt a.2 = false ∧ s.up.actOk = false ∧ s.actCode a.1 ≠ 0) ∧
    (∃ (h : SvcMsg) (b : Bool) (s : State),
      (s.sess h.sess.val).open_ = true ∧ s.serving = true ∧ s.svcRefusal h 0x11 2 4 (some 16) = none ∧
      s.upRefusal 4 = 0 ∧ s.onTrial = true ∧ s.pair = false ∧ s.keyOk = true ∧ s.selPick.isSome = true ∧
      s.fld Fld.PK_STATUS_SEL_COPY = 0) ∧
    (∃ (h : SvcMsg) (b : Bool) (s : State),
      s.partnerHeard = true ∧ s.role ≠ 1 ∧ s.refusedUp = false ∧ (s.upRefusal 4 = 0 ∨ s.upRefusal 4 = 0x0111) ∧
      s.onTrial = true ∧ s.keyOk = true ∧ s.selPick.isSome = true ∧ s.fld Fld.PK_STATUS_SEL_COPY = 0) ∧
    (∃ (h : SvcMsg) (b : Bool) (s : State),
      (s.sess h.sess.val).open_ = true ∧ s.serving = true ∧ s.svcRefusal h 0x11 2 4 (some 16) = none ∧
      s.upRefusal 4 = 0 ∧ s.onTrial = false) ∧
    (∃ (h : SvcMsg) (s : State),
      (s.sess h.sess.val).open_ = true ∧ s.serving = true ∧ s.svcRefusal h 0x11 2 5 (some 16) = none ∧
      s.upRefusal 5 = 0 ∧ s.onTrial = true ∧ s.pair = false) ∧
    (∃ (s : State),
      s.onTrial = true ∧ s.keyOk = true ∧ 60000000000 ≤ s.runNow ∧ s.selPick.isSome = true ∧
      s.fld Fld.PK_STATUS_SEL_COPY = 0) ∧
    (∃ (s : State),
      s.onTrial = false) ∧
    (∃ (n : Nat) (s : State),
      s.up.revert = some n ∧ s.keyOk = true ∧ s.flag Fld.RST_POWER_HOLDUP_OK = true ∧ s.transition = false ∧
      s.powered = true ∧ s.pw.inReset = none) ∧
    (∃ (s : State),
      s.up.revert = none ∨ (s.refusedUp = false ∧ s.transition = true)) ∧
    (∃ (h : SvcMsg) (k : BitVec 8) (s : State),
      s.iazebin = false) ∧
    (∃ (h : SvcMsg) (k : BitVec 8) (b : Nat) (s : State),
      (s.sess h.sess.val).open_ = true ∧ s.serving = true ∧ s.svcRefusal h 0x11 2 2 (some 16) = none ∧
      s.upRefusal 2 = 0 ∧ s.iazebin = true ∧ s.iazBank = some b ∧ s.keyOk = true ∧ s.powered = true ∧
      (s.iazActivate 0).2.fld Fld.PK_SEQ_SEQUENCE ≠ s.fld Fld.PK_SEQ_SEQUENCE) :=
  ⟨⟨wUpMsg 1, wActivate (State.reset), by decide +kernel⟩,
  ⟨wActivate (State.reset), by decide +kernel⟩,
  ⟨wUpMsg 1, 1#8, (wActivate (State.reset)).pt + 86400000000000#64, wActivate (State.reset), by decide +kernel⟩,
  ⟨wUpMsg 1, 1#8, 0#64, (wActivate (State.reset)).setFlag Fld.RST_POWER_HOLDUP_OK false, by decide +kernel⟩,
  ⟨(1, (wActivate (State.reset)).pt + 1000000#64), { wActivate (State.reset) with up := { act := some (1, (wActivate (State.reset)).pt + 1000000#64) } }, by decide +kernel⟩,
  ⟨(1, (wActivate (State.reset)).pt + 1000000#64), { wLock (wActivate (State.reset)) false with up := { act := some (1, (wActivate (State.reset)).pt + 1000000#64) } }, by decide +kernel⟩,
  ⟨(1, (State.reset).pt + 5000000#64), { (State.reset) with up := { act := some (1, (State.reset).pt + 5000000#64) } }, by decide +kernel⟩,
  ⟨(1, (wActivate (State.reset)).pt), { wActivate (State.reset) with up := { act := some (1, (wActivate (State.reset)).pt) } }, by decide +kernel⟩,
  ⟨(1, (wActivate (State.reset)).pt), { wLock (wActivate (State.reset)) false with up := { act := some (1, (wActivate (State.reset)).pt) } }, by decide +kernel⟩,
  ⟨wUpMsg 1, true, wTrial (State.reset), by decide +kernel⟩,
  ⟨wUpMsg 1, true, wLinkedTrial (State.reset), by decide +kernel⟩,
  ⟨wUpMsg 1, true, wUp (State.reset), by decide +kernel⟩,
  ⟨wUpMsg 1, wTrial (State.reset), by decide +kernel⟩,
  ⟨{ wTrial (State.reset) with up := { (wTrial (State.reset)).up with runAt := some (State.reset).mt.frc, runNs := 60000000000 } }, by decide +kernel⟩,
  ⟨wUp (State.reset), by decide +kernel⟩,
  ⟨1, { wCalmPoint (wTrial (State.reset)) with up := { revert := some 1 } }, by decide +kernel⟩,
  ⟨wUp (State.reset), by decide +kernel⟩,
  ⟨{ sess := 0 }, 1#8, wUp (State.reset), by decide +kernel⟩,
  ⟨wUpMsg 1, 2#8, 1, wStart (wProg (wActivate (State.reset)) 1 4 512 9) 14, by decide +kernel⟩⟩

theorem test_hyps_UpdateRolls :
    (∃ (s : State),
      s.onTrial = true ∧ 1800 ≤ s.trialRun ∧ s.role = 1 ∧ s.pair = false ∧ s.up.roll = none ∧ s.up.revert = none) ∧
    (∃ (s : State),
      s.onTrial = true ∧ 1800 ≤ s.trialRun ∧ s.role = 1 ∧ s.pair = true ∧ s.up.roll = none ∧ s.up.revert = none) ∧
    (∃ (h : SvcMsg) (w : Instant) (s : State),
      (s.sess h.sess.val).open_ = true ∧ s.serving = true ∧ s.svcRefusal h 0x11 2 3 (some 16) = none ∧
      s.upRefusal 3 = 0 ∧ s.pair = true ∧ s.progState 0 = 4 ∧ s.up.hasMap = true) ∧
    (∃ (h : SvcMsg) (w : Instant) (s : State),
      (s.sess h.sess.val).open_ = true ∧ s.serving = true ∧ s.svcRefusal h 0x11 2 3 (some 16) = none ∧
      s.upRefusal 3 = 0 ∧ s.pair = true ∧ s.progState 0 = 4 ∧ s.up.hasMap = false) ∧
    (∃ (k : BitVec 8) (r : Roll) (s : State),
      s.role = 1 ∧ s.up.roll = some r ∧ s.fld Fld.UP_STATUS_STEP = 1 ∧ s.rollCode r.revert = 0) ∧
    (∃ (k : BitVec 8) (s : State),
      s.role = 2 ∧ s.pair = true ∧ s.keyOk = true ∧ s.onTrial = false ∧
      allKinds k.toNat (fun j => s.progState j == 4) = true ∧ s.powered = true ∧ s.pw.inReset = none) ∧
    (∃ (r : Roll) (s : State),
      s.role = 1 ∧ s.up.roll = some r ∧ s.fld Fld.UP_STATUS_STEP = 2 ∧ s.bn.ho = none ∧ s.taking = false ∧
      s.partnerFit = true ∧ s.rollCode r.revert = 0 ∧ r.at_ = 0) ∧
    (∃ (r : Roll) (s : State),
      s.up.roll = some r ∧ s.role = 0 ∧ s.fld Fld.UP_STATUS_STEP = 5 ∧ s.keyOk = true ∧ s.pw.contactOpen = true ∧
      s.flag Fld.RST_POWER_HOLDUP_OK = true ∧ s.transition = false ∧ s.onTrial = false ∧ r.kinds ≠ 0 ∧
      s.powered = true ∧ s.pw.inReset = none) ∧
    (∃ (r : Roll) (s : State),
      s.up.roll = some r ∧ s.role = 1 ∧ s.partnerStands = true ∧ s.fld Fld.UP_STATUS_STEP = 5) ∧
    (∃ (r : Roll) (s : State),
      s.up.roll = some r ∧ r.revert = false ∧ s.img.rollWait < (s.mt.frc - r.since).toNat ∧ s.bn.ho = none) ∧
    (∃ (r : Roll) (s : State),
      s.up.roll = some r ∧ (r.revert = true ∨ (s.mt.frc - r.since).toNat ≤ s.img.rollWait)) ∧
    (∃ (s : State),
      s.pair = true ∧ s.onTrial = true ∧ s.bn.hbLost = false ∧ s.bn.hbSeen = true ∧ s.bn.hbTag ≠ s.ownTag ∧
      s.keyOk = true ∧ s.role = 1 ∧ s.up.roll = none) ∧
    (∃ (s : State),
      s.pair = true ∧ s.onTrial = true ∧ s.bn.hbLost = false ∧ s.bn.hbSeen = true ∧ s.bn.hbTag ≠ s.ownTag ∧
      s.keyOk = true ∧ s.role = 2 ∧ s.fld Fld.UP_STATUS_STEP = 0 ∧ bitAt (s.reg .BN_HEALTH 1) 1 = false ∧
      s.powered = true ∧ s.pw.inReset = none) :=
  ⟨⟨wRan (wTrial (State.reset)), by decide +kernel⟩,
  ⟨wRan ((wPosA (wTrial (State.reset))).setFld Fld.BN_STATUS_ROLE 1), by decide +kernel⟩,
  ⟨wUpMsg 1, 0#64, wRollable (State.reset), by decide +kernel⟩,
  ⟨wUpMsg 1, 0#64, { wRollable (State.reset) with up := {} }, by decide +kernel⟩,
  ⟨1#8, { kinds := 1 }, wRoll (State.reset) 1 { kinds := 1 }, by decide +kernel⟩,
  ⟨1#8, (wPosA (wActivate (State.reset))).setFld Fld.BN_STATUS_ROLE 2, by decide +kernel⟩,
  ⟨{ kinds := 1 }, wRoll (State.reset) 2 { kinds := 1 }, by decide +kernel⟩,
  ⟨{ kinds := 1 }, (wRoll (State.reset) 5 { kinds := 1 }).setFld Fld.BN_STATUS_ROLE 0, by decide +kernel⟩,
  ⟨{ kinds := 1 }, wRoll (State.reset) 5 { kinds := 1 }, by decide +kernel⟩,
  ⟨{ kinds := 1, since := (State.reset).mt.frc - 1000000001#64 }, wRoll { (State.reset) with img := { (State.reset).img with rollWait := 1000000000 } } 3 { kinds := 1, since := (State.reset).mt.frc - 1000000001#64 }, by decide +kernel⟩,
  ⟨{ kinds := 1, revert := true }, wRoll (State.reset) 3 { kinds := 1, revert := true }, by decide +kernel⟩,
  ⟨wOtherTag (wTrial (State.reset)) 1, by decide +kernel⟩,
  ⟨wOtherTag (wTrial (State.reset)) 2, by decide +kernel⟩⟩

theorem test_hyps_PoweredResets :
    (∃ (s : State),
      s.powered = true ∧ s.pw.inReset = none) ∧
    (∃ (i : Nat) (s : State),
      s.powered = true ∧ s.pw.inReset = none) ∧
    (∃ (c : Nat) (s : State),
      s.powered = true ∧ s.pw.inReset = some c) ∧
    (∃ (s : State),
      s.powered = false) ∧
    (∃ (s : State),
      s.powered = true ∧ s.pw.inReset = none ∧ s.bn.claimOut = true ∧ s.partnerStandby = false) ∧
    (∃ (s : State),
      s.powered = true ∧ s.pw.inReset = none ∧ s.bn.claimOut = true ∧ s.partnerStandby = true) ∧
    (∃ (s : State),
      s.unkicked 5000000 = true ∧ s.powered = true ∧ s.pw.inReset = none) ∧
    (∃ (s : State),
      s.unkicked 2500000 = true) ∧
    (∃ (s : State),
      s.pw.wdogRun = true) ∧
    (∃ (v : BitVec 16) (s : State),
      v ≠ 0x5A39) ∧
    (∃ (i : Fin 5) (s : State),
      s.bn.failed = true ∧ s.lkMode i.val = 8 ∧ 100000 ≤ (s.mt.frc - s.bn.failAt).toNat ∧ s.powered = true ∧
      s.pw.inReset = none) ∧
    (∃ (s : State),
      s.bn.failed = false ∨ (s.mt.frc - s.bn.failAt).toNat < 100000) ∧
    (∃ (s : State),
      s.boot.fwRunning = true ∧ s.powered = true ∧ s.pw.inReset = none) ∧
    (∃ (s : State),
      s.role = 5 ∧ s.powered = true ∧ s.pw.inReset = none) ∧
    (∃ (s : State),
      s.role ≠ 5) ∧
    (∃ (c : Nat) (s : State),
      s.pw.inReset = some c ∧ 3 ≤ c ∧ c ≤ 7 ∧ s.pw.resetIn = false ∧ 2000000 ≤ (s.mt.frc - s.pw.rstFrc).toNat) ∧
    (∃ (s : State),
      s.pw.inReset = none ∨ s.pw.resetIn = true ∨ (s.mt.frc - s.pw.rstFrc).toNat < 2000000) :=
  ⟨⟨wPowered (State.reset), by decide +kernel⟩,
  ⟨4, (wPowered (State.reset)).setReg .AC_FAULT 4 0x91401001, by decide +kernel⟩,
  ⟨4, { wPowered (State.reset) with pw := { (wPowered (State.reset)).pw with inReset := some 4 } }, by decide +kernel⟩,
  ⟨wUnpowered (State.reset), by decide +kernel⟩,
  ⟨{ (wPowered (State.reset)).setFlag Fld.BN_STATUS_PARTNER_READY false with base := { (State.reset).base with strapKind := 1 }, bn := { (State.reset).bn with claimOut := true } }, by decide +kernel⟩,
  ⟨wPartnerStands (wPowered (State.reset)), by decide +kernel⟩,
  ⟨wKicked (wPowered (State.reset)) 5000000, by decide +kernel⟩,
  ⟨wKicked (State.reset) 2500000, by decide +kernel⟩,
  ⟨{ (State.reset) with pw := { (State.reset).pw with wdogRun := true } }, by decide +kernel⟩,
  ⟨0x5A38#16, (State.reset), by decide +kernel⟩,
  ⟨4, { (wPowered (State.reset)).setLkMode 4 8 with bn := { (State.reset).bn with failed := true, failAt := (State.reset).mt.frc - 100000#64 } }, by decide +kernel⟩,
  ⟨{ (State.reset) with bn := { (State.reset).bn with failed := false } }, by decide +kernel⟩,
  ⟨wRun (wPowered (State.reset)) true, by decide +kernel⟩,
  ⟨(wPowered (State.reset)).setFld Fld.BN_STATUS_ROLE 5, by decide +kernel⟩,
  ⟨(State.reset).setFld Fld.BN_STATUS_ROLE 2, by decide +kernel⟩,
  ⟨7, { (State.reset) with pw := { (State.reset).pw with inReset := some 7, resetIn := false, rstFrc := (State.reset).mt.frc - 2000000#64 } }, by decide +kernel⟩,
  ⟨{ (State.reset) with pw := { (State.reset).pw with inReset := some 3, resetIn := true } }, by decide +kernel⟩⟩

theorem test_hyps_UnpoweredResetsAndHolds :
    (∃ (s : State),
      s.powered = false ∧ s.pw.boLatch = false ∧ s.pw.inserted = true) ∧
    (∃ (s : State),
      s.powered = false ∧ s.pw.boLatch = false ∧ s.pw.inserted = false) ∧
    (∃ (f : Feed) (s : State),
      s.powered = true ∨ s.pw.boLatch = true) ∧
    (∃ (s : State),
      s.powered = false) ∧
    (∃ (s : State),
      s.pw.inReset = some 8 ∧ s.pw.inserted = true ∧ 50000000 ≤ (s.mt.frc - s.pw.insFrc).toNat) ∧
    (∃ (s : State),
      s.pw.inReset ≠ some 8 ∨ s.pw.inserted = false ∨ (s.mt.frc - s.pw.insFrc).toNat < 50000000) ∧
    (∃ (n : Fin 32) (s : State),
      s.pw.calderaHold = true ∧ Instant.atOrBefore s.pw.holdEnd s.mt.frc = true ∧ s.ucOut n.val = true ∧
      (s.uc n.val).safe = 0) ∧
    (∃ (n : Fin 32) (s : State),
      s.pw.calderaHold = true ∧ Instant.atOrBefore s.pw.holdEnd s.mt.frc = true ∧ s.ucOut n.val = true ∧
      (s.uc n.val).safe = 1) ∧
    (∃ (n : Fin 32) (s : State),
      s.pw.calderaHold = true ∧ Instant.atOrBefore s.pw.holdEnd s.mt.frc = true ∧ s.ucOut n.val = true ∧
      (s.uc n.val).safe = 2) ∧
    (∃ (s : State),
      s.pw.calderaHold = false ∨ Instant.atOrBefore s.pw.holdEnd s.mt.frc = false) ∧
    (∃ (s : State),
      s.mayDormant = true ∧ s.softwareRuns = true) ∧
    (∃ (s : State),
      s.mayDormant = false) :=
  ⟨⟨wUnpowered (State.reset), by decide +kernel⟩,
  ⟨{ wUnpowered (State.reset) with pw := { (wUnpowered (State.reset)).pw with inserted := false } }, by decide +kernel⟩,
  ⟨.a, wPowered (State.reset), by decide +kernel⟩,
  ⟨wUnpowered (State.reset), by decide +kernel⟩,
  ⟨{ (State.reset) with pw := { (State.reset).pw with inReset := some 8, inserted := true, insFrc := (State.reset).mt.frc - 50000000#64 } }, by decide +kernel⟩,
  ⟨{ (State.reset) with pw := { (State.reset).pw with inReset := some 7 } }, by decide +kernel⟩,
  ⟨31, wHold (State.reset) 31 0, by decide +kernel⟩,
  ⟨0, wHold (State.reset) 0 1, by decide +kernel⟩,
  ⟨8, wHold (State.reset) 8 2, by decide +kernel⟩,
  ⟨{ (State.reset) with pw := { (State.reset).pw with calderaHold := false } }, by decide +kernel⟩,
  ⟨wMayDormant (wRun (wPowered (State.reset)) true), by decide +kernel⟩,
  ⟨(wMayDormant (State.reset)).setFlag Fld.BN_STATUS_AUTH true, by decide +kernel⟩⟩

theorem test_hyps_SupplyAndHoldUp :
    (∃ (s : State),
      s.flag Fld.RST_POWER_FEED_A = true ∧ s.flag Fld.RST_POWER_FEED_B = true) ∧
    (∃ (s : State),
      s.flag Fld.RST_POWER_FEED_A = false ∧ s.flag Fld.RST_POWER_FEED_B = true ∧ s.pw.h0 = none) ∧
    (∃ (s : State),
      s.flag Fld.RST_POWER_FEED_A = true ∧ s.flag Fld.RST_POWER_FEED_B = false ∧ s.pw.h0 = none) ∧
    (∃ (s : State),
      s.flag Fld.RST_POWER_FEED_A = false) ∧
    (∃ (v : Nat) (s : State),
      s.flag Fld.RST_POWER_FEED_B = true ∧ s.flag Fld.RST_POWER_FEED_A = false) ∧
    (∃ (v : Nat) (s : State),
      s.flag Fld.RST_POWER_FEED_B = true) ∧
    (∃ (v : Nat) (f : Feed) (s : State),
      s.powered = false) ∧
    (∃ (s : State),
      s.sinceH0 50000 = true ∧ s.flag Fld.RST_POWER_FEED_A = false ∧ s.flag Fld.RST_POWER_FEED_B = false ∧
      s.flag Fld.RST_POWER_HOLDUP = false ∧ s.role = 1 ∧ s.partnerReady = false) ∧
    (∃ (s : State),
      s.sinceH0 50000 = true ∧ s.flag Fld.RST_POWER_FEED_A = false ∧ s.flag Fld.RST_POWER_FEED_B = false ∧
      s.flag Fld.RST_POWER_HOLDUP = false ∧ s.role = 1 ∧ s.partnerReady = true) ∧
    (∃ (s : State),
      s.sinceH0 50000 = false ∨ s.flag Fld.RST_POWER_FEED_A = true) ∧
    (∃ (u : Nat) (v : W64) (s : State),
      s.sinceH0 18000000 = true ∧ s.pw.retained = [(u, v)] ∧ s.keyOk = true ∧ s.sn.queue = [] ∧ s.la.unsaved = []) ∧
    (∃ (s : State),
      s.sinceH0 18000000 = false) ∧
    (∃ (u : Nat) (v : W64) (s : State),
      s.pw.retained = [(u, v)] ∧ s.keyOk = true ∧ s.la.unsaved = []) ∧
    (∃ (s : State),
      s.keyOk = false) ∧
    (∃ (s : State),
      s.flag Fld.RST_POWER_HOLDUP = true ∧ 10000000 ≤ (s.mt.frc - s.pw.feedFrc).toNat ∧
      s.flag Fld.RST_POWER_FEED_B = true ∧ s.role = 1 ∧ s.pw.released = false) ∧
    (∃ (s : State),
      s.flag Fld.RST_POWER_HOLDUP = true ∧ 10000000 ≤ (s.mt.frc - s.pw.feedFrc).toNat ∧
      s.flag Fld.RST_POWER_FEED_A = true ∧ s.pw.released = true ∧ s.pw.inReset = none) ∧
    (∃ (s : State),
      s.flag Fld.RST_POWER_HOLDUP = true ∧ 10000000 ≤ (s.mt.frc - s.pw.feedFrc).toNat ∧
      s.flag Fld.RST_POWER_FEED_A = true ∧ s.role = 0 ∧ s.phase < 8 ∧ s.pw.released = false) ∧
    (∃ (s : State),
      s.flag Fld.RST_POWER_HOLDUP = false ∨ (s.mt.frc - s.pw.feedFrc).toNat < 10000000) ∧
    (∃ (p : Nat) (s : State),
      s.fld Fld.RST_POWER_CHARGE < 90 ∧ 90 ≤ p ∧ s.pw.capBad = false) ∧
    (∃ (p : Nat) (s : State),
      90 ≤ s.fld Fld.RST_POWER_CHARGE ∧ p < 90) ∧
    (∃ (n : Nat) (s : State),
      150 < n ∧ s.pw.capBad = false) ∧
    (∃ (n : Nat) (s : State),
      n ≤ 150) ∧
    (∃ (p : Nat) (s : State),
      s.pw.capBad = true ∧ 90 ≤ s.fld Fld.RST_POWER_CHARGE ∧ 90 ≤ p) ∧
    (∃ (n : Int) (s : State),
      95 < n ∧ n ≤ 115) ∧
    (∃ (n : Int) (s : State),
      n ≤ 95) ∧
    (∃ (n : Int) (u : W64) (s : State),
      115 < n ∧ s.pw.hotFrc = some u ∧ 1000000000 ≤ (s.mt.frc - u).toNat ∧ s.bn.failed = false ∧
      s.bn.claimOut = false) ∧
    (∃ (n : Int) (s : State),
      115 < n ∧ s.pw.hotFrc = none) :=
  ⟨⟨wPowered (State.reset), by decide +kernel⟩,
  ⟨(wPowered (State.reset)).setFlag Fld.RST_POWER_FEED_A false, by decide +kernel⟩,
  ⟨(wPowered (State.reset)).setFlag Fld.RST_POWER_FEED_B false, by decide +kernel⟩,
  ⟨(State.reset).setFlag Fld.RST_POWER_FEED_A false, by decide +kernel⟩,
  ⟨60000, (wPowered (State.reset)).setFlag Fld.RST_POWER_FEED_A false, by decide +kernel⟩,
  ⟨24000, wPowered (State.reset), by decide +kernel⟩,
  ⟨24000, .a, wUnpowered (State.reset), by decide +kernel⟩,
  ⟨((wHeld (State.reset)).setFld Fld.BN_STATUS_ROLE 1).setFlag Fld.BN_STATUS_PARTNER_READY false, by decide +kernel⟩,
  ⟨((wPosA (wHeld (State.reset))).setFld Fld.BN_STATUS_ROLE 1).setFlag Fld.BN_STATUS_PARTNER_READY true, by decide +kernel⟩,
  ⟨(State.reset).setFlag Fld.RST_POWER_FEED_A true, by decide +kernel⟩,
  ⟨31457280, 9#64, wRetain (wHeld { (State.reset) with mt := { (State.reset).mt with frc := 18000000 } }) [(31457280, 9#64)], by decide +kernel⟩,
  ⟨{ (State.reset) with pw := { (State.reset).pw with h0 := none } }, by decide +kernel⟩,
  ⟨31457280, 9#64, wRetain (State.reset) [(31457280, 9#64)], by decide +kernel⟩,
  ⟨(State.reset).setFlag Fld.PK_STATUS_WRITABLE false, by decide +kernel⟩,
  ⟨(((wHeld (State.reset)).setFld Fld.BN_STATUS_ROLE 1).setFlag Fld.RST_POWER_HOLDUP true).setFlag Fld.RST_POWER_FEED_B true, by decide +kernel⟩,
  ⟨{ ((wHeld (State.reset)).setFlag Fld.RST_POWER_HOLDUP true).setFlag Fld.RST_POWER_FEED_A true with pw := { (wHeld (State.reset)).pw with released := true } }, by decide +kernel⟩,
  ⟨{ (((wHeld (State.reset)).setFld Fld.BN_STATUS_ROLE 0).setFld Fld.SUP_START_PHASE 6 |>.setFlag Fld.RST_POWER_HOLDUP true).setFlag Fld.RST_POWER_FEED_A true with pw := { (wHeld (State.reset)).pw with released := false } }, by decide +kernel⟩,
  ⟨(State.reset).setFlag Fld.RST_POWER_HOLDUP false, by decide +kernel⟩,
  ⟨90, { (State.reset).setFld Fld.RST_POWER_CHARGE 89 with pw := { (State.reset).pw with capBad := false } }, by decide +kernel⟩,
  ⟨89, (State.reset).setFld Fld.RST_POWER_CHARGE 90, by decide +kernel⟩,
  ⟨151, { (State.reset) with pw := { (State.reset).pw with capBad := false } }, by decide +kernel⟩,
  ⟨150, (State.reset), by decide +kernel⟩,
  ⟨90, { (State.reset).setFld Fld.RST_POWER_CHARGE 90 with pw := { (State.reset).pw with capBad := true } }, by decide +kernel⟩,
  ⟨96, (State.reset), by decide +kernel⟩,
  ⟨95, (State.reset), by decide +kernel⟩,
  ⟨116, (State.reset).mt.frc - 1000000000#64, { (State.reset) with bn := { (State.reset).bn with failed := false, claimOut := false }, pw := { (State.reset).pw with hotFrc := some ((State.reset).mt.frc - 1000000000#64) } }, by decide +kernel⟩,
  ⟨116, { (State.reset) with pw := { (State.reset).pw with hotFrc := none } }, by decide +kernel⟩⟩

theorem test_hyps_ContactsAndEvents :
    (∃ (s : State),
      s.pw.removeClosed = true ∧ s.role = 1 ∧ s.partnerReady = true) ∧
    (∃ (s : State),
      s.pw.removeClosed = true ∧ s.role = 1 ∧ s.pair = true ∧ s.partnerReady = false ∧
      s.flag Fld.BN_STATUS_REMOVE_REFUSED = false ∧ s.takesRecord 5) ∧
    (∃ (s : State),
      s.pw.removeClosed = true ∧ s.role = 2) ∧
    (∃ (s : State),
      s.pw.removeClosed = false) ∧
    (∃ (s : State),
      s.pw.removeClosed = false ∧ s.pw.removedRelease = true ∧ s.powered = true ∧ s.pw.inReset = none) ∧
    (∃ (s : State),
      s.pw.removeClosed = false ∧ s.pw.removedRelease = false ∧ s.pair = true ∧ s.role = 0 ∧ s.phase = 8) ∧
    (∃ (s : State),
      s.pw.removeClosed = true) ∧
    (∃ (s : State),
      s.pw.inserted = true ∧ s.pw.removeClosed = false ∧ s.pw.calderaClaim = true) ∧
    (∃ (s : State),
      s.pw.inserted = true ∧ s.pw.removeClosed = true ∧ s.role = 2) ∧
    (∃ (s : State),
      s.pw.inserted = false) ∧
    (∃ (s : State),
      s.pw.inserted = false ∧ s.pw.h0 = none) ∧
    (∃ (s : State),
      s.pw.inserted = true) ∧
    (∃ (n : Fin 128) (s : State),
      n.val ∈ s.levels) ∧
    (∃ (n : Fin 128) (s : State),
      n.val ∉ s.levels) ∧
    (∃ (n : Fin 128) (i : Fin 4) (s : State),
      (n.val < 16 ∨ 48 ≤ n.val) ∧ bitAt (s.reg .RST_EV_ROUTE (n.val / 16)) (16 + n.val % 16) = true ∧
      bitAt (s.reg .RST_EV_ROUTE (n.val / 16)) (n.val % 16) = false ∧
      (s.lkMode i.val = 1 ∨ s.lkMode i.val = 2 ∨ s.lkMode i.val = 4 ∨ s.lkMode i.val = 5 ∨ s.lkMode i.val = 6) ∧
      (∀ j ∈ [1, 2, 3], (s.pairOf j).close = false) ∧ (s.pairOf i.val).held = []) ∧
    (∃ (n : Fin 128) (i : Fin 4) (s : State),
      (n.val < 16 ∨ 48 ≤ n.val) ∧
      (bitAt (s.reg .RST_EV_ROUTE (n.val / 16)) (16 + n.val % 16) = false ∨ bitAt (s.reg .RST_EV_ROUTE (n.val / 16)) (n.val % 16) = true)) ∧
    (∃ (n : Fin 128) (i : Fin 4) (s : State),
      24 ≤ n.val ∧ n.val < 32 ∧ s.mbState (n.val - 16) = 1 ∧
      (s.lkMode i.val = 1 ∨ s.lkMode i.val = 2 ∨ s.lkMode i.val = 4 ∨ s.lkMode i.val = 5 ∨ s.lkMode i.val = 6) ∧
      (∀ j ∈ [1, 2, 3], (s.pairOf j).close = false) ∧ (s.pairOf i.val).held = []) ∧
    (∃ (n : Fin 128) (i : Fin 4) (v : Byte) (k : Nat) (s : State),
      (n.val < 16 ∨ 48 ≤ n.val) ∧ bitAt (s.reg .RST_EV_ROUTE (n.val / 16)) (16 + n.val % 16) = true ∧
      bitAt (s.reg .RST_EV_ROUTE (n.val / 16)) (n.val % 16) = false ∧ s.lkMode i.val = 2 ∧
      (∀ j ∈ [1, 2, 3], (s.pairOf j).close = false) ∧ k < 0xC0000 ∧
      (s.pairOf i.val).held = [{ addr := 0x1D40000 + k, data := [v], cls := .rt }]) ∧
    (∃ (n : Fin 128) (i : Fin 4) (s : State),
      s.lkMode i.val = 0 ∨ s.lkMode i.val = 3 ∨ 7 ≤ s.lkMode i.val) :=
  ⟨⟨wRemove ((wPosA (State.reset)).setFlag Fld.BN_STATUS_PARTNER_READY true) 1, by decide +kernel⟩,
  ⟨wRoom (wRemove ((wPosA (State.reset)).setFlag Fld.BN_STATUS_PARTNER_READY false) 1), by unfold State.takesRecord; decide +kernel⟩,
  ⟨wRemove (State.reset) 2, by decide +kernel⟩,
  ⟨{ (State.reset) with pw := { (State.reset).pw with removeClosed := false } }, by decide +kernel⟩,
  ⟨{ wPowered (State.reset) with pw := { (wPowered (State.reset)).pw with removeClosed := false, removedRelease := true } }, by decide +kernel⟩,
  ⟨{ (wStandby (State.reset) 0).setFld Fld.SUP_START_PHASE 8 with pw := { (State.reset).pw with removeClosed := false, removedRelease := false } }, by decide +kernel⟩,
  ⟨{ (State.reset) with pw := { (State.reset).pw with removeClosed := true } }, by decide +kernel⟩,
  ⟨{ (State.reset) with pw := { (State.reset).pw with inserted := true, removeClosed := false, calderaClaim := true } }, by decide +kernel⟩,
  ⟨{ wRemove (State.reset) 2 with pw := { (wRemove (State.reset) 2).pw with inserted := true } }, by decide +kernel⟩,
  ⟨{ (State.reset) with pw := { (State.reset).pw with inserted := false } }, by decide +kernel⟩,
  ⟨{ (State.reset) with pw := { (State.reset).pw with inserted := false, h0 := none } }, by decide +kernel⟩,
  ⟨{ (State.reset) with pw := { (State.reset).pw with inserted := true } }, by decide +kernel⟩,
  ⟨123, { (State.reset) with levels := [0, 123] }, by decide +kernel⟩,
  ⟨1, { (State.reset) with levels := [] }, by decide +kernel⟩,
  ⟨127, 3, ((State.reset).setReg .RST_EV_ROUTE 7 0x80000000).setLkMode 3 2, by decide +kernel⟩,
  ⟨48, 0, (State.reset).setReg .RST_EV_ROUTE 3 0x00010001, by decide +kernel⟩,
  ⟨24, 1, ((State.reset).setFld Fld.MB_STAT_STATE 1 8).setLkMode 1 1, by decide +kernel⟩,
  ⟨127, 2, 7, 786431, (wLk (State.reset) 2 2 { held := [{ addr := 0x1DFFFFF, data := [7], cls := .rt }] }).setReg .RST_EV_ROUTE 7 0x80000000, by decide +kernel⟩,
  ⟨0, 0, (State.reset).setLkMode 0 3, by decide +kernel⟩⟩

theorem test_hyps_SessionRoles :
    (∃ (m : Handshake) (k : Nat) (s : State),
      s.serving = true ∧ s.iazebin = false ∧ s.reaches m.basePort m.port = true ∧ s.freeSess = some k ∧
      m.suiteOk = true ∧ m.anchorOk = true ∧ m.recovery = !s.accepted) ∧
    (∃ (h : SvcMsg) (n : Nat) (m : List Byte) (f : Fin 16) (g : Fin 16) (s : State),
      (s.sess h.sess.val).open_ = true ∧ s.serving = true ∧ (s.sess h.sess.val).role < 1) ∧
    (∃ (h : SvcMsg) (k : BitVec 8) (w : Instant) (b : Bool) (s : State),
      (s.sess h.sess.val).open_ = true ∧ s.serving = true ∧ (s.sess h.sess.val).role < 2) ∧
    (∃ (h : SvcMsg) (m : BitVec 512) (us : List W64) (b : Bool) (s : State),
      (s.sess h.sess.val).open_ = true ∧ s.serving = true ∧ (s.sess h.sess.val).role < 2) ∧
    (∃ (h : SvcMsg) (l : Nat) (p : Nat) (a : Bool) (b : Bool) (c : Bool) (v : Word) (n : Fin 32) (m : List Byte) (s : State),
      (s.sess h.sess.val).open_ = true ∧ s.serving = true ∧ (s.sess h.sess.val).role < 2) ∧
    (∃ (h : SvcMsg) (x : BitVec 768) (y : BitVec 384) (n : Nat) (s : State),
      (s.sess h.sess.val).open_ = true ∧ s.serving = true ∧ (s.sess h.sess.val).role < 3) :=
  ⟨⟨{ suiteOk := true, anchorOk := true, role := 2, basePort := true, recovery := true }, 0, wSvc (State.reset) false, by decide +kernel⟩,
  ⟨{ sess := 0 }, 24, [], (1 : Fin 16), (1 : Fin 16), wLowRole (State.reset) 0, by decide +kernel⟩,
  ⟨{ sess := 1 }, 1#8, 0#64, true, wLowRole (State.reset) 1, by decide +kernel⟩,
  ⟨{ sess := 2 }, 0, [], true, wLowRole (State.reset) 1, by decide +kernel⟩,
  ⟨{ sess := 3 }, 0, 0, true, true, true, 5#32, (1 : Fin 32), [], wLowRole (State.reset) 1, by decide +kernel⟩,
  ⟨{ sess := 3 }, 0, 0, 0, wLowRole (State.reset) 2, by decide +kernel⟩⟩

theorem test_hyps_UsableInputs :
    (∃ (f : Nat) (a : Bool) (s : State),
      f < 262144) ∧
    (∃ (f : Nat) (a : Bool) (s : State),
      f / 262144 = 3) :=
  ⟨⟨262143, true, (State.reset), by decide +kernel⟩,
  ⟨786432, true, (State.reset), by decide +kernel⟩⟩
end Sys2Proof.Tests
end

section
/-! PROOF. Bit fields, bit by bit; point records and references (UsableInputs, O59). -/

namespace Sys2Proof

/-- Two words agree in a field exactly where they agree in each of its bits. -/
theorem bits_eq_iff {n : Nat} (x y : BitVec n) {hi lo : Nat} (h : lo ≤ hi) :
    bits x hi lo = bits y hi lo ↔ ∀ i, lo ≤ i → i ≤ hi → x.getLsbD i = y.getLsbD i := by
  rw [bits_eq_extract, bits_eq_extract, ← BitVec.toNat_eq]
  constructor
  · intro e i hl hi'
    have := congrArg (·.getLsbD (i - lo)) e
    simpa [BitVec.getLsbD_extractLsb', show i - lo < hi + 1 - lo by omega, Nat.add_sub_cancel' hl] using this
  · intro e
    refine BitVec.eq_of_getLsbD_eq fun i hi' => ?_
    simp [hi', e (lo + i) (by omega) (by omega)]

/-- A one-bit field is its bit. -/
theorem bits_one_ne_zero {n : Nat} (x : BitVec n) (i : Nat) : (bits x i i != 0) = x.getLsbD i := by
  rw [bits, BitVec.getLsbD, Nat.testBit_eq_decide_div_mod_eq, Nat.add_sub_cancel_left, Nat.pow_one]
  rcases Nat.mod_two_eq_zero_or_one (x.toNat / 2 ^ i) with h | h <;> simp [h]

theorem testBit_zero_b2n (b : Bool) : (b2n b).testBit 0 = b := by cases b <;> rfl

end Sys2Proof

namespace Sys2Proof.Machine

theorem kindMissing_iff (r : W64) (d : Nat) :
    kindMissing r d = true ↔ bits r 47 40 = 0 ∨ 7 ≤ bits r 47 40 ∨ bits r 47 40 ≠ d := by
  change _ ↔ recKind r = 0 ∨ 7 ≤ recKind r ∨ recKind r ≠ d
  simp [kindMissing, or_assoc]

/-- The quality byte does not count for the kind. -/
theorem kindMissing_putBits_quality (r : W64) (d q : Nat) : kindMissing (putBits r 39 32 q) d = kindMissing r d := by
  have hk : recKind (putBits r 39 32 q) = recKind r := bits_putBits_apart r 39 32 q 47 40 (by decide) (by decide)
  unfold kindMissing
  rw [hk]

theorem recUsable_iff (r : W64) (d : Nat) (a : Bool) :
    recUsable r d a = true ↔ bits r 47 40 = 1 ∧ d = 1 ∧
      (bitAt r 32 = true ∨ (a = true ∧ bitAt r 35 = true ∧ bitAt r 37 = false ∧ bitAt r 39 = false)) := by
  have hk : bits r 47 40 = 1 → (kindMissing r d = false ↔ d = 1) := fun h => by
    rw [← Bool.not_eq_true, kindMissing_iff, h]; omega
  simp only [recUsable, recKind, recBit, qGood, qSubst, qRange, qNoAuth, Bool.and_eq_true, Bool.or_eq_true,
    Bool.not_eq_true', beq_iff_eq, and_assoc]
  exact and_congr_right fun h => and_congr_left fun _ => hk h

/-- A reference of SRC 0b00 names a point of the process image. -/
theorem usable_of_image (f : Nat) (a : Bool) (s : State) (hf : f < 262144) :
    s.usable f a =
      if recUsable (s.piGet f) (s.pointCfg f).kind a then some (Fl.ofBits (recVal (s.piGet f))) else none := by
  have hd : f / 262144 = 0 := Nat.div_eq_of_lt hf
  simp only [State.usable, State.refGet, State.refKind, hd, Nat.mod_eq_of_lt hf, if_true]

/-- A reference of SRC 0b11 names no record. -/
theorem usable_of_src3 (f : Nat) (a : Bool) (s : State) (hf : f / 262144 = 3) : s.usable f a = none := by
  simp [State.usable, State.refGet, hf]

/-- Settles O59: each clause is what one definition says, R14's for the kind and R127's for the input. -/
theorem usableInputs : Obligations.UsableInputs :=
  ⟨kindMissing_iff, kindMissing_putBits_quality, recUsable_iff, usable_of_image, usable_of_src3⟩

end Sys2Proof.Machine
end

section
/-! PROOF. Register writes (RegisterWrites, O8): the word that each kind of write leaves, bit by bit, and its frame. -/

namespace Sys2Proof.Machine

/-! ## The register file -/

theorem instKept_setReg (s : State) (n : RegName) (i : Nat) (w : Word) : InstKept n i s (s.setReg n i w) :=
  fun j hj => by simp [reg_setReg, hj]

theorem InstKept.trans {n : RegName} {i : Nat} {s t u : State} (h : InstKept n i s t) (g : InstKept n i t u) :
    InstKept n i s u := fun j hj => (g j hj).trans (h j hj)

/-- A command that writes one register completes; nothing but the register file is touched, and of it nothing but that name. -/
theorem Completes.setReg {c : Instr} {s : State} {n : RegName} {i : Nat} {w : Word} {Q : State → Prop}
    (e : exec c s = .next (s.setReg n i w)) (q : Q (s.setReg n i w)) : Completes c s [.regs] [n] Q :=
  Completes.next e (tg_setReg s n i w) rfl (by simp [rmask, rb]) q

/-! ## Plain writes (R6, R7) -/

/-- What a plain write leaves: written ones clear the W1C bits, the RW bits take the written bit, every other bit stays. -/
theorem getLsbD_plainWrite (s : State) (n : RegName) (i : Nat) (v : Word) (b : Nat) :
    ((s.plainWrite n i v).reg n i).getLsbD b =
      if n.w1cMask.getLsbD b && v.getLsbD b then false
      else if n.rwMask.getLsbD b then v.getLsbD b else (s.reg n i).getLsbD b := by
  simp only [State.plainWrite, reg_setReg_same]
  by_cases hb : b < 32
  · simp only [BitVec.getLsbD_and, BitVec.getLsbD_or, BitVec.getLsbD_not, hb]
    cases n.w1cMask.getLsbD b <;> cases n.rwMask.getLsbD b <;> cases v.getLsbD b <;> simp
  · simp [BitVec.getLsbD_of_ge _ b (Nat.le_of_not_lt hb)]

theorem plainWrite_eq_setReg (s : State) (n : RegName) (i : Nat) (v : Word) :
    s.plainWrite n i v = s.setReg n i ((s.plainWrite n i v).reg n i) := by
  simp only [State.plainWrite, reg_setReg_same]

/-- The registers whose write does more than set and clear bits. -/
def ownRow : List RegName :=
  [.RST_CTL, .RST_WDOG, .RST_EV_ROUTE, .AC_CTL, .AC_SLOT, .MB_DOOR, .MB_ACK, .LK_CMD, .MT_CTL, .LE_CMD, .GY_CMD, .MT_TB_CFG,
    .BN_CMD, .CN_CTL, .CN_OBJCMD, .SN_CURSOR_LO, .SN_CURSOR_HI, .BN_HO_AT_LO, .BN_HO_AT_HI]

theorem regWrite_plain (s : State) (w : Nat) (n : RegName) (i : Nat) (v : Word) (hw : ¬ (w = 0 ∧ supOnly n = true))
    (hn : n ∉ ownRow) : s.regWrite w n i v = .next (s.plainWrite n i v) := by
  unfold State.regWrite
  rw [if_neg hw]
  split
  case h_20 => rfl
  all_goals exact absurd (by decide) hn

/-- A write of the application to a register of the supervisor is ignored (R367). -/
theorem regWrite_supOnly (s : State) (n : RegName) (i : Nat) (v : Word) (hn : supOnly n = true) :
    s.regWrite 0 n i v = .next s := if_pos ⟨rfl, hn⟩

theorem guardReg_wf {r : Reg} (h : r.wf = true) (x : Res) : guardReg r x = x := if_pos h

theorem guardReg_not_wf {r : Reg} (h : r.wf = false) (x : Res) : guardReg r x = .fault (.noSuchRegister r.name r.idx) :=
  if_neg (by simp [h])

/-- REGISTER_WRITE of any register but LK_CMD is the write of that register. -/
theorem exec_registerWrite_wf (w : Writer) (r : Reg) (v : Word) (s : State) (h : r.wf = true) (hn : r.name ≠ .LK_CMD) :
    exec (.registerWrite w r v) s = s.regWrite (wIdx w) r.name r.idx v := by
  rw [exec_registerWrite, execRegisterWrite, if_neg hn, guardReg_wf h]

theorem wIdx_eq_zero {w : Writer} (h : wIdx w = 0) : w = .app := by
  cases w with
  | app => rfl
  | sup => cases h

theorem exec_registerWrite_plain (w : Writer) (r : Reg) (v : Word) (s : State) (h : r.wf = true)
    (hw : w = .app → supOnly r.name = false) (hn : r.name ∉ ownRow) :
    exec (.registerWrite w r v) s = .next (s.plainWrite r.name r.idx v) := by
  rw [exec_registerWrite_wf w r v s h fun e => hn (by rw [e]; decide)]
  refine regWrite_plain s _ _ _ _ ?_ hn
  rintro ⟨h0, hs⟩
  simp [hw (wIdx_eq_zero h0)] at hs

theorem exec_registerWrite_supOnly (r : Reg) (v : Word) (s : State) (h : r.wf = true) (hn : supOnly r.name = true) :
    exec (.registerWrite .app r v) s = .next s := by
  have hl : r.name ≠ .LK_CMD := fun e => by rw [e] at hn; revert hn; decide
  rw [exec_registerWrite_wf .app r v s h hl]
  exact regWrite_supOnly s _ _ _ hn

/-! ## Write-one-to-clear (R7) -/

/-- The word that W1C_WRITE leaves. -/
def w1cWord (n : RegName) (old v setNow : Word) : Word := (old &&& ~~~ (v &&& n.w1cMask)) ||| (setNow &&& n.w1cMask)

theorem getLsbD_w1cWord (n : RegName) (old v setNow : Word) (b : Nat) :
    (w1cWord n old v setNow).getLsbD b =
      if n.w1cMask.getLsbD b then setNow.getLsbD b || (!v.getLsbD b && old.getLsbD b) else old.getLsbD b := by
  by_cases hb : b < 32
  · simp only [w1cWord, BitVec.getLsbD_and, BitVec.getLsbD_or, BitVec.getLsbD_not, hb]
    cases n.w1cMask.getLsbD b <;> simp [Bool.or_comm, Bool.and_comm]
  · simp [BitVec.getLsbD_of_ge _ b (Nat.le_of_not_lt hb)]

theorem exec_w1cWrite_wf (r : Reg) (v setNow : Word) (s : State) (h : r.wf = true) :
    exec (.w1cWrite r v setNow) s =
      .next (s.setReg r.name r.idx (w1cWord r.name (s.reg r.name r.idx) v setNow)) := guardReg_wf h _

/-! ## Registers that no table names -/

theorem exec_not_wf (w : Writer) (r : Reg) (v u : Word) (s : State) (h : r.wf = false) :
    exec (.registerWrite w r v) s = .fault (.noSuchRegister r.name r.idx) ∧
    exec (.w1cWrite r v u) s = .fault (.noSuchRegister r.name r.idx) ∧
    exec (.rcRead r u) s = .fault (.noSuchRegister r.name r.idx) := by
  refine ⟨?_, guardReg_not_wf h _, guardReg_not_wf h _⟩
  rw [exec_registerWrite, execRegisterWrite, guardReg_not_wf h, afterSplits]
  split <;> rfl

/-! ## MT_TB_CFG (R83, R90) -/

theorem tbCfg_wf (n : Fin 8) : Reg.wf ⟨.MT_TB_CFG, n⟩ = true := by
  simp [Reg.wf, RegName.first, RegName.count]

theorem exec_registerWrite_tbCfg (w : Writer) (n : Fin 8) (v : Word) (s : State) :
    exec (.registerWrite w ⟨.MT_TB_CFG, n⟩ v) s = .next (s.tbWrite n v) := by
  have hl : RegName.MT_TB_CFG ≠ .LK_CMD := by decide
  have hs : supOnly .MT_TB_CFG ≠ true := by decide
  rw [exec_registerWrite_wf w _ v s (tbCfg_wf n) hl]
  exact if_neg fun h => hs h.2

/-- EN, DOMAIN and SOURCE are the RW bits, STEPPED the W1C bit. -/
theorem tbCfg_masks : RegName.rwMask .MT_TB_CFG = fieldMask 32 31 22 ∧ RegName.w1cMask .MT_TB_CFG = fieldMask 32 3 3 := by
  decide

/-- A bit of MT_TB_CFG after a plain write. -/
theorem getLsbD_plainWrite_tbCfg (s : State) (n : Nat) (v : Word) (b : Nat) (hb : b < 32) :
    ((s.plainWrite .MT_TB_CFG n v).reg .MT_TB_CFG n).getLsbD b =
      if 22 ≤ b then v.getLsbD b
      else if b = 3 then (s.reg .MT_TB_CFG n).getLsbD b && !v.getLsbD b else (s.reg .MT_TB_CFG n).getLsbD b := by
  obtain ⟨hr, hc⟩ := tbCfg_masks
  rw [getLsbD_plainWrite, hr, hc, getLsbD_fieldMask _ _ _ _ (by decide), getLsbD_fieldMask _ _ _ _ (by decide)]
  rw [decide_eq_true hb, Bool.true_and, Bool.true_and]
  by_cases h22 : 22 ≤ b
  · rw [decide_eq_false (show ¬ b ≤ 3 by omega), decide_eq_true h22, decide_eq_true (show b ≤ 31 by omega), Bool.and_false,
      Bool.false_and, if_neg Bool.false_ne_true, Bool.true_and, if_pos rfl, if_pos h22]
  · rw [decide_eq_false h22, Bool.false_and, if_neg Bool.false_ne_true, if_neg h22]
    by_cases h3 : b = 3
    · subst h3
      cases v.getLsbD 3 <;> simp only [decide_true, if_true, if_false, Bool.false_eq_true, Bool.not_true,
        Bool.not_false, Bool.and_true, Bool.and_false, Nat.le_refl]
    · have hne : (decide (3 ≤ b) && decide (b ≤ 3)) = false := by
        rw [← Bool.decide_and]
        exact decide_eq_false (by omega)
      rw [hne, Bool.false_and, if_neg Bool.false_ne_true, if_neg h3]

/-- EN, DOMAIN and SOURCE take the written bits. -/
theorem bits_plainWrite_tbCfg (s : State) (n : Nat) (v : Word) :
    bits ((s.plainWrite .MT_TB_CFG n v).reg .MT_TB_CFG n) 31 22 = bits v 31 22 :=
  (bits_eq_iff _ _ (by decide)).2 fun b hl hh => by
    rw [getLsbD_plainWrite_tbCfg s n v b (by omega), if_pos hl]

theorem flag_stepped (s : State) (n : Nat) : s.flag Fld.MT_TB_CFG_STEPPED n = (s.reg .MT_TB_CFG n).getLsbD 3 :=
  bits_one_ne_zero _ _

/-- STEPPED is cleared by a written one. -/
theorem flag_plainWrite_stepped (s : State) (n : Nat) (v : Word) :
    (s.plainWrite .MT_TB_CFG n v).flag Fld.MT_TB_CFG_STEPPED n = (s.flag Fld.MT_TB_CFG_STEPPED n && !bitAt v 3) := by
  rw [flag_stepped, flag_stepped, getLsbD_plainWrite_tbCfg s n v 3 (by decide)]
  rfl

/-- Where EN, DOMAIN and SOURCE are as they were, the write clears STEPPED or does nothing. -/
theorem tbWrite_of_eq (s : State) (n : Nat) (v : Word) (h : bits (s.reg .MT_TB_CFG n) 31 22 = bits v 31 22) :
    s.tbWrite n v =
      s.setFlag Fld.MT_TB_CFG_STEPPED (s.flag Fld.MT_TB_CFG_STEPPED n && !bitAt v 3) n := by
  have hp : s.tbWrite n v = s.plainWrite .MT_TB_CFG n v := if_pos ((bits_plainWrite_tbCfg s n v).trans h.symm)
  rw [hp, plainWrite_eq_setReg]
  refine congrArg (s.setReg .MT_TB_CFG n) (BitVec.eq_of_getLsbD_eq fun b hb => ?_)
  rw [getLsbD_plainWrite_tbCfg s n v b hb, Fld.MT_TB_CFG_STEPPED_reg, getLsbD_putBits _ _ _ _ _ (by decide), flag_stepped]
  change _ = if b < 32 ∧ 3 ≤ b ∧ b ≤ 3 then _ else _
  by_cases h3 : b = 3
  · subst h3
    exact (testBit_zero_b2n _).symm
  · rw [if_neg (by omega : ¬ (b < 32 ∧ 3 ≤ b ∧ b ≤ 3)), if_neg h3]
    split
    · exact ((bits_eq_iff _ _ (by decide)).1 h b (by omega) (by omega)).symm
    · rfl

/-- Where one of them changes, the base hears nothing any more. -/
theorem tbWrite_regs_of_ne (s : State) (n : Nat) (v : Word) (h : bits (s.reg .MT_TB_CFG n) 31 22 ≠ bits v 31 22) :
    (s.tbWrite n v).regs = ((s.plainWrite .MT_TB_CFG n v).baseLost n).regs := by
  unfold State.tbWrite
  dsimp only
  rw [bits_plainWrite_tbCfg, if_neg fun e => h e.symm]
  split <;> rfl

theorem fld_baseLost (s : State) (n : Nat) (g : Field) (hs : Fld.MT_TB_CFG_SYNCED.apart g = true)
    (hp : Fld.MT_TB_CFG_PORT.apart g = true) : (s.baseLost n).fld g n = s.fld g n := by
  rw [State.baseLost, fld_setFld_apart _ _ _ _ _ _ (by decide) (.inl hp),
    fld_setFlag_apart _ _ _ _ _ _ (by decide) (.inl hs)]

theorem flag_baseLost_synced (s : State) (n : Nat) : (s.baseLost n).flag Fld.MT_TB_CFG_SYNCED n = false := by
  rw [State.baseLost, flag_setFld_apart _ _ _ _ _ _ (by decide) (.inl (by decide)), flag_setFlag_same _ _ _ _ (by decide)]

theorem fld_baseLost_port (s : State) (n : Nat) : (s.baseLost n).fld Fld.MT_TB_CFG_PORT n = 0 := by
  rw [State.baseLost, fld_setFld_same _ _ _ _ (by decide), Nat.zero_mod]

theorem instKept_baseLost (s : State) (n : Nat) : InstKept .MT_TB_CFG n s (s.baseLost n) :=
  (instKept_setReg s .MT_TB_CFG n _).trans (instKept_setReg _ .MT_TB_CFG n _)

theorem fr_tbWrite_own (s : State) (n : Nat) (v : Word) : Fr 0x4020 (rb .MT_TB_CFG) s (s.tbWrite n v) := by
  unfold State.tbWrite State.baseLost State.plainWrite
  simp

/-- A base given another enable, domain or source: what it heard is gone. -/
theorem completes_tbCfg_of_ne (w : Writer) (n : Fin 8) (v : Word) (s : State)
    (h : bits (s.reg .MT_TB_CFG n) 31 22 ≠ bits v 31 22) :
    Completes (.registerWrite w ⟨.MT_TB_CFG, n⟩ v) s [.regs, .mt] [.MT_TB_CFG] fun t =>
      InstKept .MT_TB_CFG n s t ∧ bits (t.reg .MT_TB_CFG n) 31 22 = bits v 31 22 ∧
      t.flag Fld.MT_TB_CFG_SYNCED n = false ∧ t.fld Fld.MT_TB_CFG_PORT n = 0 ∧
      t.flag Fld.MT_TB_CFG_STEPPED n = (s.flag Fld.MT_TB_CFG_STEPPED n && !bitAt v 3) := by
  have hr := tbWrite_regs_of_ne s n v h
  refine Completes.next (exec_registerWrite_tbCfg w n v s) (fr_tbWrite_own s n v) rfl rfl ⟨?_, ?_, ?_, ?_, ?_⟩
  · exact fun j hj => (reg_congr hr _ _).trans
      (((instKept_setReg s .MT_TB_CFG n _).trans (instKept_baseLost _ n)) j hj)
  · rw [reg_congr hr, ← bits_plainWrite_tbCfg s n v]
    exact fld_baseLost _ n ⟨.MT_TB_CFG, 31, 22⟩ rfl rfl
  · rw [flag_congr hr, flag_baseLost_synced]
  · rw [fld_congr hr, fld_baseLost_port]
  · rw [flag_congr hr, ← flag_plainWrite_stepped, State.flag, fld_baseLost _ _ _ rfl rfl, State.flag]

/-- Settles O8: a plain write and a write-one-to-clear are one word written to one register; MT_TB_CFG also forgets what it
heard where EN, DOMAIN or SOURCE changes. -/
theorem registerWrites : Obligations.RegisterWrites := by
  refine ⟨fun w r v s hr hw hn => ?_, exec_registerWrite_supOnly, fun r v u s hr => ?_, exec_not_wf,
    completes_tbCfg_of_ne, fun w n v s h => ?_⟩
  · exact Completes.setReg (exec_registerWrite_plain w r v s hr hw hn)
      ⟨instKept_setReg _ _ _ _, getLsbD_plainWrite s r.name r.idx v⟩
  · refine Completes.setReg (exec_w1cWrite_wf r v u s hr) ⟨instKept_setReg _ _ _ _, fun b => ?_⟩
    rw [reg_setReg_same, getLsbD_w1cWord]
  · rw [exec_registerWrite_tbCfg, tbWrite_of_eq s n v h]

end Sys2Proof.Machine
end

section
/-! PROOF. Register reads (RegisterReads, O9): the read of LE_LOAD counts lane time too. -/

namespace Sys2Proof.Machine

@[simp] theorem clearRc_le (s : State) (n : RegName) (i : Nat) (u : Word) : (s.clearRc n i u).le = s.le := by
  unfold State.clearRc
  split
  · rfl
  · split <;> rfl

@[simp] theorem loadSeen_mark (s : State) : s.loadSeen.le.mark = s.pt := rfl

/-- RC_READ of LE_LOAD moves the mark from which lane time is counted to the present (R147). -/
theorem rcRead_leLoad_mark (i : Nat) (u : Word) (s t : State) (h : Reg.wf ⟨.LE_LOAD, i⟩ = true)
    (e : exec (.rcRead ⟨.LE_LOAD, i⟩ u) s = .next t) : t.le.mark = s.pt := by
  rw [exec_rcRead, execRcRead, guardReg_wf h] at e
  injection e with e
  rw [← e, State.regAfter, clearRc_le, loadSeen_mark]
  rfl

/-- Refutes O9: one idle step after reset, PT has moved on from the mark of lane time, and RC_READ of LE_LOAD[0] moves the mark
with it, while the first clause says that of the state only LASTREAD and the registers change. -/
theorem not_registerReads : ¬ Obligations.RegisterReads := by
  intro h
  obtain ⟨hRc, -⟩ := h
  obtain ⟨t, e, -, hKept, -⟩ := hRc ⟨.LE_LOAD, 0⟩ 0 State.reset.tick (by decide) (by decide) (by decide) (by decide)
  have hMark : t.le.mark = State.reset.tick.pt := rcRead_leLoad_mark 0 0 _ t (by decide) e
  have hSame : t.le = State.reset.tick.le := hKept .le (by decide)
  rw [hSame] at hMark
  exact absurd hMark (by decide)

end Sys2Proof.Machine
end

section
/-! PROOF. Service orders (ServiceOrders, O16): a force of a point that is declared but lies outside the process image. -/

namespace Sys2Proof.Machine

theorem pi_of_fr {P W : Nat} {s t : State} (h : Fr P W s t) (hP : P &&& 0x40000000 = 0) : t.pi = s.pi := h.1 .pi hP

/-- A tracked word outside the process image leaves it as it is. -/
theorem twPut_pi_of_ge (s : State) (w : Nat) (v : W64) (hw : 262144 ≤ w) : (s.twPut w v).pi = s.pi := by
  unfold State.twPut
  rw [if_neg (Nat.not_lt.2 hw)]
  split
  · rfl
  · exact pi_of_fr ((fr_bytesPut (P := 0x200000000) (W := 0) s s _ _ rfl rfl).2 (by simp)) rfl

@[simp] theorem markDirty_pi (s : State) (w : Nat) : (s.markDirty w).pi = s.pi := by
  unfold State.markDirty; dsimp only; split <;> rfl

@[simp] theorem made_pi (s : State) (p : Nat) (r : W64) : (s.made p r).pi = s.pi := by
  unfold State.made; split <;> rfl

theorem piPut_pi_of_ge (s : State) (p : Nat) (r : W64) (hp : 262144 ≤ p) : (s.piPut p r).pi = s.pi := by
  rw [State.piPut, State.twWrite, twPut_pi_of_ge _ _ _ hp, markDirty_pi]

theorem produce_pi_of_ge (s : State) (p : Nat) (r : W64) (hp : 262144 ≤ p) : (s.produce p r).pi = s.pi := by
  unfold State.produce
  dsimp only
  split <;> rw [piPut_pi_of_ge _ _ _ hp, made_pi]

@[simp] theorem answer_pi (s : State) (h : SvcMsg) (type code : Nat) (body : List Byte) :
    (s.answer h type code body).pi = s.pi :=
  pi_of_fr ((fr_answer (P := 0x800022) (W := 0x100000000000000000000000000) s s h type code body rfl rfl).2 (by simp)) rfl

@[simp] theorem heard_pi (s : State) (k : Nat) : (s.heard k).pi = s.pi := rfl

/-- A message leaves the process image as it is where its carrying out does. -/
theorem svc_pi (s : State) (h : SvcMsg) (type least sub : Nat) (len : Option Nat) (f : State → State)
    (hf : ∀ u, (f u).pi = u.pi) : (s.svc h type least sub len f).pi = s.pi := by
  unfold State.svc
  split
  · rfl
  · split
    · rw [answer_pi, heard_pi]
    · rw [hf, heard_pi]

/-- FORCE_POINT of a number past the process image leaves the image as it is. -/
theorem forcePoint_pi_of_ge (h : SvcMsg) (p : Nat) (v : Word) (s t : State) (hp : 262144 ≤ p)
    (e : exec (.forcePoint h p v) s = .next t) : t.pi = s.pi := by
  rw [exec_forcePoint, execForcePoint] at e
  injection e with e
  rw [← e]
  refine svc_pi s h _ _ _ _ _ fun u => ?_
  split
  · rw [answer_pi]
  · split
    · rw [answer_pi]
    · dsimp only
      rw [answer_pi, produce_pi_of_ge _ _ _ hp]

/-- The firmware runs, an engineer's session stands open at the base's contact, and the image declares one point, numbered just
past the process image. -/
def declaredPastImage : State :=
  { boot := { fwRunning := true }
    img := { points := [(262144, {})] }
    pn := { sess := [(0, { open_ := true, role := 2, basePort := true })] } }

/-- Refutes O16: its first clause takes every declared point number, and a number past the 262,144 points of the process image
names none: the image keeps its reset record there, whose VALUE is 0, and not the forced 1. -/
theorem not_serviceOrders : ¬ Obligations.ServiceOrders := by
  intro h
  obtain ⟨hForce, -⟩ := h
  obtain ⟨t, e, ⟨-, -, hVal, -⟩, -⟩ := hForce { sess := 0 } 262144 1 declaredPastImage (by decide) (by decide) (by decide)
    (by decide) (by decide)
  have hPi : t.pi = [] := forcePoint_pi_of_ge _ 262144 1 declaredPastImage t (by decide) e
  rw [State.piGet, hPi] at hVal
  exact absurd hVal (by decide)

end Sys2Proof.Machine
end

section
/-! PROOF. Views of FRC: what a view reads after a rebase, a step and a change of rate; the rebase of one view (ViewsOfTime, O20)
and the latching of all of them (LatchedViews, O21). -/

namespace Sys2Proof.Machine

/-! ## One view (R65, R66) -/

/-- At its own FRC_BASE a view reads its BASE, whatever its rate. -/
theorem View.at_frcBase (v : View) : v.at v.frcBase = v.base := by simp [View.at]

@[simp] theorem View.at_rebase (v : View) (f : W64) : (v.rebase f).at f = v.at f := View.at_frcBase (v.rebase f)

@[simp] theorem View.at_setRate (v : View) (f : W64) (r : Int) : (v.setRate f r).at f = v.at f :=
  View.at_frcBase (v.setRate f r)

@[simp] theorem View.at_step (v : View) (f t : W64) : (v.step f t).at f = t := View.at_frcBase (v.step f t)

theorem View.rebaseDue_of_le {v : View} {f : W64} (h : 4294967296 ≤ (f - v.frcBase).toNat) : v.rebaseDue f = v.rebase f :=
  if_pos h

theorem View.rebaseDue_of_lt {v : View} {f : W64} (h : (f - v.frcBase).toNat < 4294967296) : v.rebaseDue f = v :=
  if_neg (Nat.not_le.2 h)

/-- Due or not, a rebase does not move the view. -/
@[simp] theorem View.at_rebaseDue (v : View) (f : W64) : (v.rebaseDue f).at f = v.at f := by
  unfold View.rebaseDue
  split
  · exact v.at_rebase f
  · rfl

/-! ## VIEW_REBASE -/

/-- A time base whose view is put in place by one that reads the same leaves every time base reading the same. -/
theorem tbase_set_of_at_eq (s : State) (n k : Nat) (v : View) (h : v.at s.mt.frc = s.tbase n) :
    ({ s with mt := { s.mt with tb := Tab.set {} s.mt.tb n v } } : State).tbase k = s.tbase k := by
  simp only [State.tbase, Tab.get_set]
  split
  · next e => rw [h, e, State.tbase]
  · rfl

theorem viewRebase_pt_of_le (s : State) (h : 4294967296 ≤ (s.mt.frc - s.mt.pt.frcBase).toNat) :
    exec (.viewRebase .pt) s = .next { s with mt := { s.mt with pt := s.mt.pt.rebase s.mt.frc } } := by
  rw [exec_viewRebase, execViewRebase, View.rebaseDue_of_le h]

theorem viewRebase_bt_of_le (s : State) (h : 4294967296 ≤ (s.mt.frc - s.mt.bt.frcBase).toNat) :
    exec (.viewRebase .bt) s = .next { s with mt := { s.mt with bt := s.mt.bt.rebase s.mt.frc } } := by
  rw [exec_viewRebase, execViewRebase, View.rebaseDue_of_le h]

/-- A rebase of time base `n`, due or not, leaves every time base reading the same. -/
theorem viewRebase_tb_tbase (n : Fin 8) (s t : State) (e : exec (.viewRebase (.tb n)) s = .next t) (k : Nat) :
    t.tbase k = s.tbase k := by
  rw [exec_viewRebase, execViewRebase] at e
  injection e with e
  rw [← e]
  exact tbase_set_of_at_eq s n k _ (View.at_rebaseDue _ _)

/-- A rebase completes: of the state only plant time changes, and no register. -/
theorem Completes.viewRebase {v : ViewId} {s : State} {Q : State → Prop}
    (h : ∃ t, exec (.viewRebase v) s = .next t ∧ Q t) : Completes (.viewRebase v) s [.mt] [] Q :=
  Completes.of (P := 0x4000) (W := 0) (fr_execViewRebase v s) rfl rfl h

/-- Settles O20: a rebased view has d = 0 and reads its new BASE, which is what it read before; a view below 2^32 is put in
place as it is. -/
theorem viewsOfTime : Obligations.ViewsOfTime := by
  refine ⟨fun s h => ?_, fun s h => ?_, fun n v s hv h => ?_, fun n v s hv h => ?_, fun s => ⟨fun h => ?_, fun h => ?_⟩⟩
  · exact .viewRebase ⟨_, viewRebase_pt_of_le s h, rfl, s.mt.pt.at_rebase _, rfl, fun _ => rfl⟩
  · exact .viewRebase ⟨_, viewRebase_bt_of_le s h, rfl, rfl, s.mt.bt.at_rebase _, fun _ => rfl⟩
  · subst hv
    refine .viewRebase ⟨_, rfl, ?_, rfl, rfl, viewRebase_tb_tbase n s _ rfl⟩
    dsimp only
    rw [View.rebaseDue_of_le h]
    rfl
  · exact .viewRebase ⟨_, rfl, viewRebase_tb_tbase n s _ rfl⟩
  · rw [exec_viewRebase, execViewRebase, View.rebaseDue_of_lt h]
  · rw [exec_viewRebase, execViewRebase, View.rebaseDue_of_lt h]

/-! ## MT_LATCH (R69) -/

/-- What the step for `a` brings about and every step keeps holds after a fold over a list with `a`; `I` is what the steps may
rely on. -/
theorem foldl_of_mem {α β : Type} {g : β → α → β} {I P : β → Prop} {a : α} {l : List α} {b : β}
    (keepI : ∀ b x, I b → I (g b x)) (keep : ∀ b x, I b → P b → P (g b x)) (hit : ∀ b, I b → P (g b a))
    (hI : I b) (ha : a ∈ l) : P (l.foldl g b) := by
  have stays : ∀ (l : List α) (b : β), I b → P b → P (l.foldl g b) := by
    intro l
    induction l with
    | nil => exact fun _ _ h => h
    | cons x l ih => exact fun b hI h => ih _ (keepI b x hI) (keep b x hI h)
  induction l generalizing b with
  | nil => cases ha
  | cons x l ih =>
    rcases List.mem_cons.1 ha with rfl | ha
    · exact stays l _ (keepI b a hI) (hit b hI)
    · exact ih (keepI b x hI) ha

@[simp] theorem setPair_mt (s : State) (l h : RegName) (i : Nat) (v : W64) : (s.setPair l h i v).mt = s.mt := by
  rw [State.setPair, setReg_mt, setReg_mt]

theorem reg_setPair (s : State) (l h : RegName) (i : Nat) (v : W64) (m : RegName) (j : Nat) :
    (s.setPair l h i v).reg m j =
      if m = h ∧ j = i then hi32 v else if m = l ∧ j = i then lo32 v else s.reg m j := by
  rw [State.setPair, reg_setReg, reg_setReg]

/-- The latch pair of time base `n` holds the value `v`. -/
def State.tbLatched (s : State) (n : Nat) (v : W64) : Prop :=
  s.reg .MT_LATCH_TB_LO n = lo32 v ∧ s.reg .MT_LATCH_TB_HI n = hi32 v

theorem tbLatched_setPair (s : State) (i n : Nat) (v w : W64) (h : n = i ∧ v = w ∨ n ≠ i ∧ s.tbLatched n v) :
    (s.setPair .MT_LATCH_TB_LO .MT_LATCH_TB_HI i w).tbLatched n v := by
  rcases h with ⟨rfl, rfl⟩ | ⟨hn, hl⟩
  · simp [State.tbLatched, reg_setPair]
  · simpa [State.tbLatched, reg_setPair, hn] using hl

/-- FRC, PT and BT latched, and no time base yet. -/
def State.latchFirst (s : State) : State :=
  ((s.setPair .MT_LATCH_FRC_LO .MT_LATCH_FRC_HI 0 s.mt.frc).setPair .MT_LATCH_PT_LO .MT_LATCH_PT_HI 0 s.pt).setPair
    .MT_LATCH_BT_LO .MT_LATCH_BT_HI 0 s.bt

theorem latchFirst_mt (s : State) : s.latchFirst.mt = s.mt := by simp [State.latchFirst]

/-- Time base `n` latched. -/
def State.latchTb (s : State) (n : Nat) : State := s.setPair .MT_LATCH_TB_LO .MT_LATCH_TB_HI n (s.tbase n)

theorem latchViews_eq (s : State) : s.latchViews = (List.range 8).foldl State.latchTb s.latchFirst := rfl

/-- A latch moves no view: each time base is held as it stood at the start. -/
theorem tbLatched_latchViews (s : State) (n : Nat) (hn : n < 8) : s.latchViews.tbLatched n (s.tbase n) := by
  rw [latchViews_eq]
  refine foldl_of_mem (I := fun b : State => b.mt = s.mt) (P := fun b => b.tbLatched n (s.tbase n))
    (fun b x h => (setPair_mt ..).trans h) (fun b x h hl => tbLatched_setPair _ _ _ _ _ ?_)
    (fun b h => tbLatched_setPair _ _ _ _ _ (.inl ⟨rfl, ?_⟩)) (latchFirst_mt s) (List.mem_range.2 hn)
  · by_cases hx : n = x
    · exact .inl ⟨hx, by rw [hx, State.tbase, State.tbase, h]⟩
    · exact .inr ⟨hx, hl⟩
  · rw [State.tbase, State.tbase, h]

/-- The latching of the time bases leaves the pairs of FRC, PT and BT as they are. -/
theorem reg_latchViews (s : State) (n : RegName) (h : (rb .MT_LATCH_TB_LO ||| rb .MT_LATCH_TB_HI) &&& 2 ^ n.ctorIdx = 0) :
    s.latchViews.reg n = s.latchFirst.reg n := by
  have step : ∀ t k, Fr 0x20 (rb .MT_LATCH_TB_LO ||| rb .MT_LATCH_TB_HI) t (State.latchTb t k) := fun t k => by
    simp [State.latchTb]
  have all := (fr_foldl State.latchTb step s.latchFirst (List.range 8) s.latchFirst).2 ((Fr.rfl' ..).2 trivial)
  rw [latchViews_eq]
  exact all.2 n 0 h

/-- Settles O21: the pairs of FRC, PT and BT are written once, each time base's pair in its own turn. -/
theorem latchedViews : Obligations.LatchedViews := by
  intro s
  refine Completes.of (P := 0x20) (W := 0x7f8000000000000) (fr_execMtLatch s) rfl rfl ⟨_, rfl, ?_⟩
  refine ⟨?_, ?_, ?_, ?_, ?_, ?_, tbLatched_latchViews s⟩ <;>
    rw [reg_latchViews s _ (by decide)] <;> simp [State.latchFirst, reg_setPair]

end Sys2Proof.Machine
end

section
/-! PROOF. The rules of plant time's own operations: what MT_STATE, MT_ERR_EST, the views and the marks of the reference contacts
read after each (for TimeSourcesAndServo, O22). -/

namespace Sys2Proof.Machine

/-! ## What a frame keeps -/

theorem mt_of_fr {P W : Nat} {s t : State} (h : Fr P W s t) (hP : P &&& 0x4000 = 0) : t.mt = s.mt := h.1 .mt hP

theorem pt_of_mt {s t : State} (h : t.mt = s.mt) : t.pt = s.pt := by rw [State.pt, h, State.pt]

theorem bt_of_mt {s t : State} (h : t.mt = s.mt) : t.bt = s.bt := by rw [State.bt, h, State.bt]

theorem fld_of_fr {P W : Nat} {s t : State} (h : Fr P W s t) (f : Field) (i : Nat) (hW : W &&& rb f.reg = 0) :
    t.fld f i = s.fld f i := congrArg (bits · f.hi f.lo) (h.2 f.reg i hW)

theorem flag_of_fr {P W : Nat} {s t : State} (h : Fr P W s t) (f : Field) (i : Nat) (hW : W &&& rb f.reg = 0) :
    t.flag f i = s.flag f i := congrArg (· != 0) (fld_of_fr h f i hW)

theorem flag_of_fld {s t : State} {f : Field} {i : Nat} (h : t.fld f i = s.fld f i) : t.flag f i = s.flag f i :=
  congrArg (· != 0) h

/-- The partner's PT serves or not as before where base, links, heartbeat and its measured offset stay. -/
theorem partnerTime_of_fr {P W : Nat} {s t : State} (h : Fr P W s t) (hb : P &&& 0x800 = 0) (hm : P &&& 0x4000 = 0)
    (hn : P &&& 0x80000 = 0) (hW : W &&& rb .BN_STATUS = 0) : t.partnerTime = s.partnerTime := by
  have base : t.base = s.base := h.1 .base hb
  have bn : t.bn = s.bn := h.1 .bn hn
  simp only [State.partnerTime, State.pair, base, bn, mt_of_fr h hm, flag_of_fr h Fld.BN_STATUS_LINK0_UP 0 hW,
    flag_of_fr h Fld.BN_STATUS_LINK1_UP 0 hW]

/-! ## Records and sources -/

/-- A time anchor is the one record raised. -/
theorem records_anchor {s u : State} (h : u.sn = s.sn) (r : Nat) : Records [0x0001] s (u.anchor r) := by
  simp [Records, State.anchor, h]

/-! ## STATE, SOURCE and COORD_DEGRADED of MT_STATE (R70, R71, R77) -/

theorem setTimeState_of_ne {s : State} {n : Nat} (h : s.fld Fld.MT_STATE_STATE ≠ n) :
    s.setTimeState n = ((s.setFld Fld.MT_STATE_STATE n).ev 92).anchor 4 := if_neg h

theorem setTimeSource_of_ne {s : State} {o : Nat} (h : s.fld Fld.MT_STATE_SOURCE ≠ o) :
    s.setTimeSource o = (s.setFld Fld.MT_STATE_SOURCE o).anchor 7 := if_neg h

theorem setCoord_of_ne {s : State} {b : Bool} (h : s.flag Fld.MT_STATE_COORD_DEGRADED ≠ b) :
    s.setCoord b = ((s.setFlag Fld.MT_STATE_COORD_DEGRADED b).ev 93).anchor 5 := if_neg h

theorem setCoord_of_eq {s : State} {b : Bool} (h : s.flag Fld.MT_STATE_COORD_DEGRADED = b) : s.setCoord b = s := if_pos h

@[simp] theorem setTimeState_mt (s : State) (n : Nat) : (s.setTimeState n).mt = s.mt := by
  unfold State.setTimeState; split <;> simp

@[simp] theorem setTimeSource_mt (s : State) (o : Nat) : (s.setTimeSource o).mt = s.mt := by
  unfold State.setTimeSource; split <;> simp

@[simp] theorem setCoord_mt (s : State) (b : Bool) : (s.setCoord b).mt = s.mt := by
  unfold State.setCoord; split <;> simp

theorem fld_setTimeState_same (s : State) (n : Nat) (h : n < 16) : (s.setTimeState n).fld Fld.MT_STATE_STATE = n := by
  by_cases e : s.fld Fld.MT_STATE_STATE = n
  · rw [State.setTimeState, if_pos e, e]
  · rw [setTimeState_of_ne e, fld_anchor, fld_ev, fld_setFld_same _ _ _ _ (by decide)]
    exact Nat.mod_eq_of_lt h

theorem fld_setTimeState_apart (s : State) (n : Nat) (g : Field) (i : Nat) (h : Fld.MT_STATE_STATE.apart g = true) :
    (s.setTimeState n).fld g i = s.fld g i := by
  unfold State.setTimeState
  split
  · rfl
  · rw [fld_anchor, fld_ev, fld_setFld_apart _ _ _ _ _ _ (by decide) (.inl h)]

theorem fld_setTimeSource_same (s : State) (o : Nat) (h : o < 16) : (s.setTimeSource o).fld Fld.MT_STATE_SOURCE = o := by
  by_cases e : s.fld Fld.MT_STATE_SOURCE = o
  · rw [State.setTimeSource, if_pos e, e]
  · rw [setTimeSource_of_ne e, fld_anchor, fld_setFld_same _ _ _ _ (by decide)]
    exact Nat.mod_eq_of_lt h

theorem fld_setTimeSource_apart (s : State) (o : Nat) (g : Field) (i : Nat) (h : Fld.MT_STATE_SOURCE.apart g = true) :
    (s.setTimeSource o).fld g i = s.fld g i := by
  unfold State.setTimeSource
  split
  · rfl
  · rw [fld_anchor, fld_setFld_apart _ _ _ _ _ _ (by decide) (.inl h)]

theorem flag_setCoord_same (s : State) (b : Bool) : (s.setCoord b).flag Fld.MT_STATE_COORD_DEGRADED = b := by
  by_cases e : s.flag Fld.MT_STATE_COORD_DEGRADED = b
  · rw [setCoord_of_eq e, e]
  · rw [setCoord_of_ne e, flag_anchor, flag_ev, flag_setFlag_same _ _ _ _ (by decide)]

theorem fld_setCoord_apart (s : State) (b : Bool) (g : Field) (i : Nat)
    (h : Fld.MT_STATE_COORD_DEGRADED.apart g = true) : (s.setCoord b).fld g i = s.fld g i := by
  unfold State.setCoord
  split
  · rfl
  · rw [fld_anchor, fld_ev, fld_setFlag_apart _ _ _ _ _ _ (by decide) (.inl h)]

/-! ## The rate of PT (R66, R89) -/

/-- From `s` to `t` PT and BT may run on at other rates, PT without moving; all else of plant time is as it was. -/
structure Reclocked (s t : State) : Prop where
  mt : t.mt = { s.mt with pt := t.mt.pt, bt := t.mt.bt }
  pt : t.pt = s.pt

theorem Reclocked.of_mt {s t : State} (h : t.mt = s.mt) : Reclocked s t where
  mt := by rw [h]
  pt := pt_of_mt h

theorem Reclocked.trans {s t u : State} (h : Reclocked s t) (g : Reclocked t u) : Reclocked s u where
  mt := by rw [g.mt, h.mt]
  pt := g.pt.trans h.pt

theorem Reclocked.frc {s t : State} (h : Reclocked s t) : t.mt.frc = s.mt.frc := by rw [h.mt]

theorem Reclocked.hold {s t : State} (h : Reclocked s t) : t.mt.hold = s.mt.hold := by rw [h.mt]

theorem reclocked_setPtRate (s : State) (r : Int) : Reclocked s (s.setPtRate r) where
  mt := rfl
  pt := View.at_setRate ..

@[simp] theorem setPtRate_regs (s : State) (r : Int) : (s.setPtRate r).regs = s.regs := rfl

@[simp] theorem fld_setPtRate (s : State) (r : Int) (g : Field) (i : Nat) : (s.setPtRate r).fld g i = s.fld g i :=
  fld_congr (setPtRate_regs s r) g i

/-! ## Holdover (R71, R476) -/

theorem holdOrder_le (s : State) : s.holdOrder ≤ 5 := by
  unfold State.holdOrder
  dsimp only
  split
  · omega
  · split <;> omega

/-- The order that HOLDOVER finds rests on the two references alone. -/
theorem holdOrder_congr {s t : State} (h10 : t.flag Fld.MT_STATE_F10M_VALID = s.flag Fld.MT_STATE_F10M_VALID)
    (hpps : t.flag Fld.MT_STATE_PPS_VALID = s.flag Fld.MT_STATE_PPS_VALID) (hr : t.mt.f10mRate = s.mt.f10mRate)
    (ho : t.mt.ppsOff = s.mt.ppsOff) : t.holdOrder = s.holdOrder := by
  simp only [State.holdOrder, h10, hpps, hr, ho]

/-- At entry to HOLDOVER each column of R476 stands at 0. -/
theorem holdFigure_zero (o : Nat) : holdFigure o 0 = 0 := by
  unfold holdFigure
  split <;> simp [holdColumn, between]

theorem errEst_of_entry {s : State} (h3 : s.fld Fld.MT_STATE_STATE = 3) (hf : s.mt.hold.frc = s.mt.frc)
    (he : s.mt.hold.e0 = 0) : s.errEst = 0 := by
  simp [State.errEst, h3, hf, he, holdFigure_zero, sat]

@[simp] theorem coordHold_mt (s : State) : s.coordHold.mt = s.mt := by
  unfold State.coordHold; split <;> simp

theorem fld_coordHold_apart (s : State) (g : Field) (i : Nat) (h : Fld.MT_STATE_COORD_DEGRADED.apart g = true) :
    s.coordHold.fld g i = s.fld g i := by
  unfold State.coordHold
  split
  · exact fld_setCoord_apart _ _ _ _ h
  · rfl

theorem reclocked_followHold (s : State) : Reclocked s s.followHold :=
  ((Reclocked.of_mt (setTimeSource_mt s s.holdOrder)).trans (reclocked_setPtRate _ _)).trans (.of_mt (coordHold_mt _))

theorem fld_followHold_apart (s : State) (g : Field) (i : Nat) (hs : Fld.MT_STATE_SOURCE.apart g = true)
    (hc : Fld.MT_STATE_COORD_DEGRADED.apart g = true) : s.followHold.fld g i = s.fld g i := by
  rw [State.followHold, fld_coordHold_apart _ _ _ hc, fld_setPtRate, fld_setTimeSource_apart _ _ _ _ hs]

theorem fld_followHold_source (s : State) : s.followHold.fld Fld.MT_STATE_SOURCE = s.holdOrder := by
  rw [State.followHold, fld_coordHold_apart _ _ _ (by decide), fld_setPtRate,
    fld_setTimeSource_same _ _ (Nat.lt_of_le_of_lt (holdOrder_le s) (by decide))]

/-- The estimate starts at 0: coordination is not degraded at entry to HOLDOVER from LOCKED. -/
theorem flag_coord_followHold_of_entry {s : State} (h3 : s.fld Fld.MT_STATE_STATE = 3) (hf : s.mt.hold.frc = s.mt.frc)
    (he : s.mt.hold.e0 = 0) : s.followHold.flag Fld.MT_STATE_COORD_DEGRADED = false := by
  have hr := (Reclocked.of_mt (setTimeSource_mt s s.holdOrder)).trans (reclocked_setPtRate _ s.holdRate)
  have h3' : ((s.setTimeSource s.holdOrder).setPtRate s.holdRate).fld Fld.MT_STATE_STATE = 3 := by
    rw [fld_setPtRate, fld_setTimeSource_apart _ _ _ _ (by decide), h3]
  rw [State.followHold, State.coordHold, if_pos h3', flag_setCoord_same,
    errEst_of_entry h3' (by rw [hr.hold, hr.frc, hf]) (by rw [hr.hold, he])]
  rfl

/-- HOLDOVER entered from LOCKED: its instant, an estimate of 0, and whether PT was LOCKED for 15 min. -/
def State.holdMarked (s : State) (long : Bool) : State :=
  { s with mt := { s.mt with hold := { frc := s.mt.frc, e0 := 0, long := long }, lockedAt := none } }

/-- HOLDOVER entered, before it follows the reference that it finds. -/
def State.heldFrom (s : State) (long : Bool) : State := ((s.holdMarked long).setErr 0).setTimeState 3

theorem enterHoldover_of_locked {s : State} (h : s.fld Fld.MT_STATE_STATE = 1) :
    ∃ long, s.enterHoldover = (s.heldFrom long).followHold := by
  unfold State.enterHoldover
  rw [h]
  exact ⟨_, rfl⟩

theorem heldFrom_mt (s : State) (long : Bool) : (s.heldFrom long).mt = (s.holdMarked long).mt := by
  rw [State.heldFrom, setTimeState_mt, State.setErr, setFld_mt]

theorem fld_heldFrom_state (s : State) (long : Bool) : (s.heldFrom long).fld Fld.MT_STATE_STATE = 3 :=
  fld_setTimeState_same _ _ (by decide)

theorem fld_heldFrom_apart (s : State) (long : Bool) (g : Field) (i : Nat) (hs : Fld.MT_STATE_STATE.apart g = true)
    (he : Fld.MT_ERR_EST_ERR_EST.apart g = true) : (s.heldFrom long).fld g i = s.fld g i := by
  rw [State.heldFrom, fld_setTimeState_apart _ _ _ _ hs, State.setErr,
    fld_setFld_apart _ _ _ _ _ _ (by decide) (.inl he)]
  rfl

theorem holdOrder_heldFrom (s : State) (long : Bool) : (s.heldFrom long).holdOrder = s.holdOrder :=
  holdOrder_congr (flag_of_fld (fld_heldFrom_apart _ _ _ _ (by decide) (by decide)))
    (flag_of_fld (fld_heldFrom_apart _ _ _ _ (by decide) (by decide))) (by rw [heldFrom_mt]; rfl) (by rw [heldFrom_mt]; rfl)

end Sys2Proof.Machine
end

section
/-! PROOF. A source lost (R71), Sync at the module and its relay (R74, R80 to R83): the time bases that hear or lose a source, and
the offset history of PT (for TimeSourcesAndServo, O22). -/

namespace Sys2Proof.Machine

/-! ## SOURCE_LOST -/

/-- PT's gPTP source has fallen away: its bases are not synchronized any more, nor are others that went stale. -/
def State.gptpCeased (s : State) : State := (s.sourceGone 1).dropStale

theorem fr_gptpCeased (s : State) : Fr 0x20 (rb .MT_TB_CFG) s s.gptpCeased := by
  simp [State.gptpCeased, State.sourceGone]

/-- In LOCKED on gPTP, the partner serves next where its PT can, else PT runs on in HOLDOVER. -/
theorem sourceLost_locked {s : State} (hst : s.fld Fld.MT_STATE_STATE = 1) (hsrc : s.fld Fld.MT_STATE_SOURCE = 1) :
    exec .sourceLost s =
      .next (if s.partnerTime then s.gptpCeased.setTimeSource 2 else s.gptpCeased.enterHoldover) := by
  have hs : s.gptpCeased.fld Fld.MT_STATE_STATE = 1 := (fld_of_fr (fr_gptpCeased s) _ 0 rfl).trans hst
  have hp : s.gptpCeased.partnerTime = s.partnerTime := partnerTime_of_fr (fr_gptpCeased s) rfl rfl rfl rfl
  rw [State.gptpCeased] at hs hp
  simp only [exec_sourceLost, execSourceLost, State.gptpCeased, hsrc, hs, hp]
  cases s.partnerTime <;> rfl

/-- HOLDOVER found when gPTP falls away in LOCKED. -/
theorem sourceLost_holdover {s : State} (hst : s.fld Fld.MT_STATE_STATE = 1) :
    s.gptpCeased.enterHoldover.fld Fld.MT_STATE_STATE = 3 ∧ s.gptpCeased.enterHoldover.mt.hold.frc = s.mt.frc ∧
    s.gptpCeased.enterHoldover.mt.hold.e0 = 0 ∧ s.gptpCeased.enterHoldover.fld Fld.MT_STATE_SOURCE = s.holdOrder ∧
    s.gptpCeased.enterHoldover.flag Fld.MT_STATE_COORD_DEGRADED = false ∧ s.gptpCeased.enterHoldover.pt = s.pt := by
  have hf := fr_gptpCeased s
  have hmt : s.gptpCeased.mt = s.mt := mt_of_fr hf rfl
  obtain ⟨long, h⟩ := enterHoldover_of_locked ((fld_of_fr hf Fld.MT_STATE_STATE 0 rfl).trans hst)
  have hr := reclocked_followHold (s.gptpCeased.heldFrom long)
  have hm : (s.gptpCeased.heldFrom long).mt = (s.holdMarked long).mt := by
    rw [heldFrom_mt, State.holdMarked, State.holdMarked, hmt]
  have ho : s.gptpCeased.holdOrder = s.holdOrder :=
    holdOrder_congr (flag_of_fr hf _ 0 rfl) (flag_of_fr hf _ 0 rfl) (by rw [hmt]) (by rw [hmt])
  rw [h]
  refine ⟨?_, ?_, ?_, ?_, ?_, ?_⟩
  · rw [fld_followHold_apart _ _ _ (by decide) (by decide), fld_heldFrom_state]
  · rw [hr.hold, hm]; rfl
  · rw [hr.hold, hm]; rfl
  · rw [fld_followHold_source, holdOrder_heldFrom, ho]
  · exact flag_coord_followHold_of_entry (fld_heldFrom_state _ _) (by rw [hm]; rfl) (by rw [hm]; rfl)
  · rw [hr.pt, State.pt, hm]; rfl

theorem fr_sourceLost_partner (s : State) : Fr 0x2020 0x20800000000000000 s (s.gptpCeased.setTimeSource 2) := by
  rw [fr_setTimeSource _ _ _ rfl rfl]
  exact (fr_gptpCeased s).mono rfl rfl

theorem partnerTime_sourceLost (s : State) : (s.gptpCeased.setTimeSource 2).partnerTime = s.partnerTime :=
  partnerTime_of_fr (fr_sourceLost_partner s) rfl rfl rfl rfl

/-- gPTP lost in LOCKED without the partner's time: HOLDOVER, from an estimate of 0. -/
theorem completes_sourceLost_holdover (s : State) (hst : s.fld Fld.MT_STATE_STATE = 1)
    (hsrc : s.fld Fld.MT_STATE_SOURCE = 1) (hp : s.partnerTime = false) :
    Completes .sourceLost s [.regs, .levels, .sn, .mt] [.MT_STATE, .MT_ERR_EST, .MT_TB_CFG] fun t =>
      t.fld Fld.MT_STATE_STATE = 3 ∧ t.mt.hold.frc = s.mt.frc ∧ t.mt.hold.e0 = 0 ∧
      t.fld Fld.MT_STATE_SOURCE = s.holdOrder ∧ t.flag Fld.MT_STATE_COORD_DEGRADED = false ∧ t.pt = s.pt := by
  refine .of (P := 0x6120) (W := 0x24800000000000000) (fr_execSourceLost s) rfl rfl
    ⟨_, sourceLost_locked hst hsrc, ?_⟩
  rw [if_neg (by simp [hp])]
  exact sourceLost_holdover hst

/-- gPTP lost in LOCKED: the partner's PT serves, and PT stays LOCKED. -/
theorem completes_sourceLost_partner (s : State) (hst : s.fld Fld.MT_STATE_STATE = 1)
    (hsrc : s.fld Fld.MT_STATE_SOURCE = 1) (hp : s.partnerTime = true) :
    Completes .sourceLost s [.regs, .mt, .sn] [.MT_STATE, .MT_TB_CFG] fun t =>
      t.partnerTime = true ∧ t.fld Fld.MT_STATE_STATE = 1 ∧ t.fld Fld.MT_STATE_SOURCE = 2 ∧ Records [0x0001] s t := by
  have hf := fr_gptpCeased s
  have hsrc' : s.gptpCeased.fld Fld.MT_STATE_SOURCE = 1 := (fld_of_fr hf _ 0 rfl).trans hsrc
  have hst' : s.gptpCeased.fld Fld.MT_STATE_STATE = 1 := (fld_of_fr hf _ 0 rfl).trans hst
  refine .next (t := s.gptpCeased.setTimeSource 2) ?_ (fr_sourceLost_partner s) rfl rfl
    ⟨(partnerTime_sourceLost s).trans hp, ?_, fld_setTimeSource_same _ _ (by decide), ?_⟩
  · rw [sourceLost_locked hst hsrc, if_pos hp]
  · rw [fld_setTimeSource_apart _ _ _ _ (by decide), hst']
  · rw [setTimeSource_of_ne (by rw [hsrc']; decide)]
    exact records_anchor (hf.1 .sn rfl) 7

/-! ## HOLDOVER_ERR_CROSS (R70, R476) -/

/-- The estimate past 1 µs in HOLDOVER degrades coordination. -/
theorem completes_holdoverErrCross (s : State) (hst : s.fld Fld.MT_STATE_STATE = 3)
    (hc : s.flag Fld.MT_STATE_COORD_DEGRADED = false) (he : 1000 < s.errEst) :
    Completes .holdoverErrCross s [.regs, .levels, .sn] [.MT_STATE] fun t =>
      t.flag Fld.MT_STATE_COORD_DEGRADED = true ∧ Raised 93 t ∧ Records [0x0001] s t := by
  refine .of (P := 0x2120) (W := 0x800000000000000) (fr_execHoldoverErrCross s) rfl rfl ⟨_, rfl, ?_⟩
  have hset : s.coordHold = ((s.setFlag Fld.MT_STATE_COORD_DEGRADED true).ev 93).anchor 5 := by
    rw [State.coordHold, if_pos hst, decide_eq_true he, setCoord_of_ne (by simp [hc])]
  rw [hset]
  refine ⟨?_, ?_, records_anchor (by rw [ev_sn, setFlag_sn]) 5⟩
  · rw [flag_anchor, flag_ev, flag_setFlag_same _ _ _ _ (by decide)]
  · rw [Raised, anchor_levels]
    exact mem_ev _ _ rfl

theorem holdoverErrCross_of_not (s : State)
    (h : s.fld Fld.MT_STATE_STATE ≠ 3 ∨ (s.errEst ≤ 1000 ∧ s.flag Fld.MT_STATE_COORD_DEGRADED = false)) :
    exec .holdoverErrCross s = .next s := by
  rw [exec_holdoverErrCross, execHoldoverErrCross, State.coordHold]
  split
  · next hst =>
    obtain ⟨he, hc⟩ := h.resolve_left (absurd hst)
    rw [setCoord_of_eq (by rw [hc, decide_eq_false (Nat.not_lt.2 he)])]
  · rfl

/-! ## Time bases that hear their source (R83) -/

/-- From `s` to `t` of plant time only the time bases may have changed. -/
def BasesOnly (s t : State) : Prop := t.mt = { s.mt with tb := t.mt.tb, tbRate := t.mt.tbRate, tbAt := t.mt.tbAt }

theorem BasesOnly.of_mt {s t : State} (h : t.mt = s.mt) : BasesOnly s t := by rw [BasesOnly, h]

theorem BasesOnly.trans {s t u : State} (h : BasesOnly s t) (g : BasesOnly t u) : BasesOnly s u := by
  rw [BasesOnly] at h g ⊢
  rw [g, h]

theorem BasesOnly.foldl {α : Type} {g : State → α → State} (h : ∀ s a, BasesOnly s (g s a)) (l : List α) (s : State) :
    BasesOnly s (l.foldl g s) := by
  induction l generalizing s with
  | nil => exact .of_mt rfl
  | cons a l ih => exact (h s a).trans (ih _)

theorem BasesOnly.pt {s t : State} (h : BasesOnly s t) : t.pt = s.pt := by
  rw [BasesOnly] at h
  rw [State.pt, State.pt, h]

theorem basesOnly_baseHears (s : State) (n : Nat) (src : W64) (rate : Int) (port : Nat) :
    BasesOnly s (s.baseHears n src rate port) := by
  unfold State.baseHears BasesOnly
  dsimp only
  rw [setFld_mt, setFlag_mt]
  split
  · rw [setFlag_mt]
  · rw [draw_mt]

theorem basesOnly_baseLost (s : State) (n : Nat) : BasesOnly s (s.baseLost n) := .of_mt rfl

theorem basesOnly_basesHear (s : State) (d : Nat) (src : W64) (rate : Int) (port : Nat) :
    BasesOnly s (s.basesHear d src rate port) :=
  .foldl (fun t n => by
    split
    · exact basesOnly_baseHears ..
    · exact .of_mt rfl) _ _

theorem fld_baseLost_apart (s : State) (n : Nat) (g : Field) (i : Nat) (hs : Fld.MT_TB_CFG_SYNCED.apart g = true)
    (hp : Fld.MT_TB_CFG_PORT.apart g = true) : (s.baseLost n).fld g i = s.fld g i := by
  rw [State.baseLost, fld_setFld_apart _ _ _ _ _ _ (by decide) (.inl hp),
    fld_setFlag_apart _ _ _ _ _ _ (by decide) (.inl hs)]

/-- What hearing and losing a source write of MT_TB_CFG: SYNCED, STEPPED and PORT. -/
def apartHeard (g : Field) : Bool :=
  Fld.MT_TB_CFG_SYNCED.apart g && Fld.MT_TB_CFG_STEPPED.apart g && Fld.MT_TB_CFG_PORT.apart g

theorem fld_baseHears_apart (s : State) (n : Nat) (src : W64) (rate : Int) (port : Nat) (g : Field) (i : Nat)
    (h : apartHeard g = true) : (s.baseHears n src rate port).fld g i = s.fld g i := by
  simp only [apartHeard, Bool.and_eq_true] at h
  obtain ⟨⟨hs, ht⟩, hp⟩ := h
  unfold State.baseHears
  dsimp only
  rw [fld_setFld_apart _ _ _ _ _ _ (by decide) (.inl hp), fld_setFlag_apart _ _ _ _ _ _ (by decide) (.inl hs)]
  split
  · rw [fld_setFlag_apart _ _ _ _ _ _ (by decide) (.inl ht), fld_mk]
  · rw [fld_draw, fld_mk]

theorem flag_baseHears_synced_same (s : State) (n : Nat) (src : W64) (rate : Int) (port : Nat) :
    (s.baseHears n src rate port).flag Fld.MT_TB_CFG_SYNCED n = true := by
  unfold State.baseHears
  dsimp only
  rw [flag_setFld_apart _ _ _ _ _ _ (by decide) (.inl (by decide)), flag_setFlag_same _ _ _ _ (by decide)]

theorem flag_baseHears_synced_ne (s : State) (n m : Nat) (src : W64) (rate : Int) (port : Nat) (h : m ≠ n) :
    (s.baseHears n src rate port).flag Fld.MT_TB_CFG_SYNCED m = s.flag Fld.MT_TB_CFG_SYNCED m := by
  unfold State.baseHears
  dsimp only
  rw [flag_setFld_apart _ _ _ _ _ _ (by decide) (.inr h), flag_setFlag_apart _ _ _ _ _ _ (by decide) (.inr h)]
  split
  · rw [flag_setFlag_apart _ _ _ _ _ _ (by decide) (.inr h), flag_mk]
  · rw [flag_draw, flag_mk]

/-- Hearing a source takes SYNCED from no base. -/
theorem flag_baseHears_synced_of (s : State) (n m : Nat) (src : W64) (rate : Int) (port : Nat)
    (h : s.flag Fld.MT_TB_CFG_SYNCED m = true) : (s.baseHears n src rate port).flag Fld.MT_TB_CFG_SYNCED m = true := by
  by_cases e : m = n
  · rw [e, flag_baseHears_synced_same]
  · rw [flag_baseHears_synced_ne _ _ _ _ _ _ e, h]

/-- Which domain a base follows, its configuration says. -/
theorem follows_congr {s t : State} (h : ∀ g i, apartHeard g = true → t.fld g i = s.fld g i) (n d : Nat) :
    t.follows n d = s.follows n d := by
  simp only [State.follows, State.flag, h Fld.MT_TB_CFG_EN n rfl, h Fld.MT_TB_CFG_SOURCE n rfl,
    h Fld.MT_TB_CFG_DOMAIN n rfl]

theorem follows_baseHears (s : State) (n : Nat) (src : W64) (rate : Int) (port m d : Nat) :
    (s.baseHears n src rate port).follows m d = s.follows m d :=
  follows_congr (fun _ _ hg => fld_baseHears_apart _ _ _ _ _ _ _ hg) m d

/-- Every base that follows the domain is synchronized by its Sync. -/
theorem flag_basesHear_synced (s : State) (n d : Nat) (src : W64) (rate : Int) (port : Nat) (hn : n < 8)
    (hf : s.follows n d = true) : (s.basesHear d src rate port).flag Fld.MT_TB_CFG_SYNCED n = true := by
  unfold State.basesHear
  refine foldl_of_mem (I := fun b : State => b.follows n d = true) (P := fun b => b.flag Fld.MT_TB_CFG_SYNCED n = true)
    (fun b x h => ?_) (fun b x _ h => ?_) (fun b h => ?_) hf (List.mem_range.2 hn)
  · split
    · rw [follows_baseHears, h]
    · exact h
  · split
    · exact flag_baseHears_synced_of _ _ _ _ _ _ h
    · exact h
  · rw [if_pos h, flag_baseHears_synced_same]

/-- A field is kept by a fold each of whose steps keeps it. -/
theorem fld_foldl {α : Type} {g : State → α → State} {f : Field} {i : Nat} (h : ∀ s a, (g s a).fld f i = s.fld f i)
    (l : List α) (s : State) : (l.foldl g s).fld f i = s.fld f i := by
  induction l generalizing s with
  | nil => rfl
  | cons a l ih => rw [List.foldl_cons, ih, h]

theorem fld_dropStale_apart (s : State) (g : Field) (i : Nat) (h : apartHeard g = true) :
    s.dropStale.fld g i = s.fld g i := by
  simp only [apartHeard, Bool.and_eq_true] at h
  obtain ⟨⟨hs, -⟩, hp⟩ := h
  refine fld_foldl (fun t n => ?_) _ _
  split
  · exact fld_baseLost_apart _ _ _ _ hs hp
  · rfl

theorem fld_basesHear_apart (s : State) (d : Nat) (src : W64) (rate : Int) (port : Nat) (g : Field) (i : Nat)
    (h : apartHeard g = true) : (s.basesHear d src rate port).fld g i = s.fld g i := by
  refine fld_foldl (fun t n => ?_) _ _
  split
  · exact fld_baseHears_apart _ _ _ _ _ _ _ h
  · rfl

/-! ## GPTP_SYNC_RECEIVED (R74, R80 to R82) -/

/-- Sync of domain `d` heard: stale bases fall away, the bases of the domain hear it. -/
def State.syncHeard (s : State) (d : Nat) (src : W64) (rate : Int) (port : Nat) : State :=
  s.dropStale.basesHear d src rate port

theorem fr_syncHeard (s : State) (d : Nat) (src : W64) (rate : Int) (port : Nat) :
    Fr 0x4030 (rb .MT_TB_CFG) s (s.syncHeard d src rate port) := by simp [State.syncHeard]

theorem basesOnly_syncHeard (s : State) (d : Nat) (src : W64) (rate : Int) (port : Nat) :
    BasesOnly s (s.syncHeard d src rate port) :=
  (BasesOnly.of_mt (mt_of_fr (P := 0x20) (W := rb .MT_TB_CFG) (by simp) rfl)).trans (basesOnly_basesHear ..)

theorem fld_syncHeard_apart (s : State) (d : Nat) (src : W64) (rate : Int) (port : Nat) (g : Field) (i : Nat)
    (h : apartHeard g = true) : (s.syncHeard d src rate port).fld g i = s.fld g i :=
  (fld_basesHear_apart _ _ _ _ _ _ _ h).trans (fld_dropStale_apart _ _ _ h)

theorem flag_syncHeard_synced (s : State) (n d : Nat) (src : W64) (rate : Int) (port : Nat) (hn : n < 8)
    (hf : s.follows n d = true) : (s.syncHeard d src rate port).flag Fld.MT_TB_CFG_SYNCED n = true :=
  flag_basesHear_synced _ _ _ _ _ _ hn <|
    (follows_congr (fun _ _ hg => fld_dropStale_apart _ _ _ hg) n d).trans hf

/-- The offset history one longer, and the source's rate learned. -/
def State.histPut (s : State) (e rate : Int) : State :=
  { s with mt := { s.mt with srcRate := rate, hist := { off := e, frc := s.mt.frc, lead := s.lead } :: s.mt.hist.take 3 } }

/-- Fewer than four offsets before it: an offset is kept and not acted on. -/
theorem syncOffset_of_short {s : State} (h : s.mt.hist.length < 4) (e rate : Int) : s.syncOffset e rate = s.histPut e rate := by
  unfold State.syncOffset
  dsimp only
  rw [List.length_map, if_pos (.inr h)]
  rfl

theorem relays_of_fr {P W : Nat} {s t : State} (h : Fr P W s t) (hW : W &&& rb .PN_PORT = 0) (p : Nat) :
    t.relays p = s.relays p := by
  simp only [State.relays, State.linkUp, flag_of_fr h Fld.PN_PORT_FWD _ hW, flag_of_fr h Fld.PN_PORT_LINK _ hW]

/-- Where the grandmaster stands at reception: originTimestamp, correction and link delay in grandmaster time (R74, R82). -/
def syncSource (secs ns : Nat) (c e k : Int) : W64 :=
  ptOfWire secs ns + BitVec.ofInt 64 (c / 65536 + e + e * k / 2199023255552)

/-- A Sync of PT's domain at its slave port, heard by its bases and kept in the short history of offsets. -/
def State.syncKept (s : State) (d p secs ns : Nat) (c e k : Int) : State :=
  (s.syncHeard d (syncSource secs ns c e k) (k / 2) p).histPut (s.pt - syncSource secs ns c e k).toInt (k / 2)

theorem fr_syncKept (s : State) (d p secs ns : Nat) (c e k : Int) :
    Fr 0x4030 (rb .MT_TB_CFG) s (s.syncKept d p secs ns c e k) := by
  simp [State.syncKept, State.histPut, State.syncHeard]

theorem syncKept_mt (s : State) (d p secs ns : Nat) (c e k : Int) :
    (s.syncKept d p secs ns c e k).mt.srcRate = k / 2 ∧
    (s.syncKept d p secs ns c e k).mt.hist =
      { off := (s.pt - syncSource secs ns c e k).toInt, frc := s.mt.frc, lead := s.lead } :: s.mt.hist.take 3 ∧
    (s.syncKept d p secs ns c e k).mt.logSync = s.mt.logSync ∧ (s.syncKept d p secs ns c e k).pt = s.pt := by
  have hb := basesOnly_syncHeard s d (syncSource secs ns c e k) (k / 2) p
  refine ⟨rfl, ?_, ?_, hb.pt⟩
  · rw [State.syncKept, State.histPut, State.lead, hb.pt, hb]
    rfl
  · rw [State.syncKept, State.histPut, hb]

/-- A Sync that PT follows, relayed to the other port: it is kept, and goes on with its correction. -/
theorem gptpSync_followed {d : Fin 128} {p : Fin 2} {secs ns res : Nat} {c r k e : Int} {s : State}
    (hup : s.linkUp (p.val + 1) = true) (htr : s.trackedDomain d.val = true) (hsl : s.slaveAt d.val (p.val + 1) = true)
    (hfo : s.follows (s.fld Fld.MT_PT_SRC_BASE) d.val = true) (hre : s.relays (p.val + 1) = true)
    (hlen : s.mt.hist.length < 4) (hk : k = cumRate r (Tab.get ({} : Pdelay) s.mt.pdelay (p.val + 1)).rate)
    (he : e = s.linkDelay (p.val + 1)) :
    exec (.gptpSyncReceived d p secs ns c r res) s =
      .next ((s.syncKept d.val (p.val + 1) secs ns c e k).emit (.sync d.val (otherPort (p.val + 1)) secs ns
        (syncCorr c res e k) k (s.img.twoStep.contains (otherPort (p.val + 1)))
        (Tab.get (-3) s.mt.logSync (otherPort (p.val + 1))))) := by
  have hf := fr_syncKept s d.val (p.val + 1) secs ns c e k
  have himg : (s.syncKept d.val (p.val + 1) secs ns c e k).img = s.img := hf.1 .img rfl
  obtain ⟨-, -, hlog, -⟩ := syncKept_mt s d.val (p.val + 1) secs ns c e k
  have hrelay := (relays_of_fr hf rfl (p.val + 1)).trans hre
  have hfollow : (s.syncHeard d.val (syncSource secs ns c e k) (k / 2) (p.val + 1)).follows
      ((s.syncHeard d.val (syncSource secs ns c e k) (k / 2) (p.val + 1)).fld Fld.MT_PT_SRC_BASE) d.val = true := by
    rw [fld_syncHeard_apart _ _ _ _ _ _ _ rfl, follows_congr fun _ _ hg => fld_syncHeard_apart _ _ _ _ _ _ _ hg, hfo]
  have hshort : (s.syncHeard d.val (syncSource secs ns c e k) (k / 2) (p.val + 1)).mt.hist.length < 4 := by
    rw [basesOnly_syncHeard s d.val (syncSource secs ns c e k) (k / 2) (p.val + 1)]
    exact hlen
  have hkept := syncOffset_of_short hshort (s.pt - syncSource secs ns c e k).toInt (k / 2)
  rw [← State.syncKept] at hkept
  rw [State.syncHeard, syncSource] at hfollow hkept
  simp only [exec_gptpSyncReceived, execGptpSyncReceived, hup, htr, hsl, ← hk, ← he, hfollow, hkept, hrelay, himg, hlog,
    Bool.not_true, Bool.false_eq_true, if_false, if_true]

theorem completes_gptpSync_untracked (d : Fin 128) (p : Fin 2) (secs ns : Nat) (c r : Int) (res : Nat) (s : State)
    (hup : s.linkUp (p.val + 1) = true) (htr : s.trackedDomain d.val = false) :
    Completes (.gptpSyncReceived d p secs ns c r res) s [.regs] [.PN_PTP] fun t =>
      t.fld Fld.PN_PTP_UNKNOWN_DOMAIN (p.val + 1) =
        satAdd Fld.PN_PTP_UNKNOWN_DOMAIN.top (s.fld Fld.PN_PTP_UNKNOWN_DOMAIN (p.val + 1)) 1 := by
  refine .next (t := s.bump Fld.PN_PTP_UNKNOWN_DOMAIN (p.val + 1)) ?_ (tg_setReg ..) rfl rfl
    (fld_bump_same _ _ _ _ (by decide))
  simp [exec_gptpSyncReceived, execGptpSyncReceived, hup, htr]

/-- PT's own Sync: offset and rate kept, its base synchronized, PT where it was, the Sync sent on. -/
theorem completes_gptpSync_followed (d : Fin 128) (p : Fin 2) (secs ns : Nat) (c r k e : Int) (res : Nat) (s : State)
    (hup : s.linkUp (p.val + 1) = true) (htr : s.trackedDomain d.val = true)
    (hsl : s.slaveAt d.val (p.val + 1) = true) (hfo : s.follows (s.fld Fld.MT_PT_SRC_BASE) d.val = true)
    (hre : s.relays (p.val + 1) = true) (hlen : s.mt.hist.length < 4)
    (hk : k = cumRate r (Tab.get ({} : Pdelay) s.mt.pdelay (p.val + 1)).rate) (he : e = s.linkDelay (p.val + 1)) :
    Completes (.gptpSyncReceived d p secs ns c r res) s [.out, .free, .regs, .levels, .sn, .mt] [.MT_STATE,
      .MT_OFFSET, .MT_ERR_EST, .MT_OUTLIERS, .MT_TB_CFG, .PN_PTP] fun t =>
      t.mt.srcRate = k / 2 ∧ t.mt.hist.length = s.mt.hist.length + 1 ∧
      t.mt.hist.head?.map (·.off) =
        some (s.pt - (ptOfWire secs ns + BitVec.ofInt 64 (c / 65536 + e + e * k / 2199023255552))).toInt ∧
      t.flag Fld.MT_TB_CFG_SYNCED (s.fld Fld.MT_PT_SRC_BASE) = true ∧ t.pt = s.pt ∧
      Sends [.sync d.val (otherPort (p.val + 1)) secs ns (syncCorr c res e k) k
        (s.img.twoStep.contains (otherPort (p.val + 1))) (Tab.get (-3) s.mt.logSync (otherPort (p.val + 1)))] s t := by
  obtain ⟨hrate, hhist, -, hpt⟩ := syncKept_mt s d.val (p.val + 1) secs ns c e k
  refine .of (P := 0x6132) (W := 0x20000000002e800000000000000) (fr_execGptpSyncReceived d p secs ns c r res s) rfl rfl
    ⟨_, gptpSync_followed hup htr hsl hfo hre hlen hk he, hrate, ?_, ?_, ?_, hpt, ?_⟩
  · rw [emit_mt, hhist, List.length_cons, List.length_take]
    omega
  · rw [emit_mt, hhist]
    rfl
  · rw [flag_emit]
    exact flag_syncHeard_synced _ _ _ _ _ _ (bits_lt _ 2 0) hfo
  · exact congrArg (· ++ _) ((fr_syncKept s d.val (p.val + 1) secs ns c e k).1 .out rfl)

end Sys2Proof.Machine
end

section
/-! PROOF. Peer delay and announce (R80), the reference contacts (R86, R87, R464) and re-epochs (R78);
TimeSourcesAndServo (O22). -/

namespace Sys2Proof.Machine

/-! ## Ports (R80) -/

/-- Where the image configures no ports, a domain's Sync is heard at the slave port that was found, at either before one is. -/
theorem slaveAt_of_free {s : State} {d : Nat} (h : s.img.extPorts.lookup d = none) (p : Nat) :
    s.slaveAt d p =
      ((Tab.get ({} : Bmca) s.mt.bmca d).slave == 0 || (Tab.get ({} : Bmca) s.mt.bmca d).slave == p) := by
  simp [State.slaveAt, h]

theorem slaveAt_of_configured {s : State} {d k : Nat} (h : s.img.extPorts.lookup d = some k) (p : Nat) :
    s.slaveAt d p = (k == p) := by
  simp [State.slaveAt, h]

/-- The slave port of domain `d` found at port `p`. -/
def State.slaveFound (s : State) (d p n : Nat) : State :=
  { s with mt := { s.mt with bmca := Tab.set {} s.mt.bmca d { slave := p, steps := n } } }

/-- A better master makes its port the domain's slave port, and the other one not. -/
theorem slaveAt_slaveFound {s : State} {d : Nat} (h : s.img.extPorts.lookup d = none) (p : Fin 2) (n : Nat) :
    (s.slaveFound d (p.val + 1) n).slaveAt d (p.val + 1) = true ∧
    (s.slaveFound d (p.val + 1) n).slaveAt d (otherPort (p.val + 1)) = false := by
  have hs : (Tab.get ({} : Bmca) (s.slaveFound d (p.val + 1) n).mt.bmca d).slave = p.val + 1 := by simp [State.slaveFound]
  have hother : p.val + 1 ≠ otherPort (p.val + 1) := by
    rw [otherPort]
    omega
  have h' : (s.slaveFound d (p.val + 1) n).img.extPorts.lookup d = none := h
  rw [slaveAt_of_free h', slaveAt_of_free h', hs]
  simpa using hother

theorem gptpAnnounce_better {d : Fin 128} {p : Fin 2} {n : Nat} {s : State} (hup : s.linkUp (p.val + 1) = true)
    (htr : s.trackedDomain d.val = true) (hext : s.img.extPorts.lookup d.val = none)
    (hre : s.relays (p.val + 1) = true) :
    exec (.gptpAnnounce d p true n) s =
      .next ((s.slaveFound d.val (p.val + 1) n).emit (.announce d.val (otherPort (p.val + 1)) (n + 1))) := by
  have hre' : (s.slaveFound d.val (p.val + 1) n).relays (p.val + 1) = true := hre
  rw [State.slaveFound] at hre'
  simp only [exec_gptpAnnounce, execGptpAnnounce, hup, htr, hext, hre', State.slaveFound, Bool.not_true, Bool.false_eq_true,
    Option.isSome_none, if_false, if_true]

theorem gptpAnnounce_configured (d : Fin 128) (p : Fin 2) (b : Bool) (n k : Nat) (s : State)
    (hup : s.linkUp (p.val + 1) = true) (htr : s.trackedDomain d.val = true)
    (hext : s.img.extPorts.lookup d.val = some k) (hk : k ≠ p.val + 1) : exec (.gptpAnnounce d p b n) s = .next s := by
  have hsl : s.slaveAt d.val (p.val + 1) = false := by rw [slaveAt_of_configured hext, beq_false_of_ne hk]
  simp only [exec_gptpAnnounce, execGptpAnnounce, hup, htr, hext, hsl, Bool.not_true, Bool.false_eq_true,
    Option.isSome_some, Bool.false_and, if_false, if_true]

theorem completes_gptpAnnounce_better (d : Fin 128) (p : Fin 2) (n : Nat) (s : State)
    (hup : s.linkUp (p.val + 1) = true) (htr : s.trackedDomain d.val = true)
    (hext : s.img.extPorts.lookup d.val = none) (hre : s.relays (p.val + 1) = true) :
    Completes (.gptpAnnounce d p true n) s [.mt, .out] [] fun t =>
      t.slaveAt d.val (p.val + 1) = true ∧ t.slaveAt d.val (otherPort (p.val + 1)) = false ∧
      Sends [.announce d.val (otherPort (p.val + 1)) (n + 1)] s t := by
  obtain ⟨hown, hother⟩ := slaveAt_slaveFound hext p n
  exact .next (gptpAnnounce_better hup htr hext hre) (P := 0x4002) (W := 0) (by simp [State.slaveFound]) rfl rfl
    ⟨hown, hother, rfl⟩

/-- A peer delay measurement put in place at port `p`. -/
def State.pdelayPut (s : State) (p : Nat) (x : Pdelay) : State :=
  { s with mt := { s.mt with pdelay := Tab.set {} s.mt.pdelay p x } }

theorem pdelayPut_get (s : State) (p : Nat) (x : Pdelay) : Tab.get ({} : Pdelay) (s.pdelayPut p x).mt.pdelay p = x :=
  Tab.get_set_same ..

theorem gptpPdelay_request {p : Fin 2} {s : State} (hup : s.linkUp (p.val + 1) = true) (q a b : Nat) :
    exec (.gptpPdelayMessage p (.request q a b)) s = .next (s.emit (.pdelayResp (p.val + 1) q a b)) := by
  simp [exec_gptpPdelayMessage, execGptpPdelayMessage, hup]

theorem completes_gptpPdelay_request (p : Fin 2) (q a b : Nat) (s : State) (hup : s.linkUp (p.val + 1) = true) :
    Completes (.gptpPdelayMessage p (.request q a b)) s [.out] [] fun t =>
      Sends [.pdelayResp (p.val + 1) q a b] s t :=
  .next (gptpPdelay_request hup q a b) (P := 0x2) (W := 0) (by simp) rfl rfl rfl

/-- What the response to the exchange under way measures. -/
def pdelayMeasured (x : Pdelay) (t1 t2 t3 t4 : Nat) : Pdelay :=
  { x with delay := ((t4 - t1) - (t3 - t2)) / 2, open_ := false, rate := nbrRate x t3 t4, last := some (t3, t4) }

theorem gptpPdelay_response {p : Fin 2} {q : Nat} {s : State} (hup : s.linkUp (p.val + 1) = true)
    (hopen : (Tab.get ({} : Pdelay) s.mt.pdelay (p.val + 1)).open_ = true)
    (hseq : (Tab.get ({} : Pdelay) s.mt.pdelay (p.val + 1)).seq = q) (t1 t2 t3 t4 : Nat) :
    exec (.gptpPdelayMessage p (.response q t1 t2 t3 t4)) s =
      .next ((s.pdelayPut (p.val + 1) (pdelayMeasured (Tab.get {} s.mt.pdelay (p.val + 1)) t1 t2 t3 t4)).setFlag
        Fld.PN_PORT_PDELAY_OK true (p.val + 1)) := by
  simp [exec_gptpPdelayMessage, execGptpPdelayMessage, hup, hopen, hseq, State.pdelayPut, pdelayMeasured]

theorem completes_gptpPdelay_response (p : Fin 2) (q t1 t2 t3 t4 : Nat) (s : State)
    (hup : s.linkUp (p.val + 1) = true) (hopen : (Tab.get ({} : Pdelay) s.mt.pdelay (p.val + 1)).open_ = true)
    (hseq : (Tab.get ({} : Pdelay) s.mt.pdelay (p.val + 1)).seq = q) :
    Completes (.gptpPdelayMessage p (.response q t1 t2 t3 t4)) s [.regs, .mt] [.PN_PORT] fun t =>
      (Tab.get ({} : Pdelay) t.mt.pdelay (p.val + 1)).delay = ((t4 - t1) - (t3 - t2)) / 2 ∧
      (Tab.get ({} : Pdelay) t.mt.pdelay (p.val + 1)).open_ = false ∧
      (Tab.get ({} : Pdelay) t.mt.pdelay (p.val + 1)).rate =
        nbrRate (Tab.get ({} : Pdelay) s.mt.pdelay (p.val + 1)) t3 t4 ∧
      t.flag Fld.PN_PORT_PDELAY_OK (p.val + 1) = true := by
  refine .next (gptpPdelay_response hup hopen hseq t1 t2 t3 t4) (P := 0x4020) (W := rb .PN_PORT)
    (by simp [State.pdelayPut]) rfl rfl ?_
  rw [setFlag_mt, pdelayPut_get]
  exact ⟨rfl, rfl, rfl, flag_setFlag_same _ _ _ _ (by decide)⟩

/-- The exchange that a request opens: the next sequence number. -/
def pdelayAsked (x : Pdelay) : Pdelay := { x with seq := (x.seq + 1) % 65536, open_ := true }

theorem pdelayRequestSend_up {p : Fin 2} {s : State} (hup : s.linkUp (p.val + 1) = true) :
    exec (.pdelayRequestSend p) s =
      .next ((s.pdelayPut (p.val + 1) (pdelayAsked (Tab.get {} s.mt.pdelay (p.val + 1)))).emit (.pdelayReq (p.val + 1)
        (((Tab.get ({} : Pdelay) s.mt.pdelay (p.val + 1)).seq + 1) % 65536) (Tab.get 0 s.mt.logPd (p.val + 1)))) := by
  simp [exec_pdelayRequestSend, execPdelayRequestSend, hup, State.pdelayPut, pdelayAsked]

theorem completes_pdelayRequestSend (p : Fin 2) (s : State) (hup : s.linkUp (p.val + 1) = true) :
    Completes (.pdelayRequestSend p) s [.mt, .out] [] fun t =>
      (Tab.get ({} : Pdelay) t.mt.pdelay (p.val + 1)).seq =
        ((Tab.get ({} : Pdelay) s.mt.pdelay (p.val + 1)).seq + 1) % 65536 ∧
      (Tab.get ({} : Pdelay) t.mt.pdelay (p.val + 1)).open_ = true ∧
      Sends [.pdelayReq (p.val + 1) (((Tab.get ({} : Pdelay) s.mt.pdelay (p.val + 1)).seq + 1) % 65536)
        (Tab.get 0 s.mt.logPd (p.val + 1))] s t := by
  refine .next (pdelayRequestSend_up hup) (P := 0x4002) (W := 0) (by simp [State.pdelayPut]) rfl rfl ?_
  rw [emit_mt, pdelayPut_get]
  exact ⟨rfl, rfl, rfl⟩

theorem completes_gptpSignaling_in_range (p : Fin 2) (a b : Int) (s : State) (h1 : -5 ≤ a) (h2 : a ≤ 0) (h3 : -3 ≤ b)
    (h4 : b ≤ 3) :
    Completes (.gptpSignaling p a b) s [.mt] [] fun t =>
      Tab.get (-3) t.mt.logSync (p.val + 1) = a ∧ Tab.get 0 t.mt.logPd (p.val + 1) = b := by
  refine .of (P := 0x4000) (W := 0) (fr_execGptpSignaling p a b s) rfl rfl ?_
  rw [exec_gptpSignaling, execGptpSignaling, if_pos ⟨h3, h4⟩, if_pos ⟨h1, h2⟩]
  exact ⟨_, rfl, Tab.get_set_same .., Tab.get_set_same ..⟩

theorem gptpSignaling_out_of_range (p : Fin 2) (a b : Int) (s : State) (ha : a < -5 ∨ 0 < a) (hb : b < -3 ∨ 3 < b) :
    exec (.gptpSignaling p a b) s = .next s := by
  rw [exec_gptpSignaling, execGptpSignaling, if_neg (by omega), if_neg (by omega)]

/-! ## Reference contacts (R86, R464) -/

/-- What is marked of the reference contacts: the last PPS edge and interval, and the two counts toward validity. -/
def refMarks (m : Mt) : Option W64 × Option Nat × Nat × Nat := (m.ppsEdge, m.ppsIval, m.ppsRun, m.f10mRun)

theorem refMarks_eq_iff {m n : Mt} : refMarks m = refMarks n ↔
    m.ppsEdge = n.ppsEdge ∧ m.ppsIval = n.ppsIval ∧ m.ppsRun = n.ppsRun ∧ m.f10mRun = n.f10mRun := by
  simp [refMarks]

theorem Reclocked.refMarks {s t : State} (h : Reclocked s t) : refMarks t.mt = refMarks s.mt := by
  rw [h.mt]
  rfl

theorem BasesOnly.refMarks {s t : State} (h : BasesOnly s t) : refMarks t.mt = refMarks s.mt := by
  rw [h]
  rfl

theorem reclocked_setRef (s : State) (f : Field) (b : Bool) : Reclocked s (s.setRef f b) := by
  have hev : ((s.setFlag f b).ev 94).mt = s.mt := by rw [ev_mt, setFlag_mt]
  unfold State.setRef
  split
  · exact .of_mt rfl
  · dsimp only
    split
    · exact (Reclocked.of_mt hev).trans (reclocked_followHold _)
    · exact .of_mt hev

/-- A validity flag set reads so; holdover that follows it writes SOURCE and COORD_DEGRADED alone. -/
theorem flag_setRef_same (s : State) (f : Field) (b : Bool) (hf : f.ok = true) (hs : Fld.MT_STATE_SOURCE.apart f = true)
    (hc : Fld.MT_STATE_COORD_DEGRADED.apart f = true) : (s.setRef f b).flag f = b := by
  have hev : ((s.setFlag f b).ev 94).flag f = b := by rw [flag_ev, flag_setFlag_same _ _ _ _ hf]
  unfold State.setRef
  split
  · assumption
  · dsimp only
    split
    · rw [flag_of_fld (fld_followHold_apart _ _ _ hs hc), hev]
    · exact hev

/-- A reference counted good `run` times in a row is valid from ten on. -/
def State.refCounted (s : State) (f : Field) (run : Nat) : State := if 10 ≤ run then s.setRef f true else s

theorem flag_refCounted_of_le {s : State} {f : Field} {run : Nat} (h : 10 ≤ run) (hf : f.ok = true)
    (hs : Fld.MT_STATE_SOURCE.apart f = true) (hc : Fld.MT_STATE_COORD_DEGRADED.apart f = true) :
    (s.refCounted f run).flag f = true := by
  rw [State.refCounted, if_pos h, flag_setRef_same _ _ _ hf hs hc]

theorem refCounted_of_lt {s : State} {f : Field} {run : Nat} (h : run < 10) : s.refCounted f run = s :=
  if_neg (Nat.not_le.2 h)

theorem reclocked_refCounted (s : State) (f : Field) (run : Nat) : Reclocked s (s.refCounted f run) := by
  unfold State.refCounted
  split
  · exact reclocked_setRef ..
  · exact .of_mt rfl

/-- An edge of PPS in noted, with the interval it ends and the run it stands in. -/
def State.ppsNoted (s : State) (f : W64) (a run : Nat) : State :=
  { s with mt := { s.mt with ppsEdge := some f, ppsIval := some a, ppsRun := run } }

/-- A valid edge taken: learned in LOCKED, followed in a holdover on both references. -/
def State.ppsTaken (s : State) (phase : Int) : State :=
  if s.flag Fld.MT_STATE_PPS_VALID && s.fld Fld.MT_STATE_STATE == 1 then
    { s with mt := { s.mt with ppsOff := some phase } }
  else if s.flag Fld.MT_STATE_PPS_VALID && s.fld Fld.MT_STATE_STATE == 3 && s.fld Fld.MT_STATE_SOURCE == 3 then
    (s.setPtRate (servoRate s.holdRate (phase - s.mt.ppsOff.getD 0) s.free)).draw
  else s

theorem ppsTaken_keeps (s : State) (phase : Int) :
    refMarks (s.ppsTaken phase).mt = refMarks s.mt ∧ (s.ppsTaken phase).regs = s.regs := by
  unfold State.ppsTaken
  split
  · exact ⟨rfl, rfl⟩
  · split <;> exact ⟨rfl, rfl⟩

theorem basesOnly_ppsBases (s : State) (f : W64) : BasesOnly s (s.ppsBases f) :=
  .foldl (fun t n => by
    split
    · unfold State.ppsBase
      split
      · exact basesOnly_baseHears ..
      · exact basesOnly_baseLost ..
    · exact .of_mt rfl) _ _

/-- What follows the judgement of an edge keeps the marks and the validity flag. -/
theorem ppsEdge_keeps (s : State) (phase : Int) (f : W64) :
    refMarks ((s.ppsTaken phase).ppsBases f).mt = refMarks s.mt ∧
    ((s.ppsTaken phase).ppsBases f).flag Fld.MT_STATE_PPS_VALID = s.flag Fld.MT_STATE_PPS_VALID := by
  obtain ⟨hm, hr⟩ := ppsTaken_keeps s phase
  have hf : Fr 0x4030 (rb .MT_TB_CFG) (s.ppsTaken phase) ((s.ppsTaken phase).ppsBases f) := by simp
  exact ⟨(basesOnly_ppsBases _ f).refMarks.trans hm, (flag_of_fr hf _ 0 rfl).trans (flag_congr hr _ _)⟩

section
variable {f e : W64} {a b : Nat} {s : State} (he : s.mt.ppsEdge = some e) (hb : s.mt.ppsIval = some b)
  (ha : a = (f - e).toNat)
include he hb ha

/-- An edge within 100 ns of the place that its predecessors predict. -/
theorem ppsEdge_near (h : ((a : Int) - b).natAbs ≤ 100) :
    exec (.ppsEdge f) s = .next ((((s.ppsNoted f a (s.mt.ppsRun + 1)).refCounted Fld.MT_STATE_PPS_VALID
      (s.mt.ppsRun + 1)).ppsTaken (secPhase (s.mt.pt.at f))).ppsBases f) := by
  subst ha
  simp only [exec_ppsEdge, execPpsEdge, he, hb, Option.map_some, h, decide_true, if_true, Bool.not_true,
    Bool.false_eq_true, if_false]
  rfl

/-- An edge elsewhere. -/
theorem ppsEdge_far (h : ¬ ((a : Int) - b).natAbs ≤ 100) :
    exec (.ppsEdge f) s = .next ((((s.ppsNoted f a 0).setRef Fld.MT_STATE_PPS_VALID false).ppsTaken
      (secPhase (s.mt.pt.at f))).ppsBases f) := by
  subst ha
  simp only [exec_ppsEdge, execPpsEdge, he, hb, Option.map_some, h, decide_false, Bool.not_false, if_true,
    Bool.false_eq_true, if_false]
  rfl

end

/-- The tenth near edge in a row makes PPS in valid. -/
theorem completes_ppsEdge_near (f : W64) (a b : Nat) (e : W64) (s : State) (he : s.mt.ppsEdge = some e)
    (hb : s.mt.ppsIval = some b) (ha : a = (f - e).toNat) (h1 : a ≤ b + 100) (h2 : b ≤ a + 100) :
    Completes (.ppsEdge f) s [.free, .regs, .levels, .sn, .mt] [.MT_STATE, .MT_TB_CFG] fun t =>
      t.mt.ppsEdge = some f ∧ t.mt.ppsIval = some a ∧ t.mt.ppsRun = s.mt.ppsRun + 1 ∧
      (10 ≤ s.mt.ppsRun + 1 → t.flag Fld.MT_STATE_PPS_VALID = true) := by
  have hr := reclocked_refCounted (s.ppsNoted f a (s.mt.ppsRun + 1)) Fld.MT_STATE_PPS_VALID (s.mt.ppsRun + 1)
  obtain ⟨hm, hv⟩ := ppsEdge_keeps ((s.ppsNoted f a (s.mt.ppsRun + 1)).refCounted Fld.MT_STATE_PPS_VALID
    (s.mt.ppsRun + 1)) (secPhase (s.mt.pt.at f)) f
  obtain ⟨hedge, hival, hrun, -⟩ := refMarks_eq_iff.1 (hm.trans hr.refMarks)
  exact .of (P := 0x6130) (W := 0x20800000000000000) (fr_execPpsEdge f s) rfl rfl
    ⟨_, ppsEdge_near he hb ha (by omega), hedge, hival, hrun,
      fun h => hv.trans (flag_refCounted_of_le h rfl rfl rfl)⟩

theorem completes_ppsEdge_far (f : W64) (a b : Nat) (e : W64) (s : State) (he : s.mt.ppsEdge = some e)
    (hb : s.mt.ppsIval = some b) (ha : a = (f - e).toNat) (h : b + 100 < a ∨ a + 100 < b) :
    Completes (.ppsEdge f) s [.free, .regs, .levels, .sn, .mt] [.MT_STATE, .MT_TB_CFG] fun t =>
      t.mt.ppsRun = 0 ∧ t.flag Fld.MT_STATE_PPS_VALID = false := by
  have hr := reclocked_setRef (s.ppsNoted f a 0) Fld.MT_STATE_PPS_VALID false
  obtain ⟨hm, hv⟩ := ppsEdge_keeps ((s.ppsNoted f a 0).setRef Fld.MT_STATE_PPS_VALID false) (secPhase (s.mt.pt.at f)) f
  obtain ⟨-, -, hrun, -⟩ := refMarks_eq_iff.1 (hm.trans hr.refMarks)
  exact .of (P := 0x6130) (W := 0x20800000000000000) (fr_execPpsEdge f s) rfl rfl
    ⟨_, ppsEdge_far he hb ha (by omega), hrun, hv.trans (flag_setRef_same _ _ _ rfl rfl rfl)⟩

/-- A measurement of 10 MHz in counted. -/
def State.f10mNoted (s : State) (run : Nat) : State := { s with mt := { s.mt with f10mRun := run } }

/-- A valid 10 MHz in taken: learned in LOCKED, followed in a holdover on it. -/
def State.f10mTaken (s : State) : State :=
  if s.flag Fld.MT_STATE_F10M_VALID && s.fld Fld.MT_STATE_STATE == 1 then
    { s with mt := { s.mt with f10mRate := some s.mt.srcRate } }
  else if s.flag Fld.MT_STATE_F10M_VALID && s.fld Fld.MT_STATE_STATE == 3 && s.fld Fld.MT_STATE_SOURCE == 4 then
    (s.setPtRate (servoRate s.holdRate 0 s.free)).draw
  else s

theorem f10mTaken_keeps (s : State) : refMarks s.f10mTaken.mt = refMarks s.mt ∧ s.f10mTaken.regs = s.regs := by
  unfold State.f10mTaken
  split
  · exact ⟨rfl, rfl⟩
  · split <;> exact ⟨rfl, rfl⟩

theorem f10mMeasurement_good {z : Nat} (s : State) (h1 : 9999900 ≤ z) (h2 : z ≤ 10000100) :
    exec (.f10mMeasurement z) s = .next ((s.f10mNoted (s.mt.f10mRun + 1)).refCounted Fld.MT_STATE_F10M_VALID
      (s.mt.f10mRun + 1)).f10mTaken := by
  simp only [exec_f10mMeasurement, execF10mMeasurement, h1, h2, decide_true, Bool.and_true, if_true, Bool.not_true,
    Bool.false_eq_true, if_false]
  rfl

theorem f10mMeasurement_bad {z : Nat} (s : State) (h : z < 9999900 ∨ 10000100 < z) :
    exec (.f10mMeasurement z) s = .next ((s.f10mNoted 0).setRef Fld.MT_STATE_F10M_VALID false).f10mTaken := by
  have hz : (decide (9999900 ≤ z) && decide (z ≤ 10000100)) = false := by
    rw [← Bool.decide_and]
    exact decide_eq_false (by omega)
  simp only [exec_f10mMeasurement, execF10mMeasurement, hz, Bool.not_false, if_true, Bool.false_eq_true, if_false]
  rfl

theorem completes_f10mMeasurement_good (z : Nat) (s : State) (h1 : 9999900 ≤ z) (h2 : z ≤ 10000100) :
    Completes (.f10mMeasurement z) s [.free, .regs, .levels, .sn, .mt] [.MT_STATE] fun t =>
      t.mt.f10mRun = s.mt.f10mRun + 1 ∧ (10 ≤ s.mt.f10mRun + 1 → t.flag Fld.MT_STATE_F10M_VALID = true) ∧
      (s.mt.f10mRun + 1 < 10 → t.flag Fld.MT_STATE_F10M_VALID = s.flag Fld.MT_STATE_F10M_VALID) := by
  have hr := reclocked_refCounted (s.f10mNoted (s.mt.f10mRun + 1)) Fld.MT_STATE_F10M_VALID (s.mt.f10mRun + 1)
  obtain ⟨hm, hregs⟩ := f10mTaken_keeps ((s.f10mNoted (s.mt.f10mRun + 1)).refCounted Fld.MT_STATE_F10M_VALID
    (s.mt.f10mRun + 1))
  obtain ⟨-, -, -, hrun⟩ := refMarks_eq_iff.1 (hm.trans hr.refMarks)
  refine .of (P := 0x6130) (W := 0x800000000000000) (fr_execF10mMeasurement z s) rfl rfl
    ⟨_, f10mMeasurement_good s h1 h2, hrun, fun h => ?_, fun h => ?_⟩
  · exact (flag_congr hregs _ _).trans (flag_refCounted_of_le h rfl rfl rfl)
  · rw [flag_congr hregs, refCounted_of_lt h]
    rfl

theorem completes_f10mMeasurement_bad (z : Nat) (s : State) (h : z < 9999900 ∨ 10000100 < z) :
    Completes (.f10mMeasurement z) s [.free, .regs, .levels, .sn, .mt] [.MT_STATE] fun t =>
      t.mt.f10mRun = 0 ∧ t.flag Fld.MT_STATE_F10M_VALID = false := by
  have hr := reclocked_setRef (s.f10mNoted 0) Fld.MT_STATE_F10M_VALID false
  obtain ⟨hm, hregs⟩ := f10mTaken_keeps ((s.f10mNoted 0).setRef Fld.MT_STATE_F10M_VALID false)
  obtain ⟨-, -, -, hrun⟩ := refMarks_eq_iff.1 (hm.trans hr.refMarks)
  exact .of (P := 0x6130) (W := 0x800000000000000) (fr_execF10mMeasurement z s) rfl rfl
    ⟨_, f10mMeasurement_bad s h, hrun, (flag_congr hregs _ _).trans (flag_setRef_same _ _ _ rfl rfl rfl)⟩

/-! ## PPS_OUT_PULSE (R87) -/

theorem completes_ppsOutPulse (n : Nat) (s : State) (hst : s.fld Fld.MT_STATE_STATE ≠ 0)
    (hph : (secPhase s.pt).natAbs ≤ 10) (hn : n = (s.pt.toNat + 10) / 1000000000) (hsec : s.mt.ppsSec ≠ some n) :
    Completes .ppsOutPulse s [.out, .mt] [] fun t =>
      Sends [.pps (BitVec.ofNat 64 (n * 1000000000))] s t ∧ t.mt = { s.mt with ppsSec := some n } := by
  subst hn
  refine .of (P := 0x4002) (W := 0) (fr_execPpsOutPulse s) rfl rfl ?_
  have hnot : ¬ (s.fld Fld.MT_STATE_STATE = 0 ∨ 10 < (secPhase s.pt).natAbs ∨
      s.mt.ppsSec = some ((s.pt.toNat + 10) / 1000000000)) := by
    simp [hst, hsec, hph]
  rw [exec_ppsOutPulse, execPpsOutPulse, if_neg hnot]
  exact ⟨_, rfl, rfl, rfl⟩

theorem ppsOutPulse_of_not (s : State)
    (h : s.fld Fld.MT_STATE_STATE = 0 ∨ 10 < (secPhase s.pt).natAbs ∨
      s.mt.ppsSec = some ((s.pt.toNat + 10) / 1000000000)) :
    exec .ppsOutPulse s = .next s := if_pos h

/-! ## MT_REEPOCH (R78, R79) -/

@[simp] theorem reepochResult_mt (s : State) (c : Nat) : (s.reepochResult c).mt = s.mt := by
  rw [State.reepochResult, ev_mt, setFld_mt]

theorem fld_reepochResult_same (s : State) (c : Nat) (h : c < 16) :
    (s.reepochResult c).fld Fld.MT_STATE_REEPOCH_RESULT = c := by
  rw [State.reepochResult, fld_ev, fld_setFld_same _ _ _ _ (by decide)]
  exact Nat.mod_eq_of_lt h

theorem fld_reepochResult_apart (s : State) (c : Nat) (g : Field) (i : Nat)
    (h : Fld.MT_STATE_REEPOCH_RESULT.apart g = true) : (s.reepochResult c).fld g i = s.fld g i := by
  rw [State.reepochResult, fld_ev, fld_setFld_apart _ _ _ _ _ _ (by decide) (.inl h)]

theorem raised_reepochResult (s : State) (c : Nat) : Raised 95 (s.reepochResult c) := mem_ev _ _ rfl

/-- Entry to LOCKED moves no view. -/
theorem enterLocked_views (s : State) : s.enterLocked.pt = s.pt ∧ s.enterLocked.bt = s.bt := by
  have hmt : s.enterLocked.mt =
      { s.mt with lockedAt := if s.fld Fld.MT_STATE_STATE = 1 then s.mt.lockedAt else some s.mt.frc } := by
    simp [State.enterLocked, State.setErr]
  exact ⟨by rw [State.pt, hmt]; rfl, by rw [State.bt, hmt]; rfl⟩

theorem fld_enterLocked_state (s : State) : s.enterLocked.fld Fld.MT_STATE_STATE = 1 := by
  rw [State.enterLocked, fld_setCoord_apart _ _ _ _ (by decide), State.setErr,
    fld_setFld_apart _ _ _ _ _ _ (by decide) (.inl (by decide)), fld_setTimeState_same _ _ (by decide)]

theorem flag_enterLocked_reepoched (s : State) :
    s.enterLocked.flag Fld.MT_STATE_REEPOCHED = s.flag Fld.MT_STATE_REEPOCHED := by
  refine flag_of_fld ?_
  rw [State.enterLocked, fld_setCoord_apart _ _ _ _ (by decide), State.setErr,
    fld_setFld_apart _ _ _ _ _ _ (by decide) (.inl (by decide)), fld_setTimeState_apart _ _ _ _ (by decide), fld_mk]

/-- PT put at `t`, running at its source's rate, with no offsets before it. -/
def State.ptPut (s : State) (t : Instant) : State :=
  { s with mt := { s.mt with pt := (s.mt.pt.step s.mt.frc t).setRate s.mt.frc s.mt.srcRate, hist := [], partner := none } }

theorem ptPut_views (s : State) (t : Instant) : (s.ptPut t).pt = t ∧ (s.ptPut t).bt = s.bt := by
  refine ⟨?_, rfl⟩
  rw [State.pt, State.ptPut, View.at_setRate, View.at_step]

theorem newPt_views (s : State) (old : Instant) : (s.newPt old).pt = s.pt ∧ (s.newPt old).bt = s.bt := ⟨rfl, rfl⟩

/-- PT stepped to `t`: the phase points before it dropped, what lay in the old PT begun anew. -/
def State.ptStepped (s : State) (t : Instant) : State := (s.dropPhases.ptPut t).newPt s.pt

/-- The step leaves BT where it is: the phase points that it drops lie outside plant time. -/
theorem ptStepped_views (s : State) (t : Instant) : (s.ptStepped t).pt = t ∧ (s.ptStepped t).bt = s.bt := by
  have hmt : s.dropPhases.mt = s.mt :=
    mt_of_fr (P := 0x3c05fa120) (W := 0xa5c2c0000000000000002) (by simp) rfl
  obtain ⟨hnp, hnb⟩ := newPt_views (s.dropPhases.ptPut t) s.pt
  obtain ⟨hpp, hpb⟩ := ptPut_views s.dropPhases t
  exact ⟨hnp.trans hpp, (hnb.trans hpb).trans (bt_of_mt hmt)⟩

/-- REEPOCHED and the new source shown. -/
def State.reepochShown (s : State) (o : Nat) : State :=
  (((s.setFlag Fld.MT_STATE_REEPOCHED true).anchor 6).setTimeSource o).showOffset 0

theorem mtReepoch_of_source {s : State} {o : Nat} {t : Instant} (ha : s.auth = false)
    (hst : s.fld Fld.MT_STATE_STATE ≠ 0) (h : s.reepochSource = some (o, t)) :
    exec (.mtReepoch .sup) s = .next (((s.ptStepped t).reepochShown o).enterLocked.reepochResult 1) := by
  rw [exec_mtReepoch, execMtReepoch, State.reepoch, ha, if_neg hst, h]
  rfl

theorem mtReepoch_refused {s : State} (h : s.auth = true ∨ s.fld Fld.MT_STATE_STATE = 0) :
    exec (.mtReepoch .sup) s = .next (s.reepochResult (if s.auth then 2 else 3)) := by
  rw [exec_mtReepoch, execMtReepoch, State.reepoch]
  cases ha : s.auth with
  | true => rfl
  | false =>
    have h0 : s.fld Fld.MT_STATE_STATE = 0 := h.resolve_left (by simp [ha])
    rw [if_pos h0]
    rfl

theorem reepochShown_mt (s : State) (o : Nat) : (s.reepochShown o).mt = s.mt := by
  simp [State.reepochShown, State.showOffset]

theorem flag_reepochShown (s : State) (o : Nat) : (s.reepochShown o).flag Fld.MT_STATE_REEPOCHED = true := by
  rw [State.reepochShown, State.showOffset, flag_setFld_apart _ _ _ _ _ _ (by decide) (.inl (by decide)),
    flag_of_fld (fld_setTimeSource_apart _ _ _ _ (by decide)), flag_anchor, flag_setFlag_same _ _ _ _ (by decide)]

/-- A re-epoch from the source found: PT there, LOCKED, BT as it was. -/
theorem completes_mtReepoch_of_source (s : State) (ha : s.auth = false) (hst : s.fld Fld.MT_STATE_STATE ≠ 0)
    (hsome : (s.reepochSource).isSome = true) :
    Completes (.mtReepoch .sup) s [.regs, .levels, .sn, .mt, .pw, .ln, .le, .la, .bn, .io, .gy, .sx, .pi, .subc,
      .blk, .mem] [.SUP_ISLAND, .MT_STATE, .MT_OFFSET, .MT_ERR_EST, .LN_STATUS, .LN_OVERRUN, .LN_SUB, .LE_OVERRUN,
      .LE_FAULT, .LE_LOAD, .LA_STATUS, .LA_SLOT, .LA_COUNT] fun t =>
      t.fld Fld.MT_STATE_REEPOCH_RESULT = 1 ∧ t.fld Fld.MT_STATE_STATE = 1 ∧
      some t.pt = (s.reepochSource).map Prod.snd ∧ t.bt = s.bt ∧ t.flag Fld.MT_STATE_REEPOCHED = true ∧ Raised 95 t := by
  obtain ⟨⟨o, t⟩, hsrc⟩ := Option.isSome_iff_exists.1 hsome
  obtain ⟨hpt, hbt⟩ := ptStepped_views s t
  obtain ⟨hlpt, hlbt⟩ := enterLocked_views ((s.ptStepped t).reepochShown o)
  have hmt := reepochShown_mt (s.ptStepped t) o
  refine .of (P := 0x3c07fe120) (W := 0xa5c2c6800000000000002) (fr_execMtReepoch .sup s) rfl rfl
    ⟨_, mtReepoch_of_source ha hst hsrc, fld_reepochResult_same _ _ (by decide), ?_, ?_, ?_, ?_,
      raised_reepochResult _ _⟩
  · rw [fld_reepochResult_apart _ _ _ _ (by decide), fld_enterLocked_state]
  · rw [pt_of_mt (reepochResult_mt ..), hlpt, pt_of_mt hmt, hpt, hsrc]
    rfl
  · rw [bt_of_mt (reepochResult_mt ..), hlbt, bt_of_mt hmt, hbt]
  · rw [flag_of_fld (fld_reepochResult_apart _ _ _ _ (by decide)), flag_enterLocked_reepoched, flag_reepochShown]

theorem completes_mtReepoch_refused (s : State) (h : s.auth = true ∨ s.fld Fld.MT_STATE_STATE = 0) :
    Completes (.mtReepoch .sup) s [.regs, .levels] [.MT_STATE] fun t =>
      t.fld Fld.MT_STATE_REEPOCH_RESULT = (if s.auth then 2 else 3) ∧ t.pt = s.pt ∧ t.bt = s.bt ∧ Raised 95 t := by
  refine .next (mtReepoch_refused h) (P := 0x120) (W := rb .MT_STATE) (by simp) rfl rfl
    ⟨fld_reepochResult_same _ _ ?_, pt_of_mt (reepochResult_mt ..), bt_of_mt (reepochResult_mt ..),
      raised_reepochResult _ _⟩
  split <;> decide

/-- Settles O22: each command's next state, read through the rules of the operations that make it. -/
theorem timeSourcesAndServo : Obligations.TimeSourcesAndServo :=
  ⟨completes_sourceLost_holdover, completes_sourceLost_partner, completes_holdoverErrCross,
    holdoverErrCross_of_not, completes_gptpSync_untracked, completes_gptpSync_followed,
    completes_gptpPdelay_request, completes_gptpPdelay_response, completes_pdelayRequestSend,
    completes_gptpSignaling_in_range, gptpSignaling_out_of_range, completes_gptpAnnounce_better,
    completes_ppsEdge_near, completes_ppsEdge_far, completes_f10mMeasurement_good, completes_f10mMeasurement_bad,
    completes_ppsOutPulse, ppsOutPulse_of_not, fun _ => rfl, completes_mtReepoch_of_source,
    completes_mtReepoch_refused, gptpAnnounce_configured⟩

end Sys2Proof.Machine
end

section
/-! PROOF. The marks that the contributions of an instant (`upTo`) neither read nor change: entries that arrived and entries that
ran, the SEQUENCE of the streams, and two marks of the supervisor. They may be set before or after those contributions. -/

namespace Sys2Proof.Machine

/-- The marks: what arrived for its instant, what ran, the streams' SEQUENCE, the epoch yet to be stored, the key's end. -/
structure Aside where
  due : List (Nat × Nat × Instant)
  ran : Tab (Option Instant)
  pubs : Tab Pub
  storePend : Bool
  keyEnd : Bool

def State.marks (s : State) : Aside :=
  { due := s.ln.due, ran := s.ln.ran, pubs := s.ln.pubs, storePend := s.bn.storePend, keyEnd := s.pw.keyEnd }

/-- `s` with the marks `x` in place of its own. -/
def State.aside (s : State) (x : Aside) : State :=
  { s with
    ln := { s.ln with due := x.due, ran := x.ran, pubs := x.pubs }
    bn := { s.bn with storePend := x.storePend }
    pw := { s.pw with keyEnd := x.keyEnd } }

theorem aside_ite (c : Prop) [Decidable c] (s t : State) (x : Aside) :
    (if c then s else t).aside x = if c then s.aside x else t.aside x := apply_ite (·.aside x) c s t

theorem aside_foldl {α : Type} {g : State → α → State} {x : Aside} (h : ∀ s a, (g s a).aside x = g (s.aside x) a)
    (l : List α) (s : State) : (l.foldl g s).aside x = l.foldl g (s.aside x) := by
  induction l generalizing s with
  | nil => rfl
  | cons a l ih => rw [List.foldl_cons, List.foldl_cons, ih, h]

variable (s : State) (x : Aside)

/-! ## The register file, sources and records -/

theorem setFld_aside (f : Field) (v i : Nat) : (s.setFld f v i).aside x = (s.aside x).setFld f v i := rfl
theorem bump_aside (f : Field) (i n : Nat) : (s.bump f i n).aside x = (s.aside x).bump f i n := rfl

theorem ev_aside (n : Nat) : (s.ev n).aside x = (s.aside x).ev n := by
  rw [State.ev, aside_ite]; rfl

theorem raise_aside (k c : Nat) (p : Payload) : (s.raise k c p).aside x = (s.aside x).raise k c p := by
  rw [State.raise, aside_ite, aside_ite]; rfl

theorem note_aside (k c : Nat) (xs : List Nat) : (s.note k c xs).aside x = (s.aside x).note k c xs := raise_aside ..

/-! ## Points and words -/

theorem bytesPut_aside (a : Nat) (bs : List Byte) : (s.bytesPut a bs).aside x = (s.aside x).bytesPut a bs := by
  induction bs generalizing s a with
  | nil => rfl
  | cons b bs ih => exact ih (s.bytePut a b) (a + 1)

theorem twPut_aside (w : Nat) (v : W64) : (s.twPut w v).aside x = (s.aside x).twPut w v := by
  rw [State.twPut, aside_ite, aside_ite, bytesPut_aside]; rfl

theorem markDirty_aside (w : Nat) : (s.markDirty w).aside x = (s.aside x).markDirty w := by
  unfold State.markDirty
  rw [aside_ite]; rfl

theorem twWrite_aside (w : Nat) (v : W64) : (s.twWrite w v).aside x = (s.aside x).twWrite w v := by
  rw [State.twWrite, twPut_aside, markDirty_aside]; rfl

theorem made_aside (i : Nat) (r : W64) : (s.made i r).aside x = (s.aside x).made i r := by
  rw [State.made, aside_ite]; rfl

theorem produce_aside (i : Nat) (r : W64) : (s.produce i r).aside x = (s.aside x).produce i r := by
  unfold State.produce
  rw [← made_aside]
  have hf : ((s.made i r).aside x).forces = (s.made i r).forces := rfl
  dsimp only
  rw [hf]
  cases Tab.get none (s.made i r).forces i <;> exact twWrite_aside ..

theorem blkPut_aside (b : Nat) (v : BitVec 256) : (s.blkPut b v).aside x = (s.aside x).blkPut b v := by
  simp only [State.blkPut, ← markDirty_aside]; rfl

theorem retain_aside (w : Nat) (v : W64) : (s.retain w v).aside x = (s.aside x).retain w v := by
  unfold State.retain
  have hf : (s.aside x).img = s.img := rfl
  rw [hf]
  cases s.img.retained.find? fun y => y.2 == w <;> rfl

theorem takeVis_aside (t : Instant) (l : List (Instant × Nat × W64)) :
    (s.takeVis t l).aside x = (s.aside x).takeVis t l := by
  induction l generalizing s with
  | nil => rfl
  | cons y l ih =>
    rw [State.takeVis, ih, aside_ite, aside_ite, produce_aside, retain_aside, twWrite_aside]; rfl

theorem takeSets_aside (t : Instant) (l : List (Nat × Instant × List (Nat × W64))) :
    (s.takeSets t l).aside x = (s.aside x).takeSets t l := by
  induction l generalizing s with
  | nil => rfl
  | cons y l ih =>
    rw [State.takeSets, ih, aside_ite, aside_foldl fun s r => produce_aside s x r.1 r.2]; rfl

theorem lates_aside (ps : List Nat) : (s.lates ps).aside x = (s.aside x).lates ps := by
  induction ps generalizing s with
  | nil => rfl
  | cons p ps ih => rw [State.lates, ih, produce_aside]; rfl

theorem lateSets_aside (t : Instant) (l : List Expect) : (s.lateSets t l).aside x = (s.aside x).lateSets t l := by
  induction l generalizing s with
  | nil => rfl
  | cons y l ih => rw [State.lateSets, ih, aside_ite, bump_aside, lates_aside]; rfl

/-! ## Subscriptions -/

theorem setSubSt_aside (n : Nat) (y : Sub) : (s.setSubSt n y).aside x = (s.aside x).setSubSt n y := rfl

theorem applySub_aside (l : List Nat) : (s.applySub l).aside x = (s.aside x).applySub l := by
  induction l generalizing s with
  | nil => rfl
  | cons i l ih => exact ih _

theorem missSub_aside (k : Nat) (l : List Nat) : (s.missSub k l).aside x = (s.aside x).missSub k l := by
  induction l generalizing s with
  | nil => rfl
  | cons i l ih => exact ih _

theorem inputLate_aside : s.inputLate.aside x = (s.aside x).inputLate := by
  unfold State.inputLate
  rw [aside_ite, ev_aside]; rfl

theorem missAt_aside (n : Nat) (c : SubCfg) (g : Instant) (k : Nat) :
    (s.missAt n c g k).aside x = (s.aside x).missAt n c g k := by
  unfold State.missAt
  dsimp only
  rw [inputLate_aside, bump_aside, missSub_aside, setSubSt_aside]; rfl

end Sys2Proof.Machine
end

section
/-! PROOF. The marks and what is due at an instant: subscriptions, records, loops and tasks (`settle`, `upTo`). -/

namespace Sys2Proof.Machine

variable (s : State) (x : Aside)

theorem fallDue_aside (n : Nat) : (s.fallDue n).aside x = (s.aside x).fallDue n := by
  unfold State.fallDue
  have hc : (s.aside x).img.subs[n]? = s.img.subs[n]? := rfl
  have hp : ((s.aside x).sub n).pend = (s.sub n).pend := rfl
  have hg : ((s.aside x).sub n).grid = (s.sub n).grid := rfl
  rw [hc, hp, hg]
  cases s.img.subs[n]? with
  | none => rfl
  | some c =>
    cases (s.sub n).pend with
    | none => rfl
    | some f =>
      cases (s.sub n).grid with
      | none =>
        dsimp only
        rw [aside_ite, missAt_aside, inputLate_aside, setFld_aside, applySub_aside]; rfl
      | some g =>
        dsimp only
        rw [aside_ite, missAt_aside, inputLate_aside, setFld_aside, applySub_aside, setSubSt_aside, setSubSt_aside, aside_ite,
          missAt_aside]
        rw [← missAt_aside, ← aside_ite]; rfl

theorem missDue_aside (t : Instant) (n : Nat) : (s.missDue t n).aside x = (s.aside x).missDue t n := by
  unfold State.missDue
  have hc : (s.aside x).img.subs[n]? = s.img.subs[n]? := rfl
  have hg : ((s.aside x).sub n).grid = (s.sub n).grid := rfl
  rw [hc, hg]
  cases s.img.subs[n]? with
  | none => rfl
  | some c =>
    cases (s.sub n).grid with
    | none => rfl
    | some g =>
      dsimp only
      rw [aside_ite, missAt_aside]

theorem subsAt_aside (t : Instant) (l : List (Nat × Sub)) : (s.subsAt t l).aside x = (s.aside x).subsAt t l := by
  induction l generalizing s with
  | nil => rfl
  | cons y l ih => rw [State.subsAt, ih, missDue_aside, aside_ite, fallDue_aside]; rfl

/-- The records due at `t` taken out of those that wait for their instant. -/
def State.settleVis (s : State) (t : Instant) : State :=
  let s := s.takeVis t s.ln.vis
  { s with ln := { s.ln with vis := s.ln.vis.filter fun v => !Instant.atOrBefore v.1 t } }

/-- The fast sets whose cycle ended by `t` taken. -/
def State.settleSets (s : State) (t : Instant) : State :=
  let s := s.takeSets t s.ln.sets
  { s with ln := { s.ln with sets := s.ln.sets.filter fun y => !Instant.atOrBefore y.2.1 t } }

/-- The sample sets missing at `t` counted. -/
def State.settleExpect (s : State) (t : Instant) : State :=
  let s := s.lateSets t s.ln.expect
  { s with ln := { s.ln with expect := s.ln.expect.filter fun y => !Instant.atOrBefore y.c t } }

theorem settle_eq (t : Instant) :
    s.settle t =
      (((s.settleVis t).settleSets t).settleExpect t).subsAt t (((s.settleVis t).settleSets t).settleExpect t).ln.subs := rfl

theorem settleVis_aside (t : Instant) : (s.settleVis t).aside x = (s.aside x).settleVis t := by
  unfold State.settleVis
  dsimp only
  rw [show (s.aside x).takeVis t (s.aside x).ln.vis = (s.takeVis t s.ln.vis).aside x from (takeVis_aside ..).symm]
  rfl

theorem settleSets_aside (t : Instant) : (s.settleSets t).aside x = (s.aside x).settleSets t := by
  unfold State.settleSets
  dsimp only
  rw [show (s.aside x).takeSets t (s.aside x).ln.sets = (s.takeSets t s.ln.sets).aside x from (takeSets_aside ..).symm]
  rfl

theorem settleExpect_aside (t : Instant) : (s.settleExpect t).aside x = (s.aside x).settleExpect t := by
  unfold State.settleExpect
  dsimp only
  rw [show (s.aside x).lateSets t (s.aside x).ln.expect = (s.lateSets t s.ln.expect).aside x from (lateSets_aside ..).symm]
  rfl

theorem settle_aside (t : Instant) : (s.settle t).aside x = (s.aside x).settle t := by
  rw [settle_eq, settle_eq, subsAt_aside, ← settleVis_aside, ← settleSets_aside, ← settleExpect_aside]
  rfl

theorem loadSeen_aside : s.loadSeen.aside x = (s.aside x).loadSeen := rfl

theorem fillLane_aside (k : Nat) : (s.fillLane k).aside x = (s.aside x).fillLane k := by
  unfold State.fillLane
  have hn : (s.aside x).nextReady = s.nextReady := rfl
  rw [aside_ite, hn]
  cases s.nextReady <;> rfl

theorem fillLanes_aside : s.fillLanes.aside x = (s.aside x).fillLanes := aside_foldl (fun s k => fillLane_aside s x k) _ _

/-- Loop `l` taken off every lane. -/
def State.offLanes (s : State) (l : Nat) : State :=
  (List.range 8).foldl (fun s k => if (s.lane k).contains l then s.setLane k ((s.lane k).erase l) else s) s

/-- Loop `l` ready no more. -/
def State.unready (s : State) (l : Nat) : State := { s with le := { s.le with ready := s.le.ready.erase l } }

theorem leaveLane_eq (l : Nat) : s.leaveLane l = ((s.loadSeen.offLanes l).unready l).fillLanes := by
  unfold State.leaveLane State.unready State.offLanes
  with_reducible rfl

theorem offLanes_aside (l : Nat) : (s.offLanes l).aside x = (s.aside x).offLanes l :=
  aside_foldl (fun s k => by rw [aside_ite]; rfl) _ _

theorem unready_aside (l : Nat) : (s.unready l).aside x = (s.aside x).unready l := rfl

theorem leaveLane_aside (l : Nat) : (s.leaveLane l).aside x = (s.aside x).leaveLane l := by
  rw [leaveLane_eq, leaveLane_eq, fillLanes_aside, unready_aside, offLanes_aside, loadSeen_aside]

theorem setAdapt_aside (l : Nat) (r : AdaptRec) : (s.setAdapt l r).aside x = (s.aside x).setAdapt l r := rfl

theorem adaptNote_aside (c l : Nat) (n : AdaptNote) : (s.adaptNote c l n).aside x = (s.aside x).adaptNote c l n := by
  rw [State.adaptNote, ev_aside, raise_aside]; rfl

theorem freeSlot_aside (k : Nat) : (s.freeSlot k).aside x = (s.aside x).freeSlot k := rfl

theorem abortTest_aside (k r : Nat) : (s.abortTest k r).aside x = (s.aside x).abortTest k r := by
  unfold State.abortTest
  dsimp only
  rw [aside_ite, adaptNote_aside, bump_aside, freeSlot_aside]; rfl

theorem abortLoop_aside (l r : Nat) : (s.abortLoop l r).aside x = (s.aside x).abortLoop l r := by
  unfold State.abortLoop
  have hs : (s.aside x).slotOf l = s.slotOf l := rfl
  rw [hs]
  cases s.slotOf l with
  | none => rfl
  | some k => exact abortTest_aside s x k r

theorem toKeep_aside (l : Nat) : (s.toKeep l).aside x = (s.aside x).toKeep l := by
  rw [State.toKeep, aside_ite]; rfl

theorem lockout_aside (l r : Nat) : (s.lockout l r).aside x = (s.aside x).lockout l r := rfl

theorem adaptFault_aside (l n : Nat) : (s.adaptFault l n).aside x = (s.aside x).adaptFault l n := by
  unfold State.adaptFault
  dsimp only
  rw [aside_ite, adaptNote_aside, lockout_aside, toKeep_aside, setAdapt_aside, abortLoop_aside]
  rw [← abortLoop_aside]; rfl

theorem noteFault_aside (l c : Nat) : (s.noteFault l c).aside x = (s.aside x).noteFault l c := by
  unfold State.noteFault
  dsimp only
  rw [adaptFault_aside, ev_aside, note_aside]; rfl

theorem adaptHist_aside (l : Nat) (d : BitVec 512) (y : F32 × Bool × Bool) :
    (s.adaptHist l d y).aside x = (s.aside x).adaptHist l d y := by
  unfold State.adaptHist
  have hs : (s.aside x).adaptCfg l = s.adaptCfg l := rfl
  rw [hs]
  cases s.adaptCfg l with
  | none => rfl
  | some a => dsimp only; rw [aside_ite, setAdapt_aside]; rfl

theorem lateAt_aside (k : Instant) (p : Nat) : (s.lateAt k p).aside x = (s.aside x).lateAt k p := by
  unfold State.lateAt
  dsimp only
  rw [aside_ite, produce_aside]; rfl

theorem countOverrun_aside (l b : Nat) (d : BitVec 512) : (s.countOverrun l b d).aside x = (s.aside x).countOverrun l b d := by
  unfold State.countOverrun
  dsimp only
  rw [aside_ite, noteFault_aside, blkPut_aside]; rfl

theorem eccEnter_aside (l b : Nat) (d : BitVec 512) : (s.eccEnter l b d).aside x = (s.aside x).eccEnter l b d := by
  unfold State.eccEnter
  dsimp only
  rw [aside_ite, noteFault_aside, blkPut_aside]; rfl

theorem abandonLoop_aside (l : Nat) (k : Instant) : (s.abandonLoop l k).aside x = (s.aside x).abandonLoop l k := by
  unfold State.abandonLoop
  have hl : (s.aside x).loopAt l = s.loopAt l := rfl
  have hp : (s.aside x).pt = s.pt := rfl
  rw [hl, hp]
  cases s.loopAt l with
  | none => rfl
  | some b =>
    dsimp only
    rw [← settle_aside, ← leaveLane_aside]
    generalize (s.settle (if Instant.before s.pt k then s.pt else k)).leaveLane l = u
    rw [aside_ite, eccEnter_aside, countOverrun_aside, ev_aside, bump_aside, lateAt_aside, aside_ite, abortLoop_aside,
      adaptHist_aside]
    rfl

theorem taskLate_aside (k : Nat) : (s.taskLate k).aside x = (s.aside x).taskLate k := by
  unfold State.taskLate State.taskMiss
  dsimp only
  rw [aside_ite, bump_aside, lates_aside]; rfl

theorem abandonAll_aside (l : List Nat) : (s.abandonAll l).aside x = (s.aside x).abandonAll l := by
  induction l generalizing s with
  | nil => rfl
  | cons l ls ih =>
    rw [State.abandonAll, ih, State.abandonAll]
    have hr : (s.aside x).run l = s.run l := rfl
    rw [hr]
    cases (s.run l).job with
    | none => dsimp only; rw [leaveLane_aside]
    | some j => dsimp only; rw [abandonLoop_aside]

theorem upTo_aside (t : Instant) : (s.upTo t).aside x = (s.aside x).upTo t := by
  unfold State.upTo
  dsimp only
  rw [aside_foldl fun s k => taskLate_aside s x k, abandonAll_aside, ← settle_aside]
  have h : ((s.settle t).aside x).abandonAll (((s.settle t).aside x).loopsOver t) =
    ((s.settle t).abandonAll ((s.settle t).loopsOver t)).aside x := (abandonAll_aside ..).symm
  rw [h, ← abandonAll_aside]
  rfl

end Sys2Proof.Machine
end

section
/-! PROOF. Loops in time (LoopsInTime, O25): FAST_LOOP_ABANDON where the entry of a fast cycle arrived and never launched it. -/

namespace Sys2Proof.Machine

theorem abandonLoop_marks (s : State) (l : Nat) (k : Instant) : (s.abandonLoop l k).marks = s.marks := by
  have h := abandonLoop_aside s s.marks l k
  rw [show s.aside s.marks = s from rfl] at h
  rw [← h]
  rfl

theorem loopsMiss_marks (s : State) (k : Instant) (ls : List Nat) : (s.loopsMiss k ls).marks = s.marks := by
  induction ls generalizing s with
  | nil => rfl
  | cons l ls ih => exact (ih _).trans (abandonLoop_marks ..)

/-- FAST_LOOP_ABANDON with no job on the loop: an overdue fast compute entry that has arrived runs late, for all its loops. -/
theorem fastLoopAbandon_ran {s : State} {l e : Nat} {u : Instant} (hj : (s.run l).job = none)
    (hd : s.ln.due = [(2, e, u)]) (hl : l ∈ entTargets (s.entry e)) (hc : s.loopClass l = 0)
    (hu : Instant.before s.pt (u.plus 50000) = false) :
    ∃ t, exec (.fastLoopAbandon l) s = .next t ∧ t.ln.ran = Tab.set none s.ln.ran e (some u) := by
  refine ⟨((s.takeDue 2 e u).ranAt e u).loopsMiss (u.plus 50000) (entTargets (s.entry e)), ?_,
    congrArg Aside.ran (loopsMiss_marks ..)⟩
  show execFastLoopAbandon l s = _
  rw [execFastLoopAbandon, hj, hd]
  simp [List.find?, hl, hc, hu]

/-- Loop 0 has no job; the fast compute entry 0 of cycle 0, which lists it, has arrived, and its K has gone by. -/
def missedFastEntry : State where
  mt := { frc := 50000 }
  img := { entries := [0x100000000] }
  ln := { due := [(2, 0, 0)] }
  le := { dir := [(0, 1)] }

theorem loopClass_of_blk_nil {s : State} {l b : Nat} (hl : s.loopAt l = some b) (hb : s.blk = []) : s.loopClass l = 0 := by
  have hz (n : Nat) : s.blkGet n = 0#256 := by rw [State.blkGet, hb]; rfl
  simp only [State.loopClass, hl, State.descAt, hz, ldClass, bits, BitVec.toNat_zero, Nat.zero_mul, Nat.add_zero, Nat.zero_div,
    Nat.zero_mod]

/-- Refutes O25: FAST_LOOP_ABANDON of a loop with no job is not always idle, for it abandons the loops of an overdue fast entry
that never launched them (`missedFastEntry`). -/
theorem not_loopsInTime : ¬ Obligations.LoopsInTime := by
  intro h
  obtain ⟨-, -, -, -, -, hIdle, -⟩ := h
  obtain ⟨-, -, -, hSame⟩ := hIdle 0 missedFastEntry (by decide)
  obtain ⟨t, e, hRan⟩ := fastLoopAbandon_ran (s := missedFastEntry) (l := 0) (e := 0) (u := 0) (by decide) (by decide)
    (by decide) (loopClass_of_blk_nil (b := 0) (by decide) rfl) (by decide)
  rw [← Host.Outcome.next.inj (hSame.symm.trans e)] at hRan
  exact absurd hRan (by decide)

end Sys2Proof.Machine
end

section
/-! PROOF. Launch entries (LaunchEntries, O23): the K of an application task in a fast group. -/

namespace Sys2Proof.Machine

/-- RUN_APPLICATION_TASK while the task still runs skips the launch, and the cycle skipped ends at `entDue`. -/
theorem runApplicationTask_skip {s : State} {e : Nat} {c : Instant} {d : BitVec 128} (hd : s.entGrp e = some d)
    (hr : s.runsNow e d 4 c = true) (ha : s.acting = true)
    (ht : ((((s.takeDue 0 e c).ranAt e c).upTo c).task (entTarget (s.entry e))).running = true) :
    exec (.runApplicationTask e c) s =
      .next ((((s.takeDue 0 e c).ranAt e c).upTo c).taskSkip (entTarget (s.entry e)) (entDue d c)) := by
  show execRunApplicationTask e c s = _
  rw [execRunApplicationTask, hd]
  dsimp only
  rw [if_pos ⟨hr, ha⟩, if_pos ht]

theorem taskSkip_k (s : State) (k : Nat) (u : Instant) : ((s.taskSkip k u).task k).k = u :=
  congrArg Task.k (Tab.get_set_same ..)

/-- An active module in FAST_RUN: task 0, of entry 0 in a group of class 0, still runs at the C of cycle 0. -/
def fastTask : State :=
  { (State.reset.setFld Fld.BN_STATUS_ROLE 1).setFlag Fld.LN_STATUS_FAST_RUN true with
    mt := { ptSet := true }
    img := { groups := [0], entries := [0x4000000100000000] }
    ln := { tasks := [(0, { running := true })] } }

/-- Refutes O23: in a fast group the cycle of a task ends at the next S, 50 us after C (R141), and not at the K that the group's
offsets give (`fastTask`). -/
theorem not_launchEntries : ¬ Obligations.LaunchEntries := by
  intro h
  obtain ⟨-, -, -, -, -, -, -, -, -, -, -, -, -, -, -, -, hSkip, -⟩ := h
  obtain ⟨t, e, ⟨-, -, hK, -⟩, -⟩ := hSkip 0 0 0 0 fastTask (by decide) (by decide) (by decide) (by decide) (by decide)
  have hSkips := runApplicationTask_skip (s := fastTask) (e := 0) (c := 0) (d := 0) (by decide) (by decide) (by decide)
    (by decide)
  rw [hSkips] at e
  rw [← Host.Outcome.next.inj e, show entTarget (fastTask.entry 0) = 0 by decide, taskSkip_k] at hK
  exact absurd hK (by decide)

end Sys2Proof.Machine
end

section
/-! PROOF. What is due at an instant leaves every island as alive as it was. -/

namespace Sys2Proof.Machine

theorem alive_of_fr {P W : Nat} {s t : State} (h : Fr P W s t) (hW : W &&& 2 = 0) (k : Nat) : t.alive k = s.alive k :=
  flag_of_fr h _ k hW

theorem alive_ite (c : Prop) [Decidable c] (s t : State) (k : Nat) :
    (if c then s else t).alive k = if c then s.alive k else t.alive k := apply_ite (·.alive k) c s t

variable (s : State) (k : Nat)

@[simp] theorem alive_raise (i c : Nat) (p : Payload) : (s.raise i c p).alive k = s.alive k := by
  unfold State.raise
  split
  · rfl
  · split
    · exact flag_bump_apart _ _ _ _ _ _ (by decide) (.inl (by decide))
    · rfl

@[simp] theorem alive_ev (n : Nat) : (s.ev n).alive k = s.alive k := flag_ev ..

@[simp] theorem alive_adaptNote (c l : Nat) (n : AdaptNote) : (s.adaptNote c l n).alive k = s.alive k :=
  (alive_ev ..).trans (alive_raise ..)

@[simp] theorem alive_abortTest (i r : Nat) : (s.abortTest i r).alive k = s.alive k := by
  unfold State.abortTest
  dsimp only
  split
  · rfl
  · rw [alive_adaptNote]
    exact alive_of_fr (P := 0x40020) (W := 0xa40000000000000000000) (by simp) (by decide) k

@[simp] theorem alive_abortLoop (l r : Nat) : (s.abortLoop l r).alive k = s.alive k := by
  unfold State.abortLoop
  split
  · exact alive_abortTest ..
  · rfl

@[simp] theorem alive_adaptFault (l n : Nat) : (s.adaptFault l n).alive k = s.alive k := by
  unfold State.adaptFault
  dsimp only
  split
  · rw [alive_adaptNote, ← alive_abortLoop s k l 7]
    exact alive_of_fr (P := 0x40000) (W := 0) (by simp) (by decide) k
  · exact alive_abortLoop ..

@[simp] theorem alive_noteFault (l c : Nat) : (s.noteFault l c).alive k = s.alive k := by
  rw [State.noteFault, alive_adaptFault, alive_ev, State.note, alive_raise]
  exact alive_of_fr (P := 0x20) (W := rb .LE_FAULT) (by simp) (by decide) k

@[simp] theorem alive_blkPut (b : Nat) (v : BitVec 256) : (s.blkPut b v).alive k = s.alive k :=
  alive_of_fr (P := 0x100080000) (W := 0) (by simp) (by decide) k

@[simp] theorem alive_countOverrun (l b : Nat) (d : BitVec 512) : (s.countOverrun l b d).alive k = s.alive k := by
  simp [State.countOverrun, alive_ite]

@[simp] theorem alive_eccEnter (l b : Nat) (d : BitVec 512) : (s.eccEnter l b d).alive k = s.alive k := by
  simp [State.eccEnter, alive_ite]

@[simp] theorem alive_settle (t : Instant) : (s.settle t).alive k = s.alive k :=
  alive_of_fr (P := 0x3c0098120) (W := 0x2c0000000000000000) (by simp) (by decide) k

@[simp] theorem alive_leaveLane (l : Nat) : (s.leaveLane l).alive k = s.alive k :=
  alive_of_fr (P := 0x20020) (W := 0x10000000000000000000) (by simp) (by decide) k

@[simp] theorem alive_setRun (l : Nat) (r : LoopRun) : (s.setRun l r).alive k = s.alive k := rfl

@[simp] theorem alive_adaptHist (l : Nat) (d : BitVec 512) (y : F32 × Bool × Bool) :
    (s.adaptHist l d y).alive k = s.alive k :=
  alive_of_fr (P := 0x40000) (W := 0) (by simp) (by decide) k

@[simp] theorem alive_lateAt (u : Instant) (p : Nat) : (s.lateAt u p).alive k = s.alive k :=
  alive_of_fr (P := 0x340090000) (W := 0) (by simp) (by decide) k

@[simp] theorem alive_bump_loops (c : Nat) : (s.bump Fld.LE_OVERRUN_LOOPS c).alive k = s.alive k :=
  flag_bump_apart _ _ _ _ _ _ (by decide) (.inl (by decide))

@[simp] theorem alive_abandonLoop (l : Nat) (u : Instant) : (s.abandonLoop l u).alive k = s.alive k := by
  unfold State.abandonLoop
  split
  · rfl
  · simp only [alive_ite, alive_eccEnter, alive_countOverrun, alive_ev, alive_bump_loops, alive_lateAt, alive_abortLoop,
      alive_adaptHist, alive_setRun, alive_leaveLane, alive_settle, ite_self]

@[simp] theorem alive_abandonAll (l : List Nat) : (s.abandonAll l).alive k = s.alive k := by
  induction l generalizing s with
  | nil => rfl
  | cons l ls ih =>
    rw [State.abandonAll, ih]
    cases (s.run l).job with
    | none => exact alive_leaveLane ..
    | some j => exact alive_abandonLoop ..

@[simp] theorem alive_upTo (t : Instant) : (s.upTo t).alive k = s.alive k := by
  unfold State.upTo
  dsimp only
  rw [← alive_settle s k t, ← alive_abandonAll (s.settle t) k ((s.settle t).loopsOver t)]
  exact alive_of_fr (P := 0x340090020) (W := 0x80000000000000000) (by simp) (by decide) k

end Sys2Proof.Machine
end

section
/-! PROOF. An entry marked as run or taken after what is due at its instant, and one universal output at K. -/

namespace Sys2Proof.Machine

/-! ## The marks after the contributions of an instant -/

theorem aside_marks (s : State) : s.aside s.marks = s := rfl

theorem ranAt_eq (s : State) (e : Nat) (t : Instant) :
    s.ranAt e t = s.aside { s.marks with ran := Tab.set none s.ln.ran e (some t) } := rfl

theorem marks_aside (s : State) (x : Aside) : (s.aside x).marks = x := rfl

theorem marks_upTo (s : State) (t : Instant) : (s.upTo t).marks = s.marks := by
  have h := upTo_aside s s.marks t
  rw [aside_marks] at h
  rw [← h, marks_aside]

theorem ranAt_upTo (s : State) (e : Nat) (t u : Instant) : (s.ranAt e u).upTo t = (s.upTo t).ranAt e u := by
  have hr : (s.upTo t).ln.ran = s.ln.ran := congrArg Aside.ran (marks_upTo s t)
  rw [ranAt_eq, ← upTo_aside, ranAt_eq, marks_upTo, hr]

/-! ## Universal outputs at K -/

theorem uc_setUc (s : State) (n m : Nat) (c : UcChan) : (s.setUc n c).uc m = if m = n then c else s.uc m :=
  Tab.get_set ..

@[simp] theorem uc_ucStage (s : State) (n m : Nat) : (s.ucStage n).uc m = s.uc m := rfl

theorem slice_setSlice_same (s : State) (k : Nat) (c : Slice) : (s.setSlice k c).slice k = c := Tab.get_set_same ..

/-- Output `n` of a universal slice at K: it takes the record visible, or its readback is marked LATE. -/
def State.ucCommit (s : State) (ok : Bool) (n : Nat) : State :=
  if s.ucOut n && !s.flag Fld.UC_CFG_OUTKIND n then
    if ok && !s.ln.rolled.contains (s.ucCfg n).cmd then
      (s.setFlag Fld.UC_STAT_UNASSIGNED false n).ucTake n (s.piGet (s.ucCfg n).cmd)
    else s.setUc n { s.uc n with late := true }
  else s

theorem commitSlice_uni (s : State) (k : Nat) (ok : Bool) (hk : k < 4) :
    s.commitSlice k ok = (List.range 8).foldl (fun s i => s.ucCommit ok (8 * k + i)) s := by
  unfold State.commitSlice State.ucCommit
  simp only [hk, if_true]

theorem fr_ucCommit (b s : State) (ok : Bool) (n : Nat) :
    Fr 0x100020 (rb .UC_STAT) b (s.ucCommit ok n) ↔ Fr 0x100020 (rb .UC_STAT) b s :=
  Fr.iff (p := 0x100020) (w := rb .UC_STAT) (by unfold State.ucCommit; simp) rfl rfl

theorem ucTake_slices (s : State) (n : Nat) (r : W64) : (s.ucTake n r).io.slices = s.io.slices := by
  unfold State.ucTake
  dsimp only
  split <;> rfl

theorem ucCommit_slices (s : State) (ok : Bool) (n : Nat) : (s.ucCommit ok n).io.slices = s.io.slices := by
  unfold State.ucCommit
  split
  · split
    · exact ucTake_slices ..
    · rfl
  · rfl

theorem ucTake_uc_ne (s : State) {n m : Nat} (r : W64) (h : m ≠ n) : (s.ucTake n r).uc m = s.uc m := by
  unfold State.ucTake
  dsimp only
  split <;> rw [uc_ucStage, uc_setUc, if_neg h]

theorem ucCommit_uc_ne (s : State) (ok : Bool) {n m : Nat} (h : m ≠ n) : (s.ucCommit ok n).uc m = s.uc m := by
  unfold State.ucCommit
  split
  · split
    · exact ucTake_uc_ne _ _ h
    · rw [uc_setUc, if_neg h]
  · rfl

theorem instKept_ucTake (s : State) (n : Nat) (r : W64) : InstKept .UC_STAT n s (s.ucTake n r) := by
  unfold State.ucTake
  dsimp only
  split <;> exact instKept_setReg (s.setUc n _) _ _ _

theorem instKept_ucCommit (s : State) (ok : Bool) (n : Nat) : InstKept .UC_STAT n s (s.ucCommit ok n) := by
  unfold State.ucCommit
  split
  · split
    · exact (instKept_setReg s .UC_STAT n _).trans (instKept_ucTake _ _ _)
    · exact fun _ _ => rfl
  · exact fun _ _ => rfl

/-- Universal output `n` is launched. -/
structure State.UcLaunched (s : State) (n : Nat) : Prop where
  out : s.ucOut n = true
  kind : s.flag Fld.UC_CFG_OUTKIND n = false

theorem State.UcLaunched.of_fr {P W : Nat} {s t : State} {n : Nat} (h : s.UcLaunched n) (f : Fr P W s t)
    (hW : W &&& rb .UC_CFG = 0) : t.UcLaunched n where
  out := by
    have hm : t.ucMode n = s.ucMode n := fld_of_fr f Fld.UC_CFG_MODE n hW
    rw [State.ucOut, hm]
    exact h.out
  kind := (flag_of_fr f Fld.UC_CFG_OUTKIND n hW).trans h.kind

/-- It is, and record `r` is visible for it, which its producer has written. -/
structure State.UcDue (s : State) (n : Nat) (r : W64) : Prop extends s.UcLaunched n where
  made : s.ln.rolled.contains (s.ucCfg n).cmd = false
  rec_ : s.piGet (s.ucCfg n).cmd = r

theorem State.UcDue.of_fr {P W : Nat} {s t : State} {n : Nat} {r : W64} (h : s.UcDue n r) (f : Fr P W s t)
    (hi : P &&& 0x200 = 0) (hl : P &&& 0x10000 = 0) (hp : P &&& 0x40000000 = 0) (hW : W &&& rb .UC_CFG = 0) :
    t.UcDue n r := by
  have hc : t.ucCfg n = s.ucCfg n := by rw [State.ucCfg, f.1 .img hi, State.ucCfg]
  have hr : t.ln = s.ln := f.1 .ln hl
  exact ⟨h.toUcLaunched.of_fr f hW, by rw [hr, hc, h.made], by rw [hc, State.piGet, pi_of_fr f hp]; exact h.rec_⟩

/-- An output not reached in time keeps its command; its readback is LATE. -/
theorem ucCommit_missed {s : State} {n : Nat} (h : s.UcLaunched n) :
    (s.ucCommit false n).uc n = { s.uc n with late := true } := by
  rw [State.ucCommit, h.out, h.kind]
  exact (uc_setUc ..).trans (if_pos rfl)

/-- A record of kind 1 that authority stands behind becomes the command. -/
theorem ucTake_good {s : State} {n : Nat} {r : W64} (hk : recKind r = 1) (ha : recBit r qNoAuth = false) :
    (s.ucTake n r).uc n = { s.ucSetCmd n (recVal r) (s.uc n) with late := false } := by
  rw [State.ucTake, if_pos ⟨hk, by simp [ha]⟩, uc_ucStage, uc_setUc, if_pos rfl]

/-- What output `n` shows once it has taken the value `v` at K. -/
structure State.UcTook (s : State) (n : Nat) (v : Word) : Prop where
  cmd : (s.uc n).cmd = some v
  late : (s.uc n).late = false
  safed : (s.uc n).safed = false
  assigned : s.flag Fld.UC_STAT_UNASSIGNED n = false

theorem ucTook_ucTake {s : State} {n : Nat} {r : W64} (hk : recKind r = 1) (ha : recBit r qNoAuth = false)
    (hu : s.flag Fld.UC_STAT_UNASSIGNED n = false) : (s.ucTake n r).UcTook n (recVal r) where
  cmd := by rw [ucTake_good hk ha]; rfl
  late := by rw [ucTake_good hk ha]
  safed := by rw [ucTake_good hk ha]; rfl
  assigned := by
    rw [State.ucTake, if_pos ⟨hk, by simp [ha]⟩]
    exact (flag_setFlag_apart _ _ _ _ _ _ (by decide) (.inl (by decide))).trans hu

theorem ucTook_ucCommit {s : State} {n : Nat} {r : W64} (h : s.UcDue n r) (hk : recKind r = 1)
    (ha : recBit r qNoAuth = false) : (s.ucCommit true n).UcTook n (recVal r) := by
  rw [State.ucCommit, h.out, h.kind, h.made, h.rec_]
  exact ucTook_ucTake hk ha (flag_setFlag_same _ _ _ _ (by decide))

theorem ucTook_ucCommit_ne {s : State} {n m : Nat} {v : Word} (ok : Bool) (h : s.UcTook n v) (hn : n ≠ m) :
    (s.ucCommit ok m).UcTook n v := by
  have hu := ucCommit_uc_ne s ok hn
  refine ⟨hu ▸ h.cmd, hu ▸ h.late, hu ▸ h.safed, ?_⟩
  rw [← h.assigned]
  simp only [State.flag, State.fld, Fld.UC_STAT_UNASSIGNED_reg, instKept_ucCommit s ok m n hn]

theorem ucTook_commitSlice {s : State} {k i : Nat} {r : W64} (hk : k < 4) (hi : i < 8) (h : s.UcDue (8 * k + i) r)
    (hr : recKind r = 1) (ha : recBit r qNoAuth = false) : (s.commitSlice k true).UcTook (8 * k + i) (recVal r) := by
  rw [commitSlice_uni _ _ _ hk]
  refine foldl_of_mem (I := fun b : State => b.UcDue (8 * k + i) r) (P := fun b : State => b.UcTook (8 * k + i) (recVal r))
    (fun b x hb => hb.of_fr ((fr_ucCommit b b _ _).2 ((Fr.rfl' ..).2 trivial)) rfl rfl rfl rfl) (fun b x hb ht => ?_)
    (fun b hb => ucTook_ucCommit hb hr ha) h (List.mem_range.2 hi)
  by_cases hx : x = i
  · rw [hx]
    exact ucTook_ucCommit hb hr ha
  · exact ucTook_ucCommit_ne _ ht (by omega)

end Sys2Proof.Machine
end

section
/-! PROOF. Universal outputs committed at K (COMMIT_OWN_SLICES, of CommitAndPublish, O24). -/

namespace Sys2Proof.Machine

/-- An output not reached in time: the command `c` it has stays, and its readback is LATE. -/
structure State.UcMissed (s : State) (n : Nat) (c : Option Word) : Prop where
  cmd : (s.uc n).cmd = c
  late : (s.uc n).late = true

theorem ucMissed_ucCommit {s : State} {n : Nat} (h : s.UcLaunched n) : (s.ucCommit false n).UcMissed n (s.uc n).cmd := by
  constructor <;> rw [ucCommit_missed h]

theorem ucLaunched_ucCommit {s : State} {n : Nat} (ok : Bool) (m : Nat) (h : s.UcLaunched n) : (s.ucCommit ok m).UcLaunched n :=
  h.of_fr ((fr_ucCommit s s ok m).2 ((Fr.rfl' ..).2 trivial)) rfl

theorem ucCommit_false_cmd {s : State} {n : Nat} (m : Nat) (h : s.UcLaunched n) :
    ((s.ucCommit false m).uc n).cmd = (s.uc n).cmd := by
  by_cases hm : n = m
  · rw [← hm, (ucMissed_ucCommit h).cmd]
  · rw [ucCommit_uc_ne _ _ hm]

theorem ucMissed_commitSlice {s : State} {k i : Nat} (hk : k < 4) (hi : i < 8) (h : s.UcLaunched (8 * k + i)) :
    (s.commitSlice k false).UcMissed (8 * k + i) (s.uc (8 * k + i)).cmd := by
  rw [commitSlice_uni _ _ _ hk]
  refine foldl_of_mem (I := fun b : State => b.UcLaunched (8 * k + i) ∧ (b.uc (8 * k + i)).cmd = (s.uc (8 * k + i)).cmd)
    (P := fun b : State => b.UcMissed (8 * k + i) (s.uc (8 * k + i)).cmd)
    (fun b x hb => ⟨ucLaunched_ucCommit _ _ hb.1, (ucCommit_false_cmd _ hb.1).trans hb.2⟩) (fun b x hb hm => ?_)
    (fun b hb => hb.2 ▸ ucMissed_ucCommit hb.1) ⟨h, rfl⟩ (List.mem_range.2 hi)
  by_cases hx : x = i
  · rw [hx, ← hb.2]
    exact ucMissed_ucCommit hb.1
  · have hu := ucCommit_uc_ne b false (n := 8 * k + x) (m := 8 * k + i) (by omega)
    exact ⟨by rw [hu, hm.cmd], by rw [hu, hm.late]⟩

theorem commitSlice_slices (s : State) (k : Nat) (ok : Bool) (hk : k < 4) : (s.commitSlice k ok).io.slices = s.io.slices := by
  rw [commitSlice_uni _ _ _ hk]
  exact List.foldlRecOn (motive := fun b : State => b.io.slices = s.io.slices) _ _ rfl fun b hb x _ =>
    (ucCommit_slices b ok _).trans hb

/-! ## One slice at K -/

/-- What a commit in time ends of slice `k`: its watchdog's hold. -/
def State.unheld (s : State) (k : Nat) : State := s.setSlice k { s.slice k with held := false, stagesOff := false }

theorem fr_unheld (s : State) (k : Nat) : Fr 0x100000 0 s (s.unheld k) := by simp [State.unheld]

theorem commitOne_of_inTime {s : State} {k e : Nat} {t : Instant} (hk : k < 4) (hc : s.commitInTime k e t = true) :
    s.commitOne k e t = (((s.unheld k).commitSlice k true).takeDue (8 + k) e t).takeDue (48 + k) e t := by
  rw [State.commitOne, hc]
  simp only [if_true, hk, State.unheld]

theorem commitOne_of_missed {s : State} {k e : Nat} {t : Instant} (hk : k < 4) (hc : s.commitInTime k e t = false) :
    s.commitOne k e t = ((s.commitSlice k false).takeDue (8 + k) e t).takeDue (48 + k) e t := by
  rw [State.commitOne, hc]
  simp only [if_true, hk, Bool.false_eq_true, if_false]

/-- Marks that arrived are no part of what an output shows. -/
theorem State.UcTook.takeDue {s : State} {n : Nat} {v : Word} (h : s.UcTook n v) (c e : Nat) (t : Instant) :
    (s.takeDue c e t).UcTook n v := ⟨h.cmd, h.late, h.safed, h.assigned⟩

theorem ucTook_commitOne {s : State} {k i e : Nat} {t : Instant} {r : W64} (hk : k < 4) (hi : i < 8)
    (hc : s.commitInTime k e t = true) (h : s.UcDue (8 * k + i) r) (hr : recKind r = 1) (ha : recBit r qNoAuth = false) :
    (s.commitOne k e t).UcTook (8 * k + i) (recVal r) := by
  rw [commitOne_of_inTime hk hc]
  exact ((ucTook_commitSlice hk hi (h.of_fr (fr_unheld s k) rfl rfl rfl rfl) hr ha).takeDue _ _ _).takeDue _ _ _

theorem slice_of_slices {s t : State} (h : t.io.slices = s.io.slices) (k : Nat) : t.slice k = s.slice k := by
  rw [State.slice, h, State.slice]

theorem slice_commitOne_of_inTime {s : State} {k e : Nat} {t : Instant} (hk : k < 4) (hc : s.commitInTime k e t = true) :
    (s.commitOne k e t).slice k = { s.slice k with held := false, stagesOff := false } := by
  rw [commitOne_of_inTime hk hc]
  exact (slice_of_slices (commitSlice_slices _ _ _ hk) k).trans (slice_setSlice_same ..)

theorem ucMissed_commitOne {s : State} {k i e : Nat} {t : Instant} (hk : k < 4) (hi : i < 8)
    (hc : s.commitInTime k e t = false) (h : s.UcLaunched (8 * k + i)) :
    (s.commitOne k e t).UcMissed (8 * k + i) (s.uc (8 * k + i)).cmd := by
  rw [commitOne_of_missed hk hc]
  exact ⟨(ucMissed_commitSlice hk hi h).cmd, (ucMissed_commitSlice hk hi h).late⟩

theorem slice_commitOne_of_missed {s : State} {k e : Nat} {t : Instant} (hk : k < 4) (hc : s.commitInTime k e t = false) :
    (s.commitOne k e t).slice k = s.slice k := by
  rw [commitOne_of_missed hk hc]
  exact slice_of_slices (commitSlice_slices _ _ _ hk) k

/-! ## The command -/

/-- What the state is at K when the commits of entry `e` come: all that is due has been done, and the entry has run. -/
def State.atCommit (s : State) (e : Nat) (u : Instant) : State := (s.upTo u).ranAt e u

theorem fr_atCommit (s : State) (e : Nat) (u : Instant) : Fr 0x3c00fa120 0xa5c2c0000000000000002 s (s.atCommit e u) := by
  simp [State.atCommit]

theorem alive_ranAt (s : State) (e k : Nat) (t : Instant) : (s.ranAt e t).alive k = s.alive k := rfl

theorem alive_atCommit (s : State) (e k : Nat) (u : Instant) : (s.atCommit e u).alive k = s.alive k := by
  rw [State.atCommit, alive_ranAt, alive_upTo]

theorem rolled_atCommit (s : State) (e : Nat) (u : Instant) : (s.atCommit e u).ln.rolled = (s.upTo u).ln.rolled := by
  rw [State.atCommit, State.ranAt]

theorem piGet_atCommit (s : State) (e i : Nat) (u : Instant) : (s.atCommit e u).piGet i = (s.upTo u).piGet i := by
  rw [State.atCommit, State.ranAt, State.piGet, State.piGet]

theorem due_atCommit (s : State) (e : Nat) (u : Instant) : (s.atCommit e u).ln.due = s.ln.due := by
  rw [State.atCommit, State.ranAt]
  exact congrArg Aside.due (marks_upTo s u)

theorem commitInTime_atCommit (s : State) (k e e' : Nat) (u t : Instant) :
    (s.atCommit e' u).commitInTime k e t = s.commitInTime k e t := by
  have hs : (s.atCommit e' u).slice k = s.slice k :=
    slice_of_slices (congrArg Io.slices ((fr_atCommit s e' u).1 .io rfl)) k
  rw [State.commitInTime, hs, alive_atCommit, State.isDue, State.isDue, due_atCommit]
  rfl

theorem commitOwnSlices_eq {s : State} {e k : Nat} {u : Instant} {d : BitVec 128} (hd : s.entGrp e = some d)
    (hr : s.runsNow e d 5 u = true) (ha : s.acting = true) (ht : entTargets (s.entry e) = [k]) :
    exec (.commitOwnSlices e u) s = .next (((s.atCommit e u).commitOne k e u).sendSide [k]) := by
  show execCommitOwnSlices e u s = _
  rw [execCommitOwnSlices, hd]
  dsimp only
  rw [if_pos ⟨hr, ha⟩, ht, ranAt_upTo]
  rfl

theorem uc_sendSide (s : State) (ks : List Nat) (n : Nat) : (s.sendSide ks).uc n = s.uc n := by
  unfold State.sendSide
  split <;> rfl

theorem slice_sendSide (s : State) (ks : List Nat) (k : Nat) : (s.sendSide ks).slice k = s.slice k := by
  unfold State.sendSide
  split <;> rfl

theorem flag_sendSide (s : State) (ks : List Nat) (f : Field) (i : Nat) : (s.sendSide ks).flag f i = s.flag f i :=
  flag_of_fr (P := 2) (W := 0) (by simp) f i (by simp)

theorem sendSide_out_length {s : State} (ks : List Nat) (h : s.role = 1) :
    (s.sendSide ks).out.length = s.out.length + b2n s.pair := by
  rw [State.sendSide, h]
  cases s.pair <;> simp [State.emit, b2n]

theorem State.UcTook.sendSide {s : State} {n : Nat} {v : Word} (h : s.UcTook n v) (ks : List Nat) :
    (s.sendSide ks).UcTook n v where
  cmd := by rw [uc_sendSide, h.cmd]
  late := by rw [uc_sendSide, h.late]
  safed := by rw [uc_sendSide, h.safed]
  assigned := by rw [flag_sendSide, h.assigned]

theorem fr_commitOne_atCommit (s : State) (k e : Nat) (u : Instant) :
    Fr 0x3c01fa120 0x508000000000a5c2c0000000000000002 s ((s.atCommit e u).commitOne k e u) := by
  simp [State.atCommit]

theorem commitOwnSlices_out_length (s : State) (k e : Nat) (u : Instant) (ha : s.acting = true) :
    ((((s.atCommit e u).commitOne k e u).sendSide [k])).out.length = s.out.length + b2n s.pair := by
  have f := fr_commitOne_atCommit s k e u
  have hr : ((s.atCommit e u).commitOne k e u).role = 1 :=
    (fld_of_fr f Fld.BN_STATUS_ROLE 0 rfl).trans (beq_iff_eq.1 ha)
  rw [sendSide_out_length _ hr, State.pair, f.1 .base rfl, f.1 .out rfl, State.pair]

theorem completes_commitOwnSlices_inTime (e k i : Nat) (u : Instant) (d : BitVec 128) (r : W64) (s : State)
    (hd : s.entGrp e = some d) (hr : s.runsNow e d 5 u = true) (ha : s.acting = true)
    (ht : entTargets (s.entry e) = [k]) (hk : k < 4) (hi : i < 8) (hc : s.commitInTime k e u = true)
    (ho : s.ucOut (8 * k + i) = true) (hq : s.flag Fld.UC_CFG_OUTKIND (8 * k + i) = false)
    (hm : (s.upTo u).ln.rolled.contains (s.ucCfg (8 * k + i)).cmd = false)
    (hv : r = (s.upTo u).piGet (s.ucCfg (8 * k + i)).cmd) (h1 : recKind r = 1) (hn : recBit r qNoAuth = false) :
    Completes (.commitOwnSlices e u) s [.out, .regs, .levels, .sn, .pw, .ln, .le, .la, .bn, .io, .pi, .subc, .blk,
      .mem] [.SUP_ISLAND, .LN_STATUS, .LN_OVERRUN, .LN_SUB, .LE_OVERRUN, .LE_FAULT, .LE_LOAD, .LA_STATUS, .LA_SLOT,
      .LA_COUNT, .UC_STAT, .DC_STAT, .DC_GROUP] fun t =>
      (t.uc (8 * k + i)).cmd = some (recVal r) ∧ (t.uc (8 * k + i)).late = false ∧
      (t.uc (8 * k + i)).safed = false ∧ (t.slice k).held = false ∧ (t.slice k).stagesOff = false ∧
      t.flag Fld.UC_STAT_UNASSIGNED (8 * k + i) = false ∧ t.out.length = s.out.length + b2n s.pair := by
  have f := fr_atCommit s e u
  have hl : (s.atCommit e u).UcLaunched (8 * k + i) := State.UcLaunched.of_fr ⟨ho, hq⟩ f rfl
  have hg : (s.atCommit e u).ucCfg (8 * k + i) = s.ucCfg (8 * k + i) := by rw [State.ucCfg, f.1 .img rfl, State.ucCfg]
  have hdue : (s.atCommit e u).UcDue (8 * k + i) r := ⟨hl, by rw [hg, rolled_atCommit, hm], by rw [hg, piGet_atCommit, hv]⟩
  have hin := (commitInTime_atCommit s k e e u u).trans hc
  have took := (ucTook_commitOne hk hi hin hdue h1 hn).sendSide [k]
  have hs := (slice_sendSide _ [k] k).trans (slice_commitOne_of_inTime hk hin)
  exact .of (P := 0x3c01fa122) (fr_execCommitOwnSlices e u s) rfl rfl ⟨_, commitOwnSlices_eq hd hr ha ht, took.cmd, took.late,
    took.safed, by rw [hs], by rw [hs], took.assigned, commitOwnSlices_out_length s k e u ha⟩

theorem completes_commitOwnSlices_missed (e k i : Nat) (u : Instant) (d : BitVec 128) (s : State)
    (hd : s.entGrp e = some d) (hr : s.runsNow e d 5 u = true) (ha : s.acting = true)
    (ht : entTargets (s.entry e) = [k]) (hk : k < 4) (hi : i < 8) (hc : s.commitInTime k e u = false)
    (ho : s.ucOut (8 * k + i) = true) (hq : s.flag Fld.UC_CFG_OUTKIND (8 * k + i) = false) :
    Completes (.commitOwnSlices e u) s [.out, .regs, .levels, .sn, .pw, .ln, .le, .la, .bn, .io, .pi, .subc, .blk,
      .mem] [.SUP_ISLAND, .LN_STATUS, .LN_OVERRUN, .LN_SUB, .LE_OVERRUN, .LE_FAULT, .LE_LOAD, .LA_STATUS, .LA_SLOT,
      .LA_COUNT, .UC_STAT, .DC_STAT, .DC_GROUP] fun t =>
      (t.uc (8 * k + i)).cmd = (s.uc (8 * k + i)).cmd ∧ (t.uc (8 * k + i)).late = true ∧ t.slice k = s.slice k := by
  have f := fr_atCommit s e u
  have hio : (s.atCommit e u).io = s.io := f.1 .io rfl
  have hl : (s.atCommit e u).UcLaunched (8 * k + i) := State.UcLaunched.of_fr ⟨ho, hq⟩ f rfl
  have hin := (commitInTime_atCommit s k e e u u).trans hc
  have missed := ucMissed_commitOne hk hi hin hl
  refine .of (P := 0x3c01fa122) (fr_execCommitOwnSlices e u s) rfl rfl ⟨_, commitOwnSlices_eq hd hr ha ht, ?_, ?_, ?_⟩
  · rw [uc_sendSide, missed.cmd, State.uc, hio, State.uc]
  · rw [uc_sendSide, missed.late]
  · rw [slice_sendSide, slice_commitOne_of_missed hk hin]
    exact slice_of_slices (congrArg Io.slices hio) k

theorem commitOwnSlices_of_not_acting {s : State} (e : Nat) (u : Instant) (h : s.acting = false) :
    exec (.commitOwnSlices e u) s = .next s := by
  show execCommitOwnSlices e u s = _
  rw [execCommitOwnSlices]
  cases s.entGrp e <;> simp [h]

end Sys2Proof.Machine
end

section
/-! PROOF. Streams published at K (PUBLISH_STREAMS, of CommitAndPublish, O24), and the obligation. -/

namespace Sys2Proof.Machine

/-! ## A frame that leaves at once -/

/-- A stream frame may leave port `p` at once: tables loaded and a link, its gate open, room in its window. -/
structure State.StreamFree (s : State) (p : Nat) : Prop where
  port : s.portOpen p = true
  gate : s.gateOpen p 6 = true
  fits : s.fitsWindow p = true

theorem State.StreamFree.of_fr {P W : Nat} {s t : State} {p : Nat} (h : s.StreamFree p) (f : Fr P W s t)
    (hi : P &&& 0x200 = 0) (hm : P &&& 0x4000 = 0) (hp : P &&& 0x800000 = 0) (hW : W &&& rb .PN_PORT = 0) :
    t.StreamFree p := by
  have hmt := mt_of_fr f hm
  have hpn : t.pn = s.pn := f.1 .pn hp
  have htime : t.portTime p = s.portTime p := by
    have hsel : t.fld Fld.PN_PORT_TB p = s.fld Fld.PN_PORT_TB p := fld_of_fr f _ _ hW
    rw [State.portTime, hsel, State.timeOf, State.tbase, hmt, pt_of_mt hmt]
    rfl
  have hlist : t.gatesOf p = s.gatesOf p := by rw [State.gatesOf, f.1 .img hi, State.gatesOf]
  have hfwd : t.flag Fld.PN_PORT_FWD p = s.flag Fld.PN_PORT_FWD p := flag_of_fr f _ _ hW
  have hlink : t.flag Fld.PN_PORT_LINK p = s.flag Fld.PN_PORT_LINK p := flag_of_fr f _ _ hW
  have hwait : t.wireWait p = s.wireWait p := by rw [State.wireWait, hpn, htime, State.wireWait]
  refine ⟨?_, ?_, ?_⟩
  · rw [State.portOpen, State.linkUp, hfwd, hlink]
    exact h.port
  · rw [State.gateOpen, hpn]
    exact h.gate
  · rw [State.fitsWindow, hlist, htime, hwait]
    exact h.fits

theorem netSend_of_streamFree {s : State} {p : Nat} {f : NetWait} (h : s.StreamFree p) (hc : f.cls = 6) :
    s.netSend p f = s.streamOut p f := by
  have hlate : s.tooLateFor p f = false := by
    rw [State.tooLateFor]
    cases f.k <;> simp [h.gate]
  rw [State.netSend, h.port, hlate, State.netTry, hc, h.gate, h.fits]
  simp

theorem streamOut_sends (s : State) (p vlan : Nat) (k : Option Instant) (h : BitVec 256) (rs : List W64) :
    Sends [.stream p (streamFrame vlan h rs)] s (s.streamOut p { cls := 6, vlan := vlan, k := k, hdr := h, recs := rs }) :=
  rfl

theorem streamOut_ln (s : State) (p : Nat) (f : NetWait) : (s.streamOut p f).ln = s.ln := by
  unfold State.streamOut State.netOut
  dsimp only
  split <;> rfl

/-! ## One stream -/

/-- What stream `n` counts from a frame at `k` on. -/
def State.counted (s : State) (n : Nat) (c : PubCfg) (k : Instant) : Pub :=
  { seq := pubSeq (Tab.get {} s.ln.pubs n) (Config.period c.cls) k, started := true, base := k, resumed := false }

/-- The frame at `k` counted. -/
def State.count (s : State) (n : Nat) (c : PubCfg) (k : Instant) : State :=
  { s with ln := { s.ln with pubs := Tab.set {} s.ln.pubs n (s.counted n c k) } }

theorem fr_count {P W : Nat} (b s : State) (n : Nat) (c : PubCfg) (k : Instant) (hP : P &&& 0x10000 = 0x10000)
    (hW : W &&& 0 = 0) : Fr P W b (s.count n c k) ↔ Fr P W b s :=
  Fr.iff (p := 0x10000) (w := 0) (by simp [State.count]) hP hW

/-- The frame of stream `n` at `k`, as it is handed to a port. -/
def State.streamOf (s : State) (n : Nat) (c : PubCfg) (k : Instant) : NetWait :=
  { cls := 6, vlan := c.vlan, k := some k, hdr := s.pubHeader n c (s.counted n c k).seq k, recs := c.points.map s.pubRec }

theorem publish_of_streamFree {s : State} {n : Nat} {c : PubCfg} (k : Instant) (hc : s.pubCfg n = some c) (hr : c.repl = false)
    (he : s.epochSendable = true) (h : s.StreamFree c.port) :
    s.publish k n = (s.count n c k).streamOut c.port (s.streamOf n c k) := by
  have hs : (s.count n c k).epochSendable = true := he
  have hfree : (s.count n c k).StreamFree c.port := ⟨h.port, h.gate, h.fits⟩
  rw [State.publish, hc]
  show (if (s.count n c k).epochSendable = true then
    if c.repl = true then _ else (s.count n c k).netSend c.port (s.streamOf n c k) else _) = _
  rw [if_pos hs, hr, netSend_of_streamFree hfree rfl]
  rfl

theorem streamOf_aside (s : State) (x : Aside) (hx : x.pubs = s.ln.pubs) (n : Nat) (c : PubCfg) (k : Instant) :
    (s.aside x).streamOf n c k = s.streamOf n c k := by
  have h : (s.aside x).counted n c k = s.counted n c k := by
    rw [State.counted, show (s.aside x).ln.pubs = s.ln.pubs from hx, State.counted]
  rw [State.streamOf, h]
  rfl

/-! ## The entries of K -/

/-- The entries `es` taken as arrived, and run. -/
def State.entriesRun (s : State) (k : Instant) (es : List Nat) : State :=
  es.foldl (fun s e => (s.takeDue 4 e k).ranAt e k) s

theorem entriesRun_eq (s : State) (k : Instant) (es : List Nat) :
    ∃ due ran, s.entriesRun k es = s.aside { s.marks with due := due, ran := ran } := by
  induction es generalizing s with
  | nil => exact ⟨_, _, rfl⟩
  | cons e es ih =>
    obtain ⟨due, ran, h⟩ := ih ((s.takeDue 4 e k).ranAt e k)
    exact ⟨due, ran, h⟩

/-- All that is due at K done, after the entries taken or before them. -/
theorem upTo_entriesRun (s : State) (k u : Instant) (es : List Nat) :
    ∃ due ran, (s.entriesRun k es).upTo u = (s.upTo u).aside { (s.upTo u).marks with due := due, ran := ran } := by
  obtain ⟨due, ran, h⟩ := entriesRun_eq s k es
  exact ⟨due, ran, by rw [h, ← upTo_aside, marks_upTo]⟩

theorem publishStreams_eq {s : State} {e n : Nat} {u : Instant} {d : BitVec 128} (hd : s.entGrp e = some d)
    (hr : s.runsNow e d 7 u = true) (ha : s.acting = true) (hdue : s.isDue 4 e u = true) (hn : s.streamsAt u = [n]) :
    exec (.publishStreams e u) s = .next (((s.entriesRun u (s.publishDue u)).upTo u).publish u n) := by
  show execPublishStreams e u s = _
  rw [execPublishStreams, hd]
  dsimp only
  rw [if_pos ⟨hr, ha⟩, if_pos hdue, hn, List.foldl_cons, List.foldl_nil, State.entriesRun]

theorem publishStreams_of_not_due {s : State} {e : Nat} {u : Instant} {d : BitVec 128} (hd : s.entGrp e = some d)
    (hr : s.runsNow e d 7 u = true) (ha : s.acting = true) (hdue : s.isDue 4 e u = false) :
    exec (.publishStreams e u) s = .next (s.ranAt e u) := by
  show execPublishStreams e u s = _
  rw [execPublishStreams, hd]
  dsimp only
  rw [if_pos ⟨hr, ha⟩, hdue]
  rfl

theorem publishStreams_of_not_acting {s : State} (e : Nat) (u : Instant) (h : s.acting = false) :
    exec (.publishStreams e u) s = .next s := by
  show execPublishStreams e u s = _
  rw [execPublishStreams]
  cases s.entGrp e <;> simp [h]

theorem fr_entriesRun_upTo (s : State) (u : Instant) (es : List Nat) :
    Fr 0x3c00fa120 0xa5c2c0000000000000002 s ((s.entriesRun u es).upTo u) := by
  simp [State.entriesRun]

theorem epochSendable_congr {P W : Nat} {s t : State} (f : Fr P W s t) (hW : W &&& rb .PK_STATUS = 0)
    (hp : t.marks.storePend = s.marks.storePend) (hk : t.marks.keyEnd = s.marks.keyEnd) :
    t.epochSendable = s.epochSendable := by
  have h1 : t.flag Fld.PK_STATUS_PRESENT = s.flag Fld.PK_STATUS_PRESENT := flag_of_fr f _ _ hW
  have h2 : t.flag Fld.PK_STATUS_WRITABLE = s.flag Fld.PK_STATUS_WRITABLE := flag_of_fr f _ _ hW
  have h3 : t.flag Fld.PK_STATUS_SERIAL_OK = s.flag Fld.PK_STATUS_SERIAL_OK := flag_of_fr f _ _ hW
  rw [State.epochSendable, State.keyOk, h1, h2, h3, show t.bn.storePend = s.bn.storePend from hp,
    show t.pw.keyEnd = s.pw.keyEnd from hk]
  rfl

theorem completes_publishStreams_sent (e n : Nat) (u : Instant) (d : BitVec 128) (c : PubCfg) (s v : State)
    (hd : s.entGrp e = some d) (hr : s.runsNow e d 7 u = true) (ha : s.acting = true) (hdue : s.isDue 4 e u = true)
    (hn : s.streamsAt u = [n]) (hc : s.pubCfg n = some c) (hrep : c.repl = false) (he : s.epochSendable = true)
    (hport : s.portOpen c.port = true) (hgate : s.gateOpen c.port 6 = true) (hfits : s.fitsWindow c.port = true)
    (hv : v = s.upTo u) :
    Completes (.publishStreams e u) s [.out, .regs, .levels, .sn, .pw, .ln, .le, .la, .bn, .pn, .pi, .subc, .blk,
      .mem] [.SUP_ISLAND, .LN_STATUS, .LN_OVERRUN, .LN_SUB, .LE_OVERRUN, .LE_FAULT, .LE_LOAD, .LA_STATUS, .LA_SLOT,
      .LA_COUNT] fun t =>
      Sends [.stream c.port (streamFrame c.vlan (v.pubHeader n c (pubSeq (Tab.get {} s.ln.pubs n) (Config.period c.cls) u) u)
        (c.points.map v.pubRec))] s t ∧
      Tab.get {} t.ln.pubs n =
        { seq := pubSeq (Tab.get {} s.ln.pubs n) (Config.period c.cls) u, started := true, base := u, resumed := false } := by
  have f := fr_entriesRun_upTo s u (s.publishDue u)
  obtain ⟨due, ran, ha'⟩ := upTo_entriesRun s u u (s.publishDue u)
  have hm : ((s.entriesRun u (s.publishDue u)).upTo u).marks = { s.marks with due := due, ran := ran } := by
    rw [ha', marks_aside, marks_upTo]
  have hpub := publishStreams_eq hd hr ha hdue hn
  generalize (s.entriesRun u (s.publishDue u)).upTo u = a at f ha' hm hpub
  have hpubs : a.ln.pubs = s.ln.pubs := congrArg Aside.pubs hm
  have hcount : a.counted n c u = s.counted n c u := by rw [State.counted, hpubs, State.counted]
  have hcfg : a.pubCfg n = some c := by rw [State.pubCfg, f.1 .img rfl]; exact hc
  have hsend := (epochSendable_congr f rfl (by rw [hm]) (by rw [hm])).trans he
  have hfree : a.StreamFree c.port := State.StreamFree.of_fr ⟨hport, hgate, hfits⟩ f rfl rfl rfl rfl
  have hout : a.out = s.out := f.1 .out rfl
  rw [publish_of_streamFree u hcfg hrep hsend hfree] at hpub
  have hstream : a.streamOf n c u = v.streamOf n c u := by rw [ha', ← hv, streamOf_aside _ _ rfl]
  have hvcount : v.counted n c u = s.counted n c u := by
    rw [State.counted, show v.ln.pubs = s.ln.pubs by rw [hv]; exact congrArg Aside.pubs (marks_upTo s u), State.counted]
  refine .next hpub (P := 0x3c08fa122) (W := 0xa5c2c0000000000000002) ?_ rfl rfl ⟨?_, ?_⟩
  · exact (fr_streamOut s _ _ _ rfl rfl).2 ((fr_count s a n c u rfl rfl).2 (f.mono rfl rfl))
  · rw [hstream, State.streamOf, hvcount, Sends, ← hout]
    exact streamOut_sends ..
  · rw [streamOut_ln]
    exact (Tab.get_set_same ..).trans hcount

theorem ranAt_ran_same (s : State) (e : Nat) (t : Instant) : Tab.get none (s.ranAt e t).ln.ran e = some t :=
  Tab.get_set_same none s.ln.ran e (some t)

theorem completes_publishStreams_missed (e : Nat) (u : Instant) (d : BitVec 128) (s : State) (hd : s.entGrp e = some d)
    (hr : s.runsNow e d 7 u = true) (ha : s.acting = true) (hdue : s.isDue 4 e u = false) :
    Completes (.publishStreams e u) s [.ln] [] fun t => Tab.get none t.ln.ran e = some u ∧ t.ln.pubs = s.ln.pubs :=
  .next (publishStreams_of_not_due hd hr ha hdue) (P := 0x10000) (W := 0) (by simp) rfl rfl ⟨ranAt_ran_same s e u, rfl⟩

theorem pubSeq_next (p : Pub) (n : Nat) (k : Instant) (hs : p.started = true) (hn : 0 < n) (hb : p.base.toNat + n < 2 ^ 64)
    (hk : k = p.base + BitVec.ofNat 64 n) : pubSeq p n k = (p.seq + 1) % 4294967296 := by
  have hd : (k - p.base).toNat = n := by
    rw [hk]
    bv_omega
  have hq : n.pred / n = 0 := Nat.div_eq_of_lt (Nat.pred_lt (by omega))
  rw [pubSeq, if_pos (Or.inl hs), hd, hq]

/-- Settles O24: the marks that an entry leaves commute with what is due at K (`upTo`), so a commit or a frame finds at K what
`upTo` gives; then each output and each stream is read through its own operation. -/
theorem commitAndPublish : Obligations.CommitAndPublish :=
  ⟨completes_commitOwnSlices_inTime, completes_commitOwnSlices_missed,
    fun e u _ h => ⟨commitOwnSlices_of_not_acting e u h, publishStreams_of_not_acting e u h⟩,
    completes_publishStreams_sent, completes_publishStreams_missed, pubSeq_next⟩

end Sys2Proof.Machine
end

section
/-! PROOF. Subscribed frames received, applied and missed (Subscriptions, O19). -/

namespace Sys2Proof.Machine

/-! ## A frame received (R474) -/

/-- The frame that FRAME_INGRESS policed taken out of those that wait for their subscription. -/
def State.unbox (s : State) (n p q : Nat) : State := { s with pn := { s.pn with inbox := s.pn.inbox.erase (n, p, q) } }

theorem fr_unbox {P W : Nat} (b s : State) (n p q : Nat) (hP : P &&& 0x800000 = 0x800000) (hW : W &&& 0 = 0) :
    Fr P W b (s.unbox n p q) ↔ Fr P W b s :=
  Fr.iff (p := 0x800000) (w := 0) (by simp [State.unbox]) hP hW

section
variable {n : Fin 4096} {p : Fin 2} {q : BitVec 16} {h : BitVec 256} {rs : List W64} {c : SubCfg} {s : State}

theorem subFrameAccept_late (hs : s.img.subs[n.val]? = some c) (hb : s.pn.inbox.contains (n.val, p.val + 1, q.toNat) = true)
    (hv : Instant.before s.pt (BitVec.ofNat 64 (bits h 255 192)) = false) :
    exec (.subFrameAccept n p q h rs) s = .next (((s.unbox n (p + 1) q.toNat).bump Fld.LN_DISCARD_LATE_ARRIVAL).ev 97) := by
  have hv' : Instant.before (s.unbox n (p + 1) q.toNat).pt (BitVec.ofNat 64 (bits h 255 192)) = false := hv
  rw [exec_subFrameAccept, execSubFrameAccept, hs]
  dsimp only
  rw [if_pos hb]
  exact (if_neg (by simp)).trans (if_pos (by rw [← State.unbox, hv']; rfl))

theorem subFrameAccept_timely (hs : s.img.subs[n.val]? = some c) (hb : s.pn.inbox.contains (n.val, p.val + 1, q.toNat) = true)
    (hv : Instant.before s.pt (BitVec.ofNat 64 (bits h 255 192)) = true) (hr : c.repl = false) :
    exec (.subFrameAccept n p q h rs) s = .next ((s.unbox n (p + 1) q.toNat).judgeSub n c h rs) := by
  have hv' : Instant.before (s.unbox n (p + 1) q.toNat).pt (BitVec.ofNat 64 (bits h 255 192)) = true := hv
  rw [exec_subFrameAccept, execSubFrameAccept, hs]
  dsimp only
  rw [if_pos hb]
  exact (if_neg (by simp)).trans ((if_neg (by rw [← State.unbox, hv']; simp)).trans (if_neg (by simp [hr])))

end

section
variable {s : State} {n : Nat} {c : SubCfg} {h : BitVec 256} {rs : List W64}

theorem judgeSub_malformed (hm : bits h 31 24 ≠ c.points.length ∨ rs.length ≠ c.points.length ∨ bits h 17 16 ≠ c.cls) :
    s.judgeSub n c h rs = s.setFlag Fld.LN_SUB_MALFORMED true n := by
  rw [State.judgeSub, if_pos hm]

theorem judgeSub_old (hl : bits h 31 24 = c.points.length) (hr : rs.length = c.points.length) (hc : bits h 17 16 = c.cls)
    (he : bits h 127 96 + 1 < Tab.get 0 s.ln.epochs c.binary) :
    s.judgeSub n c h rs = (s.bump Fld.LN_DISCARD_OLD_EPOCH).ev 97 := by
  rw [State.judgeSub, if_neg (by simp [hl, hr, hc]), if_pos he]

/-- Neither an applied instant nor a pending frame bars it. -/
theorem judgeSub_pends (hl : bits h 31 24 = c.points.length) (hr : rs.length = c.points.length) (hc : bits h 17 16 = c.cls)
    (he : Tab.get 0 s.ln.epochs c.binary ≤ bits h 127 96 + 1) (hd : bitAt h 8 = false)
    (ha : (s.sub n).applied = none) (hp : (s.sub n).pend = none) :
    s.judgeSub n c h rs = s.pendSub n c (BitVec.ofNat 64 (bits h 255 192)) (bits h 127 96) rs := by
  rw [State.judgeSub, if_neg (by simp [hl, hr, hc]), if_neg (by omega)]
  simp [hd, ha, hp]

end

theorem sub_setSubSt_same (s : State) (n : Nat) (x : Sub) : (s.setSubSt n x).sub n = x := Tab.get_set_same ..

theorem sub_of_ln {s t : State} (h : t.ln = s.ln) (n : Nat) : t.sub n = s.sub n := by rw [State.sub, h, State.sub]

theorem place_ln (s : State) (is : List Nat) (rs : List W64) : (s.place is rs).ln = s.ln :=
  ((fr_place (P := 0x80000000) (W := 0) s s is rs rfl rfl).2 (by simp)).1 .ln rfl

/-- What a pending frame leaves of its stream and of the epochs. -/
theorem pendSub_ln (s : State) (n : Nat) (c : SubCfg) (v : Instant) (ep : Nat) (rs : List W64) :
    (s.pendSub n c v ep rs).ln = { s.ln with
      subs := Tab.set {} s.ln.subs n { s.sub n with
        pend := some { validAt := v, epoch := BitVec.ofNat 32 ep, recs := rs }
        grid := some (gridOf (s.sub n).grid v (Config.period c.cls)) }
      epochs := Tab.set 0 s.ln.epochs c.binary (max (Tab.get 0 s.ln.epochs c.binary) (ep + 1)) } :=
  place_ln ..

theorem pendSub_pend (s : State) (n : Nat) (c : SubCfg) (v : Instant) (ep : Nat) (rs : List W64) :
    ((s.pendSub n c v ep rs).sub n).pend = some { validAt := v, epoch := BitVec.ofNat 32 ep, recs := rs } := by
  rw [State.sub, pendSub_ln, Tab.get_set_same]

theorem pendSub_epochs (s : State) (n : Nat) (c : SubCfg) (v : Instant) (ep : Nat) (rs : List W64) :
    Tab.get 0 (s.pendSub n c v ep rs).ln.epochs c.binary = max (Tab.get 0 s.ln.epochs c.binary) (ep + 1) := by
  rw [pendSub_ln, Tab.get_set_same]

theorem pendSub_subc (s : State) (n : Nat) {c : SubCfg} {i : Nat} (hc : c.points = [i]) (v : Instant) (ep : Nat) (r : W64) :
    (s.pendSub n c v ep [r]).subc = Tab.set Rec.default s.subc (2 * i + 1) r := by
  rw [State.pendSub, hc]
  rfl

theorem flag_pendSub_seen (s : State) (n : Nat) (c : SubCfg) (v : Instant) (ep : Nat) (rs : List W64) :
    (s.pendSub n c v ep rs).flag Fld.LN_SUB_SEEN n = true := flag_setFlag_same _ _ _ _ (by decide)

/-! ## LATE shown, and an instant missed (R112) -/

theorem fr_inputLate_self (s : State) : Fr 0x120 0x40000000000000000 s s.inputLate := by simp

theorem inputLate_ln (s : State) : s.inputLate.ln = s.ln := (fr_inputLate_self s).1 .ln rfl

theorem inputLate_subc (s : State) : s.inputLate.subc = s.subc := (fr_inputLate_self s).1 .subc rfl

theorem fld_inputLate_missed (s : State) (n : Nat) : s.inputLate.fld Fld.LN_SUB_MISSED n = s.fld Fld.LN_SUB_MISSED n :=
  fld_of_fr (fr_inputLate_self s) _ _ rfl

theorem missSub_ln (s : State) (k : Nat) (is : List Nat) : (s.missSub k is).ln = s.ln := by
  induction is generalizing s with
  | nil => rfl
  | cons i is ih => exact ih _

theorem missSub_regs (s : State) (k : Nat) (is : List Nat) : (s.missSub k is).regs = s.regs := by
  induction is generalizing s with
  | nil => rfl
  | cons i is ih => exact ih _

theorem applySub_ln (s : State) (is : List Nat) : (s.applySub is).ln = s.ln := by
  induction is generalizing s with
  | nil => rfl
  | cons i is ih => exact ih _

section
variable (s : State) (n : Nat) (c : SubCfg) (g : Instant) (k : Nat)

theorem missAt_sub : (s.missAt n c g k).sub n = { s.sub n with grid := some (g.plus (k * Config.period c.cls)) } := by
  rw [State.missAt, sub_of_ln (inputLate_ln _)]
  exact (sub_of_ln (missSub_ln ..) n).trans (sub_setSubSt_same ..)

theorem fld_missAt_missed :
    (s.missAt n c g k).fld Fld.LN_SUB_MISSED n = satAdd Fld.LN_SUB_MISSED.top (s.fld Fld.LN_SUB_MISSED n) k := by
  rw [State.missAt, fld_inputLate_missed, fld_bump_same _ _ _ _ (by decide), fld_congr (missSub_regs ..)]
  rfl

theorem missAt_subApplied {i : Nat} (hc : c.points = [i]) :
    (s.missAt n c g k).subApplied i = lateRec (s.subCfg i) (s.subApplied i) k := by
  rw [State.missAt, State.subApplied, inputLate_subc, hc]
  exact Tab.get_set_same ..

end

/-! ## VALID_AT (R110, R114) -/

/-- The pending frame `f` of stream `n` applied. -/
def State.applyFrame (s : State) (n : Nat) (c : SubCfg) (f : PendFrame) : State :=
  (((s.setSubSt n { s.sub n with
      pend := none, applied := some f.validAt, grid := some (f.validAt.plus (Config.period c.cls)) }).applySub
    c.points).setFld Fld.LN_SUB_MISSED 0 n).inputLate

/-- The pending frame `f` of stream `n` gone, and its instant missed. -/
def State.missFrame (s : State) (n : Nat) (c : SubCfg) (f : PendFrame) : State :=
  (s.setSubSt n { s.sub n with pend := none }).missAt n c f.validAt 1

/-- Where no expected instant lies before VALID_AT, only its own is applied or missed. -/
theorem fallDue_eq {s : State} {n : Nat} {c : SubCfg} {f : PendFrame} (hs : s.img.subs[n]? = some c)
    (hp : (s.sub n).pend = some f) (hg : ((s.sub n).grid.all fun g => !Instant.before g f.validAt) = true) :
    s.fallDue n = if c.coord && s.flag Fld.MT_STATE_COORD_DEGRADED then s.missFrame n c f else s.applyFrame n c f := by
  rw [State.fallDue, hs, hp]
  cases hq : (s.sub n).grid with
  | none => rfl
  | some g =>
    have hb : Instant.before g f.validAt = false := by simpa [hq] using hg
    simp only [hb]
    rfl

theorem validAtApply_of_due {s : State} {n : Fin 4096} {f : PendFrame} (hp : (s.sub n.val).pend = some f)
    (hv : Instant.atOrBefore f.validAt s.pt = true) : exec (.validAtApply n) s = .next (s.fallDue n.val) := by
  rw [exec_validAtApply, execValidAtApply, Sub.dueAt, hp]
  exact congrArg _ (if_pos hv)

theorem applyFrame_sub (s : State) (n : Nat) (c : SubCfg) (f : PendFrame) :
    (s.applyFrame n c f).sub n = { s.sub n with
      pend := none, applied := some f.validAt, grid := some (f.validAt.plus (Config.period c.cls)) } := by
  rw [State.applyFrame, sub_of_ln (inputLate_ln _)]
  exact (sub_of_ln (applySub_ln ..) n).trans (sub_setSubSt_same ..)

theorem applyFrame_subApplied (s : State) (n : Nat) {c : SubCfg} {i : Nat} (hc : c.points = [i]) (f : PendFrame) :
    (s.applyFrame n c f).subApplied i = s.subPending i := by
  rw [State.applyFrame, State.subApplied, inputLate_subc, hc]
  exact Tab.get_set_same ..

theorem fld_applyFrame_missed (s : State) (n : Nat) (c : SubCfg) (f : PendFrame) :
    (s.applyFrame n c f).fld Fld.LN_SUB_MISSED n = 0 := by
  rw [State.applyFrame, fld_inputLate_missed, fld_setFld_same _ _ _ _ (by decide), Nat.zero_mod]

/-! ## The commands -/

theorem completes_subFrameAccept_late (n : Fin 4096) (p : Fin 2) (q : BitVec 16) (h : BitVec 256) (rs : List W64) (c : SubCfg)
    (s : State) (hs : s.img.subs[n.val]? = some c) (hb : s.pn.inbox.contains (n.val, p.val + 1, q.toNat) = true)
    (hv : Instant.before s.pt (BitVec.ofNat 64 (bits h 255 192)) = false) :
    Completes (.subFrameAccept n p q h rs) s [.regs, .levels, .pn] [.LN_DISCARD] fun t =>
      t.fld Fld.LN_DISCARD_LATE_ARRIVAL = satAdd Fld.LN_DISCARD_LATE_ARRIVAL.top (s.fld Fld.LN_DISCARD_LATE_ARRIVAL) 1 ∧
      Raised 97 t ∧ t.subc = s.subc :=
  .next (subFrameAccept_late hs hb hv) (P := 0x800120) (W := rb .LN_DISCARD) (by simp [fr_unbox]) rfl rfl
    ⟨by rw [fld_ev, fld_bump_same _ _ _ _ (by decide)]; rfl, mem_ev _ _ rfl, ev_subc ..⟩

theorem completes_subFrameAccept_malformed (n : Fin 4096) (p : Fin 2) (q : BitVec 16) (h : BitVec 256) (rs : List W64)
    (c : SubCfg) (s : State) (hs : s.img.subs[n.val]? = some c)
    (hb : s.pn.inbox.contains (n.val, p.val + 1, q.toNat) = true)
    (hv : Instant.before s.pt (BitVec.ofNat 64 (bits h 255 192)) = true) (hr : c.repl = false)
    (hm : bits h 31 24 ≠ c.points.length ∨ rs.length ≠ c.points.length ∨ bits h 17 16 ≠ c.cls) :
    Completes (.subFrameAccept n p q h rs) s [.regs, .pn] [.LN_SUB] fun t =>
      t.flag Fld.LN_SUB_MALFORMED n.val = true ∧ InstKept .LN_SUB n.val s t := by
  refine .next (subFrameAccept_timely hs hb hv hr) (P := 0x800020) (W := rb .LN_SUB) ?_ rfl rfl ?_ <;>
    rw [judgeSub_malformed hm]
  · simp [fr_unbox]
  · exact ⟨flag_setFlag_same _ _ _ _ (by decide), instKept_setReg (s.unbox n (p + 1) q.toNat) _ _ _⟩

theorem completes_subFrameAccept_old (n : Fin 4096) (p : Fin 2) (q : BitVec 16) (h : BitVec 256) (rs : List W64) (c : SubCfg)
    (s : State) (hs : s.img.subs[n.val]? = some c) (hb : s.pn.inbox.contains (n.val, p.val + 1, q.toNat) = true)
    (hv : Instant.before s.pt (BitVec.ofNat 64 (bits h 255 192)) = true) (hr : c.repl = false)
    (hl : bits h 31 24 = c.points.length) (hn : rs.length = c.points.length) (hc : bits h 17 16 = c.cls)
    (he : bits h 127 96 + 1 < Tab.get 0 s.ln.epochs c.binary) :
    Completes (.subFrameAccept n p q h rs) s [.regs, .levels, .pn] [.LN_DISCARD] fun t =>
      t.fld Fld.LN_DISCARD_OLD_EPOCH = satAdd Fld.LN_DISCARD_OLD_EPOCH.top (s.fld Fld.LN_DISCARD_OLD_EPOCH) 1 ∧
      Raised 97 t := by
  refine .next (subFrameAccept_timely hs hb hv hr) (P := 0x800120) (W := rb .LN_DISCARD) ?_ rfl rfl ?_ <;>
    rw [judgeSub_old (s := s.unbox n (p + 1) q.toNat) hl hn hc he]
  · simp [fr_unbox]
  · exact ⟨by rw [fld_ev, fld_bump_same _ _ _ _ (by decide)]; rfl, mem_ev _ _ rfl⟩

theorem completes_subFrameAccept_pends (n : Fin 4096) (p : Fin 2) (q : BitVec 16) (h : BitVec 256) (r : W64) (i : Nat)
    (c : SubCfg) (s : State) (hs : s.img.subs[n.val]? = some c)
    (hb : s.pn.inbox.contains (n.val, p.val + 1, q.toNat) = true)
    (hv : Instant.before s.pt (BitVec.ofNat 64 (bits h 255 192)) = true) (hr : c.repl = false) (hi : c.points = [i])
    (hl : bits h 31 24 = 1) (hc : bits h 17 16 = c.cls) (he : Tab.get 0 s.ln.epochs c.binary ≤ bits h 127 96 + 1)
    (hd : bitAt h 8 = false) (ha : (s.sub n.val).applied = none) (hp : (s.sub n.val).pend = none) :
    Completes (.subFrameAccept n p q h [r]) s [.regs, .pn, .ln, .subc, .bn] [.LN_SUB] fun t =>
      t.flag Fld.LN_SUB_SEEN n.val = true ∧ t.subPending i = r ∧ t.subApplied i = s.subApplied i ∧
      (t.sub n.val).pend.map (·.validAt) = some (BitVec.ofNat 64 (bits h 255 192)) ∧
      Tab.get 0 t.ln.epochs c.binary = max (Tab.get 0 s.ln.epochs c.binary) (bits h 127 96 + 1) := by
  have hlen : c.points.length = 1 := by rw [hi]; rfl
  have hj := judgeSub_pends (s := s.unbox n (p + 1) q.toNat) (n := n) (c := c) (rs := [r]) (hl.trans hlen.symm) hlen.symm hc he
    hd ha hp
  have hsub := pendSub_subc (s.unbox n (p + 1) q.toNat) n hi (BitVec.ofNat 64 (bits h 255 192)) (bits h 127 96) r
  refine .next ((subFrameAccept_timely hs hb hv hr).trans (congrArg _ hj)) (P := 0x80810020) (W := rb .LN_SUB) ?_ rfl rfl
    ⟨flag_pendSub_seen .., ?_, ?_, ?_, pendSub_epochs ..⟩
  · simp [fr_unbox]
  · rw [State.subPending, hsub, Tab.get_set_same]
  · rw [State.subApplied, hsub, Tab.get_set_ne _ _ _ _ _ (by omega)]
    rfl
  · rw [pendSub_pend]
    rfl

theorem subscription_undeclared (n : Fin 4096) (p : Fin 2) (q : BitVec 16) (h : BitVec 256) (rs : List W64) (s : State)
    (hs : s.img.subs[n.val]? = none) :
    exec (.subFrameAccept n p q h rs) s = .next s ∧ exec (.validAtApply n) s = .next s ∧
    exec (.expectedInstantMissed n) s = .next s := by
  refine ⟨?_, ?_, ?_⟩
  · rw [exec_subFrameAccept, execSubFrameAccept, hs]
  · rw [exec_validAtApply, execValidAtApply, State.fallDue, hs]
    exact congrArg _ (ite_self s)
  · rw [exec_expectedInstantMissed, execExpectedInstantMissed, hs]

theorem completes_validAtApply_applied (n : Fin 4096) (c : SubCfg) (i : Nat) (f : PendFrame) (s : State)
    (hs : s.img.subs[n.val]? = some c) (hp : (s.sub n.val).pend = some f) (hv : Instant.atOrBefore f.validAt s.pt = true)
    (hg : ((s.sub n.val).grid.all fun g => !Instant.before g f.validAt) = true)
    (hc : (c.coord && s.flag Fld.MT_STATE_COORD_DEGRADED) = false) (hi : c.points = [i]) :
    Completes (.validAtApply n) s [.regs, .levels, .ln, .subc, .bn] [.LN_SUB, .LN_STATUS] fun t =>
      t.subApplied i = s.subPending i ∧ (t.sub n.val).pend = none ∧ (t.sub n.val).applied = some f.validAt ∧
      (t.sub n.val).grid = some (f.validAt.plus (Config.period c.cls)) ∧ t.fld Fld.LN_SUB_MISSED n.val = 0 := by
  have e : exec (.validAtApply n) s = .next (s.applyFrame n c f) := by
    rw [validAtApply_of_due hp hv, fallDue_eq hs hp hg, hc]
    rfl
  have hsub := applyFrame_sub s n c f
  exact .next e (P := 0x80010120) (W := 0x240000000000000000) (by simp [State.applyFrame]) rfl rfl
    ⟨applyFrame_subApplied s n hi f, by rw [hsub], by rw [hsub], by rw [hsub], fld_applyFrame_missed ..⟩

theorem completes_validAtApply_degraded (n : Fin 4096) (c : SubCfg) (i : Nat) (f : PendFrame) (s : State)
    (hs : s.img.subs[n.val]? = some c) (hp : (s.sub n.val).pend = some f) (hv : Instant.atOrBefore f.validAt s.pt = true)
    (hg : ((s.sub n.val).grid.all fun g => !Instant.before g f.validAt) = true) (hc : c.coord = true)
    (hd : s.flag Fld.MT_STATE_COORD_DEGRADED = true) (hi : c.points = [i]) :
    Completes (.validAtApply n) s [.regs, .levels, .ln, .subc, .bn] [.LN_SUB, .LN_STATUS] fun t =>
      t.subApplied i = lateRec (s.subCfg i) (s.subApplied i) ∧ (t.sub n.val).pend = none ∧
      t.fld Fld.LN_SUB_MISSED n.val = satAdd Fld.LN_SUB_MISSED.top (s.fld Fld.LN_SUB_MISSED n.val) 1 := by
  have e : exec (.validAtApply n) s = .next (s.missFrame n c f) := by
    rw [validAtApply_of_due hp hv, fallDue_eq hs hp hg, hc, hd]
    rfl
  refine .next e (P := 0x80010120) (W := 0x240000000000000000) (by simp [State.missFrame]) rfl rfl ⟨?_, ?_, ?_⟩
  · exact missAt_subApplied _ _ _ _ _ hi
  · rw [State.missFrame, missAt_sub, sub_setSubSt_same]
  · exact fld_missAt_missed ..

theorem completes_expectedInstantMissed (n : Fin 4096) (c : SubCfg) (i : Nat) (g : Instant) (s : State)
    (hs : s.img.subs[n.val]? = some c) (hq : (s.sub n.val).grid = some g) (hg : Instant.atOrBefore g s.pt = true)
    (hd : (s.sub n.val).dueAt g = false) (hi : c.points = [i]) :
    Completes (.expectedInstantMissed n) s [.regs, .levels, .ln, .subc, .bn] [.LN_SUB, .LN_STATUS] fun t =>
      t.subApplied i = lateRec (s.subCfg i) (s.subApplied i) ∧
      t.fld Fld.LN_SUB_MISSED n.val = satAdd Fld.LN_SUB_MISSED.top (s.fld Fld.LN_SUB_MISSED n.val) 1 ∧
      (t.sub n.val).grid = some (g.plus (1 * Config.period c.cls)) := by
  have e : exec (.expectedInstantMissed n) s = .next (s.missAt n c g 1) := by
    rw [exec_expectedInstantMissed, execExpectedInstantMissed, hs, hq]
    exact if_pos (by simp [hg, hd])
  exact .next e (P := 0x80010120) (W := 0x240000000000000000) (by simp) rfl rfl
    ⟨missAt_subApplied _ _ _ _ _ hi, fld_missAt_missed .., by rw [missAt_sub]⟩

theorem expectedInstantMissed_of_not (n : Fin 4096) (g : Instant) (s : State) (hq : (s.sub n.val).grid = some g)
    (h : Instant.atOrBefore g s.pt = false ∨ (s.sub n.val).dueAt g = true) : exec (.expectedInstantMissed n) s = .next s := by
  rw [exec_expectedInstantMissed, execExpectedInstantMissed, hq]
  cases s.img.subs[n.val]? with
  | none => rfl
  | some c => exact if_neg (by rcases h with h | h <;> simp [h])

theorem validAtApply_of_not_due (n : Fin 4096) (s : State) (h : (s.sub n.val).dueAt s.pt = false) :
    exec (.validAtApply n) s = .next s := by
  rw [exec_validAtApply, execValidAtApply, h]
  rfl

/-- Settles O19: the receive rules in their order, VALID_AT with nothing expected before it, and one instant missed. -/
theorem subscriptions : Obligations.Subscriptions :=
  ⟨completes_subFrameAccept_late, completes_subFrameAccept_malformed, completes_subFrameAccept_old,
    completes_subFrameAccept_pends, subscription_undeclared, completes_validAtApply_applied, completes_validAtApply_degraded,
    completes_expectedInstantMissed, expectedInstantMissed_of_not, validAtApply_of_not_due⟩

end Sys2Proof.Machine
end

section
/-! PROOF. Commands to a loop (LoopCommands, O26): the code of each command, and what a refused and an accepted one leave. -/

namespace Sys2Proof.Machine

/-! ## The result code, command by command (R144, R145, R147) -/

section
variable {s : State} {w : Writer} {l b cmd set : Nat} {d : BitVec 512} {x : LoopWork} {v : F32}

theorem loopCode_of_unmapped (h : s.loopOf l = none) : s.loopCode w l cmd set v = 1 := by
  rw [State.loopCode, h]

theorem loopCode_auto (h : s.loopOf l = some (b, d, x)) :
    s.loopCode w l 1 0 v = if x.state = 3 then 4 else 0 := by
  simp [State.loopCode, h]

theorem loopCode_manual (h : s.loopOf l = some (b, d, x)) :
    s.loopCode w l 2 0 v = if x.state = 3 then 4 else if (Fl.ofBits v).finite then 0 else 5 := by
  cases hv : (Fl.ofBits v).finite <;> simp [State.loopCode, h, hv]

theorem loopCode_manualValue (h : s.loopOf l = some (b, d, x)) :
    s.loopCode w l 3 0 v =
      if x.state = 3 then 4 else if (Fl.ofBits v).finite then if x.state = 1 then 0 else 10 else 5 := by
  cases hv : (Fl.ofBits v).finite <;> simp [State.loopCode, h, hv]

theorem loopCode_restart (h : s.loopOf l = some (b, d, x)) :
    s.loopCode w l 4 0 v = if x.state = 3 then 0 else 11 := by
  simp [State.loopCode, h]

theorem loopCode_switch_app (h : s.loopOf l = some (b, d, x)) : s.loopCode .app l 5 set v = 3 := by
  simp [State.loopCode, h]

theorem loopCode_switch_sup (h : s.loopOf l = some (b, d, x)) :
    s.loopCode .sup l 5 set v =
      if set = x.active then 0 else (x.held set).elim 7 fun c => if setValid d c then 0 else 6 := by
  cases hc : x.held set <;> simp [State.loopCode, h, hc]

theorem loopCode_switch_accepted (h : s.loopOf l = some (b, d, x))
    (hc : set = x.active ∨ (x.held set).any (fun c => setValid d c) = true) : s.loopCode .sup l 5 set v = 0 := by
  rw [loopCode_switch_sup h]
  rcases hc with hc | hc
  · exact if_pos hc
  · obtain ⟨c, hHeld, hValid⟩ := (Option.any_eq_true _ _).mp hc
    simp [hHeld, hValid]

theorem loopCode_switch_invalid (h : s.loopOf l = some (b, d, x)) (hn : set ≠ x.active)
    (hc : (x.held set).any (fun c => !setValid d c) = true) : s.loopCode .sup l 5 set v = 6 := by
  obtain ⟨c, hHeld, hInvalid⟩ := (Option.any_eq_true _ _).mp hc
  rw [loopCode_switch_sup h, if_neg hn, hHeld]
  exact if_neg (by simpa using hInvalid)

theorem loopCode_switch_missing (h : s.loopOf l = some (b, d, x)) (hn : set ≠ x.active) (hc : x.held set = none) :
    s.loopCode .sup l 5 set v = 7 := by
  rw [loopCode_switch_sup h, if_neg hn, hc]
  rfl

end

/-! ## A refused command and an accepted one -/

/-- A refused loop command leaves its code in the result of its writer, and nothing else. -/
theorem exec_of_refused {i : Instr} {s : State} {w : Writer} {l cmd set c : Nat}
    (e : exec i s = .next (s.loopCommand w l cmd set))
    (h : s.loopCode w l cmd set (s.reg .LE_CMD_VAL (wIdx w)) = c) (hc : c ≠ 0 := by decide) :
    exec i s = .next (s.setFld Fld.LE_CMD_RESULT_CODE c (wIdx w)) := by
  subst h
  exact e.trans (congrArg _ (if_pos hc))

/-- The state that an accepted command leaves: the command pends, with the value of its writer, and the result tells whether one
pended before. -/
def State.loopPend (s : State) (w : Writer) (l cmd set : Nat) : State :=
  (s.setRun l { s.run l with
    pend := some { cmd := cmd, set := set, val := s.reg .LE_CMD_VAL (wIdx w) }, pendNew := true }).setFld
      Fld.LE_CMD_RESULT_CODE (if (s.run l).pend.isSome then 8 else 0) (wIdx w)

theorem loopCommand_of_accepted {s : State} {w : Writer} {l cmd set : Nat}
    (h : s.loopCode w l cmd set (s.reg .LE_CMD_VAL (wIdx w)) = 0) :
    s.loopCommand w l cmd set = s.loopPend w l cmd set :=
  if_neg (not_not_intro h)

theorem run_setFld (s : State) (f : Field) (v i k : Nat) : (s.setFld f v i).run k = s.run k := rfl

theorem run_setRun (s : State) (l k : Nat) (r : LoopRun) : (s.setRun l r).run k = if k = l then r else s.run k :=
  Tab.get_set ..

theorem run_loopPend (s : State) (w : Writer) (l cmd set k : Nat) :
    (s.loopPend w l cmd set).run k = if k = l then { s.run l with
      pend := some { cmd := cmd, set := set, val := s.reg .LE_CMD_VAL (wIdx w) }, pendNew := true } else s.run k := by
  rw [State.loopPend, run_setFld, run_setRun]

theorem fld_loopPend_code (s : State) (w : Writer) (l cmd set : Nat) :
    (s.loopPend w l cmd set).fld Fld.LE_CMD_RESULT_CODE (wIdx w) = if (s.run l).pend.isSome then 8 else 0 := by
  rw [State.loopPend, fld_setFld_same _ _ _ _ (by decide)]
  cases (s.run l).pend.isSome <;> rfl

theorem instKept_loopPend (s : State) (w : Writer) (l cmd set : Nat) :
    InstKept .LE_CMD_RESULT (wIdx w) s (s.loopPend w l cmd set) :=
  instKept_setReg (s.setRun l _) _ _ _

/-- What an accepted command to loop `l` leaves: it is the loop's pending command, with the result of its writer alone, and no
other loop is changed. -/
def LoopPends (w : Writer) (l cmd set : Nat) (s t : State) : Prop :=
  (t.run l).pend = some { cmd := cmd, set := set, val := s.reg .LE_CMD_VAL (wIdx w) } ∧
  t.fld Fld.LE_CMD_RESULT_CODE (wIdx w) = (if (s.run l).pend.isSome then 8 else 0) ∧
  InstKept .LE_CMD_RESULT (wIdx w) s t ∧ ∀ k, k ≠ l → t.run k = s.run k

theorem loopPends_loopPend (s : State) (w : Writer) (l cmd set : Nat) :
    LoopPends w l cmd set s (s.loopPend w l cmd set) :=
  ⟨by rw [run_loopPend, if_pos rfl], fld_loopPend_code .., instKept_loopPend s w l cmd set, fun k hk => by
    rw [run_loopPend, if_neg hk]⟩

/-- An accepted loop command completes. -/
theorem Completes.loopPends {c : Instr} {s : State} {w : Writer} {l cmd set : Nat}
    (e : exec c s = .next (s.loopCommand w l cmd set))
    (h : s.loopCode w l cmd set (s.reg .LE_CMD_VAL (wIdx w)) = 0) :
    Completes c s [.regs, .le] [.LE_CMD_RESULT] (LoopPends w l cmd set s) :=
  .next (P := 0x20020) (W := 0x2000000000000000000) (e.trans (congrArg _ (loopCommand_of_accepted h)))
    (by simp [State.loopPend]) rfl rfl (loopPends_loopPend ..)

/-! ## The clauses -/

section
variable (w : Writer) (l b : Nat) (n : Fin 4) (d : BitVec 512) (x : LoopWork) (s : State)

theorem completes_loopAuto (h : s.loopOf l = some (b, d, x)) (hx : x.state ≠ 3) :
    Completes (.loopAuto w l) s [.regs, .le] [.LE_CMD_RESULT] (LoopPends w l 1 0 s) :=
  .loopPends rfl (by rw [loopCode_auto h, if_neg hx])

theorem completes_loopManual (h : s.loopOf l = some (b, d, x)) (hx : x.state ≠ 3)
    (hv : (Fl.ofBits (s.reg .LE_CMD_VAL (wIdx w))).finite = true) :
    Completes (.loopManual w l) s [.regs, .le] [.LE_CMD_RESULT] (LoopPends w l 2 0 s) :=
  .loopPends rfl (by rw [loopCode_manual h, if_neg hx, if_pos hv])

theorem completes_loopManualValue (h : s.loopOf l = some (b, d, x)) (hx : x.state = 1)
    (hv : (Fl.ofBits (s.reg .LE_CMD_VAL (wIdx w))).finite = true) :
    Completes (.loopManualValue w l) s [.regs, .le] [.LE_CMD_RESULT] (LoopPends w l 3 0 s) :=
  .loopPends rfl (by rw [loopCode_manualValue h, if_neg (by omega), if_pos hv, if_pos hx])

theorem completes_loopRestart (h : s.loopOf l = some (b, d, x)) (hx : x.state = 3) :
    Completes (.loopRestart w l) s [.regs, .le] [.LE_CMD_RESULT] (LoopPends w l 4 0 s) :=
  .loopPends rfl (by rw [loopCode_restart h, if_pos hx])

theorem completes_loopSwitch (h : s.loopOf l = some (b, d, x))
    (hc : n.val = x.active ∨ (x.held n.val).any (fun c => setValid d c) = true) :
    Completes (.loopSwitch .sup l n) s [.regs, .le] [.LE_CMD_RESULT] fun t =>
      (t.run l).pend = some { cmd := 5, set := n.val, val := s.reg .LE_CMD_VAL 1 } ∧
      t.fld Fld.LE_CMD_RESULT_CODE 1 = (if (s.run l).pend.isSome then 8 else 0) ∧ InstKept .LE_CMD_RESULT 1 s t := by
  obtain ⟨t, e, ⟨hPend, hCode, hInst, -⟩, hFrame⟩ :=
    Completes.loopPends (c := .loopSwitch .sup l n) rfl (loopCode_switch_accepted h hc)
  exact ⟨t, e, ⟨hPend, hCode, hInst⟩, hFrame⟩

theorem loopSwitch_app_refused (h : s.loopOf l = some (b, d, x)) :
    exec (.loopSwitch .app l n) s = .next (s.setFld Fld.LE_CMD_RESULT_CODE 3 0) :=
  exec_of_refused (w := .app) rfl (loopCode_switch_app h)

theorem loopSwitch_refused (h : s.loopOf l = some (b, d, x)) (hn : n.val ≠ x.active) :
    (x.held n.val = none → exec (.loopSwitch .sup l n) s = .next (s.setFld Fld.LE_CMD_RESULT_CODE 7 1)) ∧
    ((x.held n.val).any (fun c => !setValid d c) = true →
      exec (.loopSwitch .sup l n) s = .next (s.setFld Fld.LE_CMD_RESULT_CODE 6 1)) ∧
    exec (.loopSwitch .app l n) s = .next (s.setFld Fld.LE_CMD_RESULT_CODE 3 0) :=
  ⟨fun hNone => exec_of_refused (w := .sup) rfl (loopCode_switch_missing h hn hNone),
    fun hInvalid => exec_of_refused (w := .sup) rfl (loopCode_switch_invalid h hn hInvalid),
    loopSwitch_app_refused l b n d x s h⟩

theorem loopCommands_unmapped (h : s.loopOf l = none) :
    exec (.loopAuto w l) s = .next (s.setFld Fld.LE_CMD_RESULT_CODE 1 (wIdx w)) ∧
    exec (.loopManual w l) s = exec (.loopAuto w l) s ∧ exec (.loopManualValue w l) s = exec (.loopAuto w l) s ∧
    exec (.loopRestart w l) s = exec (.loopAuto w l) s ∧ ∀ n, exec (.loopSwitch w l n) s = exec (.loopAuto w l) s :=
  have hOne : exec (.loopAuto w l) s = .next (s.setFld Fld.LE_CMD_RESULT_CODE 1 (wIdx w)) :=
    exec_of_refused rfl (loopCode_of_unmapped h)
  ⟨hOne, (exec_of_refused rfl (loopCode_of_unmapped h)).trans hOne.symm,
    (exec_of_refused rfl (loopCode_of_unmapped h)).trans hOne.symm,
    (exec_of_refused rfl (loopCode_of_unmapped h)).trans hOne.symm,
    fun _ => (exec_of_refused rfl (loopCode_of_unmapped h)).trans hOne.symm⟩

theorem loopCommands_refused_in_fault (h : s.loopOf l = some (b, d, x)) (hx : x.state = 3) :
    exec (.loopAuto w l) s = .next (s.setFld Fld.LE_CMD_RESULT_CODE 4 (wIdx w)) ∧
    exec (.loopManual w l) s = .next (s.setFld Fld.LE_CMD_RESULT_CODE 4 (wIdx w)) ∧
    exec (.loopManualValue w l) s = .next (s.setFld Fld.LE_CMD_RESULT_CODE 4 (wIdx w)) :=
  ⟨exec_of_refused rfl ((loopCode_auto h).trans (if_pos hx)),
    exec_of_refused rfl ((loopCode_manual h).trans (if_pos hx)),
    exec_of_refused rfl ((loopCode_manualValue h).trans (if_pos hx))⟩

theorem loopManual_refused_not_finite (h : s.loopOf l = some (b, d, x)) (hx : x.state ≠ 3)
    (hv : (Fl.ofBits (s.reg .LE_CMD_VAL (wIdx w))).finite = false) :
    exec (.loopManual w l) s = .next (s.setFld Fld.LE_CMD_RESULT_CODE 5 (wIdx w)) ∧
    exec (.loopManualValue w l) s = .next (s.setFld Fld.LE_CMD_RESULT_CODE 5 (wIdx w)) :=
  ⟨exec_of_refused rfl (by rw [loopCode_manual h, if_neg hx, hv]; rfl),
    exec_of_refused rfl (by rw [loopCode_manualValue h, if_neg hx, hv]; rfl)⟩

theorem loopCommands_refused_by_mode (h : s.loopOf l = some (b, d, x)) (hx : x.state ≠ 3) :
    exec (.loopRestart w l) s = .next (s.setFld Fld.LE_CMD_RESULT_CODE 11 (wIdx w)) ∧
    (x.state ≠ 1 → (Fl.ofBits (s.reg .LE_CMD_VAL (wIdx w))).finite = true →
      exec (.loopManualValue w l) s = .next (s.setFld Fld.LE_CMD_RESULT_CODE 10 (wIdx w))) :=
  ⟨exec_of_refused rfl ((loopCode_restart h).trans (if_neg hx)), fun h1 hv =>
    exec_of_refused rfl (by rw [loopCode_manualValue h, if_neg hx, if_pos hv, if_neg h1])⟩

end

/-- Settles O26: each command is one loop command, refused with the code of its own equation or made pending. -/
theorem loopCommands : Obligations.LoopCommands :=
  ⟨completes_loopAuto, completes_loopManual, completes_loopManualValue, completes_loopRestart, completes_loopSwitch,
    loopSwitch_refused, loopCommands_unmapped, loopSwitch_app_refused, loopCommands_refused_in_fault,
    loopManual_refused_not_finite, loopCommands_refused_by_mode⟩

end Sys2Proof.Machine
end

section
/-! PROOF. The adaptation layer's own operations, one by one: what its record of a loop, its test slots, the counters, the
records raised and the sources read after each (06; for AdaptationOfLoops, O31, and SurgeDefenceAndForbids, O32). -/

namespace Sys2Proof.Machine

/-! ## Records raised -/

theorem records_iff {cs : List Nat} {s t : State} :
    Records cs s t ↔ ∃ rs, t.sn.raised = s.sn.raised ++ rs ∧ rs.map (·.code) = cs.map (BitVec.ofNat 16) := by
  constructor
  · rintro ⟨hOld, hNew⟩
    exact ⟨_, by rw [← List.take_append_drop s.sn.raised.length t.sn.raised, hOld, List.drop_left], hNew⟩
  · rintro ⟨rs, hAll, hNew⟩
    simp [Records, hAll, hNew]

theorem records_nil_of_sn {s t : State} (h : t.sn = s.sn) : Records [] s t := by simp [Records, h]

theorem Records.trans {cs ds : List Nat} {s t u : State} (h : Records cs s t) (g : Records ds t u) : Records (cs ++ ds) s u := by
  obtain ⟨rs, hrs, hcs⟩ := records_iff.1 h
  obtain ⟨qs, hqs, hds⟩ := records_iff.1 g
  exact records_iff.2 ⟨rs ++ qs, by rw [hqs, hrs, List.append_assoc], by simp [hcs, hds]⟩

/-- What a frame that leaves Sinter alone adds to the records raised: nothing, before or after. -/
theorem Records.of_fr_right {cs : List Nat} {P W : Nat} {s t u : State} (h : Records cs s t) (f : Fr P W t u)
    (hP : P &&& 0x2000 = 0) : Records cs s u := by
  simpa using h.trans (records_nil_of_sn (f.1 .sn hP))

theorem Records.of_fr_left {cs : List Nat} {P W : Nat} {s t u : State} (f : Fr P W s t) (hP : P &&& 0x2000 = 0)
    (h : Records cs t u) : Records cs s u := (records_nil_of_sn (f.1 .sn hP)).trans h

/-- What was raised stays raised: every record that waits, and every source. -/
structure KeepsRaised (s t : State) : Prop where
  records : ∀ r ∈ s.sn.raised, r ∈ t.sn.raised
  levels : ∀ n ∈ s.levels, n ∈ t.levels

theorem KeepsRaised.refl (s : State) : KeepsRaised s s := ⟨fun _ h => h, fun _ h => h⟩

theorem KeepsRaised.trans {s t u : State} (h : KeepsRaised s t) (g : KeepsRaised t u) : KeepsRaised s u :=
  ⟨fun r hr => g.records r (h.records r hr), fun n hn => g.levels n (h.levels n hn)⟩

theorem KeepsRaised.of_fr {P W : Nat} {s t : State} (f : Fr P W s t) (hn : P &&& 0x2000 = 0) (hl : P &&& 0x100 = 0) :
    KeepsRaised s t :=
  ⟨fun _ h => by rw [f.1 .sn hn]; exact h, fun _ h => by rw [f.1 .levels hl]; exact h⟩

theorem KeepsRaised.foldl {α : Type} {g : State → α → State} (h : ∀ s a, KeepsRaised s (g s a)) (l : List α)
    (s : State) : KeepsRaised s (l.foldl g s) := by
  induction l generalizing s with
  | nil => exact .refl s
  | cons a l ih => exact (h s a).trans (ih _)

/-- A record that waited, found by its code. -/
theorem KeepsRaised.any_code {s t : State} (h : KeepsRaised s t) {code : BitVec 16} (hr : ∃ r ∈ s.sn.raised, r.code = code) :
    (t.sn.raised.any fun r => r.code == code) = true := by
  obtain ⟨r, hMem, hCode⟩ := hr
  exact List.any_eq_true.2 ⟨r, h.records r hMem, by simp [hCode]⟩

/-! ## A decision of the layer (R166) -/

section
variable (s : State) (c l : Nat) (n : AdaptNote)

theorem fr_adaptNote_self : Fr 0x2100 0 s (s.adaptNote c l n) := by simp

@[simp] theorem adaptNote_la : (s.adaptNote c l n).la = s.la := (fr_adaptNote_self s c l n).1 .la rfl

theorem fld_adaptNote (f : Field) (i : Nat) : (s.adaptNote c l n).fld f i = s.fld f i :=
  fld_of_fr (fr_adaptNote_self s c l n) f i (Nat.zero_and _)

theorem raised_adaptNote : Raised 90 (s.adaptNote c l n) := mem_ev _ _ rfl

theorem adaptNote_raised : (s.adaptNote c l n).sn.raised = s.sn.raised ++
    [{ island := islSup, code := BitVec.ofNat 16 c, payload := .laid (adaptPayload l n), frc := s.mt.frc }] := by
  rw [State.adaptNote, ev_sn, raise_sup_sn]

theorem records_adaptNote : Records [c] s (s.adaptNote c l n) := records_iff.2 ⟨_, adaptNote_raised .., rfl⟩

theorem keepsRaised_adaptNote : KeepsRaised s (s.adaptNote c l n) where
  records r hr := by rw [adaptNote_raised]; exact List.mem_append_left _ hr
  levels m hm := mem_ev_of_mem _ _ _ (by rwa [raise_levels])

theorem mem_adaptNote : ∃ r ∈ (s.adaptNote c l n).sn.raised, r.code = BitVec.ofNat 16 c := by simp [adaptNote_raised]

end

/-! ## Its record of a loop -/

theorem adaptRec_of_la {s t : State} (h : t.la = s.la) (l : Nat) : t.adaptRec l = s.adaptRec l := by
  rw [State.adaptRec, h, State.adaptRec]

theorem slot_of_la {s t : State} (h : t.la = s.la) (k : Nat) : t.slot k = s.slot k := by rw [State.slot, h, State.slot]

theorem slotOf_of_slots {s t : State} (h : ∀ k, t.slot k = s.slot k) (l : Nat) : t.slotOf l = s.slotOf l := by
  simp only [State.slotOf, h]

theorem adaptRec_setAdapt_same (s : State) (l : Nat) (r : AdaptRec) : (s.setAdapt l r).adaptRec l = r := Tab.get_set_same ..

@[simp] theorem slot_setAdapt (s : State) (l : Nat) (r : AdaptRec) (k : Nat) : (s.setAdapt l r).slot k = s.slot k := rfl

@[simp] theorem adaptRec_adaptNote (s : State) (c l j : Nat) (n : AdaptNote) : (s.adaptNote c l n).adaptRec j = s.adaptRec j :=
  adaptRec_of_la (adaptNote_la ..) j

@[simp] theorem slot_adaptNote (s : State) (c l k : Nat) (n : AdaptNote) : (s.adaptNote c l n).slot k = s.slot k :=
  slot_of_la (adaptNote_la ..) k

@[simp] theorem adaptRec_bump (s : State) (f : Field) (l : Nat) : (s.bump f).adaptRec l = s.adaptRec l := rfl

@[simp] theorem slot_bump (s : State) (f : Field) (k : Nat) : (s.bump f).slot k = s.slot k := rfl

/-! ## The kept record (R160, R167) -/

@[simp] theorem adaptRec_toKeep (s : State) (l j : Nat) : (s.toKeep l).adaptRec j = s.adaptRec j := by
  unfold State.toKeep; split <;> rfl

@[simp] theorem slot_toKeep (s : State) (l k : Nat) : (s.toKeep l).slot k = s.slot k := by
  unfold State.toKeep; split <;> rfl

theorem contains_toKeep (s : State) (l : Nat) : (s.toKeep l).la.unsaved.contains l = true := by
  unfold State.toKeep
  split
  · assumption
  · simp

/-! ## Test slots (R153, R156) -/

/-- The test `t` in slot `k`. -/
def State.putSlot (s : State) (k : Nat) (t : TestSlot) : State :=
  { s with la := { s.la with slots := Tab.set {} s.la.slots k t } }

theorem fr_putSlot {P W : Nat} (b s : State) (k : Nat) (t : TestSlot) (hP : P &&& 0x40000 = 0x40000) (hW : W &&& 0 = 0) :
    Fr P W b (s.putSlot k t) ↔ Fr P W b s :=
  Fr.iff (p := 0x40000) (w := 0) (by simp [State.putSlot]) hP hW

theorem slot_putSlot_same (s : State) (k : Nat) (t : TestSlot) : (s.putSlot k t).slot k = t := Tab.get_set_same ..

theorem slot_freeSlot_same (s : State) (k : Nat) : (s.freeSlot k).slot k = {} := slot_putSlot_same s k {}

@[simp] theorem adaptRec_freeSlot (s : State) (k l : Nat) : (s.freeSlot k).adaptRec l = s.adaptRec l := rfl

theorem fr_freeSlot_self (s : State) (k : Nat) : Fr 0x40020 0x240000000000000000000 s (s.freeSlot k) := by simp

section
variable (s : State) (k reason : Nat)

theorem abortTest_of_busy (h : (s.slot k).busy = true) : s.abortTest k reason =
    (((s.setAdapt (s.slot k).loop { s.adaptRec (s.slot k).loop with
      phase := 0, reason := reason, lastEnd := some s.pt, staged := none }).freeSlot k).bump Fld.LA_COUNT_ABORT).adaptNote
      0x5002 (s.slot k).loop { reason := reason } := by
  simp [State.abortTest, h]

theorem slot_abortTest (h : (s.slot k).busy = true) : (s.abortTest k reason).slot k = {} := by
  rw [abortTest_of_busy s k reason h, slot_adaptNote, slot_bump, slot_freeSlot_same]

theorem adaptRec_abortTest (h : (s.slot k).busy = true) : (s.abortTest k reason).adaptRec (s.slot k).loop =
    { s.adaptRec (s.slot k).loop with phase := 0, reason := reason, lastEnd := some s.pt, staged := none } := by
  rw [abortTest_of_busy s k reason h, adaptRec_adaptNote, adaptRec_bump, adaptRec_freeSlot, adaptRec_setAdapt_same]

theorem fld_abortTest_abort (h : (s.slot k).busy = true) : (s.abortTest k reason).fld Fld.LA_COUNT_ABORT =
    satAdd Fld.LA_COUNT_ABORT.top (s.fld Fld.LA_COUNT_ABORT) 1 := by
  rw [abortTest_of_busy s k reason h, fld_adaptNote, fld_bump_same _ _ _ _ (by decide)]
  congr 1
  exact fld_of_fr (fr_freeSlot_self _ k) _ _ rfl

theorem raised_abortTest (h : (s.slot k).busy = true) : Raised 90 (s.abortTest k reason) := by
  rw [abortTest_of_busy s k reason h]
  exact raised_adaptNote ..

theorem records_abortTest (h : (s.slot k).busy = true) : Records [0x5002] s (s.abortTest k reason) := by
  rw [abortTest_of_busy s k reason h]
  refine .of_fr_left (P := 0x40020) (W := 0xa40000000000000000000) ?_ rfl (records_adaptNote ..)
  simp

theorem keepsRaised_abortTest : KeepsRaised s (s.abortTest k reason) := by
  cases h : (s.slot k).busy with
  | false => rw [State.abortTest, h]; exact .refl s
  | true =>
    rw [abortTest_of_busy s k reason h]
    refine (KeepsRaised.of_fr (P := 0x40020) (W := 0xa40000000000000000000) ?_ rfl rfl).trans (keepsRaised_adaptNote ..)
    simp

theorem fld_abortTest_apart (f : Field) (hf : f.reg ≠ .LA_STATUS ∧ f.reg ≠ .LA_SLOT)
    (ha : Fld.LA_COUNT_ABORT.apart f = true) (i : Nat) : (s.abortTest k reason).fld f i = s.fld f i := by
  obtain ⟨hStatus, hSlot⟩ := hf
  cases h : (s.slot k).busy with
  | false => rw [State.abortTest, h]; rfl
  | true =>
    rw [abortTest_of_busy s k reason h, fld_adaptNote, fld_bump_apart _ _ _ _ _ _ (by decide) (.inl ha), State.freeSlot,
      State.showTests, fld_setFld_apart _ _ _ _ _ _ (by decide) (.inl (by simp [Field.apart, hStatus.symm]))]
    exact congrArg (bits · f.hi f.lo) ((reg_setReg ..).trans (if_neg fun e => hSlot e.1))

end

/-- The slot found runs a test on the loop. -/
theorem slotOf_some {s : State} {l k : Nat} (h : s.slotOf l = some k) : (s.slot k).busy = true ∧ (s.slot k).loop = l := by
  simpa using List.find?_some h

theorem keepsRaised_abortLoop (s : State) (l reason : Nat) : KeepsRaised s (s.abortLoop l reason) := by
  unfold State.abortLoop
  split
  · exact keepsRaised_abortTest ..
  · exact .refl s

theorem fld_abortLoop_apart (s : State) (l reason : Nat) (f : Field) (hf : f.reg ≠ .LA_STATUS ∧ f.reg ≠ .LA_SLOT)
    (ha : Fld.LA_COUNT_ABORT.apart f = true) (i : Nat) : (s.abortLoop l reason).fld f i = s.fld f i := by
  unfold State.abortLoop
  split
  · exact fld_abortTest_apart _ _ _ f hf ha i
  · rfl

/-! ## A SWITCH of the layer (R148) -/

theorem fr_loopCommand_self (s : State) (w : Writer) (l cmd set : Nat) :
    Fr 0x20020 0x2000000000000000000 s (s.loopCommand w l cmd set) := by simp

/-- A SWITCH of the layer's own that still pends, withdrawn. -/
def State.withdrawn (s : State) (l : Nat) : State :=
  if (match (s.run l).pend with
    | some c => c.cmd == 5
    | none => false) then s.setRun l { s.run l with pend := none } else s

theorem laSwitch_eq (s : State) (l set : Nat) : s.laSwitch l set =
    (((s.withdrawn l).setAdapt l { (s.withdrawn l).adaptRec l with set := some set }).setReg .LE_CMD_VAL 1 0).loopCommand
      .sup l 5 set := rfl

theorem withdrawn_la (s : State) (l : Nat) : (s.withdrawn l).la = s.la := by
  rw [State.withdrawn, apply_ite State.la]
  exact ite_self _

theorem adaptRec_laSwitch (s : State) (l set : Nat) :
    (s.laSwitch l set).adaptRec l = { s.adaptRec l with set := some set } := by
  rw [laSwitch_eq, adaptRec_of_la ((fr_loopCommand_self ..).1 .la rfl), adaptRec_of_la (setReg_la ..),
    adaptRec_setAdapt_same, adaptRec_of_la (withdrawn_la s l)]

theorem fr_laSwitch_self (s : State) (l set : Nat) : Fr 0x60020 0x3000000000000000000 s (s.laSwitch l set) := by simp

end Sys2Proof.Machine
end

section
/-! PROOF. Identification tests, installation and probation (AdaptationOfLoops, O31). -/

namespace Sys2Proof.Machine

/-! ## A test begins (R153) -/

/-- The test that a start grants. -/
def State.granted (s : State) (l : Nat) (relay : Bool) (a : AdaptCfg) (d : BitVec 512) (w : LoopWork) : TestSlot :=
  { busy := true, loop := l, relay := relay, start := s.pt, h := testMag a d s.free
    div := testDiv ((if relay then a.tMax else 4 * adaptPulse a) / ldPeriod d), e0 := (s.errorNow d w).toBits, u0 := w.uPrev }

/-- The layer's record of a loop whose test begins. -/
def testedRec (a : AdaptCfg) (d : BitVec 512) (r : AdaptRec) : AdaptRec :=
  { r with phase := 1, reason := 0, refIae := refIae (r.hist.take (probCycles a d)), iae100 := iaeAll (r.hist.take 100) }

/-- Test `t` begun in slot `k`, with the loop's record `r`. -/
def State.begin (s : State) (k : Nat) (t : TestSlot) (r : AdaptRec) : State :=
  ((s.putSlot k t).draw.showTests.setAdapt t.loop r).adaptNote 0x5001 t.loop {}

theorem slot_begin (s : State) (k : Nat) (t : TestSlot) (r : AdaptRec) : (s.begin k t r).slot k = t := by
  rw [State.begin, slot_adaptNote, slot_setAdapt]
  exact slot_putSlot_same s k t

theorem adaptRec_begin (s : State) (k : Nat) (t : TestSlot) (r : AdaptRec) : (s.begin k t r).adaptRec t.loop = r := by
  rw [State.begin, adaptRec_adaptNote, adaptRec_setAdapt_same]

theorem records_begin (s : State) (k : Nat) (t : TestSlot) (r : AdaptRec) : Records [0x5001] s (s.begin k t r) :=
  .of_fr_left (P := 0x40030) (W := 0x40000000000000000000) (by simp [fr_putSlot]) rfl (records_adaptNote ..)

theorem completes_testStart (l k b : Nat) (relay ordered : Bool) (a : AdaptCfg) (d : BitVec 512) (w : LoopWork) (s : State)
    (ha : s.adaptCfg l = some a) (hl : s.loopOf l = some (b, d, w))
    (hk : (List.range 16).find? (fun k => !(s.slot k).busy) = some k) (hOn : s.laOn = true) (hMay : s.mayIdent l = true)
    (hMethod : (if relay then a.relay else a.pulse) = true) (hOrder : (ordered || a.trigger) = true)
    (hPhase : (s.adaptRec l).phase = 0) (hCalm : s.calmLoop l a d w = true) (hInt : s.intervalOver l a = true)
    (hAlone : s.interacts a = false)
    (hSurge : (s.groupsOf l).all (fun g => s.fld Fld.LA_SURGE_STATE g.g.val == 0) = true) :
    Completes (.testStart l relay ordered) s [.regs, .levels, .free, .sn, .la] [.LA_STATUS] fun t =>
      (t.slot k).busy = true ∧ (t.slot k).loop = l ∧ (t.slot k).relay = relay ∧ (t.slot k).start = s.pt ∧
      (t.slot k).div = testDiv ((if relay then a.tMax else 4 * adaptPulse a) / ldPeriod d) ∧
      (t.adaptRec l).phase = 1 ∧ Records [0x5001] s t ∧ Raised 90 t := by
  have e : exec (.testStart l relay ordered) s =
      .next (s.begin k (s.granted l relay a d w) (testedRec a d (s.adaptRec l))) := by
    rw [exec_testStart, execTestStart, ha, hl, hk]
    exact if_pos (by rw [hOn, hMay, hMethod, hOrder, hPhase, hCalm, hInt, hAlone, hSurge]; rfl)
  have hSlot := slot_begin s k (s.granted l relay a d w) (testedRec a d (s.adaptRec l))
  have hRec := adaptRec_begin s k (s.granted l relay a d w) (testedRec a d (s.adaptRec l))
  exact .of (fr_execTestStart l relay ordered s) rfl rfl ⟨_, e, congrArg (·.busy) hSlot, congrArg (·.loop) hSlot,
    congrArg (·.relay) hSlot, congrArg (·.start) hSlot, congrArg (·.div) hSlot, congrArg (·.phase) hRec, records_begin ..,
    raised_adaptNote ..⟩

theorem adaptation_off (l : Nat) (x y : Bool) (s : State) (h : s.laOn = false) :
    exec (.testStart l x y) s = .next s ∧ exec (.setStage l) s = .next s ∧ exec (.probationRevert l) s = .next s ∧
    exec (.probationEnd l) s = .next s := by
  refine ⟨?_, ?_, ?_, ?_⟩
  · rw [exec_testStart, execTestStart]
    split
    · exact if_neg (by simp [h])
    · rfl
  · rw [exec_setStage, execSetStage]
    split
    · exact if_pos (by simp [h])
    · rfl
  · rw [exec_probationRevert, execProbationRevert]
    split
    · rfl
    · exact if_neg (by simp [h])
  · exact if_neg (by simp [h])

/-! ## A test aborted (R156) -/

theorem completes_testAbort (k : Fin 16) (r : Nat) (s : State) (hb : (s.slot k.val).busy = true)
    (hr : s.stopNow (s.slot k.val) = r) (h0 : r ≠ 0) :
    Completes (.testAbort k) s [.regs, .levels, .sn, .la] [.LA_STATUS, .LA_SLOT, .LA_COUNT] fun t =>
      t.slot k.val = {} ∧ (t.adaptRec (s.slot k.val).loop).phase = 0 ∧ (t.adaptRec (s.slot k.val).loop).reason = r ∧
      (t.adaptRec (s.slot k.val).loop).lastEnd = some s.pt ∧
      t.fld Fld.LA_COUNT_ABORT = satAdd Fld.LA_COUNT_ABORT.top (s.fld Fld.LA_COUNT_ABORT) 1 ∧ Records [0x5002] s t ∧
      Raised 90 t := by
  have e : exec (.testAbort k) s = .next (s.abortTest k.val r) := by
    subst hr
    exact if_pos (by simp [hb, h0])
  have hRec := adaptRec_abortTest s k.val r hb
  exact .of (fr_execTestAbort k s) rfl rfl ⟨_, e, slot_abortTest _ _ _ hb, by rw [hRec], by rw [hRec], by rw [hRec],
    fld_abortTest_abort _ _ _ hb, records_abortTest _ _ _ hb, raised_abortTest _ _ _ hb⟩

theorem testAbort_idle (k : Fin 16) (s : State) (h : (s.slot k.val).busy = false ∨ s.stopNow (s.slot k.val) = 0) :
    exec (.testAbort k) s = .next s := if_neg (by rcases h with h | h <;> simp [h])

/-! ## A test complete (R154, R157, R158) -/

/-- The test of slot `k` over, with its loop's record `r`. -/
def State.finish (s : State) (k : Nat) (r : AdaptRec) : State := (s.freeSlot k).setAdapt (s.slot k).loop r

theorem slot_finish (s : State) (k : Nat) (r : AdaptRec) : (s.finish k r).slot k = {} := slot_freeSlot_same s k

theorem adaptRec_finish (s : State) (k : Nat) (r : AdaptRec) : (s.finish k r).adaptRec (s.slot k).loop = r :=
  adaptRec_setAdapt_same ..

theorem records_finish (s : State) (k : Nat) (r : AdaptRec) : Records [] s (s.finish k r) := records_nil_of_sn rfl

/-- What a completed test, judged `c`, leaves in its loop's record in every outcome. -/
def judgedRec (s : State) (x : Found) (c : Nat) (r : AdaptRec) : AdaptRec :=
  { r with phase := 0, reason := c, lastEnd := some s.pt, fit := x.fit.toBits }

/-- The record of a loop whose model passed. -/
def acceptedRec (s : State) (x : Found) (r : AdaptRec) : AdaptRec :=
  { judgedRec s x 0 r with model := some (x.k.toBits, x.tau.toBits, x.theta.toBits) }

/-- The record of a loop whose candidate `p` waits for its staging into set `n`. -/
def stagedRec (s : State) (x : Found) (n : Nat) (p : F32 × F32 × F32) (r : AdaptRec) : AdaptRec :=
  { acceptedRec s x r with phase := 2, staged := some (n, p), tuneIdx := r.tuneIdx + 1 }

/-- What the layer notes of the candidate `p` that the test of slot `k` gave, judged `c`. -/
def State.testNote (s : State) (k : Nat) (a : AdaptCfg) (w : LoopWork) (x : Found) (p : F32 × F32 × F32) (c : Nat) :
    AdaptNote :=
  { metric := x.fit.toBits, model := (x.k.toBits, x.tau.toBits, x.theta.toBits), new := p, old := s.inUse (s.slot k).loop a
    setTo := s.nextTune (s.slot k).loop a, setFrom := w.active, reason := c }

section
variable {k : Fin 16} {m : TestModel} {b c : Nat} {a : AdaptCfg} {d : BitVec 512} {w : LoopWork} {x : Found} {kd : Fl}
  {p : F32 × F32 × F32} {s : State}
variable (hb : (s.slot k.val).busy = true) (ha : s.adaptCfg (s.slot k.val).loop = some a)
  (hl : s.loopOf (s.slot k.val).loop = some (b, d, w)) (hf : fitOk d (s.slot k.val) m = true)
  (hd : methodDone a (s.slot k.val) (ldPeriod d) = true)
  (hx : x = findModel a d (s.adaptRec (s.slot k.val).loop) (s.slot k.val) m) (hkd : kd = afterDir d x.k)
  (hp : p = tune a kd x.tau x.theta)
  (hc : c = judge a x kd (marginsOf d kd x.tau x.theta (candidate d a p 0 w.secs)) p (s.inUse (s.slot k.val).loop a)
    (setValid d (candidate d a p 0 w.secs)))
include hb ha hl hf hd hx hkd hp hc

theorem testComplete_rejected (h0 : c ≠ 0) : exec (.testComplete k m) s =
    .next ((s.finish k.val (judgedRec s x c (s.adaptRec (s.slot k.val).loop))).adaptNote 0x5003 (s.slot k.val).loop
      (s.testNote k.val a w x p c)) := by
  subst hx hkd hp hc
  rw [exec_testComplete, execTestComplete, hb, ha, hl]
  exact (if_neg (by simp [hf, hd])).trans (if_pos h0)

theorem testComplete_staged (h0 : c = 0) (hi : s.mayInstall (s.slot k.val).loop = true) : exec (.testComplete k m) s =
    .next (s.finish k.val
      (stagedRec s x (s.nextTune (s.slot k.val).loop a) p (s.adaptRec (s.slot k.val).loop))) := by
  subst hx hkd hp hc
  rw [exec_testComplete, execTestComplete, hb, ha, hl]
  exact (if_neg (by simp [hf, hd])).trans ((if_neg (not_not_intro h0)).trans (if_pos hi))

theorem testComplete_recommended (h0 : c = 0) (hi : s.mayInstall (s.slot k.val).loop = false) :
    exec (.testComplete k m) s =
      .next ((s.finish k.val (acceptedRec s x (s.adaptRec (s.slot k.val).loop))).adaptNote 0x5004 (s.slot k.val).loop
        (s.testNote k.val a w x p c)) := by
  have hi' : (s.freeSlot k.val).mayInstall (s.slot k.val).loop ≠ true := by
    rw [show (s.freeSlot k.val).mayInstall (s.slot k.val).loop = false from hi]
    simp
  subst hx hkd hp hc
  rw [exec_testComplete, execTestComplete, hb, ha, hl]
  exact (if_neg (by simp [hf, hd])).trans ((if_neg (not_not_intro h0)).trans (if_neg hi'))

variable (k m b c a d w x kd p s)

theorem completes_testComplete_rejected (h0 : c ≠ 0) :
    Completes (.testComplete k m) s [.regs, .levels, .sn, .la] [.LA_STATUS, .LA_SLOT] fun t =>
      t.slot k.val = {} ∧ (t.adaptRec (s.slot k.val).loop).lastEnd = some s.pt ∧
      (t.adaptRec (s.slot k.val).loop).reason = c ∧ (t.adaptRec (s.slot k.val).loop).phase = 0 ∧
      (t.adaptRec (s.slot k.val).loop).staged = (s.adaptRec (s.slot k.val).loop).staged ∧ Records [0x5003] s t ∧
      Raised 90 t := by
  have hRec := adaptRec_finish s k.val (judgedRec s x c (s.adaptRec (s.slot k.val).loop))
  refine .of (fr_execTestComplete k m s) rfl rfl
    ⟨_, testComplete_rejected hb ha hl hf hd hx hkd hp hc h0, ?_, ?_, ?_, ?_, ?_,
      (records_finish ..).trans (records_adaptNote ..), raised_adaptNote ..⟩
  · rw [slot_adaptNote, slot_finish]
  all_goals
    rw [adaptRec_adaptNote, hRec]
    rfl

theorem completes_testComplete :
    Completes (.testComplete k m) s [.regs, .levels, .sn, .la] [.LA_STATUS, .LA_SLOT] fun t =>
      t.slot k.val = {} ∧ (t.adaptRec (s.slot k.val).loop).lastEnd = some s.pt ∧
      (t.adaptRec (s.slot k.val).loop).reason = c ∧
      (t.adaptRec (s.slot k.val).loop).phase = (if c = 0 ∧ s.mayInstall (s.slot k.val).loop = true then 2 else 0) ∧
      (t.adaptRec (s.slot k.val).loop).staged.map Prod.snd =
        (if c = 0 ∧ s.mayInstall (s.slot k.val).loop = true then some p
          else (s.adaptRec (s.slot k.val).loop).staged.map Prod.snd) ∧
      (t.adaptRec (s.slot k.val).loop).model =
        (if c = 0 then some (x.k.toBits, x.tau.toBits, x.theta.toBits) else (s.adaptRec (s.slot k.val).loop).model) ∧
      Records (if c ≠ 0 then [0x5003] else if s.mayInstall (s.slot k.val).loop = true then [] else [0x5004]) s t := by
  refine .of (fr_execTestComplete k m s) rfl rfl ?_
  by_cases h0 : c = 0
  · cases hi : s.mayInstall (s.slot k.val).loop with
    | true =>
      have hRec := adaptRec_finish s k.val
        (stagedRec s x (s.nextTune (s.slot k.val).loop a) p (s.adaptRec (s.slot k.val).loop))
      refine ⟨_, testComplete_staged hb ha hl hf hd hx hkd hp hc h0 hi, slot_finish .., ?_⟩
      rw [hRec, h0]
      exact ⟨rfl, rfl, rfl, rfl, rfl, records_finish ..⟩
    | false =>
      have hRec := adaptRec_finish s k.val (acceptedRec s x (s.adaptRec (s.slot k.val).loop))
      refine ⟨_, testComplete_recommended hb ha hl hf hd hx hkd hp hc h0 hi, by rw [slot_adaptNote, slot_finish], ?_⟩
      rw [adaptRec_adaptNote, hRec, h0]
      exact ⟨rfl, rfl, rfl, rfl, rfl, (records_finish ..).trans (records_adaptNote ..)⟩
  · have hRec := adaptRec_finish s k.val (judgedRec s x c (s.adaptRec (s.slot k.val).loop))
    refine ⟨_, testComplete_rejected hb ha hl hf hd hx hkd hp hc h0, by rw [slot_adaptNote, slot_finish], ?_⟩
    rw [adaptRec_adaptNote, hRec]
    simp only [h0, false_and, if_false, ne_eq, not_false_eq_true, if_true]
    exact ⟨rfl, rfl, rfl, rfl, rfl, (records_finish ..).trans (records_adaptNote ..)⟩

end

theorem testComplete_idle (k : Fin 16) (m : TestModel) (b : Nat) (a : AdaptCfg) (d : BitVec 512) (w : LoopWork) (s : State)
    (ha : s.adaptCfg (s.slot k.val).loop = some a)
    (hl : s.loopOf (s.slot k.val).loop = some (b, d, w))
    (h : fitOk d (s.slot k.val) m = false ∨ methodDone a (s.slot k.val) (ldPeriod d) = false) :
    exec (.testComplete k m) s = .next s := by
  rw [exec_testComplete, execTestComplete, ha, hl]
  cases (s.slot k.val).busy with
  | false => rfl
  | true => exact if_pos (by rcases h with h | h <;> simp [h])

end Sys2Proof.Machine
end

section
/-! PROOF. Installation, probation and lockout (of AdaptationOfLoops, O31), and the obligation. -/

namespace Sys2Proof.Machine

/-! ## The active set where alternate blocks are written (R152) -/

theorem blkGet_blkPut_ne (s : State) {b c : Nat} (v : BitVec 256) (h : c ≠ b) : (s.blkPut b v).blkGet c = s.blkGet c := by
  have hFrame : Fr 0x80000 0 s ((((s.markDirty (262144 + 4 * b)).markDirty (262144 + 4 * b + 1)).markDirty
      (262144 + 4 * b + 2)).markDirty (262144 + 4 * b + 3)) := by simp
  exact (Tab.get_set_ne _ _ _ _ _ h).trans (congrArg (Tab.get 0 · c) (hFrame.1 .blk rfl))

theorem blkGet_blksPut_of_lt (vs : List (BitVec 256)) (s : State) {b c : Nat} (h : c < b) :
    (s.blksPut b vs).blkGet c = s.blkGet c := by
  induction vs generalizing s b with
  | nil => rfl
  | cons v vs ih => exact (ih (s.blkPut b v) (by omega)).trans (blkGet_blkPut_ne s v (by omega))

theorem activeSet_of_loopOf {s : State} {l b : Nat} {d : BitVec 512} {w : LoopWork} (h : s.loopOf l = some (b, d, w)) :
    s.activeSet l = w.active := by rw [State.activeSet, h]

/-- ACTIVE_SET lies in the state block. -/
theorem activeSet_of_loopAt {s : State} {l b : Nat} (h : s.loopAt l = some b) :
    s.activeSet l = bits (s.blkGet (b + 2)) 97 96 := by
  rw [State.activeSet, State.loopOf, h]
  rfl

theorem loopAt_of_loopOf {s : State} {l b : Nat} {d : BitVec 512} {w : LoopWork} (h : s.loopOf l = some (b, d, w)) :
    s.loopAt l = some b := by
  rw [State.loopOf] at h
  cases hAt : s.loopAt l <;> simp_all

/-- The candidate `p` written into the blocks of set `n` of a loop. -/
def State.stage (s : State) (b : Nat) (d : BitVec 512) (w : LoopWork) (n : Nat) (a : AdaptCfg) (p : F32 × F32 × F32) : State :=
  s.putAlts b d (stageAlts n w.alts (candidate d a p 0 w.secs))

section
variable {s : State} {l b : Nat} {d : BitVec 512} {w : LoopWork} (n : Nat) (a : AdaptCfg) (p : F32 × F32 × F32)

theorem fr_stage : Fr 0x100080000 0 s (s.stage b d w n a p) := by simp [State.stage]

theorem activeSet_stage (h : s.loopOf l = some (b, d, w)) : (s.stage b d w n a p).activeSet l = w.active := by
  have hAt := loopAt_of_loopOf h
  have hAt' : (s.stage b d w n a p).loopAt l = some b := by
    rw [State.loopAt, (fr_stage n a p).1 .le rfl]
    exact hAt
  rw [activeSet_of_loopAt hAt', ← activeSet_of_loopOf h, activeSet_of_loopAt hAt]
  exact congrArg (bits · 97 96) (blkGet_blksPut_of_lt _ _ (by omega))

end

/-! ## The candidate installed (R158) -/

/-- What an installation notes. -/
def State.installNote (s : State) (l set : Nat) (a : AdaptCfg) (p : F32 × F32 × F32) : AdaptNote :=
  { metric := (s.adaptRec l).fit, model := (s.adaptRec l).model.getD (0, 0, 0), new := p, old := s.inUse l a
    setTo := set, setFrom := s.activeSet l }

/-- The record of a loop whose probation begins at `now`, `ret` its return set. -/
def probationRec (now : Instant) (ret : Nat) (a : AdaptCfg) (p old : F32 × F32 × F32) (r : AdaptRec) : AdaptRec :=
  { r with
    phase := 3, ret := ret, setPrev := ret, staged := none, cand := some p, prevPar := some old
    probIae := 0, sign := none, peak := false, cross := [], osc := false
    probEnd := now.plus a.probation, reason := 0, noRestore := false }

section
variable (s : State) (l set : Nat) (a : AdaptCfg) (p : F32 × F32 × F32)

theorem install_eq : s.install l set a p =
    (((s.laSwitch l set).setAdapt l (probationRec (s.laSwitch l set).pt (s.activeSet l) a p (s.inUse l a)
      ((s.laSwitch l set).adaptRec l))).bump Fld.LA_COUNT_INSTALL).adaptNote 0x5005 l (s.installNote l set a p) := rfl

theorem adaptRec_install : (s.install l set a p).adaptRec l =
    probationRec s.pt (s.activeSet l) a p (s.inUse l a) { s.adaptRec l with set := some set } := by
  rw [install_eq, adaptRec_adaptNote, adaptRec_bump, adaptRec_setAdapt_same, adaptRec_laSwitch,
    pt_of_mt (mt_of_fr (fr_laSwitch_self s l set) rfl)]

theorem fld_install_install : (s.install l set a p).fld Fld.LA_COUNT_INSTALL =
    satAdd Fld.LA_COUNT_INSTALL.top (s.fld Fld.LA_COUNT_INSTALL) 1 := by
  rw [install_eq, fld_adaptNote, fld_bump_same _ _ _ _ (by decide)]
  congr 1
  exact fld_of_fr (fr_laSwitch_self s l set) _ _ rfl

theorem records_install : Records [0x5005] s (s.install l set a p) :=
  .of_fr_left (P := 0x60020) (W := 0x803000000000000000000) (by simp) rfl (records_adaptNote ..)

theorem raised_install : Raised 90 (s.install l set a p) := raised_adaptNote ..

end

/-! ## SET_STAGE (R148, R152, R158) -/

/-- The candidate `p` for set `n` of a loop in MANUAL or FAULT dropped, with reason 0x23. -/
def State.dropCandidate (s : State) (l n : Nat) (a : AdaptCfg) (p : F32 × F32 × F32) (w : LoopWork) : State :=
  (s.setAdapt l { s.adaptRec l with phase := 0, staged := none, reason := 0x23 }).adaptNote 0x5003 l
    { s.installNote l n a p with setFrom := w.active, reason := 0x23 }

theorem adaptRec_dropCandidate (s : State) (l n : Nat) (a : AdaptCfg) (p : F32 × F32 × F32) (w : LoopWork) :
    (s.dropCandidate l n a p w).adaptRec l = { s.adaptRec l with phase := 0, staged := none, reason := 0x23 } := by
  rw [State.dropCandidate, adaptRec_adaptNote, adaptRec_setAdapt_same]

section
variable (l n b : Nat) (p : F32 × F32 × F32) (a : AdaptCfg) (d : BitVec 512) (w : LoopWork) (s : State)

theorem completes_setStage_installed (hg : (s.adaptRec l).staged = some (n, p)) (ha : s.adaptCfg l = some a)
    (hl : s.loopOf l = some (b, d, w)) (hOn : s.laOn = true) (hj : (s.run l).job = none) (hn : n ≠ w.active)
    (hp : (s.run l).pend = none) (h1 : w.state ≠ 1) (h3 : w.state ≠ 3) :
    Completes (.setStage l) s [.regs, .levels, .sn, .le, .la, .bn, .blk] [.LE_CMD_VAL, .LE_CMD_RESULT,
      .LA_COUNT] fun t =>
      (t.adaptRec l).phase = 3 ∧ (t.adaptRec l).staged = none ∧ (t.adaptRec l).ret = w.active ∧
      (t.adaptRec l).set = some n ∧ (t.adaptRec l).cand = some p ∧ (t.adaptRec l).probEnd = s.pt.plus a.probation ∧
      t.fld Fld.LA_COUNT_INSTALL = satAdd Fld.LA_COUNT_INSTALL.top (s.fld Fld.LA_COUNT_INSTALL) 1 ∧
      Records [0x5005] s t ∧ Raised 90 t := by
  have e : exec (.setStage l) s = .next ((s.stage b d w n a p).install l n a p) := by
    rw [exec_setStage, execSetStage, hg, ha, hl]
    exact (if_neg (by simp [hOn, hj, hn, hp])).trans (if_neg (by simp [h1, h3]))
  have hFrame : Fr 0x100080000 0 s (s.stage b d w n a p) := fr_stage n a p
  have hRec := adaptRec_install (s.stage b d w n a p) l n a p
  rw [activeSet_stage n a p hl, pt_of_mt (mt_of_fr hFrame rfl)] at hRec
  refine .of (fr_execSetStage l s) rfl rfl ⟨_, e, congrArg (·.phase) hRec, congrArg (·.staged) hRec, congrArg (·.ret) hRec,
    congrArg (·.set) hRec, congrArg (·.cand) hRec, congrArg (·.probEnd) hRec, ?_, .of_fr_left hFrame rfl (records_install ..),
    raised_install ..⟩
  rw [fld_install_install, fld_of_fr hFrame _ _ rfl]

theorem completes_setStage_dropped (hg : (s.adaptRec l).staged = some (n, p)) (ha : s.adaptCfg l = some a)
    (hl : s.loopOf l = some (b, d, w)) (hOn : s.laOn = true) (hj : (s.run l).job = none) (hn : n ≠ w.active)
    (hp : (s.run l).pend = none) (hw : w.state = 1 ∨ w.state = 3) :
    Completes (.setStage l) s [.levels, .sn, .la] [] fun t =>
      (t.adaptRec l).phase = 0 ∧ (t.adaptRec l).staged = none ∧ (t.adaptRec l).reason = 0x23 ∧ Records [0x5003] s t := by
  have e : exec (.setStage l) s = .next (s.dropCandidate l n a p w) := by
    rw [exec_setStage, execSetStage, hg, ha, hl]
    exact (if_neg (by simp [hOn, hj, hn, hp])).trans (if_pos hw)
  have hRec := adaptRec_dropCandidate s l n a p w
  exact .next e (P := 0x42100) (W := 0) (by simp [State.dropCandidate]) rfl rfl ⟨congrArg (·.phase) hRec,
    congrArg (·.staged) hRec, congrArg (·.reason) hRec,
    .of_fr_left (P := 0x40000) (W := 0) (by simp) rfl (records_adaptNote ..)⟩

end

/-! ## A probation that fails (R159) -/

/-- The record of a loop whose lockout begins at `now`, for reason `c`. -/
def lockedRec (now : Instant) (c : Nat) (a : AdaptCfg) (r : AdaptRec) : AdaptRec :=
  { r with cand := r.prevPar, phase := 4, reason := c, lockEnd := now.plus (4 * a.interval) }

theorem adaptRec_lockout {s : State} {l : Nat} {a : AdaptCfg} (ha : s.adaptCfg l = some a) (c : Nat) :
    (s.lockout l c).adaptRec l = { s.adaptRec l with phase := 4, reason := c, lockEnd := s.pt.plus (4 * a.interval) } := by
  rw [State.adaptCfg] at ha
  rw [State.lockout, adaptRec_setAdapt_same, ha]

/-- What a reversion notes. -/
def State.revertNote (s : State) (l c : Nat) (a : AdaptCfg) : AdaptNote :=
  { metric := iaeRatio (s.adaptRec l), model := (s.adaptRec l).model.getD (0, 0, 0)
    new := (s.adaptRec l).prevPar.getD (a.kp0, a.ti0, a.td0), old := s.inUse l a
    setTo := (s.adaptRec l).ret, setFrom := s.activeSet l, reason := c }

/-- The set in use left for the return set, the parameters of the set before taken back. -/
def State.returned (s : State) (l : Nat) : State :=
  (s.laSwitch l (s.adaptRec l).ret).setAdapt l
    { (s.laSwitch l (s.adaptRec l).ret).adaptRec l with cand := (s.adaptRec l).prevPar }

theorem fr_returned (s : State) (l : Nat) : Fr 0x60020 0x3000000000000000000 s (s.returned l) := by simp [State.returned]

theorem adaptRec_returned (s : State) (l : Nat) : (s.returned l).adaptRec l =
    { s.adaptRec l with cand := (s.adaptRec l).prevPar, set := some (s.adaptRec l).ret } := by
  rw [State.returned, adaptRec_setAdapt_same, adaptRec_laSwitch]

theorem adaptCfg_of_fr {P W : Nat} {s t : State} (f : Fr P W s t) (hP : P &&& 0x200 = 0) (l : Nat) :
    t.adaptCfg l = s.adaptCfg l := by rw [State.adaptCfg, f.1 .img hP, State.adaptCfg]

section
variable (s : State) (l c : Nat) (a : AdaptCfg)

theorem revert_eq : s.revert l c a =
    (((s.returned l).lockout l c).bump Fld.LA_COUNT_REVERT).adaptNote 0x5007 l (s.revertNote l c a) := rfl

theorem adaptRec_revert (ha : s.adaptCfg l = some a) : (s.revert l c a).adaptRec l =
    lockedRec s.pt c a { s.adaptRec l with set := some (s.adaptRec l).ret } := by
  have hFrame := fr_returned s l
  rw [revert_eq, adaptRec_adaptNote, adaptRec_bump, adaptRec_lockout ((adaptCfg_of_fr hFrame rfl l).trans ha),
    adaptRec_returned, pt_of_mt (mt_of_fr hFrame rfl)]
  rfl

theorem fld_revert_revert : (s.revert l c a).fld Fld.LA_COUNT_REVERT =
    satAdd Fld.LA_COUNT_REVERT.top (s.fld Fld.LA_COUNT_REVERT) 1 := by
  rw [revert_eq, fld_adaptNote, fld_bump_same _ _ _ _ (by decide)]
  congr 1
  exact fld_of_fr (fr_returned s l) _ _ rfl

theorem records_revert : Records [0x5007] s (s.revert l c a) := by
  rw [revert_eq]
  exact .of_fr_left (P := 0x60020) (W := 0x803000000000000000000) (by simp [State.returned]) rfl (records_adaptNote ..)

end

theorem completes_probationRevert (l c : Nat) (a : AdaptCfg) (s : State) (ha : s.adaptCfg l = some a) (hOn : s.laOn = true)
    (hp : (s.adaptRec l).phase = 3) (h1 : s.loopState l ≠ 1) (h3 : s.loopState l ≠ 3) (hc : c = revertReason a (s.adaptRec l))
    (h0 : c ≠ 0) :
    Completes (.probationRevert l) s [.regs, .levels, .sn, .le, .la] [.LE_CMD_VAL, .LE_CMD_RESULT,
      .LA_COUNT] fun t =>
      (t.adaptRec l).phase = 4 ∧ (t.adaptRec l).reason = c ∧ (t.adaptRec l).lockEnd = s.pt.plus (4 * a.interval) ∧
      (t.adaptRec l).cand = (s.adaptRec l).prevPar ∧ (t.adaptRec l).set = some (s.adaptRec l).ret ∧
      t.fld Fld.LA_COUNT_REVERT = satAdd Fld.LA_COUNT_REVERT.top (s.fld Fld.LA_COUNT_REVERT) 1 ∧
      Records [0x5007] s t ∧ Raised 90 t := by
  have e : exec (.probationRevert l) s = .next (s.revert l c a) := by
    subst hc
    rw [exec_probationRevert, execProbationRevert, ha]
    exact if_pos ⟨hOn, hp, h1, h3, h0⟩
  have hRec := adaptRec_revert s l c a ha
  exact .of (fr_execProbationRevert l s) rfl rfl ⟨_, e, congrArg (·.phase) hRec, congrArg (·.reason) hRec,
    congrArg (·.lockEnd) hRec, congrArg (·.cand) hRec, congrArg (·.set) hRec, fld_revert_revert .., records_revert ..,
    raised_adaptNote ..⟩

theorem probationRevert_idle (l : Nat) (a : AdaptCfg) (s : State) (ha : s.adaptCfg l = some a)
    (h : revertReason a (s.adaptRec l) = 0 ∨ s.loopState l = 1 ∨ s.loopState l = 3) :
    exec (.probationRevert l) s = .next s := by
  rw [exec_probationRevert, execProbationRevert, ha]
  exact if_neg fun ⟨_, _, h1, h3, h0⟩ => h.elim h0 (Or.rec h1 h3)

/-! ## A probation that passes, and the end of a lockout (R159, R160) -/

/-- The record of a loop whose probation passed. -/
def passedRec (r : AdaptRec) : AdaptRec :=
  { r with phase := 0, reason := 0, passed := some (r.cand.getD (0, 0, 0), r.model.getD (0, 0, 0)) }

/-- What a passed probation notes. -/
def State.passNote (s : State) (l : Nat) (a : AdaptCfg) : AdaptNote :=
  let r := s.adaptRec l
  { metric := iaeRatio r, model := r.model.getD (0, 0, 0), new := r.cand.getD (0, 0, 0)
    old := r.prevPar.getD (a.kp0, a.ti0, a.td0)
    setTo := ((s.setAdapt l (passedRec r)).toKeep l).activeSet l, setFrom := r.ret }

theorem pass_eq {s : State} {l : Nat} {a : AdaptCfg} (ha : s.adaptCfg l = some a) :
    s.pass l = ((s.setAdapt l (passedRec (s.adaptRec l))).toKeep l).adaptNote 0x5006 l (s.passNote l a) := by
  have hFrame : Fr 0x40000 0 s ((s.setAdapt l (passedRec (s.adaptRec l))).toKeep l) := by simp
  have ha' : ((s.setAdapt l (passedRec (s.adaptRec l))).toKeep l).adaptCfg l = some a :=
    (adaptCfg_of_fr hFrame rfl l).trans ha
  unfold State.pass
  rw [passedRec] at ha'
  dsimp only
  rw [ha']
  rfl

theorem probationEnd_of_due {l : Nat} {a : AdaptCfg} {s : State} (ha : s.adaptCfg l = some a) (hOn : s.laOn = true)
    (hp : (s.adaptRec l).phase = 3) (ht : Instant.before s.pt (s.adaptRec l).probEnd = false) :
    exec (.probationEnd l) s =
      if revertReason a (s.adaptRec l) = 0 then .next (s.pass l) else exec (.probationRevert l) s := by
  rw [exec_probationEnd, exec_probationRevert, execProbationEnd, ha]
  exact if_pos ⟨hOn, hp, by simp [ht]⟩

theorem completes_probationEnd (l : Nat) (a : AdaptCfg) (s : State) (ha : s.adaptCfg l = some a) (hOn : s.laOn = true)
    (hp : (s.adaptRec l).phase = 3) (ht : Instant.before s.pt (s.adaptRec l).probEnd = false)
    (h0 : revertReason a (s.adaptRec l) = 0) :
    Completes (.probationEnd l) s [.levels, .sn, .la] [] fun t =>
      (t.adaptRec l).phase = 0 ∧
      (t.adaptRec l).passed = some ((s.adaptRec l).cand.getD (0, 0, 0), (s.adaptRec l).model.getD (0, 0, 0)) ∧
      t.la.unsaved.contains l = true ∧ Records [0x5006] s t ∧ Raised 90 t := by
  have e := (probationEnd_of_due ha hOn hp ht).trans (if_pos h0)
  rw [pass_eq ha] at e
  have hRec : (((s.setAdapt l (passedRec (s.adaptRec l))).toKeep l).adaptNote 0x5006 l (s.passNote l a)).adaptRec l =
      passedRec (s.adaptRec l) := by
    rw [adaptRec_adaptNote, adaptRec_toKeep, adaptRec_setAdapt_same]
  exact .next e (P := 0x42100) (W := 0) (by simp) rfl rfl ⟨congrArg (·.phase) hRec, congrArg (·.passed) hRec,
    by rw [adaptNote_la, contains_toKeep], .of_fr_left (P := 0x40000) (W := 0) (by simp) rfl (records_adaptNote ..),
    raised_adaptNote ..⟩

theorem probationEnd_reverts (l : Nat) (a : AdaptCfg) (s : State) (ha : s.adaptCfg l = some a) (hOn : s.laOn = true)
    (hp : (s.adaptRec l).phase = 3) (ht : Instant.before s.pt (s.adaptRec l).probEnd = false)
    (h0 : revertReason a (s.adaptRec l) ≠ 0) : exec (.probationEnd l) s = exec (.probationRevert l) s :=
  (probationEnd_of_due ha hOn hp ht).trans (if_neg h0)

theorem completes_lockoutEnd (l : Nat) (s : State) (hp : (s.adaptRec l).phase = 4)
    (ht : Instant.before s.pt (s.adaptRec l).lockEnd = false) :
    Completes (.lockoutEnd l) s [.la] [] fun t => t.adaptRec l = { s.adaptRec l with phase := 0 } := by
  have e : exec (.lockoutEnd l) s = .next (s.setAdapt l { s.adaptRec l with phase := 0 }) :=
    if_pos ⟨hp, by simp [ht]⟩
  exact .next e (P := 0x40000) (W := 0) (by simp) rfl rfl (adaptRec_setAdapt_same ..)

theorem lockoutEnd_idle (l : Nat) (s : State) (ht : Instant.before s.pt (s.adaptRec l).lockEnd = true) :
    exec (.lockoutEnd l) s = .next s := if_neg fun h => by simp [ht] at h

/-- Settles O31: each command is the operation of the layer that its conditions grant, read through that operation's rules. -/
theorem adaptationOfLoops : Obligations.AdaptationOfLoops :=
  ⟨completes_testStart, adaptation_off, completes_testAbort, testAbort_idle, completes_testComplete_rejected,
    completes_testComplete, testComplete_idle, completes_setStage_installed, completes_setStage_dropped,
    completes_probationRevert, completes_probationEnd, probationEnd_reverts, probationRevert_idle, completes_lockoutEnd,
    lockoutEnd_idle⟩

end Sys2Proof.Machine
end

section
/-! PROOF. A service message taken, and the answer to it (R272 to R274). -/

namespace Sys2Proof.Machine

/-- A message that nothing turns away is carried out. -/
theorem svc_of_taken {s : State} {h : SvcMsg} {type least sub : Nat} {len : Option Nat}
    (ho : (s.sess h.sess.val).open_ = true) (hs : s.serving = true) (hr : s.svcRefusal h type least sub len = none)
    (f : State → State) : s.svc h type least sub len f = f (s.heard h.sess.val) := by
  rw [State.svc, ho, hs, hr]
  rfl

/-- A frame that is no publication meets its gate alone. -/
theorem netSend_of_no_instant {s : State} {p : Nat} {f : NetWait} (h : f.k = none) :
    s.netSend p f = if s.portOpen p then s.netTry p f else s := by
  rw [State.netSend, State.tooLateFor, h]
  cases s.portOpen p <;> rfl

/-- A service frame leaves, or waits, and is never counted as dropped. -/
theorem fr_answer_self (s : State) (h : SvcMsg) (type code : Nat) (body : List Byte) :
    Fr 0x800002 0 s (s.answer h type code body) := by
  unfold State.answer State.reply State.serviceOut
  split
  · simp
  · split
    · rw [netSend_of_no_instant rfl]
      split <;> simp
    · simp

theorem answers_answer_self (s : State) (h : SvcMsg) (type code : Nat) (body : List Byte) :
    Answers [] h.sess.val (svcOut h.sess.val h.msgId (32768 + type) code body) s (s.answer h type code body) := by
  unfold Answers State.answer State.reply State.serviceOut
  cases s.sessVia h.sess.val with
  | none => exact Eq.refl _
  | some p =>
    cases s.img.vlans.find? fun v => v.service with
    | none => exact (List.append_nil _).symm
    | some v =>
      dsimp only
      rw [netSend_of_no_instant rfl, State.netTry]
      cases s.portOpen (p.val + 1) with
      | false => exact (List.append_nil _).symm
      | true =>
        cases hg : s.gateOpen (p.val + 1) v.pcp with
        | false => simp [State.netWait, Sends]
        | true =>
          intro h6
          simp [h6, State.netOut, Sends, State.emit]

/-- An answer by a state that differs from the one the message came to in nothing that a frame's way depends on. -/
theorem answers_answer {P W : Nat} {s u : State} (h : SvcMsg) (type code : Nat) (body : List Byte)
    (f : Fr P W (s.heard h.sess.val) u) (ho : P &&& 0x2 = 0) (hi : P &&& 0x200 = 0) (hp : P &&& 0x800000 = 0)
    (hW : W &&& rb .PN_PORT = 0) :
    Answers [] h.sess.val (svcOut h.sess.val h.msgId (32768 + type) code body) s (u.answer h type code body) := by
  have hOut : u.out = s.out := f.1 .out ho
  have hImg : u.img = s.img := f.1 .img hi
  have hPn : u.pn = (s.heard h.sess.val).pn := f.1 .pn hp
  have hVia : u.sessVia h.sess.val = s.sessVia h.sess.val := by
    rw [State.sessVia, State.sess, hPn]
    rfl
  have hGate : ∀ p c, u.gateOpen p c = s.gateOpen p c := fun p c => by
    rw [State.gateOpen, hPn]
    rfl
  have hWait : u.pn.wait = s.pn.wait := by rw [hPn]; rfl
  have hPort : ∀ p, u.portOpen p = s.portOpen p := fun p => by
    rw [State.portOpen, State.linkUp, flag_of_fr f _ _ hW, flag_of_fr f _ _ hW]
    rfl
  have hSelf := answers_answer_self u h type code body
  unfold Answers Sends at hSelf ⊢
  simpa only [hOut, hImg, hVia, hGate, hWait, hPort] using hSelf

end Sys2Proof.Machine
end

section
/-! PROOF. What an operator forbids (R167; of SurgeDefenceAndForbids, O32). -/

namespace Sys2Proof.Machine

section
variable (s : State) (l : Nat) (a b c v : Bool)

theorem adaptRec_forbid : (s.forbid l a b c v).adaptRec l = { s.adaptRec l with
    fIdent := if a then v else (s.adaptRec l).fIdent, fInstall := if b then v else (s.adaptRec l).fInstall
    fSurge := if c then v else (s.adaptRec l).fSurge } := by
  rw [State.forbid, adaptRec_adaptNote, adaptRec_toKeep, adaptRec_setAdapt_same]

theorem slot_forbid (k : Nat) : (s.forbid l a b c v).slot k = s.slot k := by
  rw [State.forbid, slot_adaptNote, slot_toKeep, slot_setAdapt]

theorem contains_forbid : (s.forbid l a b c v).la.unsaved.contains l = true := by
  rw [State.forbid, adaptNote_la, contains_toKeep]

theorem records_forbid : Records [0x500E] s (s.forbid l a b c v) :=
  .of_fr_left (P := 0x40000) (W := 0) (by simp) rfl (records_adaptNote ..)

theorem fr_forbid_self : Fr 0x42100 0 s (s.forbid l a b c v) := by simp

end

/-! ## What the forbid of an order ends -/

/-- The order's forbids set: the state in which a running test and a pending installation are looked for. -/
def State.forbidden (s : State) (h : SvcMsg) (l : Nat) (a b c : Bool) : State := (s.heard h.sess.val).forbid l a b c true

/-- A running test of the loop aborted where anything is forbidden. -/
def State.stopTest (s : State) (l : Nat) (any : Bool) : State := if any then s.abortLoop l 8 else s

/-- The record of a loop whose pending installation is cancelled. -/
def cancelledRec (r : AdaptRec) : AdaptRec := { r with phase := 0, staged := none }

/-- A pending installation of the loop cancelled where that is asked. -/
def State.cancelStaged (s : State) (l : Nat) (asked : Bool) : State :=
  if asked && (s.adaptRec l).phase == 2 then s.setAdapt l (cancelledRec (s.adaptRec l)) else s

theorem stopTest_of_none {s : State} {l : Nat} (h : s.slotOf l = none) (any : Bool) : s.stopTest l any = s := by
  rw [State.stopTest, State.abortLoop, h]
  exact ite_self s

theorem stopTest_of_some {s : State} {l k : Nat} (h : s.slotOf l = some k) : s.stopTest l true = s.abortTest k 8 := by
  rw [State.stopTest, State.abortLoop, h]
  rfl

theorem cancelStaged_of_ne {s : State} {l : Nat} (h : (s.adaptRec l).phase ≠ 2) (asked : Bool) : s.cancelStaged l asked = s :=
  if_neg (by simp [h])

theorem cancelStaged_of_eq {s : State} {l : Nat} (h : (s.adaptRec l).phase = 2) :
    s.cancelStaged l true = s.setAdapt l (cancelledRec (s.adaptRec l)) :=
  if_pos (by simp [h])

theorem slotOf_forbidden (s : State) (h : SvcMsg) (l : Nat) (a b c : Bool) : (s.forbidden h l a b c).slotOf l = s.slotOf l :=
  slotOf_of_slots (slot_forbid (s.heard h.sess.val) l a b c true) l

theorem adaptRec_forbidden (s : State) (h : SvcMsg) (l : Nat) (a b c : Bool) : (s.forbidden h l a b c).adaptRec l =
    { s.adaptRec l with
      fIdent := a || (s.adaptRec l).fIdent, fInstall := b || (s.adaptRec l).fInstall
      fSurge := c || (s.adaptRec l).fSurge } := by
  rw [State.forbidden, adaptRec_forbid]
  cases a <;> cases b <;> cases c <;> rfl

theorem records_forbidden (s : State) (h : SvcMsg) (l : Nat) (a b c : Bool) : Records [0x500E] s (s.forbidden h l a b c) :=
  .of_fr_left (P := 0x800000) (W := 0) (by simp) rfl (records_forbid ..)

theorem fr_forbidden (s : State) (h : SvcMsg) (l : Nat) (a b c : Bool) :
    Fr 0x42100 0 (s.heard h.sess.val) (s.forbidden h l a b c) := fr_forbid_self ..

theorem adaptRec_answer (s : State) (h : SvcMsg) (type code : Nat) (body : List Byte) (l : Nat) :
    (s.answer h type code body).adaptRec l = s.adaptRec l :=
  adaptRec_of_la ((fr_answer_self s h type code body).1 .la rfl) l

/-! ## The orders -/

theorem not_isNone_loopAt_heard {s : State} {l : Nat} (k : Nat) (hl : (s.loopAt l).isSome = true) :
    ¬((s.heard k).loopAt l).isNone = true := by
  rw [show (s.heard k).loopAt l = s.loopAt l from rfl, ← Option.not_isSome, hl]
  simp

section
variable (h : SvcMsg) (l : Nat) (a b c : Bool) (s : State)
variable (ho : (s.sess h.sess.val).open_ = true) (hs : s.serving = true) (hr : s.svcRefusal h 0x61 2 0 none = none)
include ho hs hr

theorem adaptForbid_unmapped (hl : s.loopAt l = none) :
    exec (.adaptForbid h l a b c) s = .next ((s.heard h.sess.val).answer h 0x61 7) ∧
    exec (.adaptLift h l a b c) s = .next ((s.heard h.sess.val).answer h 0x61 7) := by
  have hl' : (s.heard h.sess.val).loopAt l = none := hl
  constructor
  · rw [exec_adaptForbid, execAdaptForbid, svc_of_taken ho hs hr, hl']
    rfl
  · rw [exec_adaptLift, execAdaptLift, svc_of_taken ho hs hr, hl']
    rfl

variable (hl : (s.loopAt l).isSome = true)
include hl

theorem adaptForbid_eq : exec (.adaptForbid h l a b c) s =
    .next ((((s.forbidden h l a b c).stopTest l (a || b || c)).cancelStaged l (a || b)).answer h 0x61 0) := by
  rw [exec_adaptForbid, execAdaptForbid, svc_of_taken ho hs hr, if_neg (not_isNone_loopAt_heard _ hl)]
  rfl

theorem adaptLift_eq : exec (.adaptLift h l a b c) s =
    .next (((s.heard h.sess.val).forbid l a b c false).answer h 0x61 0) := by
  rw [exec_adaptLift, execAdaptLift, svc_of_taken ho hs hr, if_neg (not_isNone_loopAt_heard _ hl)]

theorem completes_adaptForbid (ht : s.slotOf l = none) (hp : (s.adaptRec l).phase ≠ 2) :
    Completes (.adaptForbid h l a b c) s [.levels, .out, .sn, .la, .pn] [] fun t =>
      (t.adaptRec l).fIdent = (a || (s.adaptRec l).fIdent) ∧
      (t.adaptRec l).fInstall = (b || (s.adaptRec l).fInstall) ∧
      (t.adaptRec l).fSurge = (c || (s.adaptRec l).fSurge) ∧ t.la.unsaved.contains l = true ∧ Records [0x500E] s t ∧
      Answers [] h.sess.val (svcOut h.sess.val h.msgId 0x8061 0 []) s t := by
  have hRec := adaptRec_forbidden s h l a b c
  have e := adaptForbid_eq h l a b c s ho hs hr hl
  rw [stopTest_of_none ((slotOf_forbidden ..).trans ht), cancelStaged_of_ne (by rw [hRec]; exact hp)] at e
  have hFrame := fr_answer_self (s.forbidden h l a b c) h 0x61 0 []
  refine .next e (P := 0x842102) (W := 0) ?_ rfl rfl ⟨?_, ?_, ?_, ?_, (records_forbidden ..).of_fr_right hFrame rfl,
    answers_answer h 0x61 0 [] (fr_forbidden ..) rfl rfl rfl rfl⟩
  · exact (Fr.iff hFrame rfl rfl).2 (by simp [State.forbidden])
  · rw [adaptRec_answer, hRec]
  · rw [adaptRec_answer, hRec]
  · rw [adaptRec_answer, hRec]
  · rw [hFrame.1 .la rfl]
    exact contains_forbid ..

theorem completes_adaptForbid_test (k : Nat) (ht : s.slotOf l = some k) (hAny : (a || b || c) = true) :
    Completes (.adaptForbid h l a b c) s [.out, .regs, .levels, .sn, .la, .pn] [.LA_STATUS, .LA_SLOT, .LA_COUNT,
      .PN_DROP] fun t =>
      t.slot k = {} ∧ (t.adaptRec l).fIdent = (a || (s.adaptRec l).fIdent) ∧ (t.adaptRec l).phase = 0 ∧
      (t.adaptRec l).reason = 8 ∧ Records [0x500E, 0x5002] s t := by
  have hSlot := (slotOf_forbidden s h l a b c).trans ht
  obtain ⟨hBusy, hLoop⟩ := slotOf_some hSlot
  have hRec := adaptRec_abortTest (s.forbidden h l a b c) k 8 hBusy
  rw [hLoop, adaptRec_forbidden] at hRec
  have e := adaptForbid_eq h l a b c s ho hs hr hl
  rw [hAny, stopTest_of_some hSlot, cancelStaged_of_ne (by simp [hRec])] at e
  have hFrame := fr_answer_self ((s.forbidden h l a b c).abortTest k 8) h 0x61 0 []
  refine .of (fr_execAdaptForbid h l a b c s) rfl rfl ⟨_, e, ?_, ?_, ?_, ?_,
    ((records_forbidden ..).trans (records_abortTest _ _ _ hBusy)).of_fr_right hFrame rfl⟩
  · rw [slot_of_la (hFrame.1 .la rfl), slot_abortTest _ _ _ hBusy]
  · rw [adaptRec_answer, hRec]
  · rw [adaptRec_answer, hRec]
  · rw [adaptRec_answer, hRec]

theorem completes_adaptForbid_staged (ht : s.slotOf l = none) (hp : (s.adaptRec l).phase = 2) (hAny : (a || b) = true) :
    Completes (.adaptForbid h l a b c) s [.levels, .out, .sn, .la, .pn] [] fun t =>
      (t.adaptRec l).phase = 0 ∧ (t.adaptRec l).staged = none ∧ Records [0x500E] s t ∧
      Answers [] h.sess.val (svcOut h.sess.val h.msgId 0x8061 0 []) s t := by
  have hPhase : ((s.forbidden h l a b c).adaptRec l).phase = 2 := by rw [adaptRec_forbidden]; exact hp
  have e := adaptForbid_eq h l a b c s ho hs hr hl
  rw [stopTest_of_none ((slotOf_forbidden ..).trans ht), hAny, cancelStaged_of_eq hPhase] at e
  have hCancel : Fr 0x40000 0 (s.forbidden h l a b c)
      ((s.forbidden h l a b c).setAdapt l (cancelledRec ((s.forbidden h l a b c).adaptRec l))) := by simp
  have hFrame := fr_answer_self
    ((s.forbidden h l a b c).setAdapt l (cancelledRec ((s.forbidden h l a b c).adaptRec l))) h 0x61 0 []
  refine .next e (P := 0x842102) (W := 0) ?_ rfl rfl ⟨?_, ?_,
    ((records_forbidden ..).of_fr_right hCancel rfl).of_fr_right hFrame rfl,
    answers_answer h 0x61 0 [] ((Fr.iff hCancel rfl rfl).2 (fr_forbidden s h l a b c)) rfl rfl rfl rfl⟩
  · exact (Fr.iff hFrame rfl rfl).2 (by simp [State.forbidden])
  · rw [adaptRec_answer, adaptRec_setAdapt_same, cancelledRec]
  · rw [adaptRec_answer, adaptRec_setAdapt_same, cancelledRec]

theorem completes_adaptLift :
    Completes (.adaptLift h l a b c) s [.levels, .out, .sn, .la, .pn] [] fun t =>
      (t.adaptRec l).fIdent = (!a && (s.adaptRec l).fIdent) ∧
      (t.adaptRec l).fInstall = (!b && (s.adaptRec l).fInstall) ∧
      (t.adaptRec l).fSurge = (!c && (s.adaptRec l).fSurge) ∧ Records [0x500E] s t ∧
      Answers [] h.sess.val (svcOut h.sess.val h.msgId 0x8061 0 []) s t := by
  have hRec := adaptRec_forbid (s.heard h.sess.val) l a b c false
  have hFrame := fr_answer_self ((s.heard h.sess.val).forbid l a b c false) h 0x61 0 []
  have hRecords : Records [0x500E] s ((s.heard h.sess.val).forbid l a b c false) :=
    .of_fr_left (P := 0x800000) (W := 0) (by simp) rfl (records_forbid ..)
  refine .next (adaptLift_eq h l a b c s ho hs hr hl) (P := 0x842102) (W := 0) ?_ rfl rfl
    ⟨?_, ?_, ?_, hRecords.of_fr_right hFrame rfl, answers_answer h 0x61 0 [] (fr_forbid_self ..) rfl rfl rfl rfl⟩
  · exact (Fr.iff hFrame rfl rfl).2 (by simp)
  · rw [adaptRec_answer, hRec]
    cases a <;> rfl
  · rw [adaptRec_answer, hRec]
    cases b <;> rfl
  · rw [adaptRec_answer, hRec]
    cases c <;> rfl

end

end Sys2Proof.Machine
end

section
/-! PROOF. Surge defence (R161 to R164; of SurgeDefenceAndForbids, O32), and the obligation. -/

namespace Sys2Proof.Machine

/-! ## A group's run and STATE -/

/-- The run `x` of surge group `g` put down. -/
def State.putSurge (s : State) (g : Nat) (x : SurgeRun) : State :=
  { s with la := { s.la with surge := Tab.set {} s.la.surge g x } }

theorem fr_putSurge {P W : Nat} (b s : State) (g : Nat) (x : SurgeRun) (hP : P &&& 0x40000 = 0x40000) (hW : W &&& 0 = 0) :
    Fr P W b (s.putSurge g x) ↔ Fr P W b s :=
  Fr.iff (p := 0x40000) (w := 0) (by simp [State.putSurge]) hP hW

section
variable {s : State} {g st : Nat}

theorem setSurge_of_ne (h : s.fld Fld.LA_SURGE_STATE g ≠ st) :
    s.setSurge g st = ((s.setFld Fld.LA_SURGE_STATE st g).ev 91).showSurge := if_neg h

theorem raised_setSurge (h : s.fld Fld.LA_SURGE_STATE g ≠ st) : Raised 91 (s.setSurge g st) := by
  rw [setSurge_of_ne h]
  exact mem_ev _ 91 rfl

end

section
variable (s : State) (g st : Nat)

theorem fld_setSurge_same (h : st < 4) : (s.setSurge g st).fld Fld.LA_SURGE_STATE g = st := by
  by_cases he : s.fld Fld.LA_SURGE_STATE g = st
  · rw [State.setSurge, if_pos he, he]
  · rw [setSurge_of_ne he, State.showSurge, fld_setFld_apart _ _ _ _ _ _ (by decide) (.inl (by decide)), fld_ev,
      fld_setFld_same _ _ _ _ (by decide)]
    exact Nat.mod_eq_of_lt h

theorem fld_setSurge_apart (f : Field) (i : Nat) (hs : Fld.LA_SURGE_STATE.apart f = true)
    (hon : Fld.LA_STATUS_SURGE_ON.apart f = true) : (s.setSurge g st).fld f i = s.fld f i := by
  by_cases he : s.fld Fld.LA_SURGE_STATE g = st
  · rw [State.setSurge, if_pos he]
  · rw [setSurge_of_ne he, State.showSurge, fld_setFld_apart _ _ _ _ _ _ (by decide) (.inl hon), fld_ev,
      fld_setFld_apart _ _ _ _ _ _ (by decide) (.inl hs)]

theorem fr_setSurge_self : Fr 0x120 0x440000000000000000000 s (s.setSurge g st) := by simp

end

/-! ## A surge record (R166) -/

section
variable (s : State) (code : Nat) (c : SurgeCfg) (l reason set : Nat)

theorem records_surgeNote : Records [code] s (s.surgeNote code c l reason set) := records_adaptNote ..

theorem raised_surgeNote : Raised 90 (s.surgeNote code c l reason set) := raised_adaptNote ..

theorem keepsRaised_surgeNote : KeepsRaised s (s.surgeNote code c l reason set) := keepsRaised_adaptNote ..

theorem fld_surgeNote (f : Field) (i : Nat) : (s.surgeNote code c l reason set).fld f i = s.fld f i := fld_adaptNote ..

theorem mem_surgeNote : ∃ r ∈ (s.surgeNote code c l reason set).sn.raised, r.code = BitVec.ofNat 16 code := mem_adaptNote ..

end

theorem keepsRaised_laSwitch (s : State) (l set : Nat) : KeepsRaised s (s.laSwitch l set) :=
  .of_fr (fr_laSwitch_self s l set) rfl rfl

theorem keepsRaised_setAdapt (s : State) (l : Nat) (r : AdaptRec) : KeepsRaised s (s.setAdapt l r) :=
  .of_fr (P := 0x40000) (W := 0) (by simp) rfl rfl

/-! ## A precursor (R156, R164) -/

theorem fld_precursor_apart (s : State) (c : SurgeCfg) (f : Field) (hf : f.reg ≠ .LA_STATUS ∧ f.reg ≠ .LA_SLOT)
    (ha : Fld.LA_COUNT_ABORT.apart f = true) (i : Nat) : (s.precursor c).fld f i = s.fld f i := by
  refine fld_foldl (fun t m => ?_) _ _
  dsimp only
  split
  · exact fld_abortLoop_apart _ _ _ f hf ha i
  · rw [fld_surgeNote, fld_abortLoop_apart _ _ _ f hf ha i]

/-! ## Entry to DEFENCE (R162) -/

/-- The group itself in DEFENCE: counted, recorded, its margin no longer held. -/
def State.enterDefence (s : State) (c : SurgeCfg) : State :=
  (((s.putSurge c.g.val { Tab.get ({} : SurgeRun) s.la.surge c.g.val with relAt := none }).setSurge c.g.val 2).bump
    Fld.LA_COUNT_SURGE).surgeNote 0x5008 c (surgeLead c).1 0 (surgeLead c).2

/-- What entry to DEFENCE cancels of one member. -/
def State.stopMember (s : State) (m : Nat × Nat) : State := (s.dropStaged m.1).abortLoop m.1 5

theorem defence_eq (s : State) (c : SurgeCfg) :
    s.defence c = c.members.foldl (fun s m => s.defend c m) (c.members.foldl State.stopMember (s.enterDefence c)) := rfl

theorem keepsRaised_stopMember (s : State) (m : Nat × Nat) : KeepsRaised s (s.stopMember m) :=
  (KeepsRaised.of_fr (P := 0x40000) (W := 0) (by simp) rfl rfl).trans (keepsRaised_abortLoop ..)

theorem keepsRaised_defend (s : State) (c : SurgeCfg) (m : Nat × Nat) : KeepsRaised s (s.defend c m) := by
  unfold State.defend
  dsimp only
  split
  · exact .refl s
  · split
    · exact keepsRaised_surgeNote ..
    · split
      · exact keepsRaised_laSwitch ..
      · exact (keepsRaised_setAdapt ..).trans (keepsRaised_laSwitch ..)

theorem fld_stopMember_apart (s : State) (m : Nat × Nat) (f : Field) (hf : f.reg ≠ .LA_STATUS ∧ f.reg ≠ .LA_SLOT)
    (ha : Fld.LA_COUNT_ABORT.apart f = true) (i : Nat) : (s.stopMember m).fld f i = s.fld f i := by
  have hFrame : Fr 0x40000 0 s (s.dropStaged m.1) := by simp
  exact (fld_abortLoop_apart _ _ _ f hf ha i).trans (fld_of_fr hFrame f i (Nat.zero_and _))

/-- Of the registers, a member's part in the defence writes those of its loop command alone. -/
theorem fld_defend (s : State) (c : SurgeCfg) (m : Nat × Nat) (f : Field) (i : Nat)
    (hW : 0x3000000000000000000 &&& rb f.reg = 0) : (s.defend c m).fld f i = s.fld f i :=
  fld_of_fr (P := 0x62120) (W := 0x3000000000000000000) (by simp) f i hW

theorem fld_defence (s : State) (c : SurgeCfg) (f : Field) (i : Nat) (hf : f.reg ≠ .LA_STATUS ∧ f.reg ≠ .LA_SLOT)
    (ha : Fld.LA_COUNT_ABORT.apart f = true) (hW : 0x3000000000000000000 &&& rb f.reg = 0) :
    (s.defence c).fld f i = (s.enterDefence c).fld f i := by
  rw [defence_eq, fld_foldl fun s m => fld_defend s c m f i hW, fld_foldl fun s m => fld_stopMember_apart s m f hf ha i]

theorem keepsRaised_defence (s : State) (c : SurgeCfg) : KeepsRaised (s.enterDefence c) (s.defence c) :=
  (KeepsRaised.foldl keepsRaised_stopMember ..).trans (.foldl (fun s m => keepsRaised_defend s c m) ..)

section
variable (s : State) (c : SurgeCfg)

theorem fld_enterDefence_state : (s.enterDefence c).fld Fld.LA_SURGE_STATE c.g.val = 2 := by
  rw [State.enterDefence, fld_surgeNote, fld_bump_apart _ _ _ _ _ _ (by decide) (.inl (by decide)),
    fld_setSurge_same _ _ _ (by decide)]

theorem fld_enterDefence_count : (s.enterDefence c).fld Fld.LA_COUNT_SURGE =
    satAdd Fld.LA_COUNT_SURGE.top (s.fld Fld.LA_COUNT_SURGE) 1 := by
  rw [State.enterDefence, fld_surgeNote, fld_bump_same _ _ _ _ (by decide),
    fld_setSurge_apart _ _ _ _ _ (by decide) (by decide)]
  rfl

theorem raised_enterDefence (h : s.fld Fld.LA_SURGE_STATE c.g.val ≠ 2) : Raised 91 (s.enterDefence c) :=
  (keepsRaised_surgeNote ..).levels 91 (raised_setSurge h)

end

/-! ## SURGE_INTERVAL_CLOSE (R162, R163) -/

/-- M and F of the interval that closed. -/
def State.judged (s : State) (c : SurgeCfg) : Fl × Fl :=
  surgeJudge c (Tab.get {} s.la.feed c.qCh.val) (Tab.get {} s.la.feed c.dpCh.val)

/-- The interval makes a precursor. -/
def preceding (c : SurgeCfg) (mf : Fl × Fl) : Bool := Fl.lt mf.1 (Fl.ofBits c.mArm) && Fl.le (Fl.ofBits c.fThr) mf.2

/-- The judged interval kept in the group's run, its margin shown. -/
def State.showMargin (s : State) (g : Nat) (c : SurgeCfg) : State :=
  let mf := s.judged c
  let r : SurgeRun := Tab.get {} s.la.surge g
  (s.putSurge g { r with
    invalid := 0, m := mf.1.toBits, f := mf.2.toBits
    relAt := if Fl.le (Fl.ofBits c.mRel) mf.1 then some (r.relAt.getD s.pt) else none }).setFld Fld.LA_SURGE_MARGIN
      (ofSigned 16 (clampInt 32767 (Fl.mul mf.1 (Fl.ofNat 10000)).toInt)) g

/-- The precursors in a row, this interval with them. -/
def State.preCount (s : State) (g : Nat) (c : SurgeCfg) : Nat :=
  if preceding c (s.judged c) then (s.showMargin g c).fld Fld.LA_SURGE_COUNT g + 1 else 0

/-- The precursors counted, and this one acted on. -/
def State.countedPre (s : State) (g : Nat) (c : SurgeCfg) : State :=
  let u := (s.showMargin g c).setFld Fld.LA_SURGE_COUNT (sat 15 (s.preCount g c)) g
  if preceding c (s.judged c) then u.precursor c else u

section
variable {g : Fin 32} {c : SurgeCfg} {s : State}
variable (hOn : s.laOn = true) (hc : s.img.surge.find? (fun c => c.g == g) = some c)
include hOn hc

theorem surgeIntervalClose_valid (hq : (Tab.get ({} : GyFeed) s.la.feed c.qCh.val).bad = false)
    (hp : (Tab.get ({} : GyFeed) s.la.feed c.dpCh.val).bad = false) (h2 : s.fld Fld.LA_SURGE_STATE g.val ≠ 2) :
    exec (.surgeIntervalClose g) s =
      if (Fl.lt (s.judged c).1 (Fl.ofBits c.mTrip) || (preceding c (s.judged c) && decide (c.n ≤ s.preCount g c))) = true
      then .next ((s.countedPre g c).defence c)
      else .next ((s.countedPre g c).setSurge g (if preceding c (s.judged c) then 1 else 0)) := by
  rw [exec_surgeIntervalClose, execSurgeIntervalClose, hOn, hc]
  exact (if_neg (by rw [hq, hp]; exact Bool.false_ne_true)).trans (if_neg h2)

end

/-- The margin shown and the precursors counted leave STATE, and every count but that of aborts, as they were. -/
theorem fld_countedPre_apart (s : State) (g : Nat) (c : SurgeCfg) (f : Field) (i : Nat)
    (hf : f.reg ≠ .LA_STATUS ∧ f.reg ≠ .LA_SLOT) (ha : Fld.LA_COUNT_ABORT.apart f = true)
    (hm : Fld.LA_SURGE_MARGIN.apart f = true) (hn : Fld.LA_SURGE_COUNT.apart f = true) :
    (s.countedPre g c).fld f i = s.fld f i := by
  have hCount : ((s.showMargin g c).setFld Fld.LA_SURGE_COUNT (sat 15 (s.preCount g c)) g).fld f i = s.fld f i := by
    rw [fld_setFld_apart _ _ _ _ _ _ (by decide) (.inl hn), State.showMargin,
      fld_setFld_apart _ _ _ _ _ _ (by decide) (.inl hm)]
    rfl
  unfold State.countedPre
  dsimp only
  split
  · rw [fld_precursor_apart _ _ _ hf ha, hCount]
  · exact hCount

/-- The run of a group after one more invalid interval. -/
def SurgeRun.unjudged (r : SurgeRun) : SurgeRun := { r with invalid := r.invalid + 1, relAt := none }

/-- An invalid interval kept in the group's run, its precursors forgotten. -/
def State.missInterval (s : State) (g : Nat) : State :=
  (s.putSurge g (Tab.get ({} : SurgeRun) s.la.surge g).unjudged).setFld Fld.LA_SURGE_COUNT 0 g

theorem fr_missInterval (s : State) (g : Nat) : Fr 0x40020 0x400000000000000000000 s (s.missInterval g) := by
  simp [State.missInterval, fr_putSurge]

theorem fld_missInterval_count (s : State) (g : Nat) : (s.missInterval g).fld Fld.LA_SURGE_COUNT g = 0 := by
  rw [State.missInterval, fld_setFld_same _ _ _ _ (by decide), Nat.zero_mod]

theorem fld_missInterval_state (s : State) (g : Nat) :
    (s.missInterval g).fld Fld.LA_SURGE_STATE g = s.fld Fld.LA_SURGE_STATE g :=
  fld_setFld_apart _ _ _ _ _ _ (by decide) (.inl (by decide))

theorem group_of_find {g : Fin 32} {c : SurgeCfg} {s : State} (hc : s.img.surge.find? (fun c => c.g == g) = some c) :
    c.g = g := by simpa using List.find?_some hc

section
variable (g : Fin 32) (c : SurgeCfg) (s : State)
variable (hOn : s.laOn = true) (hc : s.img.surge.find? (fun c => c.g == g) = some c)
include hOn hc

theorem completes_surgeIntervalClose_trips (hq : (Tab.get ({} : GyFeed) s.la.feed c.qCh.val).bad = false)
    (hp : (Tab.get ({} : GyFeed) s.la.feed c.dpCh.val).bad = false) (h2 : s.fld Fld.LA_SURGE_STATE g.val ≠ 2)
    (ht : Fl.lt (surgeJudge c (Tab.get {} s.la.feed c.qCh.val) (Tab.get {} s.la.feed c.dpCh.val)).1 (Fl.ofBits c.mTrip) = true) :
    Completes (.surgeIntervalClose g) s [.regs, .levels, .sn, .le, .la] [.LE_CMD_VAL, .LE_CMD_RESULT, .LA_STATUS,
      .LA_SLOT, .LA_SURGE, .LA_COUNT] fun t =>
      t.fld Fld.LA_SURGE_STATE g.val = 2 ∧
      t.fld Fld.LA_COUNT_SURGE = satAdd Fld.LA_COUNT_SURGE.top (s.fld Fld.LA_COUNT_SURGE) 1 ∧
      (t.sn.raised.any fun r => r.code == 0x5008#16) = true ∧ Raised 91 t ∧ Raised 90 t := by
  have e : exec (.surgeIntervalClose g) s = .next ((s.countedPre g c).defence c) :=
    (surgeIntervalClose_valid hOn hc hq hp h2).trans (if_pos (by rw [State.judged, ht]; rfl))
  have hg := group_of_find hc
  have hKeeps := keepsRaised_defence (s.countedPre g c) c
  have hState : (s.countedPre g c).fld Fld.LA_SURGE_STATE c.g.val ≠ 2 := by
    rw [fld_countedPre_apart _ _ _ _ _ (by decide) (by decide) (by decide) (by decide), hg]
    exact h2
  refine .of (fr_execSurgeIntervalClose g s) rfl rfl ⟨_, e, ?_, ?_, hKeeps.any_code (mem_surgeNote ..),
    hKeeps.levels 91 (raised_enterDefence _ c hState), hKeeps.levels 90 (raised_surgeNote ..)⟩
  · rw [fld_defence _ _ _ _ (by decide) (by decide) rfl, ← hg, fld_enterDefence_state]
  · rw [fld_defence _ _ _ _ (by decide) (by decide) rfl, fld_enterDefence_count,
      fld_countedPre_apart _ _ _ _ _ (by decide) (by decide) (by decide) (by decide)]

theorem completes_surgeIntervalClose_normal (hq : (Tab.get ({} : GyFeed) s.la.feed c.qCh.val).bad = false)
    (hp : (Tab.get ({} : GyFeed) s.la.feed c.dpCh.val).bad = false) (h2 : s.fld Fld.LA_SURGE_STATE g.val ≠ 2)
    (ht : Fl.lt (surgeJudge c (Tab.get {} s.la.feed c.qCh.val) (Tab.get {} s.la.feed c.dpCh.val)).1 (Fl.ofBits c.mTrip) = false)
    (ha : Fl.lt (surgeJudge c (Tab.get {} s.la.feed c.qCh.val) (Tab.get {} s.la.feed c.dpCh.val)).1 (Fl.ofBits c.mArm) = false) :
    Completes (.surgeIntervalClose g) s [.regs, .levels, .la] [.LA_STATUS, .LA_SURGE] fun t =>
      t.fld Fld.LA_SURGE_STATE g.val = 0 ∧ t.fld Fld.LA_SURGE_COUNT g.val = 0 := by
  have hPre : preceding c (s.judged c) = false := by rw [preceding, State.judged, ha]; rfl
  have hCounted : s.countedPre g c = (s.showMargin g c).setFld Fld.LA_SURGE_COUNT 0 g := by
    rw [State.countedPre, State.preCount, hPre]
    rfl
  have e : exec (.surgeIntervalClose g) s = .next (((s.showMargin g c).setFld Fld.LA_SURGE_COUNT 0 g).setSurge g 0) := by
    rw [surgeIntervalClose_valid hOn hc hq hp h2, hPre, hCounted]
    exact if_neg (by rw [State.judged, ht]; exact Bool.false_ne_true)
  refine .next e (P := 0x40120) (W := 0x440000000000000000000) ?_ rfl rfl ⟨fld_setSurge_same _ _ _ (by decide), ?_⟩
  · simp [State.showMargin, fr_putSurge]
  · rw [fld_setSurge_apart _ _ _ _ _ (by decide) (by decide), fld_setFld_same _ _ _ _ (by decide), Nat.zero_mod]

theorem completes_surgeIntervalClose_blind (hq : (Tab.get ({} : GyFeed) s.la.feed c.qCh.val).bad = true)
    (h2 : s.fld Fld.LA_SURGE_STATE g.val ≠ 2) (h3 : s.fld Fld.LA_SURGE_STATE g.val ≠ 3)
    (h9 : 9 ≤ (Tab.get ({} : SurgeRun) s.la.surge g.val).invalid) (hb : c.blindSwitch = false) :
    Completes (.surgeIntervalClose g) s [.regs, .levels, .sn, .la] [.LA_STATUS, .LA_SURGE] fun t =>
      t.fld Fld.LA_SURGE_STATE g.val = 3 ∧ t.fld Fld.LA_SURGE_COUNT g.val = 0 ∧ Records [0x500B] s t ∧ Raised 91 t := by
  have e : exec (.surgeIntervalClose g) s =
      .next (((s.missInterval g).setSurge g 3).surgeNote 0x500B c (surgeLead c).1 0) := by
    rw [exec_surgeIntervalClose, execSurgeIntervalClose, hOn, hc]
    refine (if_pos (by rw [hq]; rfl)).trans ((if_neg (not_or.2 ⟨h2, h3⟩)).trans ((if_pos (by omega)).trans ?_))
    exact congrArg _ (if_neg (by simp [hb]))
  have hMiss := fr_missInterval s g.val
  have hSurge := fr_setSurge_self (s.missInterval g) g.val 3
  have hLeft : Raised 91 ((s.missInterval g).setSurge g.val 3) := raised_setSurge (by rw [fld_missInterval_state]; exact h3)
  refine .next e (P := 0x42120) (W := 0x440000000000000000000) ?_ rfl rfl ⟨?_, ?_,
    .of_fr_left hMiss rfl (.of_fr_left hSurge rfl (records_surgeNote ..)), (keepsRaised_surgeNote ..).levels 91 hLeft⟩
  · simpa using hMiss.mono rfl rfl
  · rw [fld_surgeNote, fld_setSurge_same _ _ _ (by decide)]
  · rw [fld_surgeNote, fld_setSurge_apart _ _ _ _ _ (by decide) (by decide), fld_missInterval_count]

end

/-! ## SURGE_RELEASE (R164) -/

/-- The group itself out of DEFENCE. -/
def State.leaveDefence (s : State) (g : Nat) (c : SurgeCfg) : State :=
  let u := (s.setSurge g 0).setFld Fld.LA_SURGE_COUNT 0 g
  u.surgeNote 0x5009 c (surgeLead c).1 0 (u.adaptRec (surgeLead c).1).ret

theorem keepsRaised_undefend (s : State) (c : SurgeCfg) (m : Nat × Nat) : KeepsRaised s (s.undefend c m) := by
  unfold State.undefend
  dsimp only
  split
  · split
    · exact (keepsRaised_setAdapt ..).trans (keepsRaised_surgeNote ..)
    · exact keepsRaised_surgeNote ..
  · split
    · exact (keepsRaised_setAdapt ..).trans (keepsRaised_laSwitch ..)
    · exact .refl s

theorem fld_undefend (s : State) (c : SurgeCfg) (m : Nat × Nat) (f : Field) (i : Nat)
    (hW : 0x3000000000000000000 &&& rb f.reg = 0) : (s.undefend c m).fld f i = s.fld f i :=
  fld_of_fr (P := 0x62120) (W := 0x3000000000000000000) (by simp) f i hW

theorem completes_surgeRelease (g : Fin 32) (c : SurgeCfg) (u : Instant) (s : State) (hOn : s.laOn = true)
    (hc : s.img.surge.find? (fun c => c.g == g) = some c)
    (hu : (Tab.get ({} : SurgeRun) s.la.surge g.val).relAt = some u) (h2 : s.fld Fld.LA_SURGE_STATE g.val = 2)
    (ht : Instant.before s.pt (u.plus c.hRel) = false) :
    Completes (.surgeRelease g) s [.regs, .levels, .sn, .le, .la] [.LE_CMD_VAL, .LE_CMD_RESULT, .LA_STATUS,
      .LA_SURGE] fun t =>
      t.fld Fld.LA_SURGE_STATE g.val = 0 ∧ t.fld Fld.LA_SURGE_COUNT g.val = 0 ∧
      (c.members = [] → Records [0x5009] s t) ∧ (t.sn.raised.any fun r => r.code == 0x5009#16) = true ∧ Raised 91 t := by
  have e : exec (.surgeRelease g) s =
      .next (c.members.foldl (fun s m => s.undefend c m) (s.leaveDefence g.val c)) := by
    rw [exec_surgeRelease, execSurgeRelease, hOn, hc, hu]
    exact if_pos ⟨h2, by simp [ht]⟩
  have hKeeps : KeepsRaised (s.leaveDefence g.val c)
      (c.members.foldl (fun s m => s.undefend c m) (s.leaveDefence g.val c)) :=
    .foldl (fun s m => keepsRaised_undefend s c m) ..
  have hLeft : Raised 91 (s.setSurge g.val 0) := raised_setSurge (by rw [h2]; decide)
  refine .of (fr_execSurgeRelease g s) rfl rfl ⟨_, e, ?_, ?_, fun hm => ?_, hKeeps.any_code (mem_surgeNote ..),
    hKeeps.levels 91 ((keepsRaised_surgeNote ..).levels 91 hLeft)⟩
  · rw [fld_foldl fun s m => fld_undefend s c m _ _ rfl, State.leaveDefence, fld_surgeNote,
      fld_setFld_apart _ _ _ _ _ _ (by decide) (.inl (by decide)), fld_setSurge_same _ _ _ (by decide)]
  · rw [fld_foldl fun s m => fld_undefend s c m _ _ rfl, State.leaveDefence, fld_surgeNote,
      fld_setFld_same _ _ _ _ (by decide), Nat.zero_mod]
  · rw [hm]
    exact .of_fr_left (P := 0x120) (W := 0x440000000000000000000) (by simp) rfl (records_surgeNote ..)

theorem surgeRelease_idle (g : Fin 32) (s : State) (h : (Tab.get ({} : SurgeRun) s.la.surge g.val).relAt = none) :
    exec (.surgeRelease g) s = .next s := by
  rw [exec_surgeRelease, execSurgeRelease, h]
  cases s.laOn with
  | false => rfl
  | true => cases s.img.surge.find? (fun c => c.g == g) <;> rfl

/-- Settles O32: an interval and a release are the group's own step followed by its members' steps, which keep what it showed
and raised; a forbid is set, and then ends what runs on its loop. -/
theorem surgeDefenceAndForbids : Obligations.SurgeDefenceAndForbids :=
  ⟨completes_surgeIntervalClose_trips, completes_surgeIntervalClose_normal, completes_surgeIntervalClose_blind,
    completes_surgeRelease, surgeRelease_idle, completes_adaptForbid,
    fun h l k a b c s ho hs hr hl => completes_adaptForbid_test h l a b c s ho hs hr hl k, completes_adaptForbid_staged,
    completes_adaptLift, adaptForbid_unmapped⟩

end Sys2Proof.Machine
end

section
/-! PROOF. The fields of a point record, and the quality of a fresh one (R8 to R11). -/

namespace Sys2Proof.Machine

section
variable (age kind q : Nat) (v : Word)

theorem toNat_mkRec : (mkRec age kind q v).toNat =
    age % 65536 * 281474976710656 + kind % 256 * 1099511627776 + q % 256 * 4294967296 + v.toNat := by
  rw [mkRec, BitVec.toNat_ofNat]
  omega

theorem recAge_mkRec : recAge (mkRec age kind q v) = age % 65536 := by
  rw [recAge, bits, toNat_mkRec]
  omega

theorem recKind_mkRec : recKind (mkRec age kind q v) = kind % 256 := by
  rw [recKind, bits, toNat_mkRec]
  omega

theorem recQ_mkRec : recQ (mkRec age kind q v) = q % 256 := by
  rw [recQ, bits, toNat_mkRec]
  omega

theorem recVal_mkRec : recVal (mkRec age kind q v) = v := by
  apply BitVec.eq_of_toNat_eq
  rw [recVal, bits, toNat_mkRec, BitVec.toNat_ofNat]
  omega

end

/-- A quality mark of a record is a bit of its quality byte. -/
theorem recBit_eq_testBit (r : W64) {i : Nat} (hi : i < 8) : recBit r i = (recQ r).testBit i := by
  rw [recBit, bitAt, BitVec.getLsbD, recQ, bits, Nat.testBit_mod_two_pow, Nat.testBit_div_two_pow, Nat.add_comm i 32]
  simp [hi]

/-- Settling GOOD leaves every other mark as it is. -/
theorem testBit_settleGood (fresh : Bool) (q : Nat) {i : Nat} (h0 : i ≠ 0) (hi : i < 8) :
    (settleGood fresh q).testBit i = q.testBit i := by
  rw [settleGood, BitVec.testBit_toNat, putBit, getLsbD_putBits _ _ _ _ _ (by decide),
    if_neg (by simp only [qGood]; omega), BitVec.getLsbD_ofNat]
  simp [hi]

section
variable (kind marks : Nat) (v : Word)

theorem recAge_freshRec : recAge (freshRec kind marks v) = 0 := recAge_mkRec ..

theorem recKind_freshRec (h : kind < 256) : recKind (freshRec kind marks v) = kind :=
  (recKind_mkRec ..).trans (Nat.mod_eq_of_lt h)

theorem recVal_freshRec : recVal (freshRec kind marks v) = v := recVal_mkRec ..

theorem recBit_freshRec {i : Nat} (h0 : i ≠ 0) (hi : i < 8) : recBit (freshRec kind marks v) i = marks.testBit i := by
  rw [recBit_eq_testBit _ hi, freshRec, recQ_mkRec, Nat.testBit_mod_two_pow (i := i) (j := 8),
    testBit_settleGood _ _ h0 hi]
  simp [hi]

end

end Sys2Proof.Machine
end

section
/-! PROOF. One channel at S: the record of a universal and of a digital channel (of SamplesOfOwnSlices, O27). -/

namespace Sys2Proof.Machine

/-! ## A universal channel in time (R170, R176) -/

/-- The marks of a sample: those of its diagnostics, OUT_OF_RANGE where the word lay outside the span (`out`), COMPLIANCE where
the command was clamped. -/
def sampleMarks (marks : Nat) (out clamped : Bool) : Nat :=
  let m := if out && !bitAt (BitVec.ofNat 8 marks) 5 then marks + 32 else marks
  if clamped && !bitAt (BitVec.ofNat 8 m) 4 then m + 16 else m

/-- Live diagnostics mark SUBSTITUTED, COMPLIANCE and OUT_OF_RANGE, and nothing else. -/
theorem ucMarks_eq (s : State) (n : Nat) :
    ∃ subst compl range : Bool, s.ucMarks n = b2n subst * 8 + b2n compl * 16 + b2n range * 32 := ⟨_, _, _, rfl⟩

theorem testBit_sampleMarks : ∀ subst compl range out clamped : Bool,
    (sampleMarks (b2n subst * 8 + b2n compl * 16 + b2n range * 32) out clamped).testBit qLate = false ∧
      (out = true → (sampleMarks (b2n subst * 8 + b2n compl * 16 + b2n range * 32) out clamped).testBit qRange = true) := by
  decide

/-- A sample in time is not LATE, and is OUT_OF_RANGE where its word lay outside the span. -/
theorem testBit_sampleMarks_ucMarks (s : State) (n : Nat) (out clamped : Bool) :
    (sampleMarks (s.ucMarks n) out clamped).testBit qLate = false ∧
      (out = true → (sampleMarks (s.ucMarks n) out clamped).testBit qRange = true) := by
  obtain ⟨subst, compl, range, h⟩ := ucMarks_eq s n
  rw [h]
  exact testBit_sampleMarks subst compl range out clamped

theorem ucSmooth_zero (v y p : Fl) : ucSmooth (Fl.ofRatio 0 100) v y p = y := by
  rw [ucSmooth, if_neg (by decide)]

section
variable (n : Fin 32) (cls : Nat) (u : Instant) (w : Fl) (s : State)

theorem ucSample_of_oos (h : (s.uc n.val).oos = true) :
    (s.ucSample n.val cls u w).1 = s ∧
    (s.ucSample n.val cls u w).2 = freshRec 1 (if s.ucOut n.val then 16 else 32) 0 := by
  rw [State.ucSample, if_pos h]
  exact ⟨rfl, rfl⟩

/-- Without smoothing, or held at the span's end, the sample is the value itself. -/
theorem ucSample_unsmoothed (h : (s.uc n.val).oos = false)
    (hv : (s.ucValue n.val w).2 = true ∨ (s.ucCfg n.val).tauCs = 0) :
    (s.ucSample n.val cls u w).2 =
      freshRec 1 (sampleMarks (s.ucMarks n.val) (s.ucValue n.val w).2 (s.ucOut n.val && (s.uc n.val).clamped))
        (s.ucValue n.val w).1.toBits := by
  rw [State.ucSample, if_neg (by simp [h])]
  dsimp only
  rcases hv with hv | hv
  · rw [if_pos hv]; rfl
  · rw [hv, ucSmooth_zero, ite_self]; rfl

theorem ucSample_carries_value (h : (s.uc n.val).oos = false)
    (hv : (s.ucValue n.val w).2 = true ∨ (s.ucCfg n.val).tauCs = 0) :
    recVal (s.ucSample n.val cls u w).2 = (s.ucValue n.val w).1.toBits ∧ recAge (s.ucSample n.val cls u w).2 = 0 ∧
    recKind (s.ucSample n.val cls u w).2 = 1 ∧ recBit (s.ucSample n.val cls u w).2 qLate = false ∧
    ((s.ucValue n.val w).2 = true → recBit (s.ucSample n.val cls u w).2 qRange = true) := by
  obtain ⟨hLate, hRange⟩ :=
    testBit_sampleMarks_ucMarks s n.val (s.ucValue n.val w).2 (s.ucOut n.val && (s.uc n.val).clamped)
  rw [ucSample_unsmoothed n cls u w s h hv, recBit_freshRec _ _ _ (by decide) (by decide),
    recBit_freshRec _ _ _ (by decide) (by decide)]
  exact ⟨recVal_freshRec .., recAge_freshRec .., recKind_freshRec _ _ _ (by decide), hLate, hRange⟩

end

/-! ## One channel of a sample set -/

section
variable {s : State} {n m cls : Nat} {u : Instant} {ws : List (Fin 32 × List (BitVec 24))}

theorem sampleList_uni (hn : n < 32) (hg : s.ucInGroup n cls = true) :
    (s.sampleList (n / 8) cls u ws [n % 8]).2 =
      [((s.ucCfg n).point, (s.ucRecord n cls u ((ws.find? fun w => w.1.val == n).map Prod.snd)).2)] := by
  rw [State.sampleList, if_pos (by omega), Nat.div_add_mod]
  dsimp only
  rw [if_pos hg, State.sampleList]

theorem sampleList_dig (hg : s.dcInGroup m cls = true) :
    (s.sampleList (4 + m / 8) cls u ws [m % 8]).2 = [((s.dcCfg m).point, (s.dcRecord m u).2)] := by
  rw [State.sampleList, if_neg (by omega), Nat.add_sub_cancel_left, Nat.div_add_mod]
  dsimp only
  rw [if_pos hg, State.sampleList]

/-- A universal channel without words keeps its record, LATE. -/
theorem ucRecord_none : (s.ucRecord n cls u none).2 =
    lateRec (s.pointCfg (s.ucCfg n).point) (s.piGet (s.ucCfg n).point) := by
  have f : Fr 0x100020 0x8000000000000000000000000000000 s ((s.ucLimit n).ucHeadroom n) := by simp
  have hImg : ((s.ucLimit n).ucHeadroom n).img = s.img := f.1 .img rfl
  have hPi : ((s.ucLimit n).ucHeadroom n).pi = s.pi := f.1 .pi rfl
  show lateRec (((s.ucLimit n).ucHeadroom n).pointCfg (((s.ucLimit n).ucHeadroom n).ucCfg n).point)
    (((s.ucLimit n).ucHeadroom n).piGet (((s.ucLimit n).ucHeadroom n).ucCfg n).point) = _
  simp only [State.pointCfg, State.piGet, State.ucCfg, hImg, hPi]

end

/-! ## A digital channel (R199, R202, R203) -/

section
variable {s : State} {m : Nat} {u : Instant}

theorem dc_setDc_same (c : DcChan) : (s.setDc m c).dc m = c := Tab.get_set_same ..

/-- The marks of a channel depend, beside its registers, on its command alone. -/
theorem dcMarks_setDc {c : DcChan} (h : c.cmd = (s.dc m).cmd) : (s.setDc m c).dcMarks m = s.dcMarks m := by
  unfold State.dcMarks
  rw [dc_setDc_same, h]
  rfl

/-- What the record of an input or a counter carries. -/
theorem dcValue_of_input (h : s.dcMode m ≠ 3) :
    s.dcValue m = if s.dcMode m = 2 then (s.dc m).count else BitVec.ofNat 32 (b2n (s.dc m).state) := by
  have hOut : (s.dcMode m == 3) = false := beq_eq_false_iff_ne.2 h
  simp [State.dcValue, hOut]

/-- A reload broke the filter window of input `m` that ends at `u`. -/
def State.dcBroken (s : State) (m : Nat) (u : Instant) : Bool :=
  s.windowOver (s.slice (4 + m / 8)).spoiled u (dcFilterNs (s.fld Fld.DC_CFG_FILT m))

/-- What the shell remembers of an input sampled at `u`. -/
def DcChan.sampled (c : DcChan) (u : Instant) : DcChan :=
  { c with late := false, hist := keepHist (u, c.count, c.state) c.hist }

/-- The record of an input or a counter: late where its window is broken, fresh otherwise. -/
theorem dcRecord_of_input (h : s.dcMode m ≠ 3) : (s.dcRecord m u).2 =
    if s.dcBroken m u then lateRec (s.pointCfg (s.dcCfg m).point) (s.piGet (s.dcCfg m).point)
    else freshRec (dcKind (s.dcMode m)) (s.dcMarks m)
      (if s.dcMode m = 2 then (s.dc m).count else BitVec.ofNat 32 (b2n (s.dc m).state)) := by
  have hOut : (s.dcMode m == 3) = false := beq_eq_false_iff_ne.2 h
  have e : (s.dcRecord m u).2 =
      if s.dcBroken m u then lateRec (s.pointCfg (s.dcCfg m).point) (s.piGet (s.dcCfg m).point)
      else freshRec (dcKind (s.dcMode m)) ((s.setDc m ((s.dc m).sampled u)).dcMarks m)
        ((s.setDc m ((s.dc m).sampled u)).dcValue m) := by
    simp only [State.dcRecord, hOut, Bool.false_and, Bool.or_false, Bool.false_eq_true, if_false]
    rfl
  rw [e, dcMarks_setDc (c := (s.dc m).sampled u) rfl,
    dcValue_of_input (s := s.setDc m ((s.dc m).sampled u)) h, dc_setDc_same]
  rfl

end

/-! ## The clauses on one channel -/

section
variable (m cls : Nat) (u : Instant) (ws : List (Fin 32 × List (BitVec 24))) (s : State)

theorem sampleList_input (hg : s.dcInGroup m cls = true) (hm : s.dcMode m = 1) (hw : s.dcBroken m u = false) :
    (s.sampleList (4 + m / 8) cls u ws [m % 8]).2 =
      [((s.dcCfg m).point, freshRec 4 (s.dcMarks m) (BitVec.ofNat 32 (b2n (s.dc m).state)))] := by
  rw [sampleList_dig hg, dcRecord_of_input (by omega), hw, hm]
  rfl

theorem sampleList_counter (hg : s.dcInGroup m cls = true) (hm : s.dcMode m = 2) (hw : s.dcBroken m u = false) :
    (s.sampleList (4 + m / 8) cls u ws [m % 8]).2 = [((s.dcCfg m).point, freshRec 3 (s.dcMarks m) (s.dc m).count)] := by
  rw [sampleList_dig hg, dcRecord_of_input (by omega), hw, hm]
  rfl

theorem sampleList_broken (p : Nat) (hp : p = (s.dcCfg m).point) (hg : s.dcInGroup m cls = true)
    (hm : s.dcMode m ≠ 3) (hw : s.dcBroken m u = true) :
    (s.sampleList (4 + m / 8) cls u ws [m % 8]).2 = [(p, lateRec (s.pointCfg p) (s.piGet p))] := by
  rw [sampleList_dig hg, dcRecord_of_input hm, if_pos hw, hp]

end

theorem sampleList_no_words (n cls p : Nat) (u : Instant) (s : State) (hn : n < 32) (hp : p = (s.ucCfg n).point)
    (hg : s.ucInGroup n cls = true) :
    (s.sampleList (n / 8) cls u [] [n % 8]).2 = [(p, lateRec (s.pointCfg p) (s.piGet p))] := by
  rw [sampleList_uni hn hg, hp]
  exact congrArg (fun r => [(_, r)]) ucRecord_none

end Sys2Proof.Machine
end

section
/-! PROOF. What is due at S leaves the handshake channels alone, and a sample set does not depend on what arrived for its
instant (of SamplesOfOwnSlices, O27). -/

namespace Sys2Proof.Machine

/-! ## Handshake channels -/

theorem chans_of_fr {P W : Nat} {s t : State} (f : Fr P W s t) (hP : P &&& 0x10000 = 0) : t.ln.chans = s.ln.chans :=
  congrArg Launch.chans (f.1 .ln hP)

theorem produce_chans (s : State) (i : Nat) (r : W64) : (s.produce i r).ln.chans = s.ln.chans := by
  have made : (s.made i r).ln.chans = s.ln.chans := by unfold State.made; split <;> rfl
  have put (v : W64) : ((s.made i r).piPut i v).ln.chans = s.ln.chans :=
    (chans_of_fr (P := 0x340080000) (W := 0) (by simp) rfl).trans made
  unfold State.produce
  dsimp only
  split <;> exact put _

theorem takeVis_chans (s : State) (t : Instant) (l : List (Instant × Nat × W64)) :
    (s.takeVis t l).ln.chans = s.ln.chans := by
  induction l generalizing s with
  | nil => rfl
  | cons x l ih =>
    rw [State.takeVis, ih]
    split
    · split
      · exact produce_chans ..
      · exact chans_of_fr (P := 0x340088000) (W := 0) (by simp) rfl
    · rfl

theorem takeSets_chans (s : State) (t : Instant) (l : List (Nat × Instant × List (Nat × W64))) :
    (s.takeSets t l).ln.chans = s.ln.chans := by
  induction l generalizing s with
  | nil => rfl
  | cons x l ih =>
    rw [State.takeSets, ih]
    split
    · exact List.foldlRecOn (motive := fun t : State => t.ln.chans = s.ln.chans) x.2.2 _ rfl
        fun t ht r _ => (produce_chans t r.1 r.2).trans ht
    · rfl

theorem lates_chans (s : State) (ps : List Nat) : (s.lates ps).ln.chans = s.ln.chans := by
  induction ps generalizing s with
  | nil => rfl
  | cons p ps ih => rw [State.lates, ih, produce_chans]

theorem lateSets_chans (s : State) (t : Instant) (l : List Expect) : (s.lateSets t l).ln.chans = s.ln.chans := by
  induction l generalizing s with
  | nil => rfl
  | cons x l ih =>
    rw [State.lateSets, ih]
    split
    · exact lates_chans ..
    · rfl

theorem missAt_chans (s : State) (n : Nat) (c : SubCfg) (g : Instant) (k : Nat) :
    (s.missAt n c g k).ln.chans = s.ln.chans := by
  rw [State.missAt, inputLate_ln, bump_ln, missSub_ln]
  rfl

/-- A pending frame at its instant: missed in a degraded module where its stream needs coordination, applied otherwise. -/
theorem frameDue_chans (s : State) (n : Nat) (c : SubCfg) (f : PendFrame) :
    (if c.coord && s.flag Fld.MT_STATE_COORD_DEGRADED then s.missFrame n c f else s.applyFrame n c f).ln.chans =
      s.ln.chans := by
  split
  · exact missAt_chans ..
  · rw [State.applyFrame, inputLate_ln, setFld_ln, applySub_ln]
    rfl

theorem fallDue_chans (s : State) (n : Nat) : (s.fallDue n).ln.chans = s.ln.chans := by
  unfold State.fallDue
  split
  next c f _ _ =>
    dsimp only
    split
    next g _ =>
      split
      · exact (frameDue_chans ..).trans (missAt_chans ..)
      · exact frameDue_chans ..
    next => exact frameDue_chans ..
  · rfl

theorem missDue_chans (s : State) (t : Instant) (n : Nat) : (s.missDue t n).ln.chans = s.ln.chans := by
  unfold State.missDue
  split
  · split
    · exact missAt_chans ..
    · rfl
  · rfl

theorem subsAt_chans (s : State) (t : Instant) (l : List (Nat × Sub)) : (s.subsAt t l).ln.chans = s.ln.chans := by
  induction l generalizing s with
  | nil => rfl
  | cons x l ih =>
    rw [State.subsAt, ih, missDue_chans]
    split
    · exact fallDue_chans ..
    · rfl

theorem settle_chans (s : State) (t : Instant) : (s.settle t).ln.chans = s.ln.chans := by
  rw [settle_eq, subsAt_chans]
  calc (((s.settleVis t).settleSets t).settleExpect t).ln.chans
      = ((s.settleVis t).settleSets t).ln.chans := lateSets_chans ..
    _ = (s.settleVis t).ln.chans := takeSets_chans ..
    _ = s.ln.chans := takeVis_chans ..

/-! ## The marks and a sample set -/

section
variable (s : State) (x : Aside) (n cls : Nat) (u : Instant)

theorem ucLimit_aside : (s.aside x).ucLimit n = (s.ucLimit n).aside x := by
  unfold State.ucLimit
  rw [show (s.aside x).uc n = s.uc n from rfl]
  dsimp only
  cases (s.uc n).limAt with
  | none => rfl
  | some f =>
    dsimp only
    rw [aside_ite]
    rfl

theorem ucHeadroom_aside : (s.aside x).ucHeadroom n = (s.ucHeadroom n).aside x := by
  unfold State.ucHeadroom
  rw [aside_ite]
  rfl

theorem ucSample_aside (w : Fl) :
    (s.aside x).ucSample n cls u w = ((s.ucSample n cls u w).1.aside x, (s.ucSample n cls u w).2) := by
  unfold State.ucSample
  rw [show (s.aside x).uc n = s.uc n from rfl]
  dsimp only
  cases (s.uc n).oos <;> rfl

theorem ucRecord_aside (ws : Option (List (BitVec 24))) :
    (s.aside x).ucRecord n cls u ws = ((s.ucRecord n cls u ws).1.aside x, (s.ucRecord n cls u ws).2) := by
  unfold State.ucRecord
  rw [ucLimit_aside, ucHeadroom_aside]
  generalize (s.ucLimit n).ucHeadroom n = t
  dsimp only
  rw [show (t.aside x).setUc n { (t.aside x).uc n with late := false } =
      (t.setUc n { t.uc n with late := false }).aside x from rfl]
  generalize t.setUc n { t.uc n with late := false } = v
  rw [show (v.aside x).ucAverage n = v.ucAverage n from rfl, show (t.aside x).ucLate n u = t.ucLate n u from rfl]
  cases ws.bind (v.ucAverage n) with
  | none => rfl
  | some w =>
    dsimp only
    cases t.ucLate n u with
    | true => rfl
    | false => exact ucSample_aside v x n cls u w

theorem dcRecord_aside : (s.aside x).dcRecord n u = ((s.dcRecord n u).1.aside x, (s.dcRecord n u).2) := rfl

theorem sampleList_aside (k : Nat) (ws : List (Fin 32 × List (BitVec 24))) (is : List Nat) :
    (s.aside x).sampleList k cls u ws is = ((s.sampleList k cls u ws is).1.aside x, (s.sampleList k cls u ws is).2) := by
  induction is generalizing s with
  | nil => rfl
  | cons i is ih =>
    unfold State.sampleList
    dsimp only
    rw [show (s.aside x).ucInGroup (8 * k + i) cls = s.ucInGroup (8 * k + i) cls from rfl,
      show (s.aside x).dcInGroup (8 * (k - 4) + i) cls = s.dcInGroup (8 * (k - 4) + i) cls from rfl,
      ucRecord_aside, dcRecord_aside]
    split
    · split
      · rw [ih]; rfl
      · exact ih s
    · split
      · rw [ih]; rfl
      · exact ih s

end

end Sys2Proof.Machine
end

section
/-! PROOF. SAMPLE_OWN_SLICES: a sample set handed on or discarded (R174, R202, R356), and the obligation (SamplesOfOwnSlices,
O27). -/

namespace Sys2Proof.Machine

/-! ## A message to a handshake channel (R356) -/

theorem push_of_room {s : State} {c : Nat} (m : ChanMsg) (h : (Tab.get [] s.ln.chans c).length < chanDepth c) :
    s.push c m = { s with ln := { s.ln with chans := Tab.set [] s.ln.chans c (Tab.get [] s.ln.chans c ++ [m]) } } :=
  if_pos h

theorem push_of_full {s : State} {c : Nat} (m : ChanMsg) (h : chanDepth c ≤ (Tab.get [] s.ln.chans c).length) :
    s.push c m = s.bump Fld.SUP_ISLAND_OVERFLOW (chanIsland c) :=
  if_neg (Nat.not_lt.2 h)

theorem push_due (s : State) (c : Nat) (m : ChanMsg) : (s.push c m).ln.due = s.ln.due := by
  unfold State.push
  dsimp only
  split <;> rfl

theorem fld_push (s : State) (c : Nat) (m : ChanMsg) (f : Field) (i : Nat) (hW : 0x2 &&& rb f.reg = 0) :
    (s.push c m).fld f i = s.fld f i := fld_of_fr (P := 0x10020) (W := 0x2) (by simp) f i hW

/-- The channel of sample sets of a slice holds four, and the supervisor counts those lost. -/
theorem sampleChan (k : Fin 10) : chanDepth (32 + k.val) = 4 ∧ chanIsland (32 + k.val) = 1 := by
  revert k; decide

/-! ## A slice sampled at S -/

/-- The SAMPLE entries for slice `k` at S `u` acted on. -/
def State.sampleTaken (s : State) (k g : Nat) (u : Instant) : State :=
  s.aside { s.marks with due := s.ln.due.filter fun x => !(s.sampleDue k g u).contains x }

/-- Slice `k` sampled at S `u`: what was due by then has come, and the windows of its channels have ended. -/
def State.sampled (s : State) (k g cls : Nat) (u : Instant) (ws : List (Fin 32 × List (BitVec 24))) : State :=
  ((((s.sampleTaken k g u).settle u).sampleList k cls u ws (List.range 8)).1.dcCurrent k).draw

section
variable (s : State) (k g cls : Nat) (u : Instant) (ws : List (Fin 32 × List (BitVec 24)))

theorem fr_sampled : Fr 0x3c0198130 0x4080000000000002c0000000000000000 (s.sampleTaken k g u)
    (s.sampled k g cls u ws) := by
  simp [State.sampled]

theorem sampled_ln : (s.sampled k g cls u ws).ln = ((s.sampleTaken k g u).settle u).ln :=
  (show Fr 0x100030 0x408000000000000000000000000000000 ((s.sampleTaken k g u).settle u) (s.sampled k g cls u ws) by
    simp [State.sampled]).1 .ln rfl

theorem sampled_chans : (s.sampled k g cls u ws).ln.chans = s.ln.chans := by
  rw [sampled_ln, settle_chans]
  rfl

theorem sampled_due : (s.sampled k g cls u ws).ln.due = s.ln.due.filter fun x => !(s.sampleDue k g u).contains x := by
  rw [sampled_ln, State.sampleTaken, ← settle_aside]
  rfl

theorem fld_sampled (f : Field) (i : Nat) (hW : 0x4080000000000002c0000000000000000 &&& rb f.reg = 0) :
    (s.sampled k g cls u ws).fld f i = s.fld f i := fld_of_fr (fr_sampled s k g cls u ws) f i hW

/-- Sampling shows a group's current, and leaves its supply state. -/
theorem fld_sampled_state (i : Nat) :
    (s.sampled k g cls u ws).fld Fld.DC_GROUP_STATE i = s.fld Fld.DC_GROUP_STATE i := by
  have f : Fr 0x3c0198120 0x80000000000002c0000000000000000 (s.sampleTaken k g u)
      (((s.sampleTaken k g u).settle u).sampleList k cls u ws (List.range 8)).1 := by simp
  have hBefore := fld_of_fr f Fld.DC_GROUP_STATE i rfl
  rw [State.sampled, fld_draw, State.dcCurrent]
  split
  · exact hBefore
  · rw [fld_setFld_apart _ _ _ _ _ _ (by decide) (.inl (by decide))]
    exact hBefore

/-- What arrived for its instant plays no part in the records of a sample set. -/
theorem sampleList_sampleTaken :
    (((s.sampleTaken k g u).settle u).sampleList k cls u ws (List.range 8)).2 =
      ((s.settle u).sampleList k cls u ws (List.range 8)).2 := by
  rw [State.sampleTaken, ← settle_aside, sampleList_aside]

end

/-- The entries acted on are due no more. -/
theorem sampleDue_of_taken {s t : State} {k g : Nat} {u : Instant} (hImg : t.img = s.img)
    (hDue : t.ln.due = s.ln.due.filter fun x => !(s.sampleDue k g u).contains x) : t.sampleDue k g u = [] := by
  refine List.filter_eq_nil_iff.2 fun x hx hp => ?_
  rw [hDue, List.mem_filter] at hx
  obtain ⟨hMem, hNot⟩ := hx
  simp only [State.entry, hImg] at hp
  have hIn : x ∈ s.sampleDue k g u := List.mem_filter.2 ⟨hMem, hp⟩
  simp [hIn] at hNot

/-! ## The command -/

section
variable (k : Fin 10) (g : Nat) (u : Instant) (ws : List (Fin 32 × List (BitVec 24))) (d : BitVec 128) (s : State)
variable (hg : s.group g = some d) (hl : s.launching (grpClass d) = true) (ha : s.alive (8 + k.val) = true)
  (hs : (s.slice k.val).loaded = true) (hr : s.reached u = true) (hd : (s.sampleDue k.val g u).isEmpty = false)
include hg hl ha hs hr hd

theorem sampleOwnSlices_eq : exec (.sampleOwnSlices k g u ws) s =
    .next ((s.sampled k.val g (grpClass d) u ws).push (32 + k.val)
      (.samples g (grpCOfS d u) ((s.settle u).sampleList k.val (grpClass d) u ws (List.range 8)).2)) := by
  rw [exec_sampleOwnSlices, execSampleOwnSlices, hg, ← sampleList_sampleTaken s k.val g]
  exact if_pos (by simp [hl, ha, hs, hr, hd])

theorem completes_sampleOwnSlices (hc : (Tab.get [] s.ln.chans (32 + k.val)).length < 4) :
    Completes (.sampleOwnSlices k g u ws) s [.free, .regs, .levels, .pw, .ln, .bn, .io, .pi, .subc, .blk,
      .mem] [.SUP_ISLAND, .LN_STATUS, .LN_OVERRUN, .LN_SUB, .UC_STAT, .DC_GROUP] fun t =>
      Tab.get [] t.ln.chans (32 + k.val) = Tab.get [] s.ln.chans (32 + k.val) ++
        [.samples g (grpCOfS d u) ((s.settle u).sampleList k.val (grpClass d) u ws (List.range 8)).2] ∧
      (t.sampleDue k.val g u).isEmpty = true ∧ ∀ n, n < 6 → t.fld Fld.DC_GROUP_STATE n = s.fld Fld.DC_GROUP_STATE n := by
  obtain ⟨hDepth, -⟩ := sampleChan k
  have hChans := sampled_chans s k.val g (grpClass d) u ws
  have e := sampleOwnSlices_eq k g u ws d s hg hl ha hs hr hd
  refine .of (fr_execSampleOwnSlices k g u ws s) rfl rfl ⟨_, e, ?_, ?_, fun n _ => ?_⟩
  · rw [push_of_room _ (by rw [hChans, hDepth]; exact hc)]
    exact (Tab.get_set_same ..).trans (by rw [hChans])
  · rw [sampleDue_of_taken (s := s) (((fr_execSampleOwnSlices k g u ws s).next e).1 .img rfl)
      ((push_due ..).trans (sampled_due ..))]
    rfl
  · rw [fld_push _ _ _ _ _ rfl, fld_sampled_state]

theorem completes_sampleOwnSlices_full (hc : 4 ≤ (Tab.get [] s.ln.chans (32 + k.val)).length) :
    Completes (.sampleOwnSlices k g u ws) s [.free, .regs, .levels, .pw, .ln, .bn, .io, .pi, .subc, .blk,
      .mem] [.SUP_ISLAND, .LN_STATUS, .LN_OVERRUN, .LN_SUB, .UC_STAT, .DC_GROUP] fun t =>
      t.ln.chans = s.ln.chans ∧
      t.fld Fld.SUP_ISLAND_OVERFLOW 1 = satAdd Fld.SUP_ISLAND_OVERFLOW.top (s.fld Fld.SUP_ISLAND_OVERFLOW 1) 1 := by
  obtain ⟨hDepth, hIsland⟩ := sampleChan k
  have hChans := sampled_chans s k.val g (grpClass d) u ws
  have e := sampleOwnSlices_eq k g u ws d s hg hl ha hs hr hd
  rw [push_of_full _ (by rw [hChans, hDepth]; exact hc), hIsland] at e
  refine .of (fr_execSampleOwnSlices k g u ws s) rfl rfl ⟨_, e, hChans, ?_⟩
  rw [fld_bump_same _ _ _ _ (by decide), fld_sampled _ _ _ _ _ _ _ _ rfl]

end

theorem sampleOwnSlices_idle (k : Fin 10) (g : Nat) (u : Instant) (ws : List (Fin 32 × List (BitVec 24))) (s : State)
    (h : s.alive (8 + k.val) = false ∨ s.sampleDue k.val g u = []) : exec (.sampleOwnSlices k g u ws) s = .next s := by
  rw [exec_sampleOwnSlices, execSampleOwnSlices]
  cases s.group g with
  | none => rfl
  | some d => exact if_neg (by rcases h with h | h <;> simp [h])

/-- Settles O27: each record of a sample set is its channel's own, read at S from what was due by then, and the set is one
message to the slice's channel, which takes it or counts it lost. -/
theorem samplesOfOwnSlices : Obligations.SamplesOfOwnSlices :=
  ⟨fun k g u ws d s _ hg hl ha hs hr hd hc hv => hv ▸ completes_sampleOwnSlices k g u ws d s hg hl ha hs hr hd hc,
    completes_sampleOwnSlices_full, sampleOwnSlices_idle,
    fun m cls u ws s _ => sampleList_input m cls u ws s, fun m cls u ws s _ => sampleList_counter m cls u ws s,
    fun m cls u ws s p _ => sampleList_broken m cls u ws s p, sampleList_no_words, ucSample_of_oos, ucSample_carries_value⟩

end Sys2Proof.Machine
end

section
/-! PROOF. Diagnostics (ChannelDiagnostics, O28): OVERTEMP of a channel that is not in service, at the end of its 100 ms at
the limit. -/

namespace Sys2Proof.Machine

/-- A diagnostic that did not stand raises the source of its slice. -/
theorem raised_ucRaise (s : State) {n b : Nat} (more : List Nat) (hn : n < 32) (h : s.liveUc n b = false) :
    Raised (66 + n / 8) (s.ucRaise n b more) := by
  rw [State.ucRaise, if_neg (by simp [h])]
  refine mem_ev _ _ ?_
  simp only [reservedSource, Bool.or_eq_false_iff, Bool.and_eq_false_iff, decide_eq_false_iff_not]
  omega

/-- DIAG_RAISED of what the shell evaluates after the limit's 100 ms, and does not show yet, raises the slice's source. -/
theorem diagRaised_raised {n : Fin 32} {b : Fin 16} {cause : DiagCause} {s t : State}
    (hw : (s.ucLimit n.val).ucWatches n.val b.val = true) (ha : (s.ucLimit n.val).ucApplies n.val b.val = true)
    (hl : (s.ucLimit n.val).liveUc n.val b.val = false) (e : exec (.diagRaised (.uni n) b cause) s = .next t) :
    Raised (66 + n.val / 8) t := by
  have he : exec (.diagRaised (.uni n) b cause) s =
      .next (((s.ucLimit n.val).ucRaise n.val b.val).ucAnswer n.val b.val cause) := by
    rw [exec_diagRaised, execDiagRaised]
    exact if_pos (by simp [hw, ha])
  have f : Fr 0x100020 0x8000000000000000000000000000000 ((s.ucLimit n.val).ucRaise n.val b.val)
      (((s.ucLimit n.val).ucRaise n.val b.val).ucAnswer n.val b.val cause) := by simp
  rw [← Host.Outcome.next.inj (he.symm.trans e), Raised, f.1 .levels rfl]
  exact raised_ucRaise _ [] n.isLt hl

/-- The shell of slice 0 is loaded and hot; voltage output 0, not in service, has stood at its limit for 100 ms. -/
def hotAtLimit : State :=
  { (State.reset.setFld Fld.UC_CFG_MODE 8).setFlag Fld.UC_SLICE_TEMP_WARN true with
    mt := { frc := 100000000 }
    io := { uc := [(0, { limAt := some 0 })], slices := [(0, { loaded := true })] } }

/-- Refutes O28: its fifth clause says that a channel not in service at its limit changes UC_STAT and its own state alone, but the
shell evaluates OVERTEMP there too (R185), and raises the slice's source, number 66 (`hotAtLimit`). -/
theorem not_channelDiagnostics : ¬ Obligations.ChannelDiagnostics := by
  intro h
  obtain ⟨-, -, -, -, hOff, -⟩ := h
  obtain ⟨t, e, -, hTouches, -⟩ := hOff 0 14 .plain 0 hotAtLimit (by decide) (by decide) (by decide)
  have hRaised : 66 ∈ t.levels := diagRaised_raised (by decide) (by decide) (by decide) e
  have hLevels : t.levels = [] := hTouches .levels (by decide)
  rw [hLevels] at hRaised
  cases hRaised

end Sys2Proof.Machine
end

section
/-! PROOF. HART (HartTransactions, O29): a scan period without a response, of a channel with a HART point past the process image. -/

namespace Sys2Proof.Machine

theorem hartLate_pi_of_ge (s : State) (k : Nat) (ps : List Nat) (h : ∀ p ∈ ps, 262144 ≤ p) :
    (s.hartLate k ps).pi = s.pi := by
  induction ps generalizing s with
  | nil => rfl
  | cons p ps ih =>
    obtain ⟨hp, hps⟩ := List.forall_mem_cons.1 h
    rw [State.hartLate, ih _ hps, produce_pi_of_ge _ _ _ hp]

/-- HART_POLL of a channel whose HART points lie past the process image leaves the image as it is. -/
theorem hartPoll_pi_of_ge {n : Fin 32} {s t : State} (h : ∀ p ∈ (s.ucCfg n.val).hartPts, 262144 ≤ p)
    (e : exec (.hartPoll n) s = .next t) : t.pi = s.pi := by
  have f : Fr 0x102120 0x58000000000000000000000000000002 s (s.hartOverdue n.val) := by simp
  have hCfg : (s.hartOverdue n.val).ucCfg n.val = s.ucCfg n.val := by rw [State.ucCfg, f.1 .img rfl, State.ucCfg]
  have hLate : ∀ k, ((s.hartOverdue n.val).hartLate k (s.ucCfg n.val).hartPts).pi = s.pi := fun k =>
    (hartLate_pi_of_ge _ k _ h).trans (f.1 .pi rfl)
  have hSend : ∀ (c : Prop) [Decidable c] (v : State) (m : Nat) (bs : List Byte),
      (if c then v.hartSend n.val m bs else v).pi = v.pi := fun c _ v m bs => by split <;> rfl
  rw [exec_hartPoll, execHartPoll] at e
  dsimp only at e
  rw [hCfg] at e
  split at e
  · rw [← Host.Outcome.next.inj e, hSend]
    show State.pi (ite _ _ _) = s.pi
    split
    · exact hLate _
    · exact f.1 .pi rfl
  · rw [Host.Outcome.next.inj e]

/-- HART channel 0 is connected, in a slice that shows authority; its scan period ends without a response. Its one HART point is
numbered just past the process image. -/
def hartPastImage : State :=
  { ((State.reset.setFld Fld.UC_CFG_MODE 2).setFld Fld.UC_CFG_HART 1).setFlag Fld.UC_HART_CONNECTED true with
    img := { uc := [{ ch := 0, hartPts := [262144] }] }
    bn := { inds := [(8, .a)] }
    io := { uc := [(0, { scan := 1 })] } }

/-- Refutes O29: its third clause takes every declared HART point, and a number past the 262,144 points of the process image names
none: it reads there as the reset record, without LATE (`hartPastImage`). -/
theorem not_hartTransactions : ¬ Obligations.HartTransactions := by
  intro h
  obtain ⟨-, -, hPoll, -⟩ := h
  obtain ⟨t, e, ⟨-, -, -, hLate⟩, -⟩ := hPoll 0 hartPastImage (by decide) (by decide) (by decide) (by decide) (by decide)
  have hBit := hLate (by decide) (by decide) 262144 (by decide)
  have hPi : t.pi = [] := hartPoll_pi_of_ge (s := hartPastImage) (by decide) e
  rw [State.piGet, hPi] at hBit
  exact absurd hBit (by decide)

end Sys2Proof.Machine
end

section
/-! PROOF. A digital channel's own operations, one by one: what its stage, its live diagnostics and the records raised read after
each (08; for DigitalChannels, O30). -/

namespace Sys2Proof.Machine

/-! ## The stage (R206, R207, R209) -/

theorem shows_of_fr {P W : Nat} {s t : State} (f : Fr P W s t) (hb : P &&& 0x800 = 0) (hn : P &&& 0x80000 = 0) (k : Nat) :
    t.shows k = s.shows k := by
  have base : t.base = s.base := f.1 .base hb
  have bn : t.bn = s.bn := f.1 .bn hn
  rw [State.shows, State.posB, State.pair, base, bn]
  rfl

theorem dcFree_of_fr {P W : Nat} {s t : State} (f : Fr P W s t) (hb : P &&& 0x800 = 0) (hn : P &&& 0x80000 = 0)
    (hio : P &&& 0x100000 = 0) (hW : W &&& rb .DC_GROUP = 0) (m : Nat) : t.dcFree m = s.dcFree m := by
  have io : t.io = s.io := f.1 .io hio
  have hSupply : t.dcSupply m = s.dcSupply m := fld_of_fr f Fld.DC_GROUP_STATE (m / 8) hW
  simp only [State.dcFree, State.dc, State.slice, io, shows_of_fr f hb hn, hSupply]

theorem flag_setDc (s : State) (m : Nat) (c : DcChan) (f : Field) (i : Nat) : (s.setDc m c).flag f i = s.flag f i := rfl

theorem InstKept.setDc {n : RegName} {i : Nat} {s t : State} (h : InstKept n i s t) (m : Nat) (c : DcChan) :
    InstKept n i s (t.setDc m c) := h

section
variable (s : State) (m : Nat) (on : Bool)

theorem flag_dcSwitch_same : (s.dcSwitch m on).flag Fld.DC_STAT_STAGE_ON m = on := by
  unfold State.dcSwitch
  split
  · assumption
  · exact flag_setFlag_same _ _ _ _ (by decide)

theorem fld_dcSwitch_apart (f : Field) (i : Nat) (h : Fld.DC_STAT_STAGE_ON.apart f = true ∨ i ≠ m) :
    (s.dcSwitch m on).fld f i = s.fld f i := by
  unfold State.dcSwitch
  split
  · rfl
  · exact fld_setFlag_apart _ _ _ _ _ _ (by decide) h

theorem flag_dcSwitch_apart (f : Field) (i : Nat) (h : Fld.DC_STAT_STAGE_ON.apart f = true ∨ i ≠ m) :
    (s.dcSwitch m on).flag f i = s.flag f i := flag_of_fld (fld_dcSwitch_apart s m on f i h)

/-- A stage that turns off remembers when. -/
theorem dc_dcSwitch_off (h : s.flag Fld.DC_STAT_STAGE_ON m = true) :
    (s.dcSwitch m false).dc m = { s.dc m with offAt := some s.mt.frc } := by
  rw [State.dcSwitch, if_neg (by simp [h])]
  exact dc_setDc_same _

/-- A switched stage leaves what else keeps it off. -/
theorem dc_dcSwitch_turnOffs :
    ((s.dcSwitch m on).dc m).ovl = (s.dc m).ovl ∧ ((s.dcSwitch m on).dc m).hot = (s.dc m).hot := by
  have hSame : ∀ c : DcChan, ((s.setDc m c).setFlag Fld.DC_STAT_STAGE_ON on m).dc m = c := fun _ => dc_setDc_same _
  unfold State.dcSwitch
  split
  · exact ⟨rfl, rfl⟩
  · rw [hSame]
    cases on <;> exact ⟨rfl, rfl⟩

theorem slice_dcSwitch (k : Nat) : (s.dcSwitch m on).slice k = s.slice k := by
  unfold State.dcSwitch
  split <;> rfl

/-- Whether a stage may be on depends on what keeps it off, not on whether it is. -/
theorem dcFree_dcSwitch : (s.dcSwitch m on).dcFree m = s.dcFree m := by
  obtain ⟨hOvl, hHot⟩ := dc_dcSwitch_turnOffs s m on
  have f : Fr 0x100020 (rb .DC_STAT) s (s.dcSwitch m on) := by simp
  have hSupply : (s.dcSwitch m on).dcSupply m = s.dcSupply m := fld_dcSwitch_apart _ _ _ _ _ (.inl (by decide))
  simp only [State.dcFree, hOvl, hHot, slice_dcSwitch, shows_of_fr f rfl rfl, hSupply]

end

section
variable {s : State} {m : Nat}

/-- A stage commanded on is on at once where its group neither is in OFF nor re-applies, unless something keeps it off. -/
theorem dcStage_of_commanded (hCmd : (s.dc m).cmd = some true) (hSupply : s.dcSupply m ≠ 3)
    (hTurns : s.flag Fld.DC_GROUP_REAPPLY (m / 8) = false) :
    s.dcStage m = (s.dcSwitch m (s.dcFree m)).setFlag Fld.DC_STAT_QUEUED false m := by
  simp [State.dcStage, hCmd, hSupply, hTurns]

/-- In OFF no command turns a stage on (R207). -/
theorem flag_dcStage_stays_off (hSupply : s.dcSupply m = 3) (hOff : s.flag Fld.DC_STAT_STAGE_ON m = false) :
    (s.dcStage m).flag Fld.DC_STAT_STAGE_ON m = false := by
  have hQueued : ∀ (t : State) (b : Bool),
      (t.setFlag Fld.DC_STAT_QUEUED b m).flag Fld.DC_STAT_STAGE_ON m = t.flag Fld.DC_STAT_STAGE_ON m :=
    fun t b => flag_setFlag_apart _ _ _ _ _ _ (by decide) (.inl (by decide))
  simp only [State.dcStage, hSupply, true_or, if_true]
  split
  · rw [hQueued, flag_dcSwitch_same]
  · rw [hQueued, hOff]

/-- The stage of a channel follows its command and leaves every other channel's registers. -/
theorem flag_dcStage_ne (f : Field) {j : Nat} (h : j ≠ m) : (s.dcStage m).flag f j = s.flag f j := by
  have hQueued : ∀ (t : State) (b : Bool), (t.setFlag Fld.DC_STAT_QUEUED b m).flag f j = t.flag f j :=
    fun t b => flag_setFlag_apart _ _ _ _ _ _ (by decide) (.inr h)
  unfold State.dcStage
  dsimp only
  split
  · rw [hQueued, flag_dcSwitch_apart _ _ _ _ _ (.inr h)]
  · split
    · exact hQueued _ _
    · rw [hQueued, flag_dcSwitch_apart _ _ _ _ _ (.inr h)]

end

/-! ## Records, sources and live diagnostics (R213, R214) -/

theorem keepsRaised_note (s : State) (isl code : Nat) (xs : List Nat) : KeepsRaised s (s.note isl code xs) where
  records r hr := by
    rw [State.note, State.raise]
    split
    · exact hr
    · split
      · exact hr
      · exact List.mem_append_left _ hr
  levels _ hn := by rwa [note_levels]

theorem keepsRaised_ev (s : State) (n : Nat) : KeepsRaised s (s.ev n) where
  records _ hr := by rwa [ev_sn]
  levels m hm := mem_ev_of_mem s n m hm

section
variable {s : State} {isl : Nat} (h : s.takesRecord isl) (code : Nat) (xs : List Nat)
include h

/-- A record that its island's handshake channel takes waits last. -/
theorem note_of_room : s.note isl code xs = { s with sn := { s.sn with raised := s.sn.raised ++
    [{ island := isl, code := BitVec.ofNat 16 code, payload := .items xs, frc := s.mt.frc }] } } := by
  obtain ⟨hReset, hRoom⟩ := h
  rw [State.note, State.raise, if_neg (by simp [hReset]), if_neg (by omega)]

theorem fr_note_of_room : Fr 0x2000 0 s (s.note isl code xs) := by
  rw [note_of_room h]
  simp

theorem records_note_of_room : Records [code] s (s.note isl code xs) :=
  records_iff.2 ⟨_, by rw [note_of_room h], rfl⟩

end

theorem fld_setLiveDc_apart (s : State) (m b : Nat) (v : Bool) (f : Field) (i : Nat) (h : Fld.DC_STAT_LIVE.apart f = true) :
    (s.setLiveDc m b v).fld f i = s.fld f i := fld_setFld_apart _ _ _ _ _ _ (by decide) (.inl h)

theorem liveDc_setLiveDc (s : State) (m b c : Nat) (v : Bool) (hc : c < 16) :
    (s.setLiveDc m b v).liveDc m c = if c = b then v else s.liveDc m c := by
  have hWidth : ∀ w : BitVec 16, w.toNat % 2 ^ (Fld.DC_STAT_LIVE.hi + 1 - Fld.DC_STAT_LIVE.lo) = w.toNat :=
    fun w => Nat.mod_eq_of_lt w.isLt
  rw [State.liveDc, State.setLiveDc, fld_setFld_same _ _ _ _ (by decide), hWidth, BitVec.ofNat_toNat, BitVec.setWidth_eq,
    bitAt, putBit, getLsbD_putBits _ _ _ _ _ (by omega)]
  by_cases h : c = b
  · rw [if_pos h, if_pos (by omega), h, Nat.sub_self]
    exact testBit_zero_b2n v
  · rw [if_neg h, if_neg (by omega)]
    rfl

/-- Diagnostic `b` of channel `m` shown live, and DEVIATION no more where it is not evaluated beside it (R213). -/
def State.showDcDiag (s : State) (m b : Nat) : State :=
  if b ≤ 4 ∨ b = 6 then (s.setLiveDc m b true).setLiveDc m 5 false else s.setLiveDc m b true

/-- Diagnostic `b` of channel `m` latched, recorded and raised at its slice (R214). -/
def State.latchDcDiag (s : State) (m b : Nat) : State :=
  ((s.setFld Fld.DC_DIAG_LATCH (putBit (BitVec.ofNat 16 (s.fld Fld.DC_DIAG_LATCH m)) b true).toNat m).note (12 + m / 8)
    (0x6200 + b) [m]).ev (70 + m / 8)

section
variable (s : State) (m b : Nat)

theorem dcRaise_of_live (h : s.liveDc m b = true) : s.dcRaise m b = s := if_pos h

theorem dcRaise_of_not_live (h : s.liveDc m b = false) : s.dcRaise m b = (s.showDcDiag m b).latchDcDiag m b :=
  if_neg (by simp [h])

theorem fr_latchDcDiag : Fr 0x2120 (rb .DC_DIAG ||| rb .SUP_ISLAND) s (s.latchDcDiag m b) := by
  simp [State.latchDcDiag]

theorem liveDc_showDcDiag (hb : b < 16) : (s.showDcDiag m b).liveDc m b = true := by
  have hShown : (s.setLiveDc m b true).liveDc m b = true := by rw [liveDc_setLiveDc _ _ _ _ _ hb, if_pos rfl]
  unfold State.showDcDiag
  split
  · rw [liveDc_setLiveDc _ _ _ _ _ hb, if_neg (by omega), hShown]
  · exact hShown

/-- A diagnostic that rises is live. -/
theorem liveDc_dcRaise (hb : b < 16) : (s.dcRaise m b).liveDc m b = true := by
  cases h : s.liveDc m b with
  | true => rw [dcRaise_of_live _ _ _ h, h]
  | false =>
    rw [dcRaise_of_not_live _ _ _ h, State.liveDc, fld_of_fr (fr_latchDcDiag ..) Fld.DC_STAT_LIVE m rfl]
    exact liveDc_showDcDiag s m b hb

/-- A diagnostic that rises changes LIVE and LATCH of its channel, and the count of records lost. -/
theorem fld_dcRaise_apart (f : Field) (i : Nat) (hl : Fld.DC_STAT_LIVE.apart f = true)
    (hr : (rb .DC_DIAG ||| rb .SUP_ISLAND) &&& rb f.reg = 0) : (s.dcRaise m b).fld f i = s.fld f i := by
  have hShown : (s.showDcDiag m b).fld f i = s.fld f i := by
    unfold State.showDcDiag
    split <;> simp only [fld_setLiveDc_apart _ _ _ _ _ _ hl]
  cases h : s.liveDc m b with
  | true => rw [dcRaise_of_live _ _ _ h]
  | false => rw [dcRaise_of_not_live _ _ _ h, fld_of_fr (fr_latchDcDiag ..) f i hr, hShown]

theorem flag_dcRaise_apart (f : Field) (i : Nat) (hl : Fld.DC_STAT_LIVE.apart f = true)
    (hr : (rb .DC_DIAG ||| rb .SUP_ISLAND) &&& rb f.reg = 0) : (s.dcRaise m b).flag f i = s.flag f i :=
  flag_of_fld (fld_dcRaise_apart s m b f i hl hr)

theorem dc_dcRaise (j : Nat) : (s.dcRaise m b).dc j = s.dc j := by
  have f : Fr 0x2120 0x300000000000000000000000000000002 s (s.dcRaise m b) := by simp
  rw [State.dc, f.1 .io rfl, State.dc]

theorem keepsRaised_dcRaise : KeepsRaised s (s.dcRaise m b) := by
  have hShown : Fr 0x20 (rb .DC_STAT) s (s.showDcDiag m b) := by simp [State.showDcDiag]
  cases h : s.liveDc m b with
  | true => rw [dcRaise_of_live _ _ _ h]; exact .refl s
  | false =>
    rw [dcRaise_of_not_live _ _ _ h]
    exact (KeepsRaised.of_fr hShown rfl rfl).trans
      ((KeepsRaised.of_fr (tg_setReg _ _ _ _) rfl rfl).trans ((keepsRaised_note ..).trans (keepsRaised_ev ..)))

end

end Sys2Proof.Machine
end

section
/-! PROOF. Digital channels (DigitalChannels, O30): inputs, the turn-offs of an output, the supply of a group and its currents, and
the obligation. -/

namespace Sys2Proof.Machine

/-! ## An accepted change (R201, R203) -/

/-- What the shell knows of a channel whose terminal is accepted as `on` at FRC `f`. -/
def DcChan.accept (c : DcChan) (on : Bool) (f : W64) : DcChan :=
  if on then { c with state := on, upAt := some f } else { c with state := on, downAt := some f }

/-- One edge more. -/
def DcChan.counted (c : DcChan) : DcChan := { c with count := c.count + 1 }

section
variable (c : DcChan) (on : Bool) (f : W64)

theorem DcChan.accept_count : (c.accept on f).count = c.count := by cases on <;> rfl

theorem DcChan.accept_state : (c.accept on f).state = on := by cases on <;> rfl

theorem DcChan.accept_at : (if on then (c.accept on f).upAt else (c.accept on f).downAt) = some f := by cases on <;> rfl

end

/-- The terminal of channel `m` shown. -/
def State.showTerm (s : State) (m : Nat) (on : Bool) : State := s.setFlag Fld.DC_STAT_TERM on m

section
variable {m : Fin 48} {on : Bool} {s : State}

theorem flag_showTerm : (s.showTerm m.val on).flag Fld.DC_STAT_TERM m.val = on := flag_setFlag_same _ _ _ _ (by decide)

theorem instKept_showTerm : InstKept .DC_STAT m.val s (s.showTerm m.val on) := instKept_setReg _ _ _ _

theorem dcMode_showTerm : (s.showTerm m.val on).dcMode m.val = s.dcMode m.val :=
  fld_setFlag_apart _ _ _ _ _ _ (by decide) (.inl (by decide))

theorem dcCounts_showTerm : (s.showTerm m.val on).dcCounts m.val on = s.dcCounts m.val on := by
  rw [State.dcCounts, State.showTerm, fld_setFlag_apart _ _ _ _ _ _ (by decide) (.inl (by decide)), State.dcCounts]

/-- The state is new, and the module awake. -/
theorem not_ignored_showTerm (hNew : (s.dc m.val).state ≠ on) (hAwake : s.flag Fld.RST_POWER_DORMANT = false) :
    ¬ ((s.dc m.val).state = on ∨ (s.showTerm m.val on).flag Fld.RST_POWER_DORMANT = true) := by
  rw [State.showTerm, flag_setFlag_apart _ _ _ _ _ _ (by decide) (.inl (by decide)), hAwake]
  simpa using hNew

theorem completes_inputChangeAccepted_counted (hMode : s.dcMode m.val = 2) (hNew : (s.dc m.val).state ≠ on)
    (hCommit : s.boot.committed = true) (hAwake : s.flag Fld.RST_POWER_DORMANT = false)
    (hEdge : s.dcCounts m.val on = true) :
    Completes (.inputChangeAccepted m on) s [.regs, .io] [.DC_STAT] fun t =>
      (t.dc m.val).count = (s.dc m.val).count + 1 ∧ (t.dc m.val).state = on ∧
      (if on then (t.dc m.val).upAt else (t.dc m.val).downAt) = some s.mt.frc ∧ t.flag Fld.DC_STAT_TERM m.val = on ∧
      InstKept .DC_STAT m.val s t := by
  have e : exec (.inputChangeAccepted m on) s =
      .next ((s.showTerm m.val on).setDc m.val ((s.dc m.val).accept on s.mt.frc).counted) :=
    (if_neg (not_ignored_showTerm hNew hAwake)).trans
      (if_pos ⟨dcMode_showTerm.trans hMode, hCommit, dcCounts_showTerm.trans hEdge⟩)
  refine .of (fr_execInputChangeAccepted m on s) rfl rfl
    ⟨_, e, ?_, ?_, ?_, (flag_setDc ..).trans flag_showTerm, instKept_showTerm.setDc _ _⟩ <;> rw [dc_setDc_same]
  · exact congrArg (· + 1) (DcChan.accept_count ..)
  · exact DcChan.accept_state ..
  · exact DcChan.accept_at ..

theorem completes_inputChangeAccepted_input (hMode : s.dcMode m.val ≠ 2) (hNew : (s.dc m.val).state ≠ on)
    (hAwake : s.flag Fld.RST_POWER_DORMANT = false) :
    Completes (.inputChangeAccepted m on) s [.regs, .io] [.DC_STAT] fun t =>
      t.dc m.val = (s.dc m.val).accept on s.mt.frc ∧
      t.flag Fld.DC_STAT_TERM m.val = on ∧ InstKept .DC_STAT m.val s t := by
  have hNoCount : ¬ ((s.showTerm m.val on).dcMode m.val = 2 ∧ (s.showTerm m.val on).boot.committed = true ∧
      (s.showTerm m.val on).dcCounts m.val on = true) := fun ⟨h, _⟩ => hMode (dcMode_showTerm.symm.trans h)
  have e : exec (.inputChangeAccepted m on) s =
      .next ((s.showTerm m.val on).setDc m.val ((s.dc m.val).accept on s.mt.frc)) :=
    (if_neg (not_ignored_showTerm hNew hAwake)).trans (if_neg hNoCount)
  exact .of (fr_execInputChangeAccepted m on s) rfl rfl
    ⟨_, e, dc_setDc_same _, (flag_setDc ..).trans flag_showTerm, instKept_showTerm.setDc _ _⟩

theorem completes_inputChangeAccepted_known (hSame : (s.dc m.val).state = on) :
    Completes (.inputChangeAccepted m on) s [.regs] [.DC_STAT] fun t =>
      t.flag Fld.DC_STAT_TERM m.val = on ∧ InstKept .DC_STAT m.val s t :=
  .setReg (if_pos (.inl hSame)) ⟨flag_showTerm, instKept_showTerm⟩

end

/-! ## An output turned off (R206) -/

/-- A diagnostic that rises leaves the stage as it is. -/
theorem flag_stage_dcRaise (s : State) (m b : Nat) :
    (s.dcRaise m b).flag Fld.DC_STAT_STAGE_ON m = s.flag Fld.DC_STAT_STAGE_ON m :=
  flag_dcRaise_apart _ _ _ _ _ (by decide) rfl

section
variable {m : Fin 48} {s : State}

/-- Output `m` off by overload, before the diagnostic rises. -/
def State.overloaded (s : State) (m : Nat) : State :=
  ((s.setDc m { s.dc m with ovl := true }).dcSwitch m false).setFlag Fld.DC_STAT_RETRY true m

theorem flag_overloaded_stage (s : State) (m : Nat) : (s.overloaded m).flag Fld.DC_STAT_STAGE_ON m = false :=
  (flag_setFlag_apart _ _ _ _ _ _ (by decide) (.inl (by decide))).trans (flag_dcSwitch_same ..)

theorem flag_overloaded_term (s : State) (m : Nat) :
    (s.overloaded m).flag Fld.DC_STAT_TERM m = s.flag Fld.DC_STAT_TERM m :=
  (flag_setFlag_apart _ _ _ _ _ _ (by decide) (.inl (by decide))).trans
    (flag_dcSwitch_apart _ _ _ _ _ (.inl (by decide)))

theorem dc_overloaded (hOn : s.flag Fld.DC_STAT_STAGE_ON m.val = true) :
    (s.overloaded m.val).dc m.val = { s.dc m.val with ovl := true, offAt := some s.mt.frc } :=
  (dc_dcSwitch_off (s.setDc m.val { s.dc m.val with ovl := true }) m.val hOn).trans (by rw [dc_setDc_same]; rfl)

theorem completes_outputOverloadOff (hMode : s.dcMode m.val = 3) (hOn : s.flag Fld.DC_STAT_STAGE_ON m.val = true) :
    Completes (.outputOverloadOff m) s [.regs, .levels, .sn, .io] [.DC_STAT, .DC_DIAG, .SUP_ISLAND] fun t =>
      t.flag Fld.DC_STAT_STAGE_ON m.val = false ∧ t.flag Fld.DC_STAT_TERM m.val = s.flag Fld.DC_STAT_TERM m.val ∧
      (t.dc m.val).offAt = some s.mt.frc ∧ t.flag Fld.DC_STAT_RETRY m.val = true ∧ t.liveDc m.val 2 = true ∧
      (t.dc m.val).ovl = true := by
  have e : exec (.outputOverloadOff m) s = .next ((s.overloaded m.val).dcRaise m.val 2) := if_pos ⟨hMode, hOn⟩
  refine .of (fr_execOutputOverloadOff m s) rfl rfl ⟨_, e, ?_, ?_, ?_, ?_, liveDc_dcRaise _ _ _ (by omega), ?_⟩
  · rw [flag_stage_dcRaise, flag_overloaded_stage]
  · rw [flag_dcRaise_apart _ _ _ _ _ (by decide) rfl, flag_overloaded_term]
  · rw [dc_dcRaise, dc_overloaded hOn]
  · rw [flag_dcRaise_apart _ _ _ _ _ (by decide) rfl]
    exact flag_setFlag_same _ _ _ _ (by decide)
  · rw [dc_dcRaise, dc_overloaded hOn]

/-- Output `m` retried: neither its overload nor RETRY stands. -/
def State.retried (s : State) (m : Nat) : State :=
  (s.setDc m { s.dc m with ovl := false }).setFlag Fld.DC_STAT_RETRY false m

theorem dc_retried (s : State) (m : Nat) : (s.retried m).dc m = { s.dc m with ovl := false } := dc_setDc_same _

theorem fld_retried_apart (s : State) (m : Nat) (f : Field) (i : Nat) (h : Fld.DC_STAT_RETRY.apart f = true) :
    (s.retried m).fld f i = s.fld f i := fld_setFlag_apart _ _ _ _ _ _ (by decide) (.inl h)

theorem completes_outputOverloadRetry (hOvl : (s.dc m.val).ovl = true) (hCmd : (s.dc m.val).cmd = some true)
    (hSupply : s.dcSupply m.val ≠ 3) (hTurns : s.flag Fld.DC_GROUP_REAPPLY (m.val / 8) = false) :
    Completes (.outputOverloadRetry m) s [.regs, .io] [.DC_STAT] fun t =>
      (t.dc m.val).ovl = false ∧ t.flag Fld.DC_STAT_RETRY m.val = false ∧
      t.flag Fld.DC_STAT_STAGE_ON m.val = t.dcFree m.val := by
  have hStage : (s.retried m.val).dcStage m.val = _ := dcStage_of_commanded (by rw [dc_retried, hCmd])
    (fun h => hSupply ((fld_retried_apart s m.val Fld.DC_GROUP_STATE _ (by decide)).symm.trans h))
    ((flag_of_fld (fld_retried_apart s m.val Fld.DC_GROUP_REAPPLY _ (by decide))).trans hTurns)
  have e : exec (.outputOverloadRetry m) s = .next ((s.retried m.val).dcStage m.val) := if_pos ⟨hOvl, hCmd⟩
  rw [hStage] at e
  obtain ⟨hOff, -⟩ := dc_dcSwitch_turnOffs (s.retried m.val) m.val ((s.retried m.val).dcFree m.val)
  refine .of (fr_execOutputOverloadRetry m s) rfl rfl ⟨_, e, ?_, ?_, ?_⟩
  · exact hOff.trans (by rw [dc_retried])
  · rw [flag_setFlag_apart _ _ _ _ _ _ (by decide) (.inl (by decide)), flag_dcSwitch_apart _ _ _ _ _ (.inl (by decide))]
    exact flag_setFlag_same _ _ _ _ (by decide)
  · rw [flag_setFlag_apart _ _ _ _ _ _ (by decide) (.inl (by decide)), flag_dcSwitch_same]
    exact ((dcFree_of_fr (tg_setReg _ .DC_STAT _ _) rfl rfl rfl rfl _).trans (dcFree_dcSwitch ..)).symm

theorem outputOverloadRetry_idle (h : (s.dc m.val).ovl = false) : exec (.outputOverloadRetry m) s = .next s :=
  if_neg (by simp [h])

/-- Output `m` off hot, before the diagnostic rises. -/
def State.heated (s : State) (m : Nat) : State := (s.setDc m { s.dc m with hot := true }).dcSwitch m false

theorem hot_heated (s : State) (m : Nat) : ((s.heated m).dc m).hot = true := by
  obtain ⟨-, hHot⟩ := dc_dcSwitch_turnOffs (s.setDc m { s.dc m with hot := true }) m false
  exact hHot.trans (by rw [dc_setDc_same])

theorem completes_outputOvertempOff (hMode : s.dcMode m.val = 3) :
    Completes (.outputOvertempOff m) s [.regs, .levels, .sn, .io] [.DC_STAT, .DC_DIAG, .SUP_ISLAND] fun t =>
      t.flag Fld.DC_STAT_STAGE_ON m.val = false ∧ (t.dc m.val).hot = true ∧ t.liveDc m.val 6 = true := by
  have e : exec (.outputOvertempOff m) s = .next ((s.heated m.val).dcRaise m.val 6) := if_pos hMode
  refine .of (fr_execOutputOvertempOff m s) rfl rfl ⟨_, e, ?_, ?_, liveDc_dcRaise _ _ _ (by omega)⟩
  · rw [flag_stage_dcRaise]
    exact flag_dcSwitch_same ..
  · rw [dc_dcRaise, hot_heated]

end

/-! ## The supply of a group (R207, R208) -/

/-- The supply shown in units of 0.2 V. -/
def State.showVolts (s : State) (g mv : Nat) : State := s.setFld Fld.DC_GROUP_VOLTS (sat 255 (mv / 200)) g

/-- Supply state `st` entered: shown, recorded, and raised at the slice. -/
def State.enterSupply (s : State) (g mv st : Nat) : State :=
  (((s.showVolts g mv).setFld Fld.DC_GROUP_STATE st g).note (12 + g) (0x6210 + st) [g, mv]).ev (70 + g)

/-- What supply state `st` shows of channel `m`. -/
def State.supplyDiag (s : State) (st m : Nat) : State :=
  if !s.dcServes m then s
  else
    let s := if st = 2 ∨ st = 3 then (s.dcRaise m 8).setLiveDc m 5 false else s.setLiveDc m 8 false
    if st ≠ 0 then s.dcRaise m 9 else s.setLiveDc m 9 false

/-- The stage of channel `m` off, its command kept. -/
def State.stageLost (s : State) (m : Nat) : State := (s.dcSwitch m false).dcStage m

theorem supplyNext_lt (st mv : Nat) : supplyNext st mv < 4 := by
  unfold supplyNext
  (repeat' split) <;> omega

section
variable (s : State) (g mv st : Nat)

theorem fld_showVolts_same : (s.showVolts g mv).fld Fld.DC_GROUP_VOLTS g = min 255 (mv / 200) := by
  rw [State.showVolts, fld_setFld_same _ _ _ _ (by decide)]
  exact Nat.mod_eq_of_lt (Nat.lt_of_le_of_lt (Nat.min_le_left ..) (by decide))

theorem fld_showVolts_apart (f : Field) (i : Nat) (h : Fld.DC_GROUP_VOLTS.apart f = true) :
    (s.showVolts g mv).fld f i = s.fld f i := fld_setFld_apart _ _ _ _ _ _ (by decide) (.inl h)

theorem fr_enterSupply : Fr 0x2120 (rb .DC_GROUP ||| rb .SUP_ISLAND) s (s.enterSupply g mv st) := by
  simp [State.enterSupply, State.showVolts]

theorem fld_enterSupply (f : Field) (i : Nat) (h : f.reg = .DC_GROUP) :
    (s.enterSupply g mv st).fld f i = ((s.showVolts g mv).setFld Fld.DC_GROUP_STATE st g).fld f i := by
  have hNote : Fr 0x2120 (rb .SUP_ISLAND) ((s.showVolts g mv).setFld Fld.DC_GROUP_STATE st g) (s.enterSupply g mv st) := by
    simp [State.enterSupply]
  exact fld_of_fr hNote f i (by rw [h]; rfl)

theorem fld_enterSupply_state (h : st < 4) : (s.enterSupply g mv st).fld Fld.DC_GROUP_STATE g = st := by
  rw [fld_enterSupply _ _ _ _ _ _ rfl, fld_setFld_same _ _ _ _ (by decide)]
  exact Nat.mod_eq_of_lt h

theorem fld_enterSupply_volts : (s.enterSupply g mv st).fld Fld.DC_GROUP_VOLTS g = min 255 (mv / 200) := by
  rw [fld_enterSupply _ _ _ _ _ _ rfl, fld_setFld_apart _ _ _ _ _ _ (by decide) (.inl (by decide)), fld_showVolts_same]

theorem raised_enterSupply (h : g < 6) : Raised (70 + g) (s.enterSupply g mv st) := by
  refine mem_ev _ _ ?_
  simp only [reservedSource, Bool.or_eq_false_iff, Bool.and_eq_false_iff, decide_eq_false_iff_not]
  omega

theorem supplyDiags_eq : s.supplyDiags g st = (List.range 8).foldl (fun s i => s.supplyDiag st (8 * g + i)) s := rfl

theorem keepsRaised_supplyDiag (m : Nat) : KeepsRaised s (s.supplyDiag st m) := by
  have hLive : ∀ (t : State) (b : Nat), KeepsRaised t (t.setLiveDc m b false) :=
    fun t b => .of_fr (tg_setReg _ _ _ _) rfl rfl
  unfold State.supplyDiag
  dsimp only
  split
  · exact .refl s
  · have hLow : KeepsRaised s (if st = 2 ∨ st = 3 then (s.dcRaise m 8).setLiveDc m 5 false else s.setLiveDc m 8 false) := by
      split
      · exact (keepsRaised_dcRaise ..).trans (hLive _ _)
      · exact hLive _ _
    split
    · exact hLow.trans (keepsRaised_dcRaise ..)
    · exact hLow.trans (hLive _ _)

theorem keepsRaised_supplyDiags : KeepsRaised s (s.supplyDiags g st) := by
  rw [supplyDiags_eq]
  exact .foldl (fun t i => keepsRaised_supplyDiag t st (8 * g + i)) _ _

theorem fld_supplyDiags (f : Field) (i : Nat) (h : f.reg = .DC_GROUP) : (s.supplyDiags g st).fld f i = s.fld f i :=
  fld_of_fr (P := 0x2120) (W := 0x300000000000000000000000000000002) (by simp) f i (by rw [h]; rfl)

/-- A group that goes to OFF, or comes from it, starts or ends its turns; its state and supply stay as shown. -/
theorem fld_supplyStages (old : Nat) (f : Field) (i : Nat) (h : f.reg = .DC_GROUP)
    (ha : Fld.DC_GROUP_REAPPLY.apart f = true) : (s.supplyStages g st old).fld f i = s.fld f i := by
  have hTurns : ∀ b, (s.setFlag Fld.DC_GROUP_REAPPLY b g).fld f i = s.fld f i :=
    fun b => fld_setFlag_apart _ _ _ _ _ _ (by decide) (.inl ha)
  unfold State.supplyStages
  split
  · refine (fld_foldl (fun t j => ?_) _ _).trans (hTurns false)
    exact fld_of_fr (P := 0x100020) (W := rb .DC_STAT) (by simp) f i (by rw [h]; rfl)
  · split
    · exact hTurns _
    · rfl

theorem raised_supplyStages {n : Nat} (old : Nat) (h : Raised n s) : Raised n (s.supplyStages g st old) := by
  have f : Fr 0x100020 0x500000000000000000000000000000000 s (s.supplyStages g st old) := by simp
  rw [Raised, f.1 .levels rfl]
  exact h

end

section
variable {s : State} {g : Nat}

theorem flag_stageLost_same {m : Nat} (h : s.dcSupply m = 3) : (s.stageLost m).flag Fld.DC_STAT_STAGE_ON m = false :=
  flag_dcStage_stays_off ((fld_dcSwitch_apart _ _ _ Fld.DC_GROUP_STATE _ (.inl (by decide))).trans h) (flag_dcSwitch_same ..)

theorem flag_stageLost_ne {m j : Nat} (h : j ≠ m) :
    (s.stageLost m).flag Fld.DC_STAT_STAGE_ON j = s.flag Fld.DC_STAT_STAGE_ON j :=
  (flag_dcStage_ne _ h).trans (flag_dcSwitch_apart _ _ _ _ _ (.inr h))

theorem supplyStages_off (s : State) (g old : Nat) : s.supplyStages g 3 old =
    (List.range 8).foldl (fun t j => t.stageLost (8 * g + j)) (s.setFlag Fld.DC_GROUP_REAPPLY false g) := if_pos rfl

/-- In OFF every stage of the group is off, whatever its command. -/
theorem flag_supplyStages_off (old : Nat) (hState : s.fld Fld.DC_GROUP_STATE g = 3) {i : Nat} (hi : i < 8) :
    (s.supplyStages g 3 old).flag Fld.DC_STAT_STAGE_ON (8 * g + i) = false := by
  have hit : ∀ t : State, t.fld Fld.DC_GROUP_STATE g = 3 →
      (t.stageLost (8 * g + i)).flag Fld.DC_STAT_STAGE_ON (8 * g + i) = false := fun t h =>
    flag_stageLost_same (by rw [State.dcSupply, show (8 * g + i) / 8 = g by omega, h])
  rw [supplyStages_off]
  refine foldl_of_mem (I := fun t : State => t.fld Fld.DC_GROUP_STATE g = 3)
    (P := fun t => t.flag Fld.DC_STAT_STAGE_ON (8 * g + i) = false) (fun t j h => ?_) (fun t j h hOff => ?_) hit
    ((fld_setFlag_apart _ _ _ _ _ _ (by decide) (.inl (by decide))).trans hState) (List.mem_range.2 hi)
  · exact (fld_of_fr (P := 0x100020) (W := rb .DC_STAT) (by simp [State.stageLost]) _ _ rfl).trans h
  · by_cases hj : j = i
    · rw [hj, hit t h]
    · rw [flag_stageLost_ne (by omega), hOff]

end

section
variable {g : Fin 6} {mv : Nat} {s : State}

theorem completes_supplyStateChange {st : Nat} (hNext : st = supplyNext (s.fld Fld.DC_GROUP_STATE g.val) mv)
    (hNew : st ≠ s.fld Fld.DC_GROUP_STATE g.val) :
    Completes (.supplyStateChange g mv) s [.regs, .levels, .sn, .io] [.SUP_ISLAND, .DC_STAT, .DC_DIAG,
      .DC_GROUP] fun t =>
      t.fld Fld.DC_GROUP_STATE g.val = st ∧ t.fld Fld.DC_GROUP_VOLTS g.val = min 255 (mv / 200) ∧
      Raised (70 + g.val) t ∧ (st = 3 → ∀ i, i < 8 → t.flag Fld.DC_STAT_STAGE_ON (8 * g.val + i) = false) := by
  have e : exec (.supplyStateChange g mv) s =
      .next (((s.enterSupply g.val mv st).supplyDiags g.val st).supplyStages g.val st (s.fld Fld.DC_GROUP_STATE g.val)) := by
    subst hNext
    exact if_neg hNew
  have hState : ((s.enterSupply g.val mv st).supplyDiags g.val st).fld Fld.DC_GROUP_STATE g.val = st := by
    rw [fld_supplyDiags _ _ _ _ _ rfl, fld_enterSupply_state _ _ _ _ (hNext ▸ supplyNext_lt ..)]
  refine .of (fr_execSupplyStateChange g mv s) rfl rfl ⟨_, e, ?_, ?_, ?_, fun hOff i hi => ?_⟩
  · rw [fld_supplyStages _ _ _ _ _ _ rfl (by decide), hState]
  · rw [fld_supplyStages _ _ _ _ _ _ rfl (by decide), fld_supplyDiags _ _ _ _ _ rfl, fld_enterSupply_volts]
  · exact raised_supplyStages _ _ _ _ ((keepsRaised_supplyDiags ..).levels _ (raised_enterSupply _ _ _ _ g.isLt))
  · rw [hOff] at hState ⊢
    exact flag_supplyStages_off _ hState hi

theorem completes_supplyStateChange_kept (h : supplyNext (s.fld Fld.DC_GROUP_STATE g.val) mv = s.fld Fld.DC_GROUP_STATE g.val) :
    Completes (.supplyStateChange g mv) s [.regs] [.DC_GROUP] fun t =>
      t.fld Fld.DC_GROUP_VOLTS g.val = min 255 (mv / 200) ∧
      t.fld Fld.DC_GROUP_STATE g.val = s.fld Fld.DC_GROUP_STATE g.val ∧ InstKept .DC_GROUP g.val s t :=
  .setReg (if_pos h) ⟨fld_showVolts_same .., fld_showVolts_apart _ _ _ _ _ (by decide), instKept_setReg _ _ _ _⟩

end

/-! ## Re-application (R209) -/

section
variable {g : Fin 6} {s : State}

theorem flag_turnsEnd_apart (s : State) (g : Nat) (f : Field) (i : Nat) (h : Fld.DC_GROUP_REAPPLY.apart f = true) :
    (s.turnsEnd g).flag f i = s.flag f i := by
  unfold State.turnsEnd
  split
  · exact flag_setFlag_apart _ _ _ _ _ _ (by decide) (.inl h)
  · rfl

/-- The turn of output `m`: it is on, and waits no more. -/
def State.takeTurn (s : State) (m : Nat) : State := (s.dcSwitch m true).setFlag Fld.DC_STAT_QUEUED false m

theorem flag_takeTurn_stage (s : State) (m j : Nat) : (s.takeTurn m).flag Fld.DC_STAT_STAGE_ON j =
    (s.dcSwitch m true).flag Fld.DC_STAT_STAGE_ON j := flag_setFlag_apart _ _ _ _ _ _ (by decide) (.inl (by decide))

theorem completes_reapplyTurn {m : Nat} (hTurns : s.flag Fld.DC_GROUP_REAPPLY g.val = true) (hNext : s.nextTurn g.val = some m) :
    Completes (.reapplyTurn g) s [.regs, .io] [.DC_STAT, .DC_GROUP] fun t =>
      t.flag Fld.DC_STAT_STAGE_ON m = true ∧ t.flag Fld.DC_STAT_QUEUED m = false ∧
      (∀ j, j ≠ m → t.flag Fld.DC_STAT_STAGE_ON j = s.flag Fld.DC_STAT_STAGE_ON j) := by
  have e : exec (.reapplyTurn g) s = .next ((s.takeTurn m).turnsEnd g.val) := by
    rw [exec_reapplyTurn, execReapplyTurn, if_pos hTurns, hNext]
    rfl
  refine .of (fr_execReapplyTurn g s) rfl rfl ⟨_, e, ?_, ?_, fun j hj => ?_⟩
  · rw [flag_turnsEnd_apart _ _ _ _ (by decide), flag_takeTurn_stage, flag_dcSwitch_same]
  · rw [flag_turnsEnd_apart _ _ _ _ (by decide)]
    exact flag_setFlag_same _ _ _ _ (by decide)
  · rw [flag_turnsEnd_apart _ _ _ _ (by decide), flag_takeTurn_stage, flag_dcSwitch_apart _ _ _ _ _ (.inr hj)]

theorem completes_reapplyTurn_last (hTurns : s.flag Fld.DC_GROUP_REAPPLY g.val = true) (hNext : s.nextTurn g.val = none) :
    Completes (.reapplyTurn g) s [.regs] [.DC_GROUP] fun t =>
      t.flag Fld.DC_GROUP_REAPPLY g.val = false ∧ InstKept .DC_GROUP g.val s t := by
  have hEnds : s.turnsEnd g.val = s.setFlag Fld.DC_GROUP_REAPPLY false g.val := if_pos (by simp [hTurns, hNext])
  have e : exec (.reapplyTurn g) s = .next (s.setFlag Fld.DC_GROUP_REAPPLY false g.val) := by
    rw [exec_reapplyTurn, execReapplyTurn, if_pos hTurns, hNext]
    exact congrArg _ hEnds
  exact .setReg e ⟨flag_setFlag_same _ _ _ _ (by decide), instKept_setReg _ _ _ _⟩

end

/-! ## The currents of a group (R214) -/

/-- The summed current of group `g` shown in units of 20 mA, and whether it stands above 4.4 A. -/
def State.showCurrent (s : State) (g ma : Nat) : State :=
  (s.setFld Fld.DC_GROUP_CURRENT (sat 255 (ma / 20)) g).setFlag Fld.DC_GROUP_GROUP_OVER (decide (4400 < ma)) g

section
variable {g : Fin 6} {ma : Nat} {s : State}

theorem fr_showCurrent (s : State) (g ma : Nat) : Fr 0x20 (rb .DC_GROUP) s (s.showCurrent g ma) := by
  simp [State.showCurrent]

theorem flag_showCurrent : (s.showCurrent g.val ma).flag Fld.DC_GROUP_GROUP_OVER g.val = decide (4400 < ma) :=
  flag_setFlag_same _ _ _ _ (by decide)

theorem fld_showCurrent : (s.showCurrent g.val ma).fld Fld.DC_GROUP_CURRENT g.val = min 255 (ma / 20) := by
  rw [State.showCurrent, fld_setFlag_apart _ _ _ _ _ _ (by decide) (.inl (by decide)), fld_setFld_same _ _ _ _ (by decide)]
  exact Nat.mod_eq_of_lt (Nat.lt_of_le_of_lt (Nat.min_le_left ..) (by decide))

theorem instKept_showCurrent : InstKept .DC_GROUP g.val s (s.showCurrent g.val ma) :=
  (instKept_setReg s .DC_GROUP g.val _).trans (instKept_setReg _ _ _ _)

theorem flag_over_setCurrent (v : Nat) : (s.setFld Fld.DC_GROUP_CURRENT v g.val).flag Fld.DC_GROUP_GROUP_OVER g.val =
    s.flag Fld.DC_GROUP_GROUP_OVER g.val := flag_setFld_apart _ _ _ _ _ _ (by decide) (.inl (by decide))

theorem takesRecord_showCurrent {isl : Nat} (h : s.takesRecord isl) : (s.showCurrent g.val ma).takesRecord isl := h

theorem completes_groupOver_rise (hOver : 4400 < ma) (hRise : s.flag Fld.DC_GROUP_GROUP_OVER g.val = false)
    (hRoom : s.takesRecord (12 + g.val)) :
    Completes (.groupOver g ma) s [.regs, .sn] [.DC_GROUP] fun t =>
      t.flag Fld.DC_GROUP_GROUP_OVER g.val = true ∧ t.fld Fld.DC_GROUP_CURRENT g.val = min 255 (ma / 20) ∧
      Records [Config.groupOverCode.toNat] s t ∧ InstKept .DC_GROUP g.val s t := by
  have hRoom' : (s.showCurrent g.val ma).takesRecord (12 + g.val) := takesRecord_showCurrent hRoom
  have e : exec (.groupOver g ma) s =
      .next ((s.showCurrent g.val ma).note (12 + g.val) Config.groupOverCode.toNat [g.val]) := by
    rw [exec_groupOver, execGroupOver, State.showCurrent, decide_eq_true hOver]
    exact if_pos ⟨hOver, by simp [flag_over_setCurrent, hRise]⟩
  have hNote := fr_note_of_room hRoom' Config.groupOverCode.toNat [g.val]
  refine .next (P := 0x2020) (W := rb .DC_GROUP) e ?_ rfl rfl ⟨?_, ?_, ?_, ?_⟩
  · exact (Fr.iff hNote rfl (Nat.and_zero _)).2 ((fr_showCurrent ..).mono rfl rfl)
  · rw [flag_of_fr hNote _ _ (Nat.zero_and _), flag_showCurrent, decide_eq_true hOver]
  · rw [fld_of_fr hNote _ _ (Nat.zero_and _), fld_showCurrent]
  · exact .of_fr_left (fr_showCurrent s g.val ma) rfl (records_note_of_room hRoom' ..)
  · exact instKept_showCurrent.trans fun j _ => hNote.2 .DC_GROUP j (Nat.zero_and _)

theorem completes_groupOver_no_rise (h : ma ≤ 4400 ∨ s.flag Fld.DC_GROUP_GROUP_OVER g.val = true) :
    Completes (.groupOver g ma) s [.regs] [.DC_GROUP] fun t =>
      t.flag Fld.DC_GROUP_GROUP_OVER g.val = decide (4400 < ma) ∧
      t.fld Fld.DC_GROUP_CURRENT g.val = min 255 (ma / 20) := by
  have e : exec (.groupOver g ma) s = .next (s.showCurrent g.val ma) := by
    rw [exec_groupOver, execGroupOver, State.showCurrent]
    refine if_neg fun ⟨hOver, hRise⟩ => ?_
    rw [flag_over_setCurrent] at hRise
    rcases h with hLow | hStands
    · omega
    · simp [hStands] at hRise
  exact .next e (fr_showCurrent ..) rfl rfl ⟨flag_showCurrent, fld_showCurrent⟩

end

/-! ## Sink sharing (R215) -/

section
variable {g : Fin 6} {x : Bool} {s : State}

/-- Channel `m` sinks as the line of the partner tells. -/
def State.sinkOne (s : State) (seen : Bool) (m : Nat) : State :=
  if s.dcMode m = 1 ∨ s.dcMode m = 2 then s.setFlag Fld.DC_STAT_SINK_HALF seen m else s

theorem dcMode_sinkOne (t : State) (seen : Bool) (m j : Nat) : (t.sinkOne seen m).dcMode j = t.dcMode j := by
  unfold State.sinkOne
  split
  · exact fld_setFlag_apart _ _ _ _ _ _ (by decide) (.inl (by decide))
  · rfl

theorem flag_sinkOne_same {t : State} {m : Nat} (seen : Bool) (h : t.dcMode m = 1 ∨ t.dcMode m = 2) :
    (t.sinkOne seen m).flag Fld.DC_STAT_SINK_HALF m = seen := by
  rw [State.sinkOne, if_pos h]
  exact flag_setFlag_same _ _ _ _ (by decide)

theorem flag_sinkOne_ne (t : State) (seen : Bool) {m j : Nat} (h : j ≠ m) :
    (t.sinkOne seen m).flag Fld.DC_STAT_SINK_HALF j = t.flag Fld.DC_STAT_SINK_HALF j := by
  unfold State.sinkOne
  split
  · exact flag_setFlag_apart _ _ _ _ _ _ (by decide) (.inr h)
  · rfl

theorem sinkFollow_eq (s : State) (g : Nat) : s.sinkFollow g =
    (List.range 8).foldl (fun t j => t.sinkOne (s.flag Fld.DC_GROUP_PARTNER_SINK g) (8 * g + j)) s := rfl

/-- Every input of the group follows the line of the partner. -/
theorem flag_sinkFollow {i : Nat} (hi : i < 8) (h : s.dcMode (8 * g.val + i) = 1 ∨ s.dcMode (8 * g.val + i) = 2) :
    (s.sinkFollow g.val).flag Fld.DC_STAT_SINK_HALF (8 * g.val + i) = s.flag Fld.DC_GROUP_PARTNER_SINK g.val := by
  rw [sinkFollow_eq]
  refine foldl_of_mem (I := fun t : State => t.dcMode (8 * g.val + i) = 1 ∨ t.dcMode (8 * g.val + i) = 2)
    (P := fun t => t.flag Fld.DC_STAT_SINK_HALF (8 * g.val + i) = s.flag Fld.DC_GROUP_PARTNER_SINK g.val)
    (fun t j hIn => ?_) (fun t j hIn hHalf => ?_) (fun t hIn => flag_sinkOne_same _ hIn) h (List.mem_range.2 hi)
  · rwa [dcMode_sinkOne]
  · by_cases hj : j = i
    · rw [hj, flag_sinkOne_same _ hIn]
    · rw [flag_sinkOne_ne _ _ (by omega), hHalf]

theorem completes_sinkShareChange (hPair : s.pair = true) :
    Completes (.sinkShareChange g x) s [.regs] [.DC_GROUP, .DC_STAT] fun t =>
      t.flag Fld.DC_GROUP_PARTNER_SINK g.val = x ∧
      ∀ i, i < 8 → (s.dcMode (8 * g.val + i) = 1 ∨ s.dcMode (8 * g.val + i) = 2) →
        t.flag Fld.DC_STAT_SINK_HALF (8 * g.val + i) = x := by
  have e : exec (.sinkShareChange g x) s =
      .next ((s.setFlag Fld.DC_GROUP_PARTNER_SINK x g.val).sinkFollow g.val) := if_pos hPair
  have hSeen : (s.setFlag Fld.DC_GROUP_PARTNER_SINK x g.val).flag Fld.DC_GROUP_PARTNER_SINK g.val = x :=
    flag_setFlag_same _ _ _ _ (by decide)
  have hFollow : Fr 0x20 (rb .DC_STAT) (s.setFlag Fld.DC_GROUP_PARTNER_SINK x g.val)
      ((s.setFlag Fld.DC_GROUP_PARTNER_SINK x g.val).sinkFollow g.val) := by simp
  have hMode : ∀ j, (s.setFlag Fld.DC_GROUP_PARTNER_SINK x g.val).dcMode j = s.dcMode j :=
    fun j => fld_setFlag_apart _ _ _ _ _ _ (by decide) (.inl (by decide))
  refine .of (fr_execSinkShareChange g x s) rfl rfl ⟨_, e, ?_, fun i hi hIn => ?_⟩
  · rw [flag_of_fr hFollow _ _ rfl, hSeen]
  · rw [flag_sinkFollow hi (by simpa only [hMode] using hIn), hSeen]

theorem sinkShareChange_single (h : s.pair = false) : exec (.sinkShareChange g x) s = .next s := if_neg (by simp [h])

end

/-- Settles O30: what each command leaves is read off the state it answers, by the rules of a channel's own operations; the eight
channels of a group are taken one by one, none disturbing another. -/
theorem digitalChannels : Obligations.DigitalChannels :=
  ⟨fun _ _ _ => completes_inputChangeAccepted_counted, fun _ _ _ => completes_inputChangeAccepted_input,
    fun _ _ _ => completes_inputChangeAccepted_known, fun _ _ => completes_outputOverloadOff,
    fun _ _ => completes_outputOverloadRetry, fun _ _ => outputOverloadRetry_idle, fun _ _ => completes_outputOvertempOff,
    fun _ _ _ _ => completes_supplyStateChange, fun _ _ _ => completes_supplyStateChange_kept,
    fun _ _ _ => completes_reapplyTurn, fun _ _ => completes_reapplyTurn_last, fun _ _ _ => completes_groupOver_rise,
    fun _ _ _ => completes_groupOver_no_rise, fun _ _ _ => completes_sinkShareChange, fun _ _ _ => sinkShareChange_single⟩

end Sys2Proof.Machine
end

section
/-! PROOF. A message whose type asks for a higher role, a connection taken or turned away, and the end of a session (R272, R273,
R425; SessionRoles, O58, and of ServiceSessions, O15). -/

namespace Sys2Proof.Machine

/-! ## A role too low (R273) -/

section
variable {s : State} {h : SvcMsg} (ho : (s.sess h.sess.val).open_ = true) (hs : s.serving = true)
include ho hs

/-- The role is judged before anything else: a message that asks for a higher one is answered 3 and not carried out. -/
theorem svc_of_role_lt {type least sub : Nat} {len : Option Nat} (hr : (s.sess h.sess.val).role < least) (f : State → State) :
    s.svc h type least sub len f = (s.heard h.sess.val).answer h type 3 := by
  have hCode : s.svcRefusal h type least sub len = some 3 := if_pos hr
  rw [State.svc, ho, hs, hCode]
  rfl

theorem upOrder_of_role_lt {op : Nat} (hr : (s.sess h.sess.val).role < 2) (f : State → Nat × State) :
    s.upOrder h op f = (s.heard h.sess.val).answer h 0x11 3 := svc_of_role_lt ho hs hr _

/-- An ACTIVATE that is turned away selects no bank, so no restart follows it. -/
theorem activateOrder_of_role_lt (kinds : Nat) (w : Instant) (hr : (s.sess h.sess.val).role < 2) :
    s.activateOrder h kinds w = (s.heard h.sess.val).answer h 0x11 3 := by
  have hSeq : ((s.heard h.sess.val).answer h 0x11 3).fld Fld.PK_SEQ_SEQUENCE = s.fld Fld.PK_SEQ_SEQUENCE :=
    fld_of_fr (fr_answer_self (s.heard h.sess.val) h 0x11 3 []) _ _ rfl
  rw [State.activateOrder, upOrder_of_role_lt ho hs hr]
  simp [hSeq]

theorem updateOrders_of_role_lt (k : BitVec 8) (w : Instant) (b : Bool) (hr : (s.sess h.sess.val).role < 2) :
    exec (.updateVerify h k false) s = .next ((s.heard h.sess.val).answer h 0x11 3) ∧
    exec (.updateActivate h k w) s = .next ((s.heard h.sess.val).answer h 0x11 3) ∧
    exec (.updateRoll h k w) s = .next ((s.heard h.sess.val).answer h 0x11 3) ∧
    exec (.updateConfirm h b false) s = .next ((s.heard h.sess.val).answer h 0x11 3) ∧
    exec (.updateRevert h) s = .next ((s.heard h.sess.val).answer h 0x11 3) ∧
    exec (.updateCancel h k false) s = .next ((s.heard h.sess.val).answer h 0x11 3) ∧
    exec (.updateStatus h k) s = .next ((s.heard h.sess.val).answer h 0x11 3) :=
  have hOrder := fun op => upOrder_of_role_lt (op := op) ho hs hr
  ⟨congrArg _ (hOrder ..), congrArg _ (activateOrder_of_role_lt ho hs _ w hr), congrArg _ (hOrder ..), congrArg _ (hOrder ..),
    congrArg _ (hOrder ..), congrArg _ (hOrder ..), congrArg _ (svc_of_role_lt ho hs hr _)⟩

end

/-! ## Sessions (R272) -/

/-- The session that a handshake opens. -/
def sessionOf (t : Handshake) : Session :=
  { open_ := true, role := t.role, basePort := t.basePort, port := t.port, recovery := t.recovery }

theorem sess_setSess (s : State) (k j : Nat) (x : Session) : (s.setSess k x).sess j = if j = k then x else s.sess j :=
  Tab.get_set ..

theorem sess_of_pn {s t : State} (h : t.pn = s.pn) (k : Nat) : t.sess k = s.sess k := by rw [State.sess, h, State.sess]

theorem sess_ev (s : State) (n k : Nat) : (s.ev n).sess k = s.sess k := sess_of_pn (ev_pn ..) k

theorem sess_heard (s : State) (j k : Nat) : (s.heard j).sess k = s.sess k := rfl

theorem fld_heard (s : State) (k : Nat) (f : Field) (i : Nat) : (s.heard k).fld f i = s.fld f i := rfl

theorem fld_setSess_apart (s : State) (k : Nat) (x : Session) (f : Field) (i : Nat) (h : Fld.PN_SVC_SESSIONS.apart f = true) :
    (s.setSess k x).fld f i = s.fld f i := fld_setFld_apart _ _ _ _ _ _ (by decide) (.inl h)

theorem raised_ev_112 (s : State) : Raised 112 (s.ev 112) := mem_ev _ _ rfl

/-! ## SVC_CONNECT -/

section
variable {m : Handshake} {s : State}

/-- The state after an accepted handshake. -/
def State.opened (s : State) (k : Nat) (m : Handshake) : State := ((s.setSess k (sessionOf m)).heard k).ev 112

theorem sess_opened (k j : Nat) : (s.opened k m).sess j = if j = k then sessionOf m else s.sess j := by
  rw [State.opened, sess_ev, sess_heard, sess_setSess]

theorem heard_opened (k : Nat) : Tab.get 0 (s.opened k m).pn.heard k = s.mt.frc := by
  rw [State.opened, ev_pn]
  exact Tab.get_set_same ..

theorem fld_refused_opened (k : Nat) : (s.opened k m).fld Fld.PN_SVC_REFUSED = s.fld Fld.PN_SVC_REFUSED := by
  rw [State.opened, fld_ev, fld_heard, fld_setSess_apart _ _ _ _ _ (by decide)]

theorem svcConnect_unheard (h : s.serving = false ∨ s.reaches m.basePort m.port = false) : exec (.svcConnect m) s = .next s :=
  if_pos (by rcases h with h | h <;> simp [h])

theorem svcConnect_iazebin (hz : s.iazebin = true) (h : (m.basePort && s.pw.contactOpen) = false) :
    exec (.svcConnect m) s = .next s := if_pos (by rw [hz, h, Bool.not_false, Bool.true_and, Bool.or_true, Bool.true_or])

section
variable (hs : s.serving = true) (hz : s.iazebin = false) (hr : s.reaches m.basePort m.port = true)
include hs hz hr

theorem completes_svcConnect_fifth (hf : s.freeSess = none) : Completes (.svcConnect m) s [.regs, .levels] [.PN_SVC] fun t =>
    t.fld Fld.PN_SVC_REFUSED = satAdd Fld.PN_SVC_REFUSED.top (s.fld Fld.PN_SVC_REFUSED) 1 ∧ Raised 112 t := by
  have e : exec (.svcConnect m) s = .next ((s.bump Fld.PN_SVC_REFUSED).ev 112) := by
    rw [exec_svcConnect, execSvcConnect, hs, hz, hr, hf]
    rfl
  exact .next e (P := 0x120) (W := rb .PN_SVC) (by simp) rfl rfl
    ⟨by rw [fld_ev, fld_bump_same _ _ _ _ (by decide)], raised_ev_112 _⟩

theorem completes_svcConnect_bad {k : Nat} (hf : s.freeSess = some k)
    (hBad : m.suiteOk = false ∨ m.anchorOk = false ∨ m.recovery = s.accepted) :
    Completes (.svcConnect m) s [.regs, .levels] [.PN_SVC] fun t =>
      t.fld Fld.PN_SVC_AUTH_FAIL = satAdd Fld.PN_SVC_AUTH_FAIL.top (s.fld Fld.PN_SVC_AUTH_FAIL) 1 ∧ Raised 112 t := by
  have hTurned : (!m.suiteOk || !m.anchorOk || m.recovery == s.accepted) = true := by
    rcases hBad with h | h | h <;> simp [h]
  have e : exec (.svcConnect m) s = .next ((s.bump Fld.PN_SVC_AUTH_FAIL).ev 112) := by
    rw [exec_svcConnect, execSvcConnect, hs, hz, hr, hf, hTurned]
    rfl
  exact .next e (P := 0x120) (W := rb .PN_SVC) (by simp) rfl rfl
    ⟨by rw [fld_ev, fld_bump_same _ _ _ _ (by decide)], raised_ev_112 _⟩

theorem svcConnect_accepted {k : Nat} (hf : s.freeSess = some k) (hSuite : m.suiteOk = true) (hAnchor : m.anchorOk = true)
    (hRecovery : m.recovery ≠ s.accepted) : exec (.svcConnect m) s = .next (s.opened k m) := by
  have hTaken : (m.recovery == s.accepted) = false := beq_eq_false_iff_ne.2 hRecovery
  rw [exec_svcConnect, execSvcConnect, hs, hz, hr, hf, hSuite, hAnchor, hTaken]
  rfl

theorem completes_svcConnect {k : Nat} {Q : State → Prop} (hf : s.freeSess = some k) (hSuite : m.suiteOk = true)
    (hAnchor : m.anchorOk = true) (hRecovery : m.recovery ≠ s.accepted) (q : Q (s.opened k m)) :
    Completes (.svcConnect m) s [.regs, .levels, .pn] [.PN_SVC] Q :=
  .of (fr_execSvcConnect m s) rfl rfl ⟨_, svcConnect_accepted hs hz hr hf hSuite hAnchor hRecovery, q⟩

end
end

/-- Settles O58: the role is judged first of all that may turn a message away, and an accepted session has the role of its
certificate. -/
theorem sessionRoles : Obligations.SessionRoles := by
  refine ⟨fun m k s hs hz hr hf hSuite hAnchor hRecovery => ?_, fun h n b f g s ho hs hr => ?_,
    fun h k w b s ho hs hr => updateOrders_of_role_lt ho hs k w b hr, fun h b us ok s ho hs hr => ?_,
    fun h l p a b c v n fr s ho hs hr => ?_, fun h x y n s ho hs hr => ?_⟩
  case refine_1 =>
    refine completes_svcConnect hs hz hr hf hSuite hAnchor (by simp [hRecovery]) ⟨?_, ?_, fun j hj => ?_⟩
    · rw [sess_opened, if_pos rfl, sessionOf]
    · rw [sess_opened, if_pos rfl, sessionOf]
    · rw [sess_opened, if_neg hj]
  case refine_2 =>
    have hRole := fun type len => svc_of_role_lt (type := type) (sub := 0) (len := len) ho hs hr
    exact ⟨congrArg _ (hRole ..), congrArg _ (hRole ..), congrArg _ (hRole ..), congrArg _ (hRole ..), congrArg _ (hRole ..)⟩
  case refine_3 =>
    have hRole := fun type sub len => svc_of_role_lt (type := type) (sub := sub) (len := len) ho hs hr
    exact ⟨congrArg _ (hRole ..), congrArg _ (hRole ..), congrArg _ (hRole ..), congrArg _ (hRole ..)⟩
  case refine_4 =>
    have hRole := fun type len => svc_of_role_lt (type := type) (sub := 0) (len := len) ho hs hr
    exact ⟨congrArg _ (hRole ..), congrArg _ (hRole ..), congrArg _ (hRole ..), congrArg _ (hRole ..), congrArg _ (hRole ..)⟩
  case refine_5 =>
    have hRole := fun type => svc_of_role_lt (type := type) (sub := 0) (len := none) ho hs hr
    exact ⟨congrArg _ (hRole ..), congrArg _ (hRole ..), congrArg _ (hRole ..)⟩

end Sys2Proof.Machine
end

section
/-! PROOF. Sessions that end, unknown messages, address resolution and echo (ServiceSessions, O15). -/

namespace Sys2Proof.Machine

/-! ## The end of a session (R272) -/

section
variable {s : State} {k : Fin 4}

theorem closeSess_of_open (ho : (s.sess k.val).open_ = true) : s.closeSess k.val = (s.setSess k.val {}).ev 112 := if_pos ho

theorem closeSess_of_closed (ho : (s.sess k.val).open_ = false) : s.closeSess k.val = s := if_neg (by simp [ho])

theorem svcIdleClose_of_silent (ht : 60000000000 ≤ (s.mt.frc - Tab.get 0 s.pn.heard k.val).toNat) :
    exec (.svcIdleClose k) s = .next (s.closeSess k.val) := congrArg _ (if_pos (decide_eq_true ht))

theorem svcIdleClose_of_heard (ht : (s.mt.frc - Tab.get 0 s.pn.heard k.val).toNat < 60000000000) :
    exec (.svcIdleClose k) s = .next s := congrArg _ (if_neg (by simpa using ht))

theorem sess_closed (ho : (s.sess k.val).open_ = true) (j : Nat) :
    (s.closeSess k.val).sess j = if j = k.val then {} else s.sess j := by
  rw [closeSess_of_open ho, sess_ev, sess_setSess]

theorem completes_of_closeSess {c : Instr} (ho : (s.sess k.val).open_ = true) (e : exec c s = .next (s.closeSess k.val)) :
    Completes c s [.regs, .levels, .pn] [.PN_SVC] fun t =>
      (t.sess k.val).open_ = false ∧ (∀ j, j ≠ k.val → t.sess j = s.sess j) ∧ Raised 112 t := by
  refine .next e (P := 0x800120) (W := rb .PN_SVC) (by simp) rfl rfl ⟨?_, fun j hj => ?_, ?_⟩
  · rw [sess_closed ho, if_pos rfl]
  · rw [sess_closed ho, if_neg hj]
  · rw [closeSess_of_open ho]
    exact raised_ev_112 _

theorem completes_svcDisconnect (ho : (s.sess k.val).open_ = true) :
    Completes (.svcDisconnect k) s [.regs, .levels, .pn] [.PN_SVC] fun t =>
      (t.sess k.val).open_ = false ∧ Raised 112 t := by
  obtain ⟨t, e, ⟨hClosed, -, hRaised⟩, hFrame⟩ := completes_of_closeSess (c := .svcDisconnect k) ho (exec_svcDisconnect k s)
  exact ⟨t, e, ⟨hClosed, hRaised⟩, hFrame⟩

theorem sessionEnd_of_closed (ho : (s.sess k.val).open_ = false) :
    exec (.svcIdleClose k) s = .next s ∧ exec (.svcDisconnect k) s = .next s := by
  refine ⟨?_, congrArg _ (closeSess_of_closed ho)⟩
  rw [exec_svcIdleClose, execSvcIdleClose, closeSess_of_closed ho, ite_self]

end

/-! ## An unknown TYPE (R274) -/

/-- A message that is answered, and does nothing else, completes with its answer. -/
theorem completes_of_answer {c : Instr} {h : SvcMsg} {type code : Nat} {s : State}
    (e : exec c s = .next ((s.heard h.sess.val).answer h type code)) :
    Completes c s [.out, .pn] [] fun t =>
      Answers [] h.sess.val (svcOut h.sess.val h.msgId (32768 + type) code []) s t :=
  .next e ((Fr.iff (P := 0x800002) (W := 0) (fr_answer_self ..) rfl rfl).2 (by simp)) rfl rfl
    (answers_answer (P := 0) (W := 0) h type code [] (by simp) rfl rfl rfl rfl)

theorem completes_svcUnknownType {h : SvcMsg} {y : BitVec 16} {s : State} (ho : (s.sess h.sess.val).open_ = true)
    (hs : s.serving = true) (hy : svcTypes.contains y.toNat = false) :
    Completes (.svcUnknownType h y) s [.out, .pn] [] fun t =>
      Answers [] h.sess.val (svcOut h.sess.val h.msgId (32768 + bits y 14 0) 2 []) s t := by
  refine completes_of_answer ?_
  rw [exec_svcUnknownType, execSvcUnknownType, ho, hs, hy]
  rfl

/-! ## Address resolution and echo -/

section
variable {s : State} {v : Option (Fin 2)} {a : Nat}

/-- Where the module is asked by the base's contact it answers at once. -/
theorem completes_of_emit {c : Instr} {o : Output} (e : exec c s = .next (s.serviceOut none o)) :
    Completes c s [.out] [] fun t => Sends [o] s t :=
  .next (t := s.emit o) e (P := 2) (W := 0) (by simp) rfl rfl rfl

theorem arpRequest_declared (h : s.declaredAt a = true) : exec (.arpRequest v a) s = .next (s.serviceOut v (.arpReply a)) :=
  congrArg _ (if_pos h)

theorem neighbourSolicitation_answered (h : s.answersAt v a = true) :
    exec (.neighbourSolicitation v a) s = .next (s.serviceOut v (.neighbourAdvert a)) := congrArg _ (if_pos h)

theorem not_declaredAt (h : s.answersAt v a = false) : s.declaredAt a = false :=
  (Bool.or_eq_false_iff.1 h).1

theorem unanswered (i : Nat) (h : s.answersAt v a = false) :
    exec (.arpRequest v a) s = .next s ∧ exec (.neighbourSolicitation v a) s = .next s ∧
    exec (.icmpEcho v a i) s = .next s :=
  ⟨congrArg _ (if_neg (by simp [not_declaredAt h])), congrArg _ (if_neg (by simp [h])), if_neg (by simp [h])⟩

/-- One echo more answered in the second that runs. -/
def State.echoCounted (s : State) : State := { s with pn := { s.pn with icmpCnt := s.pn.icmpCnt + 1 } }

section
variable (hSec : s.pn.icmpSec = s.mt.frc.toNat / 1000000000)
include hSec

theorem icmpEcho_answered (i : Nat) (h : s.answersAt v a = true) (hCnt : s.pn.icmpCnt < 10) :
    exec (.icmpEcho v a i) s = .next (s.echoCounted.serviceOut v (.echoReply a i)) := by
  rw [exec_icmpEcho, execIcmpEcho, ← hSec, if_pos rfl, h, decide_eq_true hCnt]
  rfl

theorem icmpEcho_too_many (i : Nat) (hCnt : 10 ≤ s.pn.icmpCnt) : exec (.icmpEcho v a i) s = .next s := by
  rw [exec_icmpEcho, execIcmpEcho, ← hSec, if_pos rfl]
  exact if_neg (by simp [Nat.not_lt.2 hCnt])

theorem completes_icmpEcho (i : Nat) (h : s.answersAt none a = true) (hCnt : s.pn.icmpCnt < 10) :
    Completes (.icmpEcho none a i) s [.out, .pn] [] fun t =>
      Sends [.echoReply a i] s t ∧ t.pn = { s.pn with icmpCnt := s.pn.icmpCnt + 1 } :=
  .next (t := s.echoCounted.emit (.echoReply a i)) (icmpEcho_answered hSec i h hCnt) (P := 0x800002) (W := 0)
    (by simp [State.echoCounted]) rfl rfl ⟨rfl, rfl⟩

end

/-! ## Service traffic of a plant port (R264) -/

/-- A frame that is no publication leaves through an open gate at once, where its class is not that of streams. -/
theorem netSend_of_gateOpen {p : Nat} {f : NetWait} (hk : f.k = none) (hp : s.portOpen p = true)
    (hg : s.gateOpen p f.cls = true) (hc : f.cls ≠ 6) : s.netSend p f = s.netOut p f := by
  rw [netSend_of_no_instant hk, if_pos hp, State.netTry, hg, if_neg (by simp), if_pos hc]

/-- At a shut gate it waits. -/
theorem netSend_of_gateShut {p : Nat} {f : NetWait} (hk : f.k = none) (hp : s.portOpen p = true)
    (hg : s.gateOpen p f.cls = false) : s.netSend p f = s.netWait p f := by
  rw [netSend_of_no_instant hk, if_pos hp, State.netTry, hg, if_pos (by simp)]

/-- A port without tables or link sends nothing. -/
theorem netSend_of_portShut {p : Nat} (f : NetWait) (hp : s.portOpen p = false) : s.netSend p f = s :=
  if_pos (by rw [hp, Bool.not_false])

variable {p : Fin 2} {o : Output}

theorem serviceOut_of_vlan {c : VlanCfg} (hv : (s.img.vlans.find? fun v => v.service) = some c) :
    s.serviceOut (some p) o = s.netSend (p.val + 1) { cls := c.pcp, own := some o } := by
  rw [State.serviceOut, hv]

theorem serviceOut_lost (h : (s.img.vlans.find? fun v => v.service) = none ∨ s.portOpen (p.val + 1) = false) :
    s.serviceOut (some p) o = s := by
  cases hv : s.img.vlans.find? fun v => v.service with
  | none => rw [State.serviceOut, hv]
  | some c =>
    rw [serviceOut_of_vlan hv]
    exact netSend_of_portShut _ (h.resolve_left (by simp [hv]))

end

/-- Settles O15: the clauses on handshakes, on the end of a session, on unknown types, on addresses and echoes, and on the way
of service traffic, in the order of the obligation. -/
theorem serviceSessions : Obligations.ServiceSessions := by
  refine ⟨fun m k s hs hz hr hf hSuite hAnchor hRecovery => ?_, fun m s hs hz hr hf => completes_svcConnect_fifth hs hz hr hf,
    fun m k s hs hz hr hf => completes_svcConnect_bad hs hz hr hf, fun m s => svcConnect_unheard,
    fun m s => svcConnect_iazebin, fun k s ho ht => ⟨completes_of_closeSess ho (svcIdleClose_of_silent ht), ?_⟩,
    fun k s => completes_svcDisconnect, fun k s => sessionEnd_of_closed, fun h y s => completes_svcUnknownType,
    fun a s h => completes_of_emit (arpRequest_declared h), fun v a s => arpRequest_declared,
    fun a s h => completes_of_emit (neighbourSolicitation_answered h), fun v a s => neighbourSolicitation_answered,
    fun v a i n s h hSec hn hCnt => ?_, fun a i n s h hSec hn hCnt => ?_, fun v a i s hSec => icmpEcho_too_many hSec i,
    fun v a i s => unanswered i, fun k s => svcIdleClose_of_heard,
    fun p o c s hv hc hp => ⟨fun hg => ?_, fun hg => ?_⟩, fun p o s => serviceOut_lost⟩
  · refine completes_svcConnect hs hz hr hf hSuite hAnchor hRecovery
      ⟨?_, fun j hj => ?_, heard_opened k, fld_refused_opened k, raised_ev_112 _⟩
    · rw [sess_opened, if_pos rfl, sessionOf]
    · rw [sess_opened, if_neg hj]
  · rw [svcIdleClose_of_silent ht]
    rfl
  · subst hn
    exact icmpEcho_answered hSec i h hCnt
  · subst hn
    exact completes_icmpEcho hSec i h hCnt
  · rw [serviceOut_of_vlan hv, netSend_of_gateOpen rfl hp hg hc]
    rfl
  · rw [serviceOut_of_vlan hv, netSend_of_gateShut rfl hp hg]

end Sys2Proof.Machine
end

section
/-! PROOF. Orders of the service port for maintenance and Dormant (R274, R303, R433, R435; MaintenanceAndDormant, O17). -/

namespace Sys2Proof.Machine

/-! ## The role -/

theorem fld_driveReady_apart (s : State) (b : Bool) (f : Field) (i : Nat) (h : Fld.BN_STATUS_READY.apart f = true) :
    (s.driveReady b).fld f i = s.fld f i := by
  rw [State.driveReady, fld_relay, fld_setFlag_apart _ _ _ _ _ _ (by decide) (.inl h)]

theorem role_setRole (s : State) {r : Nat} (h : r < 16) : (s.setRole r).role = r := by
  unfold State.setRole
  split
  case isTrue e => rwa [State.role, fld_relay]
  case isFalse =>
    have hFrame : Fr 0x10008500 0 ((s.roleLeft).setFld Fld.BN_STATUS_ROLE r)
        (((((s.roleLeft).setFld Fld.BN_STATUS_ROLE r).ev 81).takeRole r).runRole r).relay := by simp
    rw [State.role, fld_of_fr hFrame _ _ rfl, fld_setFld_same _ _ _ _ (by decide)]
    exact Nat.mod_eq_of_lt h

/-- Only the roles that run take the first role of a start-up. -/
theorem takeRole_of_idle (s : State) {r : Nat} (h : (r == 1 || r == 2 || r == 3) = false) : s.takeRole r = s :=
  if_pos (by rw [h, Bool.not_false, Bool.or_true])

theorem fr_setRole_idle (s : State) {r : Nat} (h : (r == 1 || r == 2 || r == 3) = false) :
    Fr 0x1000a120 0x100000000000000000000002 s (s.setRole r) := by
  rw [State.setRole, takeRole_of_idle _ h]
  simp

theorem role_joinAgain (s : State) : s.joinAgain.role = 0 := role_setRole (s.dropPends.driveReady false) (by decide)

/-- Joining again takes no first role: the start-up's own state stays. -/
theorem fr_joinAgain_idle (s : State) : Fr 0x100aa120 0x100000000000000000000002 s s.joinAgain := by
  have hRole : Fr 0x100aa120 0x100000000000000000000002 s ((s.dropPends.driveReady false).setRole 0) :=
    (Fr.iff (fr_setRole_idle _ rfl) rfl rfl).2 (by simp)
  exact (Fr.iff (p := 0x80000) (w := 0) (by simp [State.joinAgain]) rfl rfl).2 hRole

/-! ## Maintenance (R303) -/

theorem fld_bnResult (s : State) {c : Nat} (h : c < 256) : (s.bnResult c).fld Fld.BN_CMD_RESULT_CODE = c := by
  rw [State.bnResult, fld_setFld_same _ _ _ _ (by decide)]
  exact Nat.mod_eq_of_lt h

/-- Maintenance entered, by a module that may. -/
def State.maintEntered (s : State) : State :=
  let s := (((s.bnResult 0).driveReady false).setRole 5).bnNote 0xB00F [1]
  { s with bn := { s.bn with joining := false, committed := none, journal := [], sweep := 0, lag := 0 } }

/-- The code that BN_CMD 0x3 gives. -/
def State.maintEnterCode (s : State) : Nat :=
  if !s.pair then 1 else if s.taking then 9 else if s.role = 2 ∨ s.role = 3 ∨ s.role = 4 then 0 else 0x0A

/-- Either maintenance is entered, or its refusal alone is shown. -/
theorem maintEnter_eq (s : State) : s.maintEnter =
    (if s.maintEnterCode = 0 then s.maintEntered else s.bnResult s.maintEnterCode, s.maintEnterCode) := by
  unfold State.maintEnter State.maintEnterCode
  split
  · rfl
  · split
    · rfl
    · split <;> rfl

theorem maintEnter_code (s : State) : s.maintEnter.2 = s.maintEnterCode := congrArg Prod.snd (maintEnter_eq s)

theorem role_maintEntered (s : State) : s.maintEntered.role = 5 := by
  have hFrame : Fr 0x82020 0x2 (((s.bnResult 0).driveReady false).setRole 5) s.maintEntered := by simp [State.maintEntered]
  rw [State.role, fld_of_fr hFrame _ _ rfl]
  exact role_setRole _ (by decide)

theorem fld_maintEntered_code (s : State) : s.maintEntered.fld Fld.BN_CMD_RESULT_CODE = 0 := by
  have hFrame : Fr 0x1008a520 0x100000000000000000000002 (s.bnResult 0) s.maintEntered := by simp [State.maintEntered]
  rw [fld_of_fr hFrame _ _ rfl, fld_bnResult _ (by decide)]

/-- The state after maintenance is left. -/
def State.maintLeft (s : State) : State := ((s.bnResult 0).bnNote 0xB00F [0]).joinAgain

/-- The code that BN_CMD 0x4 gives. -/
def State.maintLeaveCode (s : State) : Nat := if !s.pair then 1 else if s.role = 5 then 0 else 0x0A

theorem maintLeave_eq (s : State) : s.maintLeave =
    (if s.maintLeaveCode = 0 then s.maintLeft else s.bnResult s.maintLeaveCode, s.maintLeaveCode) := by
  unfold State.maintLeave State.maintLeaveCode
  split
  · rfl
  · split <;> rfl

theorem maintLeave_code (s : State) : s.maintLeave.2 = s.maintLeaveCode := congrArg Prod.snd (maintLeave_eq s)

theorem fr_maintLeft (s : State) : Fr 0x100aa120 0x40100000000000000000000002 s s.maintLeft :=
  (Fr.iff (fr_joinAgain_idle _) rfl rfl).2 (by simp)

/-! ## Dormant and the reset that ends it (R426, R433, R435) -/

theorem flag_toDormant (s : State) : s.toDormant.flag Fld.RST_POWER_DORMANT = true := by
  have hFrame : Fr 0x1a100 0 (s.stopLaunch.setFlag Fld.RST_POWER_DORMANT true) s.toDormant := by simp [State.toDormant]
  rw [flag_of_fr hFrame _ _ rfl, flag_setFlag_same _ _ _ _ (by decide)]

theorem fld_cause (s : State) {code : Nat} (caldera : Bool) (n : Nat) (h : code < 16) :
    (s.cause code caldera n).fld Fld.RST_CAUSE_CAUSE = code := by
  show bits ((s.setReg .RST_CAUSE 0 _).reg .RST_CAUSE 0) 31 28 = code
  rw [reg_setReg_same, bits_putBits_apart _ _ _ _ _ _ (by decide) (.inl (by decide)), putBit,
    bits_putBits_apart _ _ _ _ _ _ (by decide) (.inl (by decide)), bits_putBits_same _ _ _ _ (by decide) (by decide)]
  exact Nat.mod_eq_of_lt h

/-- What the entry of a powered reset does once its cause is shown. -/
def State.underReset (s : State) (code : Nat) : State :=
  let s := s.setFlag Fld.RST_POWER_DORMANT false
  let s := if s.pw.calderaClaim then s.driveClaim true else s
  { s with pw := { s.pw with inReset := some code, resetOut := true, rstFrc := s.mt.frc } }.lkStop.showLife

theorem resetPowered_begins {s : State} (hp : s.powered = true) (hi : s.pw.inReset = none) (code : Nat) :
    s.resetPowered code = (((s.resetClaim).resetOutputs.flushKey.clearPowered.gyCount).cause code
      ((s.resetClaim).resetOutputs.pw.calderaClaim || s.pw.calderaClaim)
      (satAdd 255 (s.fld Fld.RST_CAUSE_POWERED) 1)).underReset code := by
  rw [State.resetPowered, hp, hi]
  rfl

/-- A powered reset that begins shows its code. -/
theorem fld_resetPowered_cause {s : State} {code : Nat} (hp : s.powered = true) (hi : s.pw.inReset = none) (h : code < 16) :
    (s.resetPowered code).fld Fld.RST_CAUSE_CAUSE = code := by
  have hFrame : ∀ u : State, Fr 0x88020 0x200000000000001000000220 u (u.underReset code) := fun u => by simp [State.underReset]
  rw [resetPowered_begins hp hi, fld_of_fr (hFrame _) _ _ rfl, fld_cause _ _ _ h]

/-- Software that serves runs outside a reset. -/
theorem inReset_of_serving {s : State} (hs : s.serving = true) : s.pw.inReset = none :=
  Option.isNone_iff_eq_none.1 (Bool.and_eq_true_iff.1 hs).2

/-- The answer given, the module has its power and stands in no reset, as before. -/
theorem cause_of_dormantLeave {s : State} (h : SvcMsg) (hs : s.serving = true) (hp : s.powered = true) :
    (((s.heard h.sess.val).answer h 0x62 0).resetPowered 6).fld Fld.RST_CAUSE_CAUSE = 6 := by
  have hAnswer := fr_answer_self (s.heard h.sess.val) h 0x62 0 []
  have hPw : ((s.heard h.sess.val).answer h 0x62 0).pw = s.pw := hAnswer.1 .pw rfl
  have hPowered : ((s.heard h.sess.val).answer h 0x62 0).powered = true := by
    rw [State.powered, flag_of_fr hAnswer _ _ rfl, flag_of_fr hAnswer _ _ rfl, hPw]
    exact hp
  exact fld_resetPowered_cause hPowered (by rw [hPw, inReset_of_serving hs]) (by decide)

/-! ## The orders -/

section
variable {h : SvcMsg} {s : State} (ho : (s.sess h.sess.val).open_ = true) (hs : s.serving = true)
include ho hs

section
variable (hr : s.svcRefusal h 0x62 2 0 none = none)
include hr

/-- What BN_CMD 0x3 makes of the module is answered with what it gave. -/
theorem svcMaintEnter_eq : exec (.svcMaintEnter h) s =
    .next ((s.heard h.sess.val).maintEnter.1.answer h 0x62 (if s.maintEnterCode = 0 then 0 else 5)) := by
  rw [exec_svcMaintEnter, execSvcMaintEnter, svc_of_taken ho hs hr, maintEnter_eq]
  rfl

theorem svcMaintEnter_done (hm : s.maintEnter.2 = 0) :
    exec (.svcMaintEnter h) s = .next ((s.heard h.sess.val).maintEnter.1.answer h 0x62 0) := by
  rw [svcMaintEnter_eq ho hs hr, if_pos (by rwa [← maintEnter_code])]

theorem completes_svcMaintEnter (hm : s.maintEnter.2 = 0) :
    Completes (.svcMaintEnter h) s [.out, .regs, .levels, .boot, .sn, .pw, .bn, .pn, .up]
      [.SUP_ISLAND, .BN_STATUS, .BN_CMD_RESULT, .PN_DROP] fun t => t.role = 5 ∧ t.fld Fld.BN_CMD_RESULT_CODE = 0 := by
  have hEntered : (s.heard h.sess.val).maintEnter.1 = (s.heard h.sess.val).maintEntered := by
    rw [maintEnter_eq]
    exact if_pos (by rwa [maintEnter_code] at hm)
  have hAnswer := fr_answer_self (s.heard h.sess.val).maintEntered h 0x62 0 []
  refine .of (fr_execSvcMaintEnter h s) rfl rfl ⟨_, svcMaintEnter_done ho hs hr hm, ?_⟩
  rw [hEntered]
  refine ⟨?_, ?_⟩
  · rw [State.role, fld_of_fr hAnswer _ _ rfl]
    exact role_maintEntered _
  · rw [fld_of_fr hAnswer _ _ rfl, fld_maintEntered_code]

theorem completes_svcMaintEnter_refused (hm : s.maintEnter.2 ≠ 0) :
    Completes (.svcMaintEnter h) s [.regs, .levels, .out, .pn] [.BN_CMD_RESULT] fun t =>
      Answers [] h.sess.val (svcOut h.sess.val h.msgId 0x8062 5 []) s t := by
  rw [maintEnter_code] at hm
  have hShown : (s.heard h.sess.val).maintEnter.1 = (s.heard h.sess.val).bnResult s.maintEnterCode := by
    rw [maintEnter_eq]
    exact if_neg hm
  have e := svcMaintEnter_eq ho hs hr
  rw [if_neg hm, hShown] at e
  have hResult : Fr 0x20 (rb .BN_CMD_RESULT) (s.heard h.sess.val) ((s.heard h.sess.val).bnResult s.maintEnterCode) := by simp
  refine .next e (P := 0x800022) (W := rb .BN_CMD_RESULT) ((Fr.iff (fr_answer_self ..) rfl rfl).2 (by simp)) rfl rfl ?_
  exact answers_answer h 0x62 5 [] hResult rfl rfl rfl rfl

section
variable (hd : s.flag Fld.RST_POWER_DORMANT = false)
include hd

theorem svcMaintLeave_done (hm : s.maintLeave.2 = 0) :
    exec (.svcMaintLeave h) s = .next ((s.heard h.sess.val).maintLeave.1.answer h 0x62 0) := by
  have hCode : (s.heard h.sess.val).maintLeave.2 = 0 := by
    rw [maintLeave_code] at hm ⊢
    exact hm
  have hAwake : (s.heard h.sess.val).flag Fld.RST_POWER_DORMANT = false := hd
  rw [exec_svcMaintLeave, execSvcMaintLeave, svc_of_taken ho hs hr, hAwake, if_neg Bool.false_ne_true]
  dsimp only
  rw [hCode]
  rfl

/-- Maintenance is left by joining from the start, and no first role is taken. -/
theorem svcMaintLeave_joins (hm : s.maintLeave.2 = 0) :
    ∃ t, exec (.svcMaintLeave h) s = .next t ∧ t.role = 0 ∧ Fr 0x108aa122 0x40100000000000000000000002 s t := by
  have hLeft : (s.heard h.sess.val).maintLeave.1 = (s.heard h.sess.val).maintLeft := by
    rw [maintLeave_eq]
    exact if_pos (by rwa [maintLeave_code] at hm)
  have hAnswer := fr_answer_self (s.heard h.sess.val).maintLeft h 0x62 0 []
  refine ⟨_, svcMaintLeave_done ho hs hr hd hm, ?_, ?_⟩
  · rw [hLeft, State.role, fld_of_fr hAnswer _ _ rfl]
    exact role_joinAgain _
  · rw [hLeft]
    exact (Fr.iff hAnswer rfl rfl).2 ((Fr.iff (fr_maintLeft _) rfl rfl).2 (by simp))

end

/-- In Dormant leaving is answered, and then the module resets. -/
theorem svcMaintLeave_dormant (hd : s.flag Fld.RST_POWER_DORMANT = true) :
    exec (.svcMaintLeave h) s = .next (((s.heard h.sess.val).answer h 0x62 0).resetPowered 6) := by
  have hAsleep : (s.heard h.sess.val).flag Fld.RST_POWER_DORMANT = true := hd
  rw [exec_svcMaintLeave, execSvcMaintLeave, svc_of_taken ho hs hr, hAsleep, if_pos rfl]
  rfl

end

theorem svcDormant_done (hr : s.svcRefusal h 0x62 2 1 none = none) (hd : s.mayDormant = true) :
    exec (.svcDormant h) s = .next (((s.heard h.sess.val).answer h 0x62 0).toDormant) := by
  have hMay : (s.heard h.sess.val).mayDormant = true := hd
  rw [exec_svcDormant, execSvcDormant, svc_of_taken ho hs hr, hMay]
  rfl

theorem completes_svcDormant (hr : s.svcRefusal h 0x62 2 1 none = none) (hd : s.mayDormant = true) :
    Completes (.svcDormant h) s [.out, .regs, .levels, .sn, .pw, .ln, .le, .pn]
      [.RST_POWER, .LN_STATUS, .LE_CTL, .LE_LOAD, .PN_DROP] fun t => t.flag Fld.RST_POWER_DORMANT = true :=
  .of (fr_execSvcDormant h s) rfl rfl ⟨_, svcDormant_done ho hs hr hd, flag_toDormant _⟩

theorem completes_svcDormant_refused (hr : s.svcRefusal h 0x62 2 1 none = none) (hd : s.mayDormant = false) :
    Completes (.svcDormant h) s [.out, .pn] [] fun t =>
      Answers [] h.sess.val (svcOut h.sess.val h.msgId 0x8062 5 []) s t := by
  have hNot : (s.heard h.sess.val).mayDormant = false := hd
  refine completes_of_answer (type := 0x62) ?_
  rw [exec_svcDormant, execSvcDormant, svc_of_taken ho hs hr, hNot]
  rfl

end

/-- Registers kept but for a few names are kept but for more. -/
theorem RegsKept.mono {vs ws : List RegName} {s t : State} (h : RegsKept vs s t) (hSub : vs ⊆ ws) : RegsKept ws s t :=
  fun n i hn => h n i fun hv => hn (hSub hv)

/-- Settles O17: maintenance entered or refused, maintenance left, the reset that leaving Dormant orders, and the order for
Dormant, carried out or refused. -/
theorem maintenanceAndDormant : Obligations.MaintenanceAndDormant := by
  refine ⟨fun h s ho hs hr hm => ⟨svcMaintEnter_done ho hs hr hm, completes_svcMaintEnter ho hs hr hm⟩,
    fun h s ho hs hr hm => completes_svcMaintEnter_refused ho hs hr hm,
    fun h s ho hs hr hd hm => ⟨svcMaintLeave_done ho hs hr hd hm, ?_⟩,
    fun h s ho hs hr hd hp => ⟨svcMaintLeave_dormant ho hs hr hd, cause_of_dormantLeave h hs hp⟩,
    fun h s ho hs hr hd => ⟨svcDormant_done ho hs hr hd, completes_svcDormant ho hs hr hd⟩,
    fun h s ho hs hr hd => completes_svcDormant_refused ho hs hr hd⟩
  obtain ⟨t, e, hRole, hFrame⟩ := svcMaintLeave_joins ho hs hr hd hm
  exact ⟨t, e, hRole, hFrame.touches rfl,
    (hFrame.regsKept (ws := [.SUP_ISLAND, .BN_STATUS, .BN_CMD_RESULT]) rfl).mono (by simp)⟩

end Sys2Proof.Machine
end

section
/-! PROOF. Frames that come to a plant port (R261, R262, R270, R271; of NetworkFrames, O18). -/

namespace Sys2Proof.Machine

/-- A command that advances one counter completes; of the counter's register name no other register moves. -/
theorem Completes.bump {c : Instr} {s : State} {f : Field} {i : Nat} (e : exec c s = .next (s.bump f i)) (hf : f.ok = true) :
    Completes c s [.regs] [f.reg] fun t => t.fld f i = satAdd f.top (s.fld f i) 1 ∧ InstKept f.reg i s t :=
  .setReg e ⟨fld_bump_same _ _ _ _ hf, instKept_setReg _ _ _ _⟩

theorem listGet_of_getElem? {α : Type} (d : α) {l : List α} {i : Nat} {x : α} (h : l[i]? = some x) : listGet d l i = x := by
  induction l generalizing i with
  | nil => simp at h
  | cons y l ih =>
    cases i with
    | zero => simpa [listGet] using h
    | succ i => exact ih (by simpa using h)

theorem raised_ev_113 (s : State) : Raised 113 (s.ev 113) := mem_ev _ _ rfl

/-! ## Policing (R270) -/

section
variable {s : State} {p : Nat} {ks : List Nat}

theorem bumpPoliced_counts (s : State) (ks : List Nat) (p : Nat) :
    (s.bumpPoliced ks p).fld Fld.PN_DROP_POLICED p = satAdd Fld.PN_DROP_POLICED.top (s.fld Fld.PN_DROP_POLICED p) 1 ∧
    InstKept .PN_DROP p s (s.bumpPoliced ks p) ∧ (s.bumpPoliced ks p).pn.inbox = s.pn.inbox ∧
    Raised 113 (s.bumpPoliced ks p) := by
  refine ⟨?_, fun j hj => ?_, ?_, raised_ev_113 _⟩
  · rw [State.bumpPoliced, fld_ev, fld_bump_same _ _ _ _ (by decide)]
    rfl
  · rw [State.bumpPoliced, reg_ev]
    exact instKept_setReg _ _ _ _ j hj
  · rw [State.bumpPoliced, ev_pn]
    rfl

/-- The arrivals of a stream at port `p` that still count against one that comes at `t`. -/
def State.recentArrivals (s : State) (k p cls : Nat) (t : Instant) : List Instant :=
  (Tab.get [] s.pn.arr (k * 4 + p)).filter fun a => Instant.before (t - BitVec.ofNat 64 (Config.period cls)) a

/-- An arrival that passed, noted. -/
def State.arrived (s : State) (k p cls : Nat) (t : Instant) : State :=
  { s with pn := { s.pn with arr := Tab.set [] s.pn.arr (k * 4 + p) (s.recentArrivals k p cls t ++ [t]) } }

theorem police_refused {k cls len declared : Nat} {t : Instant}
    (h : declared < len ∨ 2 ≤ (s.recentArrivals k p cls t).length) :
    s.police [k] p cls len declared t = (s.bumpPoliced [k] p, false) := if_pos h

theorem recentArrivals_of_none {k cls : Nat} {t : Instant} (hArr : Tab.get [] s.pn.arr (k * 4 + p) = []) :
    s.recentArrivals k p cls t = [] := by
  rw [State.recentArrivals, hArr]
  rfl

theorem police_passed {k cls len declared : Nat} {t : Instant} (hLen : len ≤ declared)
    (hArr : Tab.get [] s.pn.arr (k * 4 + p) = []) :
    s.police [k] p cls len declared t = (s.arrived k p cls t, true) := by
  refine if_neg fun h => ?_
  change declared < len ∨ 2 ≤ (s.recentArrivals k p cls t).length at h
  rw [recentArrivals_of_none hArr, List.length_nil] at h
  omega

theorem streamKey_zero (i : Nat) : streamKey 0 i = i := by rw [streamKey, Nat.zero_mul, Nat.zero_add]

end

/-- A frame of a transit stream with one member path goes on by the other port as any stream frame does. -/
theorem relayStream_of_single {s : State} {j k : Nat} {c : TransitCfg} (f : NetFrame) (r : Nat) (hBoth : c.both = false)
    (hMerge : c.merges.contains (otherPort k) = false) :
    s.relayStream k j c f r = s.netSend (otherPort k) { cls := 6, fwd := some f } := by
  rw [State.relayStream, hBoth, if_neg Bool.false_ne_true, hMerge, if_neg Bool.false_ne_true]

/-- Control frames of the second that have passed, with one more. -/
def State.controlCounted (s : State) (p : Nat) : State :=
  { s with pn := { s.pn with
    ctlSec := Tab.set 0 s.pn.ctlSec p (s.mt.frc.toNat / 1000000000)
    ctlCnt := Tab.set 0 s.pn.ctlCnt p (Tab.get 0 s.pn.ctlCnt p + 1) } }

theorem ctlCnt_controlCounted (s : State) (p : Nat) :
    Tab.get 0 (s.controlCounted p).pn.ctlCnt p = Tab.get 0 s.pn.ctlCnt p + 1 := by
  rw [State.controlCounted, Tab.get_set_same]

/-! ## A live port that forwards -/

/-- Port `p` takes frames: its tables are loaded, it has a link, and the network island lives. -/
structure State.Takes (s : State) (p : Nat) : Prop where
  fwd : s.flag Fld.PN_PORT_FWD p = true
  link : s.linkUp p = true
  alive : s.alive 4 = true

theorem frameIngress_shut {p : Fin 2} {s : State} (f : NetFrame)
    (h : s.flag Fld.PN_PORT_FWD (p.val + 1) = false ∨ s.linkUp (p.val + 1) = false ∨ s.alive 4 = false) :
    exec (.frameIngress p f) s = .next s := if_pos (by rcases h with h | h | h <;> simp [h])

theorem State.Takes.not_shut {s : State} {p : Nat} (h : s.Takes p) :
    ¬ (!s.flag Fld.PN_PORT_FWD p || !s.linkUp p || !s.alive 4) = true := by simp [h.fwd, h.link, h.alive]

section
variable {p : Fin 2} {s : State} (hTakes : s.Takes (p.val + 1))
include hTakes

theorem frameIngress_badFcs : exec (.frameIngress p .badFcs) s = .next (s.bump Fld.PN_DROP_FCS (p.val + 1)) :=
  if_neg hTakes.not_shut

theorem frameIngress_ptpManagement :
    exec (.frameIngress p .ptpManagement) s = .next (s.bump Fld.PN_PTP_MANAGEMENT (p.val + 1)) := if_neg hTakes.not_shut

theorem frameIngress_untracked {d : Nat} (hd : s.trackedDomain d = false) :
    exec (.frameIngress p (.gptp d)) s = .next (s.bump Fld.PN_PTP_UNKNOWN_DOMAIN (p.val + 1)) :=
  (if_neg hTakes.not_shut).trans (congrArg _ (if_neg (by simp [hd])))

theorem frameIngress_undeclared {v len : Nat} (hv : s.img.vlans = []) :
    exec (.frameIngress p (.tagged v len)) s = .next (s.bump Fld.PN_DROP_UNDECLARED (p.val + 1)) := by
  refine (if_neg hTakes.not_shut).trans ?_
  rw [hv]
  rfl

theorem frameIngress_tagged {v len : Nat} {c : VlanCfg} (hc : s.img.vlans.find? (fun x => x.vid == v) = some c)
    (hf : c.forward = true) : exec (.frameIngress p (.tagged v len)) s =
      .next (s.netSend (otherPort (p.val + 1)) { cls := c.pcp, fwd := some (.tagged v len) }) := by
  refine (if_neg hTakes.not_shut).trans ?_
  rw [hc]
  exact if_pos hf

theorem frameIngress_control {v len : Nat} {c : VlanCfg} (hc : s.img.vlans.find? (fun x => x.vid == v) = some c) :
    exec (.frameIngress p (.control v len)) s = .next (if (s.ingressControl (p.val + 1)).2 && c.forward then
      (s.ingressControl (p.val + 1)).1.netSend (otherPort (p.val + 1)) { cls := 7, fwd := some (.control v len) }
      else (s.ingressControl (p.val + 1)).1) := by
  refine (if_neg hTakes.not_shut).trans ?_
  dsimp only
  rw [hc]

theorem frameIngress_stream {b n v len : Nat} {q : BitVec 16} {h : BitVec 256} {rs : List W64} :
    exec (.frameIngress p (.stream b n v len q h rs)) s =
      .next (s.ingressStream (p.val + 1) (.stream b n v len q h rs) b n v len q.toNat) := if_neg hTakes.not_shut

/-! ## Tagged and control frames (R262, R271) -/

theorem completes_frameIngress_tagged {v len : Nat} {c : VlanCfg}
    (hc : s.img.vlans.find? (fun x => x.vid == v) = some c) (hf : c.forward = true) (h6 : c.pcp ≠ 6)
    (hOpen : s.portOpen (otherPort (p.val + 1)) = true) (hGate : s.gateOpen (otherPort (p.val + 1)) c.pcp = true) :
    Completes (.frameIngress p (.tagged v len)) s [.out] [] fun t =>
      Sends [.forwarded (otherPort (p.val + 1)) (.tagged v len)] s t := by
  have e := frameIngress_tagged (len := len) hTakes hc hf
  rw [netSend_of_gateOpen rfl hOpen hGate h6] at e
  exact .next e (P := 2) (W := 0) (by simp) rfl rfl rfl

section
variable {v len : Nat} {c : VlanCfg} (hc : s.img.vlans.find? (fun x => x.vid == v) = some c)
  (hSec : Tab.get 0 s.pn.ctlSec (p.val + 1) = s.mt.frc.toNat / 1000000000)
include hc hSec

theorem completes_frameIngress_control (hf : c.forward = true) (hOpen : s.portOpen (otherPort (p.val + 1)) = true)
    (hCnt : Tab.get 0 s.pn.ctlCnt (p.val + 1) < 200000) :
    Completes (.frameIngress p (.control v len)) s [.out, .pn] [] fun t =>
      Sends [.forwarded (otherPort (p.val + 1)) (.control v len)] s t ∧
      Tab.get 0 t.pn.ctlCnt (p.val + 1) = Tab.get 0 s.pn.ctlCnt (p.val + 1) + 1 := by
  have hPass : s.ingressControl (p.val + 1) = (s.controlCounted (p.val + 1), true) := by
    rw [State.ingressControl, if_pos hSec]
    exact if_neg (by omega)
  have e := frameIngress_control (len := len) hTakes hc
  rw [hPass, hf] at e
  have hOut : (s.controlCounted (p.val + 1)).netSend (otherPort (p.val + 1)) { cls := 7, fwd := some (.control v len) } =
      (s.controlCounted (p.val + 1)).emit (.forwarded (otherPort (p.val + 1)) (.control v len)) :=
    netSend_of_gateOpen rfl hOpen rfl (show 7 ≠ 6 by decide)
  exact .next (e.trans (congrArg _ hOut)) (P := 0x800002) (W := 0) (by simp [State.controlCounted]) rfl rfl
    ⟨rfl, by rw [emit_pn, ctlCnt_controlCounted]⟩

theorem completes_frameIngress_control_policed (hCnt : 200000 ≤ Tab.get 0 s.pn.ctlCnt (p.val + 1)) :
    Completes (.frameIngress p (.control v len)) s [.regs, .levels] [.PN_DROP] fun t =>
      t.fld Fld.PN_DROP_POLICED (p.val + 1) = satAdd Fld.PN_DROP_POLICED.top (s.fld Fld.PN_DROP_POLICED (p.val + 1)) 1 ∧
      InstKept .PN_DROP (p.val + 1) s t ∧ Raised 113 t := by
  have hStop : s.ingressControl (p.val + 1) = ((s.bump Fld.PN_DROP_POLICED (p.val + 1)).ev 113, false) := by
    rw [State.ingressControl, if_pos hSec]
    exact if_pos hCnt
  have e := frameIngress_control (len := len) hTakes hc
  rw [hStop] at e
  refine .next e (P := 0x120) (W := rb .PN_DROP) (by simp) rfl rfl ⟨?_, fun j hj => ?_, raised_ev_113 _⟩
  · exact (fld_ev ..).trans (fld_bump_same _ _ _ _ (by decide))
  · exact (reg_ev ..).trans (instKept_setReg _ _ _ _ j hj)

end

/-! ## Stream frames -/

section
variable {b n v len : Nat} {q : BitVec 16} {h : BitVec 256} {rs : List W64}

theorem completes_frameIngress_unlisted (hs : s.subIndex b n v = none) (ht : s.transitIndex b n v = none) :
    Completes (.frameIngress p (.stream b n v len q h rs)) s [.regs] [.PN_DROP] fun t =>
      t.fld Fld.PN_DROP_UNDECLARED (p.val + 1) =
        satAdd Fld.PN_DROP_UNDECLARED.top (s.fld Fld.PN_DROP_UNDECLARED (p.val + 1)) 1 ∧
      InstKept .PN_DROP (p.val + 1) s t := by
  refine .bump (f := Fld.PN_DROP_UNDECLARED) ?_ (by decide)
  rw [frameIngress_stream hTakes, State.ingressStream, hs, ht, State.undeclared]

/-- A frame of a subscription meets its policing, and what passes goes to the internal port. -/
theorem frameIngress_subscribed {i : Nat} {c : SubCfg} {r : State × Bool} (hs : s.subIndex b n v = some i)
    (ht : s.transitIndex b n v = none) (hc : listGet {} s.img.subs i = c)
    (hr : s.police [i] (p.val + 1) c.cls len c.len (s.portTime (p.val + 1)) = r) :
    exec (.frameIngress p (.stream b n v len q h rs)) s =
      .next (if r.2 then r.1.inboxPut i (p.val + 1) q.toNat else r.1) := by
  rw [frameIngress_stream hTakes, State.ingressStream, hs, ht]
  dsimp only
  rw [hc, streamKey_zero, hr]

theorem completes_frameIngress_policed {i : Nat} {c : SubCfg} (hs : s.subIndex b n v = some i)
    (ht : s.transitIndex b n v = none) (hc : listGet {} s.img.subs i = c)
    (hBar : c.len < len ∨ 2 ≤ (s.recentArrivals i (p.val + 1) c.cls (s.portTime (p.val + 1))).length) :
    Completes (.frameIngress p (.stream b n v len q h rs)) s [.regs, .levels, .pn] [.PN_DROP] fun t =>
      t.fld Fld.PN_DROP_POLICED (p.val + 1) = satAdd Fld.PN_DROP_POLICED.top (s.fld Fld.PN_DROP_POLICED (p.val + 1)) 1 ∧
      InstKept .PN_DROP (p.val + 1) s t ∧ t.pn.inbox = s.pn.inbox ∧ Raised 113 t :=
  .next (frameIngress_subscribed hTakes hs ht hc (police_refused hBar)) (P := 0x800120) (W := rb .PN_DROP) (by simp) rfl rfl
    (bumpPoliced_counts ..)

theorem completes_frameIngress_subscribed {i : Nat} {c : SubCfg} (hs : s.subIndex b n v = some i)
    (ht : s.transitIndex b n v = none) (hc : listGet {} s.img.subs i = c) (hLen : len ≤ c.len)
    (hArr : Tab.get [] s.pn.arr (i * 4 + (p.val + 1)) = []) (hRoom : s.pn.inbox.length < 64) :
    Completes (.frameIngress p (.stream b n v len q h rs)) s [.pn] [] fun t =>
      t.pn.inbox = s.pn.inbox ++ [(i, p.val + 1, q.toNat)] ∧
      Tab.get [] t.pn.arr (i * 4 + (p.val + 1)) = [s.portTime (p.val + 1)] := by
  refine .next (frameIngress_subscribed hTakes hs ht hc (police_passed hLen hArr)) (P := 0x800000) (W := 0)
    (by simp [State.arrived]) rfl rfl ⟨?_, ?_⟩
  · show (s.pn.inbox ++ _).drop (s.pn.inbox.length - 63) = _
    rw [Nat.sub_eq_zero_of_le (by omega), List.drop_zero]
  · exact (Tab.get_set_same ..).trans (by rw [recentArrivals_of_none hArr, List.nil_append])

theorem completes_frameIngress_transit {j : Nat} {c : TransitCfg} (hs : s.subIndex b n v = none)
    (ht : s.transitIndex b n v = some j) (hc : listGet {} s.img.transit j = c) (hLen : len ≤ c.len)
    (hArr : Tab.get [] s.pn.arr (streamKey 2 j * 4 + (p.val + 1)) = []) (hBoth : c.both = false)
    (hMerge : c.merges.contains (otherPort (p.val + 1)) = false) (hFree : s.StreamFree (otherPort (p.val + 1))) :
    Completes (.frameIngress p (.stream b n v len q h rs)) s [.out, .pn] [] fun t =>
      Sends [.forwarded (otherPort (p.val + 1)) (.stream b n v len q h rs)] s t ∧ t.pn.inbox = s.pn.inbox := by
  have hArrived : (s.arrived (streamKey 2 j) (p.val + 1) c.cls (s.portTime (p.val + 1))).StreamFree (otherPort (p.val + 1)) :=
    ⟨hFree.port, hFree.gate, hFree.fits⟩
  have e : exec (.frameIngress p (.stream b n v len q h rs)) s =
      .next ((s.arrived (streamKey 2 j) (p.val + 1) c.cls (s.portTime (p.val + 1))).streamOut (otherPort (p.val + 1))
        { cls := 6, fwd := some (.stream b n v len q h rs) }) := by
    rw [frameIngress_stream hTakes, State.ingressStream, hs, ht]
    dsimp only
    rw [hc, police_passed hLen hArr, if_pos rfl, relayStream_of_single _ _ hBoth hMerge, netSend_of_streamFree hArrived rfl]
  exact .next e (P := 0x800002) (W := 0) (by simp [State.arrived]) rfl rfl ⟨rfl, rfl⟩

end
end

end Sys2Proof.Machine
end

section
/-! PROOF. Gate events and link changes of a plant port (R260, R265, R266), and what arrives there (NetworkFrames, O18). -/

namespace Sys2Proof.Machine

/-! ## Gates (R265, R266) -/

theorem netOut_pn (s : State) (p : Nat) (f : NetWait) : (s.netOut p f).pn = s.pn := by
  unfold State.netOut
  split <;> exact emit_pn ..

/-- Trying a frame moves no gate. -/
theorem netTry_gates (s : State) (p : Nat) (f : NetWait) : (s.netTry p f).pn.gates = s.pn.gates := by
  unfold State.netTry
  split
  · rfl
  · split
    · rw [netOut_pn]
    · split
      · rw [State.streamOut, netOut_pn]
      · rfl

theorem gateOpen_of_gates {s t : State} (h : t.pn.gates = s.pn.gates) (p c : Nat) : t.gateOpen p c = s.gateOpen p c := by
  rw [State.gateOpen, h, State.gateOpen]

/-- What waits at port `p` waits for another gate, or is a stream frame that waits for its window. -/
def State.WaitsRightly (s : State) (p : Nat) : Prop :=
  ∀ f ∈ Tab.get [] s.pn.wait p, s.gateOpen p f.cls = false ∨ f.cls = 6

theorem State.WaitsRightly.of_pn {s t : State} {p : Nat} (h : s.WaitsRightly p) (hWait : t.pn.wait = s.pn.wait)
    (hGates : t.pn.gates = s.pn.gates) : t.WaitsRightly p := by
  intro f hf
  rw [gateOpen_of_gates hGates]
  exact h f (by rwa [hWait] at hf)

theorem State.WaitsRightly.netWait {s : State} {p : Nat} (h : s.WaitsRightly p) {f : NetWait}
    (hf : s.gateOpen p f.cls = false ∨ f.cls = 6) : (s.netWait p f).WaitsRightly p := by
  intro g hg
  change s.gateOpen p g.cls = false ∨ g.cls = 6
  rw [State.netWait, Tab.get_set_same, List.mem_append, List.mem_singleton] at hg
  rcases hg with hg | rfl
  · exact h g hg
  · exact hf

theorem State.WaitsRightly.netTry {s : State} {p : Nat} (h : s.WaitsRightly p) (f : NetWait) :
    (s.netTry p f).WaitsRightly p := by
  unfold State.netTry
  split
  case isTrue hShut => exact h.netWait (.inl (by simpa using hShut))
  case isFalse =>
    split
    · exact h.of_pn (by rw [netOut_pn]) (by rw [netOut_pn])
    · next h6 =>
      split
      · exact h.of_pn (by rw [State.streamOut, netOut_pn]) (by rw [State.streamOut, netOut_pn])
      · exact h.netWait (.inr (by simpa using h6))

/-- The frames that wait tried in their order: the gates stay, and what waits then waits rightly. -/
theorem foldl_netTry (p : Nat) (fs : List NetWait) {s : State} (h : s.WaitsRightly p) :
    (fs.foldl (fun s f => s.netTry p f) s).pn.gates = s.pn.gates ∧ (fs.foldl (fun s f => s.netTry p f) s).WaitsRightly p := by
  induction fs generalizing s with
  | nil => exact ⟨rfl, h⟩
  | cons f fs ih =>
    obtain ⟨hGates, hWaits⟩ := ih (h.netTry f)
    exact ⟨hGates.trans (netTry_gates s p f), hWaits⟩

/-- The gates of port `p` set, what waited there taken out. -/
def State.gatesPut (s : State) (p : Nat) (g : BitVec 8) : State :=
  { s with pn := { s.pn with gates := Tab.set (0x1F : BitVec 8) s.pn.gates p g, wait := Tab.set [] s.pn.wait p [] } }

/-- The frames that an event tries again, and the number of those whose window has closed. -/
theorem setGates_eq (s : State) (p : Nat) (g : BitVec 8) : ∃ (fs : List NetWait) (dead : Nat),
    s.setGates p g = fs.foldl (fun s f => s.netTry p f) ((s.gatesPut p g).bump Fld.PN_DROP_WINDOW p dead) :=
  ⟨_, _, rfl⟩

theorem setGates_gates (s : State) (p : Nat) (g : BitVec 8) :
    Tab.get (0x1F : BitVec 8) (s.setGates p g).pn.gates p = g ∧ (s.setGates p g).WaitsRightly p := by
  obtain ⟨fs, dead, e⟩ := setGates_eq s p g
  have hEmpty : ((s.gatesPut p g).bump Fld.PN_DROP_WINDOW p dead).WaitsRightly p := by
    intro f hf
    rw [bump_pn, State.gatesPut, Tab.get_set_same] at hf
    cases hf
  obtain ⟨hGates, hWaits⟩ := foldl_netTry p fs hEmpty
  refine ⟨?_, e ▸ hWaits⟩
  rw [e, hGates, bump_pn, State.gatesPut, Tab.get_set_same]

section
variable {p : Fin 2} {i : Nat} {e : GateEntry} {s : State}

theorem completes_gateEvent (he : (s.gatesOf (p.val + 1))[i]? = some e) (hOn : s.flag Fld.PN_PORT_GATES (p.val + 1) = true)
    (hNow : gateNow (s.gatesOf (p.val + 1)) e (cyclePlace (s.portTime (p.val + 1))) = true) :
    Completes (.gateEvent p i) s [.regs, .pn, .out] [.PN_DROP] fun t =>
      Tab.get 0x1F#8 t.pn.gates (p.val + 1) = e.gates ∧
      (∀ c, c < 8 → t.gateOpen (p.val + 1) c = (c == 5 || c == 7 || bitAt e.gates c)) ∧
      (Tab.get [] t.pn.wait (p.val + 1)).all (fun f => !t.gateOpen (p.val + 1) f.cls || f.cls == 6) = true := by
  have hNext : exec (.gateEvent p i) s = .next (s.setGates (p.val + 1) e.gates) := by
    rw [exec_gateEvent, execGateEvent, he]
    exact if_pos (by rw [hOn, hNow, Bool.and_self])
  obtain ⟨hGates, hWaits⟩ := setGates_gates s (p.val + 1) e.gates
  refine .of (fr_execGateEvent p i s) rfl rfl ⟨_, hNext, hGates, fun c _ => ?_, List.all_eq_true.2 fun f hf => ?_⟩
  · rw [State.gateOpen, hGates]
  · rcases hWaits f hf with h | h <;> simp [h]

theorem gateEvent_off (h : (s.gatesOf (p.val + 1))[i]? = none ∨ s.flag Fld.PN_PORT_GATES (p.val + 1) = false) :
    exec (.gateEvent p i) s = .next s := by
  rw [exec_gateEvent, execGateEvent]
  split
  · next e he => exact if_neg (by simp [h.resolve_left (by simp [he])])
  · rfl

theorem gateEvent_not_now (he : (s.gatesOf (p.val + 1))[i]? = some e)
    (hNow : gateNow (s.gatesOf (p.val + 1)) e (cyclePlace (s.portTime (p.val + 1))) = false) :
    exec (.gateEvent p i) s = .next s := by
  rw [exec_gateEvent, execGateEvent, he]
  exact if_neg (by simp [hNow])

end

/-! ## Links (R260) -/

/-- The link of port `p` shown up or down, with the port's source. -/
def State.linkShown (s : State) (p : Nat) (up : Bool) : State := (s.setFlag Fld.PN_PORT_LINK up p).ev (109 + p)

theorem linkUp_linkShown (s : State) (p : Nat) (up : Bool) : (s.linkShown p up).linkUp p = up := by
  rw [State.linkUp, State.linkShown, flag_ev, flag_setFlag_same _ _ _ _ (by decide)]

theorem instKept_linkShown (s : State) (p : Nat) (up : Bool) : InstKept .PN_PORT p s (s.linkShown p up) := fun j hj => by
  rw [State.linkShown, reg_ev]
  exact instKept_setReg _ _ _ _ j hj

theorem raised_linkShown (s : State) (p : Fin 2) (up : Bool) : Raised (110 + p.val) (s.linkShown (p.val + 1) up) := by
  rw [show 110 + p.val = 109 + (p.val + 1) by omega]
  refine mem_ev _ _ ?_
  obtain rfl | rfl : p = 0 ∨ p = 1 := by omega
  · rfl
  · rfl

theorem completes_portLinkChange_up {p : Fin 2} {s : State} (h : s.linkUp (p.val + 1) = false) :
    Completes (.portLinkChange p true) s [.regs, .levels] [.PN_PORT] fun t =>
      t.linkUp (p.val + 1) = true ∧ Raised (110 + p.val) t ∧ InstKept .PN_PORT (p.val + 1) s t := by
  have e : exec (.portLinkChange p true) s = .next (s.linkShown (p.val + 1) true) := if_neg (by simp [h])
  exact .next e (P := 0x120) (W := rb .PN_PORT) (by simp [State.linkShown]) rfl rfl
    ⟨linkUp_linkShown .., raised_linkShown .., instKept_linkShown _ _ _⟩

/-- Base `n` hears nothing any more where it heard through port `p`. -/
def State.unhear (p : Nat) (s : State) (n : Nat) : State := if s.fld Fld.MT_TB_CFG_PORT n == p then s.baseLost n else s

/-- Base `k` is not synchronized and has no receiving port. -/
def State.Deaf (k : Nat) (s : State) : Prop := s.flag Fld.MT_TB_CFG_SYNCED k = false ∧ s.fld Fld.MT_TB_CFG_PORT k = 0

theorem deaf_baseLost (s : State) (k : Nat) : (s.baseLost k).Deaf k := ⟨flag_baseLost_synced s k, fld_baseLost_port s k⟩

theorem fld_unhear_ne (p : Nat) (s : State) {n k : Nat} (h : k ≠ n) (f : Field) (hf : f.reg = .MT_TB_CFG) :
    (s.unhear p n).fld f k = s.fld f k := by
  unfold State.unhear
  split
  · rw [State.fld, hf, instKept_baseLost s n k h, State.fld, hf]
  · rfl

theorem deaf_unhear {p k : Nat} {s : State} (n : Nat) (h : s.Deaf k) : (s.unhear p n).Deaf k := by
  by_cases hn : k = n
  · subst hn
    unfold State.unhear
    split
    · exact deaf_baseLost s k
    · exact h
  · exact ⟨(flag_of_fld (fld_unhear_ne p s hn _ rfl)).trans h.1, (fld_unhear_ne p s hn _ rfl).trans h.2⟩

/-- A base that hears through the port, or is deaf already, is deaf after its turn. -/
theorem deaf_unhear_self {p k : Nat} {s : State} (h : s.fld Fld.MT_TB_CFG_PORT k = p ∨ s.Deaf k) : (s.unhear p k).Deaf k := by
  rcases h with h | h
  · rw [State.unhear, if_pos (beq_iff_eq.2 h)]
    exact deaf_baseLost s k
  · exact deaf_unhear k h

theorem hears_or_deaf_unhear {p k : Nat} {s : State} (n : Nat) (h : s.fld Fld.MT_TB_CFG_PORT k = p ∨ s.Deaf k) :
    (s.unhear p n).fld Fld.MT_TB_CFG_PORT k = p ∨ (s.unhear p n).Deaf k := by
  by_cases hn : k = n
  · subst hn
    exact .inr (deaf_unhear_self h)
  · exact h.imp (fld_unhear_ne p s hn _ rfl).trans (deaf_unhear n)

theorem deaf_portLost {s : State} {p k : Nat} (hk : k < 8) (h : s.fld Fld.MT_TB_CFG_PORT k = p) : (s.portLost p).Deaf k :=
  foldl_of_mem (g := State.unhear p) (I := fun t => t.fld Fld.MT_TB_CFG_PORT k = p ∨ t.Deaf k) (P := State.Deaf k)
    (fun _ n => hears_or_deaf_unhear n) (fun _ n _ => deaf_unhear n) (fun _ => deaf_unhear_self) (.inl h)
    (List.mem_range.2 hk)

/-- What a lost link leaves: nothing waits at the port. -/
def State.unlinked (s : State) (p : Nat) : State :=
  let s := ((s.linkShown p false).setFlag Fld.PN_PORT_PDELAY_OK false p).portLost p
  { s with pn := { s.pn with wait := Tab.set [] s.pn.wait p [] } }

theorem wait_unlinked (s : State) (p : Nat) : Tab.get [] (s.unlinked p).pn.wait p = [] := by
  rw [State.unlinked, Tab.get_set_same]

theorem completes_portLinkChange_down {p : Fin 2} {s : State} (h : s.linkUp (p.val + 1) = true) :
    Completes (.portLinkChange p false) s [.regs, .levels, .mt, .pn] [.PN_PORT, .MT_TB_CFG] fun t =>
      t.linkUp (p.val + 1) = false ∧ t.flag Fld.PN_PORT_PDELAY_OK (p.val + 1) = false ∧
      Tab.get [] t.pn.wait (p.val + 1) = [] ∧ Raised (110 + p.val) t ∧ InstKept .PN_PORT (p.val + 1) s t ∧
      ∀ k, k < 8 → s.fld Fld.MT_TB_CFG_PORT k = p.val + 1 →
        t.flag Fld.MT_TB_CFG_SYNCED k = false ∧ t.fld Fld.MT_TB_CFG_PORT k = 0 := by
  have e : exec (.portLinkChange p false) s = .next (s.unlinked (p.val + 1)) := if_neg (by simp [h])
  have hShown : Fr 0x20 (rb .PN_PORT) (s.linkShown (p.val + 1) false)
      ((s.linkShown (p.val + 1) false).setFlag Fld.PN_PORT_PDELAY_OK false (p.val + 1)) := by simp
  have hLost : Fr 0x804020 (rb .MT_TB_CFG) ((s.linkShown (p.val + 1) false).setFlag Fld.PN_PORT_PDELAY_OK false (p.val + 1))
      (s.unlinked (p.val + 1)) := by simp [State.unlinked]
  refine .of (fr_execPortLinkChange p false s) rfl rfl ⟨_, e, ?_, ?_, wait_unlinked .., ?_, fun j hj => ?_, fun k hk hp => ?_⟩
  · rw [State.linkUp, flag_of_fr hLost _ _ rfl, flag_setFlag_apart _ _ _ _ _ _ (by decide) (.inl (by decide))]
    exact linkUp_linkShown ..
  · rw [flag_of_fr hLost _ _ rfl, flag_setFlag_same _ _ _ _ (by decide)]
  · rw [Raised, hLost.1 .levels rfl, hShown.1 .levels rfl]
    exact raised_linkShown ..
  · rw [hLost.2 .PN_PORT j rfl]
    exact ((instKept_linkShown _ _ _).trans (instKept_setReg _ _ _ _)) j hj
  · refine deaf_portLost hk ?_
    rw [fld_setFlag_apart _ _ _ _ _ _ (by decide) (.inl (by decide)), State.linkShown, fld_ev,
      fld_setFlag_apart _ _ _ _ _ _ (by decide) (.inl (by decide)), hp]

/-- Settles O18: frames by their kind, gate events and link changes, in the order of the obligation. -/
theorem networkFrames : Obligations.NetworkFrames := by
  refine ⟨fun p s hF hL hA => .bump (f := Fld.PN_DROP_FCS) (frameIngress_badFcs ⟨hF, hL, hA⟩) (by decide),
    fun p s hF hL hA => .bump (f := Fld.PN_PTP_MANAGEMENT) (frameIngress_ptpManagement ⟨hF, hL, hA⟩) (by decide),
    fun p d s hF hL hA hd => .bump (f := Fld.PN_PTP_UNKNOWN_DOMAIN) (frameIngress_untracked ⟨hF, hL, hA⟩ hd) (by decide),
    fun p v len s hF hL hA hv => .bump (f := Fld.PN_DROP_UNDECLARED) (frameIngress_undeclared ⟨hF, hL, hA⟩ hv) (by decide),
    fun p v len c s hF hL hA hc hf h6 hOpen hGate => completes_frameIngress_tagged ⟨hF, hL, hA⟩ hc hf h6 hOpen hGate,
    fun p b n v len q h rs s hF hL hA hs ht => completes_frameIngress_unlisted ⟨hF, hL, hA⟩ hs ht,
    fun p b n v len i q h rs s hF hL hA hs ht hLen => completes_frameIngress_policed ⟨hF, hL, hA⟩ hs ht rfl (.inl hLen),
    fun p b n v len i q h rs c s hF hL hA hs ht hc hTwo =>
      completes_frameIngress_policed ⟨hF, hL, hA⟩ hs ht (listGet_of_getElem? _ hc) (.inr hTwo),
    fun p b n v len i q h rs c s hF hL hA hs ht hc hLen hArr hRoom =>
      completes_frameIngress_subscribed ⟨hF, hL, hA⟩ hs ht (listGet_of_getElem? _ hc) hLen hArr hRoom,
    fun p b n v len j q h rs c s hF hL hA hs ht hc hLen hArr hBoth hMerge hOpen hGate hFits =>
      completes_frameIngress_transit ⟨hF, hL, hA⟩ hs ht (listGet_of_getElem? _ hc) hLen hArr hBoth hMerge
        ⟨hOpen, hGate, hFits⟩,
    fun p v len c s hF hL hA hc hf hOpen hSec hCnt => completes_frameIngress_control ⟨hF, hL, hA⟩ hc hSec hf hOpen hCnt,
    fun p v len c s hF hL hA hc hSec hCnt => completes_frameIngress_control_policed ⟨hF, hL, hA⟩ hc hSec hCnt,
    fun p f s => frameIngress_shut f, fun p i e s => completes_gateEvent, fun p i s => gateEvent_off,
    fun p i e s => gateEvent_not_now, fun p s => completes_portLinkChange_up, fun p s => completes_portLinkChange_down⟩

end Sys2Proof.Machine
end
